-- ==== Sys2Proof/Word.lean ====
section
/-! DEFINITION. The word types, little-endian fields (R8, R9) and indexed banks: the plain data every other file is
written in. -/

namespace Sys2Proof

/-- One byte of a payload, a ring slot or a placement. -/
abbrev Byte := BitVec 8

/-- A 16-bit register or free-running ring pointer (R164). -/
abbrev U16 := BitVec 16

/-- A 32-bit register, TAG or event counter (R20, R151). -/
abbrev U32 := BitVec 32

/-- A 64-bit register (R159). -/
abbrev U64 := BitVec 64

/-- `le n x`: the field of `n` bytes that holds `x`, little-endian (R8), the bits above `8 * n` dropped. -/
def le : Nat → Nat → List Byte
  | 0, _ => []
  | n + 1, x => BitVec.ofNat 8 x :: le n (x / 256)

/-- `leInt n x`: the two's complement field of `n` bytes that holds `x` (R9). -/
def leInt (n : Nat) (x : Int) : List Byte := le n (x % (2 : Int) ^ (8 * n)).toNat

/-- The number a run of bytes spells, little-endian (R8). -/
def leNat : List Byte → Nat
  | [] => 0
  | b :: bs => b.toNat + 256 * leNat bs

/-- The unsigned field of `size` bytes at payload offset `off` (R8). -/
def field (p : List Byte) (off size : Nat) : Nat := leNat ((p.drop off).take size)

/-- Two's complement reading of `x` as a field of `size` bytes (R9). -/
def signed (size x : Nat) : Int := if x < 2 ^ (8 * size - 1) then (x : Int) else (x : Int) - 2 ^ (8 * size)

/-- The signed field of `size` bytes at payload offset `off` (R9). -/
def fieldInt (p : List Byte) (off size : Nat) : Int := signed size (field p off size)

/-- Bit `i` of a number (R8: bit 0 is the least significant bit). -/
def bit (x i : Nat) : Bool := x.testBit i

/-- A flag as a number. -/
def flag (b : Bool) : Nat := if b then 1 else 0

/-- The number whose bit `i` is the `i`-th flag. -/
def bitsOf : List Bool → Nat
  | [] => 0
  | b :: bs => flag b + 2 * bitsOf bs

/-- `x` held to `lo`–`hi` (saturation). -/
def clampInt (lo hi x : Int) : Int := if x < lo then lo else if hi < x then hi else x

/-- `x` held to at most `hi` (a saturating field). -/
def satNat (hi x : Nat) : Nat := if hi < x then hi else x

/-- `x` lies in `lo`–`hi`, both ends included (R5). -/
def inRange (x lo hi : Nat) : Bool := lo ≤ x && x ≤ hi

/-- A sparse array: (index, record) pairs with indices strictly rising. What an unlisted index holds is said where the
bank is read: the record every index holds at reset. -/
structure Bank (α : Type) where
  entries : List (Nat × α) := []
  deriving DecidableEq, Repr

namespace Bank

variable {α : Type}

/-- The bank that lists nothing. -/
def empty : Bank α := ⟨[]⟩

/-- The record the pairs list at index `k`. -/
def findIn (k : Nat) : List (Nat × α) → Option α
  | [] => none
  | (i, a) :: b => if i = k then some a else findIn k b

/-- The record listed at index `k`. -/
def find (b : Bank α) (k : Nat) : Option α := findIn k b.entries

/-- The record at index `k`, `d` where none is listed. -/
def rd (b : Bank α) (k : Nat) (d : α) : α := (b.find k).getD d

/-- Insert at index `k`, keeping the indices strictly rising. -/
def putIn (k : Nat) (a : α) : List (Nat × α) → List (Nat × α)
  | [] => [(k, a)]
  | (i, x) :: b =>
    if k < i then (k, a) :: (i, x) :: b
    else if i = k then (k, a) :: b
    else (i, x) :: putIn k a b

/-- Write the record at index `k`. -/
def put (b : Bank α) (k : Nat) (a : α) : Bank α := ⟨putIn k a b.entries⟩

/-- Take index `k` out. -/
def erase (b : Bank α) (k : Nat) : Bank α := ⟨b.entries.filter fun e => e.1 ≠ k⟩

/-- Change the record at index `k`, `d` where none is listed. -/
def upd (b : Bank α) (k : Nat) (d : α) (f : α → α) : Bank α := b.put k (f (b.rd k d))

/-- Change every listed record. -/
def mapAll (b : Bank α) (f : Nat → α → α) : Bank α := ⟨b.entries.map fun e => (e.1, f e.1 e.2)⟩

/-- The listed records that meet `p`. -/
def keep (b : Bank α) (p : Nat → α → Bool) : Bank α := ⟨b.entries.filter fun e => p e.1 e.2⟩

/-- The listed indices. -/
def keys (b : Bank α) : List Nat := b.entries.map Prod.fst

/-- The indices of the pairs strictly rise. -/
def rising : List (Nat × α) → Bool
  | [] => true
  | [_] => true
  | (i, _) :: (j, y) :: b => decide (i < j) && rising ((j, y) :: b)

/-- The bank's canonical form. -/
def wf (b : Bank α) : Bool := rising b.entries

end Bank

/-- The first element that meets `p`, with the list it stood in less that element. -/
def takeFirst {α : Type} (p : α → Bool) : List α → Option (α × List α)
  | [] => none
  | a :: as =>
    if p a then some (a, as)
    else match takeFirst p as with
      | some (b, bs) => some (b, a :: bs)
      | none => none

/-- Change every element that meets `p`. -/
def mapIf {α : Type} (p : α → Bool) (f : α → α) (l : List α) : List α := l.map fun a => if p a then f a else a

end Sys2Proof
end

