-- ==== Sys2Proof/Syntax/Operands.lean ====
section
/-! DEFINITION. What the commands carry: a dispatched request, a ring slot as read, and the time at which a command
falls. -/

namespace Sys2Proof

/-- A request that the hub has fetched and dispatched to its unit (R167, R174): the channel and header fields that the
reply and the completion need, the payload of `LEN` bytes, and the module time at which the unit executes it. -/
structure Request where
  /-- module time at which the unit executes the request (R14) -/
  time : Nat
  /-- sending channel, 0–63 -/
  ch : Nat
  /-- TAG of the header (R172) -/
  tag : U32
  /-- FLAGS bit 0 REPLY_WANTED -/
  wanted : Bool
  /-- FLAGS bit 1 JOURNAL -/
  journal : Bool
  /-- FLAGS bit 2 URGENT -/
  urgent : Bool
  /-- payload bytes 0 to LEN − 1 -/
  payload : List Byte
  deriving DecidableEq, Repr

/-- The unsigned field of `size` bytes at payload offset `off`. -/
def Request.u (r : Request) (off size : Nat) : Nat := field r.payload off size

/-- The signed field of `size` bytes at payload offset `off`. -/
def Request.i (r : Request) (off size : Nat) : Int := fieldInt r.payload off size

/-- The bytes of the payload field at `off`. -/
def Request.bytes (r : Request) (off size : Nat) : List Byte := (r.payload.drop off).take size

/-- Every byte of the reserved field at `off` is 0 (R12). -/
def Request.zero (r : Request) (off size : Nat) : Bool := (r.bytes off size).all (· == 0)

/-- LEN of the request. -/
def Request.len (r : Request) : Nat := r.payload.length

/-- A request slot as the hub reads it, or a message as it arrives on a tunnel or cascade stream (R172, R189). The
payload holds the bytes that follow the header, at least LEN of them where LEN is at most 4,080. -/
structure Slot where
  /-- LEN -/
  len : U16
  /-- FAMILY -/
  family : Byte
  /-- OP -/
  op : Byte
  /-- FLAGS -/
  flags : U16
  /-- STATUS -/
  status : U16
  /-- TAG -/
  tag : U32
  /-- CHECK -/
  check : U32
  /-- the bytes from slot offset 16 -/
  payload : List Byte
  deriving DecidableEq, Repr

/-- Path a channel is bound to (R153). -/
inductive Path where
  | unbound
  | app
  | pcie
  | tunnel
  | cascade
  | compat
  | recovery
  deriving DecidableEq, Repr

/-- Path codes (R153). -/
def Path.code : Path → Nat
  | .unbound => 0
  | .app => 1
  | .pcie => 2
  | .tunnel => 3
  | .cascade => 4
  | .compat => 5
  | .recovery => 6

/-- The path a code of CHANNEL_BIND names (R200: 0x0–0x4). -/
def Path.ofCode : Nat → Option Path
  | 0 => some .unbound
  | 1 => some .app
  | 2 => some .pcie
  | 3 => some .tunnel
  | 4 => some .cascade
  | _ => none

/-- Which of the two supply groups or battery studs is meant (R48). -/
inductive Grp where
  | a
  | b
  deriving DecidableEq, Repr

/-- GROUP field: 0x00 A, 0x01 B (R221). -/
def Grp.code : Grp → Nat
  | .a => 0
  | .b => 1

/-- What a switch channel's sense reads over one 50 µs tick (R415, R429). -/
structure SwSample where
  /-- mean current, µA -/
  mean : Nat
  /-- mean of the squared current, µA² -/
  square : Nat
  /-- the junction is at or below 150 °C (R438) -/
  cool : Bool
  deriving DecidableEq, Repr

/-- What a supply group measures at a tick (R440, R450). -/
structure GroupSample where
  /-- bus voltage, mV -/
  vBus : Nat
  /-- load ground against GND_A or GND_B, mV -/
  vGsns : Int
  /-- stud current: mean of the last 1 ms, mA -/
  stud1 : Nat
  /-- stud current: mean of the last 100 ms, mA -/
  stud100 : Nat
  /-- stud current: peak of the last 1 s, mA -/
  peak : Nat
  deriving DecidableEq, Repr

/-- A message of a stream (R279): LENGTH is the length of the body. -/
structure Msg where
  /-- TIME, module time stamped by the producer -/
  time : Nat
  /-- MARKS bits 31:16 -/
  marks : Nat
  body : List Byte
  deriving DecidableEq, Repr

/-- An access to a placement by a core through a view or by a unit, within one window of R244: a read where it carries no
bytes, a write of them otherwise. -/
structure Access where
  handle : Nat
  offset : Nat
  data : List Byte
  deriving DecidableEq, Repr

/-- A flit as it arrives over the external link (R282, R304). -/
structure LinkFlit where
  /-- bits 11:0 of STREAM -/
  stream : Nat
  /-- bits 15:12 of STREAM -/
  kind : Nat
  valid : Nat
  flags : Nat
  msgSeq : U32
  idx : Nat
  linkSeq : Nat
  check : U32
  /-- the 240 payload bytes -/
  payload : List Byte
  deriving DecidableEq, Repr

/-- A satellite signal as the baseband can see it when channels are reallocated (R484). -/
structure SatView where
  /-- SIGNAL code (R483) -/
  signal : Nat
  /-- PRN or GLONASS slot -/
  sv : Nat
  /-- elevation, degrees -/
  elev : Int
  /-- GLONASS frequency number -/
  gloK : Int
  deriving DecidableEq, Repr

/-- Correlator amplitudes of a channel averaged over 100 ms (R488). -/
structure Correlators where
  ch : Nat
  ve : Nat
  vl : Nat
  p : Nat
  deriving DecidableEq, Repr

/-- What a channel in TRACK measures at an epoch (R496). -/
structure Measure where
  ch : Nat
  /-- 0.01 dB-Hz -/
  cn0 : Nat
  lockMs : Nat
  /-- 0.1 mm -/
  range : Nat
  /-- 1/1,024 cycle -/
  phase : Int
  /-- mHz -/
  doppler : Int
  /-- code lock, carrier lock, half-cycle resolved, bit sync: FLAGS bits 0–3 -/
  locks : Nat
  /-- a cycle slip since the last epoch -/
  slip : Bool
  deriving DecidableEq, Repr

/-- One 10 ms spectrum of a band (R491–R493). -/
structure Spectrum where
  /-- shortfall of AGC gain, dB -/
  jn : Nat
  /-- bins and their level above the median, 0.1 dB -/
  bins : List (Nat × Int)
  /-- blanked samples over the last 1 s, ‰ -/
  blankPm : Nat
  /-- runs blanked since the last spectrum -/
  runs : Nat
  deriving DecidableEq, Repr

/-- Navigation data decoded from a broadcast (R498, R499). -/
inductive NavData where
  /-- ephemeris of a system (SIGNAL high nibble) and satellite, with its reference time -/
  | ephemeris (system : Nat) (sv : Nat) (ref : Nat)
  /-- almanac, GLONASS or of the other systems -/
  | almanac (glonass : Bool)
  /-- UTC and ionosphere parameters, with GPS − UTC in s -/
  | utc (leap : Nat)
  deriving DecidableEq, Repr

/-- What the position engines compute from the measurements at one instant (R519–R524). -/
structure SolutionIn where
  /-- 10^−9 degree -/
  lat : Int
  /-- 10^−9 degree -/
  lon : Int
  /-- mm -/
  height : Int
  velN : Int
  velE : Int
  velU : Int
  /-- velocity along HEADING, mm/s -/
  speed : Int
  /-- 0.01° -/
  heading : Nat
  /-- course over ground, 0.01° -/
  course : Nat
  pitch : Int
  roll : Int
  yawRate : Int
  hAcc : Nat
  vAcc : Nat
  hdgAcc : Nat
  /-- solved baseline length, mm; 0 for none -/
  baseline : Nat
  /-- the fix the measurements allow (R515) -/
  fix : Nat
  sats : Nat
  deriving DecidableEq, Repr

/-- What the packet checks of R552 say of a CSI-2 header. -/
inductive CsiHeader where
  | good
  | corrected
  | lost
  deriving DecidableEq, Repr

/-- A CSI-2 packet as it arrives at a camera port (R550): data type 0x00 is frame start, 0x01 frame end, 0x12 embedded data;
any other is a long packet whose payload is a line. -/
structure CsiPacket where
  vc : Nat
  dataType : Nat
  header : CsiHeader
  /-- the payload checksum matches -/
  sumOk : Bool
  payload : List Byte
  deriving DecidableEq, Repr

/-- A frame on a message bus (R631). -/
structure CanFrame where
  /-- module time of the start-of-frame bit (R619) -/
  sof : Nat
  /-- bits 28:0 identifier, bit 29 IDE, bit 30 RTR -/
  id : Nat
  /-- 0 classical, 1 FD, 2 XL -/
  format : Nat
  /-- bit 0 BRS, bit 1 ESI, bit 2 SEC -/
  flags : Nat
  dlc : Nat
  sdt : Nat
  vcid : Nat
  af : Nat
  data : List Byte
  deriving DecidableEq, Repr

/-- How a transmit attempt ends (R633). -/
inductive AttemptEnd where
  | success
  | lost
  /-- an error, with the LEC of R638 -/
  | error (lec : Nat)
  deriving DecidableEq, Repr

/-- An Ethernet frame as a port receives it (R656). -/
structure EthFrame where
  /-- destination address, 48 bits, first byte most significant -/
  dst : Nat
  /-- source address -/
  src : Nat
  /-- PCP and VID of an 802.1Q tag -/
  tag : Option (Nat × Nat)
  etherType : Nat
  payload : List Byte
  /-- bytes from the destination address to the FCS, both included -/
  length : Nat
  fcsOk : Bool
  deriving DecidableEq, Repr

/-- One 100 µs sample of the safety inputs (R739, R755): both converter paths, the safety ground and the rails. -/
structure SafSample where
  /-- SAFE_IN0–SAFE_IN7 through the first path, mV against SAFGND -/
  a : List Int
  /-- through the second path, mV -/
  b : List Int
  /-- supply voltage of R86, mV -/
  supplyMv : Nat
  /-- SAFGND against GND_A and GND_B, the larger, mV -/
  gndMv : Int
  /-- the SAF rail monitors are good -/
  railsOk : Bool
  deriving DecidableEq, Repr

/-- What a logic cycle reads (R744, R755). -/
structure SafCycle where
  /-- read-back of SAFE_OUT0–SAFE_OUT3, mV -/
  readback : List Nat
  /-- supply voltage, mV -/
  supplyMv : Nat
  /-- the lockstep pair agrees -/
  lockstep : Bool
  /-- the test equipment's program-flow check passes -/
  flow : Bool
  deriving DecidableEq, Repr

/-- Transports of the ROM's service in RECOVERY (R790). -/
inductive RomPort where
  | usb
  | e6
  | pcie
  deriving DecidableEq, Repr

end Sys2Proof
end

