-- ==== Sys2Proof/Syntax.lean ====
section
/-! DEFINITION. The commands the module takes: one constructor per row of the table of operations and events, with the
row's operands. `t` is the module time at which the command falls; `r` a dispatched request. -/

namespace Sys2Proof

/-- Commands: host register accesses, requests of the command families, and events of the module's own units, its pins and
its timers. -/
inductive Instr where
  /-- DOORBELL (R165): Host writes a new request tail to DOORBELL; the hub accepts it, ignores it, or sets RING_ERROR, and on an enabled channel may wake the module. -/
  | doorbell (t : Nat) (src : Path) (ch : Nat) (w : U32)
  /-- RESET_CH (R170): Writing 1 to RESET_CH discards unfetched requests, empties both rings, zeroes the pointers, clears ENABLE and sets CH_RESTARTED. -/
  | resetCh (t : Nat) (src : Path) (ch : Nat) (w : U32)
  /-- CH_ENABLE (R158): Setting ENABLE in CH_CTRL checks ring sizes and bases, places APP rings in FAR, and either enables the channel or sets RING_ERROR. -/
  | chEnable (t : Nat) (src : Path) (ch : Nat) (w : U32)
  /-- W1C_CLEAR (R182): A write of 1 clears a W1C flag, unless a hardware set falls in the same cycle, in which case the set wins. -/
  | w1cClear (t : Nat) (src : Path) (off : Nat) (w : U32) (set : U32)
  /-- RPL_HEAD_WRITE (R168): Host returns reply slots by writing RPL_HEAD; a write past RPL_TAIL is ignored and sets RING_ERROR. -/
  | rplHeadWrite (t : Nat) (src : Path) (ch : Nat) (w : U32)
  /-- TIME_LO_READ (R163): A read of TIME_LO returns module time bits 31:0 and latches bits 63:32 into TIME_HI. -/
  | timeLoRead (t : Nat) (src : Path)
  /-- REGISTER_WRITE (R10): A write to a register field without behaviour of its own sets the field, or is ignored, as its access code states. -/
  | registerWrite (t : Nat) (src : Path) (off : Nat) (w : U32)
  /-- C24_GO (R192): Writing GO in C24_CMD forms a request from the compatibility-view registers and queues it on channel 62. -/
  | c24Go (t : Nat) (src : Path) (w : U32)
  /-- REQUEST_FETCH (R167): The hub fetches a request once the reply ring has room for its reply and completion, then validates, journals and dispatches it. -/
  | requestFetch (t : Nat) (ch : Nat) (m : Slot)
  /-- EVENT_DELIVERY (R179): An event or completion raised by a unit is written to each subscribed channel, or to the requesting channel, with its prefix and SEQ. -/
  | eventDelivery (t : Nat)
  /-- COAL_TIMEOUT (R162): COAL_TIME after the first uncoalesced reply, the hub sets REPLY_PENDING. -/
  | coalTimeout (t : Nat) (ch : Nat)
  /-- HUB_RESTART (R171): After a SUP reset, the hub restarts with its channels disabled, sets HUB_RESTARTED, re-enables channel 0 and restores bindings. -/
  | hubRestart (t : Nat)
  /-- HELD_ITEM_DISCARD (R822): A held item still undelivered 600 s after it began waiting is discarded and counted. -/
  | heldItemDiscard (t : Nat) (ch : Nat)
  /-- PCIE_FUNCTION_RESET (R187): A PCIe function-level reset or a PERST_N assertion resets every PCIE channel and the endpoint. -/
  | pcieFunctionReset (t : Nat) (perst : Bool)
  /-- RING_DMA_FAIL (R170): A failed ring DMA stops a PCIE channel as RESET_CH does, but sets RING_ERROR. -/
  | ringDmaFail (t : Nat) (ch : Nat)
  /-- TUNNEL_CONNECT (R188): A TLS 1.3 client connects to TCP 7411 and is mutually authenticated, or disconnected. -/
  | tunnelConnect (t : Nat) (session : Nat) (port : Nat) (authenticated : Bool)
  /-- TUNNEL_OPEN_RECORD (R189): The client's open record names a TUNNEL channel; the module echoes it or closes the session. -/
  | tunnelOpenRecord (t : Nat) (session : Nat) (ch : U16) (reserved : U16)
  /-- TUNNEL_MESSAGE (R189): A whole message arrives on a tunnel session and is placed in the channel's request ring. -/
  | tunnelMessage (t : Nat) (session : Nat) (m : Slot)
  /-- TUNNEL_CLOSE (R189): A closed tunnel session resets its channel as RESET_CH does. -/
  | tunnelClose (t : Nat) (session : Nat)
  /-- TUNNEL_IDLE_TIMEOUT (R189): A session that carries no message for 30 s is closed and its channel reset. -/
  | tunnelIdleTimeout (t : Nat) (session : Nat)
  /-- CASCADE_MESSAGE (R190): A whole message arrives on the cascade control stream for a CASCADE channel. -/
  | cascadeMessage (t : Nat) (ch : Nat) (m : Slot)
  /-- IDENTIFY (R197): Returns the module's identity, interface version and lifecycle. -/
  | identify (r : Request)
  /-- INVENTORY (R198): Returns attached hardware and one snapshot record per island. -/
  | inventory (r : Request)
  /-- TIME_READ (R199): Returns the SUP copy of module time, the RTC reading and time validity. -/
  | timeRead (r : Request)
  /-- CHANNEL_BIND (R200): Binds a channel to a path, resetting it first when the path changes. -/
  | channelBind (r : Request)
  /-- SUBSCRIBE (R202): Replaces a channel's family subscription bitmap. -/
  | subscribe (r : Request)
  /-- COMPAT_VIEW (R203): Enables or disables the SL-2400 compatibility view and binds or unbinds channel 62. -/
  | compatView (r : Request)
  /-- WATCHDOG_SET (R205): Sets the jack-in-the-box timeout and returns the previous one. -/
  | watchdogSet (r : Request)
  /-- HOST_WATCH (R206): Arms or disarms a liveness watch on the sending channel. -/
  | hostWatch (r : Request)
  /-- HOST_BEAT (R206): Restarts the channel's liveness watch and does nothing else. -/
  | hostBeat (r : Request)
  /-- HOST_WATCH_EXPIRY (R207): A liveness watch expires; the module raises HOST_LOST and may force SAFE_HOLD. -/
  | hostWatchExpiry (t : Nat) (ch : Nat)
  /-- MODULE_SUPERVISOR_BEAT (R205): Every 5 ms the module supervisor beats CTL, restarting the jack-in-the-box. -/
  | moduleSupervisorBeat (t : Nat)
  /-- JACK_IN_THE_BOX_EXPIRY (R336): The CTL watchdog over the module supervisor expires; CTL applies every channel's safe state and holds WATCHDOG_EXPIRED. -/
  | jackInTheBoxExpiry (t : Nat)
  /-- SUP_WATCHDOG_EXPIRY (R28): Maluf fails to service the AON SUP watchdog for 250 ms, and SUP alone is reset. -/
  | supWatchdogExpiry (t : Nat)
  /-- UNIT_HEARTBEAT_LOSS (R25): After three missed heartbeats the island supervisor declares the unit lost, fences it and drives its outputs safe. -/
  | unitHeartbeatLoss (t : Nat) (unit : Nat)
  /-- ISLAND_REPORT_TIMEOUT (R26): No island supervisor report for 50 ms; the module supervisor resets the island under R31. -/
  | islandReportTimeout (t : Nat) (island : Nat)
  /-- ISLAND_RESET (R31): An island resets alone or escalates to module reset, with the effects of the island-reset table. -/
  | islandReset (t : Nat) (island : Nat)
  /-- UNIT_REJOIN (R146): A fenced unit reads the MODE record, applies the mode and epoch, leaves the fence and raises UNIT_REJOINED. -/
  | unitRejoin (t : Nat) (unit : Nat)
  /-- FENCED_UNIT_TIMEOUT (R134): A unit fenced for more than 10 s outside a mode change becomes a LIMP cause. -/
  | fencedUnitTimeout (t : Nat) (unit : Nat)
  /-- POWER_ON_START (R125): The supply stands at or above 8.0 V for 100 ms; module reset is released and the start sequence begins. -/
  | powerOnStart (t : Nat) (vA : Int) (vB : Int)
  /-- RESET_N_ASSERT (R77): A low pulse on RESET_N in a monitored rung resets the module and switches every output off within 50 µs. -/
  | resetNAssert (t : Nat) (widthNs : Nat)
  /-- RESET_N_RELEASE (R126): Release of module reset starts the ROM and the ordered island start-up sequence. -/
  | resetNRelease (t : Nat)
  /-- STRAP_SAMPLING_DONE (R80): After the sixteenth sample, RECOV_N and LINK_PCIE_N are fixed until the next module reset. -/
  | strapSamplingDone (t : Nat) (recovLow : Nat) (pcieLow : Nat)
  /-- HOLDUP_WAIT_END (R100): The reserve reaches 6 J, or 1.5 s passes; restrictions end and HOLDUP_LOW may be raised. -/
  | holdupWaitEnd (t : Nat) (energyMj : Nat)
  /-- BOOT_COMMIT (R128): After the wait of R100 the boot mode is chosen and committed with the next epoch, and MODE_ENTERED is raised. -/
  | bootCommit (t : Nat)
  /-- LEDGER_REPLAY (R327): The ledger service processes OPEN records in ID order, confirming, redispatching or expiring each, and ends with REPLAY_DONE. -/
  | ledgerReplay (t : Nat)
  /-- CRANK_HOLD_ENTRY (R92): The supply stays below 6.0 V for 100 µs in Run or Ready; APP, INF and VIS are throttled and states are held. -/
  | crankHoldEntry (t : Nat) (vA : Int) (vB : Int)
  /-- CRANK_HOLD_EXIT (R97): The supply stands at or above 6.5 V for 5 ms; crank hold ends, deferred turn-ons execute and CRANK_HOLD_EXIT is raised. -/
  | crankHoldExit (t : Nat) (vA : Int) (vB : Int) (vMin : Int) (lowNs : Nat)
  /-- CRANK_LOW_TIMEOUT (R96): The supply stays below 4.5 V for more than 50 ms, and a controlled power-fail starts. -/
  | crankLowTimeout (t : Nat) (vA : Int) (vB : Int) (vMin : Int)
  /-- SUPPLY_BELOW_3V (R96): The supply falls below 3.0 V in Run or Ready, and a controlled power-fail starts. -/
  | supplyBelow3v (t : Nat) (vA : Int) (vB : Int)
  /-- OVERVOLTAGE_CUT (R89): A group's stud exceeds 37.0 V for 100 µs; its channels are cut and its integrators frozen. -/
  | overvoltageCut (t : Nat) (g : Grp) (v : Int)
  /-- OVERVOLTAGE_RESTORE (R87): The stud stays below 35.0 V for 10 ms; the channels return to their commanded state. -/
  | overvoltageRestore (t : Nat) (g : Grp) (v : Int)
  /-- STUD_LOST (R91): A stud is absent or below 3.0 V for 100 µs; SUPPLY_STUD_LOST is raised and the group delivers no current. -/
  | studLost (t : Nat) (g : Grp) (v : Int)
  /-- STUD_RETURNED (R91): A stud stands at or above 6.0 V for 10 ms; SUPPLY_STUD_LOST with STATE 0x00 is raised and channels turn on again. -/
  | studReturned (t : Nat) (g : Grp) (v : Int)
  /-- REVERSE_BATTERY (R90): Under reverse battery every channel stays off and the module draws at most 5 mA per stud. -/
  | reverseBattery (t : Nat) (vA : Int) (vB : Int)
  /-- HOLDUP_TEST (R101): Every 10 s in Run or Ready, the reserve is tested and HOLDUP_LOW is raised on a change of state. -/
  | holdupTest (t : Nat) (energyMj : Nat)
  /-- THERMAL_DERATE_CHECK (R807): Every 100 ms the cold-plate reading sets the APP, INF and VIS clock percentages and raises THROTTLE on a change. -/
  | thermalDerateCheck (t : Nat) (plate : Int)
  /-- POWER_BUDGET_EXCEEDED (R39): Electronics power would exceed 95 W; APP, INF and VIS are throttled in turn. -/
  | powerBudgetExceeded (t : Nat) (milliwatts : Nat)
  /-- RUNG_REQUEST (R211): Asks for a rung; answered ACCEPTED and completed by RUNG_ENTERED or RUNG_REFUSED. -/
  | rungRequest (r : Request)
  /-- KEEP_AWAKE (R214): Sets, replaces or releases the channel's keep-awake hold. -/
  | keepAwake (r : Request)
  /-- KEEP_AWAKE_EXPIRY (R118): A keep-awake hold reaches its end. -/
  | keepAwakeExpiry (t : Nat) (ch : Nat)
  /-- WAKE_CONFIG (R215): Replaces the whole wake-source configuration. -/
  | wakeConfig (r : Request)
  /-- CAN_WAKE_FILTER (R217): Sets or disables a controller's selective wake filter. -/
  | canWakeFilter (r : Request)
  /-- DESCENT_SET (R219): Sets the automatic descent delays. -/
  | descentSet (r : Request)
  /-- POWER_STATUS (R220): Returns supply voltages, hold-up energy, rung, flags and throttling. -/
  | powerStatus (r : Request)
  /-- RUNG_CONDITION_CHECK (R116): Every 1 ms the module supervisor evaluates the entry conditions of a pending rung. -/
  | rungConditionCheck (t : Nat)
  /-- RUNG_WAIT_TIMEOUT (R117): A rung request's wait ends with a condition unmet; RUNG_REFUSED is raised. -/
  | rungWaitTimeout (t : Nat)
  /-- AUTO_DESCENT_EXPIRY (R119): An automatic descent delay runs out and the descent begins waiting for its conditions. -/
  | autoDescentExpiry (t : Nat) (target : Nat)
  /-- IGN_RISE (R112): IGN high for 10 ms qualifies as a wake source and returns the module to Run. -/
  | ignRise (t : Nat)
  /-- IGN_FALL (R119): IGN going low starts the automatic descent delays. -/
  | ignFall (t : Nat)
  /-- WAKE_IN_EDGE (R112): A configured edge on WAKE_IN, stable for 5 ms, qualifies as a wake. -/
  | wakeInEdge (t : Nat) (level : Bool)
  /-- CAN_WAKE_PATTERN (R112): A complete ISO 11898-2 wake-up pattern on an enabled controller qualifies as a wake. -/
  | canWakePattern (t : Nat) (mb : Nat)
  /-- CAN_SELECTIVE_WAKE (R217): A classical frame that matches a controller's wake filter qualifies as a wake. -/
  | canSelectiveWake (t : Nat) (mb : Nat) (format : Nat) (id : U32) (data : List Byte)
  /-- TC10_WAKE (R112): A valid TC10 wake request on E0–E4 qualifies as a wake. -/
  | tc10Wake (t : Nat) (port : Nat)
  /-- RTC_ALARM (R112): The RTC reaches the alarm time and qualifies as a wake. -/
  | rtcAlarm (t : Nat)
  /-- USB_VBUS_RISE (R112): USB_VBUS above 4.4 V for 10 ms qualifies as a wake and enables USB enumeration. -/
  | usbVbusRise (t : Nat)
  /-- AON_BACKUP_TIMEOUT (R123): The supply stays below 3.0 V for 60 s in a lower rung, and AON loses power. -/
  | aonBackupTimeout (t : Nat)
  /-- MODE_REQUEST (R223): Requests a mode; after checks it is refused, answered OK, or answered ACCEPTED with a prepare sent. -/
  | modeRequest (r : Request)
  /-- ISLAND_READY (R141): An island supervisor answers ready; once all are in, the MODE record is written OPEN. -/
  | islandReady (t : Nat) (island : Nat)
  /-- ISLAND_REFUSAL (R142): An island supervisor answers refused; the change is aborted and MODE_ABORTED is raised. -/
  | islandRefusal (t : Nat) (unit : Nat) (reason : Nat)
  /-- PREPARE_TIMEOUT (R141): An answer is still missing 50 ms after the prepare, and the change aborts with TIMEOUT. -/
  | prepareTimeout (t : Nat)
  /-- MODE_COMMIT (R141): At the first tick at least 20 µs after the last ready, every unit applies the new mode and epoch and MODE_CHANGED is raised. -/
  | modeCommit (t : Nat) (missed : List Nat)
  /-- FORCED_SAFE_HOLD (R145): A forced SAFE_HOLD entry commits at the first tick at least 100 µs after its prepare, preempting any change in progress. -/
  | forcedSafeHold (t : Nat) (missed : List Nat)
  /-- AUTO_LIMP_ENTRY (R134): A LIMP cause arises in an operating mode, and the module supervisor enters LIMP. -/
  | autoLimpEntry (t : Nat)
  /-- AUTO_SAFE_HOLD (R135): A SAF reset, self-test failure, SAFE_FAULT, safety request, HOST_LOST or failed convergence makes the module supervisor enter SAFE_HOLD. -/
  | autoSafeHold (t : Nat)
  /-- CONVERGENCE_DEADLINE (R147): A unit fenced at a commit has not rejoined within 200 ms, and SAFE_HOLD is entered. -/
  | convergenceDeadline (t : Nat) (unit : Nat)
  /-- MODE_QUERY (R227): Returns the current mode, epoch, pending change, LIMP causes and fenced units. -/
  | modeQuery (r : Request)
  /-- AUTH_CHALLENGE (R225): Issues a nonce for a safety-password or vendor-authorization proof, voiding the earlier one. -/
  | authChallenge (r : Request)
  /-- CHALLENGE_EXPIRY (R225): A challenge passes its VALID_MS and is no longer held. -/
  | challengeExpiry (t : Nat) (kind : Nat)
  /-- AUTH_LOCKOUT_END (R226): The 300 s lock-out ends and the failed-proof count returns to 0. -/
  | authLockoutEnd (t : Nat) (kind : Nat)
  /-- SELFTEST (R230): Asks a unit to run its self-test; answered ACCEPTED. -/
  | selftest (r : Request)
  /-- SELFTEST_END (R231): A unit's self-test ends; the unit rejoins and SELFTEST_DONE completes the request. -/
  | selftestEnd (t : Nat) (unit : Nat) (result : Nat) (failCode : U32)
  /-- COUNTER_READ (R232): Returns a unit's Diagnostics counters from one island snapshot. -/
  | counterRead (r : Request)
  /-- COUNTER_CLEAR (R234): Sets the named Diagnostics counters of a unit to 0. -/
  | counterClear (r : Request)
  /-- THERMAL_READ (R235): Returns island, cold-plate, power-stage, housing and hold-up temperatures. -/
  | thermalRead (r : Request)
  /-- MODULE_TIME_TICK (R35): At every 1 ms module tick each island's copy of module time is set by handshake. -/
  | moduleTimeTick (t : Nat)
  /-- PLACE (R242): Admits a placement in its home tier and returns a handle, or refuses with QUOTA or NO_SPACE and a counter-offer. -/
  | place (r : Request)
  /-- RELEASE (R262): Releases a placement, abandoning its migrations and returning its space and rate. -/
  | placementRelease (r : Request)
  /-- PIN (R268): Pins or unpins a placement in a tier; completed by PLACEMENT_READY. -/
  | placementPin (r : Request)
  /-- MAP (R255): Grants an APP host a view window on a placement; completed by PLACEMENT_READY. -/
  | placementMap (r : Request)
  /-- UNMAP (R267): Removes a mapped view. -/
  | placementUnmap (r : Request)
  /-- SYNC (R253): Asks for a DURABLE range to be written back; completed by PLACEMENT_SYNCED. -/
  | placementSync (r : Request)
  /-- PLACEMENT_QUERY (R270): Returns a placement's class, residence, dirty bytes and label. -/
  | placementQuery (r : Request)
  /-- CAPACITY (R271): Returns the boot view handle and one snapshot record per tier. -/
  | placementCapacity (r : Request)
  /-- LIST (R272): Returns a page of the channel's placements. -/
  | placementList (r : Request)
  /-- QUOTA_SET (R273): Sets a channel's rate and space quotas. -/
  | quotaSet (r : Request)
  /-- JOB_POOL (R274): Declares or withdraws an APP worker pool. -/
  | jobPool (r : Request)
  /-- BOOT_VIEW_SET (R275): Sets the boot view size for the next start. -/
  | bootViewSet (r : Request)
  /-- PROMOTION_WINDOW (R244): At the end of each 1 ms window, the Puppeteer promotes and demotes chunks by their access history. -/
  | promotionWindow (t : Nat) (accesses : List Access)
  /-- MIGRATION_DONE (R255): A chunk copy completes, held accesses resume, and pins and views may complete. -/
  | migrationDone (t : Nat) (handle : Nat) (chunk : Nat)
  /-- WRITE_BACK_START (R253): DURABLE data written 1 s earlier starts its write-back unit, journalled as a store intent. -/
  | writeBackStart (t : Nat) (handle : Nat) (offset : Nat) (length : Nat)
  /-- WRITE_BACK_DONE (R253): A write-back unit completes and its intent becomes APPLIED. -/
  | writeBackDone (t : Nat) (handle : Nat) (record : Nat)
  /-- SHADOW_WRITE (R252): A dirty chunk of a RUNG placement is written to its STORE shadow. -/
  | shadowWrite (t : Nat) (handle : Nat) (chunk : Nat)
  /-- TIER_DEGRADED (R276): A tier's measured service stays below its commitment for 10 ms, or recovers; PLACEMENT_DEGRADED is raised. -/
  | tierDegraded (t : Nat) (tier : Nat) (degraded : Bool) (rate : Nat)
  /-- RESTORE_CHUNK_DONE (R259): After a rung exit, a chunk of a RUNG placement is restored from its shadow. -/
  | restoreChunkDone (t : Nat) (handle : Nat) (chunk : Nat)
  /-- STREAM_CREATE (R311): Creates a stream between endpoints, committing credits and rates. -/
  | streamCreate (r : Request)
  /-- STREAM_ATTACH (R313): Adds a consumer to a stream. -/
  | streamAttach (r : Request)
  /-- STREAM_DETACH (R313): Removes a consumer at a message boundary. -/
  | streamDetach (r : Request)
  /-- STREAM_DESTROY (R301): Destroys a stream with or without drain; completed by STREAM_CLOSED. -/
  | streamDestroy (r : Request)
  /-- STREAM_QUERY (R314): Returns a stream's policy, absence bits, sequence and per-consumer counts. -/
  | streamQuery (r : Request)
  /-- LINK_CONFIG (R315): Sets enable, width and time source of the external link. -/
  | linkConfig (r : Request)
  /-- LINK_STATUS (R315): Returns the external link state, width, peer and error counts. -/
  | linkStatus (r : Request)
  /-- LINK_RETRAIN (R315): Retrains the link, optionally restoring excluded lanes; completed by LINK_STATE. -/
  | linkRetrain (r : Request)
  /-- MESSAGE_PRESENT (R280): A producer presents a message; it is sent, takes a slot, or is dropped under the stream's policy. -/
  | messagePresent (t : Nat) (unit : Nat) (port : Nat) (m : Msg)
  /-- FLIT_DELIVER (R280): A flit reaches a consumer, and a message is delivered once its last flit has arrived. -/
  | flitDeliver (t : Nat) (no : Nat) (idx : Nat)
  /-- CREDIT_RETURN (R283): A consumer returns freed flit credits 1 µs after freeing, or at a quarter of CREDITS. -/
  | creditReturn (t : Nat) (no : Nat) (idx : Nat)
  /-- RING_POSTED (R294): MEM observes a change of a host ring's POSTED and takes the new descriptors. -/
  | ringPosted (t : Nat) (no : Nat) (ep : Nat) (posted : U32) (descs : List (List Byte))
  /-- DESCRIPTOR_COMPLETE (R297): The module writes a descriptor, then DONE, then COMPLETED, and may raise STREAM_RING. -/
  | descriptorComplete (t : Nat) (no : Nat) (ep : Nat)
  /-- STREAM_DRAIN_TIMEOUT (R301): 100 ms after a draining DESTROY, remaining data is discarded and STREAM_CLOSED completes it. -/
  | streamDrainTimeout (t : Nat) (no : Nat)
  /-- LINK_PRESENCE (R306): LINK_PRSNT_N low for 10 ms starts link training. -/
  | linkPresence (t : Nat) (low : Bool)
  /-- LINK_UP (R306): Training completes with PARAM exchanged, and LINK_STATE reports the link up. -/
  | linkUp (t : Nat) (width : Nat) (peerId : U64) (peerRole : Nat) (streams : Nat) (buffers : Nat)
  /-- LINK_TRAINING_TIMEOUT (R309): The link is not trained within 100 ms and goes down; peer endpoints become absent. -/
  | linkTrainingTimeout (t : Nat)
  /-- LINK_RETRY_TIMER (R309): Every 1 s while the link is down and present, training is retried. -/
  | linkRetryTimer (t : Nat)
  /-- LINK_ERROR_RETRAIN (R307): Lock loss, CHECK rate, replay limit, lost markers or credit overflow make a trained link retrain. -/
  | linkErrorRetrain (t : Nat) (cause : Nat) (lane : Option Nat)
  /-- LINK_FLIT_RX (R304): A received link flit is checked and accepted in sequence, or discarded with a NAK. -/
  | linkFlitRx (t : Nat) (f : LinkFlit)
  /-- LINK_ACK_TIMER (R304): An ACK is sent at least every 32 flits or every 500 ns. -/
  | linkAckTimer (t : Nat)
  /-- LINK_NAK_RX (R304): A NAK makes the transmitter resend everything after the named LINK_SEQ. -/
  | linkNakRx (t : Nat) (seq : Nat)
  /-- LINK_TIME_FLIT (R305): A peer TIME flit sets module time when TIME_FROM_PEER applies. -/
  | linkTimeFlit (t : Nat) (peerTime : Nat)
  /-- LEDGER_STATUS (R339): Returns ledger IDs, free space, record counts and replay time. -/
  | ledgerStatus (r : Request)
  /-- LEDGER_READ (R340): Returns ledger records selected by kind and state. -/
  | ledgerRead (r : Request)
  /-- JOURNAL_CONFIG (R341): Sets a channel's journal window and HOLD_REPLAY. -/
  | journalConfig (r : Request)
  /-- REPLAY_CONTROL (R342): Releases held records or expires undispatched ones of the sending channel. -/
  | replayControl (r : Request)
  /-- OUTPUTS (R343): Returns the state, policy and hold time of every switch channel and FO. -/
  | ledgerOutputs (r : Request)
  /-- UNIT_EXECUTION_REPORT (R325): A unit reports execution of a journalled command, and its record becomes APPLIED. -/
  | unitExecutionReport (t : Nat) (id : Nat)
  /-- SNAPSHOT_TIMER (R319): Every 10 ms CTL writes a SNAPSHOT record of the output state. -/
  | snapshotTimer (t : Nat)
  /-- HELD_RECORD_DEADLINE (R341): A record held under HOLD_REPLAY reaches its deadline and expires with DEADLINE. -/
  | heldRecordDeadline (t : Nat) (id : Nat)
  /-- OUTCOME_DISCARD (R331): An outcome undelivered 600 s after replay began is discarded and counted. -/
  | outcomeDiscard (t : Nat) (ch : Nat)
  /-- THERMAL_MEMORY_COPY (R338): Every 1 s the live thermal memory is copied to KEEP. -/
  | thermalMemoryCopy (t : Nat)
  /-- PATH_LOST_HOLD (R334): Loss of a host path applies the hold policy to each channel last commanded through it. -/
  | pathLostHold (t : Nat) (path : Path)
  /-- HOLD_MS_EXPIRY (R443): A HOLD_FOR hold time expires; the channel takes its safe state and CHANNEL_EVENT 0x06 is raised. -/
  | holdMsExpiry (t : Nat) (sw : Nat)
  /-- LOOP_TICK (R348): Each 50 µs tick, every lane latches its sources, executes its due loops and hands outputs on at the next tick. -/
  | loopTick (t : Nat)
  /-- LOOP_DEFINE (R375): Defines a loop, placing it on a lane, slot and phase, and leaves it OPEN. -/
  | loopDefine (r : Request)
  /-- LOOP_CLEAR (R375): Returns a loop to EMPTY. -/
  | loopClear (r : Request)
  /-- COEFF (R376): Replaces a loop's coefficients. -/
  | loopCoeff (r : Request)
  /-- LIMITS (R376): Replaces a loop's limits, effective at its next execution. -/
  | loopLimits (r : Request)
  /-- CLOSE (R376): Closes a loop; completed by LOOP_STATE at the first CLOSED execution. -/
  | loopClose (r : Request)
  /-- OPEN (R377): Opens a loop at the next tick with the given action. -/
  | loopOpen (r : Request)
  /-- VALUE_WRITE (R377): Writes host value registers, all effective at one tick start. -/
  | valueWrite (r : Request)
  /-- LOOP_STATUS (R378): Returns a loop's state and values from one lane snapshot. -/
  | loopStatus (r : Request)
  /-- LOOP_READ (R378): Returns a loop descriptor as stored. -/
  | loopRead (r : Request)
  /-- LANES (R379): Returns one record per loop lane. -/
  | loopLanes (r : Request)
  /-- TRACE (R380): Selects the traced loops of a lane. -/
  | loopTrace (r : Request)
  /-- TUNE (R381): Starts a yo-yo test on an OPEN loop. -/
  | loopTune (r : Request)
  /-- TUNE_ABORT (R372): Aborts a running yo-yo test with cause HOST. -/
  | tuneAbort (r : Request)
  /-- TUNE_COMMIT (R373): Writes the held or recomputed tuning proposal into the descriptor. -/
  | tuneCommit (r : Request)
  /-- TUNE_SETTLE_END (R370): SETTLE_MS elapses; NOISE is checked and RELAY starts. -/
  | tuneSettleEnd (t : Nat) (loop : Nat)
  /-- TUNE_HALF_CYCLE_TIMEOUT (R372): A relay half-cycle exceeds MAX_HALF_MS and the test aborts with NO_OSC. -/
  | tuneHalfCycleTimeout (t : Nat) (loop : Nat)
  /-- TUNE_TIME_LIMIT (R372): The test runs past MAX_TIME_S and aborts with TIMEOUT. -/
  | tuneTimeLimit (t : Nat) (loop : Nat)
  /-- SIGNAL_MESSAGE (R353): A signal message on lane port 1 writes slots that take effect at the next tick start. -/
  | signalMessage (t : Nat) (lane : Nat) (stamp : Nat) (body : List Byte)
  /-- INSTANCE_TICK (R384): Each 1 ms each lane executes its machine-function instances after the loops of the first tick. -/
  | instanceTick (t : Nat)
  /-- FUNCTION_DEFINE (R410): Defines a machine-function instance with its template, parameters and bindings. -/
  | functionDefine (r : Request)
  /-- FUNCTION_CLEAR (R410): Clears a stopped instance. -/
  | functionClear (r : Request)
  /-- FUNCTION_START (R391): Starts an instance, closing its loops and switching its channels on; completed by FUNCTION_STATE. -/
  | functionStart (r : Request)
  /-- FUNCTION_STOP (R412): Stops an instance, switching its channels off and opening its loops. -/
  | functionStop (r : Request)
  /-- FUNCTION_PARAMS (R411): Replaces an instance's parameter block. -/
  | functionParams (r : Request)
  /-- FUNCTION_STATUS (R412): Returns an instance's state, output and auxiliary value. -/
  | functionStatus (r : Request)
  /-- CALIBRATE (R398): Begins, ends or cancels a crop-flow calibration run. -/
  | calibrate (r : Request)
  /-- TOTALS (R412): Reads, and optionally resets, a yield map's totals. -/
  | yieldTotals (r : Request)
  /-- ON_DELAY_EXPIRY (R391): ON_DELAY_MS passes and a SWITCH instance switches its next channel on. -/
  | onDelayExpiry (t : Nat) (inst : Nat)
  /-- GOVERNOR_PERIOD (R401): Every PERIOD_MS the throughput governor updates density, limits and the speed set-point. -/
  | governorPeriod (t : Nat) (inst : Nat)
  /-- YIELD_STEP (R404): Every 100 ms a yield map maps the step's mass into tile cells or adds it to UNMAPPED_G. -/
  | yieldStep (t : Nat) (inst : Nat)
  /-- TOTALS_SAVE (R408): Every 1 s yield totals are kept in KEEP. -/
  | totalsSave (t : Nat)
  /-- SWITCH_CONFIG (R445): Configures a switch channel's load, wire, policies and diagnostics. -/
  | switchConfig (r : Request)
  /-- SET (R418): Switches channels on, off or to a value, all at one tick; completed by SWITCH_DONE. -/
  | switchSet (r : Request)
  /-- CLEAR_FAULT (R447): Clears a channel's latched fault when cool enough. -/
  | clearFault (r : Request)
  /-- SERVICE_DRIVE (R448): Drives one channel on or off for a timeout in COMMISSION or SERVICE. -/
  | serviceDrive (r : Request)
  /-- SWITCH_STATUS (R449): Returns status records of a range of channels. -/
  | switchStatus (r : Request)
  /-- READ_CONFIG (R449): Returns a channel's configuration. -/
  | readConfig (r : Request)
  /-- GROUP_STATUS (R450): Returns one record per supply group. -/
  | groupStatus (r : Request)
  /-- CHANNEL_TICK (R429): Every 50 µs each channel's thermal state and each group's current averages are updated. -/
  | channelTick (t : Nat) (currents : List SwSample) (a : GroupSample) (b : GroupSample)
  /-- SHED_STEP_TIMER (R440): Every 10 ms during a shed sequence the next channel is shed. -/
  | shedStepTimer (t : Nat) (g : Grp)
  /-- INRUSH_TIMER_EXPIRY (R423): At T_ramp + INRUSH_MS a channel completes turn-on or latches INRUSH_FAIL. -/
  | inrushTimerExpiry (t : Nat) (ch : Nat) (outputMv : Nat) (currentUa : Nat)
  /-- HARD_CURRENT_LIMIT (R425): A channel's current reaches its hard limit and the group unit switches it off within 10 µs. -/
  | hardCurrentLimit (t : Nat) (ch : Nat) (peakUa : Nat)
  /-- RETRY_WAIT_EXPIRY (R426): RETRY_MS passes and the channel makes a retry turn-on. -/
  | retryWaitExpiry (t : Nat) (ch : Nat)
  /-- RETRY_RESTORE (R426): After 10 s on without a trip, a channel's retries are restored. -/
  | retryRestore (t : Nat) (ch : Nat)
  /-- DISTURBANCE_RAISE (R427): A group bus falls below 85 % of its 1 ms mean and the disturbance flag is raised. -/
  | disturbanceRaise (t : Nat) (g : Grp) (mean : Nat) (v : Nat)
  /-- DISTURBANCE_CLEAR (R427): The bus recovers or 2 ms pass; the flag clears, timers resume and GROUP_EVENT is raised. -/
  | disturbanceClear (t : Nat) (g : Grp) (v : Nat) (vMin : Nat)
  /-- LAMP_COMPENSATION (R432): Every 1 ms filament and LED channels set their duty from the load voltage. -/
  | lampCompensation (t : Nat) (loads : List Nat)
  /-- REG_ERROR_TIMER (R434): After 200 ms of regulation error a PV channel sets or clears REG_ERROR. -/
  | regErrorTimer (t : Nat) (ch : Nat) (error : Bool)
  /-- OPEN_LOAD_TIMER (R435): After 50 ms below or above its threshold a channel sets or clears OPEN_LOAD. -/
  | openLoadTimer (t : Nat) (ch : Nat) (below : Bool)
  /-- OFF_DIAG_CHECK (R436): Once per second an off channel is checked for SHORT_TO_BAT and OPEN_OFF. -/
  | offDiagCheck (t : Nat) (ch : Nat) (outputMv : Nat) (drivenMv : Nat)
  /-- OFFTEST_PULSE (R437): Every OFFTEST_MS an on channel receives an off-test pulse. -/
  | offtestPulse (t : Nat) (ch : Nat)
  /-- OFFTEST_PULSE_END (R437): The output falls below 2.0 V, or 400 µs pass and SHORT_TO_BAT is set. -/
  | offtestPulseEnd (t : Nat) (ch : Nat) (outputMv : Nat)
  /-- JUNCTION_OVERTEMP (R438): A switch junction reaches 175 °C and the channel latches OVERTEMP. -/
  | junctionOvertemp (t : Nat) (ch : Nat)
  /-- GSNS_OPEN_DETECT (R54): An open GSNS pin is detected within 100 ms and the group falls back to GND_A or GND_B. -/
  | gsnsOpenDetect (t : Nat) (g : Grp)
  /-- SERVICE_DRIVE_TIMEOUT (R448): TIMEOUT_MS passes and the service-driven channel switches off. -/
  | serviceDriveTimeout (t : Nat)
  /-- AMBIENT_UPDATE (R430): Once per second, with MEAS_AMBIENT, the housing air reading updates I_n. -/
  | ambientUpdate (t : Nat) (air : Int)
  /-- IMPLEMENT_SET (R477): Sets the implement geometry, coverage placement and node settings. -/
  | implementSet (r : Request)
  /-- SECTIONS_SET (R478): Defines sections with targets, offsets, widths and latencies. -/
  | sectionsSet (r : Request)
  /-- ENGINE (R479): Starts or stops the look-ahead section engine. -/
  | sectionEngine (r : Request)
  /-- OVERRIDE (R479): Forces sections off or on. -/
  | sectionOverride (r : Request)
  /-- SCHEDULE (R480): Queues host edges; completed by EDGE_DONE. -/
  | sectionSchedule (r : Request)
  /-- EDGE_CANCEL (R480): Removes the unsent edges of a pending SCHEDULE. -/
  | edgeCancel (r : Request)
  /-- SECTION_STATUS (R480): Returns the engine state, queue counts and section map. -/
  | sectionStatus (r : Request)
  /-- EDGE_EXECUTE (R456): At its module time an edge on a module channel executes as a SET entry would. -/
  | edgeExecute (t : Nat) (id : Nat)
  /-- NODE_COMMAND_SEND (R460): LEAD_MS before its time a node edge is sent as a CAN frame or UDP record and becomes fixed. -/
  | nodeCommandSend (t : Nat) (id : Nat)
  /-- NODE_ACK_RX (R461): A node acknowledgement arrives and the edge's record becomes APPLIED. -/
  | nodeAckRx (t : Nat) (mb : Option Nat) (node : Nat) (rec : List Byte)
  /-- NODE_ACK_TIMEOUT (R461): No acknowledgement by edge time + ACK_MS; the command is resent once, then the edge ends NO_ACK. -/
  | nodeAckTimeout (t : Nat) (id : Nat)
  /-- NODE_SYNC_SEND (R459): Every SYNC_MS a SYNC and FOLLOW_UP pair is sent on each bus carrying a node target. -/
  | nodeSyncSend (t : Nat) (mb : Nat)
  /-- ENGINE_SOLUTION (R470): At each fused solution the engine predicts each section's path and queues, moves or removes edges. -/
  | engineSolution (t : Nat)
  /-- NAV_STALE_HOLD (R473): A solution older than 100 ms or below FIX_MIN puts the engine in HOLDING. -/
  | navStaleHold (t : Nat)
  /-- NAV_HOLD_EXPIRY (R473): After NAV_HOLD_MS in HOLDING the engine queues off edges and enters NAV_OFF. -/
  | navHoldExpiry (t : Nat)
  /-- NAV_RETURN (R473): After 1 s of valid solutions the engine returns to RUNNING. -/
  | navReturn (t : Nat)
  /-- NAV_CONFIG (R504): Sets enabled signals, masks and tracking parameters. -/
  | navConfig (r : Request)
  /-- CHANNEL_SET (R505): Assigns a tracking channel or returns it to automatic allocation. -/
  | channelSet (r : Request)
  /-- CHANNEL_STATUS (R506): Returns tracking channel records. -/
  | channelStatus (r : Request)
  /-- ACQ_AID (R507): Supplies time, position and frequency aids that narrow acquisition. -/
  | acqAid (r : Request)
  /-- ORBIT_AID (R508): Supplies an RTCM ephemeris used as if broadcast. -/
  | orbitAid (r : Request)
  /-- NAV_RESTART (R509): Releases every channel and restarts NAV with the kept data its KIND leaves; completed by NAV_STARTED. -/
  | navRestart (r : Request)
  /-- KEPT_STATUS (R510): Returns the start class and kept navigation data status. -/
  | keptStatus (r : Request)
  /-- FRONTEND_STATUS (R511): Returns antenna bias and per-band interference state. -/
  | frontendStatus (r : Request)
  /-- NAV_START (R500): A NAV start is classified HOT, WARM or COLD from the kept data. -/
  | navStart (t : Nat) (cause : Nat) (visible : List Nat)
  /-- FIRST_FIX (R502): The first solution is kept or discarded for distance, and NAV_STARTED is raised. -/
  | firstFix (t : Nat) (lat : Int) (lon : Int) (height : Int) (distanceM : Nat) (fix : Nat) (sats : Nat)
  /-- CHANNEL_REALLOCATION (R484): Every 1 s tracking channels are reallocated by antenna, elevation and priority. -/
  | channelReallocation (t : Nat) (sats : List SatView)
  /-- TRACK_LOSS (R485): A channel below CN0_MASK for 500 ms or losing code lock returns to ACQ. -/
  | trackLoss (t : Nat) (ch : Nat)
  /-- MP_INDEX_UPDATE (R488): Every 100 ms each channel updates MP_INDEX and its MULTIPATH flag. -/
  | mpIndexUpdate (t : Nat) (amps : List Correlators)
  /-- BOC_FALSE_LOCK (R490): A BOC channel with a side correlator above prompt for 100 ms moves its code phase by 0.5 chip. -/
  | bocFalseLock (t : Nat) (ch : Nat) (early : Bool)
  /-- SPECTRUM_UPDATE (R491): Every 10 ms each band's spectrum and AGC set J/N, interference state and notches. -/
  | spectrumUpdate (t : Nat) (ant : Nat) (band : Nat) (x : Spectrum)
  /-- ANTENNA_BIAS_FAULT (R494): An antenna bias opens or shorts; a short switches the bias off and ANTENNA_STATE is raised. -/
  | antennaBiasFault (t : Nat) (ant : Nat) (milliamps : Nat)
  /-- BIAS_RETRY (R494): Every 1 s a shorted antenna bias is retried. -/
  | biasRetry (t : Nat) (ant : Nat) (milliamps : Nat)
  /-- GAIN_CHECK (R495): After 10 s out of range, GAIN_LOW or GAIN_HIGH is set for a band. -/
  | gainCheck (t : Nat) (ant : Nat) (band : Nat) (gainDb : Int)
  /-- MEASUREMENT_EPOCH (R496): At each multiple of 1 ÷ MEAS_HZ the baseband presents a measurement epoch. -/
  | measurementEpoch (t : Nat) (m : List Measure)
  /-- RTCM_BYTES (R516): Correction bytes arrive on RTK port 1 and valid frames are kept. -/
  | rtcmBytes (t : Nat) (bytes : List Byte)
  /-- GNSS_SOLUTION (R524): At SOL_HZ the RTK engine forms and presents a GNSS solution. -/
  | gnssSolution (t : Nat) (x : SolutionIn) (fixedSats : Nat) (distM : Nat)
  /-- FUSED_SOLUTION (R521): At 200 Hz the fusion unit forms a fused solution and sends it to CTL. -/
  | fusedSolution (t : Nat) (x : SolutionIn)
  /-- FIX_LOW_TIMEOUT (R527): The fix stays below FIX_MIN for 500 ms and steering disengages. -/
  | fixLowTimeout (t : Nat)
  /-- ISO_GUIDANCE_COMMAND (R526): At 10 Hz Maluf sends the ISO 11783-7 guidance command on ISO_MB. -/
  | isoGuidanceCommand (t : Nat)
  /-- DEAD_RECKONING_START (R522): No GNSS solution for 200 ms; fused solutions continue by dead reckoning. -/
  | deadReckoningStart (t : Nat)
  /-- DR_LIMIT_EXPIRY (R522): After DR_LIMIT_S of dead reckoning, fused solutions stop. -/
  | drLimitExpiry (t : Nat)
  /-- SOLUTION_CONFIG (R537): Sets solution rate, RTK, heading, mount and lever arms. -/
  | solutionConfig (r : Request)
  /-- SOLUTION_READ (R540): Returns the latest fused solution and steering state. -/
  | solutionRead (r : Request)
  /-- GUIDE_LINE (R538): Defines or clears the AB line or curve. -/
  | guideLine (r : Request)
  /-- STEER (R539): Engages or disengages steering; completed by STEER_STATE. -/
  | steer (r : Request)
  /-- RTK_STATUS (R540): Returns RTK station, fix and correction figures. -/
  | rtkStatus (r : Request)
  /-- HOLDOVER_START (R529): No GNSS or peer time for 1 s; holdover begins. -/
  | holdoverStart (t : Nat) (temp : Int)
  /-- HOLDOVER_LIMIT (R530): HOLDOVER_S after holdover began, TIME_VALID is cleared. -/
  | holdoverLimit (t : Nat) (temp : Int)
  /-- GNSS_TIME_RETURN (R531): A GNSS time solution returns; the offset is slewed or a step is scheduled. -/
  | gnssTimeReturn (t : Nat) (offset : Int)
  /-- TIMING_MESSAGE (R533): Before each pulse the timekeeper issues the timing message for it. -/
  | timingMessage (t : Nat) (qerr : Int) (temp : Int)
  /-- TIME_PULSE (R533): At each whole second less CABLE_NS each enabled output emits a pulse. -/
  | timePulse (t : Nat)
  /-- TIME_CONFIG (R541): Sets holdover limit and time-pulse outputs. -/
  | timeConfig (r : Request)
  /-- TIME_STATUS (R541): Returns the next timing message and the last step time. -/
  | timeStatus (r : Request)
  /-- CAMERA_PORT_CONFIG (R563): Configures a camera port. -/
  | cameraPortConfig (r : Request)
  /-- CAMERA_ENABLE (R564): Turns a camera port on or off; completed by CAMERA_STATE. -/
  | cameraEnable (r : Request)
  /-- FSYNC_SET (R565): Sets a port's frame-sync period, phase and width. -/
  | fsyncSet (r : Request)
  /-- CTRL_XFER (R566): Performs a write-then-read transfer on the camera control bus. -/
  | ctrlXfer (r : Request)
  /-- CAMERA_PORT_STATUS (R566): Returns a camera port's state and counters. -/
  | cameraPortStatus (r : Request)
  /-- CAMERA_LINK_LOCK (R545): An A-PHY port reaches link lock. -/
  | cameraLinkLock (t : Nat) (port : Nat)
  /-- CAMERA_LINK_LOSS (R545): Lock is lost for more than 10 µs; the frame ends with LINK_LOST and retraining starts. -/
  | cameraLinkLoss (t : Nat) (port : Nat)
  /-- POC_OVERCURRENT (R546): A port reaches its 0.6 A limit and enters FAULT. -/
  | pocOvercurrent (t : Nat) (port : Nat) (milliamps : Nat)
  /-- POC_TOTAL_LIMIT (R546): Total power over coax reaches 4.0 A; the highest powered port is switched off every 1 ms until below. -/
  | pocTotalLimit (t : Nat) (currents : List Nat)
  /-- BRIDGE_SUPPLY_FAULT (R547): A header V supply exceeds its total and is switched off; its ports enter FAULT. -/
  | bridgeSupplyFault (t : Nat)
  /-- BRIDGE_RESET_RELEASE (R547): 10 ms after the supplies are in tolerance VXk_RST_N is released. -/
  | bridgeResetRelease (t : Nat)
  /-- FSYNC_PULSE (R549): At each scheduled module time a port emits a frame-sync pulse. -/
  | fsyncPulse (t : Nat) (port : Nat)
  /-- CSI_PACKET (R550): A CSI-2 packet arrives and is checked, marked and admitted or discarded. -/
  | csiPacket (t : Nat) (port : Nat) (p : CsiPacket)
  /-- FRAME_TIMEOUT (R552): No FE within FRAME_TIMEOUT_MS of the last line; the frame ends with FE_MISSING. -/
  | frameTimeout (t : Nat) (port : Nat)
  /-- NO_FRAMES_TIMEOUT (R564): No FS within FRAME_TIMEOUT_MS of lock; the port enters FAULT with NO_FRAMES. -/
  | noFramesTimeout (t : Nat) (port : Nat)
  /-- FRAME_END (R555): A frame ends and its frame record is produced. -/
  | frameEnd (t : Nat) (port : Nat)
  /-- PIPELINE_LINE (R569): A pipeline takes a line from its store and passes it through the stages. -/
  | pipelineLine (t : Nat) (pipe : Nat)
  /-- PIPELINE_FRAME_OUTPUT (R580): After frame end and the last line taken, each enabled output presents its message. -/
  | pipelineFrameOutput (t : Nat) (port : Nat)
  /-- STAGE_SET (R589): Sets a camera's stage parameters and increments PARAM_SEQ. -/
  | stageSet (r : Request)
  /-- OUTPUT_SET (R590): Enables, reconfigures or disables a tap or presentation stream. -/
  | outputSet (r : Request)
  /-- OUTPUT_STATUS (R591): Returns an output's state and counters. -/
  | outputStatus (r : Request)
  /-- PIPE_STATUS (R591): Returns a pipeline's state and committed rates. -/
  | pipeStatus (r : Request)
  /-- MODEL_LOAD (R597): Checks and loads a model container; completed by MODEL_STATE. -/
  | modelLoad (r : Request)
  /-- MODEL_UNLOAD (R598): Unloads a model no job names. -/
  | modelUnload (r : Request)
  /-- JOB_DEFINE (R612): Defines an inference job. -/
  | jobDefine (r : Request)
  /-- JOB_CLEAR (R611): Clears a stopped job. -/
  | jobClear (r : Request)
  /-- JOB_START (R611): Starts a job; completed by JOB_STATE. -/
  | jobStart (r : Request)
  /-- JOB_STOP (R607): Stops a job, abandoning instances and discarding inputs; completed by JOB_STATE. -/
  | jobStop (r : Request)
  /-- POOL_DONE (R613): The APP pool reports a work item done or failed. -/
  | poolDone (r : Request)
  /-- JOB_STATUS (R613): Returns a job's state and counters. -/
  | jobStatus (r : Request)
  /-- INFERENCE_INPUT (R600): An input message is copied into a job's input slot, superseding the oldest waiting one if full. -/
  | inferenceInput (t : Nat) (job : Nat) (seq : Nat) (m : Msg)
  /-- INPUT_PLACEMENT (R601): A ready input is placed on the accelerator or the APP pool under R263. -/
  | inputPlacement (t : Nat) (job : Nat)
  /-- RUN_START (R602): A ready input starts once its clusters are free, by priority and deadline. -/
  | runStart (t : Nat)
  /-- LAYER_PREEMPT (R602): A higher-priority input preempts an instance at its next layer boundary. -/
  | layerPreempt (t : Nat) (job : Nat)
  /-- RUN_END (R605): A run ends and its result message and signal entries are presented. -/
  | runEnd (t : Nat) (job : Nat) (body : List Byte)
  /-- POOL_TIMEOUT (R603): No POOL_DONE by DEADLINE + 1 s; the result is presented with POOL_TIMEOUT. -/
  | poolTimeout (t : Nat) (job : Nat) (item : Nat)
  /-- BUS_CONFIG (R621): Configures a CAN controller's formats, timing and flags. -/
  | busConfig (r : Request)
  /-- BUS_CONTROL (R646): Starts, stops or recovers a controller. -/
  | busControl (r : Request)
  /-- FILTER_SET (R626): Writes native filter elements, count and default together. -/
  | filterSet (r : Request)
  /-- COMPAT_SET (R648): Replaces the SL-2400 mask/match pairs. -/
  | compatSet (r : Request)
  /-- QUEUE_CONFIG (R649): Configures a receive queue. -/
  | queueConfig (r : Request)
  /-- RX_READ (R650): Reads records from the head of a polled queue. -/
  | rxRead (r : Request)
  /-- TX_WRITE (R634): Writes a transmit object, deferred to the end of an attempt in progress. -/
  | txWrite (r : Request)
  /-- TX_ABORT (R635): Aborts a transmit object. -/
  | txAbort (r : Request)
  /-- BUS_STATUS (R651): Returns a controller's state, counters and queue fill. -/
  | busStatus (r : Request)
  /-- CF_CLAIM (R641): Gives a control function its NAME and claims an address; completed by ADDRESS_STATE. -/
  | cfClaim (r : Request)
  /-- PGN_SEND (R642): Sends a PGN by single frame, TP or ETP; completed by TRANSPORT_DONE. -/
  | pgnSend (r : Request)
  /-- CAN_FRAME_RX (R624): A complete valid frame is filtered and stored in a queue or rejected. -/
  | canFrameRx (t : Nat) (mb : Nat) (f : CanFrame)
  /-- TX_NOT_BEFORE (R633): A transmit object reaches its NOT_BEFORE time and becomes pending. -/
  | txNotBefore (t : Nat) (mb : Nat) (obj : Nat)
  /-- TX_ATTEMPT_END (R633): A transmit attempt succeeds, loses arbitration or ends in error, and TX_RESULT may be raised. -/
  | txAttemptEnd (t : Nat) (mb : Nat) (sof : Nat) (e : AttemptEnd)
  /-- BUS_ERROR (R638): A bus error updates TEC or REC and may change the controller state. -/
  | busError (t : Nat) (mb : Nat) (transmit : Bool) (lec : Nat) (inc : Nat)
  /-- BUS_OFF_DELAY_EXPIRY (R639): AUTO_DELAY_MS after bus-off the controller enters RECOVERING. -/
  | busOffDelayExpiry (t : Nat) (mb : Nat)
  /-- RECOVERY_COMPLETE (R639): After 128 recessive sequences the controller returns to ERROR_ACTIVE. -/
  | recoveryComplete (t : Nat) (mb : Nat)
  /-- QUEUE_BATCH_TIMEOUT (R630): BATCH_US after the first held frame a stream queue presents its message. -/
  | queueBatchTimeout (t : Nat) (mb : Nat) (queue : Nat)
  /-- ADDRESS_CLAIM_TIMER (R641): A claim stands once 250 ms pass without contention. -/
  | addressClaimTimer (t : Nat) (mb : Nat) (cf : Nat)
  /-- TRANSPORT_PACKET_RX (R643): A TP or ETP frame for a CF is taken into its session. -/
  | transportPacketRx (t : Nat) (mb : Nat) (f : CanFrame)
  /-- TRANSPORT_TIMEOUT (R642): A transport protocol timeout ends a session. -/
  | transportTimeout (t : Nat) (mb : Nat) (session : Nat)
  /-- BAM_PACKET_TIMER (R642): Every 50 ms the next BAM packet is sent. -/
  | bamPacketTimer (t : Nat) (mb : Nat) (session : Nat)
  /-- ETH_PORT_CONFIG (R677): Configures an Ethernet port. -/
  | ethPortConfig (r : Request)
  /-- ETH_PORT_STATUS (R677): Returns an Ethernet port's link and counters. -/
  | ethPortStatus (r : Request)
  /-- GATE_SET (R678): Installs or disables a gate control list; completed by GATE_APPLIED. -/
  | gateSet (r : Request)
  /-- SYNC_CONFIG (R679): Sets gPTP ports, sync interval and priorities. -/
  | syncConfig (r : Request)
  /-- IP_CONFIG (R679): Sets the module IP endpoint's address, prefix, gateway and VLAN. -/
  | ipConfig (r : Request)
  /-- NODE_SET (R668): Maps or unmaps a 10BASE-T1S node number to an IPv4 address. -/
  | nodeSet (r : Request)
  /-- ETH_FRAME_RX (R656): A frame is received, learned and forwarded or dropped. -/
  | ethFrameRx (t : Nat) (port : Nat) (f : EthFrame)
  /-- ADDRESS_AGEING (R656): A learned address ages out after 300 s. -/
  | addressAgeing (t : Nat) (mac : Nat)
  /-- ETH_LINK_CHANGE (R655): A port's link goes up or down and LINK_STATE is raised. -/
  | ethLinkChange (t : Nat) (port : Nat) (up : Bool) (speed : Nat) (sqi : Nat)
  /-- GPTP_SYNC_TX (R661): Every 2^LOG_SYNC s Sync is sent on each gPTP port. -/
  | gptpSyncTx (t : Nat)
  /-- GPTP_ANNOUNCE_TX (R661): Every 1 s Announce is sent on each gPTP port. -/
  | gptpAnnounceTx (t : Nat)
  /-- PDELAY_TX (R661): Every 1 s Pdelay runs on each gPTP port except E5. -/
  | pdelayTx (t : Nat)
  /-- GATE_ENTRY_START (R664): A gate control list entry starts and opens its classes. -/
  | gateEntryStart (t : Nat) (port : Nat)
  /-- GATE_LIST_ADOPT (R665): A pending list becomes operational at a cycle start and GATE_APPLIED is raised. -/
  | gateListAdopt (t : Nat) (port : Nat)
  /-- FLEET_CONFIG (R680): Configures the fleet agent. -/
  | fleetConfig (r : Request)
  /-- FLEET_STATUS (R680): Returns the fleet agent's state and counters. -/
  | fleetStatus (r : Request)
  /-- MAP_MERGE (R676): Merges a source coverage placement into a target; completed by MERGE_DONE. -/
  | mapMerge (r : Request)
  /-- MERGE_JOB_END (R676): A placed merge job ends and MERGE_DONE is raised. -/
  | mergeJobEnd (t : Nat)
  /-- FLEET_EXCHANGE (R671): Every EXCHANGE_MS the agent sends changed cells in datagrams. -/
  | fleetExchange (t : Nat)
  /-- FLEET_DATAGRAM_RX (R672): A fleet datagram is checked, then merged or presented, or discarded and counted. -/
  | fleetDatagramRx (t : Nat) (port : Nat) (bytes : List Byte)
  /-- FSUP_LOW (R685): FSUP below 19.2 V for 1 ms sets FIELD_LOW. -/
  | fsupLow (t : Nat) (mv : Nat)
  /-- FSUP_LOST (R685): FSUP below 15.0 V for 1 ms sets FIELD_LOST, switches FO off and marks FI INVALID. -/
  | fsupLost (t : Nat) (mv : Nat)
  /-- FSUP_RESTORED (R685): FSUP at or above 19.2 V for 100 ms clears the flags and restores outputs under R687. -/
  | fsupRestored (t : Nat) (mv : Nat)
  /-- FLD_CONVERTER_FAIL (R688): The isolated converter fails, and FLD loses power and resets. -/
  | fldConverterFail (t : Nat)
  /-- FI_LEVEL_ACCEPT (R690): An input level held for FILTER_US is accepted and stamped. -/
  | fiLevelAccept (t : Nat) (fi : Nat) (level : Bool) (stamp : Nat)
  /-- FI_CHANGE_MESSAGE (R692): At the end of a 1 ms tick with input changes, port 1 produces one message. -/
  | fiChangeMessage (t : Nat)
  /-- WIRE_BREAK_DETECT (R691): An input current below 0.15 mA for 100 ms marks wire break and raises FI_DIAG. -/
  | wireBreakDetect (t : Nat) (fi : Nat) (currentUa : Nat)
  /-- WIRE_BREAK_CLEAR (R691): An input current at or above 0.30 mA for 100 ms clears wire break. -/
  | wireBreakClear (t : Nat) (fi : Nat) (currentUa : Nat)
  /-- FO_SHORT (R693): An FO in current limit for 5 ms switches off and latches SHORT. -/
  | foShort (t : Nat) (fo : Nat) (currentMa : Nat)
  /-- FO_OVERTEMP (R693): An FO junction reaches 170 °C and the output latches OVERTEMP. -/
  | foOvertemp (t : Nat) (fo : Nat) (junction : Int) (currentMa : Nat)
  /-- FO_OPEN_LOAD (R694): After 50 ms an FO sets or clears OPEN_LOAD. -/
  | foOpenLoad (t : Nat) (fo : Nat) (currentMa : Nat)
  /-- SI_CONVERSION (R698): Each 50 µs tick an SI input converts and updates its value and flags. -/
  | siConversion (t : Nat) (si : Nat) (raw : Int) (supplyMv : Nat)
  /-- SHUNT_REENABLE (R699): 1 s after switch-out, a CURRENT input's shunt is switched back in. -/
  | shuntReenable (t : Nat) (si : Nat)
  /-- ACOUSTIC_HIT (R700): An acoustic input's rectified signal crosses HIT_THRESH_MV and a hit is counted. -/
  | acousticHit (t : Nat) (si : Nat)
  /-- SUP5_FAULT (R701): A sensor supply in limit for 10 ms switches off and sets FAULT. -/
  | sup5Fault (t : Nat) (sup : Nat) (milliamps : Nat)
  /-- SUP5_RETRY (R701): Every 1 s a faulted sensor supply retries. -/
  | sup5Retry (t : Nat) (sup : Nat) (mv : Nat) (milliamps : Nat)
  /-- FI_CONFIG (R703): Configures a field input. -/
  | fiConfig (r : Request)
  /-- FO_CONFIG (R703): Configures a field output. -/
  | foConfig (r : Request)
  /-- SI_CONFIG (R703): Configures a sensor input. -/
  | siConfig (r : Request)
  /-- FO_SET (R703): Switches field outputs on or off. -/
  | foSet (r : Request)
  /-- FO_CLEAR (R703): Clears a field output's latched fault. -/
  | foClear (r : Request)
  /-- FIELD_STATUS (R703): Returns FSUP, FI and FO state. -/
  | fieldStatus (r : Request)
  /-- SI_STATUS (R703): Returns SI values, supply records and hit counters. -/
  | siStatus (r : Request)
  /-- DISPLAY_CONFIG (R730): Configures rails, temperature source, idle time, status strip and store. -/
  | displayConfig (r : Request)
  /-- WAVEFORM_LOAD (R730): Loads a waveform file. -/
  | waveformLoad (r : Request)
  /-- DISPLAY_UPDATE (R731): Queues a panel update; completed by DISPLAY_DONE. -/
  | displayUpdate (r : Request)
  /-- FRONT_LIGHT (R732): Sets the front light level. -/
  | frontLight (r : Request)
  /-- DISPLAY_STATUS (R732): Returns panel, band, update and front light state. -/
  | displayStatus (r : Request)
  /-- PANEL_DETECT_CHANGE (R71): PANEL_DET_N changes; LID_SEL and the identity are sampled, or the discharge sequence runs. -/
  | panelDetectChange (t : Nat) (fitted : Bool) (lidSel : Bool) (identity : List Byte)
  /-- RAIL_POWER_UP (R712): Rails are raised in order when an update or restoration is due and they are down. -/
  | railPowerUp (t : Nat)
  /-- RAIL_FAULT (R713): A rail is out of tolerance 1 ms after its step; discharge runs and PANEL_STATE is raised. -/
  | railFault (t : Nat) (rail : Nat)
  /-- RAIL_RETRY (R713): 1 s after a rail fault the power-up is retried. -/
  | railRetry (t : Nat)
  /-- DISCHARGE_SEQUENCE (R715): The DIS island supervisor grounds the panel and removes its rails. -/
  | dischargeSequence (t : Nat)
  /-- DISPLAY_IDLE_TIMEOUT (R715): No frame for IDLE_MS triggers the discharge sequence. -/
  | displayIdleTimeout (t : Nat)
  /-- PANEL_TEMP_TIMEOUT (R716): A panel sensor silent for 5 ms makes the update fail with HW_FAULT. -/
  | panelTempTimeout (t : Nat)
  /-- UPDATE_START (R722): A queued update starts at a frame boundary: record opened, store written, band latched. -/
  | updateStart (t : Nat) (temp : Int)
  /-- DISPLAY_FRAME_END (R722): A frame ends; after the last frame the record is APPLIED and DISPLAY_DONE is raised. -/
  | displayFrameEnd (t : Nat)
  /-- RESTORATION (R726): The DIS island supervisor redraws each OPEN DISPLAY record and raises DISPLAY_RESTORED. -/
  | restoration (t : Nat) (temp : Int)
  /-- FRONT_LIGHT_FAULT (R728): An open or shorted front-light string switches it off and raises PANEL_STATE. -/
  | frontLightFault (t : Nat)
  /-- SAFETY_LOGIC_CYCLE (R750): Each 1 ms the safety logic applies demands, faults, resets and releases and sets the outputs. -/
  | safetyLogicCycle (t : Nat) (c : SafCycle)
  /-- SAFE_IN_SAMPLE (R739): Every 100 µs each SAFE_IN is read through both paths. -/
  | safeInSample (t : Nat) (x : SafSample)
  /-- SAFE_IN_ACCEPT (R740): A level or fault voltage held for FILTER is accepted. -/
  | safeInAccept (t : Nat) (input : Nat)
  /-- INPUT_PATH_TEST (R741): Every 10 ms each input front end is checked against two references. -/
  | inputPathTest (t : Nat) (mismatch : Option Nat)
  /-- SAFE_RST_EDGE (R742): A falling edge after a 0.1–2.0 s high is accepted as a reset. -/
  | safeRstEdge (t : Nat) (highNs : Nat)
  /-- SAFE_RST_STUCK (R742): SAFE_RST high for more than 2.0 s latches RST_STUCK. -/
  | safeRstStuck (t : Nat)
  /-- SAFE_TEST_PULSE (R745): Every OFFTEST_MS an on safety output receives an off-test pulse. -/
  | safeTestPulse (t : Nat) (out : Nat)
  /-- SAFE_TEST_PULSE_END (R745): Read-back reaches 2.0 V, or 400 µs pass and SHORT_TO_BAT latches. -/
  | safeTestPulseEnd (t : Nat) (out : Nat) (readbackMv : Nat)
  /-- SAFE_OUT_OVERCURRENT (R743): A safety output in limit for 1 ms switches off and latches OVERCURRENT. -/
  | safeOutOvercurrent (t : Nat) (out : Nat)
  /-- SAFE_OPEN_LOAD (R744): An on output below 10 mA for 50 ms raises OPEN_LOAD. -/
  | safeOpenLoad (t : Nat) (out : Nat) (below : Bool)
  /-- STOP_DELAY_EXPIRY (R748): STOP_DELAY_MS after a demand a STOPPING function switches its outputs off. -/
  | stopDelayExpiry (t : Nat) (fn : Nat)
  /-- RAM_MARCH (R755): Every 10 s the safety RAM march test runs. -/
  | ramMarch (t : Nat) (pass : Bool)
  /-- CODE_CRC_CHECK (R755): Every 1 s the CRC of code and configuration is checked. -/
  | codeCrcCheck (t : Nat) (pass : Bool)
  /-- CLOCK_COMPARE (R755): Every 10 ms the SAF oscillator is compared with the AON crystal. -/
  | clockCompare (t : Nat) (pass : Bool)
  /-- SAF_SELFTEST (R759): At SAF release the power-on self-test runs within 300 ms. -/
  | safSelftest (t : Nat) (fault : Nat)
  /-- SAFETY_STATUS (R769): Returns the safety island's state, inputs, outputs and functions. -/
  | safetyStatus (r : Request)
  /-- CONFIG_READ (R767): Returns the active or staged safety configuration block. -/
  | configRead (r : Request)
  /-- CONFIG_STAGE (R767): Stores a safety configuration block and returns its hash. -/
  | configStage (r : Request)
  /-- CONFIG_COMMIT (R765): Activates the staged configuration, switching outputs off and restarting functions. -/
  | configCommit (r : Request)
  /-- VALIDATE (R768): Records the operator who validated the active configuration. -/
  | safetyValidate (r : Request)
  /-- PASSWORD_SET (R768): Sets a new safety password key. -/
  | passwordSet (r : Request)
  /-- LOG_READ (R769): Returns entries of the safety change log. -/
  | logRead (r : Request)
  /-- OFF_REQUEST (R754): Requests or withdraws removal of power for named safety functions. -/
  | offRequest (r : Request)
  /-- IMAGE_INSTALL (R780): Starts installing an image container from a source; completed by IMAGE_INSTALLED. -/
  | imageInstall (r : Request)
  /-- INSTALL_DATA_COMPLETE (R780): The container has arrived in full; hash and tag are verified and the slot becomes INSTALLED. -/
  | installDataComplete (t : Nat) (container : List Byte)
  /-- INSTALL_TIMEOUT (R779): The container is not delivered within 60 s and the installation ends with TIMEOUT. -/
  | installTimeout (t : Nat)
  /-- IMAGE_ACTIVATE (R783): Makes an installed image current by the class's reset; completed by IMAGE_STATE. -/
  | imageActivate (r : Request)
  /-- IMAGE_CONFIRM (R785): Moves a TRIAL slot to ACTIVE and raises the anti-rollback counter. -/
  | imageConfirm (r : Request)
  /-- IMAGE_REVERT (R785): Returns a class to its fallback image. -/
  | imageRevert (r : Request)
  /-- IMAGE_STATUS (R793): Returns a class's slots, policy and counter. -/
  | imageStatus (r : Request)
  /-- POLICY_SET (R793): Sets a class's slot policy and confirmation time. -/
  | policySet (r : Request)
  /-- RECOVERY_ENTER (R789): Sets the recovery mark and performs a module reset. -/
  | recoveryEnter (r : Request)
  /-- RECOVERY_LOAD (R791): In RECOVERY, loads a Maluf or loader image; completed by IMAGE_INSTALLED. -/
  | recoveryLoad (r : Request)
  /-- RECOVERY_SESSION (R790): The first transport to send a valid request holds channel 63 in RECOVERY. -/
  | recoverySession (t : Nat) (port : RomPort)
  /-- INSTALL_ABORT (R793): Ends the running installation with TIMEOUT. -/
  | installAbort (r : Request)
  /-- LOADER_COPY_DONE (R773): The loader's copy from the staging area completes and the island is released. -/
  | loaderCopyDone (t : Nat) (cls : Nat)
  /-- TRIAL_REJOIN_TIMEOUT (R784): An island in trial has not rejoined within 5 s and returns to its fallback. -/
  | trialRejoinTimeout (t : Nat) (cls : Nat)
  /-- CONFIRM_TIMEOUT (R784): CONFIRM_S passes without confirmation and the class returns to its fallback. -/
  | confirmTimeout (t : Nat) (cls : Nat)
  /-- IDENTITY_SET (R786): Generates the device key and sets MODULE_ID and MAC_BASE. -/
  | identitySet (r : Request)
  /-- KEY_PUBLIC (R796): Returns the device public key with its attestation. -/
  | keyPublic (r : Request)
  /-- KEY_SET (R796): Sets a certificate, anchor, image key or wrapped fleet key. -/
  | keySet (r : Request)
  /-- KEY_CLEAR (R796): Clears a key. -/
  | keyClear (r : Request)
  /-- KEY_STATUS (R796): Returns key presence, lifecycle and certificate expiry. -/
  | keyStatus (r : Request)
  /-- PERST_N_RELEASE (R76): Release of PERST_N enables the PCIe endpoint and, in Ready or Poised, qualifies as a wake. -/
  | perstNRelease (t : Nat)
  /-- GSNS_RESTORED (R451): A GSNS pin that was open is connected again; the group leaves its fallback reference and GROUP_EVENT 0x04 is raised. -/
  | gsnsRestored (t : Nat) (g : Grp)
  /-- SIGNAL_ACQUIRED (R485): An acquisition search finds a satellite signal and the channel moves from ACQ to PULL_IN. -/
  | signalAcquired (t : Nat) (ch : Nat)
  /-- PULL_IN_LOCK (R487): A channel in PULL_IN achieves carrier and code lock and enters TRACK. -/
  | pullInLock (t : Nat) (ch : Nat)
  /-- NAV_DATA_DECODED (R499): A broadcast ephemeris, almanac or UTC parameter set is decoded and stored as kept data, replacing any aided ephemeris. -/
  | navDataDecoded (t : Nat) (d : NavData)
  /-- BUS_INTEGRATED (R617): After 11 consecutive recessive bits a controller in INTEGRATING joins the bus as ERROR_ACTIVE and its CFs claim again. -/
  | busIntegrated (t : Nat) (mb : Nat)
  /-- RST_STUCK_CLEAR (R742): SAFE_RST has been low for 1 s after RST_STUCK, which clears RST_STUCK and allows resets again. -/
  | rstStuckClear (t : Nat)
  /-- CRANK_LOW_TIMER_RESET (R96): After the supply has stood at or above 4.5 V for 1 ms, the 50 ms below-4.5 V timer returns to 0. -/
  | crankLowTimerReset (t : Nat)
  /-- PLCA_FALLBACK (R659): A non-coordinator E5 that hears no PLCA beacon falls back to CSMA/CD, and returns to following beacons when they reappear. -/
  | plcaFallback (t : Nat) (beacon : Bool)
  /-- FAR_TRAINED (R126): FAR training completes at start; NEAR, the placement engine and the Dernus fabric are ready and the hub accepts commands on channel 0. -/
  | farTrained (t : Nat)
  /-- RECOVERY_SESSION_CLOSE (R790): The recovery session on USB, E6 or PCIe closes and channel 63 becomes free for another transport. -/
  | recoverySessionClose (t : Nat)
  /-- USB_VBUS_FALL (R73): USB_VBUS falls to or below 4.4 V and the module stops enumerating as a USB device. -/
  | usbVbusFall (t : Nat)
  deriving DecidableEq, Repr

end Sys2Proof
end

