-- ==== Sys2Proof/Decode.lean ====
section
/-! DEFINITION. The reading of a command from a word of the table: the table gives no row any bits. -/

namespace Sys2Proof

/-- The command a word of `nbits` bits spells by the table's bits. No row of the table has bits, so none is spelled. -/
def decodeTableWord (_nbits _w : Nat) : Option Instr := none

end Sys2Proof
end

