-- ==== Sys2Proof/Machine/Arith.lean ====
section
/-! DEFINITION. The fixed-point arithmetic of the units: coefficients, saturation, rounding (R357). -/

namespace Sys2Proof.Machine

/-- mul(c, k, x) of R357: the exact product shifted right arithmetically by `k`, ties towards +∞. -/
def mulc (c : Int) (k : Nat) (x : Int) : Int := if k = 0 then c * x else (c * x + 2 ^ (k - 1)) / 2 ^ k

/-- sat32 of R357. -/
def sat32 (x : Int) : Int := clampInt (-2147483648) 2147483647 x

/-- A signed division that rounds half away from zero. -/
def divRound (a b : Int) : Int := if a ≥ 0 then (2 * a + b) / (2 * b) else -((2 * (-a) + b) / (2 * b))

/-- A division of naturals that rounds half up; 0 where the divisor is 0. -/
def divNear (a b : Nat) : Nat := if b = 0 then 0 else (2 * a + b) / (2 * b)

/-- A division of naturals that rounds up. -/
def divUp (a b : Nat) : Nat := if b = 0 then 0 else (a + b - 1) / b

/-- Absolute difference. -/
def absDiff (a b : Nat) : Nat := (a - b) + (b - a)

/-- `mulc` at shift 0 is the plain product. -/
theorem mulc_zero (c x : Int) : mulc c 0 x = c * x := by simp [mulc]

/-- sat32 lands in the range of a signed 32-bit field. -/
theorem sat32_range (x : Int) : -2147483648 ≤ sat32 x ∧ sat32 x ≤ 2147483647 := by
  unfold sat32 clampInt; split
  · omega
  · split <;> omega

end Sys2Proof.Machine
end

