-- ==== Sys2Proof/Config.lean ====
section
/-! DEFINITION. What the spec leaves open: free values and the functions it names without giving them, each an opaque
constant with no body. -/

namespace Sys2Proof

/-- The `k`-th free value, as a field of `w` bits: nothing constrains it (assumption 3). -/
opaque Config.free (w : Nat) (k : Nat) : BitVec w

/-- HMAC-SHA-256 over a message under a key (R225, R762): named by the spec, computed outside it (assumption 4). -/
opaque Config.hmacBits (key message : List Byte) : BitVec 256

/-- HMAC-SHA-256 as its 32 bytes. -/
def Config.hmac (key message : List Byte) : List Byte := le 32 (Config.hmacBits key message).toNat

/-- PBKDF2-HMAC-SHA-256 with 10,000 iterations and 32 bytes (R763): named by the spec, computed outside it (assumption 4). -/
opaque Config.pbkdf2Bits (password salt : List Byte) : BitVec 256

/-- PBKDF2 as its 32 bytes. -/
def Config.pbkdf2 (password salt : List Byte) : List Byte := le 32 (Config.pbkdf2Bits password salt).toNat

/-- A configuration item of a family whose items the spec does not say when to count as defined is defined (R761;
assumption 49). -/
opaque Config.itemDefined (family index : Nat) : Bool

/-- SHA-256 of a message (R761, R775): named by the spec, computed outside it (assumption 4). -/
opaque Config.sha256Bits (message : List Byte) : BitVec 256

/-- SHA-256 as its 32 bytes. -/
def Config.sha256 (message : List Byte) : List Byte := le 32 (Config.sha256Bits message).toNat

/-- Full-range BT.709 conversion of an 8-bit Y, Cb, Cr pixel to 16-bit R, G, B (R569): the spec names the matrix and gives no
rounding (assumption 16). -/
opaque Config.yuvToRgb (y cb cr : Byte) : BitVec 16 × BitVec 16 × BitVec 16

/-- Limited-range BT.709 conversion of an 8-bit R, G, B pixel to Y, Cb, Cr (R574): the spec names the matrix and gives no
rounding (assumption 16). -/
opaque Config.rgbToYuv (r g b : Byte) : Byte × Byte × Byte

/-- Coefficient of the Lanczos-3 scaler at a phase other than 0, for taps 0 to 4 (R576): the spec gives neither the coefficients
nor their rounding (assumption 16). -/
opaque Config.lanczos (phase : BitVec 6) (tap : BitVec 3) : BitVec 16

/-- East and north of a position in the local plane tangent at an origin, mm: position in 10^−9 degree, origin in 10^−7 degree
(R405): the spec names the transformation and gives neither the ellipsoid nor the formula (assumption 26). -/
opaque Config.localPlane (lat lon lat0 lon0 : Int) : Int × Int

/-- Estimated error of module time carried by the RTC, ns: the spec gives no estimate for that source (assumption 27). -/
opaque Config.rtcErrorNs (since : Nat) : BitVec 32

/-- System × 256 + SV of the ephemeris an RTCM frame carries (R508): the layout of the RTCM messages is outside the spec
(assumption 28). -/
opaque Config.rtcmSv (frame : List Byte) : Nat

/-- Reference time of the ephemeris an RTCM frame carries, as module time near a given one (R498, R508; assumption 28). -/
opaque Config.rtcmRef (frame : List Byte) (now : Nat) : Nat

/-- Length in chips of the tracked code of a signal other than GPS L1 C/A (R497): the signals' code lengths are outside the spec
(assumption 131). -/
opaque Config.codeChips (signal : Nat) : Nat

/-- Range that an ephemeris predicts at a module time and a position (10^−9 degree, 10^−9 degree, mm), 0.1 mm (R499): the orbit
model is outside the spec (assumption 28). -/
opaque Config.orbitRange (frame : List Byte) (t : Nat) (lat lon height : Int) : Nat

/-- Byte `i` of the AES-256-GCM key stream under a key and a nonce (R670): named by the spec, computed outside it
(assumption 4). -/
opaque Config.gcmStream (key nonce : List Byte) (i : Nat) : Byte

/-- The AES-256-GCM tag over authenticated bytes and ciphertext (R670, assumption 4). -/
opaque Config.gcmTag (key nonce aad cipher : List Byte) : BitVec 128

/-- SHA-384 of a message (R775, R776): named by the spec, computed outside it (assumption 4). -/
opaque Config.sha384Bits (message : List Byte) : BitVec 384

/-- SHA-384 as its 48 bytes. -/
def Config.sha384 (message : List Byte) : List Byte := le 48 (Config.sha384Bits message).toNat

/-- ECDSA P-384 over SHA-384 verifies under a public key (R776; assumption 4). -/
opaque Config.ecdsaVerify (key message signature : List Byte) : Bool

/-- Vendor image key 0–3, whose hash is fused at manufacture (R776; assumption 4). -/
opaque Config.vendorImageKey (id : Nat) : BitVec 776

/-- Content key unwrapped from a recipient entry under the device key or the product key (R777; assumption 4). -/
opaque Config.contentKey (pub entry : List Byte) : BitVec 256

/-- A DER certificate is well formed (R786; assumption 4). -/
opaque Config.certWellFormed (der : List Byte) : Bool

/-- Public key of a certificate (R786; assumption 4). -/
opaque Config.certKey (der : List Byte) : BitVec 776

/-- End of a certificate's validity as module time (R796; assumption 4). -/
opaque Config.certNotAfter (der : List Byte) : BitVec 64

/-- A 97-byte uncompressed P-384 public key is a point of the curve (R786; assumption 4). -/
opaque Config.pointOk (key : List Byte) : Bool

/-- A wrapped fleet key unwrapped under the device key; none where it does not unwrap (R786; assumption 4). -/
opaque Config.unwrapFleet (pub content : List Byte) : Option (BitVec 256)

/-- The vendor attestation over SHA-384 of MODULE_ID, PUBLIC and SERIAL (R796; assumption 4). -/
opaque Config.attest (message : List Byte) : BitVec 768

/-- SERIAL of IDENTIFY, 16 bytes (R197): product-specific (assumption 4). -/
opaque Config.serial : BitVec 128

/-- SILICON_REV (R197): product-specific (assumption 4). -/
opaque Config.siliconRev : BitVec 16

/-- ROM_VERSION (R197): product-specific (assumption 4). -/
opaque Config.romVersion : BitVec 32

/-- MFG_TIME (R197): product-specific (assumption 4). -/
opaque Config.mfgTime : BitVec 64

/-- VERSION of the image of a class as shipped (R197, R793): product-specific (assumption 4). -/
opaque Config.shippedVersion (cls : Nat) : BitVec 32

/-- K_VENDOR, fused at manufacture (R788; assumption 4). -/
opaque Config.vendorKey : BitVec 256

end Sys2Proof
end

