-- ==== Sys2Proof/Machine/StateHub.lean ====
section
/-! DEFINITION. State of the mailbox hub, its channels, the compatibility view and the tunnel and cascade sessions
(05 Mailbox transport, 06 System commands). Each field's comment gives its width, the rule that names it and its value at reset. -/

namespace Sys2Proof.Machine

/-- A message the hub writes into a reply slot, or puts on a tunnel or cascade stream (R172). CHECK is not stored: it is
the function `Message.check` of the other fields (R173). -/
structure Message where
  family : Nat
  op : Nat
  flags : Nat
  status : Nat
  tag : U32
  payload : List Byte
  deriving DecidableEq, Repr

/-- Who waits for a completion (R177): channel, TAG, REPLY_WANTED, URGENT and the serial number the hub gave the request
when it was answered ACCEPTED. -/
structure Requester where
  ch : Nat
  tag : U32
  wanted : Bool
  /-- ledger record of a journalled request, 0 for none (R322) -/
  record : Nat
  /-- path of the channel when the request was answered: an outcome is written on the same path (R331) -/
  path : Path
  serial : Nat
  deriving DecidableEq, Repr

/-- A request fetched and not yet answered, with the reply slots it holds (R167). -/
structure Outstanding where
  tag : U32
  family : Nat
  op : Nat
  slots : Nat
  deriving DecidableEq, Repr

/-- An event or completion a unit has raised (R178). `req` is the requester of a completion; `toSubs` says that it also
goes to the channels subscribed to its family; `fail` that it reports a failure (R177). -/
structure RaisedEvent where
  time : Nat
  unit : Nat
  code : Nat
  fields : List Byte
  req : Option Requester
  toSubs : Bool
  fail : Bool
  /-- the families whose subscribers get it, held for each that is not yet enabled (R22, R122, R337, R822); none for an event
  that only enabled channels get (R179) -/
  hold : List Nat
  deriving DecidableEq, Repr

/-- An item held for a channel until it is enabled again (R822): `since` is the moment from which it waits. -/
structure HeldItem where
  event : RaisedEvent
  completion : Bool
  path : Path
  since : Nat
  /-- the ledger record an outcome is for, 0 for none (R331) -/
  record : Nat
  deriving DecidableEq, Repr

/-- A liveness watch (R206). -/
structure HostWatch where
  /-- TIMEOUT_MS, 16 bits (R206); reset 0, disarmed -/
  timeoutMs : Nat
  /-- ACTION SAFE_HOLD (R206); reset EVENT -/
  safeHold : Bool
  /-- module time at which the watch expires (R206); reset none, disarmed or expired -/
  deadline : Option Nat
  /-- module time of the expiry not yet answered by a request (R207); reset none -/
  lostAt : Option Nat
  deriving DecidableEq, Repr

/-- One mailbox channel: its register block (R156), and what the hub holds for it. -/
structure Channel where
  /-- CH_CTRL.PATH, 4 bits (R153, R157); reset 0x0 UNBOUND but for channel 0 (R154) -/
  path : Path
  /-- CH_CTRL.ENABLE, 1 bit (R157); reset 0 -/
  enable : Bool
  /-- CH_CTRL.REQ_LOG2, 4 bits (R157); reset 0x4 -/
  reqLog2 : Nat
  /-- CH_CTRL.RPL_LOG2, 4 bits (R157); reset 0x4 -/
  rplLog2 : Nat
  /-- CH_STATUS bits 6:0 (R161); reset 0 -/
  status : BitVec 7
  /-- CH_IRQ_EN, 32 bits (R156); reset 0 -/
  irqEn : U32
  /-- REQ_BASE_HI:REQ_BASE_LO, 64 bits (R156, R159); reset 0 -/
  reqBase : U64
  /-- RPL_BASE_HI:RPL_BASE_LO, 64 bits (R156, R159); reset 0 -/
  rplBase : U64
  /-- REQ_TAIL, 16 bits (R156); reset 0 -/
  reqTail : U16
  /-- REQ_HEAD, 16 bits (R156); reset 0 -/
  reqHead : U16
  /-- RPL_TAIL, 16 bits (R156); reset 0 -/
  rplTail : U16
  /-- RPL_HEAD, 16 bits (R156); reset 0 -/
  rplHead : U16
  /-- COAL.COAL_COUNT, 8 bits (R162); reset 0 -/
  coalCount : Nat
  /-- COAL.COAL_TIME, 16 bits, µs (R162); reset 0 -/
  coalTime : Nat
  /-- CNT_0–CNT_6, 7 × 32 bits: event counter of each CH_STATUS flag (R156, R181); reset 0 -/
  cnt : List U32
  /-- CNT_DISCARD, 32 bits (R156, R170); reset 0 -/
  cntDiscard : U32
  /-- replies written since REPLY_PENDING was last set (R162); reset 0 -/
  unnotified : Nat
  /-- module time at which COAL_TIME runs out (R162); reset none -/
  coalDue : Option Nat
  /-- event subscription, 256 bits, bit f for family f (R179, R202); reset 0, every family for channel 0 -/
  families : BitVec 256
  /-- next event sequence number, 32 bits (R180); reset 0 -/
  seq : U32
  /-- the next event written carries LOST_BEFORE (R180); reset 0 -/
  lostBefore : Bool
  /-- reply slots written and not yet returned by the host, oldest first (R164, R168); reset empty -/
  ring : List Message
  /-- messages put on the tunnel, cascade or recovery connection, oldest first (R189, R190); reset empty -/
  sent : List Message
  /-- requests placed by the tunnel, the cascade stream, the view or the recovery session and not yet fetched (R189,
  R190, R192); reset none -/
  inbox : List Slot
  /-- requests fetched and not yet answered (R167, R171); reset none -/
  outstanding : List Outstanding
  /-- requests fetched before a RESET_CH, whose replies are discarded (R170); reset none -/
  orphans : List Outstanding
  /-- TAGs held by a pending completion (R174, R177); reset none -/
  held : List Requester
  /-- items held until the channel is enabled again (R822); reset none -/
  waiting : List HeldItem
  /-- the liveness watch (R206); reset disarmed -/
  watch : HostWatch
  /-- end of the channel's keep-awake hold, module time (R214); reset none -/
  keepAwake : Option Nat
  /-- the interrupt or MSI-X request of the channel stands (R184); reset 0 -/
  irq : Bool
  /-- MSI-X messages or interrupt assertions sent (R184); reset 0 -/
  irqCount : Nat
  /-- Mask bit of the channel's MSI-X vector (R150, R186); reset 1, that of PCIe (assumption 110) -/
  masked : Bool
  /-- the channel's bit of the MSI-X pending bit array (R150, R186); reset 0 -/
  msiPending : Bool
  /-- journal window in ms, 0–600,000 (R324, R341); shipped 2,000, kept in KEEP -/
  windowMs : Nat
  /-- HOLD_REPLAY (R341); shipped 0, kept in KEEP -/
  holdReplay : Bool
  deriving DecidableEq, Repr

/-- A disarmed watch. -/
def HostWatch.reset : HostWatch := { timeoutMs := 0, safeHold := false, deadline := none, lostAt := none }

/-- A channel block at reset (R156). -/
def Channel.reset : Channel :=
  { path := .unbound, enable := false, reqLog2 := 4, rplLog2 := 4, status := 0, irqEn := 0, reqBase := 0, rplBase := 0,
    reqTail := 0, reqHead := 0, rplTail := 0, rplHead := 0, coalCount := 0, coalTime := 0,
    cnt := [0, 0, 0, 0, 0, 0, 0], cntDiscard := 0, unnotified := 0, coalDue := none, families := 0, seq := 0,
    lostBefore := false, ring := [], sent := [], inbox := [], outstanding := [], orphans := [], held := [], waiting := [],
    watch := HostWatch.reset, keepAwake := none, irq := false, irqCount := 0, masked := true, msiPending := false, windowMs := 2000, holdReplay := false }

/-- The SL-2400 compatibility view (R191). -/
structure CompatView where
  /-- the view is enabled (R203); reset 0 -/
  enabled : Bool
  /-- C24_CMD.FAMILY, 8 bits (R191); reset 0 -/
  family : Byte
  /-- C24_CMD.OP, 8 bits (R191); reset 0 -/
  op : Byte
  /-- C24_LEN.LEN, 6 bits (R191); reset 0 -/
  len : BitVec 6
  /-- C24_TAG, 32 bits (R191); reset 0 -/
  tag : U32
  /-- C24_ARG0–7, 8 × 32 bits (R191); reset 0 -/
  args : List U32
  /-- C24_STAT.TRUNC, 1 bit (R191); reset 0 -/
  trunc : Bool
  /-- C24_STAT.ERR, 1 bit (R191); reset 0 -/
  err : Bool
  /-- C24_STAT.DONE, 1 bit, W1C (R191); reset 0 -/
  done : Bool
  /-- event counter of DONE, 32 bits (R181); reset 0 -/
  doneCount : U32
  /-- C24_STAT.BUSY, 1 bit (R191); reset 0 -/
  busy : Bool
  /-- C24_RESULT.RLEN, 16 bits (R191); reset 0 -/
  rlen : U16
  /-- C24_RESULT.STATUS, 16 bits (R191); reset 0 -/
  result : U16
  /-- C24_RES0–7, 32 bytes (R191); reset 0 -/
  res : List Byte
  deriving DecidableEq, Repr

/-- The view at reset: disabled, every register 0. -/
def CompatView.reset : CompatView :=
  { enabled := false, family := 0, op := 0, len := 0, tag := 0, args := [0, 0, 0, 0, 0, 0, 0, 0], trunc := false,
    err := false, done := false, doneCount := 0, busy := false, rlen := 0, result := 0, res := List.replicate 32 0 }

/-- A TLS session on TCP port 7411 (R188, R189). -/
structure TunnelSession where
  /-- channel named in the open record; none before it -/
  ch : Option Nat
  /-- module time of the last message in either direction -/
  lastMessage : Nat
  /-- the copy of the open record that the module answered with (R189); empty before it -/
  answer : List Byte
  deriving DecidableEq, Repr

/-- HUB_STATE.STATE (R163). -/
inductive HubPhase where
  | rom
  | recovery
  | starting
  | ready
  deriving DecidableEq, Repr

/-- STATE codes (R163). -/
def HubPhase.code : HubPhase → Nat
  | .rom => 0
  | .recovery => 1
  | .starting => 2
  | .ready => 3

/-- The mailbox hub. -/
structure Hub where
  /-- the 64 channels (R150, R153); reset: each `Channel.reset`, channel 0 subscribed to every family (R179) -/
  chans : Bank Channel
  /-- HUB_VERSION, 32 bits: MAJOR 31:24, MINOR 23:16 (R163, R821); reset 0x0100_0000 -/
  version : U32
  /-- HUB_STATE.STATE, 4 bits (R163); reset 0x0 ROM -/
  phase : HubPhase
  /-- SUP is resetting: the window reads 0xFFFF_FFFF and ignores writes (R152); reset 0 -/
  absent : Bool
  /-- the hub accepts commands on channel 0: the row at 300 ms of the start has been reached (R126); reset 0 -/
  serving : Bool
  /-- GLOBAL_STATUS.EPOCH_CHANGED, 1 bit (R163); reset 0 -/
  epochChanged : Bool
  /-- GLOBAL_STATUS.HUB_RESTARTED, 1 bit (R163); reset 1 -/
  restarted : Bool
  /-- CNT_RESTART, 32 bits (R163); reset 1 -/
  cntRestart : U32
  /-- CNT_EPOCH, 32 bits (R163); reset 0 -/
  cntEpoch : U32
  /-- TIME_HI latch, 32 bits (R163); reset value not given: 0 (DESIGN CHOICE, assumption 2) -/
  timeHi : U32
  /-- value returned by the last register read, 32 bits (model's own: what a read returns to the host); reset 0 -/
  readData : U32
  /-- events and completions raised and not yet delivered, oldest first (R22, R179); reset none -/
  raised : List RaisedEvent
  /-- events held by the island supervisors while the hub is absent, oldest first (R822); reset none -/
  islandHeld : List RaisedEvent
  /-- serial number of the next ACCEPTED request (model's own, so that a TAG used again is another request); reset 0 -/
  nextSerial : Nat
  /-- LINK_PCIE_N counted as low (R80); a strap, fixed at the sixteenth sample; reset 0 (read as high) -/
  pcieStrap : Bool
  /-- the PCIe endpoint is enabled (R82, R187); reset 0 -/
  endpoint : Bool
  /-- PERST_N asserted (R76); reset value not given: 0 (DESIGN CHOICE, assumption 2) -/
  perst : Bool
  /-- PCIe command register, 16 bits: bit 2 enables bus mastering (R187); reset 0 (assumption 110) -/
  command : U16
  /-- BAR0, 64 bits, bits 63:16 writable (R186); reset 0 (assumption 110) -/
  bar0 : U64
  /-- MSI-X table at 0xE000: the address and data words by word number (R150, R186); Mask is `Channel.masked`; reset value not
  given: 0 (assumption 2) -/
  msixTable : Bank U32
  /-- channel whose request the hub fetched last (R169); reset 63, so that the first turn is channel 0's (assumption 85) -/
  lastFetched : Nat
  /-- a reply has set a flag that CH_IRQ_EN enables in a rung below Run, and the wake it asks for has not been taken (R185);
  reset 0 -/
  wakeDue : Bool
  /-- the compatibility view (R191); reset disabled, all 0 -/
  compat : CompatView
  /-- open tunnel sessions by session number, at most 8 (R188); reset none -/
  sessions : Bank TunnelSession
  /-- bindings, subscriptions and the view's state as held in KEEP (R204): path and families by channel; reset none -/
  keptBindings : Bank (Path × BitVec 256)
  /-- the view's state held in KEEP (R204); reset disabled -/
  keptCompat : Bool
  deriving DecidableEq, Repr

/-- Every channel but 0 at reset. -/
def Hub.chan (h : Hub) (c : Nat) : Channel := h.chans.rd c Channel.reset

/-- Bus mastering is enabled in the command register (R187). -/
def Hub.busMaster (h : Hub) : Bool := h.command.getLsbD 2

/-- The families the spec defines (R819). -/
def familyCodes : List Nat :=
  [0x01, 0x02, 0x03, 0x04, 0x05, 0x06, 0x10, 0x11, 0x12, 0x13, 0x20, 0x21, 0x30, 0x31, 0x32, 0x40, 0x41, 0x42, 0x50, 0x60,
   0x70, 0x80, 0x81, 0xF0]

/-- Subscription bitmap of every family (R179). -/
def allFamilies : BitVec 256 := BitVec.ofNat 256 (familyCodes.foldl (fun a f => a + 2 ^ f) 0)

/-- The hub right after a module reset (R156, R163): the ROM runs and nothing is served yet. -/
def Hub.reset : Hub :=
  { chans := Bank.empty.put 0 { Channel.reset with path := .app, families := allFamilies },
    version := 0x01000000, phase := .rom, absent := false, serving := false, epochChanged := false, restarted := true, cntRestart := 1,
    cntEpoch := 0, timeHi := 0, readData := 0, raised := [], islandHeld := [], nextSerial := 0, pcieStrap := false,
    endpoint := false, perst := false, command := 0, bar0 := 0, msixTable := Bank.empty, lastFetched := 63, wakeDue := false,
    compat := CompatView.reset, sessions := Bank.empty, keptBindings := Bank.empty,
    keptCompat := false }

end Sys2Proof.Machine
end

