-- ==== Sys2Proof/Machine/StateBus.lean ====
section
/-! DEFINITION. State of the message bus controllers and the ISO 11783 and J1939 services (19). -/

namespace Sys2Proof.Machine

/-- Controller states (R617). -/
inductive BusState where
  | off
  | integrating
  | errorActive
  | errorPassive
  | busOff
  | recovering
  deriving DecidableEq, Repr

/-- STATE codes (R617). -/
def BusState.code : BusState → Nat
  | .off => 0
  | .integrating => 1
  | .errorActive => 2
  | .errorPassive => 3
  | .busOff => 4
  | .recovering => 5

/-- A native filter element (R624, R647), kept in KEEP. -/
structure FilterElement where
  /-- the 16 bytes of FILTER_SET -/
  bytes : List Byte
  /-- generation, 8 bits (R625) -/
  gen : Nat
  deriving DecidableEq, Repr

/-- An element never written: kind 0x00. -/
def FilterElement.reset : FilterElement := { bytes := List.replicate 16 0, gen := 0 }

/-- An SL-2400 mask/match pair (R627, R648), kept in KEEP. -/
structure CompatPair where
  mask : Nat
  match_ : Nat
  target : Nat
  deriving DecidableEq, Repr

/-- A receive queue (R628, R649). -/
structure RxQueue where
  /-- FULL_POLICY DROP_OLD, kept in KEEP; shipped 1 -/
  dropOld : Bool
  /-- DELIVERY STREAM, kept in KEEP; shipped 0 -/
  stream : Bool
  /-- DEPTH, kept in KEEP; shipped 64 -/
  depth : Nat
  /-- BATCH_US, kept in KEEP; shipped 0 -/
  batchUs : Nat
  /-- MAX_DATA, kept in KEEP; shipped 64 -/
  maxData : Nat
  /-- BATCH_MAX, kept in KEEP; shipped 1 -/
  batchMax : Nat
  /-- records held, oldest first, with the module time of their frame (R631); reset none -/
  records : List (Nat × List Byte)
  /-- overflows since QUEUE_CONFIG, 32 bits (R653); reset 0 -/
  overflows : U32
  /-- module time of the last QUEUE_OVERFLOW (R629); reset none -/
  toldAt : Option Nat
  /-- module time at which the first held frame was stored (R630); reset none -/
  firstAt : Option Nat
  deriving DecidableEq, Repr

/-- A queue as shipped. -/
def RxQueue.reset : RxQueue :=
  { dropOld := true, stream := false, depth := 64, batchUs := 0, maxData := 64, batchMax := 1, records := [],
    overflows := 0, toldAt := none, firstAt := none }

/-- Content of a transmit object (R632, R650). -/
structure TxContent where
  tag : Nat
  notify : Bool
  /-- RETRIES left; none for unlimited -/
  retries : Option Nat
  notBefore : Nat
  frame : CanFrame
  attempts : Nat
  /-- start-of-frame of the last attempt; 0 if none -/
  lastSof : Nat
  deriving DecidableEq, Repr

/-- What waits for the end of an attempt (R634, R635). -/
inductive TxDeferred where
  | none
  | write (c : TxContent)
  | abort
  deriving DecidableEq, Repr

/-- A transmit object (R632). -/
structure TxObject where
  content : Option TxContent
  /-- pending (R633) -/
  pending : Bool
  deferred : TxDeferred
  deriving DecidableEq, Repr

/-- An empty object. -/
def TxObject.reset : TxObject := { content := none, pending := false, deferred := .none }

/-- Claim states of a control function (R653). -/
inductive ClaimState where
  | released
  | claiming
  | claimed
  | lost
  | cannot
  deriving DecidableEq, Repr

/-- STATE codes of ADDRESS_STATE (R653). -/
def ClaimState.code : ClaimState → Nat
  | .released => 0
  | .claiming => 1
  | .claimed => 2
  | .lost => 3
  | .cannot => 4

/-- An internal control function (R641, R652). -/
structure ControlFunction where
  profile : Nat
  preferred : Nat
  rangeLo : Nat
  rangeHi : Nat
  rxQueue : Nat
  name : List Byte
  state : ClaimState
  /-- address held or claimed; 254 for none -/
  address : Nat
  /-- module time at which the claim stands (R641) -/
  due : Option Nat
  /-- CF_CLAIM whose ADDRESS_STATE is due -/
  req : Option Requester
  deriving DecidableEq, Repr

/-- A released control function. -/
def ControlFunction.reset : ControlFunction :=
  { profile := 0, preferred := 0, rangeLo := 0, rangeHi := 0, rxQueue := 0, name := List.replicate 8 0,
    state := .released, address := 254, due := none, req := none }

/-- Transport protocols (R642). -/
inductive Transport where
  | single
  | bam
  | rtsCts
  | etp
  deriving DecidableEq, Repr

/-- An outgoing transport session (R642, R644). -/
structure TxSession where
  session : Nat
  cf : Nat
  prio : Nat
  dest : Nat
  pgn : Nat
  proto : Transport
  data : List Byte
  req : Requester
  /-- bytes sent -/
  sent : Nat
  /-- bytes acknowledged by the peer -/
  acked : Nat
  /-- module time of the last frame of the session -/
  last : Nat
  deriving DecidableEq, Repr

/-- An incoming transport session (R643, R644). -/
structure RxSession where
  session : Nat
  source : Nat
  dest : Nat
  pgn : Nat
  proto : Transport
  length : Nat
  /-- packet number expected next, counted from 1 over the message -/
  next : Nat
  /-- packet offset of the last DPO (ETP), or last packet that a CTS has cleared (TP) -/
  offset : Nat
  /-- the first CTS has been sent, or the first DPO received: data is accepted (R644) -/
  accepting : Bool
  data : List Byte
  /-- module time of the last frame of the session -/
  last : Nat
  deriving DecidableEq, Repr

/-- A controller MB0–MB11 (R617, R651). -/
structure BusController where
  /-- BUS_CONFIG, 28 bytes, kept in KEEP; empty as shipped: 250 kbit/s, classical only, AUTO_RECOVER (R645) -/
  cfg : List Byte
  /-- the split termination is on (R59, R83); reset 0 -/
  termOn : Bool
  /-- STATE (R617); shipped OFF -/
  state : BusState
  /-- it was started and not stopped, kept in KEEP (R618); shipped 0 -/
  running : Bool
  /-- TEC, saturating in the reply (R638); reset 0 -/
  tec : Nat
  /-- REC (R638); reset 0 -/
  rec_ : Nat
  /-- LEC (R638); reset 0 -/
  lec : Nat
  /-- SUSPENDED (R640); reset 0 -/
  suspended : Bool
  /-- module times of bus-off entries within 10 s, newest first (R640); reset none -/
  busOffAt : List Nat
  /-- BUSOFFS, 32 bits (R651); reset 0 -/
  busOffs : U32
  /-- TDC_MTQ, 8 bits (R622, R651); reset 0 -/
  tdc : Nat
  /-- filter elements 0–1,023, kept in KEEP (R624) -/
  filters : Bank FilterElement
  /-- COUNT, kept in KEEP; shipped 0 (assumption 2) -/
  count : Nat
  /-- DEFAULT, kept in KEEP: 0 reject, 1–4 queue 0–3; shipped 0 (assumption 2) -/
  dflt : Nat
  /-- generation of DEFAULT, kept in KEEP (R625); shipped 0 (assumption 2) -/
  dfltGen : Nat
  /-- mask/match pairs, kept in KEEP (R627); shipped none (assumption 2) -/
  pairs : List CompatPair
  /-- generations of the pairs 0–15, kept in KEEP (R627); shipped 0 (assumption 2) -/
  pairGens : Bank Nat
  /-- receive queues 0–3 (R628) -/
  queues : Bank RxQueue
  /-- transmit objects 0–63 (R632) -/
  objects : Bank TxObject
  /-- frames of the module's own services that wait for an object 56–63 (R632); reset none -/
  service : List TxContent
  /-- object in an attempt (R633); reset none -/
  attempt : Option Nat
  /-- a stop waits for the end of the frame in progress, with its ABANDONED cause (R637, R618); reset none -/
  stopping : Option Nat
  /-- control functions 0–3 (R641) -/
  cfs : Bank ControlFunction
  /-- outgoing sessions (R642); reset none -/
  outgoing : List TxSession
  /-- incoming sessions (R644); reset none -/
  incoming : List RxSession
  /-- session number announced next, 16 bits (R644); reset 0 (assumption 2) -/
  nextSession : Nat
  /-- frames sent on the bus, oldest first (model's own: what the bus sees); reset none -/
  wire : List CanFrame
  /-- addresses heard claimed by other control functions, with their NAMEs (R641); reset none -/
  claims : List (Nat × Nat)
  deriving DecidableEq, Repr

/-- A controller at reset. -/
def BusController.reset : BusController :=
  { cfg := [], termOn := false, state := .off, running := false, tec := 0, rec_ := 0, lec := 0, suspended := false, busOffAt := [],
    busOffs := 0, tdc := 0, filters := Bank.empty, count := 0, dflt := 0, dfltGen := 0, pairs := [],
    pairGens := Bank.empty, queues := Bank.empty, objects := Bank.empty, service := [], attempt := none,
    stopping := none, cfs := Bank.empty, outgoing := [], incoming := [], nextSession := 0, wire := [], claims := [] }

end Sys2Proof.Machine
end

