-- ==== Sys2Proof/Machine/StateCamera.lean ====
section
/-! DEFINITION. State of the camera ports and the image pipelines (16, 17). -/

namespace Sys2Proof.Machine

/-- Camera port states (R566). -/
inductive CamState where
  | off
  | powering
  | linkDown
  | linked
  | streaming
  | fault
  deriving DecidableEq, Repr

/-- STATE codes (R566). -/
def CamState.code : CamState → Nat
  | .off => 0
  | .powering => 1
  | .linkDown => 2
  | .linked => 3
  | .streaming => 4
  | .fault => 5

/-- Parameters of one stage (R569, R589). -/
structure StageParam where
  bypass : Bool
  block : List Byte
  deriving DecidableEq, Repr

/-- A frame between its FS and its last message (R551–R558). -/
structure CamFrame where
  no : U32
  fsTime : Nat
  /-- module time at which it ended; none while it arrives -/
  feTime : Option Nat
  /-- lines received, at most HEIGHT -/
  lines : Nat
  /-- lines that wait in the line store -/
  stored : List (List Byte)
  /-- lines the pipeline has taken, first line first -/
  taken : List (List Byte)
  /-- bit n for MARKS bit 16 + n (R553) -/
  marks : Nat
  crcLines : Nat
  /-- embedded-data lines received -/
  embLines : Nat
  /-- embedded data, first 1,024 bytes -/
  emb : List Byte
  /-- dropped, with its DROP_CAUSE (R555) -/
  drop : Option Nat
  /-- the frame record has been produced -/
  recorded : Bool
  /-- the outputs have been presented, or the pipeline has aborted the frame -/
  presented : Bool
  /-- PARAM_SEQ, stage parameters and outputs latched at the first line taken (R571, R585) -/
  latched : Option (U32 × Bank StageParam × Bank (List Byte))
  /-- module time of the last line received (R552) -/
  lastLine : Nat
  deriving DecidableEq, Repr

/-- One output of a camera: T0–T3 as 0–3, P0–P3 as 4–7 (R590, R591). -/
structure CamOutput where
  /-- OUTPUT_SET of an enabled output, 24 bytes, kept in KEEP; empty when disabled; shipped disabled (assumption 2) -/
  cfg : List Byte
  /-- MESSAGES, 32 bits; reset 0 -/
  messages : U32
  /-- WITHHELD, 32 bits; reset 0 -/
  withheld : U32
  /-- NO_STREAM, 32 bits; reset 0 -/
  noStream : U32
  /-- LAST_FRAME; reset 0 -/
  lastFrame : U32
  /-- a frame has been withheld since the last message (R581); reset 0 -/
  skipped : Bool
  /-- module time of the last OUTPUT_WITHHELD; reset none -/
  toldAt : Option Nat
  /-- first frame withheld since the last OUTPUT_WITHHELD and its lines; reset none -/
  first : Option (U32 × Nat)
  deriving DecidableEq, Repr

/-- A disabled output. -/
def CamOutput.reset : CamOutput :=
  { cfg := [], messages := 0, withheld := 0, noStream := 0, lastFrame := 0, skipped := false, toldAt := none,
    first := none }

/-- Frame sync of a port (R549, R565). -/
structure Fsync where
  on : Bool
  periodUs : Nat
  phaseNs : Nat
  widthUs : Nat
  deriving DecidableEq, Repr

/-- A camera port (R563, R566). -/
structure Camera where
  /-- PORT_CONFIG, 36 bytes, kept in KEEP; empty before the first one (assumption 2) -/
  cfg : List Byte
  /-- STATE; reset OFF -/
  state : CamState
  /-- CAUSE; reset 0 -/
  cause : Nat
  /-- ENABLE requests whose CAMERA_STATE is due; reset none -/
  enabling : List Requester
  /-- module time of link lock without a frame start yet (R564); reset none -/
  lockedAt : Option Nat
  /-- frame sync in force; reset off (assumption 2) -/
  fsync : Fsync
  /-- FSYNC_SET not yet effective, and its dispatch time (R549); reset none -/
  newFsync : Option (Fsync × Nat)
  /-- frame-sync pulses emitted (model's own: what the pin shows); reset 0 -/
  pulses : Nat
  /-- FRAME_NO of the next frame, 32 bits (R551); reset 0 -/
  frameNo : U32
  /-- frames not yet finished, oldest first; reset none -/
  frames : List CamFrame
  /-- DROPPED_BEFORE due on the next frame delivered (R553); reset 0 -/
  droppedBefore : Bool
  /-- FRAMES, 32 bits; reset 0 -/
  delivered : U32
  /-- DROPPED, 32 bits; reset 0 -/
  dropped : U32
  /-- CRC_ERR, 32 bits; reset 0 -/
  crcErr : U32
  /-- module time of the last FRAME_DROPS (R559); reset none -/
  toldAt : Option Nat
  /-- first frame dropped since the last FRAME_DROPS; reset none -/
  firstDrop : Option U32
  /-- LAST_FS; reset 0 -/
  lastFs : Nat
  /-- STORE_PEAK; reset 0 -/
  peak : Nat
  /-- POC_MA; reset 0 (assumption 2) -/
  pocMa : Nat
  /-- VXk_RST_N is released (R547), ports 12–15; reset 0 -/
  bridge : Bool
  /-- pixels received and their times over the last 1 s, newest first (R566 RATE_KPX); reset none -/
  recent : List (Nat × Nat)
  /-- deficit of the round robin, pixels (R557); reset 0 -/
  deficit : Nat
  /-- PARAM_SEQ, 32 bits, kept (R571); reset 0 -/
  paramSeq : U32
  /-- stage parameters by stage 0x02–0x08, kept in KEEP (R571); unlisted: as shipped -/
  stages : Bank StageParam
  /-- outputs 0–7 (R590) -/
  outputs : Bank CamOutput
  deriving DecidableEq, Repr

/-- A port at reset. -/
def Camera.reset : Camera :=
  { cfg := [], state := .off, cause := 0, enabling := [], lockedAt := none,
    fsync := { on := false, periodUs := 0, phaseNs := 0, widthUs := 0 }, newFsync := none, pulses := 0, frameNo := 0,
    frames := [], droppedBefore := false, delivered := 0, dropped := 0, crcErr := 0, toldAt := none, firstDrop := none,
    lastFs := 0, peak := 0, pocMa := 0, bridge := false, recent := [], deficit := 0, paramSeq := 0, stages := Bank.empty,
    outputs := Bank.empty }

/-- A pipeline (R556, R591). -/
structure Pipeline where
  /-- port the round robin visits next (R557); reset 0 -/
  turn : Nat
  /-- FRAMES, 32 bits; reset 0 -/
  frames : U32
  /-- ABORTED, 32 bits; reset 0 -/
  aborted : U32
  /-- module time from which the pipeline can take its next line, at the drain rate of R556; reset 0 -/
  freeAt : Nat
  deriving DecidableEq, Repr

/-- A pipeline at reset. -/
def Pipeline.reset : Pipeline := { turn := 0, frames := 0, aborted := 0, freeAt := 0 }

/-- Camera ports and pipelines. -/
structure Vision where
  /-- CAM0–CAM15 -/
  cams : Bank Camera
  /-- pipelines 0 and 1 -/
  pipes : Bank Pipeline
  /-- VX12 and VX3V3 of header V are on since (R547); reset none -/
  bridgeOn : Option Nat
  deriving DecidableEq, Repr

/-- Every port off. -/
def Vision.reset : Vision := { cams := Bank.empty, pipes := Bank.empty, bridgeOn := none }

end Sys2Proof.Machine
end

