-- ==== Sys2Proof/Machine/StateControl.lean ====
section
/-! DEFINITION. State of the control engine (10). -/

namespace Sys2Proof.Machine

/-- Loop states (R362). -/
inductive LoopState where
  | empty
  | open
  | closed
  | tuning
  | fault
  deriving DecidableEq, Repr

/-- STATE codes (R362). -/
def LoopState.code : LoopState → Nat
  | .empty => 0
  | .open => 1
  | .closed => 2
  | .tuning => 3
  | .fault => 4

/-- Phases of the yo-yo test (R370). -/
inductive TunePhase where
  | settle
  | relay
  | measure
  deriving DecidableEq, Repr

/-- STATE codes of TUNE_ABORTED (R382). -/
def TunePhase.code : TunePhase → Nat
  | .settle => 1
  | .relay => 2
  | .measure => 3

/-- A yo-yo test in progress (R369–R372). -/
structure Tune where
  /-- the request (R382) -/
  req : Requester
  /-- RULE, 0x01–0x05 -/
  rule : Nat
  /-- DISCARD, 1–10 -/
  discard : Nat
  /-- CYCLES, 2–20 -/
  cycles : Nat
  setpoint : Int
  bias : Int
  amplitude : Int
  hyst : Int
  measMin : Int
  measMax : Int
  settleMs : Nat
  maxHalfMs : Nat
  maxTimeS : Nat
  phase : TunePhase
  /-- module time at which TUNE was accepted -/
  started : Nat
  /-- the relay stands high -/
  high : Bool
  /-- module time of the last relay switch -/
  lastSwitch : Nat
  /-- module time of the last upward switch: start of the cycle in progress; none before the first -/
  cycleStart : Option Nat
  /-- full cycles since RELAY began -/
  done : Nat
  /-- measurement's lowest and highest value in SETTLE, or in the cycle in progress -/
  low : Option Int
  high? : Option Int
  /-- NOISE: peak-to-peak band of SETTLE -/
  noise : Int
  /-- periods of the measured cycles, ns -/
  periods : List Nat
  /-- peak-to-peak measurement of the measured cycles -/
  peaks : List Int
  deriving DecidableEq, Repr

/-- The result of a completed test, held until it is committed (R373): Ku in units of 2^−64, Tu in ns. -/
structure Proposal where
  rule : Nat
  ku : Nat
  tu : Nat
  deriving DecidableEq, Repr

/-- One control loop (R349, R358, R378). -/
structure Loop where
  /-- the 256-byte descriptor, kept in KEEP (R349); reset: none defined -/
  desc : List Byte
  /-- STATE (R362); reset EMPTY, each defined loop OPEN at a start (R367) -/
  state : LoopState
  /-- lane, 0–3 (R347) -/
  lane : Nat
  /-- slot, 0–99 (R346) -/
  slot : Nat
  /-- phase as placed (R347) -/
  phase : Nat
  /-- integrator i, 64 bits (R358); reset 0 -/
  i : Int
  /-- derivative state d (R358); reset 0 -/
  d : Int
  /-- e_prev (R358); reset 0 -/
  ePrev : Int
  /-- m_prev (R358); reset 0 -/
  mPrev : Int
  /-- set-point in use sp (R358); SP_INIT at definition -/
  sp : Int
  /-- u_prev (R358); reset 0 -/
  uPrev : Int
  /-- no execution since the states were cleared: e_prev, m_prev take the current values (R358) -/
  fresh : Bool
  /-- filter state of the MEAS source (R351); none until seeded -/
  yMeas : Option Int
  /-- filter state of the SETPT source -/
  ySetpt : Option Int
  /-- filter state of the FFWD source -/
  yFfwd : Option Int
  /-- measurement of the last execution (R378); reset 0 -/
  meas : Int
  /-- error of the last execution (R378); reset 0 -/
  err : Int
  /-- output of the last execution (R378); reset 0 -/
  out : Int
  /-- feed-forward term of the last execution (R380) -/
  ff : Int
  /-- FLAGS of STATUS, 8 bits (R378); reset 0 -/
  flags : Nat
  /-- EXECUTIONS, 32 bits (R378); reset 0 -/
  executions : U32
  /-- LAST_TIME, module time of the last execution's tick (R378); reset 0 -/
  lastTime : Nat
  /-- CAUSE of the last change of state (R378); reset 0 -/
  cause : Nat
  /-- output to hand to the destination at the next tick start (R348) -/
  handOn : Option Int
  /-- set-point written by the outer loop (R352 CASCADE); none until the outer loop first drives it -/
  cascade : Option Int
  /-- a HOLD reservation of the destination stands (R356); reset 0 -/
  reserved : Bool
  /-- CLOSE asked for, with its requesters (an instance asks with none); the loop closes at its next execution (R376) -/
  closing : Option (List Requester)
  /-- OPEN asked for: action 0x00–0x02 and cause, at the next tick start (R377) -/
  opening : Option (Nat × Nat)
  /-- the last tracked integrator was clamped by I_MIN or I_MAX (R363); reset 0 -/
  bump : Bool
  /-- the yo-yo test (R369); reset none -/
  tune : Option Tune
  /-- the held proposal (R373); reset none -/
  proposal : Option Proposal
  deriving DecidableEq, Repr

/-- An EMPTY loop. -/
def Loop.reset : Loop :=
  { desc := [], state := .empty, lane := 0, slot := 0, phase := 0, i := 0, d := 0, ePrev := 0, mPrev := 0, sp := 0,
    uPrev := 0, fresh := true, yMeas := none, ySetpt := none, yFfwd := none, meas := 0, err := 0, out := 0, ff := 0,
    flags := 0, executions := 0, lastTime := 0, cause := 0, handOn := none, cascade := none, reserved := false,
    closing := none, opening := none, bump := false, tune := none, proposal := none }

/-- One loop lane (R345, R380). -/
structure Lane where
  /-- loops traced (R380); reset none -/
  traced : List Nat
  /-- trace records of the millisecond in progress (R380); reset none -/
  trace : List Byte
  deriving DecidableEq, Repr

/-- A lane at reset. -/
def Lane.reset : Lane := { traced := [], trace := [] }

/-- The control engine. -/
structure Control where
  /-- loops 0–255 (R349); reset: each EMPTY -/
  loops : Bank Loop
  /-- lanes 0–3 (R345) -/
  lanes : Bank Lane
  /-- module tick number t of the last 50 µs tick (R345); reset 0 -/
  tickNo : Nat
  /-- host value registers 0–63: value and sample time (R352); reset 0 with sample time 0 -/
  hostValues : Bank (Int × Nat)
  /-- values written and not yet effective (R377); reset none -/
  hostPending : List (Nat × Int)
  /-- signal slots 0–255: value and sample time (R353); reset 0 with sample time 0 -/
  signals : Bank (Int × Nat)
  /-- signal entries delivered and not yet effective: slot, value, TIME (R353); reset none -/
  signalPending : List (Nat × Int × Nat)
  deriving DecidableEq, Repr

/-- The engine with no loop defined. -/
def Control.reset : Control :=
  { loops := Bank.empty, lanes := Bank.empty, tickNo := 0, hostValues := Bank.empty, hostPending := [],
    signals := Bank.empty, signalPending := [] }

end Sys2Proof.Machine
end

