-- ==== Sys2Proof/Machine/StateDisplay.lean ====
section
/-! DEFINITION. State of the display engine (22). -/

namespace Sys2Proof.Machine

/-- DISPLAY_STATUS.STATE (R732). -/
inductive PanelState where
  | down
  | powering
  | ready
  | restoring
  | discharging
  | fault
  deriving DecidableEq, Repr

/-- STATE codes (R732). -/
def PanelState.code : PanelState → Nat
  | .down => 0
  | .powering => 1
  | .ready => 2
  | .restoring => 3
  | .discharging => 4
  | .fault => 5

/-- The fitted panel (R706, R707). -/
structure Panel where
  lid : Bool
  id : Nat
  width : Nat
  height : Nat
  vcomOffset : Int
  flMax : Nat
  hasSensor : Bool
  hasLight : Bool
  deriving DecidableEq, Repr

/-- An update, queued or active (R721, R722). -/
structure PanelUpdate where
  id : Nat
  mode : Nat
  x : Nat
  y : Nat
  w : Nat
  h : Nat
  /-- 0xFF for the module -/
  ch : Nat
  tag : Nat
  req : Option Requester
  /-- placement of the new levels, read at the start; 0 for the module's own -/
  source : Nat
  offset : Nat
  stride : Nat
  /-- ledger record; 0 before the start -/
  record : Nat
  band : Nat
  frame : Nat
  frames : Nat
  start : Nat
  /-- restoration of the record with this ID, its FLAGS and the second pass still due (R726); none otherwise -/
  restore : Option (Nat × Nat × Bool)
  deriving DecidableEq, Repr

/-- The display engine. -/
structure Display where
  /-- RAIL_SOURCE EXTERNAL, kept in KEEP (R730); shipped 0 -/
  external : Bool
  /-- TEMP_SOURCE housing air, kept in KEEP (R730); shipped 0 (assumption 2) -/
  airTemp : Bool
  /-- IDLE_MS, kept in KEEP (R730); shipped 500 -/
  idleMs : Nat
  /-- STATUS_ROWS, kept in KEEP (R706, R730); none as shipped: 120 on the lid panel, 0 on another -/
  statusRows : Option Nat
  /-- PMIC_ADDR, PMIC_EN_REG, PMIC_EN_VAL, kept in KEEP (R730); shipped 0 (assumption 2) -/
  pmic : Nat × Nat × Nat
  /-- STORE, kept in KEEP (R730); shipped 0, none (assumption 2) -/
  store : Nat
  /-- waveform placement, kept in KEEP (R730); shipped 0, none (assumption 2) -/
  waveform : Nat
  /-- the last waveform file that was read (R726); reset none -/
  lastWave : List Byte
  /-- what PANEL_DET_N and LID_SEL show: LID_SEL and the identity record of a fitted panel (R71, R707); reset none fitted -/
  pins : Option (Bool × List Byte)
  /-- the fitted panel (R706); reset none -/
  panel : Option Panel
  /-- the panel is in FAULT (R707, R713); reset 0 -/
  faulted : Bool
  /-- STATE (R732); reset rails down -/
  state : PanelState
  /-- step 1–6 of R709 that has risen; 0 with the rails down; reset 0 -/
  rails : Nat
  /-- module time at which the rails were requested (R712); reset none -/
  railsAt : Option Nat
  /-- value last written to PMIC_EN_REG of an external supply (R711); reset 0 -/
  pmicOut : Nat
  /-- module time of the last rail fault (R713); reset none -/
  railFault : Option Nat
  /-- BAND latched, the time it was latched at and its VCOM, mV (R710, R720); reset none -/
  band : Option (Nat × Nat × Int)
  /-- active updates, oldest first, at most 16 (R721); reset none -/
  active : List PanelUpdate
  /-- queued updates, oldest first, at most 32 (R721); reset none -/
  queued : List PanelUpdate
  /-- UPDATE_ID of the next update (R731); reset 1 (assumption 9) -/
  nextId : Nat
  /-- module time of the end of the last frame (R715); reset none -/
  lastFrame : Option Nat
  /-- the panel holds known content (R714); reset 0 -/
  known : Bool
  /-- FL_LEVEL, ‰ (R732); reset 0 -/
  flLevel : Nat
  /-- the front light is on (R728); reset 0 -/
  flOn : Bool
  /-- FRONT_LIGHT held until the content is known (R714); reset none -/
  flHeld : Option Nat
  /-- TEMP, 0.1 °C (R732); reset 0 (assumption 2) -/
  temp : Int
  /-- UPDATES, 32 bits; reset 0 -/
  updates : U32
  /-- RESTORATIONS, 32 bits; reset 0 -/
  restorations : U32
  deriving DecidableEq, Repr

/-- The display at reset. -/
def Display.reset : Display :=
  { external := false, airTemp := false, idleMs := 500, statusRows := none, pmic := (0, 0, 0), store := 0, waveform := 0,
    lastWave := [], pins := none, panel := none, faulted := false, state := .down, rails := 0, railsAt := none, pmicOut := 0, railFault := none, band := none,
    active := [], queued := [], nextId := 1, lastFrame := none, known := false, flLevel := 0, flOn := false,
    flHeld := none, temp := 0, updates := 0, restorations := 0 }

end Sys2Proof.Machine
end

