-- ==== Sys2Proof/Machine/StateField.lean ====
section
/-! DEFINITION. State of the isolated field I/O and the sensor inputs (21). -/

namespace Sys2Proof.Machine

/-- A field input FI0–FI31 (R690, R691). -/
structure FieldIn where
  /-- TYPE 0x01 or 0x03, kept in KEEP (R703); shipped 0x03 -/
  type : Nat
  /-- WIRE_BREAK check on, kept in KEEP; shipped 0 (assumption 2) -/
  breakOn : Bool
  /-- INVERT, kept in KEEP; shipped 0 (assumption 2) -/
  invert : Bool
  /-- FILTER_US, 16 bits, kept in KEEP; shipped 3,000 -/
  filterUs : Nat
  /-- reported level (R690); reset 0 (assumption 2) -/
  level : Bool
  /-- stamp of the last change (R690); reset 0 -/
  stamp : Nat
  /-- in wire break (R691); reset 0 -/
  broken : Bool
  deriving DecidableEq, Repr

/-- A field input at reset. -/
def FieldIn.reset : FieldIn :=
  { type := 3, breakOn := false, invert := false, filterUs := 3000, level := false, stamp := 0, broken := false }

/-- A field output FO0–FO15 (R693). -/
structure FieldOut where
  /-- RESTORE, kept in KEEP (R703); shipped 0 (assumption 2) -/
  restore : Bool
  /-- OPEN_DIAG, kept in KEEP (R703); shipped 1 -/
  openDiag : Bool
  /-- commanded on (R687); reset 0 -/
  cmd : Bool
  /-- conducting (R703 FO_ON); reset 0 -/
  on : Bool
  /-- turn-on deferred by crank hold (R695); reset 0 -/
  deferred : Bool
  /-- latched fault: 0 none, 1 SHORT, 2 OVERTEMP (R693, R704); reset 0 -/
  fault : Nat
  /-- junction above 145 °C (R693); reset 0 (assumption 2) -/
  hot : Bool
  /-- OPEN_LOAD (R694); reset 0 -/
  openLoad : Bool
  /-- current, mA (R703); reset 0 (assumption 2) -/
  ma : Nat
  deriving DecidableEq, Repr

/-- A field output at reset. -/
def FieldOut.reset : FieldOut :=
  { restore := false, openDiag := true, cmd := false, on := false, deferred := false, fault := 0, hot := false,
    openLoad := false, ma := 0 }

/-- A sensor input SI0–SI15 (R697, R698). -/
structure SensorIn where
  /-- MODE 0x00–0x05, kept in KEEP (R703); shipped 0x00 OFF (assumption 2) -/
  mode : Nat
  /-- RANGE, kept in KEEP; shipped 0 (assumption 2) -/
  range : Nat
  /-- SUPPLY, kept in KEEP; shipped 0xFF none (assumption 2) -/
  supply : Nat
  /-- RATIO, kept in KEEP; shipped 0 (assumption 2) -/
  ratio : Bool
  /-- AVG, 1–64, kept in KEEP; shipped 1 (assumption 2) -/
  avg : Nat
  /-- FREQ_THRESH_MV, kept in KEEP; shipped 500 (assumption 2) -/
  freqThresh : Nat
  /-- HIT_THRESH_MV, kept in KEEP; shipped 5 (assumption 2) -/
  hitThresh : Nat
  /-- DEAD_US, kept in KEEP; shipped 50 (assumption 2) -/
  deadUs : Nat
  /-- the last conversions, newest first, at most AVG (R698); reset none -/
  conv : List Int
  /-- VALUE in the mode's units (R697); reset 0 -/
  value : Int
  /-- sample time (R698); reset 0 -/
  sample : Nat
  /-- OVERRANGE (R699); reset 0 -/
  overRange : Bool
  /-- LOW (R699); reset 0 -/
  low : Bool
  /-- a CURRENT input below 3.0 mA since (R699); reset none -/
  lowSince : Option Nat
  /-- the shunt is switched out since (R699); reset none -/
  shuntOut : Option Nat
  /-- hit counter, 32 bits (R700); reset 0 -/
  hits : U32
  /-- module times of the hits of the last 30 s, newest first (R399, R697); reset none -/
  hitTimes : List Nat
  deriving DecidableEq, Repr

/-- A sensor input at reset. -/
def SensorIn.reset : SensorIn :=
  { mode := 0, range := 0, supply := 0xFF, ratio := false, avg := 1, freqThresh := 500, hitThresh := 5, deadUs := 50,
    conv := [], value := 0, sample := 0, overRange := false, low := false, lowSince := none, shuntOut := none, hits := 0,
    hitTimes := [] }

/-- A sensor supply SUP5_A–SUP5_D (R701). -/
structure SensorSupply where
  /-- FAULT since (R701); reset none -/
  fault : Option Nat
  /-- output voltage, mV (R703); reset 0 (assumption 2) -/
  mv : Nat
  /-- output current, mA (R703); reset 0 (assumption 2) -/
  ma : Nat
  deriving DecidableEq, Repr

/-- A sensor supply at reset. -/
def SensorSupply.reset : SensorSupply := { fault := none, mv := 0, ma := 0 }

/-- The field group and the sensor input unit. -/
structure FieldIo where
  /-- FI0–FI31 (R689) -/
  fi : Bank FieldIn
  /-- FO0–FO15 (R693) -/
  fo : Bank FieldOut
  /-- SI0–SI15 (R697) -/
  si : Bank SensorIn
  /-- SUP5_A–SUP5_D as 0–3 (R701) -/
  sup5 : Bank SensorSupply
  /-- FSUP, mV (R703); reset 0 (assumption 2) -/
  fsupMv : Nat
  /-- FIELD_LOW (R685); reset 0 -/
  low : Bool
  /-- FIELD_LOST (R685); reset 0 -/
  lost : Bool
  /-- the isolated converter has failed (R688); reset 0 -/
  converterFailed : Bool
  /-- input changes of the tick in progress, 16 bytes each, in stamp order (R692); reset none -/
  changes : List (List Byte)
  deriving DecidableEq, Repr

/-- The field group at reset. -/
def FieldIo.reset : FieldIo :=
  { fi := Bank.empty, fo := Bank.empty, si := Bank.empty, sup5 := Bank.empty, fsupMv := 0, low := false, lost := false,
    converterFailed := false, changes := [] }

end Sys2Proof.Machine
end

