-- ==== Sys2Proof/Machine/StateFunction.lean ====
section
/-! DEFINITION. State of the machine-function instances (11). -/

namespace Sys2Proof.Machine

/-- Instance states (R390). -/
inductive InstState where
  | empty
  | stopped
  | idle
  | active
  | fault
  deriving DecidableEq, Repr

/-- STATE codes (R390). -/
def InstState.code : InstState → Nat
  | .empty => 0
  | .stopped => 1
  | .idle => 2
  | .active => 3
  | .fault => 4

/-- A binding entry (R386). -/
structure Binding where
  role : Nat
  kind : Nat
  ref : Nat
  deriving DecidableEq, Repr

/-- A start in progress (R391). -/
structure Starting where
  /-- the START request; none for an AUTOSTART -/
  req : Option Requester
  /-- state before the start -/
  old : InstState
  /-- CAUSE of the FUNCTION_STATE that completes it: 0x00 host, 0x01 mode commit -/
  cause : Nat
  /-- channels not yet switched on, in binding order -/
  chans : List Nat
  /-- module time at which the next one switches on (ON_DELAY_MS) -/
  next : Nat
  /-- a turn-on was deferred by crank hold -/
  deferred : Bool
  /-- loops asked to close: one that stands open with no CLOSE pending has been opened again (R395) -/
  asked : List Nat
  deriving DecidableEq, Repr

/-- Position, heading and speed of the machine at one time of the history of R397. -/
structure TrackPoint where
  time : Nat
  /-- latitude, 10^−9 degree -/
  lat : Int
  /-- longitude, 10^−9 degree -/
  lon : Int
  /-- heading, 0.001 degree -/
  heading : Nat
  /-- ground speed, mm/s -/
  speed : Nat
  deriving DecidableEq, Repr

/-- One instance (R384, R410). -/
structure Instance where
  /-- TEMPLATE, 0x01–0x20; 0 for EMPTY; kept in KEEP -/
  template : Nat
  /-- FLAGS bit 0 AUTOSTART; kept in KEEP -/
  autostart : Bool
  /-- lane, 0–3 -/
  lane : Nat
  /-- LABEL; kept in KEEP -/
  label : Nat
  /-- the 64-byte parameter block in force (R411); kept in KEEP -/
  params : List Byte
  /-- a PARAMS block not yet effective (R411); reset none -/
  newParams : Option (List Byte)
  /-- bindings, in order; kept in KEEP -/
  binds : List Binding
  /-- STATE (R390); every defined instance STOPPED at a start (R384) -/
  state : InstState
  /-- CAUSE of the last change (R412); reset 0 -/
  cause : Nat
  /-- loop, channel or FI that caused a fault (R413); reset 0 -/
  detail : Nat
  /-- the start in progress (R391); reset none -/
  starting : Option Starting
  /-- OUT of STATUS (R412); reset 0 -/
  out : Int
  /-- AUX of STATUS (R412); reset 0 -/
  aux : Nat
  /-- module time of the execution reported (R412); reset 0 -/
  execTime : Nat
  /-- filter state of FLOW and SCALE (R396, R400); none until seeded -/
  y : Option Int
  /-- q, loss or value of the last execution; none while invalid (R396, R399, R400) -/
  result : Option Int
  /-- calibration integral in mg; none while no run is in progress (R398) -/
  calSum : Option Nat
  /-- ρ, g/m² (R401); RHO_INIT at start -/
  rho : Int
  /-- v_l, mm/s (R401); V_MAX at start -/
  vl : Int
  /-- v_sp, mm/s (R401); the fused ground speed at start -/
  vsp : Int
  /-- the governor ran under WORKING or HEADLAND in its last period (R403); reset 0 -/
  governing : Bool
  /-- v_sp held while the flow is invalid or under HEADLAND (R403); reset none -/
  vHold : Option Int
  /-- LIMIT of the last GOVERNOR_LIMIT (R403); reset 0 -/
  limit : Nat
  /-- AREA_CM2 total, kept (R408); reset 0 -/
  areaCm2 : Nat
  /-- MASS_G total, kept (R408); reset 0 -/
  massG : Nat
  /-- UNMAPPED_G total in mg, kept (R404, R408); reset 0 -/
  unmappedMg : Nat
  /-- LOSS_G total in ng, kept (R399); reset 0 -/
  lossNg : Nat
  /-- SINCE, kept (R412); reset 0 -/
  since : Nat
  /-- totals as last saved to KEEP: area, mass, unmapped, loss (R408); reset 0 -/
  saved : Nat × Nat × Nat × Nat
  /-- module time of the last step written to each cell, by its offset in TILES (R406 OVERLAP: model's own); reset none -/
  stepTimes : Bank Nat
  /-- YIELD_TILES_FULL has been raised (R408); reset 0 -/
  tilesFull : Bool
  deriving DecidableEq, Repr

/-- An EMPTY instance. -/
def Instance.reset : Instance :=
  { template := 0, autostart := false, lane := 0, label := 0, params := [], newParams := none, binds := [],
    state := .empty, cause := 0, detail := 0, starting := none, out := 0, aux := 0, execTime := 0, y := none,
    result := none, calSum := none, rho := 0, vl := 0, vsp := 0, governing := false, vHold := none, limit := 0, areaCm2 := 0, massG := 0, unmappedMg := 0,
    lossNg := 0, since := 0, saved := (0, 0, 0, 0), stepTimes := Bank.empty,
    tilesFull := false }

/-- The machine functions. -/
structure Functions where
  /-- instances 0–63 (R384) -/
  insts : Bank Instance
  /-- fused position, heading and speed over the last 60 s at 100 ms intervals, oldest first (R397); reset none -/
  track : List TrackPoint
  /-- module time of the last 1 ms tick in which the lanes executed their instances (R384); reset 0 -/
  lastTick : Nat
  deriving DecidableEq, Repr

/-- No instance defined. -/
def Functions.reset : Functions := { insts := Bank.empty, track := [], lastTick := 0 }

/-- Kinds of template (R385). -/
inductive TplKind where
  | ctrl
  | switch
  | flow
  | loss
  | scale
  | yield
  | gov
  deriving DecidableEq, Repr

/-- Kind of a template code (R385). -/
def tplKind (c : Nat) : TplKind :=
  if c = 0x06 || c = 0x0E || c = 0x0F || c = 0x19 || c = 0x1A || c = 0x1F then .switch
  else if c = 0x11 then .gov
  else if c = 0x12 then .flow
  else if c = 0x13 then .loss
  else if c = 0x14 || c = 0x16 then .scale
  else if c = 0x15 then .yield
  else .ctrl

/-- The template is marked working (R385). -/
def tplWorking (c : Nat) : Bool :=
  inRange c 0x01 0x20 && !([0x10, 0x12, 0x13, 0x14, 0x15, 0x16, 0x1A, 0x1F].contains c)

end Sys2Proof.Machine
end

