-- ==== Sys2Proof/Machine/StateInference.lean ====
section
/-! DEFINITION. State of the inference accelerator (18). -/

namespace Sys2Proof.Machine

/-- A loaded model: its container header (R596). -/
structure Model where
  kind : Nat
  ops : Nat
  clusters : Nat
  flags : Nat
  inFormat : Nat
  inW : Nat
  inH : Nat
  rateGops : Nat
  actBytes : Nat
  weightBytes : Nat
  outBytes : Nat
  appBytes : Nat
  deriving DecidableEq, Repr

/-- Where an input stands (R600–R603). -/
inductive InputPhase where
  /-- copied, not yet placed under R263 -/
  | ready
  /-- placed on the accelerator, not started -/
  | placed
  /-- running on the clusters listed since the given module time -/
  | running (clusters : List Nat) (start : Nat)
  /-- preempted at a layer boundary (R602), started at the given module time -/
  | preempted (start : Nat)
  /-- on the APP pool as work item `item` -/
  | pool (item : Nat) (start : Nat)
  deriving DecidableEq, Repr

/-- An input in a slot of INPUT_BUF. -/
structure InputSlot where
  slot : Nat
  seq : Nat
  msg : Msg
  deadline : Nat
  phase : InputPhase
  /-- predicted late under R263 -/
  late : Bool
  deriving DecidableEq, Repr

/-- A job (R612, R613). -/
structure Job where
  /-- JOB_DEFINE; empty for EMPTY -/
  desc : List Byte
  /-- RUNNING -/
  running : Bool
  /-- CAUSE of the last change -/
  cause : Nat
  inputs : List InputSlot
  /-- sequence number of the next work item, 32 bits -/
  nextItem : Nat
  /-- INPUT_LOST due on the next result (R607) -/
  lost : Bool
  runsAcc : U32
  runsPool : U32
  late : U32
  superseded : U32
  droppedLate : U32
  aborted : U32
  mismatch : U32
  lastUs : Nat
  /-- module time of the last JOB_LATE (R614) -/
  toldAt : Option Nat
  deriving DecidableEq, Repr

/-- An EMPTY job. -/
def Job.reset : Job :=
  { desc := [], running := false, cause := 0, inputs := [], nextItem := 0, lost := false, runsAcc := 0, runsPool := 0,
    late := 0, superseded := 0, droppedLate := 0, aborted := 0, mismatch := 0, lastUs := 0, toldAt := none }

/-- The accelerator. -/
structure Inference where
  /-- loaded models by placement handle, at most 32 (R597); reset none -/
  models : Bank Model
  /-- jobs 0–63 (R599); reset EMPTY -/
  jobs : Bank Job
  /-- channel that set JOB_POOL (R613); reset none -/
  poolCh : Option Nat
  deriving DecidableEq, Repr

/-- No model and no job. -/
def Inference.reset : Inference := { models := Bank.empty, jobs := Bank.empty, poolCh := none }

end Sys2Proof.Machine
end

