-- ==== Sys2Proof/Machine/StateLedger.lean ====
section
/-! DEFINITION. State of the ledger (09). -/

namespace Sys2Proof.Machine

/-- Record states (R318). -/
inductive RecState where
  | open
  | applied
  | retired
  | expired
  deriving DecidableEq, Repr

/-- STATE codes (R340). -/
def RecState.code : RecState → Nat
  | .open => 0
  | .applied => 1
  | .retired => 2
  | .expired => 3

/-- Record kinds (R319). -/
inductive RecKind where
  | command
  | edge
  | display
  | storeIntent
  | mode
  | snapshot
  | rung
  | powerFail
  deriving DecidableEq, Repr

/-- Kind codes (R319). -/
def RecKind.code : RecKind → Nat
  | .command => 1
  | .edge => 2
  | .display => 3
  | .storeIntent => 4
  | .mode => 5
  | .snapshot => 6
  | .rung => 7
  | .powerFail => 8

/-- A ledger record (R340). -/
structure Record where
  id : Nat
  kind : RecKind
  state : RecState
  dispatched : Bool
  replayed : Bool
  delivered : Bool
  /-- the reply, or the LEDGER_RESULT in its place, has been written (R331); model's own -/
  replied : Bool
  /-- its unit has reset since it was dispatched (R328); model's own -/
  uncertain : Bool
  /-- sending channel; 0xFF for other kinds -/
  ch : Nat
  /-- path of the sending channel, on which the outcome goes (R331); UNBOUND for other kinds; model's own -/
  path : Path
  unit : Nat
  opened : Nat
  /-- none for never -/
  deadline : Option Nat
  changed : Nat
  epoch : U32
  /-- expiry cause (R330), 0 otherwise -/
  cause : Nat
  body : List Byte
  deriving DecidableEq, Repr

/-- The ledger. -/
structure Ledger where
  /-- records held, in ID order, in KEEP (R318); reset none -/
  records : List Record
  /-- ID the next record receives, 64 bits (R317); reset 1 -/
  nextId : Nat
  /-- outcomes discarded under R331, 32 bits; reset 0 -/
  discarded : U32
  /-- module time at which the last replay began (R339); reset 0, none -/
  replayTime : Nat
  /-- a replay has begun and REPLAY_DONE has not been raised (R331); reset 0 -/
  replaying : Bool
  /-- counts of the replay: redispatched, confirmed, expired (R344); reset 0 -/
  counts : Nat × Nat × Nat
  /-- cause of the replay (R344): 0x01 SUP reset, 0x02 module reset, 0x03 power-fail; reset 0 -/
  replayCause : Nat
  /-- records redispatched and not yet answered by their unit, with the request each holds (R328); reset none -/
  redispatched : List Nat
  /-- applied window of each unit: IDs and reply statuses of its last 1,024 COMMAND records (R326); reset empty -/
  windows : Bank (List (Nat × Nat))
  /-- records that HOLD_REPLAY holds back (R341); reset none -/
  waiting : List Nat
  /-- ID that the next record had as the replay began: it handles the records before it (R327); reset 0 -/
  replayTo : Nat
  /-- the pass of R328 over the OPEN records is done in this replay (R331); reset 0 -/
  passed : Bool
  /-- LEDGER_PRESSURE stands for the command share (R323); reset 0 -/
  pressureCmd : Bool
  /-- LEDGER_PRESSURE stands for the other share (R323); reset 0 -/
  pressureOther : Bool
  deriving DecidableEq, Repr

/-- An empty ledger: the first ID is 1 (R317). -/
def Ledger.reset : Ledger :=
  { records := [], nextId := 1, discarded := 0, replayTime := 0, replaying := false, counts := (0, 0, 0),
    replayCause := 0, redispatched := [], windows := Bank.empty, waiting := [], replayTo := 0, passed := false,
    pressureCmd := false, pressureOther := false }

end Sys2Proof.Machine
end

