-- ==== Sys2Proof/Machine/StateMode.lean ====
section
/-! DEFINITION. State of the modes, epochs, the two-phase commit, fences, islands and authorization (01, 04, 06). -/

namespace Sys2Proof.Machine

/-- Operating modes (R130); `none` is the period before the boot commit (R127). -/
inductive Mode where
  | none
  | recovery
  | factory
  | provision
  | commission
  | parked
  | road
  | fieldReady
  | working
  | headland
  | service
  | limp
  | safeHold
  deriving DecidableEq, Repr

/-- Mode codes (R130). -/
def Mode.code : Mode → Nat
  | .none => 0x00
  | .recovery => 0x01
  | .factory => 0x02
  | .provision => 0x03
  | .commission => 0x04
  | .parked => 0x05
  | .road => 0x06
  | .fieldReady => 0x07
  | .working => 0x08
  | .headland => 0x09
  | .service => 0x0A
  | .limp => 0x0B
  | .safeHold => 0x0C

/-- The mode a code names. -/
def Mode.ofCode : Nat → Option Mode
  | 0x00 => some .none
  | 0x01 => some .recovery
  | 0x02 => some .factory
  | 0x03 => some .provision
  | 0x04 => some .commission
  | 0x05 => some .parked
  | 0x06 => some .road
  | 0x07 => some .fieldReady
  | 0x08 => some .working
  | 0x09 => some .headland
  | 0x0A => some .service
  | 0x0B => some .limp
  | 0x0C => some .safeHold
  | _ => Option.none

/-- A fenced unit (R25, R146). -/
structure Fence where
  unit : Nat
  /-- CAUSE of UNIT_FENCED (R228) -/
  cause : Nat
  /-- module time of the fence -/
  since : Nat
  /-- commit tick at which it was fenced under R146; none otherwise -/
  commit : Option Nat
  /-- it has been fenced for more than 10 s outside a mode change: a LIMP cause (R134) -/
  long : Bool
  /-- its convergence deadline has passed (R147) -/
  late : Bool
  deriving DecidableEq, Repr

/-- A mode change in progress (R141). -/
structure Change where
  /-- mode asked for -/
  requested : Mode
  /-- mode that commits (R134) -/
  target : Mode
  /-- CAUSE of R229; 0x00 for a host request -/
  cause : Nat
  /-- the host request; none for an automatic change -/
  req : Option Requester
  /-- forced entry to SAFE_HOLD (R145) -/
  forced : Bool
  /-- module time of the prepare -/
  prepare : Nat
  /-- islands that have answered ready, by number -/
  ready : List Nat
  /-- module time of the last ready, when all are in -/
  allReady : Option Nat
  /-- units fenced or in reset when the prepare was sent (R144) -/
  absent : List Nat
  /-- MODE record in the ledger; 0 before it is written -/
  record : Nat
  /-- units named as the cause of a convergence failure (R147, R229) -/
  units : List Nat
  deriving DecidableEq, Repr

/-- A challenge held for a proof (R225). -/
structure Challenge where
  nonce : List Byte
  /-- module time at which it expires -/
  expires : Nat
  deriving DecidableEq, Repr

/-- The requests that can be deferred while a mode change is in progress: by the module supervisor (R121, R138), and by the unit that
would falsify its answer (R143). -/
inductive DeferredOp where
  | modeRequest
  | rungRequest
  | selftest
  | tune
  | functionStart
  | imageInstall
  | imageRevert
  | recoveryEnter
  deriving DecidableEq, Repr

/-- A unit outside SUP defers the request; the others are held by SUP's own units and the module supervisor. -/
def DeferredOp.byUnit : DeferredOp → Bool
  | .selftest => true
  | .tune => true
  | .functionStart => true
  | _ => false

/-- State of one island (R17, R198). -/
structure Island where
  /-- island is released from reset (R126); reset 0 -/
  released : Bool
  /-- island reset counter, 32 bits (R20); reset 0 -/
  resets : U32
  /-- module times of its latest resets, newest first, for the storm of R134; reset none -/
  resetTimes : List Nat
  deriving DecidableEq, Repr

/-- An island at reset. -/
def Island.reset : Island := { released := false, resets := 0, resetTimes := [] }

/-- LIFECYCLE (R197). -/
inductive Lifecycle where
  | vendor
  | provisioned
  | commissioned
  deriving DecidableEq, Repr

/-- LIFECYCLE codes (R197). -/
def Lifecycle.code : Lifecycle → Nat
  | .vendor => 1
  | .provisioned => 2
  | .commissioned => 3

/-- A self-test in progress (R231). -/
structure SelfTest where
  unit : Nat
  depth : Nat
  req : Requester
  started : Nat
  deriving DecidableEq, Repr

/-- Modes, epochs, fences and authorization. -/
structure ModeState where
  /-- current mode (R130); reset 0x00 NONE (R127) -/
  mode : Mode
  /-- current epoch, 32 bits (R136), kept in the ledger; reset: 0 on a module that has never committed a mode -/
  epoch : U32
  /-- the boot mode has been committed since the last start (R127); reset 0 -/
  booted : Bool
  /-- mode at the last stop (R228), kept in the ledger; reset 0x00 -/
  lastMode : Mode
  /-- cause of the last stop (R229), kept in the ledger; reset 0x00 -/
  stopCause : Nat
  /-- module time of the last stop (R228); reset 0 -/
  stopTime : Nat
  /-- module time of the last commit (R227); reset 0 -/
  commitTick : Nat
  /-- CONVERGING (R146); reset 0 -/
  converging : Bool
  /-- the change in progress (R141); reset none -/
  change : Option Change
  /-- cause under which SAFE_HOLD was last committed (R824, R229), kept in the ledger; reset 0 -/
  holdCause : Nat
  /-- units named in UNITS of the MODE_CHANGED that committed the hold (R824); reset none -/
  holdUnits : List Nat
  /-- a SAFE_RST reset has been accepted since SAF reported RUN after the hold (R824); reset 0 -/
  holdRst : Bool
  /-- channel whose HOST_LOST caused the hold (R824); reset none -/
  holdChannel : Option Nat
  /-- functions with HOLD_MODULE that have demanded a hold and not returned to PERMIT after a reset, 8 bits, kept with the hold's
  cause (R824); reset 0 -/
  holdFns : Nat
  /-- causes of R135 that have arisen and for which no forced entry has begun, oldest first: CAUSE of R229, the units it
  names, and the channel of a HOST_LOST (R135); reset none -/
  holdPending : List (Nat × List Nat × Option Nat)
  /-- the first SAFE_HOLD cause held before the boot commit (R128, R135); reset none -/
  bootHold : Option Nat
  /-- fenced units, oldest first (R25, R146); reset none -/
  fences : List Fence
  /-- the islands by number (R17); reset: each `Island.reset` -/
  islands : Bank Island
  /-- challenge held for the safety password (R225); reset none -/
  challengePw : Option Challenge
  /-- challenge held for vendor authorization (R225); reset none -/
  challengeVendor : Option Challenge
  /-- consecutive failed safety-password proofs, kept in KEEP (R226); reset 0 -/
  failedPw : Nat
  /-- consecutive failed vendor proofs, kept in KEEP (R226); reset 0 -/
  failedVendor : Nat
  /-- end of the safety-password lock-out, module time, kept in KEEP (R226); reset none -/
  lockPw : Option Nat
  /-- end of the vendor lock-out, module time, kept in KEEP (R226); reset none -/
  lockVendor : Option Nat
  /-- channel that holds the commissioning session (R223, R762); reset none -/
  session : Option Nat
  /-- lifecycle (R197), kept; reset VENDOR (assumption 5) -/
  lifecycle : Lifecycle
  /-- self-tests in progress (R231); reset none -/
  selfTests : List SelfTest
  /-- Diagnostics counters, 32 bits each, at index unit × 1,024 + counter (R233); reset 0 -/
  diag : Bank U32
  /-- jack-in-the-box timeout in ms, 20–1,000 (R27, R205), kept in KEEP; shipped 100 -/
  jackMs : Nat
  /-- timeout in force since the last beat, ms (R205); shipped 100 -/
  jackInForce : Nat
  /-- module time of the module supervisor's last beat (R205); none before CTL arms the watchdog (R126); reset none -/
  lastBeat : Option Nat
  /-- the jack-in-the-box has expired and no beat has come since (R336); reset 0 -/
  jackExpired : Bool
  /-- CTL has applied safe states since the SUP reset (R328 safe_state_applied); reset 0 -/
  safeApplied : Bool
  deriving DecidableEq, Repr

/-- A module that has never committed a mode (R136), before its first start. -/
def ModeState.reset : ModeState :=
  { mode := .none, epoch := 0, booted := false, lastMode := .none, stopCause := 0, stopTime := 0, commitTick := 0,
    converging := false, change := Option.none, holdCause := 0, holdUnits := [], holdRst := false, holdChannel := Option.none, holdFns := 0, holdPending := [],
    bootHold := Option.none, fences := [], islands := Bank.empty,
    challengePw := Option.none, challengeVendor := Option.none, failedPw := 0, failedVendor := 0, lockPw := Option.none,
    lockVendor := Option.none, session := Option.none, lifecycle := .vendor,
    selfTests := [], diag := Bank.empty, jackMs := 100, jackInForce := 100, lastBeat := Option.none, jackExpired := false,
    safeApplied := false }

end Sys2Proof.Machine
end

