-- ==== Sys2Proof/Machine/StateNav.lean ====
section
/-! DEFINITION. State of the navigation baseband, the RTK engine, the inertial fusion and the timekeeper (14, 15). -/

namespace Sys2Proof.Machine

/-- Channel states (R485, R506). -/
inductive TrackState where
  | idle
  | acq
  | pullIn
  | track
  deriving DecidableEq, Repr

/-- STATE codes (R506). -/
def TrackState.code : TrackState → Nat
  | .idle => 0
  | .acq => 1
  | .pullIn => 2
  | .track => 3

/-- The window an acquisition searches (R497). -/
structure SearchWindow where
  /-- half_code_chips, 1/1,000 chip; none where the whole code is searched -/
  code : Option Nat
  /-- half_doppler_hz, mHz -/
  doppler : Nat
  deriving DecidableEq, Repr

/-- A signal channel (R484, R506). -/
structure NavChannel where
  /-- STATE (R485); reset IDLE -/
  state : TrackState
  /-- SIGNAL; 0 when IDLE; reset 0 -/
  signal : Nat
  /-- SV; 0 when IDLE; reset 0 -/
  sv : Nat
  /-- ANT; reset 0 -/
  ant : Nat
  /-- assigned by CHANNEL_SET (R505); reset 0 -/
  assigned : Bool
  /-- configured EL of an assigned channel, a spacing code (R505); reset 13 -/
  el : Nat
  /-- configured VEVL of an assigned channel, a spacing code (R505); reset 26 -/
  vevl : Nat
  /-- FLAGS bits 0–3: code lock, carrier lock, half-cycle resolved, bit sync; reset 0 -/
  locks : Nat
  /-- MULTIPATH (R488); reset 0 -/
  multipath : Bool
  /-- CYCLE_SLIP due on the next measurement (R490, R496); reset 0 -/
  slip : Bool
  /-- CN0, 0.01 dB-Hz; reset 0 -/
  cn0 : Nat
  /-- ELEV, degrees; reset 0 -/
  elev : Int
  /-- MP_INDEX (R488); reset 0 -/
  mpIndex : Nat
  /-- module time since when MP_INDEX lies on the other side of MP_THRESH than MULTIPATH says (R488); reset none -/
  mpSince : Option Nat
  /-- GLO_K; reset 0 -/
  gloK : Int
  /-- LOCK_MS, 32 bits, saturating; reset 0 -/
  lockMs : Nat
  /-- DOPPLER, mHz; reset 0 -/
  doppler : Int
  /-- last PSEUDORANGE, 0.1 mm: the code phase at which a search after a loss is centred (R485); reset 0 -/
  range : Nat
  /-- module time since when CN0 lies below CN0_MASK (R485); reset none -/
  lowSince : Option Nat
  /-- half-width of the search for the signal, set as ACQ begins (R497); reset none -/
  search : Option SearchWindow
  /-- half-chip corrections of the code phase under R490, signed towards E; reset 0 -/
  shift : Int
  deriving DecidableEq, Repr

/-- An IDLE channel. -/
def NavChannel.reset : NavChannel :=
  { state := .idle, signal := 0, sv := 0, ant := 0, assigned := false, el := 13, vevl := 26, locks := 0,
    multipath := false, slip := false, cn0 := 0, elev := 0, mpIndex := 0, mpSince := none, gloK := 0, lockMs := 0,
    doppler := 0, range := 0, lowSince := none, search := none, shift := 0 }

/-- NAV_CONFIG (R504), kept in KEEP. -/
structure NavConfig where
  /-- SIGNALS, 32 bits; shipped every signal but L1C, E6, L6 and SBAS L1 -/
  signals : Nat
  /-- ELEV_MASK; shipped 5 -/
  elevMask : Nat
  /-- CN0_MASK; shipped 25 -/
  cn0Mask : Nat
  /-- ANT_B_CHANNELS; shipped 128 -/
  antB : Nat
  /-- MEAS_HZ; shipped 10 -/
  measHz : Nat
  /-- EL; shipped 13 -/
  el : Nat
  /-- VEVL; shipped 26 -/
  vevl : Nat
  /-- MP_MODE DOUBLE_DELTA; shipped 1 -/
  doubleDelta : Bool
  /-- MP_THRESH; shipped 40 -/
  mpThresh : Nat
  /-- PLL_BW; shipped 15 -/
  pllBw : Nat
  /-- DLL_BW; shipped 50 -/
  dllBw : Nat
  /-- INT_MS; shipped 5 -/
  intMs : Nat
  /-- BLANK_THRESH; shipped 50 -/
  blankThresh : Nat
  /-- NOTCH_ENABLE; shipped 1 -/
  notch : Bool
  /-- BOC_CHECK; shipped 1 -/
  boc : Bool
  deriving DecidableEq, Repr

/-- The shipped configuration: SIGNALS bits 4 × (code div 16) + (code mod 16) − 1 but those of 0x02, 0x14, 0x44 and 0x51
(R483, R504). -/
def NavConfig.shipped : NavConfig :=
  { signals := 0x73f7d, elevMask := 5, cn0Mask := 25, antB := 128, measHz := 10, el := 13, vevl := 26,
    doubleDelta := true, mpThresh := 40, pllBw := 15, dllBw := 50, intMs := 5, blankThresh := 50, notch := true,
    boc := true }

/-- A notch (R492). -/
structure Notch where
  /-- bin it stands on, that of its interferer -/
  bin : Nat
  /-- 3 dB width, 10 Hz units -/
  width : Nat
  /-- module time since when the bin stays below the median plus 10 dB -/
  lowSince : Option Nat
  deriving DecidableEq, Repr

/-- One band of one antenna (R491–R495, R511). -/
structure NavBand where
  /-- JN_DB; reset 0 -/
  jn : Nat
  /-- STATE (R491); reset 0 -/
  state : Nat
  /-- module time of the last INTERFERENCE_STATE; reset none -/
  reportedAt : Option Nat
  /-- STATE last reported in an event; reset 0 -/
  reported : Nat
  /-- notches, at most 4; reset none -/
  notches : List Notch
  /-- bins that stand 15 dB above the median, with the number of consecutive spectra; reset none -/
  suspects : List (Nat × Nat)
  /-- BLANK_PM; reset 0 -/
  blankPm : Nat
  /-- GAIN_LOW; reset 0 -/
  gainLow : Bool
  /-- GAIN_HIGH; reset 0 -/
  gainHigh : Bool
  deriving DecidableEq, Repr

/-- A band at reset. -/
def NavBand.reset : NavBand :=
  { jn := 0, state := 0, reportedAt := none, reported := 0, notches := [], suspects := [], blankPm := 0, gainLow := false,
    gainHigh := false }

/-- An antenna (R494). -/
structure Antenna where
  /-- BIAS_STATE: 0 OFF, 1 OK, 2 OPEN, 3 SHORT; reset 0 -/
  bias : Nat
  /-- BIAS_MA; reset 0 -/
  ma : Nat
  /-- module time at which a SHORT last switched the bias off; reset none -/
  shortAt : Option Nat
  /-- bands U, L2, L5 as 0–2 -/
  bands : Bank NavBand
  deriving DecidableEq, Repr

/-- An antenna at reset. -/
def Antenna.reset : Antenna := { bias := 0, ma := 0, shortAt := none, bands := Bank.empty }

/-- An ephemeris (R498, R499). -/
structure Ephemeris where
  /-- reference time, module time -/
  ref : Nat
  /-- from ORBIT_AID -/
  aided : Bool
  /-- the RTCM frame it came in; empty when broadcast -/
  frame : List Byte
  /-- module time at which it was stored -/
  storedAt : Nat
  deriving DecidableEq, Repr

/-- Position of R498, kept. -/
structure KeptPosition where
  lat : Int
  lon : Int
  height : Int
  fix : Nat
  /-- module time at which it was kept -/
  since : Nat
  /-- NAV stopped in PARKED below 0.5 km/h (R497 v_unc) -/
  still : Bool
  deriving DecidableEq, Repr

/-- Navigation data kept (R498), and the aids of R507 that stand. -/
structure NavKept where
  /-- ephemerides by system × 256 + SV; reset none -/
  ephemerides : Bank Ephemeris
  /-- module time of the almanac, all systems but GLONASS; reset none -/
  almanac : Option Nat
  /-- module time of the GLONASS almanac; reset none -/
  almanacGlo : Option Nat
  /-- last position, velocity and fix; reset none -/
  position : Option KeptPosition
  /-- learned TCXO offset, ppb, by temperature + 100 °C; reset none -/
  tcxo : Bank Int
  /-- module time of the UTC and ionosphere parameters; reset none -/
  utcAt : Option Nat
  /-- GPS − UTC, s; reset 0 (assumption 2) -/
  leap : Nat
  /-- the RTC has run since NAV last disciplined module time (R497); reset 0, never disciplined -/
  rtcGood : Bool
  deriving DecidableEq, Repr

/-- Nothing kept. -/
def NavKept.reset : NavKept :=
  { ephemerides := Bank.empty, almanac := none, almanacGlo := none, position := none, tcxo := Bank.empty, utcAt := none,
    leap := 0, rtcGood := false }

/-- Items of ACQ_AID in force since the NAV start (R507). -/
structure AcqAid where
  /-- TIME and TIME_UNC_NS -/
  time : Option (Nat × Nat)
  /-- LAT, LON, HEIGHT, POS_UNC_M -/
  pos : Option (Int × Int × Int × Nat)
  /-- VEL_UNC_MMS -/
  vel : Option Nat
  /-- FREQ_UNC_PPB -/
  freq : Option Nat
  deriving DecidableEq, Repr

/-- No aid. -/
def AcqAid.none : AcqAid := { time := Option.none, pos := Option.none, vel := Option.none, freq := Option.none }

/-- A NAV start in progress (R500, R502). -/
structure NavStart where
  /-- 1 HOT, 2 WARM, 3 COLD -/
  cls : Nat
  /-- CAUSE of NAV_STARTED -/
  cause : Nat
  /-- module time from which TTFF runs (R501) -/
  since : Nat
  /-- module time at which the start began (R500) -/
  begun : Nat
  /-- raised by an aid -/
  raised : Bool
  /-- kept position discarded (R502) -/
  discarded : Bool
  req : Option Requester
  /-- KIND of RESTART: what of the kept data is disregarded for this start (R509); 1 otherwise -/
  kind : Nat
  deriving DecidableEq, Repr

/-- The navigation baseband. -/
structure Baseband where
  /-- NAV_CONFIG as last set (R504) -/
  cfg : NavConfig
  /-- the configuration whose loop, multipath, measurement and interference fields are in force until `tuneAt` (R504);
  shipped values -/
  before : NavConfig
  /-- the 20 ms boundary from which those fields of `cfg` are in force (R504); reset 0 -/
  tuneAt : Nat
  /-- the measurement stream carries epochs: since a RESTART a channel has reached TRACK (R509); reset 1 -/
  flowing : Bool
  /-- channels 0–319 (R484) -/
  chans : Bank NavChannel
  /-- ANT_A and ANT_B as 0 and 1 -/
  ants : Bank Antenna
  kept : NavKept
  aid : AcqAid
  /-- the start in progress; reset none -/
  starting : Option NavStart
  /-- CLASS of the current or last start; reset 3 (assumption 2) -/
  cls : Nat
  /-- TTFF_MS of the last start; reset 0 -/
  ttff : Nat
  /-- satellites visible with a usable orbit, system × 256 + SV, as of the last reallocation; reset none -/
  visible : List Nat
  /-- EPOCH_SEQ, 32 bits; reset 0 -/
  epochSeq : U32
  deriving DecidableEq, Repr

/-- The baseband at reset. -/
def Baseband.reset : Baseband :=
  { cfg := NavConfig.shipped, before := NavConfig.shipped, tuneAt := 0, flowing := true, chans := Bank.empty, ants := Bank.empty, kept := NavKept.reset, aid := AcqAid.none,
    starting := none, cls := 3, ttff := 0, visible := [], epochSeq := 0 }

/-- A solution as its 64-byte body carries it (R524). -/
structure Solution where
  time : Nat
  lat : Int
  lon : Int
  height : Int
  velN : Int
  velE : Int
  velU : Int
  speed : Int
  heading : Nat
  pitch : Int
  roll : Int
  yawRate : Int
  hAcc : Nat
  vAcc : Nat
  hdgAcc : Nat
  baseline : Nat
  fix : Nat
  headingValid : Bool
  dead : Bool
  reversing : Bool
  timeValid : Bool
  aligned : Bool
  step : Bool
  sats : Nat
  corrAge : Nat
  deriving DecidableEq, Repr

/-- No solution: TIME 0. -/
def Solution.none : Solution :=
  { time := 0, lat := 0, lon := 0, height := 0, velN := 0, velE := 0, velU := 0, speed := 0, heading := 0, pitch := 0,
    roll := 0, yawRate := 0, hAcc := 0, vAcc := 0, hdgAcc := 0, baseline := 0, fix := 0, headingValid := false,
    dead := false, reversing := false, timeValid := false, aligned := false, step := false, sats := 0, corrAge := 255 }

/-- SOLUTION_CONFIG (R537), kept in KEEP. -/
structure SolutionConfig where
  /-- SOL_HZ; shipped 10 -/
  solHz : Nat
  /-- RTK_ENABLE; shipped 1 -/
  rtk : Bool
  /-- HEADING_ENABLE; shipped 1 -/
  heading : Bool
  /-- AGE_MAX_S; shipped 30 -/
  ageMax : Nat
  /-- DR_LIMIT_S; shipped 10 -/
  drLimit : Nat
  /-- BASELINE_MM; shipped 500 (assumption 2) -/
  baseline : Nat
  /-- MOUNT_ROLL; shipped 0 (assumption 2) -/
  mountRoll : Int
  /-- MOUNT_PITCH; shipped 0 (assumption 2) -/
  mountPitch : Int
  /-- MOUNT_YAW; shipped 0 (assumption 2) -/
  mountYaw : Int
  /-- IMU_FWD_MM; shipped 0 (assumption 2) -/
  imuFwd : Int
  /-- IMU_RIGHT_MM; shipped 0 (assumption 2) -/
  imuRight : Int
  /-- IMU_UP_MM; shipped 0 (assumption 2) -/
  imuUp : Int
  /-- ANT_B_AZ; shipped 0 (assumption 2) -/
  antBAz : Nat
  deriving DecidableEq, Repr

/-- The shipped configuration. -/
def SolutionConfig.shipped : SolutionConfig :=
  { solHz := 10, rtk := true, heading := true, ageMax := 30, drLimit := 10, baseline := 500, mountRoll := 0,
    mountPitch := 0, mountYaw := 0, imuFwd := 0, imuRight := 0, imuUp := 0, antBAz := 0 }

/-- What the engine makes of one measurement (R518). -/
structure Weight where
  /-- system × 256 + SV -/
  sat : Nat
  /-- ANT -/
  ant : Nat
  /-- code variance, 10^−9 mm² -/
  code : Nat
  /-- phase variance, 10^−9 mm² -/
  phase : Nat
  /-- it takes part in ambiguity fixing -/
  fixable : Bool
  deriving DecidableEq, Repr

/-- The RTK engine (R516, R540). -/
structure Rtk where
  /-- correction bytes that do not yet make a frame (R516); reset none -/
  buffer : List Byte
  /-- station IDs for which a 1005 or 1006 message has come (R517); reset none -/
  stations : List Nat
  /-- weights of the measurements of the latest epoch (R518); reset none -/
  weights : List Weight
  /-- station ID of the last corrections; reset 0 -/
  corrStation : Nat
  /-- module time of the newest usable corrections (R517); reset none -/
  corrAt : Option Nat
  /-- the fixed ambiguities were dropped by a change of station (R517); reset 0 -/
  dropped : Bool
  /-- the latest solution (R524); reset none -/
  last : Solution
  /-- module time of the latest solution; reset none -/
  lastAt : Option Nat
  /-- BASE_DIST_M (R540); reset 0 -/
  baseDist : Nat
  /-- FRAMES, 32 bits (R540); reset 0 -/
  frames : U32
  /-- CRC_ERR, 32 bits (R540); reset 0 -/
  crcErr : U32
  /-- FIXED_SATS (R540); reset 0 -/
  fixedSats : Nat
  /-- a step has occurred since the last solution (R524); reset 0 -/
  stepped : Bool
  deriving DecidableEq, Repr

/-- The RTK engine at reset. -/
def Rtk.reset : Rtk :=
  { buffer := [], stations := [], weights := [], corrStation := 0, corrAt := none, dropped := false, last := Solution.none,
    lastAt := none, baseDist := 0, frames := 0, crcErr := 0, fixedSats := 0, stepped := false }

/-- GUIDE_LINE (R538). -/
structure GuideLine where
  curve : Bool
  aE : Int
  aN : Int
  bE : Int
  bN : Int
  swath : Nat
  fwd : Int
  right : Int
  place : Nat
  points : Nat
  /-- 10^−7 degree -/
  lat : Int
  /-- 10^−7 degree -/
  lon : Int
  laMin : Nat
  laMs : Nat
  kappaMax : Nat
  xteMax : Nat
  deriving DecidableEq, Repr

/-- An engagement (R526, R539). -/
structure Steering where
  fixMin : Nat
  /-- ISO_MB; none for 0xFF -/
  isoMb : Option Nat
  xteSlot : Nat
  curvSlot : Nat
  stateSlot : Nat
  deriving DecidableEq, Repr

/-- The inertial fusion unit. -/
structure Fusion where
  cfg : SolutionConfig
  /-- the latest fused solution (R524); reset none -/
  last : Solution
  /-- fused solutions run: a GNSS solution has come and the dead reckoning has not run out (R521, R522); reset 0 -/
  running : Bool
  /-- module time of the last GNSS solution; reset none -/
  gnssAt : Option Nat
  /-- dead reckoning since (R522); reset none -/
  deadSince : Option Nat
  /-- ALIGNED (R521); reset 0 -/
  aligned : Bool
  /-- distance travelled towards alignment, µm (R521); reset 0 -/
  travel : Nat
  /-- REVERSING (R523); reset 0 -/
  reversing : Bool
  /-- a step has occurred since the last solution (R524); reset 0 -/
  stepped : Bool
  /-- the line (R525); reset none -/
  line : Option GuideLine
  /-- slots and controller of the last STEER (R539); reset none -/
  steer : Option Steering
  /-- steering is engaged (R527); reset 0 -/
  engaged : Bool
  /-- module time since when the fix is below FIX_MIN (R527); reset none -/
  fixLow : Option Nat
  /-- pass kept (R525); reset 0 -/
  pass : Int
  /-- XTE_MM (R540); reset 0 -/
  xte : Int
  /-- kappa of the last computation (R526); reset 0 -/
  kappa : Int
  deriving DecidableEq, Repr

/-- The fusion unit at reset. -/
def Fusion.reset : Fusion :=
  { cfg := SolutionConfig.shipped, last := Solution.none, running := false, gnssAt := none, deadSince := none,
    aligned := false, travel := 0, reversing := false, stepped := false, line := none, steer := none, engaged := false,
    fixLow := none, pass := 0, xte := 0, kappa := 0 }

/-- Time sources (R528, R534). -/
inductive TimeSource where
  | gnss
  | peer
  | holdover
  | rtc
  deriving DecidableEq, Repr

/-- SOURCE codes (R534). -/
def TimeSource.code : TimeSource → Nat
  | .gnss => 1
  | .peer => 2
  | .holdover => 3
  | .rtc => 4

/-- The timekeeper. -/
structure Timekeeper where
  /-- HOLDOVER_S, kept in KEEP (R541); shipped 600 -/
  holdoverS : Nat
  /-- PULSE_ONLY_VALID, kept in KEEP (R541); shipped 0 (assumption 2) -/
  onlyValid : Bool
  /-- TPA_FLAGS and TPB_FLAGS, kept in KEEP (R541); shipped 1 and 0 -/
  flags : Nat × Nat
  /-- TPA_WIDTH_MS and TPB_WIDTH_MS, kept in KEEP (R541); shipped 100 -/
  width : Nat × Nat
  /-- TPA_CABLE_NS and TPB_CABLE_NS, kept in KEEP (R541); shipped 0 -/
  cable : Int × Int
  /-- a TIME_CONFIG that takes effect at the next pulse (R541), its payload; reset none -/
  nextCfg : Option (List Byte)
  /-- SOURCE (R528); reset RTC -/
  source : TimeSource
  /-- TIME_VALID (R530); reset 0 -/
  valid : Bool
  /-- TIME_VALID has been set since the NAV start (R534); reset 0 -/
  everValid : Bool
  /-- module time of the last GNSS or peer time (R529); reset none -/
  lastTime : Option Nat
  /-- module time at which holdover began (R529); reset none -/
  holdSince : Option Nat
  /-- TCXO temperature when holdover began, °C (R529); reset 0 -/
  holdTemp : Int
  /-- TCXO temperature, °C (R529); reset 0 (assumption 2) -/
  temp : Int
  /-- module time starts from STOP_TIME: ERROR_NS reads 0xFFFF_FFFF (R530); reset 1, AON has not run -/
  lostTime : Bool
  /-- SLEW_NS: offset still being slewed (R531); reset 0 -/
  slew : Int
  /-- a step scheduled: STEP_NS, and the pulse at which it applies once its message is issued (R531); reset none -/
  step : Option (Int × Option Nat)
  /-- body of the timing message of the next pulse (R534), 40 bytes; reset 0 -/
  message : List Byte
  /-- module time of the last pulse instant (R533); reset 0 -/
  lastPulse : Nat
  /-- LAST_STEP_TIME (R541); reset 0 -/
  lastStep : Nat
  /-- pulses emitted on TPULSE_A and TPULSE_B (model's own: what the pins show); reset 0 -/
  pulses : Nat × Nat
  deriving DecidableEq, Repr

/-- The timekeeper at reset. -/
def Timekeeper.reset : Timekeeper :=
  { holdoverS := 600, onlyValid := false, flags := (1, 0), width := (100, 100), cable := (0, 0), nextCfg := none,
    source := .rtc, valid := false, everValid := false, lastTime := none, holdSince := none, holdTemp := 0, temp := 0,
    lostTime := true, slew := 0, step := none, message := List.replicate 40 0, lastPulse := 0, lastStep := 0,
    pulses := (0, 0) }

/-- The NAV island. -/
structure Nav where
  base : Baseband
  rtk : Rtk
  fusion : Fusion
  time : Timekeeper
  deriving DecidableEq, Repr

/-- NAV at reset. -/
def Nav.reset : Nav :=
  { base := Baseband.reset, rtk := Rtk.reset, fusion := Fusion.reset, time := Timekeeper.reset }

end Sys2Proof.Machine
end

