-- ==== Sys2Proof/Machine/StateNet.lean ====
section
/-! DEFINITION. State of the Ethernet switch and the fleet agent (20). -/

namespace Sys2Proof.Machine

/-- A gate control list (R664, R678). -/
structure GateList where
  base : Nat
  /-- GATES and INTERVAL_NS -/
  entries : List (Nat × Nat)
  deriving DecidableEq, Repr

/-- A pending change of a port's gating (R665). -/
structure GatePending where
  req : Requester
  /-- none for a disable -/
  list : Option GateList
  /-- module time of its dispatch and 1 ms -/
  ready : Nat
  /-- module time at which it becomes operational -/
  adopt : Nat
  deriving DecidableEq, Repr

/-- A frame that waits in an egress buffer (R656, R664). -/
structure EgressFrame where
  cls : Nat
  frame : EthFrame
  deriving DecidableEq, Repr

/-- A switch port 0–8 (R655, R677). -/
structure EthPort where
  /-- PORT_CONFIG, 16 bytes, kept in KEEP; empty as shipped (R655, R677) -/
  cfg : List Byte
  /-- LINK: 0 off, 1 down, 2 up, 3 TC10 sleep; reset 0 -/
  link : Nat
  /-- SPEED_MBPS; reset 0 -/
  speed : Nat
  /-- SQI; reset 0 (assumption 2) -/
  sqi : Nat
  /-- E5 follows beacons or coordinates: PLCA code of PORT_STATUS; reset 0 -/
  plca : Nat
  /-- RX_FRAMES, 32 bits; reset 0 -/
  rx : U32
  /-- TX_FRAMES, 32 bits; reset 0 -/
  tx : U32
  /-- DROPPED, 32 bits; reset 0 -/
  dropped : U32
  /-- CRC_ERR, 32 bits; reset 0 -/
  crcErr : U32
  /-- gate control list in force (R664); reset none, every gate open -/
  gates : Option GateList
  /-- pending change of the list (R665); reset none -/
  pending : Option GatePending
  /-- gates open at present, bit n for class n (R664); reset 0xFF -/
  openGates : Nat
  /-- until this module time the gates keep the states they have (R666): the first cycle start after a step of module time,
  or after the port linked on exit from a rung; reset none -/
  gateHold : Option Nat
  /-- frames that wait for a gate, oldest first; at most 256 KB (R656); reset none -/
  egress : List EgressFrame
  /-- frames sent, oldest first (model's own: what the wire sees); reset none -/
  wire : List EthFrame
  /-- Sync, Announce and Pdelay messages sent (R661); reset 0 -/
  ptp : Nat × Nat × Nat
  /-- a TC10 wake-up request on the port ended the rung, and it has not linked since (R658); reset 0 -/
  woke : Bool
  deriving DecidableEq, Repr

/-- A port at reset. -/
def EthPort.reset : EthPort :=
  { cfg := [], link := 0, speed := 0, sqi := 0, plca := 0, rx := 0, tx := 0, dropped := 0, crcErr := 0, gates := none,
    pending := none, openGates := 0xFF, gateHold := none, egress := [], wire := [], ptp := (0, 0, 0),
    woke := false }

/-- What the last Announce said (R535). -/
structure Announced where
  clockClass : Nat
  accuracy : Nat
  timeSource : Nat
  utcOffset : Nat
  utcValid : Bool
  deriving DecidableEq, Repr

/-- The Ethernet switch. -/
structure EthSwitch where
  /-- ports 0–8 -/
  ports : Bank EthPort
  /-- learned addresses: address, port, module time last seen; at most 4,096 (R656); reset none -/
  learned : List (Nat × Nat × Nat)
  /-- PORTS of SYNC_CONFIG, kept in KEEP (R679); shipped 0xBF -/
  syncPorts : Nat
  /-- LOG_SYNC, kept in KEEP; shipped −3 -/
  logSync : Int
  /-- PRIORITY1 and PRIORITY2, kept in KEEP; shipped 246 and 248 -/
  prio : Nat × Nat
  /-- IP_CONFIG, 16 bytes, kept in KEEP; empty before the first one (assumption 2) -/
  ip : List Byte
  /-- IPv4 address of each node 1–1,023, in transmission order, kept in KEEP (R668); shipped none (assumption 2) -/
  nodes : Bank (List Byte)
  /-- what the last Announce said (R535, R661); reset none -/
  announced : Option Announced
  /-- PTP time of the last Sync, ns (R535, R661); reset 0 -/
  lastSync : Nat
  /-- module times of the last Sync, Announce and Pdelay (R661); reset none -/
  syncAt : Option Nat
  announceAt : Option Nat
  pdelayAt : Option Nat
  /-- the termination of E5's segment is on (R660); reset 0 -/
  term : Bool
  /-- hosts that ARP has resolved: address and MAC (R669); reset none -/
  arp : List (List Byte × Nat)
  deriving DecidableEq, Repr

/-- The switch at reset. -/
def EthSwitch.reset : EthSwitch :=
  { ports := Bank.empty, learned := [], syncPorts := 0xBF, logSync := -3, prio := (246, 248), ip := [],
    nodes := Bank.empty, announced := none, lastSync := 0, syncAt := none, announceAt := none, pdelayAt := none,
    term := false, arp := [] }

/-- A cell that has changed since it was last sent (R671): coverage or yield, the tile's slot offset, column and row, and the
periods after which it is sent again. -/
structure ChangedCell where
  yield : Bool
  /-- offset of the tile in its placement -/
  tile : Nat
  col : Nat
  row : Nat
  /-- exchange periods left before it is sent -/
  wait : Nat
  /-- this is the repetition of R671 -/
  again : Bool
  deriving DecidableEq, Repr

/-- A sender of fleet datagrams (R672). -/
structure FleetSender where
  machine : Nat
  /-- highest SEQ accepted -/
  high : Nat
  /-- bit n for SEQ high − 1 − n, 64 bits -/
  window : Nat
  lastHeard : Nat
  deriving DecidableEq, Repr

/-- A MAP_MERGE job (R676). -/
structure MergeJob where
  req : Requester
  source : Nat
  target : Nat
  markFleet : Bool
  /-- predicted late under R263 -/
  late : Bool
  /-- on the APP pool -/
  pool : Bool
  /-- operations (R676) -/
  ops : Nat
  /-- the accelerator's time for it, ns: free (R676) -/
  accNs : Nat
  /-- module time of its placement -/
  start : Nat
  /-- module time of its deadline -/
  deadline : Nat
  deriving DecidableEq, Repr

/-- The fleet agent. -/
structure Fleet where
  /-- FLEET_CONFIG, 40 bytes, kept in KEEP; empty before the first one: ENABLE 0 -/
  cfg : List Byte
  /-- STATE (R680); reset 0 OFF -/
  state : Nat
  /-- SEQ_OUT, 64 bits, kept in KEEP (R670); reset 0 (assumption 2) -/
  seqOut : Nat
  /-- SENT, RECEIVED, MERGED, AUTH, REPLAY, STALE, MISMATCH, 32 bits each; reset 0 -/
  counts : List U32
  /-- senders heard, most recent first, at most 256 (R672); reset none -/
  senders : List FleetSender
  /-- cells to send, oldest change first (R671); reset none -/
  changed : List ChangedCell
  /-- FLEET_TILES_FULL has been raised (R674); reset 0 -/
  tilesFull : Bool
  /-- merge jobs placed, oldest first (R676); reset none -/
  merges : List MergeJob
  /-- module time of the last exchange (R671); reset none -/
  exchangeAt : Option Nat
  /-- datagrams sent, oldest first (model's own: what the wire sees); reset none -/
  wire : List (List Byte)
  deriving DecidableEq, Repr

/-- The agent at reset. -/
def Fleet.reset : Fleet :=
  { cfg := [], state := 0, seqOut := 0, counts := List.replicate 7 0, senders := [], changed := [], tilesFull := false,
    merges := [], exchangeAt := none, wire := [] }

end Sys2Proof.Machine
end

