-- ==== Sys2Proof/Machine/Memory.lean ====
section
/-! DEFINITION. Addressed bytes in one canonical form: the content of a placement (R240). Addresses strictly rise, and no
entry holds 0, which is what an unlisted address reads as. -/

namespace Sys2Proof.Machine

/-- A placement's bytes: offsets and their nonzero bytes. -/
structure Memory where
  cells : List Host.Cell
  deriving DecidableEq, Repr

/-- Every byte 0 (R240). -/
def Memory.empty : Memory := ⟨[]⟩

/-- The byte the cells list at an offset, 0 where none is listed (R240). -/
def readCells (a : Nat) : List Host.Cell → Byte
  | [] => 0
  | (i, b) :: m => if i = a then b else readCells a m

/-- The byte at an offset. -/
def Memory.read (m : Memory) (a : Nat) : Byte := readCells a m.cells

/-- Write one byte: 0 takes the entry out, any other byte stands in its place. -/
def writeCells (a : Nat) (v : Byte) : List Host.Cell → List Host.Cell
  | [] => if v = 0 then [] else [(a, v)]
  | (i, b) :: m =>
    if a < i then (if v = 0 then (i, b) :: m else (a, v) :: (i, b) :: m)
    else if i = a then (if v = 0 then m else (a, v) :: m)
    else (i, b) :: writeCells a v m

/-- Write the byte at an offset. -/
def Memory.write (m : Memory) (a : Nat) (v : Byte) : Memory := ⟨writeCells a v m.cells⟩

/-- Write a run of bytes from an offset. -/
def Memory.writes (m : Memory) (a : Nat) : List Byte → Memory
  | [] => m
  | v :: vs => (m.write a v).writes (a + 1) vs

/-- The `n` bytes from an offset. -/
def Memory.reads (m : Memory) (a n : Nat) : List Byte := (List.range n).map fun i => m.read (a + i)

/-- `m` with the bytes of `src` at offsets `a` to `a + n - 1`. -/
def Memory.copyFrom (m src : Memory) (a n : Nat) : Memory :=
  (src.cells.filter fun c => a ≤ c.1 && c.1 < a + n).foldl (fun m c => m.write c.1 c.2)
    ⟨m.cells.filter fun c => !(a ≤ c.1 && c.1 < a + n)⟩

/-- Offsets strictly rise. -/
def risingCells : List Host.Cell → Bool
  | [] => true
  | [_] => true
  | (i, _) :: (j, y) :: m => decide (i < j) && risingCells ((j, y) :: m)

/-- The canonical form: offsets strictly rise and no entry holds 0. -/
def Memory.wf (m : Memory) : Bool := risingCells m.cells && m.cells.all fun c => c.2 != 0

end Sys2Proof.Machine
end

