-- ==== Sys2Proof/Machine/StatePlacement.lean ====
section
/-! DEFINITION. State of the placement engine, the Puppeteer (07). -/

namespace Sys2Proof.Machine

/-- A chunk of 64 KB with a promoted copy, or with a history of accesses (R244). -/
structure Chunk where
  /-- tier of the promoted copy; 0 where there is none -/
  tier : Nat
  /-- accesses of the last 8 windows of 1 ms, bit 0 the latest (R244) -/
  hist : Nat
  /-- windows since the last access (R244) -/
  idle : Nat
  /-- module time of the last access (R246) -/
  lastUse : Nat
  deriving DecidableEq, Repr

/-- A SYNC waiting for its writes to be written back (R253). -/
structure Syncing where
  req : Requester
  offset : Nat
  length : Nat
  /-- module time of the request: writes made before it count -/
  since : Nat
  deriving DecidableEq, Repr

/-- A mapped view (R255). -/
structure View where
  /-- start in the aperture -/
  address : Nat
  offset : Nat
  length : Nat
  /-- the MAP whose completion is due; none once PLACEMENT_READY has been raised -/
  req : Option Requester
  deriving DecidableEq, Repr

/-- A write-back unit in flight (R253). -/
structure WriteBack where
  /-- ledger record of the store write intent -/
  record : Nat
  offset : Nat
  length : Nat
  /-- blocks it writes back, with the module time of the first write it holds -/
  blocks : Bank Nat
  deriving DecidableEq, Repr

/-- A placement (R236, R270). -/
structure Placement where
  cls : Nat
  dur : Nat
  /-- FLAGS bits 0 RETAIN and 1 SHARED -/
  flags : Nat
  prio : Nat
  /-- granted size, bytes -/
  size : Nat
  /-- committed rate, MB/s -/
  rate : Nat
  label : Nat
  /-- listed units (R241) -/
  units : List Nat
  /-- home tier code (R242) -/
  home : Nat
  /-- pin tier code; 0 if unpinned (R256) -/
  pin : Nat
  /-- owning channel (R250) -/
  owner : Nat
  /-- chunk migrations since grant, 32 bits (R270) -/
  moves : U32
  /-- chunks with a copy or a history (R244) -/
  chunks : Bank Chunk
  /-- 4 KB blocks in no write-back unit and not yet in the shadow or written back, with the module time of the first write -/
  dirty : Bank Nat
  /-- bytes as a reader sees them (R240) -/
  mem : Memory
  /-- bytes as they stand in the DURABLE home: written back (R239, R253) -/
  synced : Memory
  /-- PINs whose completion waits until the placement lies wholly in its pin tier (R269) -/
  pinning : List Requester
  syncs : List Syncing
  views : List View
  writing : List WriteBack
  /-- chunks a rung moved out of their home and that are not yet restored, with the tier they stand in: 2 FAR, 4 the shadow
  in STORE (R258, R259) -/
  unrestored : Bank Nat
  deriving DecidableEq, Repr

/-- A chunk migration in flight (R244, R255). -/
structure Move where
  handle : Nat
  chunk : Nat
  /-- tier it goes to -/
  to_ : Nat
  deriving DecidableEq, Repr

/-- Quota of a channel (R273). -/
structure Quota where
  /-- MB/s; 0xFFFF_FFFF unlimited -/
  rate : Nat
  /-- NEAR, FAR, KEEP, STORE in bytes; 2^64 − 1 unlimited -/
  space : List Nat
  deriving DecidableEq, Repr

/-- The shipped quota: unlimited (R273). -/
def Quota.shipped : Quota := { rate := 0xFFFFFFFF, space := List.replicate 4 (2 ^ 64 - 1) }

/-- The APP worker pool (R274). -/
structure JobPool where
  workers : Nat
  /-- GOPS per worker -/
  gops : Nat
  /-- stream handle on which work is delivered -/
  stream : Nat
  deriving DecidableEq, Repr

/-- The placement engine. -/
structure Puppeteer where
  /-- live placements by handle (R251); reset none -/
  places : Bank Placement
  /-- handle the next placement or stream receives, kept (R251); reset 1 (DESIGN CHOICE, assumption 9) -/
  nextHandle : Nat
  /-- chunk migrations in flight (R244, R255); reset none -/
  moving : List Move
  /-- quotas by channel, kept in KEEP (R273); shipped unlimited -/
  quotas : Bank Quota
  /-- the APP worker pool (R274); reset none -/
  pool : Option JobPool
  /-- SIZE_GB for the next start, kept in KEEP (R257, R275); shipped 8 -/
  bootGb : Nat
  /-- SIZE_GB of the last start, which an exit from a rung keeps (R257, R275); reset 8 -/
  viewGb : Nat
  /-- handle of the boot view (R257); reset 0, none before the first start -/
  bootView : Nat
  /-- TIER_PRESSURE stands, by tier code (R276); reset 0 -/
  pressed : Bank Bool
  /-- tiers whose service is below their commitment (R276), bit by tier code; reset 0 -/
  degraded : Nat
  /-- events of R276 that wait for MODE_ENTERED or for the exit from a rung: code and fields (R259, R276); reset none -/
  owed : List (Nat × List Byte)
  deriving DecidableEq, Repr

/-- No placement. -/
def Puppeteer.reset : Puppeteer :=
  { places := Bank.empty, nextHandle := 1, moving := [], quotas := Bank.empty, pool := none, bootGb := 8, viewGb := 8,
    bootView := 0, pressed := Bank.empty, degraded := 0, owed := [] }

end Sys2Proof.Machine
end

