-- ==== Sys2Proof/Machine/StatePower.lean ====
section
/-! DEFINITION. State of the supply, crank hold, the hold-up reserve, the power rungs and wake sources (02, 03, 06), and of
the derating of 25. -/

namespace Sys2Proof.Machine

/-- How far the module as a whole is from running (R83, R87, R102, R125). -/
inductive Life where
  /-- unpowered, or shut down by a controlled power-fail, until the start threshold is met -/
  | unpowered
  /-- module reset asserted (R77, R78) -/
  | inReset
  /-- started: module reset released, the start sequence of R126 running or complete -/
  | started
  /-- AON lost power in a lower rung (R123): as unpowered, with the stop cause 0x05 -/
  | aonLost
  deriving DecidableEq, Repr

/-- A crank hold in progress (R92). -/
structure Crank where
  /-- supply at entry, mV (R221 V_ENTRY) -/
  vEntry : Int
  /-- minimum supply seen, mV (R97) -/
  vMin : Int
  /-- longest continuous time below 4.5 V, ns (R97) -/
  lowTime : Nat
  /-- turn-ons deferred (R95, R221) -/
  deferred : Nat
  deriving DecidableEq, Repr

/-- A rung request or automatic descent that waits for its conditions (R115–R119). -/
structure RungWait where
  /-- target rung, 1–7 -/
  target : Nat
  /-- RETAIN_TILES (R211) -/
  retain : Nat
  /-- SHELF_CONFIRM (R116 cause 10) -/
  shelfConfirm : Bool
  /-- end of WAIT_S, module time; none for an automatic descent -/
  until? : Option Nat
  /-- the request; none for an automatic descent -/
  req : Option Requester
  deriving DecidableEq, Repr

/-- A CAN selective wake filter (R217). -/
structure WakeFilter where
  /-- FORMAT 0x00 or 0x01 -/
  format : Nat
  dlc : Nat
  id : U32
  mask : U32
  data : List Byte
  dataMask : List Byte
  deriving DecidableEq, Repr

/-- The wake-source configuration (R215). -/
structure WakeConfig where
  /-- SOURCES, 8 bits; shipped 0x0081 -/
  sources : Nat
  /-- WAKE_IN_EDGE, 2 bits; shipped 0x01 -/
  wakeInEdge : Nat
  /-- TC10_PORTS, 5 bits; shipped 0 -/
  tc10 : Nat
  /-- CAN_PATTERN, 12 bits; shipped 0 -/
  canPattern : Nat
  /-- CAN_SELECTIVE, 12 bits; shipped 0 -/
  canSelective : Nat
  /-- RTC_ALARM, module time; shipped 0, none -/
  alarm : Nat
  deriving DecidableEq, Repr

/-- The shipped configuration (R215). -/
def WakeConfig.shipped : WakeConfig :=
  { sources := 0x81, wakeInEdge := 1, tc10 := 0, canPattern := 0, canSelective := 0, alarm := 0 }

/-- Supply, reserve, rungs and wake. -/
structure Power where
  /-- unpowered, in reset or started (R83, R125); reset: unpowered -/
  life : Life
  /-- BAT_A voltage, mV (R220); reset 0 -/
  vA : Int
  /-- BAT_B voltage, mV (R220); reset 0 -/
  vB : Int
  /-- stud of group A lost (R91); reset 0 -/
  lostA : Bool
  /-- stud of group B lost (R91); reset 0 -/
  lostB : Bool
  /-- group A cut for overvoltage (R89); reset 0 -/
  cutA : Bool
  /-- group B cut for overvoltage (R89); reset 0 -/
  cutB : Bool
  /-- reverse battery (R90); reset 0 -/
  reversed : Bool
  /-- the crank hold in progress (R92); reset none -/
  crank : Option Crank
  /-- module time at which the supply fell below 4.5 V: the 50 ms timer runs from it (R96); reset none -/
  lowSince : Option Nat
  /-- the wait of R100 is running: no output on, no display update, nothing journalled; reset 1 -/
  holdupWait : Bool
  /-- module time at which the wait of R100 began; reset 0 -/
  waitSince : Nat
  /-- usable hold-up energy of the latest test, mJ (R220); 0 until the first test of a start; reset 0 -/
  holdupMj : Nat
  /-- a test of this start has been made (R101); reset 0 -/
  holdupTested : Bool
  /-- HOLDUP_LOW stands (R101); reset 0 -/
  holdupLow : Bool
  /-- present rung, 0 Run to 7 Shelf (R105); reset 0 -/
  rung : Nat
  /-- rung request or descent waiting for its conditions (R116); reset none -/
  wait : Option RungWait
  /-- rung entry of R122 in progress, begun at the second component; reset none -/
  entering : Option (RungWait × Nat)
  /-- module time of entry into the present rung (R221 ENTRY_TIME); reset 0 -/
  entryTime : Nat
  /-- module time of the latest return to Run, and the rung left (R114); reset none -/
  lastExit : Option (Nat × Nat)
  /-- NEAR tiles placed in retention at entry (R108); reset 0 -/
  retained : Nat
  /-- wake-source configuration, kept in KEEP (R215); reset: the shipped one -/
  wake : WakeConfig
  /-- selective wake filters by controller, kept in KEEP (R217); reset none enabled -/
  filters : Bank WakeFilter
  /-- DORMANT_S, 32 bits (R119, R219); shipped 120 -/
  dormantS : Nat
  /-- HIBERNATE_S, 32 bits (R119, R219); shipped 3,600 -/
  hibernateS : Nat
  /-- KEEP_S, 32 bits (R119, R219); shipped 43,200 -/
  keepS : Nat
  /-- module time from which the descent delays count (R119); none while a delay does not run; reset none -/
  descentFrom : Option Nat
  /-- IGN reads high (R55); reset 0 (assumption 2) -/
  ign : Bool
  /-- WAKE_IN reads high (R55); reset 0 (assumption 2) -/
  wakeIn : Bool
  /-- USB_VBUS above 4.4 V: the module enumerates (R73); reset 0 (assumption 2) -/
  usb : Bool
  /-- RESET_N asserted (R77); reset 0 -/
  resetN : Bool
  /-- RECOV_N counted as low (R80); reset 0 (read as high) -/
  recovStrap : Bool
  /-- the sixteen strap samples are taken and fixed (R80); reset 0 -/
  strapsFixed : Bool
  /-- module time at which the supply fell below 3.0 V in rungs 2–7 (R123); reset none -/
  backupSince : Option Nat
  /-- AON holds its retention content: not lost since it was written (R110, R123); reset 0, first power-on -/
  aonKept : Bool
  /-- measured electronics power, mW (R220); reset 0 -/
  elecMw : Nat
  /-- clock percentages set by the power budget for APP, INF and VIS (R39); reset 100 each -/
  budgetPct : Nat × Nat × Nat
  /-- clock percentages set by the cold plate for APP, INF and VIS (R807); reset 100 each -/
  platePct : Nat × Nat × Nat
  /-- PERCENT last reported by THROTTLE for APP, INF and VIS (R808); reset 100 each -/
  toldPct : Nat × Nat × Nat
  /-- the last stop copied no thermal memory to KEEP, whose periodic copy stands (R338); reset 0 -/
  copyMissing : Bool
  /-- cold-plate temperature, 0.1 °C (R235); reset 0 (assumption 2) -/
  plateTemp : Int
  /-- housing air temperature, 0.1 °C (R235); reset 0 (assumption 2) -/
  airTemp : Int
  deriving DecidableEq, Repr

/-- At power-on, before the start threshold is met. -/
def Power.reset : Power :=
  { life := .unpowered, vA := 0, vB := 0, lostA := false, lostB := false, cutA := false, cutB := false,
    reversed := false, crank := none, lowSince := none, holdupWait := true, waitSince := 0, holdupMj := 0,
    holdupTested := false, holdupLow := false, rung := 0, wait := none, entering := none, entryTime := 0, lastExit := none,
    retained := 0, wake := WakeConfig.shipped, filters := Bank.empty, dormantS := 120, hibernateS := 3600,
    keepS := 43200, descentFrom := none, ign := false, wakeIn := false, usb := false, resetN := false,
    recovStrap := false, strapsFixed := false, backupSince := none, aonKept := false, elecMw := 0,
    budgetPct := (100, 100, 100), platePct := (100, 100, 100), toldPct := (100, 100, 100), copyMissing := false,
    plateTemp := 0, airTemp := 0 }

/-- The supply voltage: the higher of the two studs (R86), mV. -/
def Power.supply (p : Power) : Int := max p.vA p.vB

end Sys2Proof.Machine
end

