-- ==== Sys2Proof/Machine/StateSafety.lean ====
section
/-! DEFINITION. State of the safety island, its configuration and its change log (23). -/

namespace Sys2Proof.Machine

/-- What an input reads, before or after its filter (R739). -/
inductive SafeLevel where
  | permit
  | demand
  /-- a fault voltage: code 0x09 SHORT, 0x0A BREAK or 0x0B INDETERMINATE (R756) -/
  | fault (code : Nat)
  deriving DecidableEq, Repr

/-- A latched wiring fault (R756, R758). -/
structure WiringFault where
  code : Nat
  /-- its condition has been absent since; reset none -/
  absentSince : Option Nat
  deriving DecidableEq, Repr

/-- A safety input SAFE_IN0–SAFE_IN7 (R739, R740). -/
structure SafeIn where
  /-- level at the pin since the given time; reset DEMAND since 0 -/
  raw : SafeLevel
  since : Nat
  /-- accepted level (R740); reset DEMAND -/
  level : SafeLevel
  /-- latched wiring faults 0x09 to 0x0B (R740, R758); reset none -/
  faults : List WiringFault
  deriving DecidableEq, Repr

/-- An input at reset. -/
def SafeIn.reset : SafeIn := { raw := .demand, since := 0, level := .demand, faults := [] }

/-- A safety output SAFE_OUT0–SAFE_OUT3 (R743–R745). -/
structure SafeOut where
  /-- on (R747); reset 0 -/
  on : Bool
  /-- latched wiring faults 0x0C to 0x0E (R756, R758); reset none -/
  faults : List WiringFault
  /-- OPEN_LOAD warning (R744); reset 0 -/
  openLoad : Bool
  /-- off-test pulse in progress since (R745); reset none -/
  pulse : Option Nat
  /-- module time at which the next pulse is due (R745); reset none -/
  pulseDue : Option Nat
  /-- module time of the last change of demand (R745); reset 0 -/
  demandAt : Nat
  deriving DecidableEq, Repr

/-- An output at reset. -/
def SafeOut.reset : SafeOut :=
  { on := false, faults := [], openLoad := false, pulse := none, pulseDue := none, demandAt := 0 }

/-- Function states (R747). -/
inductive FnState where
  | disabled
  | permit
  | stopping
  | demand
  | waitReset
  deriving DecidableEq, Repr

/-- State codes (R747). -/
def FnState.code : FnState → Nat
  | .disabled => 0
  | .permit => 1
  | .stopping => 2
  | .demand => 3
  | .waitReset => 4

/-- A safety function 0–7 (R747–R749). -/
structure SafeFn where
  /-- state; reset DISABLED, the shipped block being all zeros (R767) -/
  state : FnState
  /-- module time at which STOP_DELAY_MS ends (R748); reset none -/
  stopDue : Option Nat
  /-- a reset is still needed before it first permits after a start or a commit (R749); reset 0 -/
  needReset : Bool
  /-- CAUSE of its last change of state (R770); reset 0 -/
  cause : Nat
  deriving DecidableEq, Repr

/-- A disabled function. -/
def SafeFn.reset : SafeFn := { state := .disabled, stopDue := none, needReset := false, cause := 0 }

/-- SAFETY_STATUS.STATE (R769). -/
inductive SafState where
  | selftest
  | run
  | safeFault
  | off
  deriving DecidableEq, Repr

/-- STATE codes (R769). -/
def SafState.code : SafState → Nat
  | .selftest => 0
  | .run => 1
  | .safeFault => 2
  | .off => 3

/-- A change log entry (R764). -/
structure LogEntry where
  seq : Nat
  kind : Nat
  time : Nat
  epoch : Nat
  subject : List Byte
  operator_ : List Byte
  hash : List Byte
  deriving DecidableEq, Repr

/-- The safety island. -/
structure Safety where
  /-- STATE (R769); reset OFF until SAF is released -/
  state : SafState
  /-- FAULT: internal fault code, 0 for none (R756); reset 0 -/
  fault : Nat
  /-- SAFE_IN0–SAFE_IN7 -/
  ins : Bank SafeIn
  /-- SAFE_OUT0–SAFE_OUT3 -/
  outs : Bank SafeOut
  /-- functions 0–7 -/
  fns : Bank SafeFn
  /-- the cut switch is open (R735); reset 1 -/
  cutOpen : Bool
  /-- SAFGND is latched, with the time since when its condition is absent (R755, R758); reset none -/
  safgnd : Option (Option Nat)
  /-- HOST_OFF, 8 bits (R769); reset 0 -/
  hostOff : Nat
  /-- RST_STUCK (R742); reset 0 -/
  rstStuck : Bool
  /-- module time of the last falling edge of SAFE_RST (R742); reset none -/
  rstLow : Option Nat
  /-- an accepted reset edge waits for the next logic cycle (R750); reset 0 -/
  resetEdge : Bool
  /-- functions with HOLD_MODULE that hold SAFE_HOLD until they permit after a reset, 8 bits (R751); reset 0 -/
  holding : Nat
  /-- active configuration block, 256 bytes, kept (R767); shipped all zeros -/
  active : List Byte
  /-- staged configuration block, kept (R765); reset none -/
  staged : Option (List Byte)
  /-- the newest commit is followed by a VALIDATE of its hash and nothing was staged or committed since (R761, R765); kept;
  reset 0 -/
  validated : Bool
  /-- K, 32 bytes, kept (R763); none until a password is set: derived from the empty password -/
  key : Option (List Byte)
  /-- change log, oldest first, the newest 4,096, kept in KEEP (R764); reset none -/
  log : List LogEntry
  /-- BASE_HASH, kept (R764); reset zeros (assumption 2) -/
  baseHash : List Byte
  /-- HEAD_SEQ and H_head in SAF's own store (R764); reset none, no genesis -/
  head : Option (Nat × List Byte)
  deriving DecidableEq, Repr

/-- SAF before its release. -/
def Safety.reset : Safety :=
  { state := .off, fault := 0, ins := Bank.empty, outs := Bank.empty, fns := Bank.empty, cutOpen := true, safgnd := none,
    hostOff := 0, rstStuck := false, rstLow := none, resetEdge := false, holding := 0,
    active := List.replicate 256 0, staged := none, validated := false, key := none, log := [],
    baseHash := List.replicate 32 0, head := none }

end Sys2Proof.Machine
end

