-- ==== Sys2Proof/Machine/StateSection.lean ====
section
/-! DEFINITION. State of the section timing engine (13). -/

namespace Sys2Proof.Machine

/-- A target (R453). -/
structure Target where
  /-- 1 module channel, 2 CAN node output, 3 10BASE-T1S node output -/
  kind : Nat
  index : Nat
  node : Nat
  deriving DecidableEq, Repr

/-- A queued edge (R453, R467). -/
structure Edge where
  /-- ledger record -/
  id : Nat
  target : Target
  /-- 0 off, 1 on, 2 value -/
  action : Nat
  /-- section of an engine edge; none for a host edge -/
  section_ : Option Nat
  time : Nat
  value : Nat
  /-- serial of the SCHEDULE, and the entry's index, of a host edge -/
  entry : Nat × Nat
  /-- sending channel; 0xFF for the engine -/
  ch : Nat
  /-- TAG of the SCHEDULE -/
  tag : Nat
  /-- SEQ of a node command once sent -/
  seq : Nat
  /-- sent to its node, with the time of sending: fixed (R460) -/
  sent : Option Nat
  /-- resent once (R461) -/
  resent : Bool
  /-- LATE_US under R470 -/
  lateUs : Nat
  /-- the edge began on its channel and waits for its turn-on to end (R422, R456) -/
  begun : Bool
  /-- ERROR_NS of an edge that has begun (R481) -/
  error : Int
  /-- deferred in crank hold (R456) -/
  deferred : Bool
  deriving DecidableEq, Repr

/-- A SCHEDULE whose entries have not all ended (R481). -/
structure ScheduleReq where
  serial : Nat
  req : Option Requester
  ch : Nat
  tag : Nat
  /-- per entry: RESULT, FLAGS, ERROR_NS; none while it is queued -/
  results : List (Option (Nat × Nat × Int))
  deriving DecidableEq, Repr

/-- Engine states (R480). -/
inductive EngineState where
  | stopped
  | running
  | holding
  | navOff
  deriving DecidableEq, Repr

/-- STATE codes (R480). -/
def EngineState.code : EngineState → Nat
  | .stopped => 0
  | .running => 1
  | .holding => 2
  | .navOff => 3

/-- A section 0–255 (R478). -/
structure Section where
  target : Target
  fwd : Int
  right : Int
  width : Nat
  /-- 0.1 ms -/
  onLat : Nat
  /-- 0.1 ms -/
  offLat : Nat
  /-- on by its last executed edge (R480 ON_MAP) -/
  on : Bool
  /-- intervals in which ground is covered and not yet marked, oldest first: from, and to once an off edge has executed (R475) -/
  marks : List (Nat × Option Nat)
  /-- reference point at the last solution, mm in the local plane (R468); none before one -/
  point : Option (Int × Int)
  deriving DecidableEq, Repr

/-- The section timing engine. -/
structure Sections where
  /-- IMPLEMENT_SET, 64 bytes, kept in KEEP (R477); empty before the first one (assumption 2) -/
  implement : List Byte
  /-- sections 0–255, kept in KEEP (R478); reset none defined -/
  secs : Bank Section
  /-- STATE (R480); reset STOPPED -/
  state : EngineState
  /-- queued edges, in the order of queueing (R454); reset none -/
  edges : List Edge
  /-- SCHEDULEs not yet completed; reset none -/
  schedules : List ScheduleReq
  /-- serial of the next SCHEDULE (model's own); reset 0 -/
  nextSerial : Nat
  /-- FORCE_OFF, 256 bits (R479); reset 0 -/
  forceOff : Nat
  /-- FORCE_ON, 256 bits (R479); reset 0 -/
  forceOn : Nat
  /-- SEQ of the next command by target: kind × 2^24 + index × 2^16 + node (R461); reset 0 -/
  seqs : Bank Nat
  /-- state of node outputs as last commanded, by the same key (R480); reset off -/
  nodeOn : Bank Bool
  /-- SEQ of the next SYNC by bus (R459); reset 0 -/
  syncSeq : Bank Nat
  /-- module time of the last SYNC by bus (R459); reset none -/
  syncAt : Bank Nat
  /-- ψb, 10^−9 rad-free units: bar heading in 10^−6 degree (R468); reset 0 -/
  bar : Int
  /-- position of the hitch at the last solution, mm in the local plane (R468); reset none -/
  hitch : Option (Int × Int)
  /-- FIX of the last solution used; reset 0 -/
  fix : Nat
  /-- SOLUTION_TIME; reset 0 -/
  solTime : Nat
  /-- holding since (R473); reset none -/
  holdSince : Option Nat
  /-- valid solutions at FIX_MIN or better since (R473); reset none -/
  goodSince : Option Nat
  /-- the speed gate of R472 holds; reset 0 -/
  slow : Bool
  /-- LATE, 32 bits (R480); reset 0 -/
  late : U32
  /-- NO_ACK, 32 bits (R480); reset 0 -/
  noAck : U32
  /-- 10BASE-T1S datagrams of command records sent: node and records (model's own: what the wire sees); reset none -/
  wire : List (Nat × List Byte)
  deriving DecidableEq, Repr

/-- The engine at reset. -/
def Sections.reset : Sections :=
  { implement := [], secs := Bank.empty, state := .stopped, edges := [], schedules := [], nextSerial := 0, forceOff := 0,
    forceOn := 0, seqs := Bank.empty, nodeOn := Bank.empty, syncSeq := Bank.empty, syncAt := Bank.empty, bar := 0, hitch := none, fix := 0,
    solTime := 0, holdSince := none, goodSince := none, slow := false, late := 0, noAck := 0, wire := [] }

end Sys2Proof.Machine
end

