-- ==== Sys2Proof/Machine/StateStream.lean ====
section
/-! DEFINITION. State of the Dernus fabric: streams, their endpoints and the external link (08). -/

namespace Sys2Proof.Machine

/-- An endpoint (R278, R311). -/
structure Endpoint where
  /-- RING rather than UNIT -/
  ring : Bool
  /-- on the peer's side of the link -/
  peer : Bool
  /-- unit ID; 0xFFFE for RING -/
  unit : Nat
  /-- stream port of the unit -/
  port : Nat
  /-- ring placement; 0 for UNIT -/
  place : Nat
  deriving DecidableEq, Repr

/-- A descriptor ring (R293): its size, and what the module remembers of it. The header and the descriptors stand in the
ring placement. -/
structure RingState where
  sizeLog2 : Nat
  posted : U32
  completed : U32
  /-- stopped by RING_ERROR (R294) -/
  error : Bool
  /-- module time of the last STREAM_RING (R297) -/
  notifiedAt : Option Nat
  /-- a NOTIFY held back by the 50 µs of R297 -/
  owed : Bool
  deriving DecidableEq, Repr

/-- A ring not in use. -/
def RingState.none : RingState :=
  { sizeLog2 := 4, posted := 0, completed := 0, error := false, notifiedAt := Option.none, owed := false }

/-- A message on its way to one consumer. -/
structure Sending where
  seq : Nat
  msg : Msg
  /-- flits whose credits are taken: those sent, or all of them under a drop policy (R283, R289) -/
  paid : Nat
  /-- flits sent -/
  sent : Nat
  /-- flits arrived -/
  arrived : Nat
  deriving DecidableEq, Repr

/-- A message presented that waits at the producer port under BLOCK (R288). -/
structure Presented where
  seq : Nat
  msg : Msg
  /-- its consumers have it in their queues: a direct stream is sending it -/
  offered : Bool
  /-- consumers that joined after it was presented (R299) -/
  skip : List Nat
  deriving DecidableEq, Repr

/-- A consumer of a stream. -/
structure Consumer where
  ep : Endpoint
  /-- absent, with the cause of STREAM_STATE (R299) -/
  absent : Option Nat
  /-- credits held by the producer port (R283) -/
  credits : Nat
  /-- flit buffers freed and not yet returned (R283) -/
  freed : Nat
  /-- flit buffers occupied and not yet freed (R296) -/
  occupied : Nat
  /-- DELIVERED, 32 bits -/
  delivered : U32
  /-- DROPPED, 32 bits -/
  dropped : U32
  /-- messages lost since the last one delivered (R281) -/
  lost : Nat
  /-- messages to send or being sent, oldest first -/
  queue : List Sending
  /-- whole messages that wait for a descriptor: sequence, messages lost before it, message (R296) -/
  got : List (Nat × Nat × Msg)
  ring : RingState
  /-- a DETACH waits for the message boundary (R301) -/
  detaching : Bool
  deriving DecidableEq, Repr

/-- A stream (R277). -/
structure Stream where
  handle : Nat
  /-- creating channel -/
  ch : Nat
  policy : Nat
  backed : Bool
  credits : Nat
  maxMsg : Nat
  rate : Nat
  slots : Nat
  backing : Nat
  producer : Endpoint
  /-- the producer is absent, with the cause (R298) -/
  absent : Option Nat
  pRing : RingState
  /-- consumers by index 0–7 -/
  consumers : Bank Consumer
  /-- MSG_SEQ of the next message (R280) -/
  nextSeq : U32
  /-- DROPPED_ALL, 32 bits -/
  droppedAll : U32
  /-- messages presented under BLOCK and not yet wholly sent or given a slot, oldest first -/
  out : List Presented
  /-- slots held, oldest first: sequence and message -/
  held : List (Nat × Msg)
  /-- module time of the last STREAM_DROPS (R292) -/
  dropsAt : Option Nat
  /-- number on the external link, 2–1,023; none for a local stream (R305) -/
  linkNo : Option Nat
  /-- DESTROY with DRAIN in progress: requester and end of the 100 ms (R301) -/
  draining : Option (Requester × Nat)
  deriving DecidableEq, Repr

/-- LINK_STATUS.STATE (R315). -/
inductive LinkPhase where
  | disabled
  | absent
  | training
  | up
  | retraining
  | down
  deriving DecidableEq, Repr

/-- STATE codes (R315). -/
def LinkPhase.code : LinkPhase → Nat
  | .disabled => 0
  | .absent => 1
  | .training => 2
  | .up => 3
  | .retraining => 4
  | .down => 5

/-- The external link (R302–R309). -/
structure Link where
  /-- ENABLE, kept in KEEP (R315); shipped 0 (assumption 2) -/
  enable : Bool
  /-- MAX_WIDTH, kept in KEEP (R315); shipped 4 (assumption 2) -/
  maxWidth : Nat
  /-- TIME_FROM_PEER, kept in KEEP (R315); shipped 0 (assumption 2) -/
  timeFromPeer : Bool
  /-- STATE (R315); reset 0x00 -/
  phase : LinkPhase
  /-- LINK_PRSNT_N low for 10 ms (R306); reset 0 -/
  present : Bool
  /-- WIDTH (R315); reset 0 -/
  width : Nat
  /-- PEER_ROLE (R315); reset 0 -/
  peerRole : Nat
  /-- PEER_ID (R315); reset 0 -/
  peerId : Nat
  /-- link streams and flit buffers offered by the peer (R304); reset 0 -/
  peerOffer : Nat × Nat
  /-- EXCLUDED, 4 bits (R308); reset 0 -/
  excluded : Nat
  /-- module times of the retrains each lane caused within 10 s (R308); reset none -/
  laneRetrains : Bank (List Nat)
  /-- module time at which the training began (R309); reset none -/
  trainingSince : Option Nat
  /-- CAUSE of the training or retraining (R316); reset 0 -/
  cause : Nat
  /-- LINK_RETRAIN requests not yet completed (R315); reset none -/
  requests : List Requester
  /-- UP_TIME (R315); reset 0 -/
  upTime : Nat
  /-- CHECK_ERR, 32 bits; reset 0 -/
  checkErr : U32
  /-- REPLAYS, 32 bits; reset 0 -/
  replays : U32
  /-- RETRAINS, 32 bits; reset 0 -/
  retrains : U32
  /-- DOWNS, 32 bits; reset 0 -/
  downs : U32
  /-- SYNC_ERR by lane, 4 × 32 bits; reset 0 -/
  syncErr : List U32
  /-- CREDIT_OVF, 32 bits; reset 0 -/
  creditOvf : U32
  /-- module times of the CHECK failures of the last 1 ms (R307); reset none -/
  checkTimes : List Nat
  /-- module time at which the link went down, or last tried to train since (R309); reset none -/
  downAt : Option Nat
  /-- LINK_SEQ of the next sequenced flit sent, 8 bits (R304); reset 0 -/
  txSeq : Nat
  /-- replay buffer: flits sent and not acknowledged, oldest first, at most 128 (R304); reset empty -/
  replay : List LinkFlit
  /-- sequenced flits that wait for room in the replay buffer, oldest first (R304); reset none -/
  waiting : List LinkFlit
  /-- MSG_SEQ of the next message on the control stream, 32 bits (R280, R305); reset 0 -/
  ctlSeq : U32
  /-- messages arrived on the control stream whose channel's ring is full, oldest first (R189, R190); reset none -/
  ctlIn : List Slot
  /-- flits put on the wire, oldest first (model's own: what the peer receives); reset none -/
  wire : List LinkFlit
  /-- last LINK_SEQ received in order, 8 bits (R304); reset 255 -/
  rxSeq : Nat
  /-- flits accepted since the last ACK (R304); reset 0 -/
  unacked : Nat
  /-- times the oldest flit of the replay buffer has been resent in a row (R307); reset 0 -/
  resent : Nat
  /-- flits of messages arriving from the peer, by link stream: payload bytes so far (R280); reset none -/
  partials : Bank (List Byte)
  deriving DecidableEq, Repr

/-- The link at reset. -/
def Link.reset : Link :=
  { enable := false, maxWidth := 4, timeFromPeer := false, phase := .disabled, present := false, width := 0,
    peerRole := 0, peerId := 0, peerOffer := (0, 0), excluded := 0, laneRetrains := Bank.empty, trainingSince := none,
    cause := 0, requests := [], upTime := 0, checkErr := 0, replays := 0, retrains := 0, downs := 0,
    syncErr := [0, 0, 0, 0], creditOvf := 0, checkTimes := [], downAt := none,
    txSeq := 0, replay := [], waiting := [], ctlSeq := 0, ctlIn := [], wire := [], rxSeq := 255, unacked := 0, resent := 0,
    partials := Bank.empty }

/-- The Dernus fabric. -/
structure Fabric where
  /-- live streams by stream number 1–2,048 (R277); reset none -/
  streams : Bank Stream
  /-- the external link (R302) -/
  link : Link
  deriving DecidableEq, Repr

/-- No stream. -/
def Fabric.reset : Fabric := { streams := Bank.empty, link := Link.reset }

end Sys2Proof.Machine
end

