-- ==== Sys2Proof/Machine/StateSwitch.lean ====
section
/-! DEFINITION. State of the protected load switch channels and their groups (12). -/

namespace Sys2Proof.Machine

/-- What the switch of a channel does (R422–R426, R441). -/
inductive SwPhase where
  | off
  /-- turn-on phase; the inrush-diagnosis timer expires at the given module time (R423) -/
  | turningOn (expiry : Nat)
  | on
  /-- waiting RETRY_MS until the given module time (R426) -/
  | retryWait (until_ : Nat)
  /-- a turn-on deferred by crank hold (R95) or, before it, by the wait of R100; due at the given module time -/
  | deferred (due : Nat)
  /-- commanded on, with the group cut or its stud lost (R441) -/
  | noSupply
  deriving DecidableEq, Repr

/-- A hold in force on a channel (R333–R335). -/
inductive HoldState where
  | none
  | hold
  /-- HOLD_FOR until the given module time -/
  | holdFor (until_ : Nat)
  deriving DecidableEq, Repr

/-- One channel HC0–HC7, MC0–MC23, PV0–PV15 (R416, R449). -/
structure Switch where
  /-- CONFIG bytes 4–39, kept in KEEP (R445); empty for the shipped configuration -/
  cfg : List Byte
  /-- commanded on (R422); reset 0 -/
  cmdOn : Bool
  /-- value in force (R420); none for the value every channel holds at a start: 10,000, or 0 µA for PV -/
  value : Option Nat
  /-- the switch (R423); reset off -/
  phase : SwPhase
  /-- latched fault (R439), 0 for none; reset 0 -/
  fault : Nat
  /-- DIAG, 8 bits (R449); reset 0 -/
  diag : Nat
  /-- mean current over the last tick, µA (R415); reset 0 -/
  current : Nat
  /-- PWM duty in force, 0.01 % (R432); reset 0 -/
  duty : Nat
  /-- θ in units of 10^−15 (R429); reset 0, first power-on -/
  theta : Int
  /-- copy of θ in KEEP (R338); reset 0 -/
  thetaKeep : Int
  /-- square of I_n by the last housing air reading, in µA² (R430); none before one is applied -/
  rated : Option Nat
  /-- RETRIES_LEFT (R449); none for the configured number -/
  retriesLeft : Option Nat
  /-- module time since when the channel is on with no trip (R426); reset none -/
  onSince : Option Nat
  /-- module time of the last on or off demand (R437); reset 0 -/
  demandAt : Nat
  /-- the turn-on in progress, or the last one, followed a retry (R451 bit 2); reset 0 -/
  retried : Bool
  /-- off-test pulse in progress since (R437); reset none -/
  pulse : Option Nat
  /-- module time of the last off-test pulse (R437); reset none -/
  testedAt : Option Nat
  /-- the hard limit was reached since its last turn-on began: a disturbance does not touch it (R428); reset 0 -/
  limited : Bool
  /-- the channel is in its safe state: STATE 0x04 (R343, R442); reset 0 -/
  safe : Bool
  /-- hold in force (R334); reset none -/
  held : HoldState
  /-- path through which it was last commanded, with the mailbox channel (R334); reset none -/
  lastPath : Option (Path × Nat)
  /-- switch junction at or below 150 °C (R438); reset 1 (assumption 2) -/
  cool : Bool
  deriving DecidableEq, Repr

/-- A channel at reset: off, the shipped configuration. -/
def Switch.reset : Switch :=
  { cfg := [], cmdOn := false, value := none, phase := .off, fault := 0, diag := 0, current := 0, duty := 0, theta := 0,
    thetaKeep := 0, rated := none, retriesLeft := none, onSince := none, demandAt := 0, retried := false, pulse := none,
    testedAt := none, limited := false, safe := false, held := .none, lastPath := none, cool := true }

/-- One entry of a SET or SERVICE_DRIVE request (R446, R451). -/
structure SwEntry where
  ch : Nat
  /-- 0x00 off, 0x01 on, 0x02 value only -/
  action : Nat
  /-- 0xFFFF_FFFF leaves the value unchanged -/
  value : Nat
  /-- RESULT, when the entry has ended -/
  result : Option Nat
  /-- FLAGS of SWITCH_DONE -/
  flags : Nat
  deriving DecidableEq, Repr

/-- A SET or SERVICE_DRIVE request whose entries have not all ended (R422). `req` is none for commands of an instance. -/
structure SwRequest where
  req : Option Requester
  /-- DUE_TIME -/
  due : Nat
  /-- it has taken effect -/
  started : Bool
  path : Option (Path × Nat)
  entries : List SwEntry
  deriving DecidableEq, Repr

/-- One supply group (R427, R440, R450). -/
structure Group where
  /-- bus voltage, mV (R450); reset 0 (assumption 2) -/
  vBus : Nat
  /-- V_GSNS, signed mV (R450); reset 0 (assumption 2) -/
  vGsns : Int
  /-- stud current, 1 ms mean, mA (R450); reset 0 (assumption 2) -/
  stud1 : Nat
  /-- stud current, 100 ms mean, mA (R440); reset 0 (assumption 2) -/
  stud100 : Nat
  /-- I_PEAK_MA over the last 1 s (R450); reset 0 (assumption 2) -/
  peak : Nat
  /-- disturbance flag: raised at, pre-event value mV, minimum mV (R427); reset none -/
  disturbed : Option (Nat × Nat × Nat)
  /-- DISTURBANCES, 32 bits (R450); reset 0 -/
  disturbances : U32
  /-- SHEDS, 32 bits (R450); reset 0 -/
  sheds : U32
  /-- shed sequence in progress: next step due at (R440); reset none -/
  shedDue : Option Nat
  /-- module time until which the 100 ms average is not compared (R440); reset 0 -/
  settleUntil : Nat
  /-- GSNS fallback (R54); reset 0 -/
  fallback : Bool
  deriving DecidableEq, Repr

/-- A group at reset. -/
def Group.reset : Group :=
  { vBus := 0, vGsns := 0, stud1 := 0, stud100 := 0, peak := 0, disturbed := none, disturbances := 0, sheds := 0,
    shedDue := none, settleUntil := 0, fallback := false }

/-- The power stage. -/
structure PowerStage where
  /-- channels 0–47 (R416) -/
  chans : Bank Switch
  /-- supply group A (R48) -/
  groupA : Group
  /-- supply group B (R48) -/
  groupB : Group
  /-- requests not yet ended, oldest first (R422); reset none -/
  requests : List SwRequest
  /-- SERVICE_DRIVE in force: channel and end (R448); reset none -/
  service : Option (Nat × Nat)
  /-- paths lost whose hold policies CTL has still to apply, a tunnel session with its mailbox channel (R334); reset none -/
  pathLost : List (Path × Option Nat)
  deriving DecidableEq, Repr

/-- The power stage at reset. -/
def PowerStage.reset : PowerStage :=
  { chans := Bank.empty, groupA := Group.reset, groupB := Group.reset, requests := [], service := none, pathLost := [] }

end Sys2Proof.Machine
end

