-- ==== Sys2Proof/Machine/StateUpdate.lean ====
section
/-! DEFINITION. State of the image slots, keys and recovery (24). -/

namespace Sys2Proof.Machine

/-- Slot states (R774). -/
inductive SlotState where
  | empty
  | installing
  | installed
  | trial
  | active
  | pending
  | revertPending
  deriving DecidableEq, Repr

/-- State codes (R774). -/
def SlotState.code : SlotState → Nat
  | .empty => 0
  | .installing => 1
  | .installed => 2
  | .trial => 3
  | .active => 4
  | .pending => 5
  | .revertPending => 6

/-- A slot, or the staging area of a LOADER class (R774, R793). -/
structure ImageSlot where
  state : SlotState
  keyId : Nat
  svn : Nat
  version : Nat
  /-- REVOKE_KEYS of its header -/
  revoke : Nat
  /-- the container as received (R778); empty when EMPTY -/
  image : List Byte
  deriving DecidableEq, Repr

/-- An EMPTY slot. -/
def ImageSlot.empty : ImageSlot := { state := .empty, keyId := 0, svn := 0, version := 0, revoke := 0, image := [] }

/-- An activation, or a return to the fallback, not yet completed (R783, R784). -/
structure Activation where
  /-- the requester; none for a return of R784 -/
  req : Option Requester
  /-- slot that becomes current: 0 A, 1 B, 2 staging -/
  slot : Nat
  /-- a return to the fallback -/
  back : Bool
  /-- CAUSE of the IMAGE_STATE that completes it -/
  cause : Nat
  deriving DecidableEq, Repr

/-- An image class (R772, R793). -/
structure ImageClass where
  /-- POLICY LOADER; shipped DUAL -/
  loader : Bool
  /-- ACTIVE: 0 A, 1 B; none before an image is active; shipped A (assumption 2) -/
  active : Option Nat
  /-- COUNTER, fused (R782); shipped 0 (assumption 2) -/
  counter : Nat
  /-- slot A; shipped ACTIVE, version 0, SVN 0 (assumption 2) -/
  slotA : ImageSlot
  /-- slot B, or the staging area; shipped EMPTY (assumption 2) -/
  slotB : ImageSlot
  /-- CONFIRM_S (R793); shipped 900 -/
  confirmS : Nat
  /-- TRIAL_START; 0 if none -/
  trialStart : Nat
  /-- module time by which the island must rejoin (R784) -/
  rejoinDue : Option Nat
  /-- the activation or return in progress -/
  act : Option Activation
  /-- the loader's copy of R773 is in progress -/
  copying : Bool
  deriving DecidableEq, Repr

/-- A class as shipped. -/
def ImageClass.reset : ImageClass :=
  { loader := false, active := some 0, counter := 0, slotA := { ImageSlot.empty with state := .active },
    slotB := ImageSlot.empty, confirmS := 900, trialStart := 0, rejoinDue := none, act := none, copying := false }

/-- The installation in progress (R779–R781). -/
structure Installation where
  cls : Nat
  source : Nat
  length : Nat
  ref : Nat
  offset : Nat
  /-- 0 A, 1 B, 2 staging -/
  slot : Nat
  req : Requester
  /-- module time of the ACCEPTED reply -/
  since : Nat
  /-- RESET of RECOVERY_LOAD (R793) -/
  reset : Bool
  deriving DecidableEq, Repr

/-- The security engine's images, identity and keys. -/
structure Update where
  /-- classes 0x01–0x0C -/
  classes : Bank ImageClass
  /-- the installation in progress (R781); reset none -/
  install : Option Installation
  /-- classes whose installation a stop cut off, to be reported at the next start (R781): class and slot; reset none -/
  interrupted : List (Nat × Nat)
  /-- revoked vendor image keys, bits 3:0, fused (R782); shipped 0 -/
  revoked : Nat
  /-- MODULE_ID; 0 before IDENTITY_SET (R786) -/
  moduleId : Nat
  /-- the device public key, 97 bytes; empty before IDENTITY_SET (R786) -/
  pub : List Byte
  /-- MAC_BASE, 6 bytes; zeros before IDENTITY_SET -/
  macBase : List Byte
  /-- keys by kind 0x01–0x05 (R786); reset none -/
  keys : Bank (List Byte)
  /-- RECOVERY_ENTER's one-shot mark in KEEP (R789); reset 0 -/
  recoveryMark : Bool
  /-- transport that holds channel 63 in RECOVERY (R790); reset none -/
  romPort : Option RomPort
  deriving DecidableEq, Repr

/-- A module from the vendor. -/
def Update.reset : Update :=
  { classes := Bank.empty, install := none, interrupted := [], revoked := 0, moduleId := 0, pub := [],
    macBase := List.replicate 6 0, keys := Bank.empty, recoveryMark := false, romPort := none }

end Sys2Proof.Machine
end

