-- ==== Sys2Proof/Machine/State.lean ====
section
/-! DEFINITION. The state of the module as a block: everything the spec gives it, and the queue of commands that wait. -/

namespace Sys2Proof.Machine

/-- Reasons a step can stop the block. The spec gives no command an effect that stops the module for good: none is
raised. -/
inductive Fault where
  /-- raised by no command; kept so that the type is inhabited -/
  | none
  deriving DecidableEq, Repr

/-- Commands without a meaning. -/
inductive Refusal where
  /-- the command has not been modelled; raised by exec's refused arms only; safe -/
  | notModelled (mnemonic : String)
  /-- an operand names an object the module does not have (a channel above 63, a loop above 255 …), so there is no such
  command; raised by the meanings of commands that carry an index; safe -/
  | noSuchObject
  deriving DecidableEq, Repr

/-- The module. -/
structure State where
  /-- module time, 64 bits, ns (R14): the time at which the last command fell; reset 0 (assumption 1) -/
  time : Nat
  /-- module time of the last 1 ms module tick (R35); reset 0 -/
  tick : Nat
  /-- by how much each island's local copy of module time is ahead of the timekeeper, ns, by island: within ±20 for CTL and ±200
  for every other (R35); reset 0 for each -/
  copies : Bank Int
  /-- the mailbox hub (R150) -/
  hub : Hub
  /-- supply, rungs and wake (R86) -/
  power : Power
  /-- modes, fences and authorization (R130) -/
  mode : ModeState
  /-- the ledger (R317) -/
  ledger : Ledger
  /-- the control lanes and loops (R345) -/
  control : Control
  /-- the load switch channels (R416) -/
  stage : PowerStage
  /-- the machine-function instances (R384) -/
  functions : Functions
  /-- the field group and the sensor inputs (R684) -/
  fieldIo : FieldIo
  /-- the placement engine (R236) -/
  place : Puppeteer
  /-- the Dernus fabric (R277) -/
  fabric : Fabric
  /-- the NAV units (R483) -/
  nav : Nav
  /-- camera ports and image pipelines (R544) -/
  vision : Vision
  /-- the inference accelerator (R594) -/
  infer : Inference
  /-- message bus controllers MB0–MB11 (R616) -/
  buses : Bank BusController
  /-- the Ethernet switch (R655) -/
  eth : EthSwitch
  /-- the fleet agent (R669) -/
  fleet : Fleet
  /-- the display engine (R706) -/
  display : Display
  /-- the safety island (R735) -/
  safety : Safety
  /-- image slots, identity and keys (R772) -/
  update : Update
  /-- the section timing engine (R453) -/
  sections : Sections
  /-- number of free values taken so far: the model's own (assumption 3) -/
  freeCount : Nat
  /-- requests that a unit or the module supervisor defers while a mode change is in progress, oldest first (R121, R138, R143);
  reset none -/
  deferred : List (DeferredOp × Request)
  /-- commands waiting, first in, first out: the model's own -/
  pending : List Instr
  deriving DecidableEq, Repr

/-- The machine right after reset: first power-on of a module in its life, before the start threshold is met. -/
def State.reset : State :=
  { time := 0, tick := 0, copies := Bank.empty, hub := Hub.reset, power := Power.reset, mode := ModeState.reset, ledger := Ledger.reset,
    control := Control.reset, stage := PowerStage.reset, functions := Functions.reset, fieldIo := FieldIo.reset,
    place := Puppeteer.reset, fabric := Fabric.reset, nav := Nav.reset, vision := Vision.reset, infer := Inference.reset,
    buses := Bank.empty, eth := EthSwitch.reset, fleet := Fleet.reset, display := Display.reset, safety := Safety.reset,
    update := Update.reset, sections := Sections.reset,
    freeCount := 0, deferred := [], pending := [] }

/-- What a meaning answers. -/
abbrev Out := Host.Outcome State Fault Refusal

end Sys2Proof.Machine
end

