-- ==== Sys2Proof/Machine/LinkOps.lean ====
section
/-! DEFINITION. CRC-32C, and the flits of the external link: their form, the replay buffer and the control stream (05, 08). -/

namespace Sys2Proof.Machine

/-! ### CRC-32C (R173) -/

/-- Eight steps of the bit-reflected division by 0x1EDC_6F41. -/
def crcBits : Nat → U32 → U32
  | 0, c => c
  | n + 1, c => crcBits n (if c.getLsbD 0 then (c >>> 1) ^^^ 0x82F63B78 else c >>> 1)

/-- CRC-32C of a run of bytes. -/
def crc32c (bs : List Byte) : U32 :=
  bs.foldl (fun c b => crcBits 8 (c ^^^ b.zeroExtend 32)) 0xFFFFFFFF ^^^ 0xFFFFFFFF

/-! ### Flits (R279, R282) -/

/-- Flits of a message with a body of `n` bytes (R282). -/
def flitsOf (n : Nat) : Nat := (16 + n + 239) / 240

/-- The bytes of a message: its header and its body (R279). -/
def msgBytes (m : Msg) : List Byte := le 8 m.time ++ le 4 m.body.length ++ le 4 (m.marks * 65536) ++ m.body

/-- CHECK of a flit (R282). -/
def flitCheck (f : LinkFlit) : U32 :=
  crc32c (le 2 (f.stream + f.kind * 4096) ++ le 1 f.valid ++ le 1 f.flags ++ le 4 f.msgSeq.toNat ++ le 3 f.idx ++
    le 1 f.linkSeq ++ f.payload)

/-- A flit with its payload filled up with 0 and its CHECK (R282). -/
def mkFlit (stream kind valid flags : Nat) (seq : U32) (idx : Nat) (payload : List Byte) : LinkFlit :=
  let f : LinkFlit := { stream := stream, kind := kind, valid := valid, flags := flags, msgSeq := seq, idx := idx, linkSeq := 0,
                        check := 0, payload := payload ++ List.replicate (240 - payload.length) 0 }
  { f with check := flitCheck f }

/-- DATA flit `i` of a message (R282). -/
def linkFlit (no seq i : Nat) (m : Msg) : LinkFlit :=
  let part := ((msgBytes m).drop (240 * i)).take 240
  let last := decide (i + 1 = flitsOf m.body.length)
  mkFlit no 0 part.length (flag (i == 0) + 2 * flag last) (BitVec.ofNat 32 seq) i part

/-- The ABORT flit of a message cut off after `i` flits (R281; assumption 127). -/
def abortFlit (no seq i : Nat) : LinkFlit := mkFlit no 0 1 4 (BitVec.ofNat 32 seq) i []

/-- A control flit outside the sequence, IDLE, ACK, NAK or TIME, with `valid` payload bytes (R282, R304). -/
def controlFlit (kind valid : Nat) (payload : List Byte) : LinkFlit := mkFlit 0 kind valid 0 0 0 payload

/-! ### The replay buffer (R304) -/

/-- Put a sequenced flit on the wire and into the replay buffer, under the next LINK_SEQ. -/
def Link.transmit (l : Link) (f : LinkFlit) : Link :=
  let f := { f with linkSeq := l.txSeq }
  let f := { f with check := flitCheck f }
  { l with replay := l.replay ++ [f], wire := l.wire ++ [f], txSeq := (l.txSeq + 1) % 256 }

/-- Sequenced flits that may go now: a link that is up, none waiting, and 128 flits in the replay buffer. -/
def Link.room (l : Link) : Nat := if l.phase = .up && l.waiting.isEmpty then 128 - l.replay.length else 0

/-- Send a sequenced flit, now or once the replay buffer has room; nothing is sent on a link that is not trained. -/
def Link.send (l : Link) (f : LinkFlit) : Link :=
  if l.phase = .up || l.phase = .retraining then
    if 0 < l.room then l.transmit f else { l with waiting := l.waiting ++ [f] }
  else l

/-- Waiting flits go as far as the replay buffer has room. -/
def Link.flush (l : Link) : Link :=
  if l.phase = .up then
    let n := 128 - l.replay.length
    (l.waiting.take n).foldl Link.transmit { l with waiting := l.waiting.drop n }
  else l

/-- Flits `i` to `i + k - 1` of a message go on the link. -/
def Link.carry (l : Link) (no seq i k : Nat) (m : Msg) : Link :=
  (List.range k).foldl (fun l j => l.transmit (linkFlit no seq (i + j) m)) l

/-- A message of the mailbox goes out on the control stream, link stream 1 (R190, R305). -/
def Link.sendControl (l : Link) (time : Nat) (body : List Byte) : Link :=
  let m : Msg := { time := time, marks := 0, body := body }
  (List.range (flitsOf body.length)).foldl (fun l i => l.send (linkFlit 1 l.ctlSeq.toNat i m)) l
    |> fun l => { l with ctlSeq := l.ctlSeq + 1 }

end Sys2Proof.Machine
end

