-- ==== Sys2Proof/Machine/Codes.lean ====
section
/-! DEFINITION. Status codes (R816), the order of refusals (R817), unit IDs (R140) and mode sets (R195, R374). -/

namespace Sys2Proof.Machine

/-- Status codes (R816). -/
inductive Status where
  | ok
  | accepted
  | badLength
  | badCheck
  | unknownFamily
  | unknownOp
  | badParam
  | wrongMode
  | staleEpoch
  | loopClosed
  | busyId
  | outOfBand
  | noSpace
  | noCredit
  | quota
  | safetyLocked
  | authFailed
  | sigInvalid
  | rollback
  | notForModule
  | keyRevoked
  | hwFault
  | timeout
  deriving DecidableEq, Repr

/-- The 16-bit code of a status (R816). -/
def Status.code : Status → Nat
  | .ok => 0x0000
  | .accepted => 0x0001
  | .badLength => 0x0101
  | .badCheck => 0x0102
  | .unknownFamily => 0x0103
  | .unknownOp => 0x0104
  | .badParam => 0x0105
  | .wrongMode => 0x0201
  | .staleEpoch => 0x0202
  | .loopClosed => 0x0203
  | .busyId => 0x0204
  | .outOfBand => 0x0205
  | .noSpace => 0x0301
  | .noCredit => 0x0302
  | .quota => 0x0303
  | .safetyLocked => 0x0401
  | .authFailed => 0x0402
  | .sigInvalid => 0x0501
  | .rollback => 0x0502
  | .notForModule => 0x0503
  | .keyRevoked => 0x0504
  | .hwFault => 0x0601
  | .timeout => 0x0602

/-- Class of a status: the high byte of its code (R815). -/
def Status.cls (x : Status) : Nat := x.code / 256

/-- The first check that fails, in the order given (an order of the owning chapter). -/
def firstOf : List (Bool × Status) → Option Status
  | [] => none
  | (b, x) :: cs => if b then some x else firstOf cs

/-- The refusal R817 selects where the owning chapter sets no order: the first class in the order 0x02xx, 0x04xx, 0x01xx,
0x03xx, 0x05xx, 0x06xx, and within it the refusal named first. -/
def refusal (cs : List (Bool × Status)) : Option Status :=
  [2, 4, 1, 3, 5, 6].findSome? fun k => firstOf (cs.filter fun c => c.2.cls = k)

/-- Mode sets of the OP tables (R195, R374, R409, R444, R503, R536, R792). -/
inductive ModeSet where
  /-- every mode, and the period before the boot commit -/
  | any
  /-- ANY except RECOVERY -/
  | run
  /-- PARKED, COMMISSION and SERVICE -/
  | cfg
  /-- PARKED, ROAD, FIELD_READY, WORKING, HEADLAND, SERVICE and LIMP -/
  | opr
  /-- COMMISSION and OPR -/
  | copr
  /-- PROVISION, COMMISSION, PARKED and SERVICE -/
  | img
  /-- the modes listed -/
  | only (l : List Mode)
  /-- stated by the OP's own rule -/
  | own
  deriving DecidableEq, Repr

/-- OPR (R374). -/
def oprModes : List Mode := [.parked, .road, .fieldReady, .working, .headland, .service, .limp]

/-- The mode lies in the set. -/
def ModeSet.has : ModeSet → Mode → Bool
  | .any, _ => true
  | .run, m => m != .recovery
  | .cfg, m => [Mode.parked, .commission, .service].contains m
  | .opr, m => oprModes.contains m
  | .copr, m => m == .commission || oprModes.contains m
  | .img, m => [Mode.provision, .commission, .parked, .service].contains m
  | .only l, m => l.contains m
  | .own, _ => true

/-- Channel or path an OP is bound to (R155, R195, R265, R792). -/
inductive ChanRule where
  | free
  /-- "ch 0" -/
  | ch0
  /-- "ch 63" -/
  | ch63
  /-- "APP path" -/
  | appPath
  deriving DecidableEq, Repr

/-- One row of an OP table. -/
structure OpSpec where
  family : Nat
  op : Nat
  /-- ranges of LEN (R174 step 6) -/
  lens : List (Nat × Nat)
  /-- mode-sensitive: EPOCH at payload offset 0 (R137, R194) -/
  epoch : Bool
  /-- may be journalled (R174 step 7) -/
  journal : Bool
  /-- may be answered ACCEPTED (R167) -/
  accepted : Bool
  modes : ModeSet
  chan : ChanRule
  deriving DecidableEq, Repr

/-- LEN lies in a range the OP defines. -/
def OpSpec.lenOk (o : OpSpec) (n : Nat) : Bool := o.lens.any fun p => inRange n p.1 p.2

/-! Unit IDs (R140): island number in bits 15:8, index in the order of R24 in bits 7:0. -/

/-- Island numbers (R140). -/
def islAon : Nat := 0x00
/-- SUP. -/
def islSup : Nat := 0x01
/-- SAF. -/
def islSaf : Nat := 0x02
/-- APP. -/
def islApp : Nat := 0x03
/-- MEM. -/
def islMem : Nat := 0x04
/-- VIS. -/
def islVis : Nat := 0x05
/-- INF. -/
def islInf : Nat := 0x06
/-- NAV. -/
def islNav : Nat := 0x07
/-- CTL. -/
def islCtl : Nat := 0x08
/-- NET. -/
def islNet : Nat := 0x09
/-- DIS. -/
def islDis : Nat := 0x0A
/-- FLD. -/
def islFld : Nat := 0x0B

/-- Number of units of each island (R24). -/
def unitCount : Nat → Nat
  | 0x00 => 5
  | 0x01 => 4
  | 0x02 => 3
  | 0x03 => 9
  | 0x04 => 18
  | 0x05 => 18
  | 0x06 => 4
  | 0x07 => 4
  | 0x08 => 12
  | 0x09 => 14
  | 0x0A => 2
  | 0x0B => 3
  | _ => 0

/-- Island of a unit ID. -/
def islandOf (u : Nat) : Nat := u / 256

/-- The ID names a unit of R24 (not an island supervisor, not the module supervisor). -/
def isUnit (u : Nat) : Bool := u % 256 < unitCount (u / 256)

/-- The units of an island, by ID. -/
def unitsOf (i : Nat) : List Nat := (List.range (unitCount i)).map (i * 256 + ·)

/-- The island supervisor's ID (R140). -/
def supervisorOf (i : Nat) : Nat := i * 256 + 0xFF

/-- The module supervisor's ID (R140). -/
def moduleSupervisor : Nat := 0xFFFF

/-- AON power manager. -/
def uPower : Nat := 0x0000
/-- RTC. -/
def uRtc : Nat := 0x0001
/-- mailbox hub. -/
def uHub : Nat := 0x0100
/-- Maluf processor. -/
def uMaluf : Nat := 0x0101
/-- security engine. -/
def uSecurity : Nat := 0x0102
/-- ledger service. -/
def uLedger : Nat := 0x0103
/-- safety logic. -/
def uSafety : Nat := 0x0200
/-- FAR controller. -/
def uFar : Nat := 0x040C
/-- KEEP controller. -/
def uKeep : Nat := 0x040D
/-- STORE controller. -/
def uStore : Nat := 0x040E
/-- placement engine. -/
def uPlacement : Nat := 0x040F
/-- Dernus fabric. -/
def uFabric : Nat := 0x0410
/-- external link. -/
def uLink : Nat := 0x0411
/-- camera port n. -/
def uCam (n : Nat) : Nat := 0x0500 + n
/-- image pipeline n. -/
def uPipe (n : Nat) : Nat := 0x0510 + n
/-- accelerator cluster n. -/
def uCluster (n : Nat) : Nat := 0x0600 + n
/-- baseband. -/
def uBaseband : Nat := 0x0700
/-- RTK engine. -/
def uRtk : Nat := 0x0701
/-- inertial fusion. -/
def uFusion : Nat := 0x0702
/-- timekeeper. -/
def uTime : Nat := 0x0703
/-- loop lane n. -/
def uLane (n : Nat) : Nat := 0x0800 + n
/-- switch channel group n: HC0–HC3, HC4–HC7, MC0–MC11, MC12–MC23, PV0–PV7, PV8–PV15. -/
def uGroup (n : Nat) : Nat := 0x0804 + n
/-- section timing engine. -/
def uSection : Nat := 0x080A
/-- sensor input unit. -/
def uSensor : Nat := 0x080B
/-- message bus controller n. -/
def uMb (n : Nat) : Nat := 0x0900 + n
/-- Ethernet switch. -/
def uSwitch : Nat := 0x090C
/-- fleet agent. -/
def uFleet : Nat := 0x090D
/-- display unit. -/
def uDisplay : Nat := 0x0A00
/-- display power unit. -/
def uDisplayPower : Nat := 0x0A01
/-- field inputs. -/
def uFi : Nat := 0x0B00
/-- field outputs. -/
def uFo : Nat := 0x0B01
/-- field supply monitor. -/
def uFsup : Nat := 0x0B02

/-- One millisecond in ns of module time (R14). -/
def ms : Nat := 1000000

/-- One microsecond in ns. -/
def us : Nat := 1000

/-- One second in ns. -/
def sec : Nat := 1000000000

end Sys2Proof.Machine
end

