-- ==== Sys2Proof/Machine/OpTable.lean ====
section
/-! DEFINITION. The OP tables of every command family (R195, R265, R310, R339, R374, R409, R444, R476, R503, R536, R541,
R562, R588, R610, R645, R677, R680, R702, R729, R766, R792, R796): one `OpSpec` per OP, and the table the hub checks
requests against (R174). -/

namespace Sys2Proof.Machine

/-- IDENTIFY, OP 0x01 of family 0x01. -/
def opIdentify : OpSpec :=
  { family := 0x01, op := 0x01, lens := [(0, 0)], epoch := false, journal := false, accepted := false,
    modes := .any, chan := .free }
/-- INVENTORY, OP 0x02 of family 0x01. -/
def opInventory : OpSpec :=
  { family := 0x01, op := 0x02, lens := [(0, 0)], epoch := false, journal := false, accepted := false,
    modes := .run, chan := .free }
/-- TIME_READ, OP 0x03 of family 0x01. -/
def opTimeRead : OpSpec :=
  { family := 0x01, op := 0x03, lens := [(0, 0)], epoch := false, journal := false, accepted := false,
    modes := .run, chan := .free }
/-- CHANNEL_BIND, OP 0x04 of family 0x01. -/
def opChannelBind : OpSpec :=
  { family := 0x01, op := 0x04, lens := [(4, 4)], epoch := false, journal := false, accepted := false,
    modes := .run, chan := .ch0 }
/-- SUBSCRIBE, OP 0x05 of family 0x01. -/
def opSubscribe : OpSpec :=
  { family := 0x01, op := 0x05, lens := [(36, 36)], epoch := false, journal := false, accepted := false,
    modes := .run, chan := .ch0 }
/-- COMPAT_VIEW, OP 0x06 of family 0x01. -/
def opCompatView : OpSpec :=
  { family := 0x01, op := 0x06, lens := [(4, 4)], epoch := false, journal := false, accepted := false,
    modes := .run, chan := .ch0 }
/-- WATCHDOG_SET, OP 0x07 of family 0x01. -/
def opWatchdogSet : OpSpec :=
  { family := 0x01, op := 0x07, lens := [(8, 8)], epoch := true, journal := true, accepted := false,
    modes := .cfg, chan := .free }
/-- HOST_WATCH, OP 0x08 of family 0x01. -/
def opHostWatch : OpSpec :=
  { family := 0x01, op := 0x08, lens := [(8, 8)], epoch := false, journal := true, accepted := false,
    modes := .run, chan := .free }
/-- HOST_BEAT, OP 0x09 of family 0x01. -/
def opHostBeat : OpSpec :=
  { family := 0x01, op := 0x09, lens := [(0, 0)], epoch := false, journal := false, accepted := false,
    modes := .run, chan := .free }
/-- RUNG_REQUEST, OP 0x01 of family 0x02. -/
def opRungRequest : OpSpec :=
  { family := 0x02, op := 0x01, lens := [(8, 8)], epoch := false, journal := false, accepted := true,
    modes := .run, chan := .free }
/-- KEEP_AWAKE, OP 0x02 of family 0x02. -/
def opKeepAwake : OpSpec :=
  { family := 0x02, op := 0x02, lens := [(4, 4)], epoch := false, journal := false, accepted := false,
    modes := .run, chan := .free }
/-- WAKE_CONFIG, OP 0x03 of family 0x02. -/
def opWakeConfig : OpSpec :=
  { family := 0x02, op := 0x03, lens := [(20, 20)], epoch := false, journal := true, accepted := false,
    modes := .run, chan := .free }
/-- CAN_WAKE_FILTER, OP 0x04 of family 0x02. -/
def opCanWakeFilter : OpSpec :=
  { family := 0x02, op := 0x04, lens := [(28, 28)], epoch := false, journal := true, accepted := false,
    modes := .run, chan := .free }
/-- DESCENT_SET, OP 0x05 of family 0x02. -/
def opDescentSet : OpSpec :=
  { family := 0x02, op := 0x05, lens := [(12, 12)], epoch := false, journal := true, accepted := false,
    modes := .run, chan := .free }
/-- POWER_STATUS, OP 0x06 of family 0x02. -/
def opPowerStatus : OpSpec :=
  { family := 0x02, op := 0x06, lens := [(0, 0)], epoch := false, journal := false, accepted := false,
    modes := .run, chan := .free }
/-- MODE_REQUEST, OP 0x01 of family 0x03. -/
def opModeRequest : OpSpec :=
  { family := 0x03, op := 0x01, lens := [(8, 8), (56, 56)], epoch := true, journal := false, accepted := true,
    modes := .run, chan := .free }
/-- MODE_QUERY, OP 0x02 of family 0x03. -/
def opModeQuery : OpSpec :=
  { family := 0x03, op := 0x02, lens := [(0, 0)], epoch := false, journal := false, accepted := false,
    modes := .run, chan := .free }
/-- AUTH_CHALLENGE, OP 0x03 of family 0x03. -/
def opAuthChallenge : OpSpec :=
  { family := 0x03, op := 0x03, lens := [(4, 4)], epoch := false, journal := false, accepted := false,
    modes := .run, chan := .free }
/-- PLACE, OP 0x01 of family 0x04. -/
def opPlace : OpSpec :=
  { family := 0x04, op := 0x01, lens := [(34, 64)], epoch := false, journal := false, accepted := false,
    modes := .run, chan := .free }
/-- RELEASE, OP 0x02 of family 0x04. -/
def opRelease : OpSpec :=
  { family := 0x04, op := 0x02, lens := [(8, 8)], epoch := false, journal := true, accepted := false,
    modes := .run, chan := .free }
/-- PIN, OP 0x03 of family 0x04. -/
def opPin : OpSpec :=
  { family := 0x04, op := 0x03, lens := [(12, 12)], epoch := false, journal := false, accepted := true,
    modes := .run, chan := .free }
/-- MAP, OP 0x04 of family 0x04. -/
def opMap : OpSpec :=
  { family := 0x04, op := 0x04, lens := [(24, 24)], epoch := false, journal := false, accepted := true,
    modes := .run, chan := .appPath }
/-- UNMAP, OP 0x05 of family 0x04. -/
def opUnmap : OpSpec :=
  { family := 0x04, op := 0x05, lens := [(16, 16)], epoch := false, journal := false, accepted := false,
    modes := .run, chan := .appPath }
/-- SYNC, OP 0x06 of family 0x04. -/
def opSync : OpSpec :=
  { family := 0x04, op := 0x06, lens := [(24, 24)], epoch := false, journal := true, accepted := true,
    modes := .run, chan := .free }
/-- PLACEMENT_QUERY, OP 0x07 of family 0x04. -/
def opPlacementQuery : OpSpec :=
  { family := 0x04, op := 0x07, lens := [(8, 8)], epoch := false, journal := false, accepted := false,
    modes := .run, chan := .free }
/-- CAPACITY, OP 0x08 of family 0x04. -/
def opCapacity : OpSpec :=
  { family := 0x04, op := 0x08, lens := [(0, 0)], epoch := false, journal := false, accepted := false,
    modes := .run, chan := .free }
/-- LIST, OP 0x09 of family 0x04. -/
def opList : OpSpec :=
  { family := 0x04, op := 0x09, lens := [(8, 8)], epoch := false, journal := false, accepted := false,
    modes := .run, chan := .free }
/-- QUOTA_SET, OP 0x0A of family 0x04. -/
def opQuotaSet : OpSpec :=
  { family := 0x04, op := 0x0A, lens := [(40, 40)], epoch := false, journal := true, accepted := false,
    modes := .cfg, chan := .ch0 }
/-- JOB_POOL, OP 0x0B of family 0x04. -/
def opJobPool : OpSpec :=
  { family := 0x04, op := 0x0B, lens := [(16, 16)], epoch := false, journal := false, accepted := false,
    modes := .run, chan := .appPath }
/-- BOOT_VIEW_SET, OP 0x0C of family 0x04. -/
def opBootViewSet : OpSpec :=
  { family := 0x04, op := 0x0C, lens := [(4, 4)], epoch := false, journal := true, accepted := false,
    modes := .cfg, chan := .ch0 }
/-- STREAM_CREATE, OP 0x01 of family 0x05. -/
def opStreamCreate : OpSpec :=
  { family := 0x05, op := 0x01, lens := [(56, 168)], epoch := false, journal := false, accepted := false,
    modes := .run, chan := .free }
/-- STREAM_ATTACH, OP 0x02 of family 0x05. -/
def opStreamAttach : OpSpec :=
  { family := 0x05, op := 0x02, lens := [(24, 24)], epoch := false, journal := false, accepted := false,
    modes := .run, chan := .free }
/-- STREAM_DETACH, OP 0x03 of family 0x05. -/
def opStreamDetach : OpSpec :=
  { family := 0x05, op := 0x03, lens := [(16, 16)], epoch := false, journal := false, accepted := false,
    modes := .run, chan := .free }
/-- STREAM_DESTROY, OP 0x04 of family 0x05. -/
def opStreamDestroy : OpSpec :=
  { family := 0x05, op := 0x04, lens := [(12, 12)], epoch := false, journal := true, accepted := true,
    modes := .run, chan := .free }
/-- STREAM_QUERY, OP 0x05 of family 0x05. -/
def opStreamQuery : OpSpec :=
  { family := 0x05, op := 0x05, lens := [(8, 8)], epoch := false, journal := false, accepted := false,
    modes := .run, chan := .free }
/-- LINK_CONFIG, OP 0x06 of family 0x05. -/
def opLinkConfig : OpSpec :=
  { family := 0x05, op := 0x06, lens := [(4, 4)], epoch := false, journal := true, accepted := false,
    modes := .cfg, chan := .ch0 }
/-- LINK_STATUS, OP 0x07 of family 0x05. -/
def opLinkStatus : OpSpec :=
  { family := 0x05, op := 0x07, lens := [(0, 0)], epoch := false, journal := false, accepted := false,
    modes := .run, chan := .free }
/-- LINK_RETRAIN, OP 0x08 of family 0x05. -/
def opLinkRetrain : OpSpec :=
  { family := 0x05, op := 0x08, lens := [(4, 4)], epoch := false, journal := false, accepted := true,
    modes := .run, chan := .ch0 }
/-- LEDGER_STATUS, OP 0x01 of family 0x06. -/
def opLedgerStatus : OpSpec :=
  { family := 0x06, op := 0x01, lens := [(0, 0)], epoch := false, journal := false, accepted := false,
    modes := .run, chan := .free }
/-- LEDGER_READ, OP 0x02 of family 0x06. -/
def opLedgerRead : OpSpec :=
  { family := 0x06, op := 0x02, lens := [(12, 12)], epoch := false, journal := false, accepted := false,
    modes := .run, chan := .free }
/-- JOURNAL_CONFIG, OP 0x03 of family 0x06. -/
def opJournalConfig : OpSpec :=
  { family := 0x06, op := 0x03, lens := [(8, 8)], epoch := false, journal := true, accepted := false,
    modes := .run, chan := .ch0 }
/-- REPLAY_CONTROL, OP 0x04 of family 0x06. -/
def opReplayControl : OpSpec :=
  { family := 0x06, op := 0x04, lens := [(4, 4)], epoch := false, journal := false, accepted := false,
    modes := .run, chan := .free }
/-- OUTPUTS, OP 0x05 of family 0x06. -/
def opOutputs : OpSpec :=
  { family := 0x06, op := 0x05, lens := [(0, 0)], epoch := false, journal := false, accepted := false,
    modes := .run, chan := .free }
/-- LOOP_DEFINE, OP 0x01 of family 0x10. -/
def opLoopDefine : OpSpec :=
  { family := 0x10, op := 0x01, lens := [(264, 264)], epoch := true, journal := true, accepted := false,
    modes := .cfg, chan := .free }
/-- LOOP_CLEAR, OP 0x02 of family 0x10. -/
def opLoopClear : OpSpec :=
  { family := 0x10, op := 0x02, lens := [(8, 8)], epoch := true, journal := true, accepted := false,
    modes := .cfg, chan := .free }
/-- COEFF, OP 0x03 of family 0x10. -/
def opCoeff : OpSpec :=
  { family := 0x10, op := 0x03, lens := [(36, 36)], epoch := true, journal := true, accepted := false,
    modes := .cfg, chan := .free }
/-- LIMITS, OP 0x04 of family 0x10. -/
def opLimits : OpSpec :=
  { family := 0x10, op := 0x04, lens := [(52, 52)], epoch := true, journal := true, accepted := false,
    modes := .copr, chan := .free }
/-- CLOSE, OP 0x05 of family 0x10. -/
def opClose : OpSpec :=
  { family := 0x10, op := 0x05, lens := [(8, 8)], epoch := true, journal := true, accepted := true,
    modes := .opr, chan := .free }
/-- OPEN, OP 0x06 of family 0x10. -/
def opOpen : OpSpec :=
  { family := 0x10, op := 0x06, lens := [(4, 4)], epoch := false, journal := true, accepted := false,
    modes := .run, chan := .free }
/-- VALUE_WRITE, OP 0x07 of family 0x10. -/
def opValueWrite : OpSpec :=
  { family := 0x10, op := 0x07, lens := [(16, 520)], epoch := true, journal := true, accepted := false,
    modes := .run, chan := .free }
/-- LOOP_STATUS, OP 0x08 of family 0x10. -/
def opLoopStatus : OpSpec :=
  { family := 0x10, op := 0x08, lens := [(4, 4)], epoch := false, journal := false, accepted := false,
    modes := .run, chan := .free }
/-- LOOP_READ, OP 0x09 of family 0x10. -/
def opLoopRead : OpSpec :=
  { family := 0x10, op := 0x09, lens := [(4, 4)], epoch := false, journal := false, accepted := false,
    modes := .run, chan := .free }
/-- LANES, OP 0x0A of family 0x10. -/
def opLanes : OpSpec :=
  { family := 0x10, op := 0x0A, lens := [(0, 0)], epoch := false, journal := false, accepted := false,
    modes := .run, chan := .free }
/-- TRACE, OP 0x0B of family 0x10. -/
def opTrace : OpSpec :=
  { family := 0x10, op := 0x0B, lens := [(36, 36)], epoch := false, journal := false, accepted := false,
    modes := .run, chan := .free }
/-- TUNE, OP 0x0C of family 0x10. -/
def opTune : OpSpec :=
  { family := 0x10, op := 0x0C, lens := [(44, 44)], epoch := true, journal := false, accepted := true,
    modes := .only [.commission], chan := .free }
/-- TUNE_ABORT, OP 0x0D of family 0x10. -/
def opTuneAbort : OpSpec :=
  { family := 0x10, op := 0x0D, lens := [(4, 4)], epoch := false, journal := false, accepted := false,
    modes := .run, chan := .free }
/-- TUNE_COMMIT, OP 0x0E of family 0x10. -/
def opTuneCommit : OpSpec :=
  { family := 0x10, op := 0x0E, lens := [(8, 8)], epoch := true, journal := true, accepted := false,
    modes := .only [.commission], chan := .free }
/-- FUNCTION_DEFINE, OP 0x01 of family 0x11. -/
def opFunctionDefine : OpSpec :=
  { family := 0x11, op := 0x01, lens := [(92, 368)], epoch := true, journal := true, accepted := false,
    modes := .cfg, chan := .free }
/-- FUNCTION_CLEAR, OP 0x02 of family 0x11. -/
def opFunctionClear : OpSpec :=
  { family := 0x11, op := 0x02, lens := [(8, 8)], epoch := true, journal := true, accepted := false,
    modes := .cfg, chan := .free }
/-- FUNCTION_START, OP 0x03 of family 0x11. -/
def opFunctionStart : OpSpec :=
  { family := 0x11, op := 0x03, lens := [(8, 8)], epoch := true, journal := true, accepted := true,
    modes := .own, chan := .free }
/-- FUNCTION_STOP, OP 0x04 of family 0x11. -/
def opFunctionStop : OpSpec :=
  { family := 0x11, op := 0x04, lens := [(4, 4)], epoch := false, journal := true, accepted := false,
    modes := .run, chan := .free }
/-- FUNCTION_PARAMS, OP 0x05 of family 0x11. -/
def opFunctionParams : OpSpec :=
  { family := 0x11, op := 0x05, lens := [(72, 72)], epoch := true, journal := true, accepted := false,
    modes := .copr, chan := .free }
/-- FUNCTION_STATUS, OP 0x06 of family 0x11. -/
def opFunctionStatus : OpSpec :=
  { family := 0x11, op := 0x06, lens := [(4, 4)], epoch := false, journal := false, accepted := false,
    modes := .run, chan := .free }
/-- CALIBRATE, OP 0x07 of family 0x11. -/
def opCalibrate : OpSpec :=
  { family := 0x11, op := 0x07, lens := [(16, 16)], epoch := true, journal := false, accepted := false,
    modes := .only [.fieldReady, .working, .headland], chan := .free }
/-- TOTALS, OP 0x08 of family 0x11. -/
def opTotals : OpSpec :=
  { family := 0x11, op := 0x08, lens := [(4, 4)], epoch := false, journal := false, accepted := false,
    modes := .run, chan := .free }
/-- SWITCH_CONFIG, OP 0x01 of family 0x12. -/
def opSwitchConfig : OpSpec :=
  { family := 0x12, op := 0x01, lens := [(40, 40)], epoch := true, journal := true, accepted := false,
    modes := .cfg, chan := .free }
/-- SET, OP 0x02 of family 0x12. -/
def opSet : OpSpec :=
  { family := 0x12, op := 0x02, lens := [(16, 392)], epoch := true, journal := true, accepted := true,
    modes := .only [.parked, .road, .fieldReady, .working, .headland, .limp], chan := .free }
/-- CLEAR_FAULT, OP 0x03 of family 0x12. -/
def opClearFault : OpSpec :=
  { family := 0x12, op := 0x03, lens := [(8, 8)], epoch := true, journal := true, accepted := false,
    modes := .copr, chan := .free }
/-- SERVICE_DRIVE, OP 0x04 of family 0x12. -/
def opServiceDrive : OpSpec :=
  { family := 0x12, op := 0x04, lens := [(16, 16)], epoch := true, journal := false, accepted := true,
    modes := .only [.commission, .service], chan := .free }
/-- SWITCH_STATUS, OP 0x05 of family 0x12. -/
def opSwitchStatus : OpSpec :=
  { family := 0x12, op := 0x05, lens := [(4, 4)], epoch := false, journal := false, accepted := false,
    modes := .run, chan := .free }
/-- READ_CONFIG, OP 0x06 of family 0x12. -/
def opReadConfig : OpSpec :=
  { family := 0x12, op := 0x06, lens := [(4, 4)], epoch := false, journal := false, accepted := false,
    modes := .run, chan := .free }
/-- GROUP_STATUS, OP 0x07 of family 0x12. -/
def opGroupStatus : OpSpec :=
  { family := 0x12, op := 0x07, lens := [(0, 0)], epoch := false, journal := false, accepted := false,
    modes := .run, chan := .free }
/-- IMPLEMENT_SET, OP 0x01 of family 0x13. -/
def opImplementSet : OpSpec :=
  { family := 0x13, op := 0x01, lens := [(64, 64)], epoch := true, journal := true, accepted := false,
    modes := .cfg, chan := .free }
/-- SECTIONS_SET, OP 0x02 of family 0x13. -/
def opSectionsSet : OpSpec :=
  { family := 0x13, op := 0x02, lens := [(28, 2568)], epoch := true, journal := true, accepted := false,
    modes := .cfg, chan := .free }
/-- ENGINE, OP 0x03 of family 0x13. -/
def opEngine : OpSpec :=
  { family := 0x13, op := 0x03, lens := [(8, 8)], epoch := true, journal := true, accepted := false,
    modes := .own, chan := .free }
/-- OVERRIDE, OP 0x04 of family 0x13. -/
def opOverride : OpSpec :=
  { family := 0x13, op := 0x04, lens := [(68, 68)], epoch := true, journal := true, accepted := false,
    modes := .only [.fieldReady, .working, .headland, .limp], chan := .free }
/-- SCHEDULE, OP 0x05 of family 0x13. -/
def opSchedule : OpSpec :=
  { family := 0x13, op := 0x05, lens := [(32, 1544)], epoch := true, journal := true, accepted := true,
    modes := .own, chan := .free }
/-- EDGE_CANCEL, OP 0x06 of family 0x13. -/
def opEdgeCancel : OpSpec :=
  { family := 0x13, op := 0x06, lens := [(8, 8)], epoch := false, journal := false, accepted := false,
    modes := .run, chan := .free }
/-- SECTION_STATUS, OP 0x07 of family 0x13. -/
def opSectionStatus : OpSpec :=
  { family := 0x13, op := 0x07, lens := [(0, 0)], epoch := false, journal := false, accepted := false,
    modes := .run, chan := .free }
/-- NAV_CONFIG, OP 0x01 of family 0x20. -/
def opNavConfig : OpSpec :=
  { family := 0x20, op := 0x01, lens := [(24, 24)], epoch := true, journal := true, accepted := false,
    modes := .cfg, chan := .free }
/-- CHANNEL_SET, OP 0x02 of family 0x20. -/
def opChannelSet : OpSpec :=
  { family := 0x20, op := 0x02, lens := [(16, 16)], epoch := true, journal := false, accepted := false,
    modes := .only [.commission, .service], chan := .free }
/-- CHANNEL_STATUS, OP 0x03 of family 0x20. -/
def opChannelStatus : OpSpec :=
  { family := 0x20, op := 0x03, lens := [(4, 4)], epoch := false, journal := false, accepted := false,
    modes := .run, chan := .free }
/-- ACQ_AID, OP 0x04 of family 0x20. -/
def opAcqAid : OpSpec :=
  { family := 0x20, op := 0x04, lens := [(48, 48)], epoch := false, journal := false, accepted := false,
    modes := .run, chan := .free }
/-- ORBIT_AID, OP 0x05 of family 0x20. -/
def opOrbitAid : OpSpec :=
  { family := 0x20, op := 0x05, lens := [(12, 1033)], epoch := false, journal := false, accepted := false,
    modes := .run, chan := .free }
/-- NAV_RESTART, OP 0x06 of family 0x20. -/
def opNavRestart : OpSpec :=
  { family := 0x20, op := 0x06, lens := [(8, 8)], epoch := true, journal := false, accepted := true,
    modes := .only [.parked, .commission, .service], chan := .free }
/-- KEPT_STATUS, OP 0x07 of family 0x20. -/
def opKeptStatus : OpSpec :=
  { family := 0x20, op := 0x07, lens := [(0, 0)], epoch := false, journal := false, accepted := false,
    modes := .run, chan := .free }
/-- FRONTEND_STATUS, OP 0x08 of family 0x20. -/
def opFrontendStatus : OpSpec :=
  { family := 0x20, op := 0x08, lens := [(0, 0)], epoch := false, journal := false, accepted := false,
    modes := .run, chan := .free }
/-- SOLUTION_CONFIG, OP 0x10 of family 0x20. -/
def opSolutionConfig : OpSpec :=
  { family := 0x20, op := 0x10, lens := [(32, 32)], epoch := true, journal := true, accepted := false,
    modes := .cfg, chan := .free }
/-- SOLUTION_READ, OP 0x11 of family 0x20. -/
def opSolutionRead : OpSpec :=
  { family := 0x20, op := 0x11, lens := [(0, 0)], epoch := false, journal := false, accepted := false,
    modes := .run, chan := .free }
/-- GUIDE_LINE, OP 0x12 of family 0x20. -/
def opGuideLine : OpSpec :=
  { family := 0x20, op := 0x12, lens := [(64, 64)], epoch := false, journal := true, accepted := false,
    modes := .run, chan := .free }
/-- STEER, OP 0x13 of family 0x20. -/
def opSteer : OpSpec :=
  { family := 0x20, op := 0x13, lens := [(16, 16)], epoch := true, journal := true, accepted := true,
    modes := .own, chan := .free }
/-- RTK_STATUS, OP 0x14 of family 0x20. -/
def opRtkStatus : OpSpec :=
  { family := 0x20, op := 0x14, lens := [(0, 0)], epoch := false, journal := false, accepted := false,
    modes := .run, chan := .free }
/-- TIME_CONFIG, OP 0x01 of family 0x21. -/
def opTimeConfig : OpSpec :=
  { family := 0x21, op := 0x01, lens := [(24, 24)], epoch := true, journal := true, accepted := false,
    modes := .cfg, chan := .free }
/-- TIME_STATUS, OP 0x02 of family 0x21. -/
def opTimeStatus : OpSpec :=
  { family := 0x21, op := 0x02, lens := [(0, 0)], epoch := false, journal := false, accepted := false,
    modes := .run, chan := .free }
/-- CAMERA_PORT_CONFIG, OP 0x01 of family 0x30. -/
def opCameraPortConfig : OpSpec :=
  { family := 0x30, op := 0x01, lens := [(36, 36)], epoch := false, journal := true, accepted := false,
    modes := .cfg, chan := .free }
/-- CAMERA_ENABLE, OP 0x02 of family 0x30. -/
def opCameraEnable : OpSpec :=
  { family := 0x30, op := 0x02, lens := [(4, 4)], epoch := false, journal := true, accepted := true,
    modes := .run, chan := .free }
/-- FSYNC_SET, OP 0x03 of family 0x30. -/
def opFsyncSet : OpSpec :=
  { family := 0x30, op := 0x03, lens := [(16, 16)], epoch := false, journal := true, accepted := false,
    modes := .run, chan := .free }
/-- CTRL_XFER, OP 0x04 of family 0x30. -/
def opCtrlXfer : OpSpec :=
  { family := 0x30, op := 0x04, lens := [(8, 264)], epoch := false, journal := false, accepted := false,
    modes := .run, chan := .free }
/-- CAMERA_PORT_STATUS, OP 0x05 of family 0x30. -/
def opCameraPortStatus : OpSpec :=
  { family := 0x30, op := 0x05, lens := [(4, 4)], epoch := false, journal := false, accepted := false,
    modes := .run, chan := .free }
/-- STAGE_SET, OP 0x01 of family 0x31. -/
def opStageSet : OpSpec :=
  { family := 0x31, op := 0x01, lens := [(8, 2316)], epoch := false, journal := true, accepted := false,
    modes := .run, chan := .free }
/-- OUTPUT_SET, OP 0x02 of family 0x31. -/
def opOutputSet : OpSpec :=
  { family := 0x31, op := 0x02, lens := [(24, 24)], epoch := false, journal := true, accepted := false,
    modes := .run, chan := .free }
/-- OUTPUT_STATUS, OP 0x03 of family 0x31. -/
def opOutputStatus : OpSpec :=
  { family := 0x31, op := 0x03, lens := [(4, 4)], epoch := false, journal := false, accepted := false,
    modes := .run, chan := .free }
/-- PIPE_STATUS, OP 0x04 of family 0x31. -/
def opPipeStatus : OpSpec :=
  { family := 0x31, op := 0x04, lens := [(4, 4)], epoch := false, journal := false, accepted := false,
    modes := .run, chan := .free }
/-- MODEL_LOAD, OP 0x01 of family 0x32. -/
def opModelLoad : OpSpec :=
  { family := 0x32, op := 0x01, lens := [(8, 8)], epoch := false, journal := true, accepted := true,
    modes := .run, chan := .free }
/-- MODEL_UNLOAD, OP 0x02 of family 0x32. -/
def opModelUnload : OpSpec :=
  { family := 0x32, op := 0x02, lens := [(8, 8)], epoch := false, journal := true, accepted := false,
    modes := .run, chan := .free }
/-- JOB_DEFINE, OP 0x03 of family 0x32. -/
def opJobDefine : OpSpec :=
  { family := 0x32, op := 0x03, lens := [(64, 160)], epoch := false, journal := true, accepted := false,
    modes := .run, chan := .free }
/-- JOB_CLEAR, OP 0x04 of family 0x32. -/
def opJobClear : OpSpec :=
  { family := 0x32, op := 0x04, lens := [(4, 4)], epoch := false, journal := true, accepted := false,
    modes := .run, chan := .free }
/-- JOB_START, OP 0x05 of family 0x32. -/
def opJobStart : OpSpec :=
  { family := 0x32, op := 0x05, lens := [(4, 4)], epoch := false, journal := true, accepted := true,
    modes := .run, chan := .free }
/-- JOB_STOP, OP 0x06 of family 0x32. -/
def opJobStop : OpSpec :=
  { family := 0x32, op := 0x06, lens := [(4, 4)], epoch := false, journal := true, accepted := true,
    modes := .run, chan := .free }
/-- POOL_DONE, OP 0x07 of family 0x32. -/
def opPoolDone : OpSpec :=
  { family := 0x32, op := 0x07, lens := [(16, 16)], epoch := false, journal := false, accepted := false,
    modes := .run, chan := .appPath }
/-- JOB_STATUS, OP 0x08 of family 0x32. -/
def opJobStatus : OpSpec :=
  { family := 0x32, op := 0x08, lens := [(4, 4)], epoch := false, journal := false, accepted := false,
    modes := .run, chan := .free }
/-- BUS_CONFIG, OP 0x01 of family 0x40. -/
def opBusConfig : OpSpec :=
  { family := 0x40, op := 0x01, lens := [(28, 28)], epoch := false, journal := true, accepted := false,
    modes := .cfg, chan := .free }
/-- BUS_CONTROL, OP 0x02 of family 0x40. -/
def opBusControl : OpSpec :=
  { family := 0x40, op := 0x02, lens := [(4, 4)], epoch := false, journal := true, accepted := false,
    modes := .run, chan := .free }
/-- FILTER_SET, OP 0x03 of family 0x40. -/
def opFilterSet : OpSpec :=
  { family := 0x40, op := 0x03, lens := [(8, 4072)], epoch := false, journal := true, accepted := false,
    modes := .run, chan := .free }
/-- COMPAT_SET, OP 0x04 of family 0x40. -/
def opCompatSet : OpSpec :=
  { family := 0x40, op := 0x04, lens := [(4, 196)], epoch := false, journal := true, accepted := false,
    modes := .cfg, chan := .free }
/-- QUEUE_CONFIG, OP 0x05 of family 0x40. -/
def opQueueConfig : OpSpec :=
  { family := 0x40, op := 0x05, lens := [(12, 12)], epoch := false, journal := true, accepted := false,
    modes := .cfg, chan := .free }
/-- RX_READ, OP 0x06 of family 0x40. -/
def opRxRead : OpSpec :=
  { family := 0x40, op := 0x06, lens := [(4, 4)], epoch := false, journal := false, accepted := false,
    modes := .run, chan := .free }
/-- TX_WRITE, OP 0x07 of family 0x40. -/
def opTxWrite : OpSpec :=
  { family := 0x40, op := 0x07, lens := [(32, 2080)], epoch := false, journal := true, accepted := false,
    modes := .run, chan := .free }
/-- TX_ABORT, OP 0x08 of family 0x40. -/
def opTxAbort : OpSpec :=
  { family := 0x40, op := 0x08, lens := [(4, 4)], epoch := false, journal := false, accepted := false,
    modes := .run, chan := .free }
/-- BUS_STATUS, OP 0x09 of family 0x40. -/
def opBusStatus : OpSpec :=
  { family := 0x40, op := 0x09, lens := [(4, 4)], epoch := false, journal := false, accepted := false,
    modes := .run, chan := .free }
/-- CF_CLAIM, OP 0x0A of family 0x40. -/
def opCfClaim : OpSpec :=
  { family := 0x40, op := 0x0A, lens := [(20, 20)], epoch := false, journal := true, accepted := true,
    modes := .run, chan := .free }
/-- PGN_SEND, OP 0x0B of family 0x40. -/
def opPgnSend : OpSpec :=
  { family := 0x40, op := 0x0B, lens := [(32, 1817)], epoch := false, journal := true, accepted := true,
    modes := .run, chan := .free }
/-- ETH_PORT_CONFIG, OP 0x01 of family 0x41. -/
def opEthPortConfig : OpSpec :=
  { family := 0x41, op := 0x01, lens := [(16, 16)], epoch := false, journal := true, accepted := false,
    modes := .cfg, chan := .free }
/-- ETH_PORT_STATUS, OP 0x02 of family 0x41. -/
def opEthPortStatus : OpSpec :=
  { family := 0x41, op := 0x02, lens := [(4, 4)], epoch := false, journal := false, accepted := false,
    modes := .run, chan := .free }
/-- GATE_SET, OP 0x03 of family 0x41. -/
def opGateSet : OpSpec :=
  { family := 0x41, op := 0x03, lens := [(12, 524)], epoch := false, journal := true, accepted := true,
    modes := .run, chan := .free }
/-- SYNC_CONFIG, OP 0x04 of family 0x41. -/
def opSyncConfig : OpSpec :=
  { family := 0x41, op := 0x04, lens := [(8, 8)], epoch := false, journal := true, accepted := false,
    modes := .cfg, chan := .free }
/-- IP_CONFIG, OP 0x05 of family 0x41. -/
def opIpConfig : OpSpec :=
  { family := 0x41, op := 0x05, lens := [(16, 16)], epoch := false, journal := true, accepted := false,
    modes := .cfg, chan := .ch0 }
/-- NODE_SET, OP 0x06 of family 0x41. -/
def opNodeSet : OpSpec :=
  { family := 0x41, op := 0x06, lens := [(8, 8)], epoch := false, journal := true, accepted := false,
    modes := .cfg, chan := .free }
/-- FLEET_CONFIG, OP 0x01 of family 0x42. -/
def opFleetConfig : OpSpec :=
  { family := 0x42, op := 0x01, lens := [(40, 40)], epoch := false, journal := true, accepted := false,
    modes := .cfg, chan := .ch0 }
/-- FLEET_STATUS, OP 0x02 of family 0x42. -/
def opFleetStatus : OpSpec :=
  { family := 0x42, op := 0x02, lens := [(0, 0)], epoch := false, journal := false, accepted := false,
    modes := .run, chan := .free }
/-- MAP_MERGE, OP 0x03 of family 0x42. -/
def opMapMerge : OpSpec :=
  { family := 0x42, op := 0x03, lens := [(24, 24)], epoch := false, journal := true, accepted := true,
    modes := .run, chan := .free }
/-- FI_CONFIG, OP 0x01 of family 0x50. -/
def opFiConfig : OpSpec :=
  { family := 0x50, op := 0x01, lens := [(8, 8)], epoch := false, journal := true, accepted := false,
    modes := .cfg, chan := .free }
/-- FO_CONFIG, OP 0x02 of family 0x50. -/
def opFoConfig : OpSpec :=
  { family := 0x50, op := 0x02, lens := [(4, 4)], epoch := false, journal := true, accepted := false,
    modes := .cfg, chan := .free }
/-- SI_CONFIG, OP 0x03 of family 0x50. -/
def opSiConfig : OpSpec :=
  { family := 0x50, op := 0x03, lens := [(16, 16)], epoch := false, journal := true, accepted := false,
    modes := .cfg, chan := .free }
/-- FO_SET, OP 0x04 of family 0x50. -/
def opFoSet : OpSpec :=
  { family := 0x50, op := 0x04, lens := [(12, 72)], epoch := true, journal := true, accepted := false,
    modes := .own, chan := .free }
/-- FO_CLEAR, OP 0x05 of family 0x50. -/
def opFoClear : OpSpec :=
  { family := 0x50, op := 0x05, lens := [(4, 4)], epoch := false, journal := true, accepted := false,
    modes := .copr, chan := .free }
/-- FIELD_STATUS, OP 0x06 of family 0x50. -/
def opFieldStatus : OpSpec :=
  { family := 0x50, op := 0x06, lens := [(0, 0)], epoch := false, journal := false, accepted := false,
    modes := .run, chan := .free }
/-- SI_STATUS, OP 0x07 of family 0x50. -/
def opSiStatus : OpSpec :=
  { family := 0x50, op := 0x07, lens := [(0, 0)], epoch := false, journal := false, accepted := false,
    modes := .run, chan := .free }
/-- DISPLAY_CONFIG, OP 0x01 of family 0x60. -/
def opDisplayConfig : OpSpec :=
  { family := 0x60, op := 0x01, lens := [(24, 24)], epoch := false, journal := true, accepted := false,
    modes := .cfg, chan := .free }
/-- WAVEFORM_LOAD, OP 0x02 of family 0x60. -/
def opWaveformLoad : OpSpec :=
  { family := 0x60, op := 0x02, lens := [(8, 8)], epoch := false, journal := true, accepted := false,
    modes := .cfg, chan := .free }
/-- DISPLAY_UPDATE, OP 0x03 of family 0x60. -/
def opDisplayUpdate : OpSpec :=
  { family := 0x60, op := 0x03, lens := [(40, 40)], epoch := false, journal := false, accepted := true,
    modes := .run, chan := .free }
/-- FRONT_LIGHT, OP 0x04 of family 0x60. -/
def opFrontLight : OpSpec :=
  { family := 0x60, op := 0x04, lens := [(4, 4)], epoch := false, journal := true, accepted := false,
    modes := .run, chan := .free }
/-- DISPLAY_STATUS, OP 0x05 of family 0x60. -/
def opDisplayStatus : OpSpec :=
  { family := 0x60, op := 0x05, lens := [(0, 0)], epoch := false, journal := false, accepted := false,
    modes := .run, chan := .free }
/-- SAFETY_STATUS, OP 0x01 of family 0x70. -/
def opSafetyStatus : OpSpec :=
  { family := 0x70, op := 0x01, lens := [(0, 0)], epoch := false, journal := false, accepted := false,
    modes := .run, chan := .free }
/-- CONFIG_READ, OP 0x02 of family 0x70. -/
def opConfigRead : OpSpec :=
  { family := 0x70, op := 0x02, lens := [(4, 4)], epoch := false, journal := false, accepted := false,
    modes := .run, chan := .free }
/-- CONFIG_STAGE, OP 0x03 of family 0x70. -/
def opConfigStage : OpSpec :=
  { family := 0x70, op := 0x03, lens := [(264, 264)], epoch := true, journal := false, accepted := false,
    modes := .only [.commission], chan := .free }
/-- CONFIG_COMMIT, OP 0x04 of family 0x70. -/
def opConfigCommit : OpSpec :=
  { family := 0x70, op := 0x04, lens := [(40, 40)], epoch := true, journal := false, accepted := false,
    modes := .only [.commission], chan := .free }
/-- VALIDATE, OP 0x05 of family 0x70. -/
def opValidate : OpSpec :=
  { family := 0x70, op := 0x05, lens := [(56, 56)], epoch := true, journal := false, accepted := false,
    modes := .only [.commission], chan := .free }
/-- PASSWORD_SET, OP 0x06 of family 0x70. -/
def opPasswordSet : OpSpec :=
  { family := 0x70, op := 0x06, lens := [(72, 72)], epoch := true, journal := false, accepted := false,
    modes := .only [.commission], chan := .free }
/-- LOG_READ, OP 0x07 of family 0x70. -/
def opLogRead : OpSpec :=
  { family := 0x70, op := 0x07, lens := [(8, 8)], epoch := false, journal := false, accepted := false,
    modes := .run, chan := .free }
/-- OFF_REQUEST, OP 0x08 of family 0x70. -/
def opOffRequest : OpSpec :=
  { family := 0x70, op := 0x08, lens := [(4, 4)], epoch := false, journal := false, accepted := false,
    modes := .run, chan := .free }
/-- IMAGE_INSTALL, OP 0x01 of family 0x80. -/
def opImageInstall : OpSpec :=
  { family := 0x80, op := 0x01, lens := [(24, 24)], epoch := false, journal := false, accepted := true,
    modes := .img, chan := .free }
/-- IMAGE_ACTIVATE, OP 0x02 of family 0x80. -/
def opImageActivate : OpSpec :=
  { family := 0x80, op := 0x02, lens := [(8, 8)], epoch := true, journal := false, accepted := true,
    modes := .img, chan := .free }
/-- IMAGE_CONFIRM, OP 0x03 of family 0x80. -/
def opImageConfirm : OpSpec :=
  { family := 0x80, op := 0x03, lens := [(4, 4)], epoch := false, journal := true, accepted := false,
    modes := .run, chan := .free }
/-- IMAGE_REVERT, OP 0x04 of family 0x80. -/
def opImageRevert : OpSpec :=
  { family := 0x80, op := 0x04, lens := [(8, 8)], epoch := true, journal := false, accepted := true,
    modes := .img, chan := .free }
/-- IMAGE_STATUS, OP 0x05 of family 0x80. -/
def opImageStatus : OpSpec :=
  { family := 0x80, op := 0x05, lens := [(4, 4)], epoch := false, journal := false, accepted := false,
    modes := .any, chan := .free }
/-- POLICY_SET, OP 0x06 of family 0x80. -/
def opPolicySet : OpSpec :=
  { family := 0x80, op := 0x06, lens := [(8, 8)], epoch := false, journal := true, accepted := false,
    modes := .only [.provision, .commission], chan := .ch0 }
/-- RECOVERY_ENTER, OP 0x07 of family 0x80. -/
def opRecoveryEnter : OpSpec :=
  { family := 0x80, op := 0x07, lens := [(4, 4)], epoch := false, journal := false, accepted := false,
    modes := .img, chan := .ch0 }
/-- RECOVERY_LOAD, OP 0x08 of family 0x80. -/
def opRecoveryLoad : OpSpec :=
  { family := 0x80, op := 0x08, lens := [(24, 24)], epoch := false, journal := false, accepted := true,
    modes := .only [.recovery], chan := .ch63 }
/-- INSTALL_ABORT, OP 0x09 of family 0x80. -/
def opInstallAbort : OpSpec :=
  { family := 0x80, op := 0x09, lens := [(0, 0)], epoch := false, journal := false, accepted := false,
    modes := .run, chan := .free }
/-- IDENTITY_SET, OP 0x01 of family 0x81. -/
def opIdentitySet : OpSpec :=
  { family := 0x81, op := 0x01, lens := [(8, 8)], epoch := false, journal := false, accepted := false,
    modes := .only [.provision], chan := .ch0 }
/-- KEY_PUBLIC, OP 0x02 of family 0x81. -/
def opKeyPublic : OpSpec :=
  { family := 0x81, op := 0x02, lens := [(0, 0)], epoch := false, journal := false, accepted := false,
    modes := .run, chan := .free }
/-- KEY_SET, OP 0x03 of family 0x81. -/
def opKeySet : OpSpec :=
  { family := 0x81, op := 0x03, lens := [(5, 2052)], epoch := false, journal := false, accepted := false,
    modes := .own, chan := .ch0 }
/-- KEY_CLEAR, OP 0x04 of family 0x81. -/
def opKeyClear : OpSpec :=
  { family := 0x81, op := 0x04, lens := [(4, 4)], epoch := false, journal := false, accepted := false,
    modes := .own, chan := .ch0 }
/-- KEY_STATUS, OP 0x05 of family 0x81. -/
def opKeyStatus : OpSpec :=
  { family := 0x81, op := 0x05, lens := [(0, 0)], epoch := false, journal := false, accepted := false,
    modes := .run, chan := .free }
/-- SELFTEST, OP 0x01 of family 0xF0. -/
def opSelftest : OpSpec :=
  { family := 0xF0, op := 0x01, lens := [(8, 8)], epoch := true, journal := false, accepted := true,
    modes := .cfg, chan := .free }
/-- COUNTER_READ, OP 0x02 of family 0xF0. -/
def opCounterRead : OpSpec :=
  { family := 0xF0, op := 0x02, lens := [(8, 8)], epoch := false, journal := false, accepted := false,
    modes := .run, chan := .free }
/-- COUNTER_CLEAR, OP 0x03 of family 0xF0. -/
def opCounterClear : OpSpec :=
  { family := 0xF0, op := 0x03, lens := [(8, 8)], epoch := false, journal := false, accepted := false,
    modes := .run, chan := .free }
/-- THERMAL_READ, OP 0x04 of family 0xF0. -/
def opThermalRead : OpSpec :=
  { family := 0xF0, op := 0x04, lens := [(0, 0)], epoch := false, journal := false, accepted := false,
    modes := .run, chan := .free }

/-- OPs of family 0x01. -/
def family01 : List OpSpec :=
  [opIdentify, opInventory, opTimeRead, opChannelBind, opSubscribe, opCompatView, opWatchdogSet, opHostWatch,
   opHostBeat]
/-- OPs of family 0x02. -/
def family02 : List OpSpec :=
  [opRungRequest, opKeepAwake, opWakeConfig, opCanWakeFilter, opDescentSet, opPowerStatus]
/-- OPs of family 0x03. -/
def family03 : List OpSpec :=
  [opModeRequest, opModeQuery, opAuthChallenge]
/-- OPs of family 0x04. -/
def family04 : List OpSpec :=
  [opPlace, opRelease, opPin, opMap, opUnmap, opSync, opPlacementQuery, opCapacity, opList, opQuotaSet,
   opJobPool, opBootViewSet]
/-- OPs of family 0x05. -/
def family05 : List OpSpec :=
  [opStreamCreate, opStreamAttach, opStreamDetach, opStreamDestroy, opStreamQuery, opLinkConfig, opLinkStatus,
   opLinkRetrain]
/-- OPs of family 0x06. -/
def family06 : List OpSpec :=
  [opLedgerStatus, opLedgerRead, opJournalConfig, opReplayControl, opOutputs]
/-- OPs of family 0x10. -/
def family10 : List OpSpec :=
  [opLoopDefine, opLoopClear, opCoeff, opLimits, opClose, opOpen, opValueWrite, opLoopStatus, opLoopRead,
   opLanes, opTrace, opTune, opTuneAbort, opTuneCommit]
/-- OPs of family 0x11. -/
def family11 : List OpSpec :=
  [opFunctionDefine, opFunctionClear, opFunctionStart, opFunctionStop, opFunctionParams, opFunctionStatus,
   opCalibrate, opTotals]
/-- OPs of family 0x12. -/
def family12 : List OpSpec :=
  [opSwitchConfig, opSet, opClearFault, opServiceDrive, opSwitchStatus, opReadConfig, opGroupStatus]
/-- OPs of family 0x13. -/
def family13 : List OpSpec :=
  [opImplementSet, opSectionsSet, opEngine, opOverride, opSchedule, opEdgeCancel, opSectionStatus]
/-- OPs of family 0x20. -/
def family20 : List OpSpec :=
  [opNavConfig, opChannelSet, opChannelStatus, opAcqAid, opOrbitAid, opNavRestart, opKeptStatus,
   opFrontendStatus, opSolutionConfig, opSolutionRead, opGuideLine, opSteer, opRtkStatus]
/-- OPs of family 0x21. -/
def family21 : List OpSpec :=
  [opTimeConfig, opTimeStatus]
/-- OPs of family 0x30. -/
def family30 : List OpSpec :=
  [opCameraPortConfig, opCameraEnable, opFsyncSet, opCtrlXfer, opCameraPortStatus]
/-- OPs of family 0x31. -/
def family31 : List OpSpec :=
  [opStageSet, opOutputSet, opOutputStatus, opPipeStatus]
/-- OPs of family 0x32. -/
def family32 : List OpSpec :=
  [opModelLoad, opModelUnload, opJobDefine, opJobClear, opJobStart, opJobStop, opPoolDone, opJobStatus]
/-- OPs of family 0x40. -/
def family40 : List OpSpec :=
  [opBusConfig, opBusControl, opFilterSet, opCompatSet, opQueueConfig, opRxRead, opTxWrite, opTxAbort,
   opBusStatus, opCfClaim, opPgnSend]
/-- OPs of family 0x41. -/
def family41 : List OpSpec :=
  [opEthPortConfig, opEthPortStatus, opGateSet, opSyncConfig, opIpConfig, opNodeSet]
/-- OPs of family 0x42. -/
def family42 : List OpSpec :=
  [opFleetConfig, opFleetStatus, opMapMerge]
/-- OPs of family 0x50. -/
def family50 : List OpSpec :=
  [opFiConfig, opFoConfig, opSiConfig, opFoSet, opFoClear, opFieldStatus, opSiStatus]
/-- OPs of family 0x60. -/
def family60 : List OpSpec :=
  [opDisplayConfig, opWaveformLoad, opDisplayUpdate, opFrontLight, opDisplayStatus]
/-- OPs of family 0x70. -/
def family70 : List OpSpec :=
  [opSafetyStatus, opConfigRead, opConfigStage, opConfigCommit, opValidate, opPasswordSet, opLogRead,
   opOffRequest]
/-- OPs of family 0x80. -/
def family80 : List OpSpec :=
  [opImageInstall, opImageActivate, opImageConfirm, opImageRevert, opImageStatus, opPolicySet, opRecoveryEnter,
   opRecoveryLoad, opInstallAbort]
/-- OPs of family 0x81. -/
def family81 : List OpSpec :=
  [opIdentitySet, opKeyPublic, opKeySet, opKeyClear, opKeyStatus]
/-- OPs of family 0xF0. -/
def familyF0 : List OpSpec :=
  [opSelftest, opCounterRead, opCounterClear, opThermalRead]

/-- Every OP of every family. -/
def opTable : List OpSpec :=
  family01 ++ family02 ++ family03 ++ family04 ++ family05 ++ family06 ++ family10 ++ family11 ++
  family12 ++ family13 ++ family20 ++ family21 ++ family30 ++ family31 ++ family32 ++ family40 ++
  family41 ++ family42 ++ family50 ++ family60 ++ family70 ++ family80 ++ family81 ++ familyF0

/-- The row of the OP table for a family and an OP (R174 step 5). -/
def findOp (family op : Nat) : Option OpSpec := opTable.find? fun o => o.family = family && o.op = op

end Sys2Proof.Machine
end

