-- ==== Sys2Proof/Machine/Ops.lean ====
section
/-! DEFINITION. The shared operations of every family: time, free values, channels and their rings, replies, refusals,
events, completions, counters, fences and the gate a request passes before its unit executes it. -/

namespace Sys2Proof.Machine

/-! ### Time and free values -/

/-- The command falls at module time `t`, an unsigned 64-bit count (R14, assumption 1). -/
def State.atTime (s : State) (t : Nat) : State := { s with time := t % 2 ^ 64 }

/-- An island's local copy of module time (R35). -/
def State.copyTime (s : State) (i : Nat) : Nat := (Int.ofNat s.time + s.copies.rd i 0).toNat

/-- Island on whose copy of module time a unit stamps its events: SUP for the module supervisor (R35, R140). -/
def clockOf (u : Nat) : Nat := if u = moduleSupervisor then islSup else islandOf u

/-- The state at a tick of module time. -/
def State.atTick (s : State) (t : Nat) : State := { s with tick := t }

/-- Use up `n` free values. -/
def State.spend (s : State) (n : Nat) : State := { s with freeCount := s.freeCount + n }

/-- The next free value, of `w` bits, and the state that has taken it (assumption 3). -/
def State.free (s : State) (w : Nat) : BitVec w × State := (Config.free w s.freeCount, s.spend 1)

/-- `m` bytes of free value (nonces, unstated fields). -/
def freeBytes (k : Nat) : Nat → List Byte
  | 0 => []
  | n + 1 => Config.free 8 (k + n) :: freeBytes k n

/-- By how much an island's copy of module time may be off, ns (R35). -/
def copyError (i : Nat) : Nat := if i = islCtl then 20 else 200

/-- Every island's copy of module time is set by handshake at a tick (R35): how far it is then off is a free value within its bound
(assumption 120). -/
def State.setCopies (s : State) : State :=
  let off := fun (i : Nat) => ((Config.free 16 (s.freeCount + i)).toNat % (2 * copyError i + 1) : Int) - copyError i
  ({ s with copies := (List.range 12).foldl (fun b i => b.put i (off i)) Bank.empty }).spend 12

/-- Run an effect, or refuse a command that names no object of the module. -/
def valid (b : Bool) (o : Out) : Out := if b then o else .refused .noSuchObject

/-! ### Messages of the mailbox (R172, R173) -/

/-- Header bytes 0–11 of a message (R172). -/
def headerBytes (len family op flags status tag : Nat) : List Byte :=
  le 2 len ++ le 1 family ++ le 1 op ++ le 2 flags ++ le 2 status ++ le 4 tag

/-- CHECK of a message the hub writes (R173). -/
def Message.check (m : Message) : U32 :=
  crc32c (headerBytes m.payload.length m.family m.op m.flags m.status m.tag.toNat ++ m.payload)

/-- CHECK the hub computes over a slot it reads (R173). -/
def Slot.computed (m : Slot) : U32 :=
  crc32c (headerBytes m.len.toNat m.family.toNat m.op.toNat m.flags.toNat m.status.toNat m.tag.toNat ++
    m.payload.take m.len.toNat)

/-! ### Channels -/

/-- Channel `c`. -/
def State.chan (s : State) (c : Nat) : Channel := s.hub.chans.rd c Channel.reset

/-- Write channel `c`. -/
def State.setChan (s : State) (c : Nat) (x : Channel) : State :=
  { s with hub := { s.hub with chans := s.hub.chans.put c x } }

/-- Change channel `c`. -/
def State.modChan (s : State) (c : Nat) (f : Channel → Channel) : State := s.setChan c (f (s.chan c))

/-- Change the mailbox hub. -/
def State.modHub (s : State) (f : Hub → Hub) : State := { s with hub := f s.hub }

/-- Change the power state. -/
def State.modPower (s : State) (f : Power → Power) : State := { s with power := f s.power }

/-- Change the mode state. -/
def State.modMode (s : State) (f : ModeState → ModeState) : State := { s with mode := f s.mode }

/-- Change the ledger. -/
def State.modLedger (s : State) (f : Ledger → Ledger) : State := { s with ledger := f s.ledger }

/-- CH_STATUS bit numbers (R161). -/
def stReply : Nat := 0
/-- EVENT_PENDING. -/
def stEvent : Nat := 1
/-- REQ_SPACE. -/
def stSpace : Nat := 2
/-- EVENT_LOST. -/
def stLost : Nat := 3
/-- RING_ERROR. -/
def stRingError : Nat := 4
/-- CH_RESTARTED. -/
def stRestarted : Nat := 5
/-- BAD_MESSAGE. -/
def stBad : Nat := 6

/-- The AND of CH_STATUS and CH_IRQ_EN is nonzero (R184). -/
def Channel.irqAnd (c : Channel) : Bool := (c.status.toNat &&& c.irqEn.toNat) != 0

/-- The path carries interrupts (R184). -/
def Channel.hasIrq (c : Channel) : Bool := c.path == .app || c.path == .pcie

/-- Send the channel's interrupt (R184): the message of a masked vector stays pending instead (R186, assumption 110). -/
def Channel.sendIrq (c : Channel) : Channel :=
  if c.path == .pcie && c.masked then { c with msiPending := true } else { c with irqCount := c.irqCount + 1 }

/-- The interrupt follows the AND: a pending message goes with it (R184). -/
def Channel.levelIrq (c : Channel) : Channel :=
  let on := c.hasIrq && c.irqAnd
  { c with irq := on, msiPending := c.msiPending && on }

/-- The interrupt after a change of flags or enables: it is sent when the AND turns nonzero (R184). -/
def Channel.refreshIrq (old new : Channel) : Channel :=
  if new.hasIrq && new.irqAnd && !old.irqAnd then new.levelIrq.sendIrq else new.levelIrq

/-- A hardware set of CH_STATUS bit `n`: the flag is 1, its event counter increments (R181), and the interrupt follows. -/
def Channel.setFlag (c : Channel) (n : Nat) : Channel :=
  Channel.refreshIrq c { c with status := c.status ||| BitVec.ofNat 7 (2 ^ n), cnt := c.cnt.modify n (· + 1) }

/-- Address of the slot that a pointer names in a ring of `size` slots (R164). -/
def slotAddress (base : U64) (size : Nat) (pointer : U16) : Nat := base.toNat + 4096 * (pointer.toNat % size)

/-- Slots of the request ring (R157). -/
def Channel.reqSize (c : Channel) : Nat := 2 ^ c.reqLog2

/-- Slots of the reply ring (R157). -/
def Channel.rplSize (c : Channel) : Nat := 2 ^ c.rplLog2

/-- The channel's rings are in memory the host sees (R159); the other paths carry messages (R189, R190, R193). -/
def Channel.ringed (c : Channel) : Bool := c.path == .app || c.path == .pcie

/-- Address of the request slot the hub fetches next (R164). -/
def Channel.fetchAddress (c : Channel) : Nat := slotAddress c.reqBase c.reqSize c.reqHead

/-- Address of the reply slot the hub writes next (R164). -/
def Channel.writeAddress (c : Channel) : Nat := slotAddress c.rplBase c.rplSize c.rplTail

/-- The message in slot `n` of the reply ring, where it is occupied (R164). -/
def Channel.slot (c : Channel) (n : Nat) : Option Message :=
  c.ring[(n + c.rplSize - c.rplHead.toNat % c.rplSize) % c.rplSize]?

/-- Reply slots held for replies and completions (R167). -/
def Channel.reserved (c : Channel) : Nat := (c.outstanding.map (·.slots)).sum + c.held.length

/-- Reply slots neither unread by the host nor reserved (R167). On a path without rings a message leaves at once. -/
def Channel.freeSlots (c : Channel) : Nat :=
  if c.ringed then c.rplSize - (c.rplTail - c.rplHead).toNat - c.reserved else c.rplSize - c.reserved

/-- Write one reply or event slot: the slot first, then RPL_TAIL (R168). -/
def Channel.write (c : Channel) (m : Message) : Channel :=
  if c.ringed then { c with ring := c.ring ++ [m], rplTail := c.rplTail + 1 } else { c with sent := c.sent ++ [m] }

/-- Set REPLY_PENDING at once; coalescing starts again (R162). -/
def Channel.notifyReply (c : Channel) : Channel := { c.setFlag stReply with unnotified := 0, coalDue := none }

/-- Notification of a reply at module time `t`, under COAL (R162). -/
def Channel.coalesce (c : Channel) (t : Nat) (urgent : Bool) : Channel :=
  if urgent || c.unnotified + 1 ≥ max 1 c.coalCount then c.notifyReply
  else if c.unnotified = 0 && c.coalTime != 0 then
    { c with unnotified := 1, coalDue := some (t + c.coalTime * us) }
  else { c with unnotified := c.unnotified + 1 }

/-- Copy of a reply or completion into the compatibility view (R193). -/
def CompatView.copy (v : CompatView) (status : Nat) (ok : Bool) (payload : List Byte) : CompatView :=
  { v with rlen := BitVec.ofNat 16 payload.length, result := BitVec.ofNat 16 status,
           res := (payload ++ List.replicate 32 0).take 32, trunc := decide (32 < payload.length), err := !ok,
           busy := false, done := true, doneCount := v.doneCount + 1 }

/-- Copy of a completion (R193): it replaces the reply and sets DONE; BUSY and ERR stay. -/
def CompatView.copyCompletion (v : CompatView) (code : Nat) (payload : List Byte) : CompatView :=
  { v.copy code true payload with busy := v.busy, err := v.err }

/-- The channel is bound to the compatibility view. -/
def State.onCompat (s : State) (c : Nat) : Bool := (s.chan c).path == .compat

/-- Change the compatibility view. -/
def State.modCompat (s : State) (f : CompatView → CompatView) : State :=
  s.modHub fun h => { h with compat := f h.compat }

/-! ### Diagnostics counters (R233) -/

/-- Add 1 to Diagnostics counter `i` of a unit. -/
def State.count (s : State) (unit i : Nat) : State :=
  s.modMode fun m => { m with diag := m.diag.upd (unit * 1024 + i) 0 (· + 1) }

/-- Add `n` to Diagnostics counter `i` of a unit. -/
def State.countN (s : State) (unit i n : Nat) : State :=
  if n = 0 then s else s.modMode fun m => { m with diag := m.diag.upd (unit * 1024 + i) 0 (· + BitVec.ofNat 32 n) }

/-! ### Raising events -/

/-- An event of the raised queue that R820 and R822 may drop: not a completion. -/
def RaisedEvent.droppable (e : RaisedEvent) : Bool := e.req.isNone

/-- Every channel that would have received a dropped event carries LOST_BEFORE in its next event (R820, R822). -/
def Hub.lostOn (h : Hub) (e : RaisedEvent) : Hub :=
  let f := fun (_ : Nat) (c : Channel) => if c.families.getLsbD (e.code / 256) then { c with lostBefore := true } else c
  { h with chans := h.chans.mapAll f }

/-- Keep at most `n` droppable events that meet `p`: the oldest goes first. -/
def dropOldest (p : RaisedEvent → Bool) (n : Nat) (l : List RaisedEvent) : List RaisedEvent × Option RaisedEvent :=
  if (l.filter fun e => p e && e.droppable).length ≤ n then (l, none)
  else match takeFirst (fun e => p e && e.droppable) l with
    | some (e, rest) => (rest, some e)
    | none => (l, none)

/-- Put an event in a queue by its stamp, never ahead of an earlier one of its own unit (R22). -/
def placeEvent (e : RaisedEvent) (l : List RaisedEvent) : List RaisedEvent :=
  let later := l.reverse.takeWhile fun x => x.unit != e.unit && decide (e.time < x.time)
  l.take (l.length - later.length) ++ e :: later.reverse

/-- Put a raised event in the queue: with the island supervisor while the hub is absent, at most 256 per island (R822);
with the hub otherwise, at most 512 that are not completions before MODE_ENTERED (R820). -/
def Hub.push (h : Hub) (booted : Bool) (e : RaisedEvent) : Hub :=
  if h.absent then
    match dropOldest (fun x => islandOf x.unit == islandOf e.unit) 256 (placeEvent e h.islandHeld) with
    | (l, some x) => Hub.lostOn { h with islandHeld := l } x
    | (l, none) => { h with islandHeld := l }
  else if booted then { h with raised := placeEvent e h.raised }
  else
    match dropOldest (fun _ => true) 512 (placeEvent e h.raised) with
    | (l, some x) => Hub.lostOn { h with raised := l } x
    | (l, none) => { h with raised := l }

/-- The island supervisor drops a held event for this one: its island holds 256 already (R822). -/
def Hub.overflows (h : Hub) (e : RaisedEvent) : Bool :=
  h.absent && decide (256 < ((placeEvent e h.islandHeld).filter fun x => islandOf x.unit == islandOf e.unit && x.droppable).length)

/-- An event enters the queue; a drop at an island supervisor is counted at the hub (R822, R233). -/
def State.post (s : State) (e : RaisedEvent) : State :=
  let s' := s.modHub fun h => h.push s.mode.booted e
  (if s.hub.overflows e then s'.count uHub 16 else s').count e.unit 3

/-- The event a unit raises to the subscribers, stamped with its island's copy of module time (R35, R178). -/
def State.eventOf (s : State) (unit code : Nat) (fields : List Byte) (hold : List Nat) : RaisedEvent :=
  { time := s.copyTime (clockOf unit), unit := unit, code := code, fields := fields, req := none, toSubs := true, fail := false,
    hold := hold }

/-- A unit raises an event to the subscribers (R178, R179). -/
def State.raise (s : State) (unit code : Nat) (fields : List Byte) : State := s.post (s.eventOf unit code fields [])

/-- A unit raises an event to the subscribers of the families `hold`, kept for each that is not yet enabled (R22, R822). -/
def State.raiseHeld (s : State) (unit code : Nat) (fields : List Byte) (hold : List Nat) : State :=
  s.post (s.eventOf unit code fields hold)

/-- A unit raises the completion of an ACCEPTED request (R177); `toSubs` where the owning chapter also raises it to
subscribers (R819), `fail` where it reports a failure. -/
def State.complete (s : State) (unit code : Nat) (fields : List Byte) (q : Requester) (toSubs fail : Bool) : State :=
  s.post { s.eventOf unit code fields [] with req := some q, toSubs := toSubs, fail := fail }

/-- An outcome to the requester where there is one, and to the subscribers only where there is none. -/
def State.settle (s : State) (unit code : Nat) (fields : List Byte) (q : Option Requester) (toSubs fail : Bool) : State :=
  match q with
  | some q => s.complete unit code fields q toSubs fail
  | none => s.raise unit code fields

/-! ### Fences -/

/-- The unit is fenced (R25, R146). -/
def State.fenced (s : State) (unit : Nat) : Bool := s.mode.fences.any fun f => f.unit == unit

/-- Island record `i`. -/
def State.island (s : State) (i : Nat) : Island := s.mode.islands.rd i Island.reset

/-- Change island record `i`. -/
def State.modIsland (s : State) (i : Nat) (f : Island → Island) : State :=
  s.modMode fun m => { m with islands := m.islands.upd i Island.reset f }

/-- The island is held in reset (not released since the last start, R126). -/
def State.inReset (s : State) (i : Nat) : Bool := !(s.island i).released

/-- Work that keeps DIS clocked in Ready: an active update, and the discharge sequence that follows it (R723). -/
def Display.busy (d : Display) : Bool := d.active != [] || d.state == .discharging

/-- The island is clocked in the present rung (R105, R723): every one in Run; SUP, SAF, NAV, CTL, NET, FLD, AON and what Ready keeps of MEM
in Ready; AON alone below it. -/
def State.clocked (s : State) (i : Nat) : Bool :=
  s.power.rung == 0 || i == islAon ||
    (s.power.rung == 1 && ([islSup, islSaf, islMem, islNav, islCtl, islNet, islFld].contains i || (i == islDis && s.display.busy)))

/-- The unit is present, clocked and not fenced (R25, R105, R126). -/
def State.unitUp (s : State) (u : Nat) : Bool := !s.fenced u && !s.inReset (islandOf u) && s.clocked (islandOf u)

/-- Defer a request until the change in progress commits or aborts (R121, R138, R143). -/
def State.defer (s : State) (o : DeferredOp) (r : Request) : State := { s with deferred := s.deferred ++ [(o, r)] }

/-- The unit's island has answered ready in the change in progress, and the change has not been decided: what would falsify the
answer is deferred (R143). -/
def State.answeredReady (s : State) (i : Nat) : Bool :=
  s.mode.change.any fun c => !c.forced && c.ready.contains i

/-! ### Answering a request -/

/-- The ledger record of a journalled request, OPEN and not yet answered (R322). -/
def State.recordOf (s : State) (r : Request) (family op : Nat) : Option Record :=
  if r.journal then
    s.ledger.records.find? fun x =>
      x.kind == .command && x.state == .open && x.ch == r.ch && field x.body 2 1 == family && field x.body 3 1 == op &&
        field x.body 8 4 == r.tag.toNat
  else none

/-- Change ledger record `id`. -/
def State.modRecord (s : State) (id : Nat) (f : Record → Record) : State :=
  s.modLedger fun l => { l with records := mapIf (fun x => x.id == id) f l.records }

/-- Bytes a record occupies: its 48-byte header and its body, rounded up to 8 (R321). -/
def Record.size (x : Record) : Nat := (48 + x.body.length + 7) / 8 * 8

/-- The record's space may be reclaimed (R318). The spec retires no record of the kinds EDGE, DISPLAY, STORE_INTENT, MODE and
RUNG: one that is APPLIED has nothing left to deliver (assumption 37). -/
def Record.reclaimable (x : Record) : Bool :=
  x.state == .retired || x.state == .expired ||
    (x.state == .applied && x.kind != .command && x.kind != .snapshot && x.kind != .powerFail)

/-- The share for COMMAND records, 24 MB (R321, R6). -/
def cmdShare : Nat := 24 * 2 ^ 20

/-- The share for every other kind, 8 MB (R321, R6). -/
def otherShare : Nat := 8 * 2 ^ 20

/-- Bytes held by records that cannot be reclaimed, COMMAND records or the others (assumption 7). -/
def Ledger.used (l : Ledger) (cmd : Bool) : Nat :=
  ((l.records.filter fun x => !x.reclaimable && (x.kind == .command) == cmd).map Record.size).sum

/-- OTHER_FREE: free bytes of the other share (R321). -/
def Ledger.otherFree (l : Ledger) : Nat := otherShare - l.used false

/-- CMD_FREE: free bytes of the command share, less what the other kinds have taken from it (R321). -/
def Ledger.cmdFree (l : Ledger) : Nat := cmdShare - l.used true - (l.used false - otherShare)

/-- LEDGER_PRESSURE for one share (R323): raised below 10 % free, and again above 15 %. -/
def State.pressure (s : State) (cmd : Bool) : State :=
  let free := if cmd then s.ledger.cmdFree else s.ledger.otherFree
  let share := if cmd then cmdShare else otherShare
  let on := if cmd then s.ledger.pressureCmd else s.ledger.pressureOther
  let tell := fun (b : Bool) =>
    (s.modLedger fun l => if cmd then { l with pressureCmd := b } else { l with pressureOther := b }).raise uLedger 0x0605
      (le 1 (if cmd then 1 else 2) ++ le 1 (flag b) ++ le 2 0 ++ le 4 free)
  if !on && free * 10 < share then tell true
  else if on && free * 100 > share * 15 then tell false
  else s

/-- LEDGER_PRESSURE of both shares, after a change of the records (R323). -/
def State.ledgerPressure (s : State) : State := (s.pressure true).pressure false

/-- The moves of R318: OPEN to APPLIED to RETIRED, OPEN to EXPIRED, and OPEN to RETIRED for a refusal (R325). -/
def RecState.mayMove (old new : RecState) : Bool :=
  match old with
  | .open => new != .open
  | .applied => new == .retired
  | .retired => false
  | .expired => false

/-- Move a record to a state at the present time, where R318 allows the move; space that it frees may end a LEDGER_PRESSURE (R323). -/
def State.setRecord (s : State) (id : Nat) (st : RecState) (cause : Nat) : State :=
  (s.modRecord id fun x =>
    if x.state.mayMove st then { x with state := st, changed := s.time, cause := cause } else x).ledgerPressure

/-- A unit's island resets: the records of commands handed to it and not yet APPLIED are uncertain, and it loses its applied window
(R326, R328). -/
def Ledger.unitsReset (l : Ledger) (island : Nat) : Ledger :=
  let lost := fun (x : Record) => x.state == .open && x.dispatched && islandOf x.unit == island
  { l with windows := l.windows.keep fun u _ => islandOf u != island,
           records := mapIf lost (fun x => { x with uncertain := true }) l.records }

/-- The request was fetched before a RESET_CH of its channel: its reply is discarded (R170). -/
def Channel.isOrphan (c : Channel) (o : OpSpec) (tag : U32) : Bool :=
  c.orphans.any fun x => x.tag == tag && x.family == o.family && x.op == o.op

/-- Take the first entry of a request out of a list of outstanding ones. -/
def dropOutstanding (o : OpSpec) (tag : U32) (l : List Outstanding) : List Outstanding :=
  match takeFirst (fun x => x.tag == tag && x.family == o.family && x.op == o.op) l with
  | some (_, rest) => rest
  | none => l

/-- FLAGS of a reply: REPLY_WANTED and URGENT copied (R176). -/
def replyFlags (r : Request) : Nat := flag r.wanted + 4 * flag r.urgent

/-- The bytes of a message as a connection carries it: header and payload, without padding (R172, R189). -/
def Message.bytes (m : Message) : List Byte :=
  headerBytes m.payload.length m.family m.op m.flags m.status m.tag.toNat ++ le 4 m.check.toNat ++ m.payload

/-- What follows from messages that have gone out on a connection since `old`: the idle time of a tunnel session starts again
(R189), and a CASCADE channel's messages go on the control stream (R190). -/
def State.noteSent (s old : State) : State :=
  let new := fun (c : Nat) => (s.chan c).sent.drop (old.chan c).sent.length
  let f := fun (_ : Nat) (x : TunnelSession) => if x.ch.any fun c => new c != [] then { x with lastMessage := s.time } else x
  let s := s.modHub fun h => { h with sessions := h.sessions.mapAll f }
  let out := (s.hub.chans.entries.filter fun e => e.2.path == .cascade).map fun e => new e.1
  { s with fabric := { s.fabric with link := out.flatten.foldl (fun l m => l.sendControl s.time m.bytes) s.fabric.link } }

/-- A CH_STATUS flag that its CH_IRQ_EN enables has been set since `old` (R185). -/
def Channel.rose (new old : Channel) : Bool :=
  (List.range 7).any fun b => bit new.irqEn.toNat b && new.cnt.getD b 0 != old.cnt.getD b 0

/-- A reply that sets an enabled flag below Run asks for a wake (R185). -/
def State.markWake (s : State) (old new : Channel) : State :=
  if s.power.rung != 0 && new.rose old then s.modHub fun h => { h with wakeDue := true } else s

/-- The hub still waits for the reply of this request (R167). -/
def Channel.awaits (c : Channel) (o : OpSpec) (tag : U32) : Bool :=
  c.outstanding.any fun x => x.tag == tag && x.family == o.family && x.op == o.op

/-- Write the reply slot of a request, or copy it to the compatibility view (R176, R193). A refusal in 0x0101–0x0105 sets
BAD_MESSAGE (R175). A reply to a channel that RESET_CH has stopped is discarded (R170); clearing ENABLE alone discards none. -/
def State.writeReply (s : State) (o : OpSpec) (r : Request) (st : Status) (payload : List Byte) : State :=
  let c := s.chan r.ch
  let bad := fun (c : Channel) => if inRange st.code 0x0101 0x0105 then c.setFlag stBad else c
  if c.isOrphan o r.tag then
    (s.setChan r.ch (bad { c with orphans := dropOutstanding o r.tag c.orphans })).markWake c (bad c)
  else
    let awaited := c.enable || c.awaits o r.tag
    let c0 := c
    let c := bad { c with outstanding := dropOutstanding o r.tag c.outstanding }
    let success := st == .ok || st == .accepted
    let s := s.setChan r.ch c
    if c.path == .compat then s.modCompat fun v => v.copy st.code success payload
    else if awaited && (r.wanted || !success) then
      let m : Message := { family := o.family, op := o.op, flags := replyFlags r, status := st.code, tag := r.tag, payload := payload }
      let c' := (c.write m).coalesce s.time r.urgent
      ((s.setChan r.ch c').noteSent s).markWake c0 c'
    else s.markWake c0 c

/-- LEDGER_RESULT fields (R344). -/
def ledgerResult (x : Record) (st : Nat) (reply : List Byte) (origin : Nat) : List Byte :=
  le 8 x.id ++ le 1 (field x.body 2 1) ++ le 1 (field x.body 3 1) ++ le 2 st ++ le 2 reply.length ++ le 1 origin ++
    le 1 0 ++ reply

/-- LEDGER_EXPIRED fields (R344). -/
def ledgerExpired (x : Record) (cause st : Nat) : List Byte :=
  let cmd := x.kind == .command
  le 8 x.id ++ le 1 x.kind.code ++ le 1 cause ++ le 2 st ++ le 1 (if cmd then field x.body 2 1 else 0) ++
    le 1 (if cmd then field x.body 3 1 else 0) ++ le 2 0 ++ le 8 (x.deadline.getD (2 ^ 64 - 1))

/-- The requester a COMMAND record names: its channel, the TAG and REPLY_WANTED of the header in its body (R331). -/
def Record.requester (x : Record) (serial : Nat) : Requester :=
  { ch := x.ch, tag := BitVec.ofNat 32 (field x.body 8 4), wanted := bit (field x.body 4 2) 0, record := x.id,
    path := x.path, serial := serial }

/-- Hold a requester's TAG on its channel (R177). -/
def State.hold (s : State) (q : Requester) : State :=
  s.modChan q.ch fun c => { c with held := c.held ++ [q] }

/-- Change the power stage. -/
def State.modStage (s : State) (f : PowerStage → PowerStage) : State := { s with stage := f s.stage }

/-- A path is lost: CTL applies the hold policies within 1 ms (R334: PATH_LOST_HOLD). `ch` is the channel of a tunnel session. -/
def State.losePath (s : State) (p : Path) (ch : Option Nat) : State :=
  s.modStage fun x => { x with pathLost := x.pathLost ++ [(p, ch)] }

/-- A serial number for a new requester. -/
def State.serial (s : State) : Nat := s.hub.nextSerial

/-- Use up a serial number. -/
def State.bumpSerial (s : State) : State := s.modHub fun h => { h with nextSerial := h.nextSerial + 1 }

/-- The outcome of a COMMAND record, as a completion on the channel that sent it (R331). -/
def State.outcome (s : State) (x : Record) (code : Nat) (fields : List Byte) (fail : Bool) : State :=
  let q := x.requester s.serial
  ((s.bumpSerial).hold q).complete uLedger code fields q false fail

/-- Record an executed COMMAND record in its unit's applied window, the last 1,024 kept (R326). -/
def State.applyWindow (s : State) (unit id st : Nat) : State :=
  s.modLedger fun l => { l with windows := l.windows.upd unit [] fun w => (w ++ [(id, st)]).drop ((w.length + 1) - 1024) }

/-- The record of a redispatched command whose unit has answered (R329). -/
def State.endRedispatch (s : State) (id : Nat) : State :=
  s.modLedger fun l => { l with redispatched := l.redispatched.filter (· != id) }

/-- A replay has confirmed or expired records, or handed them over again (R344). -/
def State.noteReplay (s : State) (redone confirmed gone : Nat) : State :=
  s.modLedger fun l =>
    if l.replaying then { l with counts := (l.counts.1 + redone, l.counts.2.1 + confirmed, l.counts.2.2 + gone) } else l

/-- Refuse a request with a reply payload: nothing but counters, BAD_MESSAGE and the record of a journalled command changes
(R818). A redispatched record expires with REFUSED (R329); any other becomes RETIRED (R325). -/
def refuseWith (o : OpSpec) (unit : Nat) (r : Request) (st : Status) (payload : List Byte) (s : State) : State :=
  let s := s.count unit 2
  match s.recordOf r o.family o.op with
  | some x =>
    if x.replayed then
      (((s.setRecord x.id .expired 2).endRedispatch x.id).noteReplay 0 0 1).outcome x 0x0602 (ledgerExpired x 2 st.code) true
    else (s.setRecord x.id .retired 0).writeReply o r st payload
  | none => s.writeReply o r st payload

/-- Refuse a request with LEN 0. -/
def refuse (o : OpSpec) (unit : Nat) (r : Request) (st : Status) (s : State) : State := refuseWith o unit r st [] s

/-- Settle the record of a journalled request that its unit has executed with status `st`: the applied window takes it, and a
redispatched one answers LEDGER_RESULT in place of a reply (R325, R326, R331). -/
def State.answered (s : State) (o : OpSpec) (unit : Nat) (r : Request) (st : Status) (payload : List Byte) : State :=
  let s := s.count unit 1
  match s.recordOf r o.family o.op with
  | some x =>
    let s := s.applyWindow unit x.id st.code
    if x.replayed then (s.endRedispatch x.id).outcome x 0x0601 (ledgerResult x st.code (payload.take 4048) 1) false
    else (s.modRecord x.id fun y => { y with dispatched := true, delivered := st == .ok, replied := true }).writeReply o r st payload
  | none => s.writeReply o r st payload

/-- Answer a request OK with its reply payload (R176). -/
def answer (o : OpSpec) (unit : Nat) (r : Request) (payload : List Byte) (s : State) : State :=
  s.answered o unit r .ok payload

/-- The requester of a request that is about to be answered ACCEPTED. -/
def State.requester (s : State) (o : OpSpec) (r : Request) : Requester :=
  { ch := r.ch, tag := r.tag, wanted := r.wanted, record := ((s.recordOf r o.family o.op).map (·.id)).getD 0,
    path := (s.chan r.ch).path, serial := s.hub.nextSerial }

/-- Answer a request ACCEPTED: its reply is written, and its TAG is held until the completion (R177). A request fetched
before a RESET_CH of its channel holds no TAG (R170). -/
def State.accepted (s : State) (o : OpSpec) (unit : Nat) (r : Request) (payload : List Byte) : State :=
  let q := s.requester o r
  let orphan := (s.chan r.ch).isOrphan o r.tag
  let s := (s.bumpSerial).answered o unit r .accepted payload
  if orphan then s.modRecord q.record fun x => { x with delivered := true } else s.hold q

/-- The gate at the unit, after the checks of R174: LEN, the second epoch comparison (R137), then the mode set, the channel
rule and the fence of the unit addressed (R148, R195). -/
def gate (o : OpSpec) (unit : Nat) (r : Request) (s : State) : Option Status :=
  firstOf [
    (!o.lenOk r.len, .badLength),
    (o.epoch && (r.u 0 4 == 0 || r.u 0 4 != s.mode.epoch.toNat || !s.mode.booted), .staleEpoch),
    (!o.modes.has s.mode.mode, .wrongMode),
    (o.chan == .ch0 && r.ch != 0, .wrongMode),
    (o.chan == .ch63 && r.ch != 63, .wrongMode),
    (o.chan == .appPath && (s.chan r.ch).path != .app, .wrongMode),
    (s.fenced unit, .wrongMode)]

/-- The first of two refusals. -/
def firstSome (a b : Option Status) : Option Status := if a.isSome then a else b

/-- Execute a request of an OP at its unit: the gate first, then the OP's own refusals under R817, then its effect. -/
def serve (o : OpSpec) (unit : Nat) (r : Request) (s : State) (checks : State → List (Bool × Status))
    (effect : State → State) : Out :=
  valid (r.ch < 64) <|
    let s := s.atTime r.time
    .next (match firstSome (gate o unit r s) (refusal (checks s)) with
      | some st => refuse o unit r st s
      | none => effect s)

/-- An event of the module's own at module time `t`: its effect, or none where its condition does not hold. -/
def event (t : Nat) (s : State) (cond : State → Bool) (effect : State → State) : Out :=
  let s := s.atTime t
  if cond s then .next (effect s) else .next s

end Sys2Proof.Machine
end

