-- ==== Sys2Proof/Machine/LedgerOps.lean ====
section
/-! DEFINITION. The ledger's operations: space, new records, expiry and the output-side events of R344. -/

namespace Sys2Proof.Machine

/-- Drop the oldest reclaimable record. -/
def reclaimOne (l : List Record) : List Record :=
  match takeFirst Record.reclaimable l with
  | some (_, rest) => rest
  | none => l

/-- Reclaim records, oldest first, until `need` bytes fit in the 32 MB; `fuel` bounds the number reclaimed (R318). -/
def reclaim : Nat → Nat → List Record → List Record
  | 0, _, l => l
  | fuel + 1, need, l =>
    if (l.map Record.size).sum + need ≤ cmdShare + otherShare then l else reclaim fuel need (reclaimOne l)

/-- Write a new record with the next ID (R317). -/
def State.newRecord (s : State) (kind : RecKind) (st : RecState) (ch unit : Nat) (deadline : Option Nat) (epoch : U32)
    (dispatched : Bool) (body : List Byte) : State :=
  let x : Record := { id := s.ledger.nextId, kind := kind, state := st, dispatched := dispatched, replayed := false,
                      delivered := false, replied := false, uncertain := false, ch := ch,
                      path := if ch < 64 then (s.chan ch).path else .unbound, unit := unit, opened := s.time, deadline := deadline,
                      changed := s.time, epoch := epoch, cause := 0, body := body }
  let s := s.modLedger fun l =>
    { l with records := reclaim l.records.length x.size l.records ++ [x], nextId := l.nextId + 1 }
  s.ledgerPressure

/-- Ledger record `id`. -/
def State.record (s : State) (id : Nat) : Option Record := s.ledger.records.find? fun x => x.id == id

/-- Expire a record of a kind other than COMMAND: LEDGER_EXPIRED goes to the subscribers (R344). -/
def State.expireOther (s : State) (x : Record) (cause st : Nat) : State :=
  (s.setRecord x.id .expired cause).raise uLedger 0x0602 (ledgerExpired x cause st)

/-- Expire a COMMAND record: LEDGER_EXPIRED is its outcome on the channel that sent it (R331). -/
def State.expireCommand (s : State) (x : Record) (cause st : Nat) : State :=
  (s.setRecord x.id .expired cause).outcome x 0x0602 (ledgerExpired x cause st) true

/-- A journalled request is written as an OPEN COMMAND record; DISPATCHED is set when it is handed to its unit, which is when the
unit executes it (R322). -/
def State.journal (s : State) (ch : Nat) (o : OpSpec) (unit : Nat) (m : Slot) : State :=
  let body := headerBytes m.len.toNat m.family.toNat m.op.toNat m.flags.toNat m.status.toNat m.tag.toNat ++
    le 4 m.check.toNat ++ m.payload.take m.len.toNat
  s.newRecord .command .open ch unit (some (s.time + (s.chan ch).windowMs * ms)) (if o.epoch then s.mode.epoch else 0) false
    body

/-- Bytes a COMMAND record of this request would take (R321). -/
def journalSize (m : Slot) : Nat := (48 + 16 + m.len.toNat + 7) / 8 * 8

end Sys2Proof.Machine
end

