-- ==== Sys2Proof/Machine/HubOps.lean ====
section
/-! DEFINITION. The hub's operations: channel reset and enabling, delivery of events, held items, the hub's restart, and the
liveness watch. -/

namespace Sys2Proof.Machine

/-- Reset a channel as RESET_CH does, setting CH_STATUS bit `n` (R170). Unfetched requests are counted, fetched ones lose
their replies and completions, and the liveness watch and keep-awake hold stay (R208, R214). TAGs of outcomes that the ledger
holds for the channel stay held (R332). -/
def Channel.resetCh (c : Channel) (n : Nat) : Channel :=
  let unfetched := (c.reqTail - c.reqHead).toNat
  { c.setFlag n with
    cntDiscard := c.cntDiscard + BitVec.ofNat 32 unfetched, orphans := c.orphans ++ c.outstanding, outstanding := [],
    held := c.held.filter fun q => c.waiting.any fun i => i.record != 0 && i.event.req == some q,
    inbox := [], ring := [], reqTail := 0, reqHead := 0, rplTail := 0, rplHead := 0, enable := false,
    unnotified := 0, coalDue := none }

/-- RESET_CH written by a host also discards the channel's outcomes: their records become RETIRED (R332). -/
def State.dropOutcomes (s : State) (ch : Nat) : State :=
  let s := s.modChan ch fun c => { c with waiting := c.waiting.filter fun i => i.record == 0 && !i.completion, held := [] }
  let mine := fun (x : Record) => x.kind == .command && x.ch == ch && x.state == .applied
  let retire := fun (x : Record) => { x with state := .retired, changed := s.time }
  (s.modLedger fun l => { l with records := mapIf mine retire l.records }).ledgerPressure

/-- Reset channel `ch` as RESET_CH does. -/
def State.resetChannel (s : State) (ch n : Nat) : State := s.modChan ch (·.resetCh n)

/-- Write an event or completion slot: prefix, SEQ and the event's own fields (R178, R180). -/
def Channel.writeEvent (c : Channel) (e : RaisedEvent) (completion : Bool) (tag : U32) : Channel :=
  let payload := le 8 e.time ++ le 2 e.unit ++ le 2 (flag completion + 2 * flag c.lostBefore) ++ le 4 c.seq.toNat ++ e.fields
  (Channel.write { c with seq := c.seq + 1, lostBefore := false }
    { family := 0xFE, op := 0, flags := 8, status := e.code, tag := tag, payload := payload }).setFlag stEvent

/-- An event that finds no free reply slot is dropped: EVENT_LOST is set, and the next one carries LOST_BEFORE (R180). -/
def Channel.loseEvent (c : Channel) : Channel := { c.setFlag stLost with seq := c.seq + 1, lostBefore := true }

/-- Deliver an event that is no completion to one channel (R179, R180). -/
def Channel.takeEvent (c : Channel) (e : RaisedEvent) : Channel :=
  if 0 < c.freeSlots then c.writeEvent e false 0 else c.loseEvent

/-- The channel is subscribed to the family that raises the event (R179). The view delivers no such event (R193). -/
def Channel.wants (c : Channel) (e : RaisedEvent) : Bool := c.families.getLsbD (e.code / 256) && c.path != .compat

/-- Deliver an event to every enabled, subscribed channel but `skip` (R139, R179). -/
def State.toSubscribers (s : State) (e : RaisedEvent) (skip : Option Nat) : State :=
  let f := fun n (c : Channel) => if c.enable && c.wants e && skip != some n then c.takeEvent e else c
  s.modHub fun h => { h with chans := h.chans.mapAll f }

/-- The record of a request whose reply or completion has now been written: the last of them retires an APPLIED record
(R325). -/
def State.recordDelivered (s : State) (id : Nat) : State :=
  (s.modRecord id fun x =>
    { x with delivered := true, replied := true, state := if x.state == .applied then .retired else x.state,
             changed := if x.state == .applied then s.time else x.changed }).ledgerPressure

/-- DISPLAY_DONE has been written: the DISPLAY record of its update, where APPLIED, becomes RETIRED (R722). -/
def State.retireDisplay (s : State) (update : Nat) : State :=
  let mine := fun (x : Record) => x.kind == .display && x.state == .applied && field x.body 0 4 == update
  let retire := fun (x : Record) => { x with state := .retired, changed := s.time }
  (s.modLedger fun l => { l with records := mapIf mine retire l.records }).ledgerPressure

/-- What the writing of a completion does to the record behind it (R325, R331): LEDGER_RESULT retires the record unless the
OP's own completion still follows, for which the TAG stays held; LEDGER_EXPIRED leaves it EXPIRED. -/
def State.completionRecord (s : State) (e : RaisedEvent) (q : Requester) : State :=
  if e.code = 0x6001 then s.retireDisplay (field e.fields 0 4)
  else if q.record = 0 then s
  else if e.code = 0x0601 then
    if (s.chan q.ch).held.any fun p => p.record == q.record then s.modRecord q.record fun x => { x with replied := true }
    else s.recordDelivered q.record
  else s.recordDelivered q.record

/-- Deliver a completion to its requester (R177): discarded when the TAG is no longer held, suppressed when no reply was
wanted and it reports no failure, held while the channel is not enabled on the same path (R331, R822), and written otherwise. LEDGER_RESULT with
ACCEPTED leaves the TAG held for the completion that follows (R331). -/
def State.toRequester (s : State) (e : RaisedEvent) (q : Requester) : State :=
  let c := s.chan q.ch
  if !c.held.contains q then s
  else if !q.wanted && !e.fail then
    (s.setChan q.ch { c with held := c.held.erase q }).completionRecord e q
  else if c.path == .compat && q.path == .compat then
    let payload := le 8 e.time ++ le 2 e.unit ++ le 2 1 ++ le 4 c.seq.toNat ++ e.fields
    ((s.setChan q.ch { c with held := c.held.erase q, seq := c.seq + 1 }).modCompat fun v =>
      v.copyCompletion e.code payload).completionRecord e q
  else if c.enable && c.path == q.path then
    (s.setChan q.ch (Channel.writeEvent { c with held := c.held.erase q } e true q.tag)).completionRecord e q
  else
    let item : HeldItem := { event := e, completion := true, path := q.path, since := s.time, record := q.record }
    s.setChan q.ch { c with waiting := c.waiting ++ [item] }

/-- Hold an event for a channel until it is enabled again (R822). -/
def Channel.holdEvent (c : Channel) (e : RaisedEvent) (since : Nat) : Channel :=
  { c with waiting := c.waiting ++ [{ event := e, completion := false, path := c.path, since := since, record := 0 }] }

/-- An event for every channel but `skip` subscribed to a family in its `hold`: written where the channel is enabled, held
otherwise (R122, R337, R822). -/
def State.holdOrDeliver (s : State) (e : RaisedEvent) (skip : Option Nat) : State :=
  let f := fun n (c : Channel) =>
    if (e.hold.any fun f => c.families.getLsbD f) && c.path != .compat && skip != some n then
      if c.enable then c.takeEvent e else c.holdEvent e s.time
    else c
  s.modHub fun h => { h with chans := h.chans.mapAll f }

/-- Deliver an event to the channels subscribed to it, but for `skip` (R179, R822). -/
def State.publish (s : State) (e : RaisedEvent) (skip : Option Nat) : State :=
  if e.hold = [] then s.toSubscribers e skip else s.holdOrDeliver e skip

/-- Deliver one raised event or completion (R177, R179). -/
def State.deliver (s : State) (e : RaisedEvent) : State :=
  match e.req with
  | some q => ((s.toRequester e q) |> fun s => if e.toSubs then s.publish e (some q.ch) else s).noteSent s
  | none => (s.publish e none).noteSent s

/-- An outcome or completion that would be written now finds no slot: the ring is full, and none was reserved for it (R167). -/
def State.noSlot (s : State) (q : Requester) : Bool :=
  let c := s.chan q.ch
  c.ringed && c.enable && c.path == q.path && decide (c.rplSize ≤ (c.rplTail - c.rplHead).toNat)

/-- A completion of a journalled request waits until its reply or LEDGER_RESULT has been written (R331), and any completion waits
for a free slot (R167, R177). -/
def State.blocked (s : State) (e : RaisedEvent) : Bool :=
  match e.req with
  | some q =>
    (q.record != 0 && e.code != 0x0601 && e.code != 0x0602 && s.ledger.records.any fun x => x.id == q.record && !x.replied) ||
      s.noSlot q
  | none => false

/-- Write one held item on its channel, now enabled (R822); a completion that finds no free slot goes back to the hub's queue
(R167). -/
def State.releaseItem (s : State) (ch : Nat) (i : HeldItem) : State :=
  match i.event.req with
  | some q => if s.noSlot q then s.modHub fun h => { h with raised := h.raised ++ [i.event] } else s.toRequester i.event q
  | none => s.modChan ch (·.takeEvent i.event)

/-- Enable a channel: SEQ starts at 0 (R180), and every item held for it under the same binding is written (R822). A LOST_BEFORE that
is due stays due (assumption 121). -/
def State.enableChannel (s : State) (ch : Nat) : State :=
  let c := s.chan ch
  let mine := c.waiting.filter fun i => i.path == c.path
  let s := s.setChan ch { c with enable := true, seq := 0, unnotified := 0, coalDue := none,
                                 waiting := c.waiting.filter fun i => i.path != c.path }
  mine.foldl (fun s i => s.releaseItem ch i) s

/-- A base register is usable: nonzero and 4,096-aligned (R158). -/
def baseOk (b : U64) : Bool := b != 0 && b.toNat % 4096 == 0

/-- The hub publishes ring addresses in FAR for an APP channel: 4,096-aligned, its own choice (R159; free values,
assumption 3). -/
def State.placeRings (s : State) (ch : Nat) : State :=
  let k := s.freeCount
  (s.spend 2).modChan ch fun c =>
    { c with reqBase := BitVec.ofNat 64 ((Config.free 52 k).toNat * 4096),
             rplBase := BitVec.ofNat 64 ((Config.free 52 (k + 1)).toNat * 4096) }

/-- Restart a liveness watch from its full timeout (R206, R208). -/
def HostWatch.restart (w : HostWatch) (t : Nat) : HostWatch :=
  if w.timeoutMs = 0 then w else { w with deadline := some (t + w.timeoutMs * ms), lostAt := none }

/-- A request that passes R174 restarts the channel's watch; the first one after an expiry raises HOST_RETURNED (R206,
R207). -/
def State.beat (s : State) (ch : Nat) : State :=
  let c := s.chan ch
  let s' := s.setChan ch { c with watch := c.watch.restart s.time }
  match c.watch.lostAt with
  | some t0 => s'.raise moduleSupervisor 0x0102 (le 1 ch ++ le 3 0 ++ le 4 (satNat (2 ^ 32 - 1) ((s.time - t0) / ms)))
  | none => s'

/-- Copy the present bindings, subscriptions and view to KEEP (R204). -/
def State.keepBindings (s : State) : State :=
  s.modHub fun h => { h with keptBindings := ⟨h.chans.entries.map fun e => (e.1, (e.2.path, e.2.families))⟩,
                             keptCompat := h.compat.enabled }

/-- Path of channel 0 by the strap (R154). -/
def Hub.path0 (h : Hub) : Path := if h.pcieStrap then .pcie else .app

/-- What a SUP reset leaves of a channel's requests (R171): an unjournalled request handed to a unit of another island is lost, and
what the unit still answers is discarded; `kept` tells those the ledger holds, and those of SUP's own families, which go with it. A LOST_BEFORE not yet written goes with the hub. -/
def Channel.hubLost (c : Channel) (kept : Outstanding → Bool) : Channel :=
  { c with orphans := c.orphans ++ c.outstanding.filter fun q => !kept q, outstanding := [], lostBefore := false }

/-- A channel after the hub has restarted: disabled, every pointer at 0, its held TAGs released but for those the ledger
holds and for `keep`, the requester of a MALUF activation; its registers at their reset values; what is held for it in KEEP or
the ledger stays (R171, R204, R783). -/
def Channel.restarted (c : Channel) (path : Path) (fams : BitVec 256) (keep : Option Requester) : Channel :=
  let mine := fun (q : Requester) => q.record != 0 || keep == some q
  { Channel.reset with path := path, families := fams, watch := c.watch, keepAwake := c.keepAwake,
                       windowMs := c.windowMs, holdReplay := c.holdReplay, held := c.held.filter mine, orphans := c.orphans,
                       lostBefore := c.lostBefore, masked := c.masked, waiting := c.waiting.filter fun i => i.event.req.all mine }

/-- Every channel restarted with the binding kept in KEEP (R204), and HUB_RESTARTED set (R171); the global registers stand at
their reset values (R20, R163). -/
def Hub.restart (h : Hub) (keep : Option Requester) : Hub :=
  let ids := List.range 64
  let chans := ids.foldl (fun (b : Bank Channel) n =>
    let k := h.keptBindings.rd n (.unbound, 0)
    match h.chans.find n, h.keptBindings.find n with
    | none, none => b
    | _, _ => b.put n (((h.chans.rd n Channel.reset)).restarted k.1 k.2 keep)) Bank.empty
  { h with chans := chans, absent := false, serving := true, restarted := true, cntRestart := 1,
           cntEpoch := 0, epochChanged := false,
           raised := h.raised.filter fun e => e.req.any fun q => q.record != 0 || keep == some q, sessions := Bank.empty,
           compat := { CompatView.reset with enabled := h.keptCompat }, lastFetched := 63, wakeDue := false }

/-- Channel 0 is enabled by the hub itself on the APP path (R160). -/
def State.enableChannel0 (s : State) (restarted : Bool) : State :=
  if (s.chan 0).path == .app then
    let s := (s.placeRings 0).enableChannel 0
    if restarted then s.modChan 0 (·.setFlag stRestarted) else s
  else s

/-- The events the island supervisors held while the hub was absent enter its queue, in the order of R22: completions go to their
requesters, those of requests the hub no longer knows being discarded (R171), and every other event is written or held for each
subscribed channel (R822). -/
def State.takeHeld (s : State) : State :=
  let mark := fun (e : RaisedEvent) => if e.req.isNone && e.hold.isEmpty then { e with hold := [e.code / 256] } else e
  s.modHub fun h => { h with islandHeld := [], raised := h.islandHeld.foldl (fun l e => placeEvent (mark e) l) h.raised }

/-- A cause of R135 arises: it asks for a forced entry to SAFE_HOLD, or before the boot commit it is held for R128, the first
one alone. -/
def State.askHold (s : State) (cause : Nat) (units : List Nat) (ch : Option Nat) : State :=
  s.modMode fun m =>
    if m.booted then { m with holdPending := m.holdPending ++ [(cause, units, ch)] }
    else { m with bootHold := some (m.bootHold.getD cause) }

end Sys2Proof.Machine
end

