-- ==== Sys2Proof/Machine/PlacementOps.lean ====
section
/-! DEFINITION. The placement engine's operations (07): tiers, commitments, admission, reclaim, residence, writes and
write-back. -/

namespace Sys2Proof.Machine

/-- Change the placement engine. -/
def State.modPlace (s : State) (f : Puppeteer → Puppeteer) : State := { s with place := f s.place }

/-- A live placement (R251). -/
def State.placement (s : State) (h : Nat) : Option Placement := s.place.places.find h

/-- Change a live placement. -/
def State.modPlacement (s : State) (h : Nat) (f : Placement → Placement) : State :=
  match s.placement h with
  | some p => s.modPlace fun q => { q with places := q.places.put h (f p) }
  | none => s

/-! ### Tiers (R236) -/

/-- Chunk of promotion and of the aperture, 64 KB (R244, R255). -/
def chunkSize : Nat := 65536

/-- Block of R254, 4 KB. -/
def blockSize : Nat := 4096

/-- Managed capacity of a tier, bytes (R236, R6). -/
def tierManaged : Nat → Nat
  | 1 => 176 * 2 ^ 20
  | 2 => 31 * 2 ^ 30
  | 3 => 88 * 2 ^ 20
  | 4 => 496 * 10 ^ 9
  | _ => 0

/-- Granule of a tier, bytes (R236). -/
def tierGranule (t : Nat) : Nat := if t ≤ 2 then 65536 else 4096

/-- Access bound of a tier, ns (R236). -/
def tierBound : Nat → Nat
  | 1 => 1000
  | 2 => 4000
  | 3 => 20000
  | _ => 5000000

/-- Rate budget of a tier, MB/s (R236). -/
def tierRate : Nat → Nat
  | 1 => 600000
  | 2 => 100000
  | 3 => 1500
  | 4 => 3000
  | _ => 0

/-- Round a size up to a tier's granule (R240). -/
def roundTier (t n : Nat) : Nat := (n + tierGranule t - 1) / tierGranule t * tierGranule t

/-- Home tiers a class permits (R238). -/
def clsTiers : Nat → List Nat
  | 1 => [1, 2]
  | 2 => [1, 2, 3]
  | 3 => [2, 3, 4]
  | 4 => [1, 2]
  | 5 => [2, 3, 4]
  | 6 => [1, 2, 4]
  | _ => []

/-- Durabilities a class permits (R238). -/
def clsDurs : Nat → List Nat
  | 1 => [0]
  | 2 => [0, 1, 2]
  | 3 => [0, 1, 2]
  | 4 => [0, 1]
  | 5 => [0, 1, 2]
  | 6 => [0, 1, 2]
  | _ => []

/-- Reclaim rank of a class (R238); SCRATCH is never promoted. -/
def clsRank : Nat → Nat
  | 1 => 5
  | 2 => 3
  | 3 => 1
  | 5 => 4
  | 6 => 2
  | _ => 9

/-- Tiers a class and durability permit: DURABLE in KEEP or STORE only (R242). -/
def permittedTiers (cls dur : Nat) : List Nat := (clsTiers cls).filter fun t => dur != 2 || t ≥ 3

/-! ### Commitments -/

/-- Bytes a placement commits in a tier: its home, and its pin tier in addition (R243, R256). -/
def Placement.commit (p : Placement) (t : Nat) : Nat :=
  (if p.home = t then p.size else 0) + (if p.pin = t && p.pin != p.home then roundTier t p.size else 0)

/-- Rate a placement commits in a tier: in its home, and a RUNG placement's in STORE for its shadow (R243, R252). -/
def Placement.rateIn (p : Placement) (t : Nat) : Nat :=
  if p.home = t || (t = 4 && p.dur = 1 && p.home ≤ 2) then p.rate else 0

/-- Sum over the live placements. -/
def Puppeteer.sum (q : Puppeteer) (f : Placement → Nat) : Nat := (q.places.entries.map fun e => f e.2).sum

/-- Bytes committed in a tier. -/
def Puppeteer.committed (q : Puppeteer) (t : Nat) : Nat := q.sum (·.commit t)

/-- Rate committed in a tier, MB/s. -/
def Puppeteer.rateCommitted (q : Puppeteer) (t : Nat) : Nat := q.sum (·.rateIn t)

/-- Chunks with a promoted copy in a tier; what a pin holds there is committed instead (R256). -/
def Placement.copies (p : Placement) (t : Nat) : Nat :=
  if p.pin = t then 0 else (p.chunks.entries.filter fun e => e.2.tier = t).length

/-- Migrations in flight into a tier, other than to a pin there, whose space is committed. -/
def Puppeteer.movesInto (q : Puppeteer) (t : Nat) : List Move :=
  q.moving.filter fun m => m.to_ = t && ((q.places.find m.handle).map (·.pin)).getD 0 != t

/-- Bytes of a tier that are committed, hold promoted copies or wait for a migration. -/
def Puppeteer.used (q : Puppeteer) (t : Nat) : Nat := q.committed t + (q.sum (·.copies t) + (q.movesInto t).length) * chunkSize

/-- Free bytes of a tier (R271). -/
def Puppeteer.free (q : Puppeteer) (t : Nat) : Nat := tierManaged t - q.used t

/-- A view of the placement holds the chunk (R245). -/
def Placement.viewed (p : Placement) (c : Nat) : Bool :=
  p.views.any fun v => v.offset ≤ c * chunkSize && c * chunkSize < v.offset + v.length

/-- The migration is a promotion, which reclaim for admission abandons: no pin and no view asks for it (R246). -/
def Puppeteer.promotes (q : Puppeteer) (m : Move) : Bool :=
  (q.places.find m.handle).all fun p => p.pin != m.to_ && !p.viewed m.chunk

/-- A running or staged job reads the placement: it is the model of a RUNNING job (R264), or a MAP_MERGE works on it (R245). -/
def State.jobReads (s : State) (h : Nat) : Bool :=
  (s.infer.jobs.entries.any fun e => e.2.running && field e.2.desc 8 8 == h) ||
    s.fleet.merges.any fun m => m.source == h || m.target == h

/-- Bytes of promoted copies in a tier that may be reclaimed (R245). -/
def State.idleCopies (s : State) (t : Nat) : Nat :=
  let idle := fun (h : Nat) (p : Placement) =>
    if s.jobReads h || p.pin = t then 0 else (p.chunks.entries.filter fun e => e.2.tier = t && !p.viewed e.1).length
  (s.place.places.entries.map fun e => idle e.1 e.2).sum * chunkSize

/-- Bytes of a tier that admission may reclaim: idle copies, and promotions in flight, which it abandons (R245, R246). -/
def State.reclaimable (s : State) (t : Nat) : Nat :=
  s.idleCopies t + ((s.place.movesInto t).filter s.place.promotes).length * chunkSize

/-- Free and reclaimable bytes of a tier. -/
def State.available (s : State) (t : Nat) : Nat := s.place.free t + s.reclaimable t

/-- Bytes that pinning, staging or a view can find in a tier: these abandon no promotion in flight (R246). -/
def State.roomFor (s : State) (t : Nat) : Nat := s.place.free t + s.idleCopies t

/-! ### Reading and writing content -/

/-- Bytes of a placement; zeros where there is none. -/
def State.readPlace (s : State) (h off n : Nat) : List Byte :=
  match s.placement h with
  | some p => p.mem.reads off n
  | none => List.replicate n 0

/-- The placement's changes wait for a shadow or for a write-back (R252, R253). -/
def Placement.tracks (p : Placement) : Bool := p.dur == 2 || (p.dur == 1 && p.home ≤ 2)

/-- Blocks of 4 KB a range touches. -/
def blocksOf (off n : Nat) : List Nat :=
  if n = 0 then [] else (List.range ((off + n - 1) / blockSize - off / blockSize + 1)).map (· + off / blockSize)

/-- Mark the blocks of a range dirty at time `t`. -/
def Placement.soil (p : Placement) (off n t : Nat) : Placement :=
  if p.tracks then { p with dirty := (blocksOf off n).foldl (fun (d : Bank Nat) b => d.put b ((d.find b).getD t)) p.dirty }
  else p

/-- Chunks a range touches. -/
def chunksOf (off n : Nat) : List Nat :=
  if n = 0 then [] else (List.range ((off + n - 1) / chunkSize - off / chunkSize + 1)).map (· + off / chunkSize)

/-- The chunks of a range have been fetched: an access restores what a rung moved out (R259). -/
def Placement.fetched (p : Placement) (off n : Nat) : Placement :=
  { p with unrestored := p.unrestored.keep fun c _ => !(chunksOf off n).contains c }

/-- Bytes not yet in the shadow or not written back, those in a unit in flight among them (R270). -/
def Placement.dirtyBytes (p : Placement) : Nat :=
  (p.dirty.keys ++ (p.writing.map (·.blocks.keys)).flatten).dedup.length * blockSize

/-- A chunk of a RUNG placement reaches its shadow (R252). -/
def State.shadowed (s : State) (h c : Nat) : State :=
  s.modPlacement h fun p => { p with dirty := p.dirty.keep fun b _ => b * blockSize / chunkSize != c }

/-- Dirty volume of all RUNG placements, bytes (R252). -/
def Puppeteer.shadowDirty (q : Puppeteer) : Nat := q.sum (fun p => if p.dur = 1 then p.dirty.entries.length else 0) * blockSize

/-- The chunk of a RUNG placement that has been dirty longest. -/
def Puppeteer.oldestDirty (q : Puppeteer) : Option (Nat × Nat) :=
  let all := (q.places.entries.map fun e =>
    if e.2.dur = 1 then e.2.dirty.entries.map fun d => (d.2, e.1, d.1 * blockSize / chunkSize) else []).flatten
  (all.foldl (fun (best : Option (Nat × Nat × Nat)) d =>
    match best with
    | some b => if d.1 < b.1 then some d else best
    | none => some d) none).map (·.2)

/-- Shadow writes keep the dirty volume of all RUNG placements within 512 MB, the oldest chunk first (R252); no shadow write starts
in crank hold (R260; assumption 123). `fuel` bounds the chunks written. -/
def State.trimShadows : Nat → State → State
  | 0, s => s
  | fuel + 1, s =>
    if s.place.shadowDirty ≤ 2 ^ 29 || s.power.crank.isSome then s
    else match s.place.oldestDirty with
      | some (h, c) => State.trimShadows fuel (s.shadowed h c)
      | none => s

/-- Cells of tile slots (R406) that a range of a placement touches: slot offset, column and row. -/
def cellsOf (off n : Nat) : List (Nat × Nat × Nat) :=
  ((List.range n).filterMap fun i =>
    let a := off + i
    let r := a % 65600
    if r < 64 then none else some (a - r, (r - 64) / 16 % 64, (r - 64) / 1024)).dedup

/-- A cell of a tile has changed: the fleet agent is to send it (R671). -/
def noteCell (yld : Bool) (l : List ChangedCell) (c : Nat × Nat × Nat) : List ChangedCell :=
  let same := fun (x : ChangedCell) => x.yield == yld && x.tile == c.1 && x.col == c.2.1 && x.row == c.2.2
  if l.any same then mapIf same (fun x => { x with wait := 0, again := false }) l
  else l ++ [{ yield := yld, tile := c.1, col := c.2.1, row := c.2.2, wait := 0, again := false }]

/-- Bytes are about to be written into a placement: the cells they change, of the fleet agent's COVERAGE and YIELD, are noted
(R671). -/
def State.noteCells (s : State) (h off : Nat) (bytes : List Byte) : State :=
  let yld := h == field s.fleet.cfg 28 8
  if h != 0 && (yld || h == field s.fleet.cfg 20 8) then
    let cs := (cellsOf off bytes.length).filter fun c =>
      let a := c.1 + 64 + 16 * (64 * c.2.2 + c.2.1)
      (List.range 16).any fun i =>
        off ≤ a + i && a + i < off + bytes.length && s.readPlace h (a + i) 1 != (bytes.drop (a + i - off)).take 1
    { s with fleet := { s.fleet with changed := cs.foldl (noteCell yld) s.fleet.changed } }
  else s

/-- Write bytes into a placement, as a unit or a host does (R252, R253, R259). -/
def State.writePlace (s : State) (h off : Nat) (bytes : List Byte) : State :=
  State.trimShadows (blocksOf off bytes.length).length ((s.noteCells h off bytes).modPlacement h fun p =>
    (({ p with mem := p.mem.writes off bytes } : Placement).soil off bytes.length s.time).fetched off bytes.length)

/-! ### Write-back (R253) -/

/-- Complete the SYNCs whose writes have been written back (R253). -/
def State.finishSyncs (s : State) (h : Nat) : State :=
  match s.placement h with
  | some p =>
    let waits := fun (y : Syncing) (d : Nat × Nat) =>
      decide (d.2 ≤ y.since) && y.offset < (d.1 + 1) * blockSize && d.1 * blockSize < y.offset + y.length
    let clean := fun (y : Syncing) =>
      !(p.dirty.entries ++ (p.writing.map (·.blocks.entries)).flatten).any (waits y)
    let s := s.modPlacement h fun p => { p with syncs := p.syncs.filter fun y => !clean y }
    (p.syncs.filter clean).foldl (fun s y =>
      s.complete uPlacement 0x0404 (le 8 h ++ le 8 y.offset ++ le 8 y.length) y.req false false) s
  | none => s

/-- Start a write-back unit: its store write intent is journalled, and its blocks go with it (R253). -/
def State.startUnit (s : State) (h off n : Nat) : State :=
  let id := s.ledger.nextId
  let s := s.newRecord .storeIntent .open 0xFF uPlacement none 0 false (le 8 h ++ le 8 off ++ le 4 n ++ le 4 0)
  let mine := fun b => (blocksOf off n).contains b
  s.modPlacement h fun p =>
    { p with writing := p.writing ++ [{ record := id, offset := off, length := n, blocks := p.dirty.keep fun b _ => mine b }],
             dirty := p.dirty.keep fun b _ => !mine b }

/-- Finish a write-back unit: the home holds its data, the intent is APPLIED, and SYNCs may complete (R253). -/
def State.wroteBack (s : State) (h : Nat) (w : WriteBack) : State :=
  let s := s.modPlacement h fun p =>
    { p with synced := p.synced.copyFrom p.mem w.offset w.length, writing := p.writing.erase w }
  (s.setRecord w.record .applied 0).finishSyncs h

/-- Finish every unit of a placement in flight. -/
def State.finishUnits (s : State) (h : Nat) : State :=
  match s.placement h with
  | some p => p.writing.foldl (fun s w => s.wroteBack h w) s
  | none => s

/-- Write the dirty part of a chunk of a DURABLE placement back, before its copy is released (R244). -/
def State.cleanChunk (s : State) (h c : Nat) : State :=
  if (s.placement h).any fun p => p.dur == 2 &&
      (p.dirty.keys ++ (p.writing.map (·.blocks.keys)).flatten).any fun b => b * blockSize / chunkSize == c then
    let n := ((s.placement h).map fun p => min chunkSize (p.size - c * chunkSize)).getD 0
    (s.startUnit h (c * chunkSize) n).finishUnits h
  else s

/-- Every write-back of a DURABLE placement is completed, in units of 1 MB (R253, R258). -/
def State.flushPlacement (s : State) (h : Nat) : State :=
  match s.placement h with
  | some p =>
    let unit := 2 ^ 20
    let units := (p.dirty.keys.map fun b => b * blockSize / unit).dedup
    (units.foldl (fun s u => s.startUnit h (u * unit) (min unit (p.size - u * unit))) s).finishUnits h
  | none => s

/-- Drop the promoted copy of a chunk, written back before; the history stays (R244). -/
def State.dropCopy (s : State) (h c : Nat) : State :=
  (s.cleanChunk h c).modPlacement h fun p => { p with chunks := p.chunks.upd c ⟨0, 0, 0, 0⟩ fun x => { x with tier := 0 } }

/-! ### Reclaim (R246) and pressure (R276) -/

/-- Copies of a tier that may be reclaimed, with their place in the order of R246: rank, priority, least recently used. -/
def State.reclaimOrder (s : State) (t : Nat) : List (Nat × Nat × Nat) :=
  let of := fun (h : Nat) (p : Placement) =>
    if s.jobReads h || p.pin = t then []
    else (p.chunks.entries.filter fun e => e.2.tier = t && !p.viewed e.1).map fun e =>
      ((clsRank p.cls * 8 + p.prio) * 2 ^ 64 + e.2.lastUse, h, e.1)
  (s.place.places.entries.map fun e => of e.1 e.2).flatten

/-- The entry with the smallest key. -/
def leastKey : List (Nat × Nat × Nat) → Option (Nat × Nat × Nat)
  | [] => none
  | e :: l => match leastKey l with
    | some f => if f.1 < e.1 then some f else some e
    | none => some e

/-- Reclaim copies in the order of R246 until a tier has room for `need` bytes more; `fuel` bounds the chunks taken. -/
def State.reclaimCopies : Nat → Nat → Nat → State → State
  | 0, _, _, s => s
  | fuel + 1, t, need, s =>
    if s.place.used t + need ≤ tierManaged t then s
    else match leastKey (s.reclaimOrder t) with
      | some (_, h, c) => State.reclaimCopies fuel t need (s.dropCopy h c)
      | none => s

/-- Reclaim for admission, pinning, staging or a view (R246). -/
def State.makeRoom (s : State) (t need : Nat) : State := s.reclaimCopies (s.reclaimOrder t).length t need

/-- Reclaim for admission abandons the promotions in flight into the tier first (R246). -/
def State.admitRoom (s : State) (t need : Nat) : State :=
  if need ≤ s.place.free t then s
  else
    (s.modPlace fun q => { q with moving := q.moving.filter fun m => m.to_ != t || !q.promotes m }).makeRoom t need

/-- TIER_PRESSURE of one tier (R276). -/
def State.tierPressure (s : State) (t : Nat) : State :=
  let a := s.available t
  let on := s.place.pressed.rd t false
  let tell := fun (b : Bool) =>
    (s.modPlace fun q => { q with pressed := q.pressed.put t b }).raise uPlacement 0x0401
      (le 1 t ++ le 1 (flag b) ++ le 2 0 ++ le 8 a)
  if !on && a * 10 < tierManaged t then tell true
  else if on && a * 100 > 15 * tierManaged t then tell false
  else s

/-- TIER_PRESSURE of every tier. -/
def State.pressures (s : State) : State := [1, 2, 3, 4].foldl State.tierPressure s

/-! ### Admission (R242–R249) -/

/-- The conditions of a request. -/
structure PlaceReq where
  cls : Nat
  dur : Nat
  size : Nat
  rate : Nat
  bound : Nat
  deriving DecidableEq, Repr

/-- The tier meets the requested bound. -/
def PlaceReq.boundOk (q : PlaceReq) (t : Nat) : Bool := q.bound == 0 || tierBound t ≤ q.bound

/-- MB/s a tier could still commit to the request; a RUNG placement outside STORE takes its rate from STORE too (R252). -/
def PlaceReq.rateLeft (q : PlaceReq) (s : State) (t : Nat) : Nat :=
  let left := fun t => tierRate t - s.place.rateCommitted t
  if q.dur = 1 && t ≤ 2 then min (left t) (left 4) else left t

/-- The tier's uncommitted rate covers the request. -/
def PlaceReq.rateOk (q : PlaceReq) (s : State) (t : Nat) : Bool := q.rate == 0 || q.rate ≤ q.rateLeft s t

/-- The tier's free and reclaimable space covers the request. -/
def PlaceReq.spaceOk (q : PlaceReq) (s : State) (t : Nat) : Bool := roundTier t q.size ≤ s.available t

/-- Permitted tiers, slowest first (R242). -/
def PlaceReq.tiers (q : PlaceReq) : List Nat := [4, 3, 2, 1].filter fun t => (permittedTiers q.cls q.dur).contains t

/-- The home tier: the lowest that satisfies every condition (R242). -/
def PlaceReq.home (q : PlaceReq) (s : State) : Option Nat :=
  q.tiers.find? fun t => q.boundOk t && q.rateOk s t && q.spaceOk s t

/-- The tier the quota is compared in: the home, or the lowest tier that meets the bound where none is a home (assumption
11). -/
def PlaceReq.quotaTier (q : PlaceReq) (s : State) : Option Nat :=
  match q.home s with
  | some t => some t
  | none => q.tiers.find? q.boundOk

/-- Quota of a channel (R273). -/
def State.quota (s : State) (ch : Nat) : Quota := s.place.quotas.rd ch Quota.shipped

/-- The request would put the channel beyond its quota (R249). -/
def PlaceReq.overQuota (q : PlaceReq) (s : State) (ch : Nat) : Bool :=
  let mine := fun (f : Placement → Nat) => s.place.sum fun p => if p.owner = ch then f p else 0
  let k := s.quota ch
  (k.rate != 0xFFFFFFFF && mine (·.rate) + q.rate > k.rate) ||
    match q.quotaTier s with
    | some t =>
      let lim := k.space.getD (t - 1) 0
      lim != 2 ^ 64 - 1 && mine (·.commit t) + roundTier t q.size > lim
    | none => false

/-- The tier with the most space among those that meet every condition but the size (R248). -/
def PlaceReq.sizeTier (q : PlaceReq) (s : State) : Option Nat :=
  (q.tiers.filter fun t => q.boundOk t && q.rateOk s t).foldl (fun best t =>
    match best with
    | some b => if s.available b < s.available t then some t else some b
    | none => some t) none

/-- The NO_SPACE reply: the counter-offer (R248, R266). -/
def PlaceReq.offer (q : PlaceReq) (s : State) : List Byte :=
  let t := q.sizeTier s
  let size := match t with
    | some t => s.available t / tierGranule t * tierGranule t
    | none => 0
  let bounds := (q.tiers.filter fun t => q.rateOk s t && q.spaceOk s t).map tierBound
  let bound := bounds.foldl min 0xFFFFFFFF
  let rates := (q.tiers.filter fun t => q.boundOk t && q.spaceOk s t).map (q.rateLeft s)
  let rate := rates.foldl max 0
  let limit := match t with
    | some t => le 1 t
    | none => [(Config.free 8 s.freeCount)]
  le 8 size ++ le 4 bound ++ le 4 rate ++ limit ++ le 7 0

/-! ### Names and owners (R250, R251) -/

/-- The channel may release, pin or sync the placement. -/
def State.ownsPlacement (s : State) (h ch : Nat) : Bool := (s.placement h).any fun p => p.owner == ch || ch == 0

/-- The channel may map, query or name the placement. -/
def State.mayName (s : State) (h ch : Nat) : Bool := (s.placement h).any fun p => p.owner == ch || bit p.flags 1

/-- The placement lists a unit (R241). -/
def Placement.lists (p : Placement) (u : Nat) : Bool := p.units.contains u

/-- A live placement lists a unit. -/
def State.lists (s : State) (h u : Nat) : Bool := (s.placement h).any (·.lists u)

/-- A stream names the placement as its backing or as a ring (R262, R301). -/
def State.streamed (s : State) (h : Nat) : Bool :=
  s.fabric.streams.entries.any fun e =>
    e.2.backing == h || (e.2.producer.ring && e.2.producer.place == h) ||
      e.2.consumers.entries.any fun c => c.2.ep.ring && c.2.ep.place == h

/-- A staged or running job names the placement (R262). -/
def State.jobbed (s : State) (h : Nat) : Bool :=
  (s.infer.jobs.entries.any fun e => e.2.running &&
    [8, 16, 24, 32].any fun o => field e.2.desc o 8 == h) ||
  s.fleet.merges.any fun m => m.source == h || m.target == h

/-! ### Residence (R244, R255, R256) -/

/-- Tier a chunk resides in: where a rung has left it, its copy, or its home. -/
def Placement.residence (p : Placement) (c : Nat) : Nat :=
  let copy := (p.chunks.rd c ⟨0, 0, 0, 0⟩).tier
  (p.unrestored.find c).getD (if copy = 0 then p.home else copy)

/-- Number of chunks of a placement. -/
def Placement.chunkCount (p : Placement) : Nat := (p.size + chunkSize - 1) / chunkSize

/-- Bytes of chunk `c`. -/
def Placement.chunkBytes (p : Placement) (c : Nat) : Nat := min chunkSize (p.size - c * chunkSize)

/-- Chunks that do not reside in the home tier, with their tiers. -/
def Placement.away (p : Placement) : List (Nat × Nat) :=
  p.unrestored.entries ++
    (p.chunks.entries.filter fun e => e.2.tier != 0 && (p.unrestored.find e.1).isNone).map fun e => (e.1, e.2.tier)

/-- Bytes resident in a tier (R270). -/
def Placement.bytesIn (p : Placement) (t : Nat) : Nat :=
  let sum := fun (l : List (Nat × Nat)) => (l.map fun e => p.chunkBytes e.1).sum
  if p.home = t then p.size - sum (p.away.filter (·.2 != t)) else sum (p.away.filter (·.2 == t))

/-- Start of the view aperture (R255). -/
def apertureBase : Nat := 0x4000000000

/-- Length of the view aperture (R255). -/
def apertureSize : Nat := 0x800000000

/-- Every mapped range of the aperture. -/
def Puppeteer.ranges (q : Puppeteer) : List (Nat × Nat) :=
  (q.places.entries.map fun e => e.2.views.map fun v => (v.address, v.length)).flatten

/-- A range of the aperture is free. -/
def Puppeteer.rangeFree (q : Puppeteer) (a n : Nat) : Bool :=
  apertureBase ≤ a && a + n ≤ apertureBase + apertureSize &&
    q.ranges.all fun r => a + n ≤ r.1 || r.1 + r.2 ≤ a

/-- An address for a view of `n` bytes: the module's own choice among the free ranges (assumption 12): a free value where it
names one, the lowest free range that starts at the aperture or behind a view otherwise. -/
def State.viewAddress (s : State) (n : Nat) : Option Nat :=
  let c := apertureBase + (Config.free 19 s.freeCount).toNat * chunkSize
  if s.place.rangeFree c n then some c
  else (apertureBase :: s.place.ranges.map fun r => r.1 + r.2).find? fun a => s.place.rangeFree a n

/-- PLACEMENT_READY fields (R276). -/
def readyFields (h op tier : Nat) (st : Status) (address : Nat) : List Byte :=
  le 8 h ++ le 1 op ++ le 1 tier ++ le 2 st.code ++ le 4 0 ++ le 8 address

/-- Complete the PINs of a placement, all in the pin tier now in force; 0 where it has been unpinned (R269; assumption 122). -/
def State.completePins (s : State) (h : Nat) : State :=
  match s.placement h with
  | some p =>
    p.pinning.foldl (fun s q => s.complete uPlacement 0x0406 (readyFields h 3 p.pin .ok 0) q false false)
      (s.modPlacement h fun p => { p with pinning := [] })
  | none => s

/-- The range of a view is resident in FAR or above, or its home is KEEP (R255). -/
def Placement.viewResident (p : Placement) (v : View) : Bool :=
  p.home = 3 || (chunksOf v.offset v.length).all fun c => p.residence c ≤ 2

/-- The lowest tier under a view (R276). -/
def Placement.viewTier (p : Placement) (v : View) : Nat := (chunksOf v.offset v.length).foldl (fun t c => max t (p.residence c)) 0

/-- Complete the views of a placement whose range has become resident (R269). -/
def State.finishViews (s : State) (h : Nat) : State :=
  match s.placement h with
  | some p =>
    let ready := p.views.filter fun v => v.req.isSome && p.viewResident v
    let s := s.modPlacement h fun p =>
      { p with views := p.views.map fun v => if v.req.isSome && p.viewResident v then { v with req := none } else v }
    ready.foldl (fun s v =>
      match v.req with
      | some q => s.complete uPlacement 0x0406 (readyFields h 4 (p.viewTier v) .ok v.address) q false false
      | none => s) s
  | none => s

/-- Chunks of a list that are not in a tier and not in migration, and that no rung has left behind (R255, R259). -/
def State.movable (s : State) (h t : Nat) (cs : List Nat) : List Nat :=
  match s.placement h with
  | some p => cs.filter fun c =>
      p.residence c != t && (p.unrestored.find c).isNone && !(s.place.moving.any fun m => m.handle == h && m.chunk == c)
  | none => []

/-- Start the migration of chunks of a placement into a tier, those already there or in migration left out. -/
def State.startMoves (s : State) (h t : Nat) (cs : List Nat) : State :=
  let go := s.movable h t cs
  s.modPlace fun q => { q with moving := q.moving ++ go.map fun c => { handle := h, chunk := c, to_ := t } }

/-- Bring a pinned placement into its pin tier, and complete its PINs once it is wholly there (R256, R259, R269). A copy under a view
stays in FAR or above whatever the pin (R255; assumption 124). -/
def State.settlePin (s : State) (h : Nat) : State :=
  match s.placement h with
  | some p =>
    let mine := fun c => p.pin ≤ 2 || p.home = 3 || !p.viewed c
    let s := if p.pin = 0 then s
      else if p.pin = p.home then (p.away.filter fun e => mine e.1).foldl (fun s e => s.dropCopy h e.1) s
      else s.startMoves h p.pin ((List.range p.chunkCount).filter mine)
    if p.pin != 0 && (s.placement h).any (fun p => p.bytesIn p.pin == p.size) && !(s.place.moving.any fun m => m.handle == h) then
      s.completePins h
    else s
  | none => s

/-- PLACEMENT_LOST fields (R276). -/
def lostFields (h : Nat) (p : Placement) (cause : Nat) : List Byte := le 8 h ++ le 1 cause ++ le 3 0 ++ le 4 p.label

/-- Take a placement out: its handle is invalid from then on, its migrations are abandoned (R259, R262). -/
def State.dropPlacement (s : State) (h : Nat) : State :=
  s.modPlace fun q => { q with places := q.places.erase h, moving := q.moving.filter fun m => m.handle != h }

/-- Admit a placement in its home tier, reclaiming what it needs; the handle is new (R243, R246, R251). -/
def State.lodge (s : State) (p : Placement) : Nat × State :=
  let s := s.admitRoom p.home p.size
  let h := s.place.nextHandle
  (h, s.modPlace fun q => { q with places := q.places.put h p, nextHandle := h + 1 })

/-- A placement just granted. -/
def newPlacement (cls dur flags prio size rate label : Nat) (units : List Nat) (home owner : Nat) : Placement :=
  { cls := cls, dur := dur, flags := flags, prio := prio, size := size, rate := rate, label := label, units := units,
    home := home, pin := 0, owner := owner, moves := 0, chunks := Bank.empty, dirty := Bank.empty, mem := Memory.empty,
    synced := Memory.empty, pinning := [], syncs := [], views := [], writing := [],
    unrestored := Bank.empty }

/-- The placement of the boot view of a number of GB: SCRATCH, VOLATILE, pinned in FAR, owned by channel 0, mapped at 0x8000_0000
(R257). -/
def bootPlacement (gb : Nat) : Placement :=
  let size := gb * 2 ^ 30
  { newPlacement 4 0 0 7 size 0 0 [0xFFFE] 2 0 with
      pin := 2, views := [{ address := 0x80000000, offset := 0, length := size, req := none }] }

/-- Make the boot view, of the size in force (R257). -/
def State.createBootView (s : State) : State :=
  let x := s.lodge (bootPlacement s.place.viewGb)
  x.2.modPlace fun q => { q with bootView := x.1 }

end Sys2Proof.Machine
end

