-- ==== Sys2Proof/Machine/StreamOps.lean ====
section
/-! DEFINITION. The fabric's operations (08): ports, presentation, credits, delivery, drops, absence, rings and the external
link. -/

namespace Sys2Proof.Machine

/-- Change the fabric. -/
def State.modFabric (s : State) (f : Fabric → Fabric) : State := { s with fabric := f s.fabric }

/-- Change the external link. -/
def State.modLink (s : State) (f : Link → Link) : State := s.modFabric fun x => { x with link := f x.link }

/-- Stream number `no`. -/
def State.stream (s : State) (no : Nat) : Option Stream := s.fabric.streams.find no

/-- Write stream number `no`. -/
def State.setStream (s : State) (no : Nat) (x : Stream) : State :=
  s.modFabric fun f => { f with streams := f.streams.put no x }

/-- Change stream number `no`, if it is live. -/
def State.modStream (s : State) (no : Nat) (f : Stream → Stream) : State :=
  match s.stream no with
  | some x => s.setStream no (f x)
  | none => s

/-- The number of the live stream with a handle. -/
def State.streamNo (s : State) (h : Nat) : Option Nat :=
  (s.fabric.streams.entries.find? fun e => e.2.handle == h).map (·.1)

/-! ### Ports -/

/-- The unit's owning chapter gives it a stream port that produces (R353, R496, R514, R555, R578, R599, R630, R674, R692). -/
def hasProducer (u p : Nat) : Bool :=
  if inRange u (uLane 0) (uLane 3) then p == 2
  else if inRange u (uCam 0) (uCam 15) then p == 1
  else if u == uPipe 0 || u == uPipe 1 then inRange p 1 128
  else if inRange u (uCluster 0) (uCluster 3) then inRange p 17 48 || (u == uCluster 0 && p == 49)
  else if u == uBaseband || u == uFusion || u == uTime || u == uFi || u == uFleet then p == 1
  else if u == uRtk then p == 2
  else if inRange u (uMb 0) (uMb 11) then inRange p 1 4
  else false

/-- A port of this module produces: a pipeline's, of a camera bound to it (R578). -/
def State.produces (s : State) (u p : Nat) : Bool :=
  hasProducer u p && (!(u == uPipe 0 || u == uPipe 1) ||
    field (s.vision.cams.rd ((p - 1) / 8) Camera.reset).cfg 1 1 == u - uPipe 0)

/-- The unit has a stream port that consumes (R353, R514, R599, R779). -/
def consumes (u p : Nat) : Bool :=
  if inRange u (uLane 0) (uLane 3) then p == 1
  else if inRange u (uCluster 0) (uCluster 3) then inRange p 1 16
  else if u == uRtk || u == uSecurity then p == 1
  else false

/-- Every producing port of the module cannot stop (R291, R353, R599, R674, R692). -/
def cannotStop (u : Nat) : Bool := islandOf u == islNav || islandOf u == islVis || islandOf u == islInf ||
  islandOf u == islNet || islandOf u == islFld || islandOf u == islCtl

/-- The number of the stream that a local port produces. -/
def State.producedBy (s : State) (u p : Nat) : Option Nat :=
  (s.fabric.streams.entries.find? fun e =>
    !e.2.producer.ring && !e.2.producer.peer && e.2.producer.unit == u && e.2.producer.port == p).map (·.1)

/-! ### Drops (R281, R292) -/

/-- STREAM_DROPS, at the first drop and then at most once per 100 ms (R292). -/
def State.tellDrops (s : State) (no ep total : Nat) : State :=
  match s.stream no with
  | some x =>
    if (x.dropsAt.map fun t => decide (t + 100 * ms ≤ s.time)).getD true then
      (s.setStream no { x with dropsAt := some s.time }).raise uFabric 0x0503 (le 8 x.handle ++ le 1 ep ++ le 3 0 ++ le 4 total)
    else s
  | none => s

/-- Count `n` messages as dropped for a consumer. -/
def Consumer.drop (c : Consumer) (n : Nat) : Consumer :=
  { c with dropped := c.dropped + BitVec.ofNat 32 n, lost := c.lost + n }

/-- Count a message as dropped for one consumer and report it. -/
def State.dropFor (s : State) (no i : Nat) : State :=
  let s := s.modStream no fun x => { x with consumers := ⟨x.consumers.entries.map fun e =>
    if e.1 = i then (e.1, e.2.drop 1) else e⟩ }
  match (s.stream no).bind fun x => x.consumers.find i with
  | some c => s.tellDrops no i c.dropped.toNat
  | none => s

/-- Count a message as dropped for every consumer and report it. -/
def State.dropAll (s : State) (no : Nat) : State :=
  let s := s.modStream no fun x =>
    { x with consumers := x.consumers.mapAll fun _ c => c.drop 1, droppedAll := x.droppedAll + 1 }
  match s.stream no with
  | some x => s.tellDrops no 0xFF x.droppedAll.toNat
  | none => s

/-- STREAM_DROPS for the consumers that have lost messages since `old` (R292). -/
def State.tellLosses (s : State) (no : Nat) (old : Bank Consumer) : State :=
  match s.stream no with
  | some x => (x.consumers.entries.filter fun e => (old.find e.1).any fun c => c.dropped != e.2.dropped).foldl
      (fun s e => s.tellDrops no e.1 e.2.dropped.toNat) s
  | none => s

/-- Change a stream's record, and report the messages its consumers thereby lose. -/
def State.setLosing (s : State) (no : Nat) (old x : Stream) : State := (s.setStream no x).tellLosses no old.consumers

/-! ### Sending flits (R283, R288, R289, R304) -/

/-- Flits of one message a consumer may be sent: those paid for, and its credits (R283, R289). -/
def Consumer.spare (c : Consumer) (q : Sending) : Nat := if c.absent.isSome then 0 else q.paid - q.sent + c.credits

/-- `k` flits of the message of sequence `seq` are sent to a consumer, against its credits. -/
def Consumer.sendFlits (c : Consumer) (seq k : Nat) : Consumer :=
  match c.queue.find? fun q => q.seq == seq with
  | some q =>
    let paid := max q.paid (q.sent + k)
    { c with credits := c.credits - (paid - q.paid),
             queue := mapIf (fun q => q.seq == seq) (fun q => { q with sent := q.sent + k, paid := paid }) c.queue }
  | none => c

/-- A consumer has the message of sequence `seq` in its queue. -/
def Consumer.holds (c : Consumer) (seq : Nat) : Bool := c.queue.any fun q => q.seq == seq

/-- The message a consumer is to be sent next. The reader of a backed stream takes one slot after the other, so that no more than one
slot is read by it at a time (R290). -/
def Consumer.next (c : Consumer) (backed : Bool) : Option Sending :=
  if c.absent.isSome then none
  else ((if backed then c.queue.take 1 else c.queue).find? fun q => q.sent < flitsOf q.msg.body.length)

/-- How long ago a stream presented the message of sequence `seq`, in messages (R280). -/
def Stream.age (x : Stream) (seq : Nat) : Nat := (x.nextSeq.toNat + 2 ^ 32 - seq) % 2 ^ 32

/-- Send what a backed stream's local consumer may take, under its own credits. -/
def State.pumpConsumer (s : State) (no i : Nat) : State :=
  match (s.stream no).bind fun x => (x.consumers.find i).map fun c => (x, c) with
  | some (x, c) =>
    match c.next true with
    | some q =>
      if c.ep.peer then s
      else
        let k := min (c.spare q) (flitsOf q.msg.body.length - q.sent)
        s.setStream no { x with consumers := x.consumers.put i (c.sendFlits q.seq k) }
    | none => s
  | none => s

/-- The message that goes next to the consumers on the peer's side: the oldest any of them is to be sent. A flit goes on the link
once for all of them (R280, R282). -/
def Stream.peerNext (x : Stream) : Option Sending :=
  (x.consumers.entries.filterMap fun e => if e.2.ep.peer then e.2.next x.backed else none).foldl (fun best q =>
    match best with
    | some b => if x.age b.seq < x.age q.seq then some q else some b
    | none => some q) none

/-- Send the peer's consumers what they may take, as far as the replay buffer has room (R304). -/
def State.pumpPeers : Nat → Nat → State → State
  | 0, _, s => s
  | fuel + 1, no, s =>
    match (s.stream no).bind fun x => x.peerNext.map fun q => (x, q) with
    | none => s
    | some (x, q) =>
      let mine := fun (c : Consumer) => c.ep.peer && c.absent.isNone && c.holds q.seq
      let total := flitsOf q.msg.body.length
      let spare := fun (c : Consumer) => ((c.queue.find? fun y => y.seq == q.seq).map c.spare).getD 0
      let k := (x.consumers.entries.filter fun e => mine e.2).foldl (fun k e => min k (spare e.2))
        (min (total - q.sent) s.fabric.link.room)
      if k = 0 then s
      else
        let s := s.setStream no
          { x with consumers := x.consumers.mapAll fun _ c => if mine c then c.sendFlits q.seq k else c }
        let s := s.modLink fun l => l.carry (x.linkNo.getD 0) q.seq q.sent k q.msg
        if q.sent + k = total then State.pumpPeers fuel no s else s

/-- A message enters the queue of every consumer that is to have it; it counts as dropped for those absent (R299). -/
def Stream.enqueue (x : Stream) (seq : Nat) (m : Msg) (skip : List Nat) : Stream :=
  { x with consumers := x.consumers.mapAll fun i c =>
      if skip.contains i || c.detaching then c
      else if c.absent.isSome then c.drop 1
      else { c with queue := c.queue ++ [{ seq := seq, msg := m, paid := 0, sent := 0, arrived := 0 }] } }

/-- Send the waiting messages of a direct stream with BLOCK, flit by flit: a flit goes when every consumer that is to receive
it holds a credit (R283, R288). Nothing goes while the producer is absent (R298). -/
def State.pumpDirect : Nat → Nat → State → State
  | 0, _, s => s
  | fuel + 1, no, s =>
    match s.stream no with
    | none => s
    | some x =>
      match x.out with
      | [] => s
      | o :: rest =>
        if x.absent.isSome then s
        else
          let s := if o.offered then s else
            s.setLosing no x { x.enqueue o.seq o.msg o.skip with out := { o with offered := true } :: rest }
          match s.stream no with
          | none => s
          | some x =>
            let mine := x.consumers.entries.filter fun e => e.2.holds o.seq
            let total := flitsOf o.msg.body.length
            let of := fun (c : Consumer) => c.queue.find? fun q => q.seq == o.seq
            let sent := (mine.head?.bind fun e => (of e.2).map (·.sent)).getD total
            let spare := fun (c : Consumer) => ((of c).map c.spare).getD 0
            let far := mine.any fun e => e.2.ep.peer
            let k := mine.foldl (fun k e => min k (spare e.2)) (if far then min (total - sent) s.fabric.link.room else total - sent)
            let y := { x with consumers := x.consumers.mapAll fun _ c => if c.holds o.seq then c.sendFlits o.seq k else c }
            let s := s.setStream no (if sent + k ≥ total then { y with out := rest } else y)
            let s := if far then s.modLink fun l => l.carry (x.linkNo.getD 0) o.seq sent k o.msg else s
            if sent + k ≥ total then State.pumpDirect fuel no s else s

/-- A slot of a backed stream that no consumer is to read any more is free (R287). -/
def Stream.freeSlots (x : Stream) : Stream :=
  { x with held := x.held.filter fun h => x.consumers.entries.any fun e => e.2.holds h.1 }

/-- The oldest slot that no consumer is reading (R288, R290). -/
def Stream.victim (x : Stream) : Option Nat :=
  (x.held.find? fun h => x.consumers.entries.all fun e =>
    e.2.queue.all fun q => q.seq != h.1 || q.sent == 0).map (·.1)

/-- Claim a slot for a message and offer it to the consumers. -/
def State.claim (s : State) (no seq : Nat) (m : Msg) (skip : List Nat) : State :=
  match s.stream no with
  | some x => s.setLosing no x ({ x with held := x.held ++ [(seq, m)] }.enqueue seq m skip)
  | none => s

/-- Messages a stream has for its consumers. -/
def Stream.queued (x : Stream) : Nat := (x.consumers.entries.map fun e => e.2.queue.length).sum

/-- Every consumer of a backed stream is pumped. -/
def State.pumpAll (s : State) (no : Nat) : State :=
  match s.stream no with
  | some x => State.pumpPeers x.queued no (x.consumers.keys.foldl (fun s i => s.pumpConsumer no i) s)
  | none => s

/-- Give free slots to the messages that wait under BLOCK, oldest first; none while the producer is absent (R298). -/
def State.claimWaiting : Nat → Nat → State → State
  | 0, _, s => s
  | fuel + 1, no, s =>
    match s.stream no with
    | some x =>
      match x.out with
      | o :: rest =>
        if x.held.length < x.slots && x.absent.isNone then
          State.claimWaiting fuel no ((s.setStream no { x with out := rest }).claim no o.seq o.msg o.skip)
        else s
      | [] => s
    | none => s

/-- Send whatever the stream can send now. -/
def State.pump (s : State) (no : Nat) : State :=
  match s.stream no with
  | some x =>
    if x.backed then
      let s := s.modStream no Stream.freeSlots
      (State.claimWaiting x.out.length no s).pumpAll no
    else if x.policy = 0 then State.pumpDirect x.out.length no s
    else if x.absent.isSome then s
    else State.pumpPeers x.queued no s
  | none => s

/-- The slot of sequence `seq` is freed: every consumer that was to read it loses it (R288, R290). -/
def State.evict (s : State) (no seq : Nat) : State :=
  match s.stream no with
  | some x =>
    let losers := x.consumers.entries.filter fun e => e.2.holds seq
    let s := s.setStream no
      { x with held := x.held.filter fun h => h.1 != seq,
               consumers := x.consumers.mapAll fun _ c => { c with queue := c.queue.filter fun q => q.seq != seq } }
    losers.foldl (fun s e => s.dropFor no e.1) s
  | none => s

/-- A direct stream with a drop policy offers a message to one consumer: credits for all of its flits, or none (R289). -/
def State.offerDirect (s : State) (no seq : Nat) (m : Msg) (i : Nat) : State :=
  match (s.stream no).bind fun x => (x.consumers.find i).map fun c => (x, c) with
  | some (x, c) =>
    let n := flitsOf m.body.length
    if c.detaching then s
    else if c.absent.isNone && n ≤ c.credits then
      let q : Sending := { seq := seq, msg := m, paid := n, sent := if c.ep.peer then 0 else n, arrived := 0 }
      s.setStream no { x with consumers := x.consumers.put i { c with queue := c.queue ++ [q], credits := c.credits - n } }
    else s.dropFor no i
  | none => s

/-- Present a message on a stream (R279, R280, R288): it is sent, takes a slot, waits, or is dropped. -/
def State.presentOn (s : State) (no : Nat) (m : Msg) : State :=
  match s.stream no with
  | none => s
  | some x =>
    let seq := x.nextSeq.toNat
    let wait := fun (s : State) =>
      s.modStream no fun x => { x with out := x.out ++ [{ seq := seq, msg := m, offered := false, skip := [] }] }
    let x := x.freeSlots
    let s := s.setStream no { x with nextSeq := x.nextSeq + 1 }
    if m.body.length > x.maxMsg || m.body = [] then s.dropAll no
    else if x.backed then
      if x.held.length < x.slots && x.out.isEmpty then (s.claim no seq m []).pumpAll no
      else if x.policy = 0 then wait s
      else if x.policy = 1 then s.dropAll no
      else match x.victim with
        | some v => ((s.evict no v).claim no seq m []).pumpAll no
        | none => s.dropAll no
    else if x.policy = 0 then (wait s).pump no
    else (x.consumers.keys.foldl (fun s i => s.offerDirect no seq m i) s).pump no

/-- The stream accepts messages: its producer is present and no drain is in progress (R298, R301). -/
def Stream.open (x : Stream) : Bool := x.absent.isNone && x.draining.isNone

/-- A unit presents a message on one of its ports; with no stream there it is lost. -/
def State.present (s : State) (u p : Nat) (m : Msg) : State :=
  match s.producedBy u p with
  | some no => if (s.stream no).any Stream.open then s.presentOn no m else s
  | none => s

/-! ### Closing (R301) -/

/-- Messages a stream still holds for its consumers. -/
def Stream.undelivered (x : Stream) : Nat :=
  let seqs := x.out.map (·.seq) ++ x.held.map (·.1) ++
    (x.consumers.entries.map fun e => e.2.queue.map (·.seq) ++ e.2.got.map (·.1)).flatten
  seqs.eraseDups.length

/-- End a stream: STREAM_CLOSED completes its DESTROY (R301, R316). -/
def State.closeStream (s : State) (no : Nat) (q : Requester) : State :=
  match s.stream no with
  | some x =>
    (s.modFabric fun f => { f with streams := f.streams.erase no }).complete uFabric 0x0502
      (le 8 x.handle ++ le 4 x.undelivered ++ le 4 0) q false false
  | none => s

/-- A draining stream that holds nothing any more is closed. -/
def State.finishDrain (s : State) (no : Nat) : State :=
  match s.stream no with
  | some x =>
    match x.draining with
    | some (q, _) => if x.undelivered = 0 then s.closeStream no q else s
    | none => s
  | none => s

/-- A consumer whose DETACH waited for its message boundary leaves (R301). -/
def State.finishDetach (s : State) (no i : Nat) : State :=
  s.modStream no fun x =>
    if (x.consumers.find i).any fun c => c.detaching && c.queue = [] then
      { x with consumers := x.consumers.erase i }.freeSlots
    else x

/-! ### Delivery and credits (R280, R283, R296) -/

/-- Return the credits freed so far (R283). -/
def Consumer.giveBack (c : Consumer) : Consumer := { c with credits := c.credits + c.freed, freed := 0 }

/-- Return at once when a quarter of CREDITS is free (R283). -/
def Consumer.autoReturn (c : Consumer) (credits : Nat) : Consumer := if credits ≤ 4 * c.freed then c.giveBack else c

/-- A descriptor is posted and not completed. -/
def RingState.ready (r : RingState) : Bool := !r.error && r.posted != r.completed

/-- The last flit of the front message has arrived: a unit has the message, a ring keeps it for a descriptor (R280, R296). -/
def Consumer.got1 (c : Consumer) : Consumer :=
  match c.queue with
  | q :: qs =>
    if c.ep.ring then { c with queue := qs, got := c.got ++ [(q.seq, c.lost, q.msg)], lost := 0 }
    else { c with queue := qs, delivered := c.delivered + 1, lost := 0 }
  | [] => c

/-- One flit arrives at a consumer: its buffer is freed unless the ring holds no descriptor, and the last one delivers the
message (R280, R296). -/
def Consumer.arrive (c : Consumer) (credits : Nat) : Consumer :=
  match c.queue with
  | q :: qs =>
    if q.arrived < q.sent then
      let c := if c.ep.ring && !c.ring.ready then { c with occupied := c.occupied + 1 } else { c with freed := c.freed + 1 }
      let c := { c with queue := { q with arrived := q.arrived + 1 } :: qs }
      (if q.arrived + 1 < flitsOf q.msg.body.length then c else c.got1).autoReturn credits
    else c
  | [] => c

/-- One flit of a message has reached a consumer on the peer's side, whose buffers the peer frees (R283, R304). -/
def Consumer.acked (c : Consumer) (seq : Nat) : Consumer :=
  match c.queue with
  | q :: qs =>
    if q.seq = seq && q.arrived < q.sent then
      let c := { c with queue := { q with arrived := q.arrived + 1 } :: qs }
      if q.arrived + 1 < flitsOf q.msg.body.length then c else c.got1
    else c
  | [] => c

/-- A flit is on its way to the consumer. -/
def Consumer.due (c : Consumer) : Bool := c.queue.head?.any fun q => q.arrived < q.sent

/-! ### Absence (R298, R299) -/

/-- STREAM_STATE (R316). -/
def State.tellStream (s : State) (handle ep state cause discarded : Nat) : State :=
  s.raise uFabric 0x0501 (le 8 handle ++ le 1 ep ++ le 1 state ++ le 1 cause ++ le 1 0 ++ le 4 discarded)

/-- Messages of a stream begun and not wholly sent. -/
def Stream.partialSeqs (x : Stream) : List Nat :=
  ((x.consumers.entries.map fun e =>
    (e.2.queue.filter fun q => 0 < q.sent && q.sent < flitsOf q.msg.body.length).map (·.seq)).flatten).eraseDups

/-- Messages cut off leave a consumer: they count as dropped, and what they hold of its credits and buffers comes back (R281, R283).
Flits sent to a peer's consumer come back by its CREDIT flits. -/
def Consumer.cutOff (c : Consumer) (cut : List Nat) (credits : Nat) : Consumer :=
  let gone := c.queue.filter fun q => cut.contains q.seq
  let unsent := (gone.map fun q => q.paid - q.sent).sum
  let flying := if c.ep.peer then 0 else (gone.map fun q => q.sent - q.arrived).sum
  let kept := min c.occupied (c.got.map fun g => flitsOf g.2.2.body.length).sum
  let c := { c.drop gone.length with queue := c.queue.filter fun q => !cut.contains q.seq, credits := c.credits + unsent,
                                     freed := c.freed + flying + (if gone.isEmpty then 0 else c.occupied - kept),
                                     occupied := if gone.isEmpty then c.occupied else kept }
  c.autoReturn credits

/-- The producer becomes absent: a message in flight ends early and never reaches a consumer; a peer that consumes gets an ABORT
flit (R281, R298). -/
def State.producerAbsent (s : State) (no cause : Nat) : State :=
  match s.stream no with
  | some x =>
    if x.absent.isSome then s
    else
      let cut := if x.backed then [] else x.partialSeqs
      let y := { x with absent := some cause, consumers := x.consumers.mapAll fun _ c => c.cutOff cut x.credits,
                        out := x.out.filter fun o => !cut.contains o.seq }
      let begun := (x.consumers.entries.filter fun e => e.2.ep.peer && e.2.absent.isNone).map fun e =>
        e.2.queue.filter fun q => cut.contains q.seq && 0 < q.sent
      let s := (begun.flatten.map fun q => (q.seq, q.sent)).eraseDups.foldl (fun s q =>
        s.modLink fun l => l.send (abortFlit (x.linkNo.getD 0) q.1 q.2)) s
      (s.setLosing no x y).tellStream x.handle 0xFF 1 cause cut.length
  | none => s

/-- A consumer becomes absent: it leaves credit accounting and slot holding, and what it has not received counts as dropped
(R299). One that was leaving has left (R301). -/
def State.consumerAbsent (s : State) (no i cause : Nat) : State :=
  match (s.stream no).bind fun x => (x.consumers.find i).map fun c => (x, c) with
  | some (x, c) =>
    if c.absent.isSome then s
    else
      let n := c.queue.length
      let c' := { c.drop n with absent := some cause, queue := [], credits := x.credits, freed := 0, occupied := 0 }
      let s := (s.setLosing no x { x with consumers := x.consumers.put i c' }).tellStream x.handle i 1 cause n
      ((s.finishDetach no i).pump no).finishDrain no
  | none => s

/-- Every endpoint that meets `p` becomes absent with a cause. -/
def State.endpointsAbsent (s : State) (p : Endpoint → Bool) (cause : Nat) : State :=
  s.fabric.streams.entries.foldl (fun s e =>
    let s := if p e.2.producer then s.producerAbsent e.1 cause else s
    (e.2.consumers.entries.filter fun c => p c.2.ep).foldl (fun s c => s.consumerAbsent e.1 c.1 cause) s) s

/-- A consumer joins a stream, new or again: messages presented before are not for it, and those that wait count as lost by one that
rejoins (R299). -/
def Stream.joins (x : Stream) (i : Nat) (again : Bool) : Stream :=
  let n := (x.out.filter fun o => !o.offered).length
  { x with out := mapIf (fun o => !o.offered) (fun o => { o with skip := i :: o.skip }) x.out,
           consumers := ⟨x.consumers.entries.map fun e =>
             if e.1 = i && again then (e.1, { e.2.drop n with absent := none }) else e⟩ }

/-- Every absent endpoint that meets `p` returns, and what waits goes on (R298, R299). -/
def State.endpointsReturn (s : State) (p : Endpoint → Bool) : State :=
  s.fabric.streams.entries.foldl (fun s e =>
    let s := match e.2.absent with
      | some k => if p e.2.producer then
          (s.modStream e.1 fun x => { x with absent := none }).tellStream e.2.handle 0xFF 0 k 0 else s
      | none => s
    let s := e.2.consumers.entries.foldl (fun s c =>
      match c.2.absent, s.stream e.1 with
      | some k, some x => if p c.2.ep then (s.setLosing e.1 x (x.joins c.1 true)).tellStream e.2.handle c.1 0 k 0 else s
      | _, _ => s) s
    s.pump e.1) s

/-- The endpoint is a port of a local unit of the list. -/
def Endpoint.ofUnits (us : List Nat) (e : Endpoint) : Bool := !e.ring && !e.peer && us.contains e.unit

/-- A consumer at the entry to Resting or a deeper rung: flits and partial messages not delivered are discarded and counted, and so
is every slot's message where the slots are lost (R300). -/
def Consumer.rest (c : Consumer) (credits : Nat) (kept : Bool) : Consumer :=
  let gone := if kept then c.queue.filter fun q => 0 < q.sent else c.queue
  let before := (c.got.map fun g => g.2.1).sum
  let c := c.drop (gone.length + c.got.length)
  { c with lost := c.lost + before, queue := if kept then c.queue.filter fun q => q.sent == 0 else [], got := [],
           credits := credits, freed := 0, occupied := 0 }

/-- A stream at the entry to Resting or a deeper rung; its slots follow their placement, and messages that wait at the producer port of
a direct stream are lost with the flits (R258, R300). -/
def State.restStream (s : State) (no : Nat) : State :=
  match s.stream no with
  | some x =>
    let kept := x.backed && (s.placement x.backing).isSome
    let n := if x.backed then 0 else (x.out.filter fun o => !o.offered).length
    let y := { x with consumers := x.consumers.mapAll fun _ c => (c.drop n).rest x.credits kept,
                      droppedAll := x.droppedAll + BitVec.ofNat 32 n, out := if x.backed then x.out else [] }
    s.setLosing no x y.freeSlots
  | none => s

/-- Every stream at the entry to Resting or a deeper rung (R300). -/
def State.restStreams (s : State) : State := s.fabric.streams.keys.foldl State.restStream s

/-! ### Rings (R293–R297) -/

/-- Offset of descriptor `n` of a ring. -/
def RingState.offset (r : RingState) (n : U32) : Nat := 64 + 48 * (n.toNat % 2 ^ r.sizeLog2)

/-- The ring of an endpoint: 0xFF for the producer. -/
def State.ringOf (s : State) (no ep : Nat) : Option (Endpoint × RingState) :=
  (s.stream no).bind fun x =>
    if ep = 0xFF then (if x.producer.ring then some (x.producer, x.pRing) else none)
    else (x.consumers.find ep).bind fun c => if c.ep.ring then some (c.ep, c.ring) else none

/-- Change the ring of an endpoint. -/
def State.modRing (s : State) (no ep : Nat) (f : RingState → RingState) : State :=
  s.modStream no fun x =>
    if ep = 0xFF then { x with pRing := f x.pRing }
    else match x.consumers.find ep with
      | some c => { x with consumers := x.consumers.put ep { c with ring := f c.ring } }
      | none => x

/-- STREAM_RING, at most once per 50 µs per ring, with the latest COMPLETED (R297). -/
def State.notifyRing (s : State) (no ep : Nat) (wanted : Bool) : State :=
  match s.stream no, s.ringOf no ep with
  | some x, some (_, r) =>
    if wanted || r.owed then
      if (r.notifiedAt.map fun t => decide (t + 50 * us ≤ s.time)).getD true then
        (s.modRing no ep fun r => { r with notifiedAt := some s.time, owed := false }).raise uFabric 0x0504
          (le 8 x.handle ++ le 1 ep ++ le 3 0 ++ le 4 r.completed.toNat)
      else s.modRing no ep fun r => { r with owed := true }
    else s
  | _, _ => s

/-- Complete a descriptor: its fields, then DONE, then COMPLETED (R297). `writes` are the further fields, by
their offset in the descriptor. -/
def State.completeDescriptor (s : State) (no ep : Nat) (st : Status) (trunc : Bool)
    (writes : List (Nat × List Byte)) : State :=
  match s.ringOf no ep with
  | some (e, r) =>
    let a := r.offset r.completed
    let d := s.readPlace e.place a 48
    let s := writes.foldl (fun s w => s.writePlace e.place (a + w.1) w.2) s
    let s := s.writePlace e.place (a + 22) (le 2 st.code)
    let s := s.writePlace e.place (a + 20) (le 2 (field d 20 2 % 256 + 256 + 512 * flag trunc))
    let s := s.writePlace e.place 4 (le 4 (r.completed + 1).toNat)
    (s.modRing no ep fun r => { r with completed := r.completed + 1 }).notifyRing no ep (bit (field d 20 2) 0)
  | none => s

/-- The check of a descriptor as the module takes it (R295); `limit` is MAX_MSG on a producer's ring. -/
def State.descriptorBad (s : State) (d : List Byte) (limit : Option Nat) : Option Status :=
  let h := field d 0 8
  let n := field d 16 4
  firstOf [
    (n == 0, .badLength),
    (!s.lists h 0xFFFE, .badParam),
    ((s.placement h).any (fun p => field d 8 8 + n > p.size), .badLength),
    (limit.any (fun m => n > m), .badLength)]

/-! ### The external link (R302–R309) -/

/-- LINK_STATE fields (R316). -/
def Link.fields (l : Link) (cause : Nat) : List Byte :=
  le 1 l.phase.code ++ le 1 l.width ++ le 1 cause ++ le 1 0 ++ le 8 l.peerId

/-- Enter a link state and raise LINK_STATE. -/
def State.linkPhase (s : State) (p : LinkPhase) (cause : Nat) : State :=
  let s := s.modLink fun l => { l with phase := p, cause := cause, width := if p = .up then l.width else 0 }
  s.raise uLink 0x0505 (s.fabric.link.fields cause)

/-- Begin training (R306): every lane takes part again (R308). -/
def State.train (s : State) (cause : Nat) : State :=
  (s.modLink fun l => { l with trainingSince := some s.time, replay := [], waiting := [], txSeq := 0, rxSeq := 255, unacked := 0,
                               resent := 0, excluded := 0, laneRetrains := Bank.empty, checkTimes := [], ctlSeq := 0,
                               downAt := none }).linkPhase .training cause

/-- Retrain a trained link; the replay buffer stays (R307). -/
def State.retrain (s : State) (cause : Nat) : State :=
  if s.fabric.link.phase = .up then
    (s.modLink fun l => { l with trainingSince := some s.time, retrains := l.retrains + 1 }).linkPhase .retraining cause
  else s

/-- Every CASCADE channel is reset as RESET_CH does (R190). -/
def State.resetCascade (s : State) : State :=
  (List.range 64).foldl (fun s n => if (s.chan n).path == .cascade then s.resetChannel n stRestarted else s) s

/-- The stream from the peer that a link stream number names. -/
def State.peerStream (s : State) (k : Nat) : Option (Nat × Stream) :=
  s.fabric.streams.entries.find? fun e => e.2.linkNo == some k && e.2.producer.peer

/-- Messages partly received from the peer are discarded and count as dropped (R281). -/
def State.dropPartials (s : State) : State :=
  let ks := s.fabric.link.partials.keys
  ks.foldl (fun s k =>
    match s.peerStream k with
    | some (no, _) => s.dropAll no
    | none => s) (s.modLink fun l => { l with partials := Bank.empty, ctlIn := [] })

/-- The link goes down: endpoints on the peer's side become absent, CASCADE channels are reset and their path is lost (R190, R309, R334). -/
def State.linkDown (s : State) (p : LinkPhase) (cause : Nat) : State :=
  let reqs := s.fabric.link.requests
  let s := (s.modLink fun l =>
    { l with downs := l.downs + 1, trainingSince := none, requests := [], downAt := some s.time }).linkPhase p cause
  let s := reqs.foldl (fun s q => s.complete uLink 0x0505 (s.fabric.link.fields cause) q false true) s
  ((s.dropPartials.endpointsAbsent (·.peer) 3).resetCascade).losePath .cascade none

/-- Acknowledged flits leave the replay buffer (R304). -/
def Link.acknowledge (l : Link) (seq : Nat) : Link × List LinkFlit :=
  match l.replay.findIdx? fun f => f.linkSeq == seq with
  | some i => ({ l with replay := l.replay.drop (i + 1), resent := 0 }, l.replay.take (i + 1))
  | none => (l, [])

/-- A flit acknowledged by the peer has arrived at its consumers there, ABORT flits apart. -/
def State.ackFlit (s : State) (f : LinkFlit) : State :=
  match s.fabric.streams.entries.find? fun e => e.2.linkNo == some f.stream && !e.2.producer.peer with
  | some e =>
    if bit f.flags 2 then s
    else
      let s := s.modStream e.1 fun x =>
        { x with consumers := x.consumers.mapAll fun _ c => if c.ep.peer then c.acked f.msgSeq.toNat else c }
      let s := (e.2.consumers.entries.filter fun c => c.2.ep.peer).foldl (fun s c => s.finishDetach e.1 c.1) s
      s.finishDrain e.1
  | none => s

/-- Flits acknowledged by the peer: they leave the replay buffer, and what waited for room goes (R304). -/
def State.acknowledge (s : State) (seq : Nat) : State :=
  let (l, gone) := s.fabric.link.acknowledge seq
  let s := (s.modLink fun _ => l).modLink Link.flush
  let s := (gone.filter fun f => f.kind == 0).foldl State.ackFlit s
  s.fabric.streams.entries.foldl (fun s e => if e.2.linkNo.isSome && !e.2.producer.peer then s.pump e.1 else s) s

/-- Resend everything after a LINK_SEQ, in order: go-back-N (R304). The fourth resending of one flit retrains (R307). -/
def State.goBack (s : State) (seq : Nat) : State :=
  let s := s.acknowledge seq
  if s.fabric.link.replay.isEmpty then s
  else
    let s := s.modLink fun l => { l with wire := l.wire ++ l.replay, replays := l.replays + 1, resent := l.resent + 1 }
    if s.fabric.link.resent ≥ 4 then s.retrain 4 else s

/-- Send an ACK naming the last LINK_SEQ received in order (R304). -/
def State.sendAck (s : State) : State :=
  s.modLink fun l => { l with wire := l.wire ++ [controlFlit 3 0 (le 1 l.rxSeq)], unacked := 0 }

/-- Send a NAK naming the last good LINK_SEQ (R304). -/
def State.sendNak (s : State) : State :=
  s.modLink fun l => { l with wire := l.wire ++ [controlFlit 4 0 (le 1 l.rxSeq)], unacked := 0 }

/-- Flits of the pool that no consumer has reserved (R284). -/
def State.poolFree (s : State) : Nat :=
  49152 - (s.fabric.streams.entries.map fun e => e.2.consumers.entries.length * e.2.credits).sum

/-- The link is switched off, or on: training starts where the peer is present (R306, R315). -/
def State.enableLink (s : State) (on : Bool) : State :=
  if on then
    if s.fabric.link.phase != .disabled then s
    else if s.fabric.link.present then s.train 1
    else s.modLink fun l => { l with phase := .absent }
  else
    match s.fabric.link.phase with
    | .disabled => s
    | .absent => s.modLink fun l => { l with phase := .disabled }
    | _ => s.linkDown .disabled 5

end Sys2Proof.Machine
end

