-- ==== Sys2Proof/Machine/BusOps.lean ====
section
/-! DEFINITION. The message bus controllers' operations (19): states, filtering, queues, transmit objects, address claim and
the transport protocols. -/

namespace Sys2Proof.Machine

/-- Controller `n`. -/
def State.bus (s : State) (n : Nat) : BusController := s.buses.rd n BusController.reset

/-- Change controller `n`. -/
def State.modBus (s : State) (n : Nat) (f : BusController → BusController) : State :=
  { s with buses := s.buses.upd n BusController.reset f }

/-! ### Configuration (R645) -/

/-- BUS_CONFIG as shipped: OFF at 250 kbit/s, classical only, AUTO_RECOVER set. -/
def shippedBus : List Byte := le 2 0 ++ le 1 8 ++ le 1 0 ++ le 2 2 ++ le 2 127 ++ le 1 32 ++ le 1 32 ++ List.replicate 18 0

/-- BUS_CONFIG in force. -/
def BusController.config (b : BusController) : List Byte := if b.cfg = [] then shippedBus else b.cfg

/-- Nominal bit rate, kbit/s, from the 80 MHz clock of R620. -/
def BusController.nominalKbps (b : BusController) : Nat :=
  80000 / (field b.config 4 2 * (1 + field b.config 6 2 + field b.config 8 1))

/-- A bit of FLAGS. -/
def BusController.flag (b : BusController) (i : Nat) : Bool := bit (field b.config 2 1) i
/-- TERM. -/
def BusController.term (b : BusController) : Bool := b.flag 0
/-- LISTEN_ONLY. -/
def BusController.listenOnly (b : BusController) : Bool := b.flag 1
/-- RESTRICTED. -/
def BusController.restricted (b : BusController) : Bool := b.flag 2
/-- AUTO_RECOVER. -/
def BusController.autoRecover (b : BusController) : Bool := b.flag 3
/-- BUSOFF_ABANDON. -/
def BusController.offAbandon (b : BusController) : Bool := b.flag 4
/-- COMPAT. -/
def BusController.compat (b : BusController) : Bool := b.flag 7

/-- The controller takes part in the bus. -/
def BusController.active (b : BusController) : Bool := b.state == .errorActive || b.state == .errorPassive

/-! ### States (R617, R638, R653) -/

/-- WARNING: TEC or REC at 96 or more (R617). -/
def BusController.warning (b : BusController) : Bool := b.tec ≥ 96 || b.rec_ ≥ 96

/-- FLAGS of BUS_STATUS (R651). -/
def BusController.statusFlags (b : BusController) : Nat :=
  bitsOf [b.warning, b.suspended, b.compat, b.termOn, b.listenOnly, b.restricted]

/-- BUS_STATE. -/
def State.busEvent (s : State) (n old cause : Nat) : State :=
  let b := s.bus n
  s.raise (uMb n) 0x4001 (le 1 n ++ le 1 old ++ le 1 b.state.code ++ le 1 b.statusFlags ++ le 1 (min 255 b.tec) ++
    le 1 (min 255 b.rec_) ++ le 1 b.lec ++ le 1 cause)

/-- Change a controller's counters or state; BUS_STATE follows every change of the state and of the warning flag (R638). -/
def State.busTo (s : State) (n cause : Nat) (f : BusController → BusController) : State :=
  let old := s.bus n
  let s := s.modBus n f
  if (s.bus n).state != old.state || (s.bus n).warning != old.warning then s.busEvent n old.state.code cause else s

/-! ### Receive queues (R628–R631) -/

/-- Queue `q`. -/
def BusController.queue (b : BusController) (q : Nat) : RxQueue := b.queues.rd q RxQueue.reset

/-- Change queue `q` of a controller. -/
def State.modQueue (s : State) (n q : Nat) (f : RxQueue → RxQueue) : State :=
  s.modBus n fun b => { b with queues := b.queues.upd q RxQueue.reset f }

/-- A receive record (R631). -/
def rxRecord (time id format flags filter gen sdt af vcid dlc : Nat) (data : List Byte) : List Byte :=
  le 8 time ++ le 4 id ++ le 1 format ++ le 1 flags ++ le 2 data.length ++ le 2 filter ++ le 1 gen ++ le 1 sdt ++ le 4 af ++
    le 1 vcid ++ le 1 dlc ++ le 2 0 ++ data ++ List.replicate ((4 - data.length % 4) % 4) 0

/-- Present the first `k` records of a stream queue as one message (R630). -/
def State.presentBatch (s : State) (n q k : Nat) : State :=
  let x := (s.bus n).queue q
  match x.records with
  | [] => s
  | first :: _ =>
    let rest := x.records.drop k
    let s := s.modQueue n q fun x => { x with records := rest, firstAt := if rest = [] then none else some s.time }
    s.present (uMb n) (1 + q) { time := first.1, marks := 0, body := ((x.records.take k).map (·.2)).flatten }

/-- A stream queue with a stream on its port presents what is due (R630). -/
def State.batch (s : State) (n q : Nat) : State :=
  let x := (s.bus n).queue q
  if x.stream && (s.producedBy (uMb n) (1 + q)).isSome && x.records != [] then
    if x.batchUs = 0 then s.presentBatch n q 1
    else if x.records.length ≥ x.batchMax then s.presentBatch n q x.batchMax
    else s
  else s

/-- QUEUE_OVERFLOW, at the first overflow and then at most once per 100 ms (R629). -/
def State.overflow (s : State) (n q : Nat) : State :=
  let s := (s.modQueue n q fun x => { x with overflows := x.overflows + 1 }).count (uMb n) 21
  let x := (s.bus n).queue q
  if (x.toldAt.map fun t => decide (t + 100 * ms ≤ s.time)).getD true then
    (s.modQueue n q fun x => { x with toldAt := some s.time }).raise (uMb n) 0x4003
      (le 1 n ++ le 1 q ++ le 2 0 ++ le 4 x.overflows.toNat)
  else s

/-- Store a record of `len` data bytes in a queue (R628–R630). -/
def State.store (s : State) (n q time len : Nat) (rec : List Byte) : State :=
  let x := (s.bus n).queue q
  if len > x.maxData then s.count (uMb n) 20
  else
    let put := fun (s : State) =>
      let add := fun (x : RxQueue) =>
        { x with records := x.records ++ [(time, rec)], firstAt := some (x.firstAt.getD s.time) }
      ((s.modQueue n q add).count (uMb n) 18).batch n q
    if x.records.length < x.depth then put s
    else if x.dropOld then put ((s.modQueue n q fun x => { x with records := x.records.drop 1 }).overflow n q)
    else s.overflow n q

/-! ### Acceptance filtering (R623–R627) -/

/-- The identifier compared: 29 or 11 bits, 11 for XL. -/
def canIdent (f : CanFrame) : Nat := if f.format = 2 || !bit f.id 29 then f.id % 2 ^ 11 else f.id % 2 ^ 29

/-- An element matches a frame (R624, R647). -/
def FilterElement.hits (e : FilterElement) (f : CanFrame) : Bool :=
  let kind := field e.bytes 0 1
  let formats := field e.bytes 1 1
  let id1 := field e.bytes 4 4
  let id2 := field e.bytes 8 4
  let vcid := field e.bytes 12 1
  let sdt := field e.bytes 13 1
  let id := canIdent f
  bit formats f.format &&
    (if f.format = 2 then (vcid == 0xFF || vcid == f.vcid) && (sdt == 0xFF || sdt == f.sdt)
     else bit formats 3 == bit f.id 29) &&
    (if kind = 1 then id1 ≤ id && id ≤ id2
     else if kind = 2 then id == id1 || id == id2
     else kind == 3 && (id &&& id2) == (id1 &&& id2))

/-- The decision of a NATIVE list: action, FILTER and GEN (R624, R625). -/
def BusController.native (b : BusController) (f : CanFrame) : Nat × Nat × Nat :=
  match b.filters.entries.find? fun e => e.1 < b.count && e.2.hits f with
  | some e => (field e.2.bytes 2 1, e.1, e.2.gen)
  | none => (b.dflt, 0xFFFF, b.dfltGen)

/-- The decision of the pairs of COMPAT mode (R627). -/
def BusController.byPairs (b : BusController) (f : CanFrame) : Nat × Nat × Nat :=
  let hit := fun (p : CompatPair) =>
    let m := if bit p.mask 29 then p.mask % 2 ^ 30 else p.mask % 2 ^ 29
    ((f.id % 2 ^ 30) &&& m) == (p.match_ &&& m)
  match b.pairs.zipIdx.find? fun p => hit p.1 with
  | some p => (p.1.target + 1, 0x8000 + p.2, b.pairGens.rd p.2 0)
  | none => (0, 0xFFFF, 0)

/-- Decide a frame's fate and store or reject it (R623–R629); `own` marks a frame looped back (R636). -/
def State.filterFrame (s : State) (n : Nat) (f : CanFrame) (own : Bool) : State :=
  let b := s.bus n
  if b.compat && f.format = 2 then (s.count (uMb n) 32).count (uMb n) 19
  else
    let (action, filter, gen) := if b.compat then b.byPairs f else b.native f
    if action = 0 then s.count (uMb n) 19
    else
      let flags := f.flags % 8 + 8 * Sys2Proof.flag own
      let xl := f.format == 2
      s.store n (action - 1) f.sof f.data.length
        (rxRecord f.sof f.id f.format flags filter gen (if xl then f.sdt else 0) (if xl then f.af else 0)
          (if xl then f.vcid else 0) (if xl then 0 else f.dlc) f.data)

/-! ### Transmit objects (R632–R637) -/

/-- Object `k`. -/
def BusController.object (b : BusController) (k : Nat) : TxObject := b.objects.rd k TxObject.reset

/-- Write object `k` of a controller; an empty one is forgotten. -/
def State.setObject (s : State) (n k : Nat) (o : TxObject) : State :=
  s.modBus n fun b => { b with objects := if o = TxObject.reset then b.objects.erase k else b.objects.put k o }

/-- TX_RESULT of a host object (R636, R653). -/
def State.txResult (s : State) (n k result cause : Nat) (c : TxContent) : State :=
  let s := if result = 1 then s.count (uMb n) 29 else if result = 2 then s.count (uMb n) 30 else s
  if k < 56 then
    s.raise (uMb n) 0x4002 (le 1 n ++ le 1 k ++ le 1 result ++ le 1 cause ++ le 4 c.tag ++ le 8 c.lastSof ++
      le 1 (min 255 c.attempts) ++ le 3 0)
  else s

/-- The object as a write leaves it: pending at NOT_BEFORE (R633). -/
def written (c : TxContent) (now : Nat) : TxObject := { content := some c, pending := decide (c.notBefore ≤ now), deferred := .none }

/-- Order of contention: identifiers as they stand in arbitration (R633). -/
def arbKey (f : CanFrame) : Nat :=
  if f.format = 2 || !bit f.id 29 then f.id % 2 ^ 11 * 2 ^ 19
  else f.id % 2 ^ 29 / 2 ^ 18 * 2 ^ 19 + 2 ^ 18 + f.id % 2 ^ 18

/-- The pending object that contends next (R633). -/
def BusController.contender (b : BusController) : Option Nat :=
  let l := b.objects.entries.filter fun e => e.2.pending && e.2.content.isSome
  let key := fun (o : TxObject) => (o.content.map fun c => arbKey c.frame).getD 0
  (l.foldl (fun (best : Option (Nat × TxObject)) e =>
    match best with
    | none => some e
    | some x => if key e.2 < key x.2 then some e else some x) none).map (·.1)

/-- Frames of the module's own services take the objects 56–63 that are empty (R632). -/
def State.fillService (s : State) (n : Nat) : State :=
  [56, 57, 58, 59, 60, 61, 62, 63].foldl (fun s k =>
    match (s.bus n).service with
    | c :: rest =>
      if ((s.bus n).object k).content.isNone then
        (s.modBus n fun b => { b with service := rest }).setObject n k (written c s.time)
      else s
    | [] => s) s

/-- An attempt begins as soon as an object is pending and none is in one (assumption 22). -/
def State.contend (s : State) (n : Nat) : State :=
  let s := s.fillService n
  let b := s.bus n
  if b.active && b.attempt.isNone && !b.restricted && b.stopping.isNone && !s.fenced (uMb n) then
    s.modBus n fun b => { b with attempt := b.contender }
  else s

/-- A frame of the module's own services, classical or FD by `format`; bit 29 of `id` marks a 29-bit identifier. -/
def State.busSendId (s : State) (n : Nat) (id tag format : Nat) (data : List Byte) : State :=
  let dlc := if format = 0 then data.length
    else (([0, 1, 2, 3, 4, 5, 6, 7, 8, 12, 16, 20, 24, 32, 48, 64] : List Nat).findIdx? fun l => data.length ≤ l).getD 15
  let f : CanFrame := { sof := 0, id := id, format := format, flags := 0, dlc := dlc, sdt := 0, vcid := 0, af := 0, data := data }
  let c : TxContent := { tag := tag, notify := false, retries := none, notBefore := 0, frame := f, attempts := 0, lastSof := 0 }
  (s.modBus n fun b => { b with service := b.service ++ [c] }).contend n

/-- A frame of the module's own services with a 29-bit identifier. -/
def State.busSend (s : State) (n : Nat) (id tag format : Nat) (data : List Byte) : State :=
  s.busSendId n (id % 2 ^ 29 + 2 ^ 29) tag format data

/-- Every pending object is abandoned with a cause (R618, R637). -/
def State.abandonAll (s : State) (n cause : Nat) : State :=
  (s.bus n).objects.entries.foldl (fun s e =>
    match e.2.content with
    | some c => if e.2.pending then (s.txResult n e.1 2 cause c).setObject n e.1 TxObject.reset else s
    | none => s) s

/-- A controller stops now: its pending objects are abandoned, and it goes OFF (R618, R637). -/
def State.busStop (s : State) (n cause : Nat) : State :=
  let s := s.abandonAll n cause
  let s := s.modBus n fun b => { b with stopping := none, attempt := none, service := [] }
  s.busTo n (if cause = 3 then 3 else 0) fun b => { b with state := .off, tec := 0, rec_ := 0, suspended := false }

/-- Stop at the end of the frame in progress (R618, R637). -/
def State.busHalt (s : State) (n cause : Nat) : State :=
  if (s.bus n).state = .off then s
  else if (s.bus n).attempt.isSome && (s.bus n).active then s.modBus n fun b => { b with stopping := some cause }
  else s.busStop n cause

/-- Start through INTEGRATING (R617, R646). -/
def State.busStart (s : State) (n cause : Nat) : State :=
  if (s.bus n).state = .off then
    s.busTo n cause fun b => { b with termOn := b.term, state := .integrating, tec := 0, rec_ := 0, lec := 0, busOffAt := [] }
  else s

/-! ### Address claim (R641) -/

/-- Control function `i`. -/
def BusController.cf (b : BusController) (i : Nat) : ControlFunction := b.cfs.rd i ControlFunction.reset

/-- Change control function `i` of a controller. -/
def State.modCf (s : State) (n i : Nat) (f : ControlFunction → ControlFunction) : State :=
  s.modBus n fun b => { b with cfs := b.cfs.upd i ControlFunction.reset f }

/-- ADDRESS_STATE; it completes a CF_CLAIM where the claim has come to an end (R641, R652). -/
def State.addressEvent (s : State) (n i rival : Nat) : State :=
  let c := (s.bus n).cf i
  let f := le 1 n ++ le 1 i ++ le 1 c.state.code ++ le 1 c.address ++ le 8 rival
  let ended := c.state == .claimed || c.state == .cannot || c.state == .released
  match c.req, ended with
  | some q, true => (s.modCf n i fun c => { c with req := none }).complete (uMb n) 0x4004 f q false (c.state == .cannot)
  | _, _ => s.raise (uMb n) 0x4004 f

/-- 29-bit identifier of a PGN from an address: PDU1 PGNs carry the destination (assumption 23). -/
def j1939Id (prio pgn dest source : Nat) : Nat :=
  let pf := pgn / 256 % 256
  let ps := if pf < 240 then dest else pgn % 256
  prio * 2 ^ 26 + pgn / 65536 % 4 * 2 ^ 24 + pf * 65536 + ps * 256 + source

/-- Send the address-claimed message of a CF: cannot-claim from address 254 (R641; assumption 23). -/
def State.sendClaim (s : State) (n i : Nat) : State :=
  let c := (s.bus n).cf i
  s.busSend n (j1939Id 6 0xEE00 255 c.address) 0 0 c.name

/-- Claim an address. -/
def State.claimAddress (s : State) (n i a : Nat) : State :=
  let s := s.modCf n i fun c => { c with state := .claiming, address := a, due := some (s.time + 250 * ms) }
  (s.addressEvent n i 0).sendClaim n i

/-- NAME as a number, and its arbitrary-address bit. -/
def nameOf (name : List Byte) : Nat := leNat name

/-- The lowest free address in the range of a CF: held by none of the controller's CFs and heard from no other. -/
def BusController.freeAddress (b : BusController) (c : ControlFunction) : Option Nat :=
  let used := fun a => (b.cfs.entries.any fun e => e.2.address == a && (e.2.state == .claimed || e.2.state == .claiming)) ||
    b.claims.any fun x => x.1 == a
  ((List.range 254).filter fun a => inRange a c.rangeLo c.rangeHi).find? fun a => !used a

/-- A CF loses its address to a NAME of higher priority (R641). -/
def State.loseAddress (s : State) (n i rival : Nat) : State :=
  let s := s.modCf n i fun c => { c with state := .lost, address := 254, due := none }
  let s := s.addressEvent n i rival
  let c := (s.bus n).cf i
  match (if bit (nameOf c.name) 63 then (s.bus n).freeAddress c else none) with
  | some a => s.claimAddress n i a
  | none =>
    let s := s.modCf n i fun c => { c with state := .cannot, address := 254, due := none }
    (s.addressEvent n i rival).sendClaim n i

/-- An address-claimed message from another control function (R641): contention, from which the 250 ms run anew. -/
def State.heardClaim (s : State) (n source : Nat) (data : List Byte) : State :=
  let name := nameOf (data.take 8)
  let s := if source < 254 then
      s.modBus n fun b => { b with claims := (b.claims.filter fun x => x.1 != source && x.2 != name) ++ [(source, name)] }
    else s.modBus n fun b => { b with claims := b.claims.filter fun x => x.2 != name }
  [0, 1, 2, 3].foldl (fun s i =>
    let c := (s.bus n).cf i
    if c.address = source && source < 254 && (c.state == .claiming || c.state == .claimed) then
      if name < nameOf c.name then s.loseAddress n i name
      else (s.modCf n i fun c => { c with due := c.due.map fun _ => s.time + 250 * ms }).sendClaim n i
    else s) s

/-- A request for address claimed: every CF it addresses answers (R641). -/
def State.heardRequest (s : State) (n dest : Nat) : State :=
  [0, 1, 2, 3].foldl (fun s i =>
    let c := (s.bus n).cf i
    if c.state == .released || c.state == .lost then s
    else if dest = 255 || dest = c.address then s.sendClaim n i
    else s) s

/-- Every CF claims again after a pass through INTEGRATING (R641). -/
def State.claimAgain (s : State) (n : Nat) : State :=
  [0, 1, 2, 3].foldl (fun s i =>
    let c := (s.bus n).cf i
    if c.profile = 0 then s
    else s.claimAddress n i (if c.address < 254 then c.address else c.preferred)) s

/-- What the services take from a received frame: address claims and requests for them (R641). -/
def State.serviceFrame (s : State) (n : Nat) (f : CanFrame) : State :=
  if f.format != 0 || !bit f.id 29 then s
  else
    let pf := f.id / 65536 % 256
    let dest := f.id / 256 % 256
    if pf = 0xEE then s.heardClaim n (f.id % 256) f.data
    else if pf = 0xEA && field f.data 0 3 == 0xEE00 then s.heardRequest n dest
    else s

/-! ### Transport (R642–R644) -/

/-- The number of packets of 7 bytes. -/
def packetsOf (len : Nat) : Nat := divUp len 7

/-- Packet `k` (from 1) of a message, as the data of a DT frame with sequence number `seq`. -/
def dtData (data : List Byte) (k seq : Nat) : List Byte :=
  let part := (data.drop (7 * (k - 1))).take 7
  le 1 seq ++ part ++ List.replicate (7 - part.length) 0xFF

/-- TRANSPORT_DONE (R642, R653). -/
def State.transportDone (s : State) (n : Nat) (x : TxSession) (result reason sent : Nat) : State :=
  (s.modBus n fun b => { b with outgoing := b.outgoing.filter fun y => y.session != x.session }).complete (uMb n) 0x4005
    (le 1 n ++ le 1 x.cf ++ le 1 result ++ le 1 reason ++ le 4 x.pgn ++ le 4 sent ++ le 2 x.session ++ le 2 0) x.req false
    (result != 0)

/-- A connection management frame of a session of ours, or an answer of ours to a peer: TP or ETP (assumption 23). -/
def State.sendCm (s : State) (n source dest : Nat) (etp : Bool) (data : List Byte) : State :=
  s.busSend n (j1939Id 7 (if etp then 0xC800 else 0xEC00) dest source) 0 0 data

/-- A data frame of a session; `tag` marks the frame that ends it. -/
def State.sendDt (s : State) (n source dest tag : Nat) (etp : Bool) (data : List Byte) : State :=
  s.busSend n (j1939Id 7 (if etp then 0xC700 else 0xEB00) dest source) tag 0 data

/-- Tag that ends a session when its frame has been sent. -/
def sessionTag (session : Nat) : Nat := 0x100000000 + session

/-- Change an outgoing session. -/
def State.modOutgoing (s : State) (n session : Nat) (f : TxSession → TxSession) : State :=
  s.modBus n fun b => { b with outgoing := mapIf (fun x => x.session == session) f b.outgoing }

/-- Tag of the SYNC frame with a SEQ (R459). -/
def syncTag (seq : Nat) : Nat := 2 ^ 40 + seq

/-- A frame of the module's services has been sent: a SYNC is followed by its FOLLOW_UP (R459), and a session may end (R642). -/
def State.serviceSent (s : State) (n : Nat) (c : TxContent) : State :=
  if 2 ^ 40 ≤ c.tag then s.busSendId n c.frame.id 0 0 (le 1 (c.tag - 2 ^ 40) ++ le 7 c.lastSof)
  else match (s.bus n).outgoing.find? fun x => sessionTag x.session == c.tag with
  | some x => s.transportDone n x 0 0 x.data.length
  | none => s

/-- Send packets `first` to `first + k − 1` of an outgoing session; the data frames count from 1 in each ETP window. -/
def State.sendPackets (s : State) (n : Nat) (x : TxSession) (first k : Nat) : State :=
  let a := ((s.bus n).cf x.cf).address
  let etp := x.proto == .etp
  let s := (List.range k).foldl (fun s i =>
    s.sendDt n a x.dest 0 etp (dtData x.data (first + i) (if etp then i + 1 else (first + i) % 256))) s
  s.modOutgoing n x.session fun x => { x with sent := min x.data.length (7 * (first + k - 1)), last := s.time }

/-- A CF holds the address. -/
def BusController.cfAt (b : BusController) (a : Nat) : Option Nat :=
  [0, 1, 2, 3].find? fun i => (b.cf i).address == a && (b.cf i).state == .claimed

/-- The CF whose queue takes a message for an address: CF 0 for a global one (R643). -/
def BusController.cfFor (b : BusController) (dest : Nat) : Option Nat := if dest = 255 then some 0 else b.cfAt dest

/-- Room for a message in the queue of the CF that takes it (R643). -/
def BusController.fits (b : BusController) (dest len : Nat) : Bool :=
  (b.cfFor dest).any fun i => len ≤ (b.queue (b.cf i).rxQueue).maxData

/-- Take an incoming session out. -/
def State.dropIncoming (s : State) (n session : Nat) : State :=
  s.modBus n fun b => { b with incoming := b.incoming.filter fun x => x.session != session }

/-- Change an incoming session. -/
def State.modIncoming (s : State) (n session : Nat) (f : RxSession → RxSession) : State :=
  s.modBus n fun b => { b with incoming := mapIf (fun x => x.session == session) f b.incoming }

/-- Clear the next packets of a session with a CTS (assumption 23). -/
def State.sendCts (s : State) (n session : Nat) : State :=
  match (s.bus n).incoming.find? fun x => x.session == session with
  | none => s
  | some x =>
    let k := min 255 (packetsOf x.length - (x.next - 1))
    if x.proto = .etp then
      s.sendCm n x.dest x.source true (le 1 21 ++ le 1 k ++ le 3 x.next ++ le 3 x.pgn)
    else
      (s.modIncoming n session fun x => { x with offset := x.next - 1 + k, accepting := true }).sendCm n x.dest x.source false
        (le 1 17 ++ le 1 k ++ le 1 x.next ++ le 2 0xFFFF ++ le 3 x.pgn)

/-- A message is announced: a session with the same identity ends, one too long is refused (R643, R644). -/
def State.announce (s : State) (n source dest pgn len : Nat) (proto : Transport) : State :=
  let s := s.modBus n fun b =>
    { b with incoming := b.incoming.filter fun x => !(x.source == source && x.dest == dest && x.pgn == pgn) }
  if !(s.bus n).fits dest len then
    let s := s.count (uMb n) 20
    if proto = .bam then s
    else s.sendCm n dest source (proto == .etp) (le 1 255 ++ le 1 2 ++ le 3 0xFFFFFF ++ le 3 pgn)
  else
    let k := (s.bus n).nextSession
    let x : RxSession :=
      { session := k, source := source, dest := dest, pgn := pgn, proto := proto, length := len, next := 1,
        offset := if proto = .bam then packetsOf len else 0, accepting := proto == .bam, data := [], last := s.time }
    let s := s.modBus n fun b => { b with incoming := b.incoming ++ [x], nextSession := (k + 1) % 65536 }
    if proto = .bam then s else s.sendCts n k

/-- A whole message goes to its queue as a record (R643). -/
def State.storeMessage (s : State) (n prio : Nat) (x : RxSession) (sof : Nat) : State :=
  match (s.bus n).cfFor x.dest with
  | none => s
  | some i =>
    let data := x.data.take x.length
    let id := j1939Id prio x.pgn x.dest x.source + 2 ^ 29
    s.store n ((s.bus n).cf i).rxQueue sof data.length
      (rxRecord sof id 3 (16 * Sys2Proof.flag (x.proto == .etp)) 0xFFFE 0 0 x.session 0 0 data)

/-- A data packet for an incoming session (R644). -/
def State.takePacket (s : State) (n : Nat) (f : CanFrame) (etp : Bool) (source dest : Nat) : State :=
  match (s.bus n).incoming.find? fun x => x.source == source && x.dest == dest && (x.proto == .etp) == etp with
  | none => s.count (uMb n) 31
  | some x =>
    let seq := field f.data 0 1
    let k := if etp then x.offset + seq else seq
    if !x.accepting || k != x.next || (!etp && x.next > x.offset) then s.count (uMb n) 31
    else
      let s := s.modIncoming n x.session fun x =>
        { x with data := x.data ++ (f.data.drop 1).take 7, next := x.next + 1, last := s.time }
      let x := { x with data := x.data ++ (f.data.drop 1).take 7, next := x.next + 1 }
      let total := packetsOf x.length
      if x.next > total then
        let s := (s.dropIncoming n x.session).storeMessage n (f.id / 2 ^ 26 % 8) x f.sof
        if x.proto = .bam then s
        else if etp then s.sendCm n dest source true (le 1 23 ++ le 4 x.length ++ le 3 x.pgn)
        else s.sendCm n dest source false (le 1 19 ++ le 2 x.length ++ le 1 total ++ le 1 0xFF ++ le 3 x.pgn)
      else if etp then (if seq = 255 then s.sendCts n x.session else s)
      else if x.next > x.offset then s.sendCts n x.session
      else s

/-- A CTS, acknowledgement or abort for an outgoing session of ours (R642). -/
def State.takeAnswer (s : State) (n : Nat) (d : List Byte) (etp : Bool) (source dest : Nat) : State :=
  let b := s.bus n
  let pgn := field d 5 3
  let mine := fun (x : TxSession) =>
    x.dest == source && (b.cf x.cf).address == dest && x.pgn == pgn && (if etp then x.proto == .etp else x.proto == .rtsCts)
  match b.outgoing.find? mine with
  | none => s
  | some x =>
    let op := field d 0 1
    let k := field d 1 1
    let total := packetsOf x.data.length
    let a := (b.cf x.cf).address
    if op = 255 then s.transportDone n x 1 k x.acked
    else if op = 19 || op = 23 then s.transportDone n x 0 0 x.data.length
    else if op = 17 then
      let first := field d 2 1
      if k = 0 || !inRange first 1 total then s.modOutgoing n x.session fun x => { x with last := s.time }
      else
        let s := s.modOutgoing n x.session fun x => { x with acked := min x.data.length (7 * (first - 1)), last := s.time }
        s.sendPackets n x first (min k (total + 1 - first))
    else if op = 21 then
      let first := field d 2 3
      let m := min k (total + 1 - first)
      if m = 0 || first = 0 then s.modOutgoing n x.session fun x => { x with last := s.time }
      else
        let s := s.modOutgoing n x.session fun x => { x with acked := min x.data.length (7 * (first - 1)), last := s.time }
        (s.sendCm n a x.dest true (le 1 22 ++ le 1 m ++ le 3 (first - 1) ++ le 3 x.pgn)).sendPackets n x first m
    else s

/-- A TP or ETP frame: for a CF of the controller, or global (R643). -/
def State.transportFrame (s : State) (n : Nat) (f : CanFrame) : State :=
  let pf := f.id / 65536 % 256
  let dest := f.id / 256 % 256
  let source := f.id % 256
  let d := f.data
  let op := field d 0 1
  let pgn := field d 5 3
  let ours := (s.bus n).cfAt dest |>.isSome
  if !(bit f.id 29) || !(ours || dest == 255) then s
  else if pf = 0xEB then s.takePacket n f false source dest
  else if pf = 0xC7 then s.takePacket n f true source dest
  else if pf = 0xEC then
    if op = 16 && ours then s.announce n source dest pgn (field d 1 2) .rtsCts
    else if op = 32 && dest == 255 then s.announce n source dest pgn (field d 1 2) .bam
    else if op = 255 then
      (s.modBus n fun b => { b with incoming := b.incoming.filter fun x =>
        !(x.source == source && x.dest == dest && x.pgn == pgn && x.proto == .rtsCts) }).takeAnswer n d false source dest
    else s.takeAnswer n d false source dest
  else if pf = 0xC8 then
    if op = 20 && ours then s.announce n source dest pgn (field d 1 4) .etp
    else if op = 22 then
      let mine := fun (x : RxSession) => x.source == source && x.dest == dest && x.pgn == pgn && x.proto == .etp
      let clear := fun (x : RxSession) => { x with accepting := true, offset := field d 2 3, last := s.time }
      s.modBus n fun b => { b with incoming := mapIf mine clear b.incoming }
    else if op = 255 then
      (s.modBus n fun b => { b with incoming := b.incoming.filter fun x =>
        !(x.source == source && x.dest == dest && x.pgn == pgn && x.proto == .etp) }).takeAnswer n d true source dest
    else s.takeAnswer n d true source dest
  else s

/-! ### Resets and rungs (R618) -/

/-- NET resets: every controller goes passive, its queue contents, objects and sessions are lost; requests whose completion is
due end as the sessions would, by a timeout, and claims as released (assumption 24). -/
def State.busReset (s : State) (n : Nat) : State :=
  let b := s.bus n
  let s := b.outgoing.foldl (fun s x => s.transportDone n x 2 0 x.acked) s
  let s := [0, 1, 2, 3].foldl (fun s i =>
    match (s.bus n).cf i |>.req with
    | some _ => (s.modCf n i fun c => { c with state := .released, address := 254, due := none }).addressEvent n i 0
    | none => s) s
  s.modBus n fun b =>
    { b with termOn := false, state := .off, tec := 0, rec_ := 0, lec := 0, suspended := false, attempt := none, stopping := none, service := [],
             objects := Bank.empty, outgoing := [], incoming := [], busOffAt := [],
             busOffs := 0,
             queues := b.queues.mapAll fun _ q => { q with records := [], overflows := 0, firstAt := none } }

/-- Controllers that were running start again, with a cause (R618). -/
def State.busesStart (s : State) (cause : Nat) : State :=
  (List.range 12).foldl (fun s n => if (s.bus n).running && s.unitUp (uMb n) then s.busStart n cause else s) s

end Sys2Proof.Machine
end

