-- ==== Sys2Proof/Machine/ExecBus.lean ====
section
/-! DEFINITION. The Message bus family and the controllers' events (19). -/

namespace Sys2Proof.Machine

/-- CONTROLLER names a controller. -/
def busOk (r : Request) : Bool := r.u 0 1 ≤ 11

/-- The unit a request addresses. -/
def busUnit (r : Request) : Nat := uMb (min 11 (r.u 0 1))

/-! ### Configuration and control (R621, R645, R646) -/

/-- Bit time of a phase in mtq (R620). -/
def bitTime (brp t1 t2 : Nat) : Nat := brp * (1 + t1 + t2)

/-- BUS_CONFIG lies outside R621 or its table. -/
def busConfigBad (r : Request) : Bool :=
  let fd := bit (r.u 1 1) 0
  let xl := bit (r.u 1 1) 1
  let n := bitTime (r.u 4 2) (r.u 6 2) (r.u 8 1)
  let d := bitTime (r.u 10 1) (r.u 11 1) (r.u 12 1)
  let x := bitTime (r.u 16 1) (r.u 17 1) (r.u 18 1)
  !busOk r || r.u 1 1 > 3 || !r.zero 3 1 || !r.zero 26 2 || r.u 24 2 > 10000 ||
    !inRange (r.u 4 2) 1 512 || !inRange (r.u 6 2) 2 256 || !inRange (r.u 8 1) 1 128 || !inRange (r.u 9 1) 1 (r.u 8 1) ||
    n > 8000 || n < 80 ||
    (fd && (!inRange (r.u 10 1) 1 32 || !inRange (r.u 11 1) 1 32 || !inRange (r.u 12 1) 1 16 ||
      !inRange (r.u 13 1) 1 (r.u 12 1) || r.u 14 1 > 127 || r.u 15 1 > 127 || d < 10 || d > n ||
      (d < 80 && !bit (r.u 2 1) 5))) ||
    (xl && (r.u 0 1 < 8 || !inRange (r.u 16 1) 1 32 || !inRange (r.u 17 1) 1 32 || !inRange (r.u 18 1) 1 16 ||
      !inRange (r.u 19 1) 1 (r.u 18 1) || r.u 20 1 > 127 || x < 4 || x > n ||
      !inRange (r.u 21 1) 1 63 || !inRange (r.u 22 1) 1 63 || r.u 23 1 > 63))

/-- The controller a request names is not OFF (R645). -/
def State.busOn (s : State) (r : Request) : Bool := busOk r && (s.bus (r.u 0 1)).state != .off

/-- Refusals of BUS_CONFIG. -/
def checksBusConfig (r : Request) (s : State) : List (Bool × Status) :=
  [(s.busOn r, .busyId), (busConfigBad r, .badParam)]

/-- Effect of BUS_CONFIG. -/
def doneBusConfig (r : Request) (s : State) : State :=
  answer opBusConfig (busUnit r) r [] (s.modBus (r.u 0 1) fun b => { b with cfg := r.payload, termOn := bit (field r.payload 2 1) 0 })

/-- BUS_CONFIG (R621, R645). -/
def execBusConfig (r : Request) (s : State) : Out :=
  serve opBusConfig (busUnit r) r s (checksBusConfig r) (doneBusConfig r)

/-- Enter BUS_OFF recovery (R639, R640). -/
def State.busRecover (s : State) (n cause : Nat) : State :=
  s.busTo n cause fun b => { b with state := .recovering, suspended := false }

/-- Refusals of BUS_CONTROL. -/
def checksBusControl (r : Request) (s : State) : List (Bool × Status) :=
  let n := r.u 0 1
  let a := r.u 1 1
  [(busOk r && a == 2 && (s.bus n).state != .busOff, .wrongMode), (!busOk r || a > 2 || !r.zero 2 2, .badParam)]

/-- Effect of BUS_CONTROL. -/
def doneBusControl (r : Request) (s : State) : State :=
  let n := r.u 0 1
  let a := r.u 1 1
  let s :=
    if a = 0 then (s.modBus n fun b => { b with running := false }).busHalt n 4
    else if a = 1 then (s.modBus n fun b => { b with running := true }).busStart n 0
    else s.busRecover n 0
  answer opBusControl (busUnit r) r [] s

/-- BUS_CONTROL (R637, R639, R640, R646). -/
def execBusControl (r : Request) (s : State) : Out :=
  serve opBusControl (busUnit r) r s (checksBusControl r) (doneBusControl r)

/-! ### Filters (R624–R627, R647, R648) -/

/-- Element `i` of FILTER_SET. -/
def filterAt (r : Request) (i : Nat) : List Byte := r.bytes (8 + 16 * i) 16

/-- An element's bytes lie outside R647. -/
def elementBad (e : List Byte) : Bool :=
  field e 0 1 > 3 || field e 1 1 > 15 || field e 2 1 > 4 || field e 3 1 != 0 || field e 14 2 != 0

/-- FILTER_SET lies outside R647. -/
def filterBad (r : Request) : Bool :=
  let n := r.u 4 2
  !busOk r || (r.u 1 1 > 4 && r.u 1 1 != 0xFF) || r.u 2 2 > 1023 || n > 254 || r.u 2 2 + n > 1024 ||
    (r.u 6 2 > 1024 && r.u 6 2 != 0xFFFF) || r.len != 8 + 16 * n || (List.range n).any fun i => elementBad (filterAt r i)

/-- Refusals of FILTER_SET. -/
def checksFilterSet (r : Request) (s : State) : List (Bool × Status) :=
  let n := r.u 0 1
  [(busOk r && (s.bus n).compat, .wrongMode), (filterBad r, .badParam)]

/-- Effect of FILTER_SET. -/
def doneFilterSet (r : Request) (s : State) : State :=
  let n := r.u 0 1
  let first := r.u 2 2
  let k := r.u 4 2
  let put := fun (b : Bank FilterElement) i => b.upd (first + i) FilterElement.reset fun e =>
    { bytes := filterAt r i, gen := (e.gen + 1) % 256 }
  let dflt := r.u 1 1
  let s := s.modBus n fun b =>
    { b with filters := (List.range k).foldl put b.filters,
             count := if r.u 6 2 = 0xFFFF then b.count else r.u 6 2,
             dflt := if dflt = 0xFF then b.dflt else dflt,
             dfltGen := if dflt = 0xFF then b.dfltGen else (b.dfltGen + 1) % 256 }
  let b := s.bus n
  let gens := (List.range k).map fun i => (b.filters.rd (first + i) FilterElement.reset).gen
  answer opFilterSet (busUnit r) r (le 1 b.dfltGen ++ le 1 k ++ le 2 0 ++ (gens.map fun g => le 1 g).flatten) s

/-- FILTER_SET: all its writes take effect together (R625, R626, R647). -/
def execFilterSet (r : Request) (s : State) : Out :=
  serve opFilterSet (busUnit r) r s (checksFilterSet r) (doneFilterSet r)

/-- Refusals of COMPAT_SET. -/
def checksCompatSet (r : Request) (s : State) : List (Bool × Status) :=
  let k := r.u 1 1
  let bad := !busOk r || k > 16 || !r.zero 2 2 || r.len != 4 + 12 * k ||
    (List.range k).any fun i => r.u (4 + 12 * i + 8) 1 > 1 || !r.zero (4 + 12 * i + 9) 3
  [(s.busOn r, .busyId), (bad, .badParam)]

/-- Effect of COMPAT_SET. -/
def doneCompatSet (r : Request) (s : State) : State :=
  let n := r.u 0 1
  let k := r.u 1 1
  let pair := fun i : Nat =>
    ({ mask := r.u (4 + 12 * i) 4, match_ := r.u (8 + 12 * i) 4, target := r.u (12 + 12 * i) 1 } : CompatPair)
  let s := s.modBus n fun b =>
    { b with pairs := (List.range k).map pair,
             pairGens := (List.range k).foldl (fun g i => g.upd i 0 fun x => (x + 1) % 256) b.pairGens }
  let gens := (List.range k).map fun i => (s.bus n).pairGens.rd i 0
  answer opCompatSet (busUnit r) r (le 1 k ++ le 3 0 ++ (gens.map fun g => le 1 g).flatten) s

/-- COMPAT_SET (R625, R627, R648). -/
def execCompatSet (r : Request) (s : State) : Out :=
  serve opCompatSet (busUnit r) r s (checksCompatSet r) (doneCompatSet r)

/-! ### Queues (R628–R631, R649, R650) -/

/-- Bytes of a queue (R628). -/
def queueBytes (depth maxData : Nat) : Nat := depth * (28 + (maxData + 3) / 4 * 4)

/-- QUEUE_CONFIG would take the four queues above 1 MB (R628). -/
def State.queuesFull (s : State) (r : Request) : Bool :=
  let b := s.bus (r.u 0 1)
  ([0, 1, 2, 3].map fun q =>
    if q = r.u 1 1 then queueBytes (r.u 4 2) (r.u 8 2) else queueBytes (b.queue q).depth (b.queue q).maxData).sum > 2 ^ 20

/-- Refusals of QUEUE_CONFIG. -/
def checksQueueConfig (r : Request) (s : State) : List (Bool × Status) :=
  let bad := !busOk r || r.u 1 1 > 3 || r.u 2 1 > 1 || r.u 3 1 > 1 || !inRange (r.u 4 2) 16 256 || r.u 6 2 > 10000 ||
    !inRange (r.u 10 1) 1 64 || !r.zero 11 1
  [(s.busOn r, .busyId), (bad, .badParam), (!bad && s.queuesFull r, .noSpace)]

/-- Effect of QUEUE_CONFIG. -/
def doneQueueConfig (r : Request) (s : State) : State :=
  let n := r.u 0 1
  answer opQueueConfig (busUnit r) r [] (s.modQueue n (r.u 1 1) fun q =>
      { q with dropOld := r.u 2 1 == 1, stream := r.u 3 1 == 1, depth := r.u 4 2, batchUs := r.u 6 2, maxData := r.u 8 2,
               batchMax := r.u 10 1, overflows := 0, toldAt := none })

/-- QUEUE_CONFIG (R628, R649). -/
def execQueueConfig (r : Request) (s : State) : Out :=
  serve opQueueConfig (busUnit r) r s (checksQueueConfig r) (doneQueueConfig r)

/-- The records that fit in `room` bytes, at most `k` of them. -/
def fitRecords : Nat → Nat → List (Nat × List Byte) → List (List Byte)
  | 0, _, _ => []
  | _, _, [] => []
  | k + 1, room, (_, b) :: l => if b.length ≤ room then b :: fitRecords k (room - b.length) l else []

/-- Refusals of RX_READ. -/
def checksRxRead (r : Request) (s : State) : List (Bool × Status) :=
  let n := r.u 0 1
  let q := r.u 1 1
  [(!busOk r || q > 3 || !inRange (r.u 2 2) 1 256 || ((s.bus n).queue q).stream, .badParam)]

/-- Effect of RX_READ. -/
def doneRxRead (r : Request) (s : State) : State :=
  let n := r.u 0 1
  let q := r.u 1 1
  let x := (s.bus n).queue q
  let out := fitRecords (r.u 2 2) 4072 x.records
  let rest := x.records.drop out.length
  let s := s.modQueue n q fun x => { x with records := rest, firstAt := if rest = [] then none else x.firstAt }
  answer opRxRead (busUnit r) r (le 2 out.length ++ le 2 rest.length ++ le 4 0 ++ out.flatten) s

/-- RX_READ (R650). -/
def execRxRead (r : Request) (s : State) : Out :=
  serve opRxRead (busUnit r) r s (checksRxRead r) (doneRxRead r)

/-! ### Transmit objects (R633–R636, R650, R651) -/

/-- Data bytes of an FD frame by its DLC. -/
def fdLength (dlc : Nat) : Nat := ([0, 1, 2, 3, 4, 5, 6, 7, 8, 12, 16, 20, 24, 32, 48, 64] : List Nat).getD dlc 0

/-- TX_WRITE lies outside its table or R651. -/
def State.txBad (s : State) (r : Request) : Bool :=
  let b := s.bus (r.u 0 1)
  let formats := field b.config 1 1
  let id := r.u 16 4
  let f := r.u 20 1
  let dlc := r.u 21 1
  let n := r.u 28 2
  let flags := r.u 2 1
  !busOk r || r.u 1 1 > 63 || flags > 15 || (r.u 3 1 > 15 && r.u 3 1 != 0xFF) || f > 2 || r.len != 32 + n || !r.zero 30 2 ||
    bit id 31 || (!bit id 29 && id % 2 ^ 29 > 0x7FF) || (bit id 30 && f != 0) || (f == 2 && bit id 29) ||
    (f == 1 && !bit formats 0) || (f == 2 && !bit formats 1) ||
    (if f = 0 then dlc > 15 || n != min dlc 8 || bit flags 1
     else if f = 1 then dlc > 15 || n != fdLength dlc
     else dlc != 0 || !inRange n 1 2048) ||
    (f != 2 && (bit flags 3 || r.u 22 1 != 0 || r.u 23 1 != 0 || r.u 24 4 != 0))

/-- The content of a TX_WRITE. -/
def txContent (r : Request) : TxContent :=
  { tag := r.u 4 4, notify := bit (r.u 2 1) 0, retries := if r.u 3 1 = 0xFF then none else some (r.u 3 1), notBefore := r.u 8 8,
    frame := { sof := 0, id := r.u 16 4, format := r.u 20 1, flags := r.u 2 1 / 2, dlc := r.u 21 1, sdt := r.u 22 1,
               vcid := r.u 23 1, af := r.u 24 4, data := r.payload.drop 32 },
    attempts := 0, lastSof := 0 }

/-- Replace or defer (R634): a deferred write replaced by a newer one is superseded too. -/
def State.txWrite (s : State) (n k : Nat) (c : TxContent) : State :=
  let o := (s.bus n).object k
  if (s.bus n).attempt = some k then
    let s := match o.deferred with
      | .write old => s.txResult n k 1 0 old
      | _ => s
    s.setObject n k { o with deferred := .write c }
  else
    let s := match o.content with
      | some old => s.txResult n k 1 0 old
      | none => s
    (s.setObject n k (written c s.time)).contend n

/-- Refusals of TX_WRITE. -/
def checksTxWrite (r : Request) (s : State) : List (Bool × Status) :=
  let n := r.u 0 1
  let k := r.u 1 1
  let shut := fun (s : State) =>
    busOk r && ((s.bus n).state == .off || (s.bus n).listenOnly || (s.bus n).restricted)
  [(shut s, .wrongMode), (busOk r && inRange k 56 63, .busyId), (s.txBad r, .badParam)]

/-- Effect of TX_WRITE. -/
def doneTxWrite (r : Request) (s : State) : State :=
  let n := r.u 0 1
  let k := r.u 1 1
  answer opTxWrite (busUnit r) r [] (s.txWrite n k (txContent r))

/-- TX_WRITE (R632–R634, R651). -/
def execTxWrite (r : Request) (s : State) : Out :=
  serve opTxWrite (busUnit r) r s (checksTxWrite r) (doneTxWrite r)

/-- Abort an object (R635). -/
def State.txAbort (s : State) (n k : Nat) : State :=
  let o := (s.bus n).object k
  match o.content with
  | none => s
  | some c =>
    if (s.bus n).attempt = some k then
      let s := match o.deferred with
        | .write new => s.txResult n k 3 0 new
        | _ => s
      s.setObject n k { o with deferred := .abort }
    else (s.txResult n k 3 0 c).setObject n k TxObject.reset

/-- Refusals of TX_ABORT. -/
def checksTxAbort (r : Request) (_s : State) : List (Bool × Status) :=
  let k := r.u 1 1
  [(busOk r && inRange k 56 63, .busyId), (!busOk r || k > 63 || !r.zero 2 2, .badParam)]

/-- Effect of TX_ABORT. -/
def doneTxAbort (r : Request) (s : State) : State :=
  let n := r.u 0 1
  let k := r.u 1 1
  answer opTxAbort (busUnit r) r [] (s.txAbort n k)

/-- TX_ABORT (R635, R651). -/
def execTxAbort (r : Request) (s : State) : Out :=
  serve opTxAbort (busUnit r) r s (checksTxAbort r) (doneTxAbort r)

/-- BUS_STATUS reply (R651); the bus load of the last second depends on bits that no command shows: a free value
(assumption 3). -/
def State.busReply (s : State) (n : Nat) : List Byte :=
  let b := s.bus n
  let pending := (b.objects.entries.map fun e => if e.2.pending then 2 ^ e.1 else 0).sum
  le 8 s.time ++ le 1 n ++ le 1 b.state.code ++ le 1 b.statusFlags ++ le 1 b.lec ++ le 1 (min 255 b.tec) ++
    le 1 (min 255 b.rec_) ++ le 1 b.tdc ++ le 1 0 ++ le 4 b.busOffs.toNat ++
    (([0, 1, 2, 3] : List Nat).map fun q => le 2 (b.queue q).records.length).flatten ++ le 8 pending ++
    le 2 ((Config.free 16 s.freeCount).toNat % 1001) ++ le 2 0

/-- Refusals of BUS_STATUS. -/
def checksBusStatus (r : Request) (_s : State) : List (Bool × Status) :=
  [(!busOk r || !r.zero 1 3, .badParam)]

/-- Effect of BUS_STATUS. -/
def doneBusStatus (r : Request) (s : State) : State :=
  answer opBusStatus (busUnit r) r (s.busReply (r.u 0 1)) (s.spend 1)

/-- BUS_STATUS (R651). -/
def execBusStatus (r : Request) (s : State) : Out :=
  serve opBusStatus (busUnit r) r s (checksBusStatus r) (doneBusStatus r)

/-! ### ISO 11783 and J1939 services (R641, R642, R652) -/

/-- CF_CLAIM lies outside R652. -/
def claimBad (r : Request) : Bool :=
  !busOk r || r.u 1 1 > 3 || r.u 2 1 > 2 || (r.u 2 1 != 0 && (r.u 3 1 > 253 || r.u 4 1 > r.u 5 1 || r.u 5 1 > 253)) ||
    r.u 6 1 > 3 || !r.zero 7 1 || !r.zero 16 4

/-- Refusals of CF_CLAIM. -/
def checksCfClaim (r : Request) (_s : State) : List (Bool × Status) :=
  [(claimBad r, .badParam)]

/-- Effect of CF_CLAIM. -/
def doneCfClaim (r : Request) (s : State) : State :=
  let n := r.u 0 1
  let i := r.u 1 1
  let q := s.requester opCfClaim r
  let s := s.accepted opCfClaim (busUnit r) r []
  let s := if ((s.bus n).cf i).req.isSome then
      (s.modCf n i fun c => { c with state := .released, address := 254, due := none }).addressEvent n i 0
    else s
  let c : ControlFunction :=
    { profile := r.u 2 1, preferred := r.u 3 1, rangeLo := r.u 4 1, rangeHi := r.u 5 1, rxQueue := r.u 6 1,
      name := r.bytes 8 8, state := .released, address := 254, due := none, req := some q }
  let s := s.modCf n i fun _ => if r.u 2 1 = 0 then { ControlFunction.reset with req := some q } else c
  if r.u 2 1 = 0 then s.addressEvent n i 0
  else if (s.bus n).active then s.claimAddress n i (r.u 3 1)
  else s

/-- CF_CLAIM (R641, R652): a claim is made at once on a running controller, and otherwise once it joins the bus. -/
def execCfClaim (r : Request) (s : State) : Out :=
  serve opCfClaim (busUnit r) r s (checksCfClaim r) (doneCfClaim r)

/-- PGN_SEND lies outside R642 or R652. -/
def State.pgnBad (s : State) (r : Request) : Bool :=
  let n := r.u 0 1
  let len := r.u 8 4
  let h := r.u 12 8
  !busOk r || r.u 1 1 > 3 || r.u 2 1 > 7 || r.u 4 4 > 0x3FFFF || len > 117440505 || !r.zero 28 4 ||
    (if h = 0 then len > 1785 || r.len != 32 + len
     else r.len != 32 || !s.mayName h r.ch || !s.lists h (uMb n) || (s.placement h).any fun p => r.u 20 8 + len > p.size) ||
    (len > 1785 && (((s.bus n).cf (r.u 1 1)).profile != 2 || r.u 3 1 == 255))

/-- Start an outgoing session (R642). -/
def State.startSend (s : State) (n : Nat) (x : TxSession) : State :=
  let a := ((s.bus n).cf x.cf).address
  let len := x.data.length
  let s := s.modBus n fun b => { b with outgoing := b.outgoing ++ [x], nextSession := (b.nextSession + 1) % 65536 }
  match x.proto with
  | .single => s.busSend n (j1939Id x.prio x.pgn x.dest a) (sessionTag x.session) 0 x.data
  | .bam => s.sendCm n a 255 false (le 1 32 ++ le 2 len ++ le 1 (packetsOf len) ++ le 1 0xFF ++ le 3 x.pgn)
  | .rtsCts => s.sendCm n a x.dest false (le 1 16 ++ le 2 len ++ le 1 (packetsOf len) ++ le 1 0xFF ++ le 3 x.pgn)
  | .etp => s.sendCm n a x.dest true (le 1 20 ++ le 4 len ++ le 3 x.pgn)

/-- Refusals of PGN_SEND. -/
def checksPgnSend (r : Request) (s : State) : List (Bool × Status) :=
  let n := r.u 0 1
  let i := r.u 1 1
  let dest := r.u 3 1
  let busy := fun (s : State) => busOk r && (s.bus n).outgoing.any fun x => x.cf == i && x.dest == dest
  [(busy s, .busyId), (s.pgnBad r, .badParam)]

/-- Effect of PGN_SEND. -/
def donePgnSend (r : Request) (s : State) : State :=
  let n := r.u 0 1
  let i := r.u 1 1
  let dest := r.u 3 1
  let q := s.requester opPgnSend r
  let s := s.accepted opPgnSend (busUnit r) r []
  let len := r.u 8 4
  let data := if r.u 12 8 = 0 then r.payload.drop 32 else s.readPlace (r.u 12 8) (r.u 20 8) len
  let x : TxSession :=
    { session := (s.bus n).nextSession, cf := i, prio := r.u 2 1, dest := dest, pgn := r.u 4 4,
      proto := if len ≤ 8 then .single else if len > 1785 then .etp else if dest = 255 then .bam else .rtsCts, data := data,
      req := q, sent := 0, acked := 0, last := s.time }
  if ((s.bus n).cf i).state != .claimed then s.transportDone n x 3 0 0
  else s.startSend n x

/-- PGN_SEND (R642, R652). -/
def execPgnSend (r : Request) (s : State) : Out :=
  serve opPgnSend (busUnit r) r s (checksPgnSend r) (donePgnSend r)

/-! ### Events -/

/-- REC after a frame received without error: down by 1, or to a value in 119–127 from above 127, as ISO 11898-1 leaves open
(R638; a free value, assumption 3). -/
def State.goodRx (s : State) (n : Nat) : State :=
  let b := s.bus n
  if b.rec_ > 127 then
    let k := s.freeCount
    (s.spend 1).busTo n 1 fun b =>
      { b with rec_ := 119 + (Config.free 8 k).toNat % 9, state := if b.tec > 127 then b.state else .errorActive }
  else s.busTo n 1 fun b => { b with rec_ := b.rec_ - 1 }

/-- When CAN_FRAME_RX has its effect. -/
def whenCanFrameRx (_t mb : Nat) (_f : CanFrame) (s : State) : Bool :=
  (s.bus mb).active && !s.fenced (uMb mb)

/-- Effect of CAN_FRAME_RX. -/
def doneCanFrameRx (_t mb : Nat) (f : CanFrame) (s : State) : State :=
  (((s.count (uMb mb) 16).goodRx mb).serviceFrame mb f).filterFrame mb f false

/-- CAN_FRAME_RX: a complete valid frame is counted, seen by the services and filtered (R623–R629, R641). -/
def execCanFrameRx (t mb : Nat) (f : CanFrame) (s : State) : Out :=
  valid (mb < 12) <| event t s (whenCanFrameRx t mb f) (doneCanFrameRx t mb f)

/-- When TX_NOT_BEFORE has its effect. -/
def whenTxNotBefore (_t mb obj : Nat) (s : State) : Bool :=
  let due := fun (s : State) =>
    let o := (s.bus mb).object obj
    !o.pending && (s.bus mb).state != .off && o.content.any fun c => c.notBefore ≤ s.time
  due s

/-- Effect of TX_NOT_BEFORE. -/
def doneTxNotBefore (_t mb obj : Nat) (s : State) : State :=
  (s.setObject mb obj { (s.bus mb).object obj with pending := true }).contend mb

/-- TX_NOT_BEFORE: an object reaches its NOT_BEFORE time (R633). -/
def execTxNotBefore (t mb obj : Nat) (s : State) : Out :=
  valid (mb < 12 && obj < 64) <| event t s (whenTxNotBefore t mb obj) (doneTxNotBefore t mb obj)

/-- An object after its attempt failed or lost: what was deferred takes its place (R634, R635). -/
def State.afterFailure (s : State) (n k : Nat) (o : TxObject) (c : TxContent) : State :=
  match o.deferred with
  | .write new => (s.txResult n k 1 0 c).setObject n k (written new s.time)
  | .abort => (s.txResult n k 3 0 c).setObject n k TxObject.reset
  | .none => s.setObject n k { o with content := some c }

/-- The attempt ended in an error, bus-off included (R633). -/
def attemptFailed : AttemptEnd → Bool
  | .error _ => true
  | _ => false

/-- When TX_ATTEMPT_END has its effect. -/
def whenTxAttemptEnd (_t mb _sof : Nat) (e : AttemptEnd) (s : State) : Bool :=
  (s.bus mb).attempt.isSome && ((s.bus mb).active || attemptFailed e)

/-- Effect of TX_ATTEMPT_END. -/
def doneTxAttemptEnd (_t mb sof : Nat) (e : AttemptEnd) (s : State) : State :=
  match (s.bus mb).attempt with
  | none => s
  | some k =>
    let o := (s.bus mb).object k
    let s := s.modBus mb fun b => { b with attempt := none }
    match o.content with
    | none => s.contend mb
    | some c =>
      let c := { c with attempts := c.attempts + 1, lastSof := sof }
      let s := match e with
        | .success =>
          let f := { c.frame with sof := sof }
          let k0 := s.freeCount
          let tdc := f.format == 1 && (s.bus mb).flag 5
          let s := if tdc then s.spend 1 else s
          let d := (Config.free 8 k0).toNat
          let s := s.busTo mb 1 fun b =>
            { b with tec := b.tec - 1, state := if b.tec = 128 && b.rec_ ≤ 127 then .errorActive else b.state,
                     tdc := if tdc && d ≥ field b.config 15 1 then d else b.tdc }
          let s := if (s.bus mb).listenOnly then s.filterFrame mb f true
            else s.modBus mb fun b => { b with wire := b.wire ++ [f] }
          let s := s.count (uMb mb) 17
          let s := if c.notify || o.deferred != TxDeferred.none then s.txResult mb k 0 0 c else s
          let s := match o.deferred with
            | .write new => s.setObject mb k (written new s.time)
            | _ => s.setObject mb k TxObject.reset
          if k ≥ 56 then s.serviceSent mb c else s
        | .lost => (s.count (uMb mb) 28).afterFailure mb k o c
        | .error _ =>
          if o.deferred != TxDeferred.none then s.afterFailure mb k o c
          else match c.retries with
            | some 0 => (s.txResult mb k 2 1 c).setObject mb k TxObject.reset
            | some (n + 1) => s.setObject mb k { o with content := some { c with retries := some n } }
            | none => s.setObject mb k { o with content := some c }
      match (s.bus mb).stopping with
      | some cause => s.busStop mb cause
      | none => s.contend mb

/-- TX_ATTEMPT_END: the attempt in progress succeeds, loses arbitration or ends in an error (R633–R637). -/
def execTxAttemptEnd (t mb sof : Nat) (e : AttemptEnd) (s : State) : Out :=
  valid (mb < 12) <| event t s (whenTxAttemptEnd t mb sof e) (doneTxAttemptEnd t mb sof e)

/-- Entry to BUS_OFF (R637, R640, R642). An attempt that it cuts off ends, as an error, by its own TX_ATTEMPT_END (R633). -/
def State.busOffEntry (s : State) (n : Nat) : State :=
  let b := s.bus n
  let times := s.time :: b.busOffAt.filter fun x => s.time < x + 10 * sec
  let s := (s.modBus n fun b =>
    { b with busOffAt := times, busOffs := b.busOffs + 1, suspended := decide (times.length ≥ 8) }).count (uMb n) 27
  let s := if b.offAbandon then (s.abandonAll n 2).modBus n fun b => { b with attempt := none } else s
  b.outgoing.foldl (fun s x => s.transportDone n x 4 0 x.acked) s

/-- Diagnostics counter of an error code (R654). -/
def lecCounter (lec : Nat) : Nat :=
  if lec = 1 then 22 else if lec = 2 then 23 else if lec = 3 then 24 else if lec = 4 || lec = 5 then 25 else 26

/-- When BUS_ERROR has its effect. -/
def whenBusError (_t mb : Nat) (_transmit : Bool) (lec inc : Nat) (s : State) : Bool :=
  (s.bus mb).active && inRange lec 1 6 && [0, 1, 8].contains inc

/-- Effect of BUS_ERROR. -/
def doneBusError (_t mb : Nat) (transmit : Bool) (lec inc : Nat) (s : State) : State :=
  let s := s.count (uMb mb) (lecCounter lec)
  let b := s.bus mb
  let tec := if transmit then b.tec + inc else b.tec
  let rec_ := if transmit then b.rec_ else b.rec_ + inc
  let st := if tec > 255 then BusState.busOff else if tec > 127 || rec_ > 127 then .errorPassive else .errorActive
  let s := if st = .busOff then s.busOffEntry mb else s
  s.busTo mb 1 fun b => { b with tec := tec, rec_ := rec_, lec := lec, state := st }

/-- BUS_ERROR: an error raises TEC or REC by the amount ISO 11898-1 gives it, and may change the state (R638, R640). -/
def execBusError (t mb : Nat) (transmit : Bool) (lec inc : Nat) (s : State) : Out :=
  valid (mb < 12) <| event t s (whenBusError t mb transmit lec inc) (doneBusError t mb transmit lec inc)

/-- When BUS_OFF_DELAY_EXPIRY has its effect. -/
def whenBusOffDelayExpiry (_t mb : Nat) (s : State) : Bool :=
  let due := fun (s : State) =>
    let b := s.bus mb
    b.state == .busOff && b.autoRecover && !b.suspended &&
      b.busOffAt.head?.any fun x => x + field b.config 24 2 * ms ≤ s.time
  due s

/-- Effect of BUS_OFF_DELAY_EXPIRY. -/
def doneBusOffDelayExpiry (_t mb : Nat) (s : State) : State :=
  s.busRecover mb 1

/-- BUS_OFF_DELAY_EXPIRY: automatic recovery begins AUTO_DELAY_MS after bus-off (R639, R640). -/
def execBusOffDelayExpiry (t mb : Nat) (s : State) : Out :=
  valid (mb < 12) <| event t s (whenBusOffDelayExpiry t mb) (doneBusOffDelayExpiry t mb)

/-- When RECOVERY_COMPLETE has its effect. -/
def whenRecoveryComplete (_t mb : Nat) (s : State) : Bool :=
  (s.bus mb).state == .recovering

/-- Effect of RECOVERY_COMPLETE. -/
def doneRecoveryComplete (_t mb : Nat) (s : State) : State :=
  (s.busTo mb 2 fun b => { b with state := .errorActive, tec := 0, rec_ := 0 }).contend mb

/-- RECOVERY_COMPLETE: 128 occurrences of 11 recessive bits (R639). -/
def execRecoveryComplete (t mb : Nat) (s : State) : Out :=
  valid (mb < 12) <| event t s (whenRecoveryComplete t mb) (doneRecoveryComplete t mb)

/-- When BUS_INTEGRATED has its effect. -/
def whenBusIntegrated (_t mb : Nat) (s : State) : Bool :=
  (s.bus mb).state == .integrating

/-- Effect of BUS_INTEGRATED. -/
def doneBusIntegrated (_t mb : Nat) (s : State) : State :=
  ((s.busTo mb 0 fun b => { b with state := .errorActive }).claimAgain mb).contend mb

/-- BUS_INTEGRATED: 11 recessive bits; the controller joins the bus, and its CFs claim (R617, R641). -/
def execBusIntegrated (t mb : Nat) (s : State) : Out :=
  valid (mb < 12) <| event t s (whenBusIntegrated t mb) (doneBusIntegrated t mb)

/-- When QUEUE_BATCH_TIMEOUT has its effect. -/
def whenQueueBatchTimeout (_t mb queue : Nat) (s : State) : Bool :=
  let due := fun (s : State) =>
    let x := (s.bus mb).queue queue
    x.stream && (s.producedBy (uMb mb) (1 + queue)).isSome && x.firstAt.any fun a => a + x.batchUs * us ≤ s.time
  due s

/-- Effect of QUEUE_BATCH_TIMEOUT. -/
def doneQueueBatchTimeout (_t mb queue : Nat) (s : State) : State :=
  s.presentBatch mb queue (max 1 (if ((s.bus mb).queue queue).batchUs = 0 then 1 else ((s.bus mb).queue queue).batchMax))

/-- QUEUE_BATCH_TIMEOUT: BATCH_US after the first held frame (R630). -/
def execQueueBatchTimeout (t mb queue : Nat) (s : State) : Out :=
  valid (mb < 12 && queue < 4) <| event t s (whenQueueBatchTimeout t mb queue) (doneQueueBatchTimeout t mb queue)

/-- When ADDRESS_CLAIM_TIMER has its effect. -/
def whenAddressClaimTimer (_t mb cf : Nat) (s : State) : Bool :=
  let due := fun (s : State) =>
    let c := (s.bus mb).cf cf
    c.state == .claiming && c.due.any fun d => d ≤ s.time
  due s

/-- Effect of ADDRESS_CLAIM_TIMER. -/
def doneAddressClaimTimer (_t mb cf : Nat) (s : State) : State :=
  let due := fun (s : State) =>
    let c := (s.bus mb).cf cf
    c.state == .claiming && c.due.any fun d => d ≤ s.time
  (s.modCf mb cf fun c => { c with state := .claimed, due := none }).addressEvent mb cf 0

/-- ADDRESS_CLAIM_TIMER: a claim stands after 250 ms without contention (R641). -/
def execAddressClaimTimer (t mb cf : Nat) (s : State) : Out :=
  valid (mb < 12 && cf < 4) <| event t s (whenAddressClaimTimer t mb cf) (doneAddressClaimTimer t mb cf)

/-- When TRANSPORT_PACKET_RX has its effect. -/
def whenTransportPacketRx (_t mb : Nat) (_f : CanFrame) (s : State) : Bool :=
  (s.bus mb).active && !s.fenced (uMb mb)

/-- Effect of TRANSPORT_PACKET_RX. -/
def doneTransportPacketRx (_t mb : Nat) (f : CanFrame) (s : State) : State :=
  s.transportFrame mb f

/-- TRANSPORT_PACKET_RX: a TP or ETP frame is taken into its session (R643, R644). -/
def execTransportPacketRx (t mb : Nat) (f : CanFrame) (s : State) : Out :=
  valid (mb < 12) <| event t s (whenTransportPacketRx t mb f) (doneTransportPacketRx t mb f)

/-- Timeout of a session's peer, ns (R642; assumption 23). -/
def rxTimeout (x : RxSession) : Nat := if x.proto = .bam || x.data != [] then 750 * ms else 1250 * ms

/-- When TRANSPORT_TIMEOUT has its effect. -/
def whenTransportTimeout (_t mb session : Nat) (s : State) : Bool :=
  let out := fun (s : State) => (s.bus mb).outgoing.find? fun x =>
    x.session == session && (x.proto == .rtsCts || x.proto == .etp) && x.last + 1250 * ms ≤ s.time
  let inc := fun (s : State) => (s.bus mb).incoming.find? fun x => x.session == session && x.last + rxTimeout x ≤ s.time
  (out s).isSome || (inc s).isSome

/-- Effect of TRANSPORT_TIMEOUT. -/
def doneTransportTimeout (_t mb session : Nat) (s : State) : State :=
  let out := fun (s : State) => (s.bus mb).outgoing.find? fun x =>
    x.session == session && (x.proto == .rtsCts || x.proto == .etp) && x.last + 1250 * ms ≤ s.time
  let inc := fun (s : State) => (s.bus mb).incoming.find? fun x => x.session == session && x.last + rxTimeout x ≤ s.time
  match out s, inc s with
  | some x, _ =>
    (s.sendCm mb ((s.bus mb).cf x.cf).address x.dest (x.proto == .etp)
      (le 1 255 ++ le 1 3 ++ le 3 0xFFFFFF ++ le 3 x.pgn)).transportDone mb x 2 0 x.acked
  | none, some x =>
    let s := s.dropIncoming mb x.session
    if x.proto = .bam then s
    else s.sendCm mb x.dest x.source (x.proto == .etp) (le 1 255 ++ le 1 3 ++ le 3 0xFFFFFF ++ le 3 x.pgn)
  | none, none => s

/-- TRANSPORT_TIMEOUT: a transport timeout ends a session (R642). -/
def execTransportTimeout (t mb session : Nat) (s : State) : Out :=
  valid (mb < 12) <| event t s (whenTransportTimeout t mb session) (doneTransportTimeout t mb session)

/-- When BAM_PACKET_TIMER has its effect. -/
def whenBamPacketTimer (_t mb session : Nat) (s : State) : Bool :=
  let find := fun (s : State) => (s.bus mb).outgoing.find? fun x =>
    x.session == session && x.proto == .bam && x.sent < x.data.length && x.last + 50 * ms ≤ s.time
  (find s).isSome

/-- Effect of BAM_PACKET_TIMER. -/
def doneBamPacketTimer (_t mb session : Nat) (s : State) : State :=
  let find := fun (s : State) => (s.bus mb).outgoing.find? fun x =>
    x.session == session && x.proto == .bam && x.sent < x.data.length && x.last + 50 * ms ≤ s.time
  match find s with
  | some x =>
    let k := x.sent / 7 + 1
    let ends := k = packetsOf x.data.length
    let a := ((s.bus mb).cf x.cf).address
    let s := s.modOutgoing mb session fun x => { x with sent := min x.data.length (7 * k), last := s.time }
    s.sendDt mb a 255 (if ends then sessionTag session else 0) false (dtData x.data k k)
  | none => s

/-- BAM_PACKET_TIMER: the next BAM packet, 50 ms after the one before (R642). -/
def execBamPacketTimer (t mb session : Nat) (s : State) : Out :=
  valid (mb < 12) <| event t s (whenBamPacketTimer t mb session) (doneBamPacketTimer t mb session)

end Sys2Proof.Machine
end

