-- ==== Sys2Proof/Machine/ImageOps.lean ====
section
/-! DEFINITION. What a pipeline computes from the lines of a frame: the stages of R569, the taps of R573 and the presentation
streams of R575. -/

namespace Sys2Proof.Machine

/-- A mosaic: rows of 16-bit values. -/
abbrev Mosaic := List (List Nat)

/-- An image of red, green and blue 16-bit values. -/
abbrev Rgb := List (List (Nat × Nat × Nat))

/-- clamp() of R569. -/
def clamp16 (x : Int) : Nat := if x < 0 then 0 else min 65535 x.toNat

/-! ### Data types (R563) -/

/-- A RAW data type. -/
def isRaw (dt : Nat) : Bool := inRange dt 0x2A 0x2E

/-- Depth of a RAW data type. -/
def rawDepth (dt : Nat) : Nat := 8 + 2 * (dt - 0x2A)

/-- Bytes of `n` pixels in the CSI-2 packing of a data type. -/
def packedBytes (dt n : Nat) : Nat :=
  if dt = 0x1E then 2 * n else if dt = 0x24 then 3 * n else divUp (n * rawDepth dt) 8

/-- Byte `i` of a line. -/
def byteAt (l : List Byte) (i : Nat) : Nat := (l.getD i 0).toNat

/-- Pixel `x` of a RAW line in its CSI-2 packing (assumption 17). -/
def rawPixel (dt : Nat) (l : List Byte) (x : Nat) : Nat :=
  if dt = 0x2A then byteAt l x
  else if dt = 0x2B then byteAt l (x / 4 * 5 + x % 4) * 4 + byteAt l (x / 4 * 5 + 4) / 4 ^ (x % 4) % 4
  else if dt = 0x2C then byteAt l (x / 2 * 3 + x % 2) * 16 + byteAt l (x / 2 * 3 + 2) / 16 ^ (x % 2) % 16
  else if dt = 0x2D then
    let o := x / 4 * 7
    let low := byteAt l (o + 4) + 256 * byteAt l (o + 5) + 65536 * byteAt l (o + 6)
    byteAt l (o + x % 4) * 64 + low / 64 ^ (x % 4) % 64
  else byteAt l (2 * x) * 256 + byteAt l (2 * x + 1)

/-- Components of pixel `x` of an RGB888 line (assumption 17) or a YUV422 line (R569). -/
def colourPixel (dt : Nat) (l : List Byte) (x : Nat) : Nat × Nat × Nat :=
  if dt = 0x24 then (byteAt l (3 * x + 2) * 257, byteAt l (3 * x + 1) * 257, byteAt l (3 * x) * 257)
  else
    let o := x / 2 * 4
    let c := Config.yuvToRgb (l.getD (o + 1 + 2 * (x % 2)) 0) (l.getD o 0) (l.getD (o + 2) 0)
    (c.1.toNat, c.2.1.toNat, c.2.2.toNat)

/-! ### The stages (R569–R572) -/

/-- Phase of a site under a BAYER pattern: 0 R, 1 G on an R row, 2 G on a B row, 3 B (R569, R570). -/
def phaseOf (bayer x y : Nat) : Nat :=
  let p := x % 2 + 2 * (y % 2)
  if bayer = 1 then p
  else if bayer = 2 then [1, 0, 3, 2].getD p 0
  else if bayer = 3 then [2, 3, 0, 1].getD p 0
  else if bayer = 4 then [3, 2, 1, 0].getD p 0
  else 0

/-- Reflection about an edge without repeating it (R572). -/
def reflect (n : Nat) (i : Int) : Nat :=
  let j := if i < 0 then -i else if (n : Int) ≤ i then 2 * ((n : Int) - 1) - i else i
  if j < 0 then 0 else min (n - 1) j.toNat

/-- Site of a mosaic, beyond its edges by reflection. -/
def site (m : Mosaic) (x y : Int) : Nat :=
  let row := m.getD (reflect m.length y) []
  row.getD (reflect row.length x) 0

/-- Apply a function to every site. -/
def mapSites (m : Mosaic) (f : Nat → Nat → Nat → Nat) : Mosaic :=
  m.zipIdx.map fun r => r.1.zipIdx.map fun v => f v.2 r.2 v.1

/-- The parameter block of a stage as shipped, and whether it is bypassed (R569). Each constant stands once here. -/
def toneEntry (i : Nat) : Nat :=
  let ok := fun n => (2 * n - 1) ^ 11 * 1024 ^ 5 ≤ 2 ^ 11 * 65535 ^ 11 * i ^ 5
  (List.range 17).foldr (fun b n => if ok (n + 2 ^ b) && n + 2 ^ b ≤ 65535 then n + 2 ^ b else n) 0

/-- Stage parameters as shipped (R569). -/
def shippedStage (stage : Nat) : StageParam :=
  if stage = 2 then { bypass := false, block := List.replicate 8 0 }
  else if stage = 3 then { bypass := false, block := le 2 4096 ++ le 2 0 }
  else if stage = 4 then { bypass := true, block := (List.replicate 1156 (le 2 16384)).flatten }
  else if stage = 5 then { bypass := false, block := (List.replicate 4 (le 2 16384)).flatten }
  else if stage = 6 then { bypass := false, block := le 2 512 ++ le 2 0 }
  else if stage = 7 then
    { bypass := false, block := le 2 4096 ++ le 6 0 ++ le 2 4096 ++ le 6 0 ++ le 2 4096 ++ le 6 0 }
  else { bypass := false, block := ((List.range 1025).map fun i => le 2 (toneEntry i)).flatten }

/-- The parameters of a stage in force. -/
def stageOf (b : Bank StageParam) (stage : Nat) : StageParam :=
  match b.find stage with
  | some p => p
  | none => shippedStage stage

/-- BLACK (R569). -/
def blackAt (p : StageParam) (phase v : Nat) : Nat :=
  let bl := field p.block (2 * phase) 2
  if v < bl then 0 else clamp16 (((v - bl) * 65535 + (65535 - bl) / 2 : Nat) / (65535 - bl : Nat) : Int)

/-- DEFECT at a site: its value, and whether it was replaced (R569); beyond the edges by reflection (assumption 18). -/
def defectAt (m : Mosaic) (thresh x y v : Nat) : Nat × Bool :=
  let at_ := fun (dx dy : Int) => site m (x + dx) (y + dy)
  let n8 := [at_ (-2) (-2), at_ 0 (-2), at_ 2 (-2), at_ (-2) 0, at_ 2 0, at_ (-2) 2, at_ 0 2, at_ 2 2]
  let hi := n8.foldl max 0
  let lo := n8.foldl min 65535
  if v > hi + thresh || v + thresh < lo then ((at_ (-2) 0 + at_ 2 0 + at_ 0 (-2) + at_ 0 2 + 2) / 4, true) else (v, false)

/-- LSC gain of a phase at a site of a WIDTH × HEIGHT frame: bilinear between the nodes (R569; assumption 18). -/
def lscGain (p : StageParam) (phase w h x y : Nat) : Nat :=
  let i := min 15 (x * 16 / (w - 1))
  let j := min 15 (y * 16 / (h - 1))
  let fx := x * 16 - i * (w - 1)
  let fy := y * 16 - j * (h - 1)
  let g := fun i j => field p.block (2 * (289 * phase + 17 * j + i)) 2
  (g i j * (w - 1 - fx) * (h - 1 - fy) + g (i + 1) j * fx * (h - 1 - fy) + g i (j + 1) * (w - 1 - fx) * fy +
    g (i + 1) (j + 1) * fx * fy) / ((w - 1) * (h - 1))

/-- A gain in Q2.14 (R569). -/
def gain14 (v g : Nat) : Nat := min 65535 ((v * g + 8192) / 16384)

/-- Green at a site (R572). -/
def greenAt (m : Mosaic) (bayer edge : Nat) (x y : Int) : Nat :=
  let v := fun (dx dy : Int) => (site m (x + dx) (y + dy) : Int)
  let rx := reflect ((m.getD 0 []).length) x
  let ry := reflect m.length y
  let ph := phaseOf bayer rx ry
  if ph = 1 || ph = 2 then site m x y
  else
    let gh := (v (-1) 0 + v 1 0 + 1) / 2 + (2 * v 0 0 - v (-2) 0 - v 2 0) / 4
    let gv := (v 0 (-1) + v 0 1 + 1) / 2 + (2 * v 0 0 - v 0 (-2) - v 0 2) / 4
    let dh := (v (-1) 0 - v 1 0).natAbs + (2 * v 0 0 - v (-2) 0 - v 2 0).natAbs
    let dv := (v 0 (-1) - v 0 1).natAbs + (2 * v 0 0 - v 0 (-2) - v 0 2).natAbs
    if dh + edge < dv then clamp16 gh
    else if dv + edge < dh then clamp16 gv
    else clamp16 ((gh + gv + 1) / 2)

/-- DEMOSAIC at a site: red, green, blue (R570, R572). `g` is the green plane. -/
def demosaicAt (m g : Mosaic) (bayer x y : Nat) : Nat × Nat × Nat :=
  let v := site m x y
  if bayer = 0 then (v, v, v)
  else
    let gr : Int := site g x y
    let d := fun (dx dy : Int) => (site m (x + dx) (y + dy) : Int) - site g (x + dx) (y + dy)
    let horizontal := clamp16 (gr + (d (-1) 0 + d 1 0 + 1) / 2)
    let vertical := clamp16 (gr + (d 0 (-1) + d 0 1 + 1) / 2)
    let diagonal := clamp16 (gr + (d (-1) (-1) + d 1 (-1) + d (-1) 1 + d 1 1 + 2) / 4)
    match phaseOf bayer x y with
    | 0 => (v, site g x y, diagonal)
    | 1 => (horizontal, v, vertical)
    | 2 => (vertical, v, horizontal)
    | _ => (diagonal, site g x y, v)

/-- CCM (R569). -/
def ccmAt (p : StageParam) (c : Nat × Nat × Nat) : Nat × Nat × Nat :=
  let k := fun i => fieldInt p.block (2 * i) 2
  let f := fun i => clamp16 ((k (3 * i) * c.1 + k (3 * i + 1) * c.2.1 + k (3 * i + 2) * c.2.2 + 2048) / 4096 + k (9 + i))
  (f 0, f 1, f 2)

/-- TONE of one channel (R569). -/
def toneOf (p : StageParam) (x : Nat) : Nat :=
  let a : Int := field p.block (2 * (x / 64)) 2
  let b : Int := field p.block (2 * (x / 64) + 2) 2
  clamp16 (a + ((b - a) * (x % 64 : Nat) + 32) / 64)

/-- A frame as the pipeline has it at its tap points (R573). -/
structure Planes where
  /-- after WB; empty for a camera without a mosaic -/
  mosaic : Mosaic
  /-- after CCM -/
  linear : Rgb
  /-- after TONE -/
  tone : Rgb
  /-- pixels replaced by DEFECT -/
  replaced : Nat

/-- Take every line of a frame through the stages (R569–R572). `cfg` is PORT_CONFIG. -/
def process (cfg : List Byte) (stages : Bank StageParam) (lines : List (List Byte)) : Planes :=
  let dt := field cfg 4 1
  let bayer := field cfg 5 1
  let w := field cfg 10 2
  let h := field cfg 12 2
  let st := stageOf stages
  let finish := fun (mosaic : Mosaic) (rgb : Rgb) (n : Nat) =>
    let linear := if (st 7).bypass then rgb else rgb.map fun r => r.map (ccmAt (st 7))
    let tone := if (st 8).bypass then linear
      else linear.map fun r => r.map fun c => (toneOf (st 8) c.1, toneOf (st 8) c.2.1, toneOf (st 8) c.2.2)
    { mosaic := mosaic, linear := linear, tone := tone, replaced := n : Planes }
  if isRaw dt then
    let n := rawDepth dt
    let m : Mosaic := lines.map fun l => (List.range w).map fun x => rawPixel dt l x * 2 ^ (16 - n)
    let m := if (st 2).bypass then m else mapSites m fun x y v => blackAt (st 2) (phaseOf bayer x y) v
    let thresh := field (st 3).block 0 2
    let hit := if (st 3).bypass then 0
      else (m.zipIdx.map fun r => (r.1.zipIdx.filter fun v => (defectAt m thresh v.2 r.2 v.1).2).length).sum
    let m := if (st 3).bypass then m else mapSites m fun x y v => (defectAt m thresh x y v).1
    let m := if (st 4).bypass then m else mapSites m fun x y v => gain14 v (lscGain (st 4) (phaseOf bayer x y) w h x y)
    let m := if (st 5).bypass then m else mapSites m fun x y v => gain14 v (field (st 5).block (2 * phaseOf bayer x y) 2)
    let g := mapSites m fun x y _ => greenAt m bayer (field (st 6).block 0 2) x y
    finish m (m.zipIdx.map fun r => r.1.zipIdx.map fun v => demosaicAt m g bayer v.2 r.2) hit
  else finish [] (lines.map fun l => (List.range w).map (colourPixel dt l)) 0

/-! ### Formats (R574) -/

/-- A 16-bit value as 8 bits. -/
def to8 (v : Nat) : Nat := min 255 ((v + 128) / 256)

/-- GREY8 of a pixel. -/
def grey8 (c : Nat × Nat × Nat) : Nat := (13933 * to8 c.1 + 46871 * to8 c.2.1 + 4732 * to8 c.2.2 + 32768) / 65536

/-- Y, Cb, Cr of a pixel. -/
def yuvOf (c : Nat × Nat × Nat) : Nat × Nat × Nat :=
  let x := Config.rgbToYuv (BitVec.ofNat 8 (to8 c.1)) (BitVec.ofNat 8 (to8 c.2.1)) (BitVec.ofNat 8 (to8 c.2.2))
  (x.1.toNat, x.2.1.toNat, x.2.2.toNat)

/-- A pixel of a row. -/
def px {α : Type} [Inhabited α] (l : List α) (i : Nat) : α := l.getD i default

/-- Cb and Cr: the mean over a block of pixels. -/
def chroma (cs : List (Nat × Nat × Nat)) : List Byte :=
  let ys := cs.map yuvOf
  le 1 ((ys.map fun y => y.2.1).sum / max 1 ys.length) ++ le 1 ((ys.map fun y => y.2.2).sum / max 1 ys.length)

/-- An RGB image in a format (R574). -/
def encodeRgb (format : Nat) (img : Rgb) : List Byte :=
  if format = 3 then
    (img.map fun r => (r.map fun c => le 2 c.1 ++ le 2 c.2.1 ++ le 2 c.2.2).flatten).flatten
  else if format = 4 then
    (img.map fun r => (r.map fun c => le 1 (to8 c.1) ++ le 1 (to8 c.2.1) ++ le 1 (to8 c.2.2)).flatten).flatten
  else if format = 5 then (img.map fun r => (r.map fun c => le 1 (grey8 c)).flatten).flatten
  else if format = 6 then
    let luma := (img.map fun r => (r.map fun c => le 1 (yuvOf c).1).flatten).flatten
    let rows := (List.range (img.length / 2)).map fun j =>
      let a := px img (2 * j)
      let b := px img (2 * j + 1)
      ((List.range (a.length / 2)).map fun i => chroma [px a (2 * i), px a (2 * i + 1), px b (2 * i), px b (2 * i + 1)]).flatten
    luma ++ rows.flatten
  else
    (img.map fun r => ((List.range (r.length / 2)).map fun i =>
      let a := px r (2 * i)
      let b := px r (2 * i + 1)
      let c := chroma [a, b]
      le 1 (yuvOf a).1 ++ c.take 1 ++ le 1 (yuvOf b).1 ++ c.drop 1).flatten).flatten

/-- STRIDE of an output `w` pixels wide (R574). -/
def strideOf (format dt w : Nat) : Nat :=
  if format = 1 then packedBytes dt w else if format = 2 || format = 7 then 2 * w
  else if format = 3 then 6 * w else if format = 4 then 3 * w else w

/-- Length of a body of `h` lines (R583). -/
def bodyLength (format dt w h : Nat) : Nat := 64 + strideOf format dt w * h + (if format = 6 then w * h / 2 else 0)

/-! ### Scaling (R575, R576) -/

/-- log2 of the block that the scaler averages: the largest of 0–3 at which the size is still at least the output. -/
def scaleShift (inp out : Nat) : Nat :=
  if out * 8 ≤ inp then 3 else if out * 4 ≤ inp then 2 else if out * 2 ≤ inp then 1 else 0

/-- Input position of output sample `i` in 1/64, rounded. -/
def scalePos (inp out i : Nat) : Int := (((2 * i + 1) * inp * 64 + out : Nat) / (2 * out) : Nat) - 32

/-- Coefficient of a tap at a phase: phase 0 is the sample itself; the last tap makes the sum 256. -/
def scaleCoef (phase tap : Nat) : Int :=
  let c := fun k => (Config.lanczos (BitVec.ofNat 6 phase) (BitVec.ofNat 3 k)).toInt
  if phase = 0 then (if tap = 2 then 256 else 0)
  else if tap = 5 then 256 - (c 0 + c 1 + c 2 + c 3 + c 4)
  else c tap

/-- The samples that make output sample `i`, each with its coefficient; beyond the ends the end sample (assumption 18). -/
def scaleTaps (inp out i : Nat) : List (Nat × Int) :=
  let p := scalePos inp out i
  let base := p / 64
  let phase := (p % 64).toNat
  let taps : List Nat := if phase = 0 then [2] else [0, 1, 2, 3, 4, 5]
  taps.map fun (k : Nat) => ((clampInt 0 ((inp : Int) - 1) (base - 2 + (k : Int))).toNat, scaleCoef phase k)

/-- Scale one line of samples. -/
def scaleLine (l : List Nat) (out : Nat) : List Nat :=
  let s := scaleShift l.length out
  let n := l.length / 2 ^ s
  let blocks := (List.range n).map fun i => ((l.drop (i * 2 ^ s)).take (2 ^ s)).sum / 2 ^ s
  (List.range out).map fun i =>
    clamp16 ((((scaleTaps n out i).map fun t => t.2 * (blocks.getD t.1 0 : Int)).sum + 128) / 256)

/-- Columns of rows of equal length. -/
def columns (w : Nat) (rows : List (List Nat)) : List (List Nat) := (List.range w).map fun x => rows.map fun r => r.getD x 0

/-- Scale one plane: along the lines, then across them. -/
def scalePlane (rows : List (List Nat)) (w h : Nat) : List (List Nat) :=
  columns h ((columns w (rows.map fun r => scaleLine r w)).map fun c => scaleLine c h)

/-- Output line `i` is formed entirely from received lines (R581): `got` says which cropped lines were received. -/
def lineWhole (got : List Bool) (out i : Nat) : Bool :=
  let s := scaleShift got.length out
  let n := got.length / 2 ^ s
  (scaleTaps n out i).all fun t => ((got.drop (t.1 * 2 ^ s)).take (2 ^ s)).all id

/-- Apply ORIENT to rows. -/
def orientRows {α : Type} (o : Nat) (l : List α) : List α := if o = 2 || o = 3 then l.reverse else l

/-- Apply ORIENT to the pixels of a row. -/
def orientPixels {α : Type} (o : Nat) (l : List α) : List α := if o = 1 || o = 3 then l.reverse else l

/-- A presentation stream's picture and its LINES: crop, orient, scale; a line not received repeats the last one that was
(R575, R576, R581). -/
def presentation (tone : Rgb) (cropX cropY cropW cropH orient outW outH : Nat) : Rgb × Nat :=
  let last := tone.length - 1
  let rows := (List.range cropH).map fun i => px tone (min last (cropY + i))
  let got := (List.range cropH).map fun i => decide (cropY + i < tone.length)
  let rows := orientRows orient (rows.map fun r => orientPixels orient ((r.drop cropX).take cropW))
  let got := orientRows orient got
  let plane := fun (f : Nat × Nat × Nat → Nat) => scalePlane (rows.map fun r => r.map f) outW outH
  let r := plane (·.1)
  let g := plane (·.2.1)
  let b := plane (·.2.2)
  let img := (List.range outH).map fun y => (List.range outW).map fun x =>
    ((px r y).getD x 0, (px g y).getD x 0, (px b y).getD x 0)
  (img, ((List.range outH).filter fun i => lineWhole got outH i).length)

end Sys2Proof.Machine
end

