-- ==== Sys2Proof/Machine/InferenceOps.lean ====
section
/-! DEFINITION. The accelerator's operations (18): models, predictions and placement (R263), starting, results and
stopping. -/

namespace Sys2Proof.Machine

/-- Change the accelerator. -/
def State.modInfer (s : State) (f : Inference → Inference) : State := { s with infer := f s.infer }

/-- Job `j`. -/
def State.job (s : State) (j : Nat) : Job := s.infer.jobs.rd j Job.reset

/-- Change job `j`. -/
def State.modJob (s : State) (j : Nat) (f : Job → Job) : State :=
  s.modInfer fun x => { x with jobs := x.jobs.upd j Job.reset f }

/-! ### Fields of a job (R612) -/

/-- Home cluster of job `j` (R599). -/
def homeCluster (j : Nat) : Nat := uCluster (j / 16)

/-- PRIORITY. -/
def Job.prio (x : Job) : Nat := field x.desc 1 1
/-- DEPTH. -/
def Job.depth (x : Job) : Nat := field x.desc 2 1
/-- DROP_LATE. -/
def Job.dropLate (x : Job) : Bool := bit (field x.desc 3 1) 0
/-- NO_POOL. -/
def Job.noPool (x : Job) : Bool := bit (field x.desc 3 1) 1
/-- DEADLINE_US in ns. -/
def Job.deadlineNs (x : Job) : Nat := field x.desc 4 4 * us
/-- MODEL. -/
def Job.model (x : Job) : Nat := field x.desc 8 8
/-- INPUT_BUF. -/
def Job.inputBuf (x : Job) : Nat := field x.desc 16 8
/-- POOL_BUF. -/
def Job.poolBuf (x : Job) : Nat := field x.desc 32 8

/-- STATE of a job: EMPTY, STOPPED, RUNNING (R613). -/
def Job.stateCode (x : Job) : Nat := if x.desc = [] then 0 else if x.running then 2 else 1

/-- Bytes of a slot of INPUT_BUF (R600, R612). -/
def State.slotBytes (s : State) (x : Job) : Nat :=
  if x.depth = 0 then 0 else ((s.placement x.inputBuf).map fun p => p.size / x.depth).getD 0

/-! ### Events (R614) -/

/-- JOB_STATE fields. -/
def jobState (j old new cause : Nat) : List Byte := le 1 j ++ le 1 old ++ le 1 new ++ le 1 cause

/-- JOB_LATE, at the first late, superseded or late-dropped input and then at most once per 100 ms. -/
def State.tellLate (s : State) (j : Nat) : State :=
  let x := s.job j
  if (x.toldAt.map fun t => decide (t + 100 * ms ≤ s.time)).getD true then
    (s.modJob j fun x => { x with toldAt := some s.time }).raise (homeCluster j) 0x3203
      (le 1 j ++ le 3 0 ++ le 4 x.late.toNat ++ le 4 x.superseded.toNat ++ le 4 x.droppedLate.toNat)
  else s

/-! ### Clusters and clocks (R595) -/

/-- Clock percentage of APP, INF or VIS: the lowest any limit sets (R39, R808). -/
def Power.pct (p : Power) (isl : Nat) : Nat :=
  if isl = islApp then min p.budgetPct.1 p.platePct.1
  else if isl = islInf then min p.budgetPct.2.1 p.platePct.2.1
  else if isl = islVis then min p.budgetPct.2.2 p.platePct.2.2
  else 100

/-- The clusters running: cluster 0 alone in crank hold; none fenced or in reset (R595, R607). -/
def State.clusters (s : State) : List Nat :=
  if s.inReset islInf then []
  else (if s.power.crank.isSome then [0] else [0, 1, 2, 3]).filter fun k => !s.fenced (uCluster k)

/-- Clock of a cluster in 1/1,600 of its full rate: 1/16 in crank hold, PERCENT otherwise (R595). -/
def State.clock (s : State) : Nat := if s.power.crank.isSome then 100 else 16 * s.power.pct islInf

/-- The clusters that run an instance. -/
def InputSlot.on (i : InputSlot) : List Nat :=
  match i.phase with
  | .running cs _ => cs
  | _ => []

/-- Clusters on which an instance is in progress. -/
def State.busyClusters (s : State) : List Nat :=
  (s.infer.jobs.entries.map fun e => (e.2.inputs.map InputSlot.on).flatten).flatten

/-- Running clusters without an instance. -/
def State.freeClusters (s : State) : List Nat := s.clusters.filter fun k => !s.busyClusters.contains k

/-! ### Prediction and placement (R263, R601, R603) -/

/-- Weight bytes not in NEAR, by tier: the container's chunks outside NEAR, at most WEIGHT_BYTES of them, slowest first. -/
def State.unstaged (s : State) (h : Nat) (m : Model) : List (Nat × Nat) :=
  match s.placement h with
  | some p =>
    let in_ := fun t => ((List.range p.chunkCount).map fun c => if p.residence c = t then p.chunkBytes c else 0).sum
    let b4 := min m.weightBytes (in_ 4)
    let b3 := min (m.weightBytes - b4) (in_ 3)
    let b2 := min (m.weightBytes - b4 - b3) (in_ 2)
    [(4, b4), (3, b3), (2, b2)]
  | none => []

/-- Rate at which unstaged weights are read, MB/s (R601). -/
def stageRate (t : Nat) : Nat := if t = 2 then 25000 else if t = 3 then 1000 else 2000

/-- Clusters a run of the model takes now (R595, R601). -/
def State.spans (s : State) (m : Model) : Nat := min m.clusters s.clusters.length

/-- Accelerator time of a run, ns: OPS over the clusters' rate, and the unstaged weights (R601); none where no cluster
runs. -/
def State.accTime (s : State) (h : Nat) (m : Model) : Option Nat :=
  let n := s.spans m
  if n * m.rateGops * s.clock = 0 then none
  else some (m.ops * 1600 / (m.rateGops * n * s.clock) +
    ((s.unstaged h m).map fun u => u.2 * 1000 / stageRate u.1).sum)

/-- Pool time of a run, ns (R263); none where APP's clock stands. -/
def State.poolTime (s : State) (p : JobPool) (ops : Nat) : Option Nat :=
  let rate := p.workers * p.gops * s.power.pct islApp
  if rate = 0 then none else some (ops * 100 / rate)

/-- An input goes before another in the order of R602: descending PRIORITY, earliest deadline, lowest job. -/
def before (pa da ja pb db jb : Nat) : Bool :=
  pb < pa || (pa == pb && (da < db || (da == db && ja < jb)))

/-- Work ahead of an input on the accelerator, ns: what is left of the instances in progress and of the placed inputs that
R602 puts before it, each by the share of the running clusters it takes (assumption 13). -/
def State.accQueue (s : State) (j deadline : Nat) : Nat :=
  let mine := (s.job j).prio
  let of := fun (k : Nat) (x : Job) =>
    match s.infer.models.find x.model with
    | none => 0
    | some m =>
      let full := (s.accTime x.model m).getD 0
      let share := fun w => w * s.spans m / max 1 s.clusters.length
      (x.inputs.map fun i =>
        match i.phase with
        | .running _ start => if mine ≤ x.prio then share (start + full - s.time) else 0
        | .preempted _ => if before x.prio i.deadline k mine deadline j then share full else 0
        | .placed => if before x.prio i.deadline k mine deadline j then share full else 0
        | _ => 0).sum
  (s.infer.jobs.entries.map fun e => of e.1 e.2).sum +
    (s.fleet.merges.map fun m => if m.pool then 0 else m.start + m.accNs - s.time).sum

/-- Work ahead on the pool, ns: what is left of the work items outstanding and of the MAP_MERGE jobs placed there (assumption
13). -/
def State.poolQueue (s : State) (p : JobPool) : Nat :=
  let left := fun (start ops : Nat) => start + (s.poolTime p ops).getD 0 - s.time
  (s.fleet.merges.map fun m => if m.pool then left m.start m.ops else 0).sum +
  (s.infer.jobs.entries.map fun e =>
    match s.infer.models.find e.2.model with
    | none => 0
    | some m => (e.2.inputs.map fun i =>
        match i.phase with
        | .pool _ start => left start m.ops
        | _ => 0).sum).sum

/-- The choice of R263: whether the pool runs it, and whether it is predicted late. `none` is never. -/
def choose (merge : Bool) (acc app : Option Nat) (deadline : Nat) : Bool × Bool :=
  let by_ := fun (x : Option Nat) => x.any fun t => t ≤ deadline
  if merge && by_ app then (true, false)
  else if by_ acc then (false, false)
  else if by_ app then (true, false)
  else match acc, app with
    | _, none => (false, true)
    | none, some _ => (true, true)
    | some a, some b => (b < a, true)

/-- The pool that may run inputs of the job: APP section, NO_POOL clear, both buffers list 0xFFFE, not in crank hold (R264,
R603). -/
def State.poolFor (s : State) (x : Job) (m : Model) : Option JobPool :=
  if bit m.flags 0 && !x.noPool && x.poolBuf != 0 && s.lists x.inputBuf 0xFFFE && s.lists x.poolBuf 0xFFFE &&
      s.power.crank.isNone then s.place.pool
  else none

/-- Where an input of job `j` goes, and whether it is predicted late (R601). -/
def State.placeInput (s : State) (j : Nat) (x : Job) (m : Model) (deadline : Nat) : Bool × Bool :=
  let acc := (s.accTime x.model m).map fun t => s.time + s.accQueue j deadline + t
  let app := (s.poolFor x m).bind fun p => (s.poolTime p m.ops).map fun t => s.time + s.poolQueue p + t
  choose false acc app deadline

/-- Stage a model's chunks into NEAR as far as reclaim allows (R264); nothing is promoted in crank hold (R260). A pinned model stays
where it is (R256). -/
def State.stageModel (s : State) (h : Nat) : State :=
  match s.placement h with
  | some p =>
    if s.power.crank.isSome || p.pin != 0 then s
    else
      let missing := s.movable h 1 (List.range p.chunkCount)
      let n := min missing.length (s.roomFor 1 / chunkSize)
      (s.makeRoom 1 (n * chunkSize)).startMoves h 1 (missing.take n)
  | none => s

/-- Work outstanding on the pool, an input of a job or a MAP_MERGE, by the time of its placement. -/
def State.poolWork (s : State) : List (Nat × Option (Nat × InputSlot)) :=
  let inputs := (s.infer.jobs.entries.map fun e => e.2.inputs.filterMap fun i =>
    match i.phase with
    | .pool _ start => some (start, some (e.1, i))
    | _ => none).flatten
  let merges := (s.fleet.merges.filter (·.pool)).map fun m => (m.start, none)
  (inputs ++ merges).mergeSort fun a b => a.1 ≤ b.1

/-- A pool of `workers` workers is withdrawn: its running work, the oldest, one for each worker, finishes there, and its queued work
is placed again, on the accelerator (R274; assumption 125). -/
def State.poolWithdrawn (s : State) (workers : Nat) : State :=
  let queued := s.poolWork.drop workers
  let s := (queued.filterMap (·.2)).foldl (fun s (e : Nat × InputSlot) =>
    let x := s.job e.1
    let late := match s.infer.models.find x.model with
      | some m => (s.placeInput e.1 x m e.2.deadline).2
      | none => e.2.late
    s.modJob e.1 fun x =>
      { x with inputs := mapIf (fun i => i.slot == e.2.slot && i.seq == e.2.seq) (fun i => { i with phase := .placed, late := late }) x.inputs }) s
  let merges := queued.filter fun w => w.2.isNone
  let from_ := (s.fleet.merges.filter (·.pool)).length - merges.length
  let again := fun (a : Nat × List MergeJob) (m : MergeJob) =>
    let moved := { m with pool := false, start := s.time, late := decide (m.deadline < s.time + s.accQueue 64 m.deadline + m.accNs) }
    (a.1 + flag m.pool, a.2 ++ [if m.pool && from_ ≤ a.1 then moved else m])
  { s with fleet := { s.fleet with merges := (s.fleet.merges.foldl again (0, [])).2 } }

/-! ### Results (R605, R606, R608) -/

/-- Change the input with a sequence number. -/
def State.modInput (s : State) (j : Nat) (i : InputSlot) (f : InputSlot → InputSlot) : State :=
  s.modJob j fun x => { x with inputs := mapIf (fun y => y.slot == i.slot && y.seq == i.seq) f x.inputs }

/-- Take an input out of its slot. -/
def State.dropInput (s : State) (j : Nat) (i : InputSlot) : State :=
  s.modJob j fun x => { x with inputs := x.inputs.filter fun y => !(y.slot == i.slot && y.seq == i.seq) }

/-- The signal entries of a result's kind body (R606). -/
def signalEntries (desc kind : List Byte) : List Byte :=
  ((List.range (field desc 44 1)).map fun n =>
    let o := 64 + 12 * n
    let v := fieldInt kind (field desc o 2) 4
    if v = -2147483648 then []
    else le 2 (field desc (o + 2) 2) ++ le 2 0 ++
      leInt 4 (sat32 (mulc (fieldInt desc (o + 4) 4) (field desc (o + 8) 1) v))).flatten

/-- Present the result of an input and free its slot: header and kind body, then the signal message (R605, R606, R608). -/
def State.result (s : State) (j : Nat) (i : InputSlot) (status start : Nat) (pool : Bool) (kindBody : List Byte) : State :=
  let x := s.job j
  match s.infer.models.find x.model with
  | none => s.dropInput j i
  | some m =>
    let late := decide (i.deadline < s.time)
    let body := if status = 0 then kindBody.take (m.outBytes - 32) else []
    let flags := flag late + 2 * flag pool + 4 * flag (bit (field i.msg.body 7 1) 0) + 8 * flag x.lost
    let head := le 1 j ++ le 1 m.kind ++ le 1 status ++ le 1 flags ++ le 4 (field i.msg.body 0 4) ++ le 4 i.seq ++ le 4 0 ++
      le 8 start ++ le 8 s.time
    let s := (s.dropInput j i).modJob j fun x =>
      { x with lost := false, late := if late then x.late + 1 else x.late, lastUs := (s.time - start) / us }
    let u := homeCluster j
    let s := s.present u (17 + j % 16) { time := i.msg.time, marks := i.msg.marks, body := head ++ body }
    let sig := if status = 0 then signalEntries x.desc body else []
    let s := if sig = [] then s else s.present u (33 + j % 16) { time := i.msg.time, marks := 0, body := sig }
    if late then s.tellLate j else s

/-! ### Stopping (R598, R607) -/

/-- Count instances abandoned on their clusters (R615). -/
def State.countAbandoned (s : State) (is : List InputSlot) : State :=
  (is.map InputSlot.on).flatten.foldl (fun s k => s.count (uCluster k) 18) s

/-- Stop a job: instances are abandoned and inputs discarded, without results (R607). -/
def State.stopJob (s : State) (j cause : Nat) : State :=
  let x := s.job j
  (s.countAbandoned x.inputs).modJob j fun x =>
    { x with running := false, cause := cause, lost := x.lost || x.inputs != [], inputs := [] }

/-- Stop a running job for a cause of the module's own, with its JOB_STATE. -/
def State.endJob (s : State) (cause j : Nat) : State :=
  if (s.job j).running then (s.stopJob j cause).raise (homeCluster j) 0x3202 (jobState j 2 1 cause) else s

/-- Every job is STOPPED with a cause (R264, R607). -/
def State.endJobs (s : State) (cause : Nat) : State := s.infer.jobs.keys.foldl (fun s j => s.endJob cause j) s

/-- MODEL_STATE fields (R614). -/
def modelState (h state cause : Nat) : List Byte := le 8 h ++ le 1 state ++ le 1 cause ++ le 2 0

/-- The placement of a loaded model has been released or lost: the model is unloaded and its jobs stop (R598). -/
def State.modelGone (s : State) (h : Nat) : State :=
  match s.infer.models.find h with
  | none => s
  | some _ =>
    let jobs := (s.infer.jobs.entries.filter fun e => e.2.desc != [] && e.2.model == h).map (·.1)
    let s := s.modInfer fun x => { x with models := x.models.erase h }
    (jobs.foldl (fun s j => s.endJob 1 j) s).raise (uCluster 0) 0x3201 (modelState h 0 6)

/-- Instances on clusters that are fenced or reset are abandoned and counted (R607). -/
def State.abandonOn (s : State) (ks : List Nat) : State :=
  let hit := fun (i : InputSlot) => i.on.any fun k => ks.contains k
  s.infer.jobs.entries.foldl (fun s e =>
    let gone := e.2.inputs.filter hit
    (s.countAbandoned gone).modJob e.1 fun x =>
      { x with inputs := x.inputs.filter fun i => !hit i, aborted := x.aborted + BitVec.ofNat 32 gone.length }) s

/-- Outstanding work items end with POOL_FAILED, and the pool counts as withdrawn (R607: APP reset). -/
def State.poolLost (s : State) : State :=
  let s := s.modPlace fun q => { q with pool := none }
  s.infer.jobs.entries.foldl (fun s e =>
    e.2.inputs.foldl (fun s i =>
      match i.phase with
      | .pool _ start => s.result e.1 i 2 start true []
      | _ => s) s) (s.modInfer fun i => { i with poolCh := none })

/-- Every model is unloaded and every job definition discarded (R607: module reset, power-fail). -/
def State.forgetInference (s : State) : State := { s with infer := Inference.reset }

end Sys2Proof.Machine
end

