-- ==== Sys2Proof/Machine/VisionOps.lean ====
section
/-! DEFINITION. The camera ports' operations (16): states, frames, admission, drops and records. -/

namespace Sys2Proof.Machine

/-- Camera port `n`. -/
def State.cam (s : State) (n : Nat) : Camera := s.vision.cams.rd n Camera.reset

/-- Change the vision units. -/
def State.modVision (s : State) (f : Vision → Vision) : State := { s with vision := f s.vision }

/-- Change camera port `n`. -/
def State.modCam (s : State) (n : Nat) (f : Camera → Camera) : State :=
  s.modVision fun v => { v with cams := v.cams.upd n Camera.reset f }

/-- Pipeline `k`. -/
def State.pipe (s : State) (k : Nat) : Pipeline := s.vision.pipes.rd k Pipeline.reset

/-- Change pipeline `k`. -/
def State.modPipe (s : State) (k : Nat) (f : Pipeline → Pipeline) : State :=
  s.modVision fun v => { v with pipes := v.pipes.upd k Pipeline.reset f }

/-! ### Fields of PORT_CONFIG (R563) -/

/-- PIPELINE. -/
def Camera.pipeNo (c : Camera) : Nat := field c.cfg 1 1
/-- ADMIT_PRIO. -/
def Camera.prio (c : Camera) : Nat := field c.cfg 2 1
/-- DATA_TYPE. -/
def Camera.dataType (c : Camera) : Nat := field c.cfg 4 1
/-- WIDTH. -/
def Camera.width (c : Camera) : Nat := field c.cfg 10 2
/-- HEIGHT. -/
def Camera.height (c : Camera) : Nat := field c.cfg 12 2
/-- PIXEL_RATE, kpixel/s. -/
def Camera.pixelRate (c : Camera) : Nat := field c.cfg 16 4
/-- FRAME_TIMEOUT_MS in ns. -/
def Camera.timeoutNs (c : Camera) : Nat := field c.cfg 24 2 * ms
/-- POC. -/
def Camera.poc (c : Camera) : Bool := bit (field c.cfg 15 1) 0

/-- The port is turned on. -/
def Camera.on (c : Camera) : Bool := c.state != .off

/-- The port is turned on and not in FAULT. -/
def Camera.live (c : Camera) : Bool := c.state != .off && c.state != .fault

/-! ### States (R564, R567) -/

/-- CAMERA_STATE fields (R567). -/
def Camera.stateFields (c : Camera) (n : Nat) (old : CamState) (cause : Nat) : List Byte :=
  le 1 n ++ le 1 old.code ++ le 1 c.state.code ++ le 1 cause ++ le 2 c.pocMa ++ le 2 0 ++ le 4 c.frameNo.toNat

/-- Enter a state with its cause; where it ends an ENABLE, CAMERA_STATE is its completion (R564). -/
def State.camState (s : State) (n : Nat) (st : CamState) (cause : Nat) : State :=
  let old := (s.cam n).state
  let s := s.modCam n fun c => { c with state := st, cause := cause }
  let c := s.cam n
  let f := c.stateFields n old cause
  let ends := st == .streaming || st == .fault || st == .off
  if ends && c.enabling != [] then
    let s := s.modCam n fun c => { c with enabling := [] }
    c.enabling.foldl (fun s q => s.complete (uCam n) 0x3001 f q false (st != .streaming)) s
  else s.raise (uCam n) 0x3001 f

/-! ### Drops (R559, R567) -/

/-- FRAME_DROPS, at the first drop and then at most once per 100 ms. -/
def State.tellFrameDrops (s : State) (n cause : Nat) : State :=
  let c := s.cam n
  if (c.toldAt.map fun t => decide (t + 100 * ms ≤ s.time)).getD true then
    (s.modCam n fun c => { c with toldAt := some s.time, firstDrop := none }).raise (uCam n) 0x3002
      (le 1 n ++ le 1 cause ++ le 2 0 ++ le 4 ((c.firstDrop.getD 0).toNat) ++ le 4 c.dropped.toNat)
  else s

/-- A frame is still worth a line: not dropped and not presented or aborted. -/
def CamFrame.alive (f : CamFrame) : Bool := f.drop.isNone && !f.presented

/-- Change the frame with a FRAME_NO. -/
def State.modFrame (s : State) (n : Nat) (no : U32) (f : CamFrame → CamFrame) : State :=
  s.modCam n fun c => { c with frames := mapIf (fun x => x.no == no) f c.frames }

/-- Drop a frame: its lines are freed and its messages aborted (R558, R559). -/
def State.dropFrame (s : State) (n : Nat) (no : U32) (cause : Nat) : State :=
  let k := (s.cam n).pipeNo
  let s := s.modFrame n no fun f => { f with drop := some cause, stored := [], taken := [] }
  let s := s.modCam n fun c =>
    { c with dropped := c.dropped + 1, droppedBefore := true, firstDrop := some (c.firstDrop.getD no) }
  let s := (s.modPipe k fun p => { p with aborted := p.aborted + 1 }).count (uPipe k) 17
  (s.count (uCam n) 18).tellFrameDrops n cause

/-- The body of a frame record (R555). -/
def frameRecord (n : Nat) (f : CamFrame) : List Byte :=
  let emb := f.emb.take 1024
  le 4 f.no.toNat ++ le 1 n ++ le 1 (f.drop.getD 0) ++ le 2 f.lines ++ le 8 f.fsTime ++ le 8 (f.feTime.getD 0) ++ le 2 f.marks ++
    le 2 f.crcLines ++ le 2 emb.length ++ le 2 0 ++ emb

/-- Frames that need nothing any more are forgotten. -/
def State.forgetFrames (s : State) (n : Nat) : State :=
  s.modCam n fun c => { c with frames := c.frames.filter fun f => !(f.recorded && !f.alive) }

/-- Produce the record of a frame that has ended; a delivered frame takes the DROPPED_BEFORE mark that is due (R553, R555). -/
def State.recordFrame (s : State) (n : Nat) (no : U32) : State :=
  match (s.cam n).frames.find? fun f => f.no == no with
  | none => s
  | some f =>
    let mark := f.drop.isNone && (s.cam n).droppedBefore
    let f := { f with recorded := true, marks := if mark && !bit f.marks 0 then f.marks + 1 else f.marks }
    let s := s.modFrame n no fun _ => f
    let s := if f.drop.isNone then
        (s.modCam n fun c => { c with delivered := c.delivered + 1, droppedBefore := false }).count (uCam n) 17
      else s
    (s.present (uCam n) 1 { time := f.fsTime, marks := 0, body := frameRecord n f }).forgetFrames n

/-- Every frame that has not been presented ends, dropped with DROP_CAUSE 0x03 (R561, R582). -/
def State.abortFrames (s : State) (n : Nat) : State :=
  (s.cam n).frames.foldl (fun s f =>
    let s := s.modFrame n f.no fun f => { f with feTime := some (f.feTime.getD s.time) }
    if f.recorded then
      let k := (s.cam n).pipeNo
      let s := s.modFrame n f.no fun f => { f with presented := true, stored := [], taken := [] }
      ((s.modPipe k fun p => { p with aborted := p.aborted + 1 }).count (uPipe k) 17).forgetFrames n
    else if f.alive then
      let s := s.modFrame n f.no fun f => { f with drop := some 3, stored := [], taken := [] }
      let k := (s.cam n).pipeNo
      let s := s.modCam n fun c => { c with dropped := c.dropped + 1, droppedBefore := true,
                                            firstDrop := some (c.firstDrop.getD f.no) }
      let s := ((s.modPipe k fun p => { p with aborted := p.aborted + 1 }).count (uPipe k) 17).tellFrameDrops n 3
      s.recordFrame n f.no
    else s.recordFrame n f.no) s

/-- The port is switched off into FAULT (R546, R547). -/
def State.camFault (s : State) (n cause : Nat) : State :=
  let s := (s.abortFrames n).camState n .fault cause
  s.modCam n fun c => { c with pocMa := 0, lockedAt := none, bridge := false }

/-- VX12 and VX3V3 fall when the last of CAM12–CAM15 is turned off (R547). -/
def State.bridgeCheck (s : State) : State :=
  if [12, 13, 14, 15].any fun n => (s.cam n).on then s else s.modVision fun v => { v with bridgeOn := none }

/-- Turn a port off (R561, R564). -/
def State.camOff (s : State) (n cause : Nat) : State :=
  let s := (s.abortFrames n).modCam n fun c => { c with pocMa := 0, lockedAt := none, bridge := false, deficit := 0 }
  (s.camState n .off cause).bridgeCheck

/-! ### The line store (R556–R558) -/

/-- Lines a port holds in its pipeline's store. -/
def Camera.stored (c : Camera) : Nat := (c.frames.map fun f => f.stored.length).sum

/-- The ports of a pipeline. -/
def State.portsOf (s : State) (k : Nat) : List Nat :=
  (List.range 16).filter fun n => (s.cam n).cfg != [] && (s.cam n).pipeNo == k

/-- Lines in the store of a pipeline. -/
def State.storeUsed (s : State) (k : Nat) : Nat := ((s.portsOf k).map fun n => (s.cam n).stored).sum

/-- The frame of a port that would be lost: its oldest that is stored or arriving. -/
def Camera.losable (c : Camera) : Option CamFrame :=
  c.frames.find? fun f => f.alive && (f.stored != [] || f.feTime.isNone)

/-- Module time at which a port's frame started: its FS_TIME without EXPOSURE_OFFSET_NS (R551). -/
def Camera.started (c : Camera) (f : CamFrame) : Int := (f.fsTime : Int) - fieldInt c.cfg 20 4

/-- Port `a` is the victim rather than port `b` (R558). -/
def State.victimBefore (s : State) (a b : Nat) : Bool :=
  let fs := fun n => ((s.cam n).losable.map (s.cam n).started).getD 0
  let pa := (s.cam a).prio
  let pb := (s.cam b).prio
  pa < pb || (pa == pb && (fs b < fs a || (fs a == fs b && b < a)))

/-- The victim when a line of port `n` finds the store full (R558). -/
def State.victim (s : State) (n : Nat) : Nat :=
  ((s.portsOf (s.cam n).pipeNo).filter fun p => p == n || (s.cam p).stored != 0).foldl (fun best p =>
    if s.victimBefore p best then p else best) n

/-- DROP_CAUSE of an admission drop (R555). -/
def State.admitCause (s : State) : Nat := if s.power.crank.isSome || s.power.pct islVis < 100 then 2 else 1

/-- Store a line of port `n`, frame `no`, dropping victims until a slot is free (R558). -/
def State.admitLine : Nat → Nat → U32 → List Byte → State → State
  | 0, _, _, _, s => s
  | fuel + 1, n, no, line, s =>
    match (s.cam n).frames.find? fun f => f.no == no with
    | none => s
    | some f =>
      if !f.alive then s
      else if s.storeUsed (s.cam n).pipeNo < 128 then
        let s := s.modFrame n no fun f => { f with stored := f.stored ++ [line] }
        let used := s.storeUsed (s.cam n).pipeNo
        (s.portsOf (s.cam n).pipeNo).foldl (fun s p =>
          if (s.cam p).on then s.modCam p fun c => { c with peak := max c.peak used } else s) s
      else
        let v := s.victim n
        match (s.cam v).losable with
        | some g => State.admitLine fuel n no line (s.dropFrame v g.no s.admitCause)
        | none => s

/-! ### Frames (R551–R555) -/

/-- The frame that arrives at a port. -/
def Camera.arriving (c : Camera) : Option CamFrame := c.frames.find? fun f => f.feTime.isNone

/-- Set a frame mark by its bit number 16–25 (R553). -/
def setMark (marks n : Nat) : Nat := if bit marks (n - 16) then marks else marks + 2 ^ (n - 16)

/-- Mark the arriving frame and count (R552). -/
def State.markFrame (s : State) (n mark counter : Nat) : State :=
  let f := fun (f : CamFrame) => { f with marks := setMark f.marks mark }
  (s.modCam n fun c => { c with frames := mapIf (fun f => f.feTime.isNone) f c.frames }).count (uCam n) counter

/-- End the arriving frame, with further marks (R552–R554). -/
def State.endFrame (s : State) (n : Nat) (marks : List Nat) : State :=
  match (s.cam n).arriving with
  | none => s
  | some f =>
    let short := f.lines < (s.cam n).height
    let all := marks ++ (if short then [17] else [])
    let s := s.modFrame n f.no fun f => { f with feTime := some s.time, marks := all.foldl setMark f.marks }
    if short then s.count (uCam n) 24 else s

/-- Everything a fenced or reset pipeline has in process is aborted (R587): a frame whose record is still due is a dropped one,
with the DROP_CAUSE of R561 (assumption 139). -/
def State.abortPipe (s : State) (k : Nat) : State :=
  (s.portsOf k).foldl (fun s n =>
    let s := (s.cam n).frames.foldl (fun s f =>
      if !f.alive then s
      else
        let s := ((s.modFrame n f.no fun f => { f with presented := true, stored := [], taken := [] }).modPipe k fun p =>
          { p with aborted := p.aborted + 1 }).count (uPipe k) 17
        if f.recorded then s
        else
          ((s.modFrame n f.no fun f => { f with drop := some 3 }).modCam n fun c =>
            { c with dropped := c.dropped + 1, droppedBefore := true,
                     firstDrop := some (c.firstDrop.getD f.no) }).tellFrameDrops n 3) s
    s.forgetFrames n) s

end Sys2Proof.Machine
end

