-- ==== Sys2Proof/Machine/ExecCamera.lean ====
section
/-! DEFINITION. The Camera and Pipeline families, and the events of the camera ports and pipelines (16, 17). -/

namespace Sys2Proof.Machine

/-! ### The Camera family (R562–R566) -/

/-- A PORT field names a port. -/
def portOk (r : Request) : Bool := r.u 0 1 ≤ 15

/-- The unit a request with a PORT field addresses. -/
def camUnit (r : Request) : Nat := uCam (min 15 (r.u 0 1))

/-- PORT_CONFIG lies outside R544 or R563. -/
def camConfigBad (r : Request) : Bool :=
  let n := r.u 0 1
  let dt := r.u 4 1
  let phy := r.u 6 1
  let lanes := r.u 7 1
  let rate := r.u 8 2
  let aphy := inRange phy 1 4
  !portOk r || r.u 1 1 > 1 || r.u 2 1 > 7 || r.u 3 1 > 15 || !([0x1E, 0x24, 0x2A, 0x2B, 0x2C, 0x2D, 0x2E].contains dt) ||
    r.u 5 1 > 4 || (!isRaw dt && r.u 5 1 != 0) ||
    (if aphy then n > 11 || lanes != 0 || rate != 0
     else if phy = 0x10 then n < 12 || !inRange lanes 1 4 || !inRange rate 80 2500
     else phy != 0x11 || n < 12 || !inRange lanes 1 3 || !inRange rate 80 3500) ||
    !inRange (r.u 10 2) 64 8192 || !inRange (r.u 12 2) 16 8192 || r.u 14 1 > 4 || r.u 15 1 > 1 ||
    (!aphy && r.u 15 1 != 0) || !inRange (r.u 16 4) 1 1000000 || (r.i 20 4).natAbs > 1000000000 ||
    !inRange (r.u 24 2) 10 2000 || !([100, 400, 1000].contains (r.u 26 2)) || !r.zero 32 4

/-- An output of the camera is enabled. -/
def Camera.hasOutput (c : Camera) : Bool := c.outputs.entries.any fun e => e.2.cfg != []

/-- Refusals of CAMERA_PORT_CONFIG. -/
def checksCameraPortConfig (r : Request) (s : State) : List (Bool × Status) :=
  let n := r.u 0 1
  [(camConfigBad r, .badParam), (portOk r && ((s.cam n).on || (s.cam n).hasOutput), .busyId)]

/-- Effect of CAMERA_PORT_CONFIG. -/
def doneCameraPortConfig (r : Request) (s : State) : State :=
  let n := r.u 0 1
  answer opCameraPortConfig (camUnit r) r [] (s.modCam n fun c => { c with cfg := r.payload })

/-- PORT_CONFIG (R563, R586). -/
def execCameraPortConfig (r : Request) (s : State) : Out :=
  serve opCameraPortConfig (camUnit r) r s (checksCameraPortConfig r) (doneCameraPortConfig r)

/-- ENABLE of a port would exceed 2,000,000 kpixel/s on its pipeline (R560). -/
def State.rateFull (s : State) (n : Nat) : Bool :=
  let c := s.cam n
  let others := (s.portsOf c.pipeNo).filter fun p => p != n && (s.cam p).on
  (others.map fun p => (s.cam p).pixelRate).sum + c.pixelRate > 2000000

/-- Turn a port on (R546, R547, R551, R564). -/
def State.camOn (s : State) (n : Nat) : State :=
  let s := s.modCam n fun c =>
    { c with frameNo := 0, dropped := 0, peak := 0, lockedAt := none, frames := [], droppedBefore := false, toldAt := none,
             firstDrop := none }
  let s := if n ≥ 12 then s.modVision fun v => { v with bridgeOn := some (v.bridgeOn.getD s.time) } else s
  s.camState n .powering 0

/-- Refusals of CAMERA_ENABLE. -/
def checksCameraEnable (r : Request) (s : State) : List (Bool × Status) :=
  let n := r.u 0 1
  let on := r.u 1 1 = 1
  let bad := fun (s : State) => !portOk r || r.u 1 1 > 1 || !r.zero 2 2 || (on && (s.cam n).cfg == [])
  [(bad s, .badParam), (!bad s && on && !(s.cam n).on && s.rateFull n, .noSpace)]

/-- Effect of CAMERA_ENABLE. -/
def doneCameraEnable (r : Request) (s : State) : State :=
  let n := r.u 0 1
  let on := r.u 1 1 = 1
  if (s.cam n).on = on then answer opCameraEnable (camUnit r) r [] s
  else
    let q := s.requester opCameraEnable r
    let s := s.accepted opCameraEnable (camUnit r) r []
    if on then s.camOn n |>.modCam n fun c => { c with enabling := [q] }
    else (s.modCam n fun c => { c with enabling := c.enabling ++ [q] }).camOff n 0

/-- ENABLE (R560, R564): the present state is answered OK, and a port without PORT_CONFIG has nothing to turn on
(assumption 19). -/
def execCameraEnable (r : Request) (s : State) : Out :=
  serve opCameraEnable (camUnit r) r s (checksCameraEnable r) (doneCameraEnable r)

/-- Refusals of FSYNC_SET. -/
def checksFsyncSet (r : Request) (_s : State) : List (Bool × Status) :=
  let period := r.u 4 4
  let width := r.u 12 2
  [(!portOk r || r.u 1 1 > 1 || !r.zero 2 2 || !inRange period 1000 1000000 || r.u 8 4 ≥ 1000 * period ||
      !inRange width 1 1000 || width ≥ period || !r.zero 14 2, .badParam)]

/-- Effect of FSYNC_SET. -/
def doneFsyncSet (r : Request) (s : State) : State :=
  let n := r.u 0 1
  let period := r.u 4 4
  let width := r.u 12 2
  let f : Fsync := { on := bit (r.u 1 1) 0, periodUs := period, phaseNs := r.u 8 4, widthUs := width }
  answer opFsyncSet (camUnit r) r [] (s.modCam n fun c => { c with newFsync := some (f, s.time) })

/-- FSYNC_SET (R549, R565). -/
def execFsyncSet (r : Request) (s : State) : Out :=
  serve opFsyncSet (camUnit r) r s (checksFsyncSet r) (doneFsyncSet r)

/-- Refusals of CTRL_XFER. -/
def checksCtrlXfer (r : Request) (s : State) : List (Bool × Status) :=
  let n := r.u 0 1
  let wr := r.u 2 2
  let rd := r.u 4 2
  [(portOk r && !(s.cam n).live, .wrongMode),
      (!portOk r || !inRange (r.u 1 1) 8 0x77 || wr > 256 || rd > 256 || !r.zero 6 2 || r.len != 8 + wr, .badParam)]

/-- Effect of CTRL_XFER. -/
def doneCtrlXfer (r : Request) (s : State) : State :=
  let wr := r.u 2 2
  let rd := r.u 4 2
  let k := s.freeCount
  let s := s.spend (2 + rd)
  let outcome := (Config.free 2 k).toNat
  if outcome = 3 then refuse opCtrlXfer (camUnit r) r .timeout s
  else if outcome = 2 then
    refuseWith opCtrlXfer (camUnit r) r .hwFault (le 2 ((Config.free 16 (k + 1)).toNat % (wr + 1)) ++ le 2 0) s
  else answer opCtrlXfer (camUnit r) r (freeBytes (k + 2) rd) s

/-- CTRL_XFER (R548, R566): what the camera acknowledges, holds and returns is its own: free values (assumption 3). -/
def execCtrlXfer (r : Request) (s : State) : Out :=
  serve opCtrlXfer (camUnit r) r s (checksCtrlXfer r) (doneCtrlXfer r)

/-- Measured average pixel rate over the last 1 s, kpixel/s (R566). -/
def Camera.rateKpx (c : Camera) (now : Nat) : Nat :=
  ((c.recent.filter fun p => now < p.2 + sec).map (·.1)).sum / 1000

/-- PORT_STATUS reply (R566). -/
def State.camReply (s : State) (n : Nat) : List Byte :=
  let c := s.cam n
  le 8 s.time ++ le 1 n ++ le 1 c.state.code ++ le 1 c.cause ++ le 1 c.peak ++ le 4 c.frameNo.toNat ++ le 2 c.pocMa ++ le 2 0 ++
    le 4 c.delivered.toNat ++ le 4 c.dropped.toNat ++ le 4 c.crcErr.toNat ++ le 4 (c.rateKpx s.time) ++ le 8 c.lastFs ++ le 4 0

/-- Refusals of CAMERA_PORT_STATUS. -/
def checksCameraPortStatus (r : Request) (_s : State) : List (Bool × Status) :=
  [(!portOk r || !r.zero 1 3, .badParam)]

/-- Effect of CAMERA_PORT_STATUS. -/
def doneCameraPortStatus (r : Request) (s : State) : State :=
  answer opCameraPortStatus (camUnit r) r (s.camReply (r.u 0 1)) s

/-- PORT_STATUS (R566). -/
def execCameraPortStatus (r : Request) (s : State) : Out :=
  serve opCameraPortStatus (camUnit r) r s (checksCameraPortStatus r) (doneCameraPortStatus r)

/-! ### The ports' events (R545–R554) -/

/-- When CAMERA_LINK_LOCK has its effect. -/
def whenCameraLinkLock (_t port : Nat) (s : State) : Bool :=
  s.unitUp (uCam port) && ((s.cam port).state == .powering || (s.cam port).state == .linkDown)

/-- Effect of CAMERA_LINK_LOCK. -/
def doneCameraLinkLock (_t port : Nat) (s : State) : State :=
  (s.modCam port fun c => { c with lockedAt := some s.time }).camState port .linked 1

/-- CAMERA_LINK_LOCK: an A-PHY port reaches link lock (R545). -/
def execCameraLinkLock (t port : Nat) (s : State) : Out :=
  valid (port < 12) <| event t s (whenCameraLinkLock t port) (doneCameraLinkLock t port)

/-- When CAMERA_LINK_LOSS has its effect. -/
def whenCameraLinkLoss (_t port : Nat) (s : State) : Bool :=
  s.unitUp (uCam port) && ((s.cam port).state == .linked || (s.cam port).state == .streaming)

/-- Effect of CAMERA_LINK_LOSS. -/
def doneCameraLinkLoss (_t port : Nat) (s : State) : State :=
  let s := (s.endFrame port [25]).count (uCam port) 27
  (s.modCam port fun c => { c with lockedAt := none }).camState port .linkDown 2

/-- CAMERA_LINK_LOSS: lock is lost for more than 10 µs; the frame in progress ends with LINK_LOST (R545). -/
def execCameraLinkLoss (t port : Nat) (s : State) : Out :=
  valid (port < 12) <| event t s (whenCameraLinkLoss t port) (doneCameraLinkLoss t port)

/-- When POC_OVERCURRENT has its effect. -/
def whenPocOvercurrent (_t port milliamps : Nat) (s : State) : Bool :=
  (s.cam port).live && (s.cam port).poc && milliamps ≥ 600

/-- Effect of POC_OVERCURRENT. -/
def donePocOvercurrent (_t port milliamps : Nat) (s : State) : State :=
  ((s.modCam port fun c => { c with pocMa := milliamps }).count (uCam port) 28).camFault port 3

/-- POC_OVERCURRENT: a port at its 0.6 A limit is switched off (R546). -/
def execPocOvercurrent (t port milliamps : Nat) (s : State) : Out :=
  valid (port < 12) <| event t s (whenPocOvercurrent t port milliamps) (donePocOvercurrent t port milliamps)

/-- Effect of POC_TOTAL_LIMIT. -/
def donePocTotalLimit (_t : Nat) (currents : List Nat) (s : State) : State :=
  let powered := fun (s : State) n => (s.cam n).live && (s.cam n).poc
  let ports := List.range 12
  let s := ports.foldl (fun s n => if powered s n then s.modCam n fun c => { c with pocMa := currents.getD n 0 } else s) s
  if (ports.map fun n => (s.cam n).pocMa).sum < 4000 then s
  else match (ports.filter fun n => powered s n && (s.cam n).pocMa != 0).getLast? with
    | some n => (s.count (uCam n) 28).camFault n 4
    | none => s

/-- POC_TOTAL_LIMIT: at a total of 4.0 A the highest-numbered port that draws power is switched off (R546). -/
def execPocTotalLimit (t : Nat) (currents : List Nat) (s : State) : Out :=
  event t s (fun _ => true) (donePocTotalLimit t currents)

/-- When BRIDGE_SUPPLY_FAULT has its effect. -/
def whenBridgeSupplyFault (_t : Nat) (s : State) : Bool :=
  s.vision.bridgeOn.isSome

/-- Effect of BRIDGE_SUPPLY_FAULT. -/
def doneBridgeSupplyFault (_t : Nat) (s : State) : State :=
  let s := s.modVision fun v => { v with bridgeOn := none }
  [12, 13, 14, 15].foldl (fun s n => if (s.cam n).live then s.camFault n 5 else s) s

/-- BRIDGE_SUPPLY_FAULT: a header V supply exceeds its total; every enabled port of CAM12–CAM15 enters FAULT (R547). -/
def execBridgeSupplyFault (t : Nat) (s : State) : Out :=
  event t s (whenBridgeSupplyFault t) (doneBridgeSupplyFault t)

/-- When BRIDGE_RESET_RELEASE has its effect. -/
def whenBridgeResetRelease (_t : Nat) (s : State) : Bool :=
  s.vision.bridgeOn.any fun t0 => t0 + 10 * ms ≤ s.time

/-- Effect of BRIDGE_RESET_RELEASE. -/
def doneBridgeResetRelease (_t : Nat) (s : State) : State :=
  [12, 13, 14, 15].foldl (fun s n =>
    if (s.cam n).state = .powering && s.unitUp (uCam n) then
      (s.modCam n fun c => { c with bridge := true, lockedAt := some s.time }).camState n .linked 1
    else s) s

/-- BRIDGE_RESET_RELEASE: 10 ms after the supplies are good VXk_RST_N is released, and the port can receive (R547;
assumption 19). -/
def execBridgeResetRelease (t : Nat) (s : State) : Out :=
  event t s (whenBridgeResetRelease t) (doneBridgeResetRelease t)

/-- A frame-sync setting gives a pulse at a module time (R549). -/
def Fsync.pulseAt (f : Fsync) (t : Nat) : Bool :=
  f.on && f.periodUs != 0 && ((t : Int) - f.phaseNs) % (1000 * f.periodUs : Nat) == 0

/-- When FSYNC_PULSE has its effect. -/
def whenFsyncPulse (_t port : Nat) (s : State) : Bool :=
  s.unitUp (uCam port) && (s.cam port).live

/-- Effect of FSYNC_PULSE. -/
def doneFsyncPulse (_t port : Nat) (s : State) : State :=
  s.modCam port fun c =>
    let pulse := fun (c : Camera) => if c.fsync.pulseAt s.time then { c with pulses := c.pulses + 1 } else c
    match c.newFsync with
    | some (f, t0) =>
      if t0 + ms ≤ s.time && (f.pulseAt s.time || !f.on) then pulse { c with fsync := f, newFsync := none } else pulse c
    | none => pulse c

/-- FSYNC_PULSE: a pulse at a scheduled module time; a new setting takes effect at its first pulse at least 1 ms after
dispatch (R549). -/
def execFsyncPulse (t port : Nat) (s : State) : Out :=
  valid (port < 16) <| event t s (whenFsyncPulse t port) (doneFsyncPulse t port)

/-- Start of a frame, stamped on VIS's copy of module time (R551, R564). -/
def State.frameStart (s : State) (n : Nat) : State :=
  let s := s.endFrame n [24]
  let c := s.cam n
  let fs := ((s.copyTime islVis : Int) + fieldInt c.cfg 20 4).toNat
  let f : CamFrame :=
    { no := c.frameNo, fsTime := fs, feTime := none, lines := 0, stored := [], taken := [], marks := 0, crcLines := 0,
      embLines := 0, emb := [], drop := none, recorded := false, presented := false, latched := none, lastLine := s.time }
  let s := (s.modCam n fun c => { c with frameNo := c.frameNo + 1, frames := c.frames ++ [f], lastFs := fs }).count (uCam n) 16
  if c.state = .linked then (s.modCam n fun c => { c with lockedAt := none }).camState n .streaming 7 else s

/-- A line of image data in the arriving frame (R552, R554, R558). -/
def State.frameLine (s : State) (n : Nat) (p : CsiPacket) : State :=
  match (s.cam n).arriving with
  | none => s.count (uCam n) 26
  | some f =>
    let c := s.cam n
    if f.lines ≥ c.height then
      let s := if bit f.marks 2 then s else s.count (uCam n) 25
      s.modFrame n f.no fun f => { f with marks := setMark f.marks 18, lastLine := s.time }
    else
      let want := packedBytes c.dataType c.width
      let have_ := p.payload.length
      let line := p.payload.take want ++ List.replicate (want - have_) 0
      let s := if have_ > want then s.markFrame n 22 22 else s
      let s := if have_ < want then s.markFrame n 23 23 else s
      let s := if p.sumOk then s
        else ((s.markFrame n 19 19).modFrame n f.no fun f => { f with crcLines := f.crcLines + 1 }).modCam n fun c =>
          { c with crcErr := c.crcErr + 1 }
      let s := s.modFrame n f.no fun f => { f with lines := f.lines + 1, lastLine := s.time }
      let s := s.modCam n fun c => { c with recent := (c.width, s.time) :: c.recent.filter fun p => s.time < p.2 + sec }
      s.admitLine 256 n f.no line

/-- When CSI_PACKET has its effect. -/
def whenCsiPacket (_t port : Nat) (_p : CsiPacket) (s : State) : Bool :=
  s.unitUp (uCam port) && ((s.cam port).state == .linked || (s.cam port).state == .streaming)

/-- Effect of CSI_PACKET. -/
def doneCsiPacket (_t port : Nat) (p : CsiPacket) (s : State) : State :=
  let c := s.cam port
  match p.header with
  | .lost => s.markFrame port 21 21
  | h =>
    let s := if h = .corrected then s.markFrame port 20 20 else s
    if p.vc != field c.cfg 3 1 then s.count (uCam port) 26
    else if p.dataType = 0 then s.frameStart port
    else if p.dataType = 1 then
      if c.arriving.isSome then s.endFrame port [] else s.count (uCam port) 26
    else if p.dataType = 0x12 then
      (match c.arriving with
        | some f =>
          if f.embLines < field c.cfg 14 1 then
            s.modFrame port f.no fun f => { f with embLines := f.embLines + 1, emb := (f.emb ++ p.payload).take 1024 }
          else s.count (uCam port) 26
        | none => s.count (uCam port) 26)
    else if p.dataType = c.dataType then s.frameLine port p
    else s.count (uCam port) 26

/-- CSI_PACKET (R550–R554, R558). -/
def execCsiPacket (t port : Nat) (p : CsiPacket) (s : State) : Out :=
  valid (port < 16) <| event t s (whenCsiPacket t port p) (doneCsiPacket t port p)

/-- When FRAME_TIMEOUT has its effect. -/
def whenFrameTimeout (_t port : Nat) (s : State) : Bool :=
  (s.cam port).arriving.any fun f => f.lastLine + (s.cam port).timeoutNs ≤ s.time

/-- Effect of FRAME_TIMEOUT. -/
def doneFrameTimeout (_t port : Nat) (s : State) : State :=
  s.endFrame port [24]

/-- FRAME_TIMEOUT: no FE within FRAME_TIMEOUT_MS of the last line (R552). -/
def execFrameTimeout (t port : Nat) (s : State) : Out :=
  valid (port < 16) <| event t s (whenFrameTimeout t port) (doneFrameTimeout t port)

/-- When NO_FRAMES_TIMEOUT has its effect. -/
def whenNoFramesTimeout (_t port : Nat) (s : State) : Bool :=
  let due := fun (s : State) =>
    s.unitUp (uCam port) && (s.cam port).enabling != [] && (s.cam port).state == .linked &&
      (s.cam port).lockedAt.any fun t0 => t0 + (s.cam port).timeoutNs ≤ s.time
  due s

/-- Effect of NO_FRAMES_TIMEOUT. -/
def doneNoFramesTimeout (_t port : Nat) (s : State) : State :=
  s.camFault port 6

/-- NO_FRAMES_TIMEOUT: no FS within FRAME_TIMEOUT_MS of link lock, while the port is being turned on (R564). -/
def execNoFramesTimeout (t port : Nat) (s : State) : Out :=
  valid (port < 16) <| event t s (whenNoFramesTimeout t port) (doneNoFramesTimeout t port)

/-- When FRAME_END has its effect. -/
def whenFrameEnd (_t port : Nat) (s : State) : Bool :=
  let next := fun (s : State) => (s.cam port).frames.find? fun f =>
    !f.recorded && f.feTime.isSome && (f.drop.isSome || f.presented || f.stored == [])
  (next s).isSome

/-- Effect of FRAME_END. -/
def doneFrameEnd (_t port : Nat) (s : State) : State :=
  let next := fun (s : State) => (s.cam port).frames.find? fun f =>
    !f.recorded && f.feTime.isSome && (f.drop.isSome || f.presented || f.stored == [])
  match next s with
  | some f => s.recordFrame port f.no
  | none => s

/-- FRAME_END: the record of the oldest frame that has ended and whose fate is settled (R555). -/
def execFrameEnd (t port : Nat) (s : State) : Out :=
  valid (port < 16) <| event t s (whenFrameEnd t port) (doneFrameEnd t port)

/-! ### The pipelines (R556–R558, R569–R582) -/

/-- A port holds a line that the pipeline can take. -/
def Camera.lineReady (c : Camera) : Bool := c.frames.any fun f => f.stored != []

/-- The port whose line goes next in deficit round robin, each port's quantum its PIXEL_RATE and a line's cost its WIDTH
(R557; assumption 20). -/
def State.nextPort : Nat → Nat → State → State
  | 0, _, s => s
  | fuel + 1, k, s =>
    let n := (s.pipe k).turn
    let c := s.cam n
    if c.cfg != [] && c.pipeNo == k && c.lineReady && c.deficit ≥ c.width then s
    else
      let s := if c.lineReady then s else s.modCam n fun c => { c with deficit := 0 }
      let m := (n + 1) % 16
      let s := s.modPipe k fun p => { p with turn := m }
      let s := if (s.cam m).lineReady && (s.cam m).pipeNo == k then
          s.modCam m fun c => { c with deficit := c.deficit + c.pixelRate }
        else s
      State.nextPort fuel k s

/-- Take the oldest stored line of a port; the first line of a frame latches the parameters and the outputs (R571, R585). -/
def State.takeLine (s : State) (n : Nat) : State :=
  match (s.cam n).frames.find? fun f => f.stored != [] with
  | none => s
  | some f =>
    let c := s.cam n
    let cfgs : Bank (List Byte) := ⟨c.outputs.entries.map fun e => (e.1, e.2.cfg)⟩
    let s := s.modCam n fun c => { c with deficit := c.deficit - c.width }
    s.modFrame n f.no fun f =>
      { f with taken := f.taken ++ f.stored.take 1, stored := f.stored.drop 1,
               latched := some (f.latched.getD (c.paramSeq, c.stages, cfgs)) }

/-- The drain rate of a pipeline, Mpixel/s × 100 (R556): the PERCENT of a throttle of VIS, or the fixed rate of crank hold. -/
def State.drainRate (s : State) : Nat := if s.power.crank.isSome then 25000 else 2000 * s.power.pct islVis

/-- When PIPELINE_LINE has its effect. -/
def whenPipelineLine (t pipe : Nat) (s : State) : Bool :=
  let ready := fun (s : State) => s.unitUp (uPipe pipe) && decide (0 < s.drainRate) && decide ((s.pipe pipe).freeAt ≤ t) &&
    (s.portsOf pipe).any fun n => (s.cam n).lineReady
  ready s

/-- Effect of PIPELINE_LINE. -/
def donePipelineLine (_t pipe : Nat) (s : State) : State :=
  let s := s.nextPort 131072 pipe
  let n := (s.pipe pipe).turn
  let s := s.modPipe pipe fun p => { p with freeAt := s.time + (s.cam n).width * 100000 / max 1 s.drainRate }
  if (s.cam n).lineReady then s.takeLine n else s

/-- PIPELINE_LINE: a pipeline takes a line from its store, and no other before the drain rate lets it (R556, R557, R569). -/
def execPipelineLine (t pipe : Nat) (s : State) : Out :=
  valid (pipe < 2) <| event t s (whenPipelineLine t pipe) (donePipelineLine t pipe)

/-- Fields of OUTPUT_SET in force for a frame. -/
def outField (cfg : List Byte) (off size : Nat) : Nat := field cfg off size

/-- The image header (R579). -/
def imageHeader (f : CamFrame) (n k w h lines : Nat) (flags stride plane1 cropX cropY seq : Nat) (format : Nat) : List Byte :=
  le 4 f.no.toNat ++ le 1 n ++ le 1 k ++ le 1 format ++ le 1 flags ++ le 2 w ++ le 2 h ++ le 2 lines ++ le 2 0 ++ le 4 stride ++
    le 4 plane1 ++ le 2 cropX ++ le 2 cropY ++ le 4 seq ++ le 8 f.fsTime ++ le 8 (f.feTime.getD 0) ++ le 16 0

/-- The image a tap copies: its bytes for the rows of its window that were received (R573, R574, R581). -/
def tapBytes (cfg : List Byte) (f : CamFrame) (p : Planes) (k format x y w h : Nat) : List Byte :=
  let dt := field cfg 4 1
  let rows := fun {α : Type} (l : List α) => (l.drop y).take h
  let crop := fun {α : Type} (r : List α) => (r.drop x).take w
  if k = 0 then
    (rows f.taken).map (fun l =>
      if format = 1 then (l.drop (packedBytes dt x)).take (packedBytes dt w)
      else if isRaw dt then ((List.range w).map fun i => le 2 (rawPixel dt l (x + i))).flatten
      else ((List.range w).map fun i => (l.drop (packedBytes dt (x + i))).take 2).flatten) |>.flatten
  else if k = 1 then ((rows p.mosaic).map fun r => ((crop r).map fun v => le 2 v).flatten).flatten
  else if k = 2 then encodeRgb 3 ((rows p.linear).map crop)
  else encodeRgb format ((rows p.tone).map crop)

/-- Present one message of an output, or count it where no stream stands on its port (R578, R579). -/
def State.emitOutput (s : State) (n k pipe : Nat) (f : CamFrame) (body : List Byte) : State :=
  let u := uPipe pipe
  let port := 1 + 8 * n + k
  let mod := fun (g : CamOutput → CamOutput) (s : State) =>
    s.modCam n fun c => { c with outputs := c.outputs.upd k CamOutput.reset g }
  match s.producedBy u port with
  | none => (mod (fun o => { o with noStream := o.noStream + 1 }) s).count u 19
  | some _ =>
    let s := mod (fun o => { o with messages := o.messages + 1, lastFrame := f.no, skipped := false }) s
    (s.count u 20).present u port { time := f.fsTime, marks := f.marks, body := body }

/-- A presentation stream withholds a frame (R581, R592). -/
def State.withhold (s : State) (n k pipe : Nat) (f : CamFrame) : State :=
  let mod := fun (g : CamOutput → CamOutput) (s : State) =>
    s.modCam n fun c => { c with outputs := c.outputs.upd k CamOutput.reset g }
  let s := mod (fun o => { o with withheld := o.withheld + 1, skipped := true, first := some (o.first.getD (f.no, f.lines)) })
    (s.count (uPipe pipe) 18)
  let o := (s.cam n).outputs.rd k CamOutput.reset
  if (o.toldAt.map fun t => decide (t + 100 * ms ≤ s.time)).getD true then
    let x := o.first.getD (f.no, f.lines)
    (mod (fun o => { o with toldAt := some s.time, first := none }) s).raise (uPipe pipe) 0x3101
      (le 1 n ++ le 1 k ++ le 1 1 ++ le 1 0 ++ le 4 x.1.toNat ++ le 2 x.2 ++ le 2 0 ++ le 4 o.withheld.toNat)
  else s

/-- One output of a finished frame (R573–R581). -/
def State.frameOutput (s : State) (n : Nat) (f : CamFrame) (p : Planes) (seq k : Nat) (cfg : List Byte) : State :=
  let c := s.cam n
  let pipe := c.pipeNo
  let format := field cfg 3 1
  let x := field cfg 4 2
  let y := field cfg 6 2
  let cw := field cfg 8 2
  let ch := field cfg 10 2
  let w := field cfg 12 2
  let h := field cfg 14 2
  let stride := strideOf format c.dataType w
  let skip := flag ((c.outputs.rd k CamOutput.reset).skipped)
  if cfg = [] || f.no.toNat % max 1 (field cfg 16 1) != 0 then s
  else if k < 4 then
    let lines := min h (f.taken.length - y)
    if lines = 0 then s
    else s.emitOutput n k pipe f (imageHeader f n k w h lines (flag (lines < h) + 2 * skip) stride 0 x y seq format ++
      tapBytes c.cfg f p k format x y w h)
  else if f.lines * 1000 < field cfg 18 2 * c.height || f.taken = [] then s.withhold n k pipe f
  else
    let (img, lines) := presentation p.tone x y cw ch (field cfg 17 1) w h
    let plane1 := if format = 6 then 64 + w * h else 0
    s.emitOutput n k pipe f (imageHeader f n k w h lines (flag (lines < h) + 2 * skip) stride plane1 x y seq format ++
      encodeRgb format img)

/-- When PIPELINE_FRAME_OUTPUT has its effect. -/
def whenPipelineFrameOutput (_t port : Nat) (s : State) : Bool :=
  let next := fun (s : State) => (s.cam port).frames.find? fun f => f.alive && f.feTime.isSome && f.stored == []
  s.unitUp (uPipe (s.cam port).pipeNo) && (next s).isSome

/-- Effect of PIPELINE_FRAME_OUTPUT. -/
def donePipelineFrameOutput (_t port : Nat) (s : State) : State :=
  let next := fun (s : State) => (s.cam port).frames.find? fun f => f.alive && f.feTime.isSome && f.stored == []
  match next s with
  | none => s
  | some f =>
    let c := s.cam port
    let f := { f with marks := if c.droppedBefore && !f.recorded then setMark f.marks 16 else f.marks }
    let cfgs : Bank (List Byte) := ⟨c.outputs.entries.map fun e => (e.1, e.2.cfg)⟩
    let (seq, stages, outs) := f.latched.getD (c.paramSeq, c.stages, cfgs)
    let p := process c.cfg stages f.taken
    let k := c.pipeNo
    let s := ((s.modPipe k fun x => { x with frames := x.frames + 1 }).count (uPipe k) 16).countN (uPipe k) 21 p.replaced
    let s := outs.entries.foldl (fun s e => s.frameOutput port f p seq.toNat e.1 e.2) s
    (s.modFrame port f.no fun g => { g with presented := true, taken := [], marks := f.marks }).forgetFrames port

/-- PIPELINE_FRAME_OUTPUT: a frame has ended and its last line has been taken: every enabled output presents its message
(R571, R577–R582, R585). -/
def execPipelineFrameOutput (t port : Nat) (s : State) : Out :=
  valid (port < 16) <| event t s (whenPipelineFrameOutput t port) (donePipelineFrameOutput t port)

/-! ### The Pipeline family (R588–R591) -/

/-- The pipeline unit of a camera. -/
def State.pipeUnit (s : State) (r : Request) : Nat := uPipe (min 1 (s.cam (min 15 (r.u 0 1))).pipeNo)

/-- Size of a stage's parameter block (R589). -/
def stageSize (stage : Nat) : Option Nat :=
  if stage = 2 then some 8 else if stage = 3 then some 4 else if stage = 4 then some 2312 else if stage = 5 then some 8
  else if stage = 6 then some 4 else if stage = 7 then some 24 else if stage = 8 then some 2050 else none

/-- STAGE_SET lies outside R569 or R589. -/
def stageBad (r : Request) : Bool :=
  let st := r.u 1 1
  !portOk r || r.u 2 1 > 1 || !r.zero 3 1 || (stageSize st).map (· + 4) != some r.len || (st == 6 && r.u 2 1 == 1) ||
    (st == 2 && (List.range 4).any fun i => r.u (4 + 2 * i) 2 > 32767) ||
    (st == 3 && (r.u 4 2 == 0 || !r.zero 6 2)) || (st == 6 && !r.zero 6 2)

/-- Refusals of STAGE_SET. -/
def checksStageSet (r : Request) (_s : State) : List (Bool × Status) :=
  [(stageBad r, .badParam)]

/-- Effect of STAGE_SET. -/
def doneStageSet (r : Request) (s : State) : State :=
  let n := r.u 0 1
  let p : StageParam := { bypass := bit (r.u 2 1) 0, block := r.payload.drop 4 }
  let s' := s.modCam n fun c => { c with stages := c.stages.put (r.u 1 1) p, paramSeq := c.paramSeq + 1 }
  answer opStageSet (s.pipeUnit r) r (le 4 (s'.cam n).paramSeq.toNat) s'

/-- STAGE_SET (R571, R589). -/
def execStageSet (r : Request) (s : State) : Out :=
  serve opStageSet (s.pipeUnit r) r s (checksStageSet r) (doneStageSet r)

/-- Formats an output permits (R573, R574). -/
def outFormats (k : Nat) : List Nat :=
  if k = 0 then [1, 2] else if k = 1 then [2] else if k = 2 then [3] else if k = 3 then [3, 4, 5] else [4, 5, 6, 7]

/-- Largest body of an output (R583, R590). -/
def bodyMax (cfg : List Byte) (dt : Nat) : Nat :=
  if cfg = [] then 0 else bodyLength (field cfg 3 1) dt (field cfg 12 2) (field cfg 14 2)

/-- OUTPUT_SET that enables lies outside R573, R575, R577, R583 or R590. -/
def Camera.outputBad (c : Camera) (r : Request) : Bool :=
  let k := r.u 1 1
  let format := r.u 3 1
  let x := r.u 4 2
  let y := r.u 6 2
  let cw := r.u 8 2
  let ch := r.u 10 2
  let w := r.u 12 2
  let h := r.u 14 2
  let odd := fun n => n % 2 == 1
  !(outFormats k).contains format || cw == 0 || ch == 0 || x + cw > c.width || y + ch > c.height ||
    (k == 1 && !isRaw c.dataType) || (isRaw c.dataType && (odd x || odd y || odd cw || odd ch)) ||
    (format == 1 && (x % 4 != 0 || cw % 4 != 0)) || (format == 6 && (odd w || odd h)) || (format == 7 && odd w) ||
    !inRange (r.u 16 1) 1 16 ||
    (if k < 4 then w != cw || h != ch || r.u 17 1 != 0 || r.u 18 2 != 0
     else w == 0 || h == 0 || w > cw || h > ch || w * 16 < cw || h * 16 < ch || r.u 17 1 > 3 || !inRange (r.u 18 2) 1 1000) ||
    bodyLength format c.dataType w h > 67108864

/-- Frames per 1,000 s of an output, from PORT_CONFIG and FRAME_DIV (R583; assumption 18). -/
def Camera.rateOf (c : Camera) (cfg : List Byte) (amount : Nat) : Nat :=
  amount * c.pixelRate * 1000 / max 1 (c.width * c.height * max 1 (field cfg 16 1))

/-- Presentation pixels per second of an output. -/
def Camera.presRate (c : Camera) (k : Nat) (cfg : List Byte) : Nat :=
  if cfg = [] || k < 4 then 0 else c.rateOf cfg (field cfg 12 2 * field cfg 14 2)

/-- Tap bytes per second of an output. -/
def Camera.tapRate (c : Camera) (k : Nat) (cfg : List Byte) : Nat :=
  if cfg = [] || k ≥ 4 then 0 else c.rateOf cfg (bodyMax cfg c.dataType)

/-- A rate summed over the enabled outputs of a pipeline's cameras, but for one output. -/
def State.pipeRate (s : State) (pipe : Nat) (f : Camera → Nat → List Byte → Nat) (skip : Option (Nat × Nat)) : Nat :=
  ((s.portsOf pipe).map fun n => ((s.cam n).outputs.entries.map fun e =>
    if skip = some (n, e.1) then 0 else f (s.cam n) e.1 e.2.cfg).sum).sum

/-- Enabling the output would exceed a limit of its pipeline (R583). -/
def State.outputFull (s : State) (r : Request) : Bool :=
  let n := r.u 0 1
  let k := r.u 1 1
  let c := s.cam n
  s.pipeRate c.pipeNo Camera.presRate (some (n, k)) + c.presRate k r.payload > 1000000000 ||
    s.pipeRate c.pipeNo Camera.tapRate (some (n, k)) + c.tapRate k r.payload > 24000000000

/-- Refusals of OUTPUT_SET. -/
def checksOutputSet (r : Request) (s : State) : List (Bool × Status) :=
  let n := r.u 0 1
  let k := r.u 1 1
  let on := r.u 2 1 = 1
  let bad := fun (s : State) => !portOk r || k > 7 || r.u 2 1 > 1 || !r.zero 20 4 || (on && (s.cam n).outputBad r)
  [(bad s, .badParam), (!bad s && on && s.outputFull r, .noSpace)]

/-- Effect of OUTPUT_SET. -/
def doneOutputSet (r : Request) (s : State) : State :=
  let n := r.u 0 1
  let k := r.u 1 1
  let on := r.u 2 1 = 1
  let cfg := if on then r.payload else []
  let u := s.pipeUnit r
  let s := s.modCam n fun c => { c with outputs := c.outputs.upd k CamOutput.reset fun o => { o with cfg := cfg } }
  answer opOutputSet u r (le 2 (1 + 8 * n + k) ++ le 2 0 ++ le 4 (bodyMax cfg (s.cam n).dataType)) s

/-- OUTPUT_SET (R585, R590). -/
def execOutputSet (r : Request) (s : State) : Out :=
  serve opOutputSet (s.pipeUnit r) r s (checksOutputSet r) (doneOutputSet r)

/-- Refusals of OUTPUT_STATUS. -/
def checksOutputStatus (r : Request) (_s : State) : List (Bool × Status) :=
  let k := r.u 1 1
  [(!portOk r || k > 7 || !r.zero 2 2, .badParam)]

/-- Effect of OUTPUT_STATUS. -/
def doneOutputStatus (r : Request) (s : State) : State :=
  let n := r.u 0 1
  let k := r.u 1 1
  let u := s.pipeUnit r
  let o := (s.cam n).outputs.rd k CamOutput.reset
  let st := if o.cfg = [] then 0 else if (s.producedBy u (1 + 8 * n + k)).isSome then 2 else 1
  answer opOutputStatus u r
    (le 8 s.time ++ le 1 n ++ le 1 k ++ le 1 st ++ le 1 (field o.cfg 3 1) ++ le 4 (bodyMax o.cfg (s.cam n).dataType) ++
      le 4 o.messages.toNat ++ le 4 o.withheld.toNat ++ le 4 o.noStream.toNat ++ le 4 o.lastFrame.toNat) s

/-- OUTPUT_STATUS (R591). -/
def execOutputStatus (r : Request) (s : State) : Out :=
  serve opOutputStatus (s.pipeUnit r) r s (checksOutputStatus r) (doneOutputStatus r)

/-- STATE and PERCENT of PIPE_STATUS (R556, R591). -/
def State.pipeState (s : State) (k : Nat) : Nat × Nat :=
  let crank := s.power.crank.isSome
  let pct := s.power.pct islVis
  (if s.fenced (uPipe k) then 3 else if crank then 2 else if pct < 100 then 1 else 0, if crank then 12 else pct)

/-- Refusals of PIPE_STATUS. -/
def checksPipeStatus (r : Request) (_s : State) : List (Bool × Status) :=
  let k := r.u 0 1
  [(k > 1 || !r.zero 1 3, .badParam)]

/-- Effect of PIPE_STATUS. -/
def donePipeStatus (r : Request) (s : State) : State :=
  let k := r.u 0 1
  let (st, pct) := s.pipeState k
  let ports := s.portsOf k
  answer opPipeStatus (supervisorOf islVis) r
    (le 8 s.time ++ le 1 k ++ le 1 st ++ le 1 pct ++ le 1 ports.length ++
      le 4 ((ports.map fun n => (s.cam n).pixelRate).sum) ++ le 4 (s.pipeRate k Camera.presRate none / 1000) ++
      le 4 (s.pipeRate k Camera.tapRate none / 1000000) ++ le 4 (s.pipe k).frames.toNat ++ le 4 (s.pipe k).aborted.toNat) s

/-- PIPE_STATUS (R591); the island supervisor answers it, so that it can report a fenced pipeline (assumption 21). -/
def execPipeStatus (r : Request) (s : State) : Out :=
  serve opPipeStatus (supervisorOf islVis) r s (checksPipeStatus r) (donePipeStatus r)

end Sys2Proof.Machine
end

