-- ==== Sys2Proof/Machine/ChannelOps.lean ====
section
/-! DEFINITION. Reading the power stage, the loops, the instances and the field inputs: what the control engine, the switch
channels, the machine functions and the section engine ask of each other (10–13). -/

namespace Sys2Proof.Machine

/-- Length of a loop tick (R345), ns. -/
def tickNs : Nat := 50000

/-- Start of the first loop tick after module time `t` (R418). -/
def tickAfter (t : Nat) : Nat := (t / tickNs + 1) * tickNs

/-! ### Channels (12) -/

/-- Classes of channel (R415). -/
inductive SwClass where
  | hc
  | mc
  | pv
  deriving DecidableEq, Repr

/-- Class of channel `c` (R416). -/
def swClass (c : Nat) : SwClass := if c < 8 then .hc else if c < 32 then .mc else .pv

/-- Index of the group unit of channel `c`, 0–5 (R416). -/
def swGroup (c : Nat) : Nat :=
  if c < 4 then 0 else if c < 8 then 1 else if c < 20 then 2 else if c < 32 then 3 else if c < 40 then 4 else 5

/-- Group unit of channel `c` (R416). -/
def swUnit (c : Nat) : Nat := uGroup (swGroup c)

/-- Supply group of channel `c` (R416). -/
def swSupply (c : Nat) : Grp := if swGroup c % 2 = 0 then .a else .b

/-- The HC group unit that carries a supply group's own functions (R427). -/
def grpUnit : Grp → Nat
  | .a => uGroup 0
  | .b => uGroup 1

/-- Channels of a supply group. -/
def grpChannels (g : Grp) : List Nat := (List.range 48).filter fun c => swSupply c == g

/-- Channel `c`. -/
def State.sw (s : State) (c : Nat) : Switch := s.stage.chans.rd c Switch.reset

/-- Change channel `c`. -/
def State.modSw (s : State) (c : Nat) (f : Switch → Switch) : State :=
  s.modStage fun p => { p with chans := p.chans.upd c Switch.reset f }

/-- A supply group. -/
def State.supplyGroup (s : State) : Grp → Group
  | .a => s.stage.groupA
  | .b => s.stage.groupB

/-- Change a supply group. -/
def State.modGroup (s : State) (g : Grp) (f : Group → Group) : State :=
  s.modStage fun p => match g with
    | .a => { p with groupA := f p.groupA }
    | .b => { p with groupB := f p.groupB }

/-- The group is cut for overvoltage (R89). -/
def State.groupCut (s : State) : Grp → Bool
  | .a => s.power.cutA
  | .b => s.power.cutB

/-- The group's stud is lost (R91). -/
def State.groupLost (s : State) : Grp → Bool
  | .a => s.power.lostA
  | .b => s.power.lostB

/-- The group has a supply for its channels (R89–R91). -/
def State.supplied (s : State) (g : Grp) : Bool := !s.groupCut g && !s.groupLost g && !s.power.reversed

/-- CONFIG bytes 4–39 as shipped (R417, R443, R445; SAFE_LEVEL and the dither are assumption 2). -/
def shippedSwitch (c : Nat) : List Byte :=
  let k := swClass c
  let by3 := fun (a b d : Nat) => match k with
    | .hc => a
    | .mc => b
    | .pv => d
  le 1 c ++ le 1 (by3 0 0 3) ++ le 1 4 ++ le 1 2 ++ le 2 (by3 400 100 75) ++ le 1 65 ++ le 1 0xFF ++ le 2 100 ++ le 1 10 ++
    le 1 1 ++ le 1 0xFF ++ le 1 4 ++ le 2 500 ++ le 2 (by3 500 100 50) ++ le 2 (by3 200 200 2000) ++ le 2 1280 ++ le 2 900 ++
    le 4 0 ++ le 2 0 ++ le 2 0 ++ le 2 1000 ++ le 2 0

/-- CONFIG bytes 4–39 in force (R445). -/
def State.swConfig (s : State) (c : Nat) : List Byte := if (s.sw c).cfg = [] then shippedSwitch c else (s.sw c).cfg

/-- The CONFIG field at an offset of R445. -/
def State.swCfg (s : State) (c off size : Nat) : Nat := field (s.swConfig c) (off - 4) size

/-- FLAGS bit `b` of CONFIG (R445). -/
def State.swFlag (s : State) (c b : Nat) : Bool := bit (s.swCfg c 6 1) b

/-- RETRIES in force (R417). -/
def State.swRetries (s : State) (c : Nat) : Nat :=
  let x := s.swCfg c 11 1
  if x = 0xFF then ([1, 0, 0, 1, 1, 3] : List Nat).getD (s.swCfg c 5 1) 1 else x

/-- INRUSH_MS in force (R417). -/
def State.swInrush (s : State) (c : Nat) : Nat :=
  let x := s.swCfg c 16 1
  if x = 0xFF then ([10, 50, 10, 10, 100, 200] : List Nat).getD (s.swCfg c 5 1) 10 else x

/-- RETRIES_LEFT (R449). -/
def State.swLeft (s : State) (c : Nat) : Nat := ((s.sw c).retriesLeft).getD (s.swRetries c)

/-- Value in force (R420). -/
def State.swValue (s : State) (c : Nat) : Nat := ((s.sw c).value).getD (if swClass c == .pv then 0 else 10000)

/-- Highest value of the class (R415). -/
def swMax (c : Nat) : Nat := if swClass c == .pv then 4000000 else 10000

/-- LOAD_KIND FILAMENT or LED: the value is LEVEL (R432). -/
def State.isLamp (s : State) (c : Nat) : Bool := s.swCfg c 5 1 == 1 || s.swCfg c 5 1 == 2

/-- The channel's switch is, or is turning, on. -/
def SwPhase.conducting : SwPhase → Bool
  | .on => true
  | .turningOn _ => true
  | _ => false

/-- THETA_PM (R429), ‰. -/
def Switch.thetaPm (x : Switch) : Nat := (x.theta / 1000000000000).toNat

/-- STATE of a channel (R343, R449). A turn-on that waits comes before what it was on as. -/
def Switch.stateCode (x : Switch) : Nat :=
  if x.fault != 0 then 5
  else match x.phase with
    | .turningOn _ => 6
    | .retryWait _ => 7
    | .deferred _ => 8
    | .noSupply => 9
    | p =>
      if x.safe then 4
      else match x.held with
        | .hold => 2
        | .holdFor _ => 3
        | .none => if p == .on then 1 else 0

/-- HOLD_LEFT_MS (R343). -/
def Switch.holdLeft (x : Switch) (t : Nat) : Nat :=
  match x.held with
  | .holdFor u => satNat 65535 ((u - t + ms - 1) / ms)
  | _ => 0

/-! ### Loops (10) -/

/-- Loop `n`. -/
def State.loop (s : State) (n : Nat) : Loop := s.control.loops.rd n Loop.reset

/-- Change the control engine. -/
def State.modControl (s : State) (f : Control → Control) : State := { s with control := f s.control }

/-- Change loop `n`. -/
def State.modLoop (s : State) (n : Nat) (f : Loop → Loop) : State :=
  s.modControl fun c => { c with loops := c.loops.upd n Loop.reset f }

/-- The unsigned descriptor field at an offset of R349. -/
def Loop.u (l : Loop) (off size : Nat) : Nat := field l.desc off size

/-- The signed 32-bit descriptor field at an offset of R349. -/
def Loop.v (l : Loop) (off : Nat) : Int := fieldInt l.desc off 4

/-- Switch channel a descriptor's destination names (R349). -/
def descChannel (d : List Byte) : Option Nat :=
  if field d 128 1 = 1 then some (32 + field d 129 1) else if field d 128 1 = 2 then some (field d 129 1) else none

/-- Inner loop a descriptor's destination names (R360). -/
def descInner (d : List Byte) : Option Nat := if field d 128 1 = 3 then some (field d 129 1) else none

/-- DIVIDER. -/
def Loop.divider (l : Loop) : Nat := l.u 2 2

/-- Unit of the loop's lane (R345). -/
def Loop.unit (l : Loop) : Nat := uLane l.lane

/-- The loop holds its destination (R356); a CLOSE not yet executed counts. -/
def Loop.holds (l : Loop) : Bool :=
  l.state == .closed || l.state == .tuning || l.closing.isSome || (l.state == .open && l.reserved)

/-- Loop, other than `except`, that holds the destination (kind, index) of R349. -/
def State.destHolder (s : State) (kind index : Nat) (except_ : Option Nat) : Option Nat :=
  (s.control.loops.entries.find? fun e => some e.1 != except_ && e.2.holds && e.2.u 128 1 == kind && e.2.u 129 1 == index).map
    (·.1)

/-- Loop that holds channel `c` (R356). -/
def State.holder (s : State) (c : Nat) : Option Nat :=
  (s.control.loops.entries.find? fun e => e.2.holds && descChannel e.2.desc == some c).map (·.1)

/-- Channel at the end of a loop's chain (R368); a chain is at most four loops deep (R360). -/
def State.chainEnd (s : State) : Nat → Nat → Option Nat
  | 0, _ => none
  | fuel + 1, n =>
    match descInner (s.loop n).desc with
    | some m => s.chainEnd fuel m
    | none => descChannel (s.loop n).desc

/-! ### Instances (11) -/

/-- Instance `n`. -/
def State.inst (s : State) (n : Nat) : Instance := s.functions.insts.rd n Instance.reset

/-- Change the machine functions. -/
def State.modFunctions (s : State) (f : Functions → Functions) : State := { s with functions := f s.functions }

/-- Change instance `n`. -/
def State.modInst (s : State) (n : Nat) (f : Instance → Instance) : State :=
  s.modFunctions fun x => { x with insts := x.insts.upd n Instance.reset f }

/-- The bindings of a role (R387), in order. -/
def Instance.role (x : Instance) (k : Nat) : List Binding := x.binds.filter fun b => b.role == k

/-- Loops an instance binds: AUX_LOOP loops and then the MAIN_LOOP, the order in which they close (R391). -/
def Instance.loops (x : Instance) : List Nat := ((x.role 2) ++ (x.role 1)).map (·.ref)

/-- ON_CHANNEL channels, in binding order (R391). -/
def Instance.chans (x : Instance) : List Nat := (x.role 5).map (·.ref)

/-- Channel `c` is an ON_CHANNEL of the instance. -/
def Instance.binds? (x : Instance) (c : Nat) : Bool := x.chans.contains c

/-- Instance that binds channel `c` (R388: at most one). -/
def State.chanOwner (s : State) (c : Nat) : Option (Nat × Instance) := s.functions.insts.entries.find? fun e => e.2.binds? c

/-- An instance that is not STOPPED owns channel `c` (R389, R420). -/
def State.ownedChannel (s : State) (c : Nat) : Bool := (s.chanOwner c).any fun e => e.2.state != .stopped

/-- An instance that is not STOPPED binds loop `n` (R389). -/
def State.ownedLoop (s : State) (n : Nat) : Bool :=
  s.functions.insts.entries.any fun e => e.2.state != .stopped && e.2.loops.contains n

/-- Instance that binds SP_OUT slot `k` (R389). -/
def State.slotOwned (s : State) (k : Nat) : Bool := s.functions.insts.entries.any fun e => (e.2.role 3).any fun b => b.ref == k

/-- Channel `c` is a working channel (R385). -/
def State.workingChannel (s : State) (c : Nat) : Bool :=
  s.functions.insts.entries.any fun e => tplWorking e.2.template && e.2.binds? c

/-- CTL is released and clocked (R105, R126). -/
def State.ctlRuns (s : State) : Bool := !s.inReset islCtl && s.clocked islCtl

/-- Units a binding stands for (R386, R394). -/
def State.bindingUnits (s : State) (b : Binding) : List Nat :=
  match b.kind with
  | 1 => [(s.loop b.ref).unit]
  | 2 => [swUnit b.ref]
  | 3 => [uSensor]
  | 4 => [uFi]
  | 7 => [uFusion]
  | 8 => [uLane (s.inst b.ref).lane]
  | 9 => [uPlacement]
  | _ => []

/-- The instance is intact (R394). -/
def State.intact (s : State) (x : Instance) : Bool :=
  s.unitUp (uLane x.lane) && (x.binds.all fun b => (s.bindingUnits b).all s.unitUp) &&
    (x.loops.all fun n => (s.loop n).state != .fault) && (x.chans.all fun c => (s.sw c).fault == 0)

/-- A mode lets channel `c` be on without a service command (R130, R421). -/
def State.modeLets (s : State) (m : Mode) (c : Nat) : Bool :=
  match m with
  | .parked => !s.workingChannel c
  | .road => !s.workingChannel c
  | .fieldReady => true
  | .working => true
  | .headland => true
  | .limp => s.functions.insts.entries.all fun e => !(tplWorking e.2.template && e.2.binds? c) || s.intact e.2
  | _ => false

/-- A mode lets a loop drive channel `c` (R366, R368). -/
def State.modeLetsLoop (s : State) (m : Mode) (c : Nat) : Bool := m == .service || s.modeLets m c

/-! ### Field inputs (21) -/

/-- Field input `n`. -/
def State.fieldIn (s : State) (n : Nat) : FieldIn := s.fieldIo.fi.rd n FieldIn.reset

/-- The input is marked INVALID, or its unit is absent (R354, R685, R688, R691). -/
def State.fiInvalid (s : State) (n : Nat) : Bool :=
  (s.fieldIn n).broken || s.fieldIo.lost || s.fieldIo.converterFailed || !s.unitUp uFi

/-- Sensor input `n`. -/
def State.sensorIn (s : State) (n : Nat) : SensorIn := s.fieldIo.si.rd n SensorIn.reset

/-- Signal slot `k`: value and sample time (R353). -/
def State.signalSlot (s : State) (k : Nat) : Int × Nat := s.control.signals.rd k (0, 0)

/-- Host value register `k`: value and sample time (R352). -/
def State.hostValue (s : State) (k : Nat) : Int × Nat := s.control.hostValues.rd k (0, 0)

/-- An ENABLE_IN, ENGAGED or other binary binding reads 1 (R387, R395): a field input or a signal slot. -/
def State.readsOne (s : State) (b : Binding) : Bool :=
  if b.kind = 4 then !s.fiInvalid b.ref && (s.fieldIn b.ref).level else (s.signalSlot b.ref).1 != 0

/-! ### Tiles and edges (13) -/

/-- The target's channel, for a module channel. -/
def Target.channel (g : Target) : Option Nat := if g.kind = 1 then some g.index else none

/-- Change the section timing engine. -/
def State.modSections (s : State) (f : Sections → Sections) : State := { s with sections := f s.sections }

/-- The channel is the target of a defined section. -/
def State.sectionTarget (s : State) (c : Nat) : Bool := s.sections.secs.entries.any fun e => e.2.target.channel == some c

end Sys2Proof.Machine
end

