-- ==== Sys2Proof/Machine/EdgeOps.lean ====
section
/-! DEFINITION. The edge queue: queueing, ending and removing edges, and stopping the section engine (13). -/

namespace Sys2Proof.Machine

/-- An IMPLEMENT_SET field (R477), unsigned. -/
def State.impl (s : State) (off size : Nat) : Nat := field s.sections.implement off size

/-- An IMPLEMENT_SET field (R477), signed. -/
def State.implInt (s : State) (off size : Nat) : Int := fieldInt s.sections.implement off size

/-- LEAD_MS (R460); 20 as shipped. -/
def State.leadMs (s : State) : Nat := if s.sections.implement = [] then 20 else s.impl 24 1

/-- ACK_MS (R461); 10 as shipped. -/
def State.ackMs (s : State) : Nat := if s.sections.implement = [] then 10 else s.impl 25 1

/-- SYNC_MS (R459); 100 as shipped. -/
def State.syncMs (s : State) : Nat := if s.sections.implement = [] then 100 else s.impl 26 2

/-- Key of a target in the banks of SEQs and node states. -/
def Target.key (g : Target) : Nat := g.kind * 2 ^ 24 + g.index * 2 ^ 16 + g.node

/-- TARGET, 4 bytes (R453). -/
def Target.bytes (g : Target) : List Byte := le 1 g.kind ++ le 1 g.index ++ le 2 g.node

/-- The target a 4-byte field spells (R453). -/
def targetOf (p : List Byte) (off : Nat) : Target := { kind := field p off 1, index := field p (off + 1) 1, node := field p (off + 2) 2 }

/-- Reserved bits 11:10 of NODE are not 0 (R12, R453). -/
def Target.reserved (g : Target) : Bool := g.node / 1024 % 4 != 0

/-- A target that R453 allows. -/
def Target.ok (g : Target) : Bool :=
  (g.kind == 1 && g.index < 48 && g.node == 0) ||
    (g.kind == 2 && g.node / 1024 % 4 == 0 && g.node / 4096 < 12) ||
    (g.kind == 3 && g.node / 1024 == 0)

/-- The target stands on. -/
def State.targetOn (s : State) (g : Target) : Bool :=
  match g.channel with
  | some c => (s.sw c).cmdOn
  | none => s.sections.nodeOn.rd g.key false

/-- EDGE record body (R467). -/
def Edge.body (e : Edge) : List Byte :=
  e.target.bytes ++ le 1 e.action ++ le 1 (if e.section_.isSome then 1 else 2) ++ le 2 (e.section_.getD 0xFFFF) ++ le 8 e.time ++
    le 4 e.value ++ le 4 e.tag ++ le 1 e.ch ++ le 1 e.seq ++ le 6 0

/-- Change the edges that meet `p`. -/
def State.modEdges (s : State) (p : Edge → Bool) (f : Edge → Edge) : State :=
  s.modSections fun x => { x with edges := mapIf p f x.edges }

/-- Change edge `id`. -/
def State.modEdge (s : State) (id : Nat) (f : Edge → Edge) : State := s.modEdges (fun e => e.id == id) f

/-- Edge `id`. -/
def State.edge (s : State) (id : Nat) : Option Edge := s.sections.edges.find? fun e => e.id == id

/-- EDGE_DONE fields (R481). -/
def edgeDone (q : ScheduleReq) : List Byte :=
  le 1 q.results.length ++ le 3 0 ++
    q.results.flatMap fun x =>
      let (r, f, e) := x.getD (0, 0, 0)
      le 1 r ++ le 1 f ++ le 2 0 ++ leInt 4 (clampInt (-2147483648) 2147483647 e)

/-- Record the end of entry `i` of a SCHEDULE; EDGE_DONE is written when the last entry has ended (R481). -/
def State.endScheduleEntry (s : State) (e : Edge) (result flags : Nat) (err : Int) : State :=
  let set := fun (q : ScheduleReq) => { q with results := q.results.set e.entry.2 (some (result, flags, err)) }
  let s := s.modSections fun x => { x with schedules := mapIf (fun q => q.serial == e.entry.1) set x.schedules }
  match s.sections.schedules.find? fun q => q.serial == e.entry.1 with
  | some q =>
    if q.results.all Option.isSome then
      let s := s.modSections fun x => { x with schedules := x.schedules.filter fun y => y.serial != q.serial }
      match q.req with
      | some r => s.complete uSection 0x1301 (edgeDone q) r false (q.results.any fun x => x.any fun y => y.1 != 0)
      | none => s
    else s
  | none => s

/-- SECTION_EDGE of an engine edge, while EDGE_EVENTS is set (R481). -/
def State.tellSectionEdge (s : State) (e : Edge) (result : Nat) (err : Int) : State :=
  match e.section_ with
  | some n =>
    if bit (s.impl 28 1) 0 then
      s.raise uSection 0x1302 (le 2 n ++ le 1 e.action ++ le 1 result ++ le 8 e.time ++
        leInt 4 (clampInt (-2147483648) 2147483647 err) ++ le 4 e.lateUs)
    else s
  | none => s

/-- An edge ends with a RESULT of R481. `occurred` says that it executed, or was sent and cannot be recalled: its record
becomes APPLIED; otherwise the record expires as R467 says. -/
def State.endEdge (s : State) (e : Edge) (result flags : Nat) (err : Int) (occurred : Bool) : State :=
  let late := bit flags 1 || e.lateUs != 0
  let s := s.modSections fun x =>
    { x with edges := x.edges.filter fun y => y.id != e.id, late := if late then x.late + 1 else x.late,
             noAck := if result = 7 then x.noAck + 1 else x.noAck }
  let s := match s.record e.id with
    | some x =>
      if occurred then s.setRecord e.id .applied 0
      else if result = 6 then s.expireOther x 4 0
      else s.expireOther x 2 (if result = 5 || result = 1 then 0x0201 else 0x0204)
    | none => s
  let s := if occurred && result = 0 then s.count uSection 16 else s
  let s := if late then s.count uSection 19 else s
  let s := if result = 7 then s.count uSection 21 else s
  match e.section_ with
  | some _ => s.tellSectionEdge e result err
  | none => s.endScheduleEntry e result flags err

/-- FLAGS of an edge's result (R481). -/
def Edge.resultFlags (e : Edge) (late : Bool) : Nat := flag e.deferred + 2 * flag late + 4 * flag e.resent

/-- Remove queued edges that meet `p` with a result; an edge sent or begun stays (R460). -/
def State.removeEdges (s : State) (p : Edge → Bool) (result : Nat) : State :=
  (s.sections.edges.filter fun e => p e && e.sent.isNone && !e.begun).foldl (fun s e => s.endEdge e result (e.resultFlags false) 0 false) s

/-- Queue an edge: an earlier one on the target at the same time ends SUPERSEDED (R455), and its EDGE record is written
(R467). -/
def State.queueEdge (s : State) (e : Edge) : State :=
  let s := s.removeEdges (fun x => x.target == e.target && x.time == e.time) 2
  let id := s.ledger.nextId
  let s := s.newRecord .edge .open 0xFF uSection (some (e.time - 50 * us)) s.mode.epoch true e.body
  s.modSections fun x => { x with edges := x.edges ++ [{ e with id := id }] }

/-- An engine edge for section `n` (R470). -/
def engineEdge (n : Nat) (g : Target) (action time lateUs : Nat) : Edge :=
  { id := 0, target := g, action := action, section_ := some n, time := time, value := 0, entry := (0, 0), ch := 0xFF, tag := 0,
    seq := 0, sent := none, resent := false, lateUs := lateUs, begun := false, error := 0, deferred := false }

/-- Queue an engine edge (R470); while one stands at the same time, nothing more is queued. -/
def State.queueEngine (s : State) (n : Nat) (g : Target) (action time lateUs : Nat) : State :=
  (s.queueEdge (engineEdge n g action time lateUs)).count uSection 17

/-- Off edges at module time `t` for every section that is on and has none queued by then (R464, R472, R473, R479). -/
def State.queueOffs (s : State) (t : Nat) : State :=
  s.sections.secs.entries.foldl (fun s e =>
    let has := s.sections.edges.any fun x => x.section_ == some e.1 && x.action == 0 && decide (x.time ≤ t)
    if e.2.on && !has then s.queueEngine e.1 e.2.target 0 t 0 else s) s

/-- ENGINE_STATE (R481). The speed gate of R472 outlasts a hold; a start clears it. -/
def State.setEngine (s : State) (st : EngineState) (cause : Nat) : State :=
  let old := s.sections.state
  if old == st then s
  else (s.modSections fun x => { x with state := st, holdSince := if st == .holding then some s.time else none }).raise uSection 0x1303
    (le 1 old.code ++ le 1 st.code ++ le 1 cause ++ le 1 0)

/-- Stop the engine: its unsent edges are removed with a result, and off edges are queued at `t` for every section that is on
(R464, R465, R479). -/
def State.stopEngine (s : State) (cause result t : Nat) : State :=
  if s.sections.state == .stopped then s
  else ((s.removeEdges (fun e => e.section_.isSome) result).setEngine .stopped cause).queueOffs t

/-- Edges on channel `c` that have begun and wait for its turn-on end with a result (R422, R456). -/
def State.endBegun (s : State) (c result : Nat) : State :=
  (s.sections.edges.filter fun e => e.begun && e.target.channel == some c).foldl
    (fun s e => s.endEdge e result (e.resultFlags false) e.error true) s

/-- A section is off from module time `t`: its covered interval ends OFF_LAT later (R475). -/
def Section.offAt (x : Section) (t : Nat) : Section :=
  { x with on := false, marks := mapIf (fun m => m.2.isNone) (fun m => (m.1, some (t + x.offLat * 100000))) x.marks }

/-- CTL applies the safe state of module channel `c`: its queued edges are removed, its section is no longer on, and an engine
that is not STOPPED with it as a section's target stops (R465; assumption 138). -/
def State.safeEdges (s : State) (c : Nat) : State :=
  let s := (s.endBegun c 6).removeEdges (fun e => e.target.channel == some c) 6
  let t := s.time
  let s := s.modSections fun x =>
    { x with secs := x.secs.mapAll fun _ y => if y.target.channel == some c && y.on then y.offAt t else y }
  if s.sections.state != .stopped && s.sectionTarget c then s.stopEngine 2 4 (s.time + 100 * us) else s

end Sys2Proof.Machine
end

