-- ==== Sys2Proof/Machine/LoopOps.lean ====
section
/-! DEFINITION. The control engine's operations: destinations, changes of loop state, slots and lanes, sources and the law of
R358 (10). -/

namespace Sys2Proof.Machine

/-! ### Destinations and changes of state -/

/-- Set the value of channel `c` (R420): a plain channel that is on takes it as its duty at once; a lamp's duty follows at the
next compensation (R432). -/
def State.setValue (s : State) (c v : Nat) : State :=
  let lamp := s.isLamp c || swClass c == .pv
  s.modSw c fun x => { x with value := some v, duty := if x.phase == .on && !lamp then v else x.duty }

/-- Write an output to the destination of loop `n` (R348, R352). -/
def State.drive (s : State) (n : Nat) (v : Int) : State :=
  let d := (s.loop n).desc
  match descChannel d with
  | some c => s.setValue c v.toNat
  | none =>
    match descInner d with
    | some m => s.modLoop m fun l => { l with cascade := some v }
    | none => s

/-- Write an output at once, or hand it on at the next tick start (R348). -/
def State.putOut (s : State) (n : Nat) (v : Int) (next : Bool) : State :=
  let s := s.modLoop n fun l => { l with out := v, uPrev := v, handOn := if next then some v else none }
  if next then s else s.drive n v

/-- LOOP_STATE fields (R382). -/
def loopState (n : Nat) (old new : LoopState) (cause : Nat) (bump : Bool) (out : Int) : List Byte :=
  le 1 n ++ le 1 old.code ++ le 1 new.code ++ le 1 cause ++ le 1 (flag bump) ++ le 3 0 ++ leInt 4 out

/-- Raise LOOP_STATE, as the completion of the CLOSEs that wait where there are some (R382). -/
def State.tellLoop (s : State) (n : Nat) (old new : LoopState) (cause : Nat) (bump : Bool) (out : Int) (qs : List Requester)
    (fail : Bool) : State :=
  let u := (s.loop n).unit
  let f := loopState n old new cause bump out
  if qs = [] then s.raise u 0x1001 f else qs.foldl (fun s q => s.complete u 0x1001 f q false fail) s

/-- CLOSEs of loop `n` that have not executed end with the loop OPEN. -/
def State.dropClosing (s : State) (n cause : Nat) : State :=
  match (s.loop n).closing with
  | some qs =>
    let l := s.loop n
    let s := s.modLoop n fun l => { l with closing := none, cause := cause }
    if qs = [] then s else s.tellLoop n .open .open cause false l.out qs true
  | none => s

/-- Causes of R372 on which the output goes to SAFE_VALUE. -/
def tuneSafe (cause : Nat) : Bool := [0x01, 0x06, 0x07, 0x09, 0x0A, 0x0B].contains cause

/-- Abort the yo-yo test of loop `n` (R372). -/
def State.abortTune (s : State) (n cause : Nat) (next : Bool) : State :=
  let l := s.loop n
  match l.tune with
  | some x =>
    let v := if tuneSafe cause then l.v 144 else x.bias
    let fields := le 1 n ++ le 1 x.phase.code ++ le 1 cause ++ le 1 0 ++ le 4 ((s.time - x.started) / ms) ++ leInt 4 l.meas
    let s := (s.putOut n v next).modLoop n fun l =>
      { l with state := .open, reserved := false, tune := none, opening := none, cause := 8 }
    (s.complete l.unit 0x1003 fields x.req false true).tellLoop n .tuning .open 8 false l.out [] false
  | none => s

/-- Open loop `n` at once with an action of R349 and a cause of R382; a test aborts with `tuneCause` (R366, R377). -/
def State.openLoop (s : State) (n action cause tuneCause : Nat) : State :=
  let l := s.loop n
  match l.state with
  | .tuning => s.abortTune n tuneCause false
  | .closed =>
    let s := if action = 1 then s.putOut n (l.v 144) false else s.modLoop n fun l => { l with handOn := none }
    let s := s.modLoop n fun l => { l with state := .open, reserved := action == 0, opening := none, cause := cause }
    s.tellLoop n .closed .open cause false l.out [] false
  | .open =>
    let s := if action = 1 && l.reserved then s.putOut n (l.v 144) false else s
    (s.modLoop n fun l => { l with reserved := l.reserved && action == 0, opening := none }).dropClosing n cause
  | _ => s

/-- CTL applies the safe state of channel `c`: the loops that drive it open and its reservations end (R356, R366). -/
def State.loopsSafe (s : State) (c : Nat) : State :=
  (s.control.loops.entries.filter fun e => descChannel e.2.desc == some c).foldl
    (fun s e => s.openLoop e.1 2 2 0x0A) s

/-- A loop's state cleared, OPEN (R367, R375): SP_INIT is the set-point before any source value. -/
def Loop.cleared (l : Loop) : Loop :=
  { Loop.reset with desc := l.desc, state := .open, lane := l.lane, slot := l.slot, phase := l.phase, sp := l.v 152 }

/-! ### Lanes, slots and phases -/

/-- Two loops never execute in the same tick (R346). -/
def apart (d1 p1 d2 p2 : Nat) : Bool :=
  let g := Nat.gcd d1 d2
  p1 % g != p2 % g

/-- Loops of lane `k`, without loop `n`. -/
def State.laneLoops (s : State) (k n : Nat) : List (Nat × Loop) :=
  s.control.loops.entries.filter fun e => e.1 != n && e.2.state != .empty && e.2.lane == k

/-- Divider `d` and phase `p` fit slot `j` beside the loops of a lane (R346). -/
def fitsSlot (l : List (Nat × Loop)) (j d p : Nat) : Bool :=
  (l.filter fun e => e.2.slot == j).all fun e => apart d p e.2.divider e.2.phase

/-- The lowest slot, and within it the lowest phase, that fits; a phase given is kept (R347). -/
def placeLoop (l : List (Nat × Loop)) (d p : Nat) : Option (Nat × Nat) :=
  let phases := if p = 0xFFFF then List.range d else [p]
  (List.range 100).findSome? fun j => (phases.find? fun q => fitsSlot l j d q).map fun q => (j, q)

/-- Lane, slot and phase of a definition of loop `n` (R347). -/
def State.placeOn (s : State) (n lane d p : Nat) : Option (Nat × Nat × Nat) :=
  if lane ≠ 0xFF then (placeLoop (s.laneLoops lane n) d p).map fun x => (lane, x)
  else
    let cands := (List.range 4).filterMap fun k =>
      (placeLoop (s.laneLoops k n) d p).map fun x => ((s.laneLoops k n).length, k, x)
    (cands.foldl (fun (b : Option (Nat × Nat × Nat × Nat)) c =>
      match b with
      | some y => if c.1 < y.1 then some c else b
      | none => some c) none).map (·.2)

/-- Most executions due in any tick among loops given by divider and phase: loops that pairwise meet all meet (R379). -/
def peakDue : Nat → List (Nat × Nat) → Nat
  | 0, _ => 0
  | _, [] => 0
  | fuel + 1, (d, p) :: l =>
    max (peakDue fuel l) (1 + peakDue fuel (l.filter fun x => !apart d p x.1 x.2))

/-! ### Sources -/

/-- A raw source value with its sample time, and whether it is absent (R352, R354). -/
structure RawSource where
  value : Int
  sample : Nat
  absent : Bool
  deriving DecidableEq, Repr

/-- The raw value of a source kind and index, at tick start `t`; `l` is the loop that reads it (R352). -/
def State.rawSource (s : State) (l : Loop) (kind i t : Nat) : RawSource :=
  match kind with
  | 1 => ⟨(s.sensorIn i).value, (s.sensorIn i).sample, !s.unitUp uSensor⟩
  | 2 => ⟨(s.sw (32 + i)).current, t, !s.unitUp (swUnit (32 + i))⟩
  | 3 => ⟨(s.sw i).current / 1000, t, !s.unitUp (swUnit i)⟩
  | 4 => ⟨(s.loop i).out, t - tickNs, !s.unitUp (s.loop i).unit⟩
  | 5 => ⟨(s.loop i).meas, t - tickNs, !s.unitUp (s.loop i).unit⟩
  | 6 => ⟨(s.hostValue i).1, (s.hostValue i).2, false⟩
  | 7 => ⟨(s.signalSlot i).1, (s.signalSlot i).2, false⟩
  | 8 => ⟨flag (s.fieldIn i).level, t, s.fiInvalid i⟩
  | 10 => ⟨(l.cascade).getD (l.v 152), t, false⟩
  | _ => ⟨0, t, false⟩

/-- A source block read (R351): its value before the filter, stale and absent. -/
structure SourceRead where
  value : Int
  stale : Bool
  absent : Bool
  deriving DecidableEq, Repr

/-- Read the source block at descriptor offset `off` at tick start `t` (R351, R354). -/
def State.readSource (s : State) (l : Loop) (off t : Nat) : SourceRead :=
  let kind := l.u off 1
  let staleMs := l.u (off + 12) 2
  let o := l.v (off + 4)
  if kind = 0 then ⟨0, false, false⟩
  else if kind = 9 then ⟨o, false, false⟩
  else
    let r := s.rawSource l kind (l.u (off + 1) 1) t
    ⟨sat32 (mulc (l.v (off + 8)) (l.u (off + 2) 1) (r.value - o)), staleMs != 0 && decide (r.sample + staleMs * ms < t), r.absent⟩

/-- The filter of R351; the first value seeds it. -/
def filterBy (f : Nat) (y : Option Int) (v : Int) : Int :=
  match y with
  | some y => if f = 0 then v else y + (v - y) / 2 ^ f
  | none => v

/-- A value moved from `a` towards `b` by at most `rate`; a rate of 0 is no limit (R358). -/
def rampTo (b a rate : Int) : Int := if rate = 0 then b else if b > a + rate then a + rate else if b < a - rate then a - rate else b

/-- Sign of a number. -/
def signOf (x : Int) : Int := if x > 0 then 1 else if x < 0 then -1 else 0

/-! ### The law of R358 -/

/-- Effective output limits and rate (R359): low, high, rate. -/
def State.limits (s : State) (l : Loop) : Int × Int × Int :=
  let rate := l.v 92
  match s.mode.mode with
  | .service => (max (l.v 84) (l.v 116), min (l.v 88) (l.v 120), rate)
  | .limp => (l.v 84, l.v 88, if rate = 0 then l.v 124 else min rate (l.v 124))
  | _ => (l.v 84, l.v 88, rate)

/-- The destination cannot follow the output (R355). -/
def State.blockedDest (s : State) (l : Loop) : Bool :=
  match descChannel l.desc with
  | some c => !(s.sw c).phase.conducting || s.groupCut (swSupply c)
  | none =>
    match descInner l.desc with
    | some m => (s.loop m).state != .closed
    | none => false

/-- The destination's channel has a latched fault (R355, R439). -/
def State.destFault (s : State) (l : Loop) : Bool := (descChannel l.desc).any fun c => (s.sw c).fault != 0

/-- The destination's present value u0 (R363). -/
def State.presentValue (s : State) (l : Loop) : Int :=
  match descChannel l.desc with
  | some c => if (s.sw c).phase.conducting then (s.swValue c : Int) else 0
  | none =>
    match descInner l.desc with
    | some m => (s.loop m).sp
    | none => l.out

/-- The sign of an increment of the inner set-point that pushes an inner loop at OUT_MAX or OUT_MIN further into that limit;
0 where it stands at none (R358). -/
def State.innerAtLimit (s : State) (l : Loop) : Int :=
  match descInner l.desc with
  | some m =>
    let x := s.loop m
    let dir : Int := if bit x.flags 2 then 1 else if bit x.flags 3 then -1 else 0
    if bit (x.u 6 1) 1 then -dir else dir
  | none => 0

/-- A coefficient of the descriptor: `c` at `off`, its shift at `k`. -/
def Loop.mul (l : Loop) (off k : Nat) (x : Int) : Int := mulc (l.v off) (l.u k 1) x

/-- The error of a measurement against a set-point, within the deadband 0 (R358). -/
def Loop.error (l : Loop) (sp m : Int) : Int :=
  let e := sat32 (if bit (l.u 6 1) 1 then m - sp else sp - m)
  if (e.natAbs : Int) ≤ l.v 148 then 0 else e

/-- The three sources of a loop, filtered: the loop with its filter states, and the values of MEAS, SETPT and FFWD. -/
structure LoopInputs where
  loop : Loop
  meas : Int
  setpt : Int
  ffwd : Int
  stale : Bool
  absent : Bool
  deriving DecidableEq, Repr

/-- Read the sources of loop `l` at tick start `t` (R351). -/
def State.loopInputs (s : State) (l : Loop) (t : Nat) : LoopInputs :=
  let a := s.readSource l 8 t
  let b := s.readSource l 24 t
  let c := s.readSource l 40 t
  let m := filterBy (l.u 11 1) l.yMeas a.value
  let p := filterBy (l.u 27 1) l.ySetpt b.value
  let f := filterBy (l.u 43 1) l.yFfwd c.value
  { loop := { l with yMeas := some m, ySetpt := some p, yFfwd := some f }, meas := m, setpt := p, ffwd := f,
    stale := a.stale || b.stale || c.stale, absent := a.absent || b.absent || c.absent }

/-- The terms common to a driven and a tracking execution (R358): the loop with sp, d, e_prev and m_prev moved on, and p, f,
inc and the error. -/
structure LoopTerms where
  loop : Loop
  p : Int
  f : Int
  inc : Int
  e : Int
  deriving DecidableEq, Repr

/-- Set-point ramp, error and the P, D and feed-forward terms (R358). -/
def LoopInputs.terms (x : LoopInputs) : LoopTerms :=
  let l := x.loop
  let sp := rampTo (clampInt (l.v 104) (l.v 108) x.setpt) l.sp (l.v 112)
  let m := x.meas
  let e := l.error sp m
  let mPrev := if l.fresh then m else l.mPrev
  let ePrev := if l.fresh then e else l.ePrev
  let rev := bit (l.u 6 1) 1
  let dm := sat32 (if bit (l.u 6 1) 0 then (if rev then m - mPrev else mPrev - m) else e - ePrev)
  let d := l.d + (l.mul 64 78 dm - l.d) / 2 ^ (l.u 81 1)
  let f := l.mul 68 79 x.ffwd
  { loop := { l with sp := sp, d := d, ePrev := e, mPrev := m, meas := m, err := e, ff := f, fresh := false }, p := l.mul 56 76 e,
    f := f, inc := l.mul 60 77 e, e := e }

/-- clamp64 of R358. -/
def Loop.clampI (l : Loop) (x : Int) : Int := clampInt (l.v 96) (l.v 100) x

/-- One tracking execution (R363): the integrator follows the destination's present value. -/
def LoopTerms.track (x : LoopTerms) (u0 : Int) : Loop :=
  let l := x.loop
  let raw := u0 - x.p - l.d - x.f
  { l with i := l.clampI raw, bump := l.clampI raw != raw, uPrev := u0, out := u0 }

/-- FLAGS of STATUS (R378). -/
def loopFlags (held blocked hi lo rate : Bool) (m : Mode) : Nat :=
  bitsOf [held, blocked, hi, lo, rate, m == .service, m == .limp]

/-- One CLOSED execution (R358). -/
def State.closedLaw (s : State) (x : LoopTerms) : Loop :=
  let l := x.loop
  let held := s.power.crank.isSome
  let blocked := s.blockedDest l
  let lim := s.limits l
  let sum := sat32 (x.p + l.i + x.inc + l.d + x.f)
  let stepped := rampTo sum l.uPrev lim.2.2
  let u := clampInt lim.1 lim.2.1 stepped
  let aw := l.u 7 1
  let inner := s.innerAtLimit l
  let drop := held || blocked ||
    (aw == 1 && ((u != sum && signOf x.inc == signOf (sum - u)) || (inner != 0 && signOf x.inc == inner)))
  let inc := if drop then 0 else x.inc
  let bc := if aw == 2 && !held && !blocked then l.mul 72 80 (sat32 (u - sum)) else 0
  { l with i := l.clampI (l.i + inc + bc), uPrev := u, out := u,
           flags := loopFlags held blocked (u == lim.2.1) (u == lim.1) (stepped != sum) s.mode.mode }

end Sys2Proof.Machine
end

