-- ==== Sys2Proof/Machine/SwitchOps.lean ====
section
/-! DEFINITION. The power stage's operations: turn-on and turn-off, entries and their ends, latched faults, the safe state,
holds and the output report (12, 09). -/

namespace Sys2Proof.Machine

/-! ### Events -/

/-- DIAG of channel `c` (R449): bit 6 is its group's GSNS fallback. -/
def State.swDiag (s : State) (c : Nat) : Nat := (s.sw c).diag + 64 * flag (s.supplyGroup (swSupply c)).fallback

/-- CHANNEL_EVENT (R451). -/
def State.tellChannel (s : State) (c kind fault : Nat) (current : Nat) : State :=
  let x := s.sw c
  s.raise (swUnit c) 0x1202 (le 1 c ++ le 1 kind ++ le 1 fault ++ le 1 (s.swDiag c) ++ le 4 (satNat (2 ^ 32 - 1) current) ++
    le 2 (satNat 65535 x.thetaPm) ++ le 1 (s.swLeft c) ++ le 1 0)

/-- Set or clear DIAG bit `b`; a change of bits 0–3 raises CHANNEL_EVENT 0x04 or 0x05 (R449, R451). -/
def State.setDiag (s : State) (c b : Nat) (v : Bool) : State :=
  let x := s.sw c
  if bit x.diag b == v then s
  else
    let s := s.modSw c fun x => { x with diag := if v then x.diag + 2 ^ b else x.diag - 2 ^ b }
    if b < 4 then s.tellChannel c (if v then 4 else 5) x.fault x.current else s

/-- GROUP_EVENT (R451), in millivolts. -/
def State.tellGroup (s : State) (g : Grp) (kind ch vPre vMin durationUs : Nat) : State :=
  s.raise (grpUnit g) 0x1203 (le 1 g.code ++ le 1 kind ++ le 1 ch ++ le 1 0 ++ le 2 (satNat 65535 (vPre / 10)) ++
    le 2 (satNat 65535 (vMin / 10)) ++ le 4 durationUs ++ le 4 (s.supplyGroup g).stud1)

/-! ### Entries -/

/-- SWITCH_DONE fields (R451). -/
def switchDone (q : SwRequest) : List Byte :=
  le 1 q.entries.length ++ le 3 0 ++ le 8 q.due ++
    q.entries.flatMap fun e => le 1 e.ch ++ le 1 (e.result.getD 0) ++ le 1 e.flags ++ le 1 0

/-- Write SWITCH_DONE of every request whose last entry has ended (R422). -/
def State.finishRequests (s : State) : State :=
  let done := fun (q : SwRequest) => q.started && q.entries.all fun e => e.result.isSome
  let l := s.stage.requests.filter done
  let s := s.modStage fun p => { p with requests := p.requests.filter fun q => !done q }
  l.foldl (fun s q =>
    match q.req with
    | some r =>
      let u := swUnit ((q.entries.head?.map (·.ch)).getD 0)
      s.complete u 0x1201 (switchDone q) r false (q.entries.any fun e => e.result != some 0)
    | none => s) s

/-- FLAGS of an entry of channel `c` that ends now: DEFERRED as noted, INRUSH_EXTENDED, retried, LAMP_LIMITED (R451). -/
def Switch.entryFlags (x : Switch) (noted : Nat) : Nat :=
  noted % 2 + 2 * flag (bit x.diag 5) + 4 * flag x.retried + 8 * flag (bit x.diag 4)

/-- End the open entries of started requests that name channel `c` (R422). -/
def State.endEntries (s : State) (c result : Nat) : State :=
  let x := s.sw c
  let stop := fun (e : SwEntry) => { e with result := some result, flags := if result < 2 then x.entryFlags e.flags else e.flags % 2 }
  let f := fun (q : SwRequest) => { q with entries := mapIf (fun e => e.ch == c && e.result.isNone) stop q.entries }
  s.modStage fun p => { p with requests := mapIf (·.started) f p.requests }

/-- Mark the open entries of channel `c` as DEFERRED (R95). -/
def State.noteDeferred (s : State) (c : Nat) : State :=
  let g := fun (e : SwEntry) => { e with flags := 1 }
  let f := fun (q : SwRequest) => { q with entries := mapIf (fun e => e.ch == c && e.result.isNone) g q.entries }
  (s.modStage fun p => { p with requests := mapIf (·.started) f p.requests }).modEdges
    (fun e => e.begun && e.target.channel == some c) fun e => { e with deferred := true }

/-- Entries and edges of channel `c` that wait end with a result of R451; edges take the same codes (R481), but SUPERSEDED for a
safe state. -/
def State.endWaiting (s : State) (c result : Nat) : State := (s.endEntries c result).endBegun c result

/-! ### Turn-on and turn-off -/

/-- T_ramp in ns (R423): V_bus ÷ SLEW. -/
def State.rampTime (s : State) (c : Nat) : Nat := (s.supplyGroup (swSupply c)).vBus * 10000 / max 1 (s.swCfg c 14 1)

/-- A normal turn-on begins (R423). -/
def State.startTurnOn (s : State) (c : Nat) (retry : Bool) : State :=
  let expiry := s.time + s.rampTime c + s.swInrush c * ms
  let s := s.modSw c fun x =>
    { x with phase := .turningOn expiry, retried := retry, duty := 10000, onSince := some s.time, pulse := none,
             limited := false, diag := if bit x.diag 5 then x.diag - 32 else x.diag }
  s.count (swUnit c) 16

/-- A turn-on that starts now; a retry raises CHANNEL_EVENT 0x02 and is counted (R426, R451). -/
def State.beginTurnOn (s : State) (c : Nat) (retry : Bool) : State :=
  let s := s.startTurnOn c retry
  if retry then (s.tellChannel c 2 0 (s.sw c).current).count (swUnit c) 20 else s

/-- Turn on channel `c`, commanded on: with no supply it waits for it (R422), in crank hold and in the wait of R100 it is
deferred (R95). -/
def State.turnOn (s : State) (c : Nat) (retry : Bool) : State :=
  if !s.supplied (swSupply c) then (s.modSw c fun x => { x with phase := .noSupply }).endWaiting c 3
  else if s.power.crank.isSome then
    ((s.modSw c fun x => { x with phase := .deferred s.time, retried := retry }).noteDeferred c).modPower fun p =>
      { p with crank := p.crank.map fun k => { k with deferred := k.deferred + 1 } }
  else if s.power.holdupWait then (s.modSw c fun x => { x with phase := .deferred s.time, retried := retry }).noteDeferred c
  else s.beginTurnOn c retry

/-- Command channel `c` on (R422): a turn-on in progress or waiting is left to go on. -/
def State.commandOn (s : State) (c : Nat) : State :=
  let x := s.sw c
  let s := s.modSw c fun x => { x with cmdOn := true, safe := false, demandAt := s.time }
  if x.fault != 0 then s.endWaiting c 1
  else match x.phase with
    | .on => s.endWaiting c 0
    | .off => s.turnOn c false
    | .noSupply => if s.supplied (swSupply c) then s.turnOn c false else s.endWaiting c 3
    | .deferred _ => s.noteDeferred c
    | _ => s

/-- Switch channel `c` off: its test pulse ends, and LAMP_LIMITED is clear with the lamp off (R432, R437). -/
def State.turnOff (s : State) (c : Nat) : State :=
  (s.modSw c fun x => { x with phase := .off, pulse := none, duty := 0, onSince := none }).setDiag c 4 false

/-- Command channel `c` off: at once, crank hold included (R95); a test pulse it ends is counted (R437, R452). -/
def State.commandOff (s : State) (c : Nat) : State :=
  let s := if (s.sw c).pulse.isSome then s.count (swUnit c) 25 else s
  let s := s.modSw c fun x => { x with cmdOn := false, safe := false, demandAt := s.time }
  (s.turnOff c).endWaiting c 0

/-- Turn-on of channel `c` completes (R423). -/
def State.finishTurnOn (s : State) (c : Nat) : State :=
  let lamp := s.isLamp c || swClass c == .pv
  let s := s.modSw c fun x => { x with phase := .on, duty := if lamp then x.duty else s.swValue c }
  let s := if bit (s.sw c).diag 5 then s.count (swUnit c) 23 else s
  s.endWaiting c 0

/-- Latch a fault on channel `c` (R439): it is held off, its entries end with a fault. -/
def State.latchFault (s : State) (c fault current : Nat) : State :=
  let s := (s.modSw c fun x => { x with fault := fault, cmdOn := false }).turnOff c
  let s := s.modStage fun p => { p with service := if p.service.any (fun x => x.1 == c) then none else p.service }
  (s.tellChannel c 1 fault current).endWaiting c 1

/-- A trip that a retry may follow (R425, R426): the channel switches off, and waits RETRY_MS where a retry is left. -/
def State.trip (s : State) (c fault current : Nat) : State :=
  if s.swLeft c = 0 then s.latchFault c fault current
  else
    let left := s.swLeft c - 1
    let s := s.turnOff c
    s.modSw c fun x => { x with phase := .retryWait (s.time + s.swCfg c 12 2 * ms), retriesLeft := some left }

/-! ### Service drive, safe state and holds -/

/-- The channel's safe state is on at SAFE_LEVEL (R442). -/
def State.safeOn (s : State) (c : Nat) : Bool := s.swFlag c 1

/-- CTL applies the safe state of channel `c` (R442): its loop opens (R366), its queued edges go (R465), open entries end
SUPERSEDED (R422); loops keep driving where `loops` is false (R368). -/
def State.applySafe (s : State) (c : Nat) (loops : Bool) : State :=
  let s := if loops then s.loopsSafe c else s
  let s := (s.safeEdges c).endEntries c 2
  let s := s.modStage fun p => { p with service := if p.service.any (fun x => x.1 == c) then none else p.service }
  let s :=
    if s.safeOn c then
      let s := s.setValue c (s.swCfg c 28 4)
      if (s.sw c).fault != 0 then s else s.commandOn c
    else s.commandOff c
  (s.modSw c fun x => { x with safe := true, held := .none }).finishRequests

/-- The safe state of each of the channels. -/
def State.applySafeAll (s : State) (l : List Nat) (loops : Bool) : State := l.foldl (fun s c => s.applySafe c loops) s

/-- Every channel off in hardware, whatever it was commanded (R32, R102, R116). -/
def State.allOff (s : State) : State :=
  (List.range 48).foldl (fun s c =>
    let x := s.sw c
    if x.phase == .off && !x.cmdOn then s
    else s.modSw c fun x => { x with cmdOn := false, phase := .off, pulse := none, duty := 0, onSince := none }) s

/-- A Load switch command or a host edge names channel `c` by path `p`: a hold ends (R335), and the path is that of its last
command (R334). The engine's own actions carry no path (R466). -/
def State.named (s : State) (c : Nat) (p : Option (Path × Nat)) : State :=
  s.modSw c fun x => { x with held := .none, lastPath := p }

/-- A loss of a path covers a command that came by `p`. -/
def pathCovers (l : Path × Option Nat) (p : Option (Path × Nat)) : Bool :=
  p.any fun x => x.1 == l.1 && l.2.all (· == x.2)

/-- The hold policy of channel `c` on the loss of its path (R333, R334, R443). -/
def State.holdChannel (s : State) (c : Nat) : State :=
  let x := s.sw c
  if x.safe then s
  else match s.swCfg c 15 1 with
    | 0 => s.modSw c fun x => { x with held := .hold, lastPath := none }
    | 1 => s.modSw c fun x => { x with held := .holdFor (s.time + s.swCfg c 18 2 * ms), lastPath := none }
    | _ => (s.modSw c fun x => { x with lastPath := none }).applySafe c true

/-- STATE of FOn in the output report (R343). -/
def FieldOut.stateCode (x : FieldOut) (lost : Bool) : Nat :=
  if x.fault != 0 then 5 else if lost && x.cmd then 9 else if x.deferred then 8 else if x.on then 1 else 0

/-- The 64 entries of the output report at present (R343). -/
def State.outputEntries (s : State) : List Byte :=
  ((List.range 48).flatMap fun c =>
    let x := s.sw c
    le 1 x.stateCode ++ le 1 (s.swCfg c 15 1) ++ le 2 (x.holdLeft s.time)) ++
  (List.range 16).flatMap fun n =>
    le 1 ((s.fieldIo.fo.rd n FieldOut.reset).stateCode s.fieldIo.lost) ++ le 1 0xFF ++ le 2 0

/-- The output report of R343. -/
def State.outputReport (s : State) (cause : Nat) : List Byte := le 8 s.time ++ le 1 cause ++ le 15 0 ++ s.outputEntries

/-- OUTPUT_STATE with cause path lost goes to the channels subscribed to the Ledger or Load switch family (R337, R344). -/
def State.tellOutputs (s : State) (cause : Nat) : State :=
  s.raiseHeld (supervisorOf islCtl) 0x0603 (s.outputReport cause) [0x06, 0x12]

/-- The turn-ons that crank hold or the wait of R100 has deferred begin (R95). -/
def State.releaseDeferred (s : State) : State :=
  (List.range 48).foldl (fun s c =>
    let x := s.sw c
    match x.phase with
    | .deferred _ => if s.supplied (swSupply c) then s.beginTurnOn c x.retried else s.turnOn c x.retried
    | _ => s) s

/-- Group `g` has lost its supply: its channels keep their commanded state and wait (R89, R441). -/
def State.supplyGone (s : State) (g : Grp) : State :=
  ((grpChannels g).foldl (fun s c =>
    if (s.sw c).phase == .off then s
    else (s.modSw c fun x => { x with phase := .noSupply, pulse := none, onSince := none }).endWaiting c 3) s).finishRequests

/-- Group `g` has its supply again: each channel commanded on turns on under R423 (R89, R441); after a lost stud it raises
CHANNEL_EVENT 0x08. -/
def State.supplyBack (s : State) (g : Grp) (stud : Bool) : State :=
  if !s.supplied g then s
  else (grpChannels g).foldl (fun s c =>
    let x := s.sw c
    if x.phase == .noSupply && x.cmdOn then
      let s := s.turnOn c false
      if stud then s.tellChannel c 8 x.fault x.current else s
    else s) s

/-! ### Refusals by entry -/

/-- The lowest-indexed refused entry and its status; R817's order holds within one entry (R418). -/
def entryRefusal (l : List (List (Bool × Status))) : Option (Nat × Status) :=
  (List.range l.length).findSome? fun i => (refusal (l.getD i [])).map fun st => (i, st)

/-- Serve a request of entries: a refusal by the gate or the request's own checks names entry 0, any other its entry; the reply
carries ENTRY where `named` (R418, R444). -/
def serveEntries (o : OpSpec) (unit : Nat) (r : Request) (s : State) (named : Bool) (checks : State → List (Bool × Status))
    (entries : State → List (List (Bool × Status))) (effect : State → State) : Out :=
  valid (r.ch < 64) <|
    let s := s.atTime r.time
    let whole := (firstSome (gate o unit r s) (refusal (checks s))).map fun st => (0, st)
    .next (match (if whole.isSome then whole else entryRefusal (entries s)) with
      | some (i, st) => refuseWith o unit r st (if named && st != .badLength then le 1 i ++ le 3 0 else []) s
      | none => effect s)

/-! ### Starting requests -/

/-- One entry takes effect, through a path (R418–R422); a service drive ends where it switches the channel off (R448). -/
def State.runEntry (s : State) (e : SwEntry) (p : Option (Path × Nat)) : State :=
  let s := s.named e.ch p
  let held := (s.holder e.ch).isSome
  let s := if e.value != 0xFFFFFFFF && !held then s.setValue e.ch e.value else s
  match e.action with
  | 0 =>
    (s.modStage fun p => { p with service := if p.service.any (·.1 == e.ch) then none else p.service }).commandOff e.ch
  | 1 => s.commandOn e.ch
  | _ => s.endEntries e.ch 0

/-- Start a request at its tick: earlier open entries of its channels end SUPERSEDED (R422). -/
def State.startRequest (s : State) (serial : Nat) (q : SwRequest) : State :=
  let s := q.entries.foldl (fun s e => (s.endEntries e.ch 2).endBegun e.ch 2) s
  let s := s.modStage fun p => { p with requests := p.requests.set serial { q with started := true } }
  q.entries.foldl (fun s e => s.runEntry e q.path) s

/-- Start every request that is due (R418), oldest first, and write the completions of those that have ended. -/
def State.startRequests (s : State) : State :=
  ((List.range s.stage.requests.length).foldl (fun s i =>
    match s.stage.requests[i]? with
    | some q => if !q.started && decide (q.due ≤ s.time) then s.startRequest i q else s
    | none => s) s).finishRequests

end Sys2Proof.Machine
end

