-- ==== Sys2Proof/Machine/TuneOps.lean ====
section
/-! DEFINITION. The yo-yo test: its results, the proposal and the encoding of coefficients (10). Numbers are kept in units of
2^−64 (R371). -/

namespace Sys2Proof.Machine

/-- π in units of 2^−64. -/
def pi64 : Nat := 57952155664616982739

/-- 1 in units of 2^−64. -/
def one64 : Nat := 2 ^ 64

/-- Kp as a fraction of Ku, Ti and Td as fractions of Tu, and whether the rule has a derivative term (R371). -/
structure TuneRule where
  kp : Nat × Nat
  ti : Nat × Nat
  td : Nat × Nat
  deriving DecidableEq, Repr

/-- The tuning rules (R371). -/
def tuneRule : Nat → TuneRule
  | 1 => ⟨(45, 100), (10, 12), (0, 1)⟩
  | 2 => ⟨(6, 10), (1, 2), (1, 8)⟩
  | 3 => ⟨(10, 32), (22, 10), (0, 1)⟩
  | 4 => ⟨(10, 22), (22, 10), (10, 63)⟩
  | _ => ⟨(2, 10), (1, 2), (1, 3)⟩

/-- Ku (R371) from the amplitude, the number of cycles, the sum of their peak-to-peak measurements and HYST. -/
def ultimateGain (amp n sum hyst : Nat) : Nat :=
  let root := Nat.sqrt ((sum * sum - (2 * n * hyst) ^ 2) * 2 ^ 128)
  8 * n * amp * 2 ^ 192 / (pi64 * root)

/-- A proposal's KP, KI, KD and KT, in units of 2^−64 (R371): `ts` and `tu` in ns. -/
def proposalValues (rule ku tu ts : Nat) : Nat × Nat × Nat × Nat :=
  let r := tuneRule rule
  let kp := ku * r.kp.1 / r.kp.2
  let ki := kp * ts * r.ti.2 / (tu * r.ti.1)
  let kd := kp * tu * r.td.1 / (ts * r.td.2)
  let tt :=
    if r.td.1 = 0 then tu * r.ti.1 * 2 ^ 32 / r.ti.2
    else Nat.sqrt (tu * tu * r.ti.1 * r.td.1 * 2 ^ 64 / (r.ti.2 * r.td.2))
  (kp, ki, kd, ts * 2 ^ 96 / max 1 tt)

/-- A value in units of 2^−64 times 2^k, rounded with halves away from 0. -/
def scaled64 (v k : Nat) : Nat := (v * 2 ^ k + 2 ^ 63) / 2 ^ 64

/-- Encode a coefficient (R371): c, k and SATURATED. -/
def encodeCoeff (v : Nat) : Nat × Nat × Bool :=
  if v = 0 then (0, 0, false)
  else if (2 ^ 31 - 1) * one64 < v then (2 ^ 31 - 1, 0, true)
  else
    let k := (((List.range 32).filter fun k => scaled64 v k ≤ 2 ^ 31 - 1).getLast?).getD 0
    (scaled64 v k, k, false)

/-- KP, KI, KD and KT of a proposal on loop `l` as coefficients (R371). -/
def Loop.proposed (l : Loop) (rule ku tu : Nat) : List (Nat × Nat × Bool) :=
  let v := proposalValues rule ku tu (l.divider * tickNs)
  [encodeCoeff v.1, encodeCoeff v.2.1, encodeCoeff v.2.2.1, encodeCoeff v.2.2.2]

/-- The spread of a list lies above 20 % of its mean (R372). -/
def irregular (l : List Nat) : Bool :=
  let hi := l.foldl max 0
  let lo := l.foldl min hi
  decide (l.sum < 5 * l.length * (hi - lo))

/-- Complete a test whose last cycle has been measured (R370–R372). -/
def State.finishTune (s : State) (n : Nat) : State :=
  let l := s.loop n
  match l.tune with
  | some x =>
    let peaks := x.peaks.map Int.toNat
    let k := peaks.length
    if irregular x.periods || irregular peaks || decide (peaks.sum ≤ 2 * k * x.hyst.toNat) then s.abortTune n 3 true
    else
      let tu := divNear x.periods.sum k
      let ku := ultimateGain x.amplitude.toNat k peaks.sum x.hyst.toNat
      let cs := encodeCoeff ku :: l.proposed x.rule ku tu
      let sat := cs.any (·.2.2)
      let fields := le 1 n ++ le 1 x.rule ++ le 1 x.cycles ++ le 1 (flag sat) ++ le 4 (tu / 1000) ++ le 4 (divNear peaks.sum (2 * k)) ++
        leInt 4 x.noise ++ (cs.flatMap fun c => le 4 c.1) ++ (cs.flatMap fun c => le 1 c.2.1) ++ le 3 0
      let s := (s.putOut n x.bias true).modLoop n fun l =>
        { l with state := .open, reserved := false, tune := none, opening := none, cause := 8,
                 proposal := some ⟨x.rule, ku, tu⟩ }
      (s.complete l.unit 0x1002 fields x.req false false).tellLoop n .tuning .open 8 false l.out [] false
  | none => s

/-- Lowest and highest with a new measurement. -/
def Tune.widen (x : Tune) (m : Int) : Tune :=
  { x with low := some (min (x.low.getD m) m), high? := some (max (x.high?.getD m) m) }

/-- The band of the measurements seen. -/
def Tune.band (x : Tune) : Int := x.high?.getD 0 - x.low.getD 0

/-- The relay at module time `t` with error `e` and measurement `m` (R370): an upward switch ends a cycle. -/
def Tune.relay (x : Tune) (t : Nat) (e m : Int) : Tune :=
  let up := if e > x.hyst then true else if e < -x.hyst then false else x.high
  if up == x.high then x.widen m
  else
    let y := { x with high := up, lastSwitch := t }
    if !up then y.widen m
    else
      let z := { y with cycleStart := some t, low := none, high? := none }.widen m
      match x.cycleStart with
      | none => z
      | some c =>
        if x.phase == .relay then { z with done := x.done + 1, phase := if x.discard ≤ x.done + 1 then .measure else .relay }
        else { z with periods := x.periods ++ [t - c], peaks := x.peaks ++ [x.band] }

end Sys2Proof.Machine
end

