-- ==== Sys2Proof/Machine/ExecControl.lean ====
section
/-! DEFINITION. The control engine's tick and the Control family (10). -/

namespace Sys2Proof.Machine

/-! ### One execution -/

/-- A loop enters FAULT: SAFE_VALUE goes out and the destination is released (R365). -/
def State.faultLoop (s : State) (n cause : Nat) : State :=
  let l := s.loop n
  let old := l.state
  let s := (s.putOut n (l.v 144) true).modLoop n fun l =>
    { l with state := .fault, reserved := false, closing := none, opening := none, cause := cause }
  (s.count l.unit 17).tellLoop n old .fault cause false l.out (l.closing.getD []) true

/-- Cause of R382 for which a driven execution faults (R354, R355); none where it runs. -/
def State.execFault (s : State) (x : LoopInputs) : Option Nat :=
  if x.absent then some 4 else if x.stale then some 3 else if s.destFault x.loop then some 5 else none

/-- Count an execution that stands at a limit or is rate-limited (R383). -/
def State.countLimits (s : State) (l : Loop) : State :=
  let s := if bit l.flags 2 || bit l.flags 3 then s.count l.unit 18 else s
  if bit l.flags 4 then s.count l.unit 19 else s

/-- Loop that drives loop `n`'s set-point and is CLOSED (R361). -/
def State.closedOuter (s : State) (n : Nat) : Option Nat :=
  (s.control.loops.entries.find? fun e => e.2.state == .closed && descInner e.2.desc == some n).map (·.1)

/-- The first CLOSED execution of loop `n` (R361, R363, R376): beneath a CLOSED outer loop it closes on its own measurement. -/
def State.closeNow (s s : State) (n : Nat) (x : LoopInputs) (l0 : Loop) : State :=
  let outer := (s.closedOuter n).isSome
  let sp := clampInt (l0.v 104) (l0.v 108) x.meas
  let x := if outer then { x with setpt := sp, loop := { x.loop with sp := sp, cascade := some sp, ySetpt := some sp } } else x
  let tm := x.terms
  let tm := if l0.fresh then { tm with loop := tm.track (s.presentValue l0) } else tm
  let bump := tm.loop.bump
  let l := s.closedLaw tm
  let s := s.modLoop n fun _ =>
    { l with state := .closed, closing := none, opening := none, reserved := false, cause := 0, handOn := some l.out,
             executions := l0.executions + 1, lastTime := s.time }
  (s.countLimits l).tellLoop n .open .closed 0 bump l0.out (l0.closing.getD []) false

/-- One execution under the relay law (R370, R372). A stale or absent source aborts the test as R372 has it (assumption 135). -/
def State.tuneNow (s s : State) (n : Nat) (x : LoopInputs) (l0 : Loop) (y : Tune) : State :=
  let m := x.meas
  let e := sat32 (if bit (l0.u 6 1) 1 then m - y.setpoint else y.setpoint - m)
  let s := s.modLoop n fun _ =>
    { x.loop with meas := m, err := e, sp := y.setpoint, fresh := false, executions := l0.executions + 1, lastTime := s.time }
  if x.absent || x.stale then s.abortTune n 6 true
  else if m < y.measMin || y.measMax < m then s.abortTune n 1 true
  else if s.blockedDest l0 || s.destFault l0 then s.abortTune n 7 true
  else if s.power.crank.isSome then s.abortTune n 9 true
  else
    let z := if y.phase == .settle then y.widen m else y.relay s.time e m
    let target := if z.phase == .settle then z.bias else if z.high then z.bias + z.amplitude else z.bias - z.amplitude
    let lim := s.limits l0
    let stepped := rampTo target l0.uPrev lim.2.2
    let u := clampInt lim.1 lim.2.1 stepped
    let s := s.modLoop n fun l =>
      { l with tune := some z, out := u, uPrev := u, handOn := some u,
               flags := loopFlags false false (u == lim.2.1) (u == lim.1) (stepped != target) s.mode.mode }
    let s := s.countLimits (s.loop n)
    if z.phase == .measure && z.cycles ≤ z.periods.length then s.finishTune n else s

/-- The trace record of an execution (R380). -/
def traceRecord (n tick : Nat) (l : Loop) : List Byte :=
  le 1 n ++ le 1 (tick % 20) ++ le 1 l.state.code ++ le 1 l.flags ++ leInt 4 l.sp ++ leInt 4 l.meas ++ leInt 4 l.out ++
    leInt 4 (sat32 l.i) ++ leInt 4 l.ff

/-- Lane `k`. -/
def State.lane (s : State) (k : Nat) : Lane := s.control.lanes.rd k Lane.reset

/-- Change lane `k`. -/
def State.modLane (s : State) (k : Nat) (f : Lane → Lane) : State :=
  s.modControl fun c => { c with lanes := c.lanes.upd k Lane.reset f }

/-- One execution of loop `n`, with every source as latched in `s` at tick start (R348, R358, R362). -/
def State.execLoop (s s : State) (n : Nat) : State :=
  let t := s.time
  let l0 := s.loop n
  let x := s.loopInputs l0 t
  let s := s.count l0.unit 16
  let ran := fun (l : Loop) => { l with executions := l0.executions + 1, lastTime := t }
  let tracked := fun (_ : Unit) =>
    let l := x.terms.track (s.presentValue l0)
    { ran l with flags := loopFlags s.power.crank.isSome (s.blockedDest l0) false false false s.mode.mode }
  let s := match l0.state with
    | .empty => s
    | .closed =>
      match s.execFault x with
      | some cause => (s.modLoop n fun _ => ran x.loop).faultLoop n cause
      | none =>
        let l := s.closedLaw x.terms
        (s.modLoop n fun _ => { ran l with handOn := some l.out }).countLimits l
    | .tuning =>
      match l0.tune with
      | some y => State.tuneNow s s n x l0 y
      | none => s
    | .open =>
      if l0.closing.isSome then
        match s.execFault x with
        | some cause => (s.modLoop n fun _ => ran x.loop).faultLoop n cause
        | none => State.closeNow s s n x l0
      else s.modLoop n fun _ => tracked ()
    | .fault =>
      let s := s.modLoop n fun _ => tracked ()
      let cleared := if l0.cause = 5 then !s.destFault l0 else !x.stale && !x.absent
      if cleared then
        (s.modLoop n fun l => { l with state := .open, cause := 7 }).tellLoop n .fault .open 7 false l0.out [] false
      else s
  if (s.lane l0.lane).traced.contains n then
    s.modLane l0.lane fun a => { a with trace := a.trace ++ traceRecord n s.control.tickNo (s.loop n) }
  else s

/-- The outer loop of a loop that has just closed: its integrator is set so that its output is the inner measurement (R361). -/
def State.alignOuter (s : State) (o m : Nat) : State :=
  let meas := (s.loop m).meas
  s.modLoop o fun l =>
    { l with i := l.clampI (meas - l.mul 56 76 l.err - l.d - l.ff), out := meas, uPrev := meas, handOn := some meas }

/-! ### The tick -/

/-- Send the trace of the millisecond that has ended (R380). -/
def State.flushTrace (s : State) : State :=
  (List.range 4).foldl (fun s k =>
    let b := (s.lane k).trace
    if b = [] then s
    else
      let s' := s.modLane k fun a => { a with trace := [] }
      if (s.producedBy (uLane k) 2).isSome then s'.present (uLane k) 2 { time := s.time, marks := 0, body := b }
      else s'.countN (uLane k) 20 (b.length / 24)) s

/-- Values and signals written since the last tick take effect (R353, R377). -/
def State.applyPending (s : State) : State :=
  s.modControl fun c =>
    { c with hostValues := c.hostPending.foldl (fun b e => b.put e.1 (e.2, s.time)) c.hostValues, hostPending := [],
             signals := c.signalPending.foldl (fun b e => b.put e.1 (e.2.1, e.2.2)) c.signals, signalPending := [] }

/-- Outputs of the last tick reach their destinations, then OPENs take effect (R348, R377). -/
def State.handOver (s : State) : State :=
  let s := s.control.loops.keys.foldl (fun s n =>
    match (s.loop n).handOn with
    | some v => (s.modLoop n fun l => { l with handOn := none }).drive n v
    | none => s) s
  s.control.loops.keys.foldl (fun s n =>
    match (s.loop n).opening with
    | some (a, c) => (s.modLoop n fun l => { l with opening := none }).openLoop n a c 8
    | none => s) s

/-- Insert a loop by lane, then slot. -/
def insertDue (x : Nat × Loop) : List (Nat × Loop) → List (Nat × Loop)
  | [] => [x]
  | y :: l => if x.2.lane * 100 + x.2.slot ≤ y.2.lane * 100 + y.2.slot then x :: y :: l else y :: insertDue x l

/-- Loops due in tick `k`, by lane and slot (R345, R348); a fenced lane executes none (R25). -/
def State.dueLoops (s : State) (k : Nat) : List Nat :=
  ((s.control.loops.entries.filter fun e =>
    e.2.state != .empty && e.2.divider != 0 && k % e.2.divider == e.2.phase && !s.fenced e.2.unit).foldr insertDue []).map (·.1)

/-- When LOOP_TICK has its effect. -/
def whenLoopTick (t : Nat) (s : State) : Bool :=
  s.ctlRuns && t % tickNs == 0 && s.control.tickNo != t / tickNs

/-- Effect of LOOP_TICK. -/
def doneLoopTick (t : Nat) (s : State) : State :=
  let k := t / tickNs
  let s := s.modControl fun c => { c with tickNo := k }
  let s := if k % 20 = 0 then s.flushTrace else s
  let s := s.applyPending.handOver.startRequests
  let due := s.dueLoops k
  let s1 := due.foldl (fun s n => State.execLoop s s n) s
  due.foldl (fun s n =>
    match s.closedOuter n with
    | some o =>
      if (s.loop n).state == .open && (s1.loop n).state == .closed && (s1.loop o).state == .closed then s.alignOuter o n else s
    | none => s) s1

/-- LOOP_TICK (R345, R348): pending values, outputs and requests take effect, the sources are latched, the due loops execute. -/
def execLoopTick (t : Nat) (s : State) : Out :=
  event t s (whenLoopTick t) (doneLoopTick t)

/-! ### Descriptors -/

/-- A source block outside R351 or R352. -/
def sourceBad (d : List Byte) (off : Nat) (setpt : Bool) : Bool :=
  let k := field d off 1
  let i := field d (off + 1) 1
  let top := ([0, 15, 15, 31, 255, 255, 63, 255, 31, 0, 0] : List Nat).getD k 0
  k > 10 || (k == 10 && !setpt) || i > top || field d (off + 2) 1 > 31 || field d (off + 3) 1 > 15 || field d (off + 14) 2 != 0

/-- A value of a descriptor lies outside its range (R349–R351). -/
def descBad (d : List Byte) : Bool :=
  let v := fun off => fieldInt d off 4
  let u := fun off n => field d off n
  let kind := u 128 1
  let idx := u 129 1
  let destRange := if kind = 1 then v 84 < 0 || v 88 > 4000000 else if kind = 2 then v 84 < 0 || v 88 > 10000 else false
  !(u 1 1 ≤ 3 || u 1 1 == 0xFF) || !inRange (u 2 2) 1 1024 || !(u 4 2 < u 2 2 || u 4 2 == 0xFFFF) || u 6 1 > 3 || u 7 1 > 2 ||
    sourceBad d 8 false || sourceBad d 24 true || sourceBad d 40 false ||
    ([76, 77, 78, 79, 80].any fun o => u o 1 > 31) || u 81 1 > 15 || u 82 1 > 2 || u 83 1 != 0 || kind > 3 ||
    (kind == 1 && idx > 15) || (kind == 2 && idx > 31) || u 130 14 != 0 || u 160 96 != 0 ||
    v 84 > v 88 || v 96 > v 100 || v 104 > v 108 || v 116 > v 120 || v 92 < 0 || v 112 < 0 || v 124 < 1 || destRange ||
    v 144 < v 84 || v 144 > v 88

/-- Loops a descriptor names as a source (R352) or as its inner loop. -/
def descNames (d : List Byte) : List Nat :=
  ([8, 24, 40].filterMap fun o => if field d o 1 = 4 || field d o 1 = 5 then some (field d (o + 1) 1) else none) ++
    (descInner d).toList

/-- Loops in the chain of inner loops below and including `n`, at most `fuel`. -/
def State.depth (s : State) : Nat → Nat → Nat
  | 0, _ => 0
  | fuel + 1, n =>
    match descInner (s.loop n).desc with
    | some m => 1 + s.depth fuel m
    | none => 1

/-- Loops whose inner loop is `n`. -/
def State.outers (s : State) (n : Nat) : List (Nat × Loop) :=
  s.control.loops.entries.filter fun e => e.2.state != .empty && descInner e.2.desc == some n

/-- An outer and an inner descriptor break R360. -/
def pairBad (o i : List Byte) : Bool :=
  field i 24 1 != 10 || fieldInt o 84 4 < fieldInt i 104 4 || fieldInt o 88 4 > fieldInt i 108 4 ||
    field o 2 2 % max 1 (field i 2 2) != 0

/-- The references or cascade rules of R350 and R360 are broken by descriptor `d` of loop `n`. -/
def State.chainBad (s : State) (n : Nat) (d : List Byte) : Bool :=
  let s' := s.modLoop n fun l => { l with desc := d, state := .open }
  ((descNames d).any fun m => m == n || (s.loop m).state == .empty) ||
    ((descInner d).any fun m => pairBad d (s.loop m).desc || (s.outers m).any fun e => e.1 != n) ||
    ((s.outers n).any fun e => pairBad e.2.desc d) ||
    (s'.control.loops.keys.any fun k => s'.depth 6 k > 4)

/-- A descriptor is refused with BAD_PARAM (R349, R350, R360). -/
def State.descRefused (s : State) (n : Nat) (d : List Byte) : Bool := descBad d || s.chainBad n d

/-- Overwrite the bytes at an offset. -/
def patch (d : List Byte) (off : Nat) (b : List Byte) : List Byte := d.take off ++ b ++ d.drop (off + b.length)

/-! ### The family -/

/-- The loop is EMPTY, or the request's reserved bytes are not 0. -/
def loopMissing (s : State) (n : Nat) : Bool := (s.loop n).state == .empty

/-- The loop is CLOSED or TUNING (R364). -/
def loopBusy (s : State) (n : Nat) : Bool := (s.loop n).state == .closed || (s.loop n).state == .tuning

/-- Refusals of LOOP_DEFINE. -/
def checksLoopDefine (r : Request) (s : State) : List (Bool × Status) :=
  let d := r.bytes 8 256
  let n := field d 0 1
  let lane := field d 1 1
  [(s.ownedLoop n, .busyId), (loopBusy s n, .loopClosed), (!r.zero 4 4 || s.descRefused n d, .badParam),
      ((s.placeOn n lane (field d 2 2) (field d 4 2)).isNone, .noSpace)]

/-- Effect of LOOP_DEFINE. -/
def doneLoopDefine (r : Request) (s : State) : State :=
  let d := r.bytes 8 256
  let n := field d 0 1
  let lane := field d 1 1
  let u := uLane (if lane ≤ 3 then lane else 0)
  let s := s.dropClosing n 0
  match s.placeOn n lane (field d 2 2) (field d 4 2) with
  | some (k, slot, ph) =>
    let s := s.modLoop n fun l => Loop.cleared { l with desc := d, lane := k, slot := slot, phase := ph }
    let s := (List.range 4).foldl (fun s j => s.modLane j fun a => { a with traced := if j = k then a.traced else a.traced.filter (· != n) }) s
    answer opLoopDefine u r (le 1 k ++ le 1 slot ++ le 2 ph) s
  | none => refuse opLoopDefine u r .noSpace s

/-- LOOP_DEFINE (R346, R347, R375). -/
def execLoopDefine (r : Request) (s : State) : Out :=
  let d := r.bytes 8 256
  let lane := field d 1 1
  let u := uLane (if lane ≤ 3 then lane else 0)
  serve opLoopDefine u r s (checksLoopDefine r) (doneLoopDefine r)

/-- An instance binds loop `n` (R375). -/
def State.loopBound (s : State) (n : Nat) : Bool := s.functions.insts.entries.any fun e => e.2.loops.contains n

/-- Refusals of LOOP_CLEAR. -/
def checksLoopClear (r : Request) (s : State) : List (Bool × Status) :=
  let n := r.u 4 1
  [((s.control.loops.entries.any fun e => e.1 != n && (descNames e.2.desc).contains n) || s.loopBound n, .busyId),
      (loopBusy s n, .loopClosed), (loopMissing s n || !r.zero 5 3, .badParam)]

/-- Effect of LOOP_CLEAR. -/
def doneLoopClear (r : Request) (s : State) : State :=
  let n := r.u 4 1
  let u := (s.loop n).unit
  let s := (s.dropClosing n 0).modControl fun c => { c with loops := c.loops.erase n }
  let s := (List.range 4).foldl (fun s j => s.modLane j fun a => { a with traced := a.traced.filter (· != n) }) s
  answer opLoopClear u r [] s

/-- LOOP_CLEAR (R375). -/
def execLoopClear (r : Request) (s : State) : Out :=
  let n := r.u 4 1
  let u := (s.loop n).unit
  serve opLoopClear u r s (checksLoopClear r) (doneLoopClear r)

/-- The descriptor of COEFF's loop with the request's coefficients (R376). -/
def coeffDesc (r : Request) (d : List Byte) : List Byte := patch (patch d 56 (r.bytes 8 20)) 76 (r.bytes 28 6)

/-- Refusals of COEFF. -/
def checksLoopCoeff (r : Request) (s : State) : List (Bool × Status) :=
  let n := r.u 4 1
  [(loopBusy s n, .loopClosed),
      (loopMissing s n || !r.zero 5 3 || !r.zero 34 2 || s.descRefused n (coeffDesc r (s.loop n).desc), .badParam)]

/-- Effect of COEFF. -/
def doneLoopCoeff (r : Request) (s : State) : State :=
  let n := r.u 4 1
  let u := (s.loop n).unit
  answer opCoeff u r [] (s.modLoop n fun l => { l with desc := coeffDesc r l.desc, proposal := none })

/-- COEFF (R364, R373, R376). -/
def execLoopCoeff (r : Request) (s : State) : Out :=
  let n := r.u 4 1
  let u := (s.loop n).unit
  serve opCoeff u r s (checksLoopCoeff r) (doneLoopCoeff r)

/-- Refusals of LIMITS. -/
def checksLoopLimits (r : Request) (s : State) : List (Bool × Status) :=
  let n := r.u 4 1
  [(loopMissing s n || !r.zero 5 3 || s.descRefused n (patch (s.loop n).desc 84 (r.bytes 8 44)), .badParam)]

/-- Effect of LIMITS. -/
def doneLoopLimits (r : Request) (s : State) : State :=
  let n := r.u 4 1
  let u := (s.loop n).unit
  answer opLimits u r [] (s.modLoop n fun l => { l with desc := patch l.desc 84 (r.bytes 8 44) })

/-- LIMITS (R364, R376): effective at the loop's next execution. -/
def execLoopLimits (r : Request) (s : State) : Out :=
  let n := r.u 4 1
  let u := (s.loop n).unit
  serve opLimits u r s (checksLoopLimits r) (doneLoopLimits r)

/-- Another loop holds the destination of loop `n` (R356). -/
def State.destTaken (s : State) (n : Nat) : Bool :=
  let l := s.loop n
  l.u 128 1 != 0 && (s.destHolder (l.u 128 1) (l.u 129 1) (some n)).isSome

/-- The mode forbids the channel at the end of loop `n`'s chain (R368). -/
def State.modeForbidsLoop (s : State) (n : Nat) : Bool := (s.chainEnd 5 n).any fun c => !s.modeLetsLoop s.mode.mode c

/-- Refusals of CLOSE. -/
def checksLoopClose (r : Request) (s : State) : List (Bool × Status) :=
  let n := r.u 4 1
  [(s.modeForbidsLoop n, .wrongMode), (s.ownedLoop n || (s.loop n).state == .tuning || s.destTaken n, .busyId),
      (loopMissing s n || !r.zero 5 3, .badParam), ((s.loop n).state == .fault, .hwFault)]

/-- Effect of CLOSE. -/
def doneLoopClose (r : Request) (s : State) : State :=
  let n := r.u 4 1
  let u := (s.loop n).unit
  if (s.loop n).state == .closed then answer opClose u r [] s
  else
    let q := s.requester opClose r
    (s.accepted opClose u r []).modLoop n fun l => { l with closing := some (l.closing.getD [] ++ [q]) }

/-- CLOSE (R368, R376): completed by LOOP_STATE at the first CLOSED execution. -/
def execLoopClose (r : Request) (s : State) : Out :=
  let n := r.u 4 1
  let u := (s.loop n).unit
  serve opClose u r s (checksLoopClose r) (doneLoopClose r)

/-- Refusals of OPEN. -/
def checksLoopOpen (r : Request) (s : State) : List (Bool × Status) :=
  let n := r.u 0 1
  [(s.ownedLoop n, .busyId),
      (loopMissing s n || !r.zero 2 2 || !(r.u 1 1 ≤ 2 || r.u 1 1 == 0xFF), .badParam)]

/-- Effect of OPEN. -/
def doneLoopOpen (r : Request) (s : State) : State :=
  let n := r.u 0 1
  let u := (s.loop n).unit
  answer opOpen u r []
      (s.modLoop n fun l => { l with opening := some (if r.u 1 1 = 0xFF then l.u 82 1 else r.u 1 1, 0) })

/-- OPEN (R377). -/
def execLoopOpen (r : Request) (s : State) : Out :=
  let n := r.u 0 1
  let u := (s.loop n).unit
  serve opOpen u r s (checksLoopOpen r) (doneLoopOpen r)

/-- Refusals of VALUE_WRITE. -/
def checksValueWrite (r : Request) (_s : State) : List (Bool × Status) :=
  let k := r.u 4 1
  [(!inRange k 1 64 || !r.zero 5 3 || r.len != 8 + 8 * k ||
      (List.range k).any (fun i => r.u (8 + 8 * i) 1 > 63 || !r.zero (9 + 8 * i) 3), .badParam)]

/-- Effect of VALUE_WRITE. -/
def doneValueWrite (r : Request) (s : State) : State :=
  let k := r.u 4 1
  let l := (List.range k).map fun i => (r.u (8 + 8 * i) 1, r.i (12 + 8 * i) 4)
  answer opValueWrite (uLane 0) r [] (s.modControl fun c => { c with hostPending := c.hostPending ++ l })

/-- VALUE_WRITE (R377): the registers belong to no lane; lane 0 serves it (assumption 40). -/
def execValueWrite (r : Request) (s : State) : Out :=
  serve opValueWrite (uLane 0) r s (checksValueWrite r) (doneValueWrite r)

/-- Refusals of LOOP_STATUS. -/
def checksLoopStatus (r : Request) (s : State) : List (Bool × Status) :=
  let n := r.u 0 1
  [(loopMissing s n || !r.zero 1 3, .badParam)]

/-- Effect of LOOP_STATUS. -/
def doneLoopStatus (r : Request) (s : State) : State :=
  let n := r.u 0 1
  let l := s.loop n
  answer opLoopStatus l.unit r (le 1 l.state.code ++ le 1 l.flags ++ le 1 l.lane ++ le 1 l.slot ++ le 2 l.divider ++ le 2 l.phase ++
    leInt 4 l.sp ++ leInt 4 l.meas ++ leInt 4 l.err ++ leInt 4 l.out ++ leInt 4 (sat32 l.i) ++ le 4 l.executions.toNat ++
    le 8 l.lastTime ++ le 1 l.cause ++ le 7 0) s

/-- LOOP_STATUS (R378). -/
def execLoopStatus (r : Request) (s : State) : Out :=
  let n := r.u 0 1
  let l := s.loop n
  serve opLoopStatus l.unit r s (checksLoopStatus r) (doneLoopStatus r)

/-- Refusals of LOOP_READ. -/
def checksLoopRead (r : Request) (s : State) : List (Bool × Status) :=
  let n := r.u 0 1
  [(loopMissing s n || !r.zero 1 3, .badParam)]

/-- Effect of LOOP_READ. -/
def doneLoopRead (r : Request) (s : State) : State :=
  let n := r.u 0 1
  answer opLoopRead (s.loop n).unit r (s.loop n).desc s

/-- LOOP_READ (R378): the descriptor as stored. -/
def execLoopRead (r : Request) (s : State) : Out :=
  let n := r.u 0 1
  serve opLoopRead (s.loop n).unit r s (checksLoopRead r) (doneLoopRead r)

/-- LANES record of lane `k` (R379). -/
def State.laneRecord (s : State) (k : Nat) : List Byte :=
  let l := s.control.loops.entries.filter fun e => e.2.state != .empty && e.2.lane == k
  let slots := (l.map fun e => e.2.slot).dedup
  let tune := ((l.find? fun e => e.2.state == .tuning).map (·.1)).getD 0xFFFF
  le 1 k ++ le 2 l.length ++ le 1 slots.length ++ le 1 (peakDue l.length (l.map fun e => (e.2.divider, e.2.phase))) ++ le 2 tune ++
    le 1 (s.lane k).traced.length ++ le 1 (flag (s.fenced (uLane k))) ++ le 7 0

/-- Effect of LANES. -/
def doneLoopLanes (r : Request) (s : State) : State :=
  answer opLanes (supervisorOf islCtl) r ((List.range 4).flatMap s.laneRecord) s

/-- LANES (R379): the island supervisor answers for all four lanes. -/
def execLoopLanes (r : Request) (s : State) : Out :=
  serve opLanes (supervisorOf islCtl) r s (fun _ => []) (doneLoopLanes r)

/-- Refusals of TRACE. -/
def checksLoopTrace (r : Request) (s : State) : List (Bool × Status) :=
  let k := r.u 0 1
  let sel := (List.range 256).filter fun n => bit (r.u (4 + n / 8) 1) (n % 8)
  [(k > 3 || !r.zero 1 3 || sel.length > 16 || sel.any (fun n => loopMissing s n || (s.loop n).lane != k), .badParam)]

/-- Effect of TRACE. -/
def doneLoopTrace (r : Request) (s : State) : State :=
  let k := r.u 0 1
  let sel := (List.range 256).filter fun n => bit (r.u (4 + n / 8) 1) (n % 8)
  answer opTrace (uLane k) r [] (s.modLane k fun a => { a with traced := sel })

/-- TRACE (R380). -/
def execLoopTrace (r : Request) (s : State) : Out :=
  let k := r.u 0 1
  serve opTrace (uLane (if k ≤ 3 then k else 0)) r s (checksLoopTrace r) (doneLoopTrace r)

/-- The test a TUNE request asks for (R381). -/
def tuneOf (r : Request) (q : Requester) (t : Nat) : Tune :=
  { req := q, rule := r.u 5 1, discard := r.u 6 1, cycles := r.u 7 1, setpoint := r.i 8 4, bias := r.i 12 4, amplitude := r.i 16 4,
    hyst := r.i 20 4, measMin := r.i 24 4, measMax := r.i 28 4, settleMs := r.u 32 4, maxHalfMs := r.u 36 4, maxTimeS := r.u 40 2,
    phase := .settle, started := t, high := false, lastSwitch := t, cycleStart := none, done := 0, low := none, high? := none,
    noise := 0, periods := [], peaks := [] }

/-- TUNE lies outside R369 or R381 on loop `l`. -/
def tuneBad (r : Request) (l : Loop) : Bool :=
  l.state == .empty || !inRange (r.u 5 1) 1 5 || !inRange (r.u 6 1) 1 10 || !inRange (r.u 7 1) 2 20 || r.i 16 4 < 1 || r.i 20 4 < 0 ||
    !inRange (r.u 32 4) 100 600000 || !inRange (r.u 36 4) 10 600000 || !inRange (r.u 40 2) 1 3600 || !r.zero 42 2 ||
    r.i 8 4 < r.i 24 4 || r.i 8 4 > r.i 28 4 || r.i 12 4 - r.i 16 4 < l.v 84 || r.i 12 4 + r.i 16 4 > l.v 88

/-- Refusals of TUNE. -/
def checksLoopTune (r : Request) (s : State) : List (Bool × Status) :=
  let n := r.u 4 1
  [((s.control.loops.entries.any fun e => e.2.state == .tuning && e.2.lane == (s.loop n).lane) || s.destTaken n, .busyId),
      ((s.loop n).state == .closed, .loopClosed), (tuneBad r (s.loop n), .badParam), ((s.loop n).state == .fault, .hwFault)]

/-- Effect of TUNE. -/
def doneLoopTune (r : Request) (s : State) : State :=
  let n := r.u 4 1
  let u := (s.loop n).unit
  if s.answeredReady islCtl then s.defer .tune r else
  let l := s.loop n
  let q := s.requester opTune r
  let s := (s.accepted opTune u r []).dropClosing n 0
  let s := s.modLoop n fun l =>
    { l with state := .tuning, tune := some (tuneOf r q s.time), proposal := none, cause := 0, reserved := false, opening := none }
  s.tellLoop n .open .tuning 0 false l.out [] false

/-- TUNE (R369, R381); after CTL's ready answer it is deferred to the end of the change (R143). -/
def execLoopTune (r : Request) (s : State) : Out :=
  let n := r.u 4 1
  let u := (s.loop n).unit
  serve opTune u r s (checksLoopTune r) (doneLoopTune r)

/-- Refusals of TUNE_ABORT. -/
def checksTuneAbort (r : Request) (s : State) : List (Bool × Status) :=
  let n := r.u 0 1
  [(loopMissing s n || !r.zero 1 3, .badParam)]

/-- Effect of TUNE_ABORT. -/
def doneTuneAbort (r : Request) (s : State) : State :=
  let n := r.u 0 1
  let u := (s.loop n).unit
  answer opTuneAbort u r [] (s.abortTune n 8 false)

/-- TUNE_ABORT (R372): a loop without a test is left as it is. -/
def execTuneAbort (r : Request) (s : State) : Out :=
  let n := r.u 0 1
  let u := (s.loop n).unit
  serve opTuneAbort u r s (checksTuneAbort r) (doneTuneAbort r)

/-- Refusals of TUNE_COMMIT. -/
def checksTuneCommit (r : Request) (s : State) : List (Bool × Status) :=
  let n := r.u 4 1
  [(loopBusy s n, .loopClosed),
      (loopMissing s n || r.u 5 1 > 5 || !r.zero 6 2 || (s.loop n).proposal.isNone, .badParam)]

/-- Effect of TUNE_COMMIT. -/
def doneTuneCommit (r : Request) (s : State) : State :=
  let n := r.u 4 1
  let u := (s.loop n).unit
  let l := s.loop n
  let p := (l.proposal).getD ⟨1, 0, 1⟩
  let cs := l.proposed (if r.u 5 1 = 0 then p.rule else r.u 5 1) p.ku p.tu
  let write := fun (d : List Byte) (x : (Nat × Nat) × (Nat × Nat × Bool)) => patch (patch d x.1.1 (le 4 x.2.1)) x.1.2 (le 1 x.2.2.1)
  let d := (List.zip [(56, 76), (60, 77), (64, 78), (72, 80)] cs).foldl write l.desc
  answer opTuneCommit u r ((cs.flatMap fun c => le 4 c.1) ++ cs.flatMap fun c => le 1 c.2.1)
    (s.modLoop n fun l => { l with desc := d, proposal := none })

/-- TUNE_COMMIT (R373, R381). -/
def execTuneCommit (r : Request) (s : State) : Out :=
  let n := r.u 4 1
  let u := (s.loop n).unit
  serve opTuneCommit u r s (checksTuneCommit r) (doneTuneCommit r)

/-! ### The test's timers and signals -/

/-- When TUNE_SETTLE_END has its effect. -/
def whenTuneSettleEnd (t loop : Nat) (s : State) : Bool :=
  (s.loop loop).tune.any fun x => x.phase == .settle && decide (x.started + x.settleMs * ms ≤ t)

/-- Effect of TUNE_SETTLE_END. -/
def doneTuneSettleEnd (t loop : Nat) (s : State) : State :=
  match (s.loop loop).tune with
  | some x =>
    let noise := x.band
    if 2 * x.hyst ≤ noise then s.abortTune loop 4 false
    else
      let high := decide (0 ≤ (s.loop loop).err)
      let y := { x with phase := .relay, noise := noise, high := high, lastSwitch := t,
                        cycleStart := if high then some t else none, low := none, high? := none }
      s.modLoop loop fun l => { l with tune := some y }
  | none => s

/-- TUNE_SETTLE_END (R370, R372): RELAY starts high if e ≥ 0, which counts as an upward switch. -/
def execTuneSettleEnd (t loop : Nat) (s : State) : Out :=
  valid (loop < 256) <| event t s (whenTuneSettleEnd t loop) (doneTuneSettleEnd t loop)

/-- When TUNE_HALF_CYCLE_TIMEOUT has its effect. -/
def whenTuneHalfCycleTimeout (t loop : Nat) (s : State) : Bool :=
  (s.loop loop).tune.any fun x => x.phase != .settle && decide (x.lastSwitch + x.maxHalfMs * ms < t)

/-- Effect of TUNE_HALF_CYCLE_TIMEOUT. -/
def doneTuneHalfCycleTimeout (_t loop : Nat) (s : State) : State :=
  s.abortTune loop 2 false

/-- TUNE_HALF_CYCLE_TIMEOUT (R372). -/
def execTuneHalfCycleTimeout (t loop : Nat) (s : State) : Out :=
  valid (loop < 256) <| event t s (whenTuneHalfCycleTimeout t loop) (doneTuneHalfCycleTimeout t loop)

/-- When TUNE_TIME_LIMIT has its effect. -/
def whenTuneTimeLimit (t loop : Nat) (s : State) : Bool :=
  (s.loop loop).tune.any fun x => decide (x.started + x.maxTimeS * sec < t)

/-- Effect of TUNE_TIME_LIMIT. -/
def doneTuneTimeLimit (_t loop : Nat) (s : State) : State :=
  s.abortTune loop 5 false

/-- TUNE_TIME_LIMIT (R372). -/
def execTuneTimeLimit (t loop : Nat) (s : State) : Out :=
  valid (loop < 256) <| event t s (whenTuneTimeLimit t loop) (doneTuneTimeLimit t loop)

/-- When SIGNAL_MESSAGE has its effect. -/
def whenSignalMessage (_t lane _stamp : Nat) (_body : List Byte) (s : State) : Bool :=
  s.unitUp (uLane lane)

/-- Effect of SIGNAL_MESSAGE. -/
def doneSignalMessage (_t lane stamp : Nat) (body : List Byte) (s : State) : State :=
  (List.range (body.length / 8)).foldl (fun s i =>
    let slot := field body (8 * i) 2
    if slot > 255 || s.slotOwned slot then s.count (uLane lane) 21
    else s.modControl fun c => { c with signalPending := c.signalPending ++ [(slot, fieldInt body (8 * i + 4) 4, stamp)] }) s

/-- SIGNAL_MESSAGE (R353, R389): entries with SLOT above 255, or naming an instance's SP_OUT slot, are ignored and counted. -/
def execSignalMessage (t lane stamp : Nat) (body : List Byte) (s : State) : Out :=
  valid (lane < 4) <| event t s (whenSignalMessage t lane stamp body) (doneSignalMessage t lane stamp body)

end Sys2Proof.Machine
end

