-- ==== Sys2Proof/Machine/FieldOps.lean ====
section
/-! DEFINITION. Operations of the field group and the sensor inputs: changes of inputs, field outputs on and off, the flags
of a sensor input (21). -/

namespace Sys2Proof.Machine

/-- Change the field group and the sensor inputs. -/
def State.modField (s : State) (f : FieldIo → FieldIo) : State := { s with fieldIo := f s.fieldIo }

/-- Change field input `n`. -/
def State.modFi (s : State) (n : Nat) (f : FieldIn → FieldIn) : State :=
  s.modField fun x => { x with fi := x.fi.upd n FieldIn.reset f }

/-- Field output `n`. -/
def State.fo (s : State) (n : Nat) : FieldOut := s.fieldIo.fo.rd n FieldOut.reset

/-- Change field output `n`. -/
def State.modFo (s : State) (n : Nat) (f : FieldOut → FieldOut) : State :=
  s.modField fun x => { x with fo := x.fo.upd n FieldOut.reset f }

/-- Change sensor input `n`. -/
def State.modSi (s : State) (n : Nat) (f : SensorIn → SensorIn) : State :=
  s.modField fun x => { x with si := x.si.upd n SensorIn.reset f }

/-- Sensor supply `k`. -/
def State.sup5 (s : State) (k : Nat) : SensorSupply := s.fieldIo.sup5.rd k SensorSupply.reset

/-- Change sensor supply `k`. -/
def State.modSup5 (s : State) (k : Nat) (f : SensorSupply → SensorSupply) : State :=
  s.modField fun x => { x with sup5 := x.sup5.upd k SensorSupply.reset f }

/-! ### Field inputs -/

/-- FLAGS of a change record (R692). -/
def State.fiFlags (s : State) (n : Nat) : Nat := flag (s.fiInvalid n) + 2 * flag (s.fieldIn n).broken

/-- One record of the port 1 message (R692). -/
def State.fiRecord (s : State) (n stamp : Nat) : List Byte :=
  le 8 stamp ++ le 1 n ++ le 1 (flag (s.fieldIn n).level) ++ le 1 (s.fiFlags n) ++ le 5 0

/-- Insert a record in stamp order, after those of the same stamp (R692). -/
def insertChange (r : List Byte) : List (List Byte) → List (List Byte)
  | [] => [r]
  | x :: l => if field r 0 8 < field x 0 8 then r :: x :: l else x :: insertChange r l

/-- Note a change of input `n` for the message of the tick (R692). -/
def State.noteFi (s : State) (n stamp : Nat) : State :=
  let r := s.fiRecord n stamp
  s.modField fun x => { x with changes := insertChange r x.changes }

/-- An input's reported level changes at `stamp` (R690). -/
def State.setFiLevel (s : State) (n : Nat) (level : Bool) (stamp : Nat) : State :=
  if (s.fieldIn n).level == level then s
  else ((s.modFi n fun x => { x with level := level, stamp := stamp }).count uFi 16).noteFi n stamp

/-- A module time as FLD's copy has it (R35, R690). -/
def State.fldTime (s : State) (t : Nat) : Nat := (Int.ofNat t + s.copies.rd islFld 0).toNat

/-- Note every input whose INVALID differs from what it was in `old` (R692). -/
def State.noteInvalid (s old : State) : State :=
  (List.range 32).foldl (fun s n => if s.fiInvalid n == old.fiInvalid n then s else s.noteFi n (s.fldTime s.time)) s

/-- An input enters or leaves wire break, at `ua` of input current (R691). -/
def State.setBreak (s : State) (n : Nat) (v : Bool) (ua : Nat) : State :=
  let s := s.modFi n fun x => { x with broken := v }
  let s := (if v then s.count uFi 17 else s).noteFi n (s.fldTime s.time)
  s.raise uFi 0x5002 (le 1 n ++ le 1 (flag v) ++ le 2 (satNat 65535 ua))

/-! ### Field outputs -/

/-- FO_EVENT (R704). -/
def State.tellFo (s : State) (n kind milli : Nat) : State :=
  s.raise uFo 0x5003 (le 1 n ++ le 1 kind ++ le 2 (satNat 65535 milli))

/-- Output `n` begins to conduct. -/
def State.foConduct (s : State) (n : Nat) : State :=
  (s.modFo n fun x => { x with on := true, deferred := false }).count uFo 16

/-- Turn on output `n`, commanded on: deferred in crank hold and in the wait of R100 (R695, R95). -/
def State.foOn (s : State) (n : Nat) : State :=
  let x := s.fo n
  if x.on || x.deferred then s
  else if s.power.crank.isSome then
    (s.modFo n fun x => { x with deferred := true }).modPower fun p =>
      { p with crank := p.crank.map fun k => { k with deferred := k.deferred + 1 } }
  else if s.power.holdupWait then s.modFo n fun x => { x with deferred := true }
  else s.foConduct n

/-- Output `n` stops conducting; its commanded state stays. -/
def State.foCut (s : State) (n : Nat) : State := s.modFo n fun x => { x with on := false, deferred := false, ma := 0 }

/-- Output `n` is commanded off. -/
def State.foOff (s : State) (n : Nat) : State := (s.modFo n fun x => { x with cmd := false }).foCut n

/-- Every field output commanded off (R695, R696). -/
def State.foAllOff (s : State) : State := (List.range 16).foldl (fun s n => s.foOff n) s

/-- The turn-ons of outputs that crank hold or the wait of R100 has deferred begin (R95). -/
def State.foRelease (s : State) : State :=
  (List.range 16).foldl (fun s n => if (s.fo n).deferred then s.foConduct n else s) s

/-- Latch a fault on output `n` (R693): it stays off until FO_CLEAR, and its commanded state is off. -/
def State.foLatch (s : State) (n fault milli : Nat) : State :=
  (((s.foOff n).modFo n fun x => { x with fault := fault }).count uFo (16 + fault)).tellFo n fault milli

/-- Outputs that conduct, bit n for FOn. -/
def State.foOnBits (s : State) : Nat := bitsOf ((List.range 16).map fun n => (s.fo n).on)

/-! ### Field supply -/

/-- FIELD_SUPPLY (R704). -/
def State.tellFsup (s : State) (st off : Nat) : State :=
  s.raise uFsup 0x5001 (le 1 st ++ le 1 0 ++ le 2 (satNat 65535 s.fieldIo.fsupMv) ++ le 2 off ++ le 2 0)

/-- FIELD_LOW is set (R685). -/
def State.fieldLow (s : State) : State :=
  if s.fieldIo.low then s else ((s.modField fun x => { x with low := true }).count uFsup 16).tellFsup 1 0

/-- Outputs switch off under FIELD_LOST, their commanded states kept (R685). -/
def State.foLost (s : State) : State :=
  (List.range 16).foldl (fun s n => if (s.fo n).on then (s.foCut n).count uFo 19 else s.foCut n) s

/-- Outputs at the end of FIELD_LOST (R687). -/
def State.foRestore (s : State) : State :=
  (List.range 16).foldl (fun s n =>
    let x := s.fo n
    if x.restore && x.cmd && x.fault == 0 then (s.foOn n).tellFo n 6 x.ma else s.foOff n) s

/-- FLD has lost its power (R688): its outputs are undriven and its inputs absent. Until FSUP meets R685 again the supply
counts as lost (assumption 45). -/
def State.fieldUnpowered (s : State) : State :=
  s.foLost.modField fun x => { x with converterFailed := true, low := true, lost := true, changes := [] }

/-- FLD runs again (R688): its inputs wait for FSUP. -/
def State.fieldRejoined (s : State) : State := s.modField fun x => { x with converterFailed := false }

/-! ### Sensor inputs -/

/-- SI_EVENT (R704). -/
def State.tellSi (s : State) (input kind : Nat) (v : Int) : State :=
  s.raise uSensor 0x5004 (le 1 input ++ le 1 kind ++ le 2 0 ++ leInt 4 v)

/-- Upper end of an input's range in its mode's units (R697): none for OFF and ACOUSTIC. -/
def SensorIn.top (x : SensorIn) : Option Int :=
  match x.mode, x.range with
  | 1, 0 => some 5000
  | 1, 1 => some 10000
  | 1, 2 => some 32000
  | 2, _ => some 25000
  | 3, 0 => some 4000
  | 3, 1 => some 40000
  | 4, _ => some 20000000
  | _, _ => none

/-- A flag of a sensor input moves: SI_EVENT 0x01 or 0x02 when set, 0x04 when cleared (R699). -/
def State.setSiFlag (s : State) (n kind : Nat) (was now : Bool) : State :=
  if was == now then s
  else (if now then s.count uSensor (15 + kind) else s).tellSi n (if now then kind else 4) (s.sensorIn n).value

/-- Set OVERRANGE and LOW (R699). -/
def State.setSiFlags (s : State) (n : Nat) (high low : Bool) : State :=
  let x := s.sensorIn n
  let s := s.modSi n fun x => { x with overRange := high, low := low }
  (s.setSiFlag n 1 x.overRange high).setSiFlag n 2 x.low low

end Sys2Proof.Machine
end

