-- ==== Sys2Proof/Machine/DisplayOps.lean ====
section
/-! DEFINITION. Operations of the display engine: waveform files, the image store, records, rails, the discharge sequence,
starting and ending updates (22). -/

namespace Sys2Proof.Machine

/-- Change the display engine. -/
def State.modDisplay (s : State) (f : Display → Display) : State := { s with display := f s.display }

/-! ### Panels (R706, R707) -/

/-- The panel an identity record describes. -/
def panelOf (lid : Bool) (p : List Byte) : Panel :=
  { lid := lid, id := field p 0 8, width := field p 8 2, height := field p 10 2, vcomOffset := fieldInt p 12 2,
    flMax := field p 14 1, hasSensor := bit (field p 15 1) 0, hasLight := bit (field p 15 1) 1 }

/-- The identity record passes R707. -/
def identityOk (lid : Bool) (p : List Byte) : Bool :=
  let q := panelOf lid p
  p.length == 32 && field p 28 4 == (crc32c (p.take 28)).toNat &&
    (if lid then q.width == 1600 && q.height == 1200
     else inRange q.width 256 2200 && q.width % 8 == 0 && inRange q.height 256 1650)

/-- STATUS_ROWS in force (R706). -/
def Display.strip (d : Display) : Nat := (d.statusRows).getD (if d.panel.any (·.lid) then 120 else 0)

/-- STATE of DISPLAY_STATUS (R732). -/
def Display.stateCode (d : Display) : Nat :=
  if d.faulted then 5 else if d.active.any (·.restore.isSome) then 3 else d.state.code

/-- PANEL_ID of the fitted panel; 0 with none. -/
def Display.panelId (d : Display) : Nat := (d.panel.map (·.id)).getD 0

/-- PANEL_STATE (R733). -/
def State.tellPanel (s : State) (cause rail : Nat) : State :=
  s.raise uDisplay 0x6003 (le 1 s.display.stateCode ++ le 1 cause ++ le 1 rail ++ le 1 0 ++ le 8 s.display.panelId)

/-! ### Bands and waveforms (R716, R717) -/

/-- Band of a temperature in 0.1 °C (R716). -/
def bandOf (t : Int) : Option Nat :=
  if t < 0 || 500 < t then none
  else if t < 400 then some (t / 40).toNat
  else if t < 450 then some 10
  else some 11

/-- Band of a restoration (R726): the nearest one outside the range. -/
def nearestBand (t : Int) : Nat := if t < 0 then 0 else (bandOf t).getD 11

/-- FRAME_HZ of a band (R717). -/
def waveHz (w : List Byte) (b : Nat) : Nat := field w (64 + 24 * b) 1

/-- VCOM_MV of a band. -/
def waveVcom (w : List Byte) (b : Nat) : Int := fieldInt w (64 + 24 * b + 2) 2

/-- FRAMES of a mode in a band; 0 where the mode is absent. -/
def waveFrames (w : List Byte) (b m : Nat) : Nat := field w (64 + 24 * b + 4 + (m - 1)) 1

/-- OFFSET of a mode's table in a band. -/
def waveOffset (w : List Byte) (b m : Nat) : Nat := field w (64 + 24 * b + 8 + 4 * (m - 1)) 4

/-- The file meets R717 and R718. -/
def waveOk (w : List Byte) : Bool :=
  let total := field w 16 4
  let bands := List.range 12
  352 ≤ w.length && w.take 4 == [0x4B, 0x57, 0x41, 0x56] && field w 4 2 == 1 && field w 6 1 < 16 && field w 7 1 == 0 &&
    total ≤ w.length && 352 ≤ total && ((w.drop 24).take 40).all (· == 0) &&
    field w 20 4 == (crc32c (w.take 20 ++ le 4 0 ++ (w.take total).drop 24)).toNat &&
    bands.all fun b =>
      inRange (waveHz w b) 50 85 && waveFrames w b 1 != 0 && waveFrames w b 2 != 0 && field w (64 + 24 * b + 1) 1 == 0 &&
        [1, 2, 3, 4].all fun m =>
          let n := waveFrames w b m
          (n == 0 || bit (field w 6 1) (m - 1)) && (n == 0 || waveOffset w b m + 64 * n ≤ total)

/-- Every band's rate meets R708 for a panel. -/
def waveFits (w : List Byte) (p : Panel) : Bool :=
  (List.range 12).all fun b => waveHz w b * (p.height + 8) * (p.width / 8 + 24) ≤ 50000000

/-- A waveform is loaded and its placement stands (R731). -/
def State.waveReady (s : State) : Bool := s.display.lastWave != [] && (s.placement s.display.waveform).isSome

/-! ### The image store (R719) -/

/-- The placement may be an image store; for the fitted panel it is large enough. -/
def State.storeOk (s : State) (h : Nat) : Bool :=
  match s.placement h with
  | some p => p.cls == 2 && p.dur == 2 && p.home == 3 && p.lists uDisplay &&
      s.display.panel.all fun q => 64 + q.width * q.height / 2 ≤ p.size
  | none => false

/-- The store's header names the fitted panel and is valid (R714). -/
def State.storeMatches (s : State) : Bool :=
  let h := s.readPlace s.display.store 0 13
  field h 0 8 == s.display.panelId && field h 12 1 == 1

/-- Write the store's header for the fitted panel. -/
def State.writeHeader (s : State) (p : Panel) : State :=
  s.writePlace s.display.store 0 (le 8 p.id ++ le 2 p.width ++ le 2 p.height ++ le 1 1 ++ List.replicate 51 0)

/-- Two pixels in a byte, the even one in the low nibble (R719). -/
def packLevels : List Nat → List Byte
  | a :: b :: l => BitVec.ofNat 8 (a % 16 + 16 * (b % 16)) :: packLevels l
  | _ => []

/-- Level stored for a source byte under a mode (R718, R731). -/
def levelOf (mode : Nat) (b : Byte) : Nat :=
  let v := b.toNat / 16
  if mode = 1 then 15 else if mode = 4 then (if 8 ≤ v then 15 else 0) else v

/-- Row `i` of an update's region as it stands in the store. The strip's drawing is Maluf's: free values (R727; assumption 3). -/
def State.updateRow (s : State) (u : PanelUpdate) (i : Nat) : List Byte × State :=
  if u.mode = 1 then (List.replicate (u.w / 2) 0xFF, s)
  else if u.req.isNone then (freeBytes s.freeCount (u.w / 2), s.spend (u.w / 2))
  else (packLevels ((s.readPlace u.source (u.offset + i * u.stride) u.w).map (levelOf u.mode)), s)

/-- Write an update's new levels into the store (R722). -/
def State.storeUpdate (s : State) (u : PanelUpdate) : State :=
  let width := (s.display.panel.map (·.width)).getD 0
  (List.range u.h).foldl (fun s i =>
    let (row, s) := s.updateRow u i
    s.writePlace s.display.store (64 + ((u.y + i) * width + u.x) / 2) row) s

/-! ### Records (R722, R724) -/

/-- Body of an update's DISPLAY record. -/
def displayBody (u : PanelUpdate) (stop panel : Nat) : List Byte :=
  le 4 u.id ++ le 1 u.mode ++ le 1 u.band ++ le 1 stop ++ le 1 u.ch ++ le 2 u.x ++ le 2 u.y ++ le 2 u.w ++ le 2 u.h ++
    le 2 u.frame ++ le 2 u.frames ++ le 4 u.tag ++ le 8 panel

/-- DISPLAY records that are OPEN and belong to no active update, in ID order (R726). -/
def State.openDisplay (s : State) : List Record :=
  s.ledger.records.filter fun x => x.kind == .display && x.state == .open && !(s.display.active.any fun u => u.record == x.id)

/-- DISPLAY_DONE of an update, to its requester (R733). -/
def State.displayDone (s : State) (u : PanelUpdate) (st : Status) (band frames start : Nat) : State :=
  match u.req with
  | some q =>
    s.complete uDisplay 0x6001 (le 4 u.id ++ le 2 st.code ++ le 1 band ++ le 1 u.mode ++ le 2 frames ++ le 2 0 ++ le 8 start) q
      false (st != .ok)
  | none => s

/-- Two updates overlap. -/
def PanelUpdate.overlaps (a b : PanelUpdate) : Bool :=
  a.x < b.x + b.w && b.x < a.x + a.w && a.y < b.y + b.h && b.y < a.y + a.h

/-! ### Content (R714) -/

/-- The module's clear of the whole panel. -/
def clearUpdate (p : Panel) : PanelUpdate :=
  { id := 0, mode := 1, x := 0, y := 0, w := p.width, h := p.height, ch := 0xFF, tag := 0, req := none, source := 0, offset := 0,
    stride := 0, record := 0, band := 0xFF, frame := 0, frames := 0, start := 0, restore := none }

/-- The update is the clear of R714. -/
def PanelUpdate.isClear (u : PanelUpdate) : Bool := u.mode == 1 && u.req.isNone && u.restore.isNone

/-- The clear of R714 is queued or runs. -/
def Display.clearing (d : Display) : Bool := (d.active ++ d.queued).any (·.isClear)

/-- The front light takes a level (R728). -/
def Display.light (d : Display) (level : Nat) : Display := { d with flLevel := level, flOn := decide (0 < level), flHeld := none }

/-- The content of a panel newly fitted, or of one after DIS's release (R714): a clear where the store does not match; known
once every restoration is complete, and then a held FRONT_LIGHT takes effect. -/
def State.checkContent (s : State) : State :=
  match s.display.panel with
  | some p =>
    if s.display.known || s.display.clearing || !s.storeOk s.display.store then s
    else if !s.storeMatches then
      (if s.waveReady then s.modDisplay fun d => { d with queued := d.queued ++ [clearUpdate p] } else s)
    else if s.openDisplay != [] || s.display.active.any (·.restore.isSome) then s
    else s.modDisplay fun d =>
      let d := { d with known := true }
      match d.flHeld with
      | some l => d.light l
      | none => d
  | none => s

/-! ### Rails and the discharge sequence (R709–R715) -/

/-- The discharge sequence begins (R715). -/
def State.startDischarge (s : State) : State :=
  if s.display.rails = 0 then s else s.modDisplay fun d => { d with state := .discharging, band := none }

/-- The discharge sequence has run: the rails and the front light are off, an external supply by its stop write (R711, R715). -/
def State.discharge (s : State) : State :=
  (s.modDisplay fun d => { d with state := .down, rails := 0, railsAt := none, pmicOut := 0, band := none, flOn := false, lastFrame := none }).count
    uDisplayPower 18

/-- Complete every update that has not started with HW_FAULT. -/
def State.failQueued (s : State) : State :=
  let l := s.display.queued
  let s := s.modDisplay fun d => { d with queued := [] }
  l.foldl (fun s u => s.displayDone u .hwFault 0xFF 0 0) s

/-- Frames stop at once and STOP is written from the last completed frame (R725); the updates end with HW_FAULT, and their
records stay OPEN for R726. -/
def State.stopUpdates (s : State) (stop : Nat) : State :=
  let l := s.display.active
  let s := s.modDisplay fun d => { d with active := [] }
  (l.foldl (fun s u =>
    if u.restore.isSome then s
    else (s.modRecord u.record fun x => { x with body := displayBody u stop s.display.panelId, changed := s.time }).displayDone u
      .hwFault u.band u.frame u.start) s).failQueued

/-- The display unit resets, is fenced or loses its power (R715, R725, R728): STOP 0x02, the discharge sequence at once, the
front light off. -/
def State.displayOff (s : State) : State :=
  let up := decide (0 < s.display.rails)
  let s := (s.stopUpdates 2).modDisplay fun d => { d with flOn := false, flLevel := 0, known := false, railFault := none }
  if up then s.discharge.tellPanel 7 0xFF else s

/-! ### Frames -/

/-- An update's last frame is over: its record is APPLIED and DISPLAY_DONE is raised (R722). -/
def State.finishUpdate (s : State) (u : PanelUpdate) : State :=
  let s := (s.setRecord u.record .applied 0).displayDone u .ok u.band u.frames u.start
  (s.modDisplay fun d => { d with updates := d.updates + 1 }).count uDisplay 16

/-- DISPLAY_RESTORED, with the record set APPLIED (R726). -/
def State.restored (s : State) (id band flags : Nat) : State :=
  let body := ((s.record id).map (·.body)).getD []
  let s := (s.setRecord id .applied 0).raise uDisplay 0x6002
    (le 8 id ++ le 4 (field body 0 4) ++ le 2 (field body 16 2) ++ le 1 band ++ le 1 flags)
  (s.modDisplay fun d => { d with restorations := d.restorations + 1 }).count uDisplay 19

/-- The second pass of a restoration: FULL16 from level 15 to the store content (R726). -/
def PanelUpdate.secondPass (u : PanelUpdate) (w : List Byte) : PanelUpdate :=
  { u with mode := 2, frame := 0, frames := waveFrames w u.band 2, restore := u.restore.map fun x => (x.1, x.2.1, false) }

/-- An update has driven every frame. -/
def PanelUpdate.over (u : PanelUpdate) : Bool := decide (u.frames ≤ u.frame)

/-- Time of a frame in the latched band, ns (R708, R717). -/
def Display.frameNs (d : Display) : Nat := sec / max 1 ((d.band.map fun b => waveHz d.lastWave b.1).getD 1)

/-- The last frame boundary: the end of the last frame, or the time at which the band was latched (R720, R721). -/
def Display.boundary (d : Display) : Nat := max (d.lastFrame.getD 0) ((d.band.map fun b => b.2.1).getD 0)

/-- In Ready the rails go once no update is active: the discharge sequence follows the last frame (R715, R723). -/
def State.endReadyWork (s : State) : State :=
  if s.power.rung = 1 && s.display.active == [] && 0 < s.display.rails then s.startDischarge.tellPanel 5 0xFF else s

/-- One frame of every active update ends at the present time (R722). -/
def State.frameEnd (s : State) : State :=
  let w := s.display.lastWave
  let frame := s.display.frameNs
  let step := fun (u : PanelUpdate) =>
    { u with frame := u.frame + 1, start := if u.frame = 0 && u.start = 0 then s.time - frame else u.start }
  let l := s.display.active.map step
  let again := fun (u : PanelUpdate) => u.over && u.restore.any (·.2.2)
  let next := l.map fun u => if again u then u.secondPass w else u
  let s := (s.modDisplay fun d => { d with active := next.filter (!·.over), lastFrame := some s.time }).count uDisplay 17
  let s := (next.filter (·.over)).foldl (fun s u =>
    match u.restore with
    | some (id, flags, _) => s.restored id u.band flags
    | none => s.finishUpdate u) s
  (s.modDisplay fun d => { d with band := if d.active = [] then none else d.band }).checkContent.endReadyWork

/-- At a controlled power-fail the frame in progress ends, STOP 0x01 is written, and queued updates are discarded without a
record or a completion (R725). -/
def State.displayPowerFail (s : State) : State :=
  let s := if s.display.active = [] then s else s.frameEnd
  let s := s.display.active.foldl (fun s u =>
    if u.restore.isSome then s
    else s.modRecord u.record fun x => { x with body := displayBody u 1 s.display.panelId, changed := s.time }) s
  let up := decide (0 < s.display.rails)
  let s := s.modDisplay fun d => { d with active := [], queued := [], flOn := false, flLevel := 0, known := false }
  if up then s.discharge.tellPanel 8 0xFF else s

/-- PANEL_DET_N and LID_SEL are sampled, and the identity of a fitted panel is read (R71, R707, R713). -/
def State.samplePanel (s : State) : State :=
  let s := s.stopUpdates 3
  let s := if s.display.rails = 0 then s else s.discharge
  match s.display.pins with
  | some (lid, identity) =>
    let ok := identityOk lid identity
    let s := s.modDisplay fun d =>
      { d with panel := if ok then some (panelOf lid identity) else none, faulted := !ok, railFault := none, known := false,
               flOn := false, flLevel := 0, state := .down, rails := 0, railsAt := none, pmicOut := 0 }
    (s.tellPanel 1 0xFF).checkContent
  | none =>
    let s := s.tellPanel 2 0xFF
    s.modDisplay fun d =>
      { d with panel := none, faulted := false, railFault := none, known := false, flOn := false, flLevel := 0, flHeld := none }

/-- The panel that the pins show, where its identity is good (R707). -/
def Display.pinned (d : Display) : Option Panel :=
  d.pins.bind fun x => if identityOk x.1 x.2 then some (panelOf x.1 x.2) else none

/-- DIS leaves reset: the pins are sampled (R71), and a panel that is still the same waits for known content (R714). -/
def State.panelAtRelease (s : State) : State :=
  if s.display.pinned == s.display.panel && s.display.pinned.isSome == s.display.pins.isSome then
    (s.modDisplay fun d => { d with known := false }).checkContent
  else s.samplePanel

/-- A restoration redraw that the ledger holds is still to be made, or is running, on a panel that can show it (R126). -/
def State.restoring (s : State) : Bool :=
  s.display.panel.isSome && !s.display.faulted && !s.inReset islDis && !s.fenced uDisplayPower &&
    !(s.fenced uDisplay && s.display.clearing) && (s.openDisplay != [] || s.display.active.any (·.restore.isSome))

/-- The status strip is redrawn (R727); it queues like any other update. -/
def State.drawStrip (s : State) : State :=
  match s.display.panel with
  | some p =>
    let rows := s.display.strip
    if rows = 0 || s.inReset islDis || s.fenced uDisplay || s.display.faulted || !s.waveReady || !s.storeOk s.display.store ||
        32 ≤ s.display.queued.length then s
    else
      let u := { clearUpdate p with mode := 2, y := p.height - rows, h := rows }
      s.modDisplay fun d => { d with queued := d.queued ++ [u] }
  | none => s

end Sys2Proof.Machine
end

