-- ==== Sys2Proof/Machine/CoverageOps.lean ====
section
/-! DEFINITION. Tiles of a COVERAGE placement (R406, R475), and the merge of coverage cells (R673, R674). -/

namespace Sys2Proof.Machine

/-- Bytes of a tile slot (R406). -/
def tileSize : Nat := 65600

/-- Class COVERAGE (R238). -/
def clsCoverage : Nat := 0x06

/-- Tile slots of a placement. -/
def State.tileSlots (s : State) (h : Nat) : Nat := ((s.placement h).map fun p => p.size / tileSize).getD 0

/-- Header of slot `i` (R406). -/
def State.tileHead (s : State) (h i : Nat) : List Byte := s.readPlace h (i * tileSize) 64

/-- The slot of a kind's tile at a column and row. -/
def State.tileAt (s : State) (h kind : Nat) (x y : Int) : Option Nat :=
  (List.range (s.tileSlots h)).find? fun i =>
    let d := s.tileHead h i
    field d 0 1 == kind && fieldInt d 4 4 == x && fieldInt d 8 4 == y

/-- Slots that hold a tile of a kind. -/
def State.tilesOf (s : State) (h kind : Nat) : List Nat :=
  (List.range (s.tileSlots h)).filter fun i => field (s.tileHead h i) 0 1 == kind

/-- The lowest slot whose KIND is 0 (R406). -/
def State.freeTile (s : State) (h : Nat) : Option Nat := (s.tilesOf h 0).head?

/-- A new tile header (R406). -/
def tileHeader (kind cellDm : Nat) (x y : Int) (fieldId : Nat) (lat lon : Int) (updated : Nat) : List Byte :=
  le 1 kind ++ le 1 1 ++ le 2 cellDm ++ leInt 4 x ++ leInt 4 y ++ le 4 fieldId ++ leInt 4 lat ++ leInt 4 lon ++ le 8 updated ++
    le 2 0 ++ List.replicate 30 0

/-- Offset of a cell in its placement (R406). -/
def cellOffset (slot col row : Nat) : Nat := slot * tileSize + 64 + 16 * (64 * row + col)

/-- The 16 bytes of a cell. -/
def State.cell (s : State) (h slot col row : Nat) : List Byte := s.readPlace h (cellOffset slot col row) 16

/-- The merge of a coverage cell (R673): `bits` and `time` come from the writer. -/
def mergeCell (old : List Byte) (bits time machine : Nat) (remote : Bool) : List Byte :=
  let had := field old 0 2
  let now := had ||| bits % 2 ^ 16
  let fresh := now != had
  let passes := field old 2 1
  let last := field old 8 8
  let flags := field old 3 1
  le 2 now ++ le 1 (if fresh && last + 10 * sec < time then satNat 255 (passes + 1) else passes) ++
    le 1 (if fresh then flags - (flags / 4 % 2) * 4 + 4 * flag remote else flags) ++
    le 2 (if fresh then machine else field old 4 2) ++ (old.drop 6).take 2 ++ le 8 (max last time)

/-- Write a cell whole, then the tile's UPDATED and CELLS_USED (R407; assumption 29). -/
def State.writeCell (s : State) (h slot col row : Nat) (new : List Byte) (used : Bool) : State :=
  let d := s.tileHead h slot
  (s.writePlace h (cellOffset slot col row) new).writePlace h (slot * tileSize + 24)
    (le 8 s.time ++ le 2 (field d 32 2 + flag used))

/-- Merge one coverage cell of a tile that the placement holds. -/
def State.mergeAt (s : State) (h slot col row bits time machine : Nat) (remote : Bool) : State :=
  let old := s.cell h slot col row
  s.writeCell h slot col row (mergeCell old bits time machine remote) (field old 0 2 == 0 && bits % 2 ^ 16 != 0)

/-- The tile of a coverage cell, claimed where the placement does not yet hold it; `none` where no slot is free (R674). The
flag says that a slot was claimed. -/
def State.claimTile (s : State) (h : Nat) (x y : Int) (fieldId cellDm : Nat) (lat lon : Int) : Option (Nat × Bool × State) :=
  match s.tileAt h 1 x y with
  | some i => some (i, false, s)
  | none => (s.freeTile h).map fun i =>
      (i, true, s.writePlace h (i * tileSize) (tileHeader 1 cellDm x y fieldId lat lon s.time))

end Sys2Proof.Machine
end

