-- ==== Sys2Proof/Machine/GeoOps.lean ====
section
/-! DEFINITION. Plane geometry: sine and cosine, the machine frame and the local plane (R405, R468, R525). Angles are in
10^−6 degree clockwise from north; sines carry the factor 10^12 (assumption 26). -/

namespace Sys2Proof.Machine

/-- 10^12, the scale of a sine. -/
def unitScale : Int := 1000000000000

/-- Product of two scaled numbers. -/
def smul (a b : Int) : Int := a * b / unitScale

/-- Sine × 10^12 of an angle in radians × 10^12, between −π/2 and π/2: seven terms of its series. -/
def sinSeries (x : Int) : Int :=
  let q := smul x x
  smul x (([156, 110, 72, 42, 20, 6] : List Int).foldl (fun acc k => unitScale - smul q acc / k) unitScale)

/-- The angle brought into −180° to 180°. -/
def wrapAngle (a : Int) : Int := (a + 180000000) % 360000000 - 180000000

/-- Sine × 10^12 of an angle in 10^−6 degree. -/
def sinA (a : Int) : Int :=
  let a := wrapAngle a
  let a := if a > 90000000 then 180000000 - a else if a < -90000000 then -180000000 - a else a
  sinSeries (a * 174532925199433 / 10000000000)

/-- Cosine × 10^12 of an angle in 10^−6 degree. -/
def cosA (a : Int) : Int := sinA (a + 90000000)

/-- Scale a length by a sine, to the nearest unit. -/
def along (len : Int) (sine : Int) : Int := divRound (len * sine) unitScale

/-- East and north of an offset forward and right in a frame of heading `h` (R405). -/
def frameOffset (h fwd right : Int) : Int × Int :=
  (along fwd (sinA h) + along right (cosA h), along fwd (cosA h) - along right (sinA h))

/-- A point moved by an offset. -/
def move (p d : Int × Int) : Int × Int := (p.1 + d.1, p.2 + d.2)

/-- Length of a vector. -/
def norm (d : Int × Int) : Int := (Nat.sqrt (d.1 * d.1 + d.2 * d.2).toNat : Int)

/-- Difference of two points. -/
def from_ (a b : Int × Int) : Int × Int := (b.1 - a.1, b.2 - a.2)

/-- Distance of a point right of the directed line through `a` and `b` (R526: right of path positive). -/
def rightOf (a b p : Int × Int) : Int :=
  let d := from_ a b
  let r := from_ a p
  divRound (r.1 * d.2 - r.2 * d.1) (max 1 (norm d))

/-- Distance along the directed line from `a` towards `b` of the foot of a point. -/
def footOf (a b p : Int × Int) : Int :=
  let d := from_ a b
  let r := from_ a p
  divRound (r.1 * d.1 + r.2 * d.2) (max 1 (norm d))

/-- The point at a distance along and right of the directed line from `a` towards `b`. -/
def pointAt (a b : Int × Int) (l right : Int) : Int × Int :=
  let d := from_ a b
  let n := max 1 (norm d)
  (a.1 + divRound (l * d.1 + right * d.2) n, a.2 + divRound (l * d.2 - right * d.1) n)

end Sys2Proof.Machine
end

