-- ==== Sys2Proof/Machine/TimeOps.lean ====
section
/-! DEFINITION. The timekeeper's operations: error estimate, source changes, the timing message, the hand-off to 802.1AS (15). -/

namespace Sys2Proof.Machine

/-- Navigation data with the UTC parameters usable: 7 days (R498). -/
def State.utcValid (s : State) : Bool := s.nav.base.kept.utcAt.any fun t => decide (s.time ≤ t + 7 * 86400 * sec)

/-- Error estimate of holdover, ns, after `d` ns with the TCXO temperature changed by `dT` °C (R529). -/
def holdoverError (d dT : Nat) : Nat :=
  50 + divNear (8 * 10 ^ 11 * d + 2 * d * d + 5 * 10 ^ 11 * d * dT) (10 ^ 21)

/-- ERROR_NS (R528–R531; the RTC's own estimate is open, assumption 27). -/
def State.errorNs (s : State) : Nat :=
  let k := s.nav.time
  if k.lostTime then 2 ^ 32 - 1
  else match k.source with
    | .gnss => satNat (2 ^ 32 - 1) (50 + k.slew.natAbs)
    | .peer => 50
    | .holdover => satNat (2 ^ 32 - 1)
        (holdoverError (s.time - k.holdSince.getD s.time) (k.temp - k.holdTemp).natAbs + k.slew.natAbs)
    | .rtc => (Config.rtcErrorNs (s.time - k.lastTime.getD 0)).toNat

/-- Change the timekeeper. -/
def State.modTimekeeper (s : State) (f : Timekeeper → Timekeeper) : State :=
  { s with nav := { s.nav with time := f s.nav.time } }

/-- The outputs are held because only valid pulses are wanted (R530). -/
def Timekeeper.suppressed (k : Timekeeper) : Bool := k.onlyValid && !k.valid

/-- FLAGS of the timing message (R534); TIME_VALID is set from a pulse that steps (R531). -/
def State.timeFlags (s : State) (step : Bool) : Nat :=
  let k := s.nav.time
  let valid := k.valid || step
  flag valid + 2 * flag (k.source == .holdover) + 4 * flag step + 8 * flag (k.onlyValid && !valid) + 16 * flag s.utcValid

/-- Change the timekeeper, raising TIME_STATE on a change of TIME_VALID, HOLDOVER or SOURCE (R542). -/
def State.setTime (s : State) (f : Timekeeper → Timekeeper) : State :=
  let k := s.nav.time
  let s := s.modTimekeeper f
  let k' := s.nav.time
  if k.valid != k'.valid || k.source != k'.source then
    s.raise uTime 0x2101 (le 1 (s.timeFlags false) ++ le 1 k'.source.code ++ le 2 0 ++ le 4 s.errorNs)
  else s

/-- TIME_VALID is set, for the first time since the NAV start where it was not (R530, R534). -/
def Timekeeper.validate (k : Timekeeper) : Timekeeper := { k with valid := true, everValid := true, lostTime := false }

/-- Seconds since holdover began (R534); 0 outside it. -/
def State.holdoverSeconds (s : State) : Nat :=
  if s.nav.time.source == .holdover then (s.time - s.nav.time.holdSince.getD s.time) / sec else 0

/-- The timing message of the pulse at `pulse` (R534). -/
def State.timingBody (s : State) (pulse : Nat) (qerr : Int) (stepNs : Int) (step : Bool) : List Byte :=
  let k := s.nav.time
  le 8 pulse ++ leInt 4 qerr ++ le 4 s.errorNs ++ leInt 8 (if step then stepNs else 0) ++ le 1 (s.timeFlags step) ++
    le 1 k.source.code ++ le 1 s.nav.base.kept.leap ++ le 1 0 ++ le 4 (satNat (2 ^ 32 - 1) s.holdoverSeconds) ++
    leInt 4 (clampInt (-2147483648) 2147483647 k.slew) ++ le 4 0

/-- PTP time of a module time (R535). -/
def ptpTime (t : Nat) : Nat := t + 315964819 * sec

/-- What Announce says (R535). -/
def State.announcement (s : State) : Announced :=
  let k := s.nav.time
  let e := s.errorNs
  let acc := if e ≤ 100 then 0x21 else if e ≤ 250 then 0x22 else if e ≤ 1000 then 0x23 else if e ≤ 2500 then 0x24
    else if e ≤ 10000 then 0x25 else 0xFE
  { clockClass := if !k.valid then 248 else if k.source == .holdover then 7 else 6, accuracy := acc,
    timeSource := if k.source == .gnss then 0x20 else 0xA0, utcOffset := s.nav.base.kept.leap + 19,
    utcValid := s.utcValid }

/-- The GPS second next after a module time. -/
def nextSecond (t : Nat) : Nat := (t / sec + 1) * sec

/-- Take an outputs' TIME_CONFIG into force (R541). -/
def Timekeeper.configure (k : Timekeeper) (p : List Byte) : Timekeeper :=
  { k with holdoverS := field p 4 4, onlyValid := bit (field p 8 1) 0, flags := (field p 12 1, field p 13 1),
           width := (field p 14 2, field p 16 2), cable := (fieldInt p 18 2, fieldInt p 20 2), nextCfg := none }

/-- One output's pulse: emitted, or suppressed and counted (R530, R533, R534). -/
def State.emitPulse (s : State) (b : Bool) : State :=
  let k := s.nav.time
  let fl := if b then k.flags.2 else k.flags.1
  if !bit fl 0 || !k.everValid then s
  else if k.suppressed then s.count uTime 19
  else (s.modTimekeeper fun k =>
    { k with pulses := if b then (k.pulses.1, k.pulses.2 + 1) else (k.pulses.1 + 1, k.pulses.2) }).count uTime 16

end Sys2Proof.Machine
end

