-- ==== Sys2Proof/Machine/NavOps.lean ====
section
/-! DEFINITION. The navigation baseband's operations: signals, spacings, allocation, kept data and starts (14), and the RTCM
frames of the RTK engine (15). -/

namespace Sys2Proof.Machine

/-- Change the baseband. -/
def State.modBase (s : State) (f : Baseband → Baseband) : State := { s with nav := { s.nav with base := f s.nav.base } }

/-- Signal channel `n`. -/
def State.navChan (s : State) (n : Nat) : NavChannel := s.nav.base.chans.rd n NavChannel.reset

/-- Write signal channel `n`. -/
def State.setNavChan (s : State) (n : Nat) (c : NavChannel) : State :=
  s.modBase fun b => { b with chans := b.chans.put n c }

/-- Change signal channel `n`. -/
def State.modNavChan (s : State) (n : Nat) (f : NavChannel → NavChannel) : State :=
  s.modBase fun b => { b with chans := b.chans.upd n NavChannel.reset f }

/-! ### Signals (R483, R486) -/

/-- A row of the table of signals. -/
structure Signal where
  /-- carrier, 10 Hz units, at GLONASS frequency number 0 -/
  carrier : Nat
  /-- carrier step by GLONASS frequency number, 10 Hz units -/
  step : Nat
  /-- chip rate, 10 Hz units -/
  chip : Nat
  boc : Bool
  pilot : Bool
  /-- 0 U, 1 L2, 2 L5 -/
  band : Nat
  /-- narrowest spacing code, 0 for 0.025 chip -/
  narrow : Nat
  priority : Nat
  deriving DecidableEq, Repr

/-- The table of R483. -/
def signal : Nat → Option Signal
  | 0x01 => some ⟨157542000, 0, 102300, false, false, 0, 0, 1⟩
  | 0x02 => some ⟨157542000, 0, 102300, true, true, 0, 0, 15⟩
  | 0x03 => some ⟨122760000, 0, 102300, false, true, 1, 0, 9⟩
  | 0x04 => some ⟨117645000, 0, 1023000, false, true, 2, 26, 6⟩
  | 0x11 => some ⟨157542000, 0, 102300, true, true, 0, 0, 2⟩
  | 0x12 => some ⟨117645000, 0, 1023000, false, true, 2, 26, 7⟩
  | 0x13 => some ⟨120714000, 0, 1023000, false, true, 2, 26, 10⟩
  | 0x14 => some ⟨127875000, 0, 511500, false, true, 1, 13, 13⟩
  | 0x21 => some ⟨156109800, 0, 204600, false, false, 0, 7, 4⟩
  | 0x22 => some ⟨157542000, 0, 102300, true, true, 0, 0, 3⟩
  | 0x23 => some ⟨117645000, 0, 1023000, false, true, 2, 26, 8⟩
  | 0x24 => some ⟨126852000, 0, 1023000, false, false, 1, 26, 11⟩
  | 0x31 => some ⟨160200000, 56250, 51100, false, false, 0, 0, 5⟩
  | 0x32 => some ⟨124600000, 43750, 51100, false, false, 1, 0, 12⟩
  | 0x41 => some ⟨157542000, 0, 102300, false, false, 0, 0, 1⟩
  | 0x42 => some ⟨122760000, 0, 102300, false, true, 1, 0, 9⟩
  | 0x43 => some ⟨117645000, 0, 1023000, false, true, 2, 26, 6⟩
  | 0x44 => some ⟨127875000, 0, 511500, false, false, 1, 13, 14⟩
  | 0x51 => some ⟨157542000, 0, 102300, false, false, 0, 0, 16⟩
  | _ => none

/-- The codes of R483. -/
def signalCodes : List Nat :=
  [0x01, 0x02, 0x03, 0x04, 0x11, 0x12, 0x13, 0x14, 0x21, 0x22, 0x23, 0x24, 0x31, 0x32, 0x41, 0x42, 0x43, 0x44, 0x51]

/-- The enable bit of a signal (R483). -/
def signalBit (code : Nat) : Nat := 4 * (code / 16) + code % 16 - 1

/-- The bits that name a signal. -/
def signalMask : Nat := (signalCodes.map fun c => 2 ^ signalBit c).sum

/-- SV lies in the numbering of the signal's system (R483). -/
def svOk (code sv : Nat) : Bool :=
  match code / 16 with
  | 0 => inRange sv 1 32
  | 1 => inRange sv 1 36
  | 2 => inRange sv 1 63
  | 3 => inRange sv 1 24
  | 4 => inRange sv 193 202
  | 5 => inRange sv 120 158
  | _ => false

/-- A spacing code names a spacing (R486). -/
def spacingOk (c : Nat) : Bool := c == 0 || inRange c 4 128

/-- A spacing in 1/5,120 chip: 0.025 chip is 128 (R486). -/
def spacingUnits (c : Nat) : Nat := if c = 0 then 128 else c * 40

/-- The wider of two spacing codes. -/
def wider (a b : Nat) : Nat := if spacingUnits a < spacingUnits b then b else a

/-- EL and VEVL in use on a signal (R486). -/
def spacingsInUse (code el vevl : Nat) : Nat × Nat :=
  let narrow := ((signal code).map (·.narrow)).getD 0
  if spacingUnits el < spacingUnits narrow then (narrow, wider vevl (2 * narrow)) else (el, vevl)

/-- The spacings break R486 or R489. -/
def spacingsBad (el vevl : Nat) (doubleDelta : Bool) : Bool :=
  !spacingOk el || !spacingOk vevl || spacingUnits vevl ≤ spacingUnits el || (doubleDelta && (el == 0 || vevl != 2 * el))

/-- The configuration in force at a module time: SIGNALS, the masks and ANT_B_CHANNELS as set, the remaining fields as set from the
20 ms boundary after the NAV_CONFIG, as before until then (R504; the boundary is assumption 129). -/
def Baseband.inForce (b : Baseband) (now : Nat) : NavConfig :=
  if b.tuneAt ≤ now then b.cfg
  else { b.before with signals := b.cfg.signals, elevMask := b.cfg.elevMask, cn0Mask := b.cfg.cn0Mask, antB := b.cfg.antB }

/-- The configuration the channels run on now. -/
def State.navCfg (s : State) : NavConfig := s.nav.base.inForce s.time

/-- The spacings a channel uses (R486, R505). -/
def NavChannel.spacings (c : NavChannel) (f : NavConfig) : Nat × Nat :=
  if c.assigned then (c.el, c.vevl) else spacingsInUse c.signal f.el f.vevl

/-- The tracking loops of a channel (R487, R489). -/
structure TrackLoops where
  /-- bandwidth of the third-order carrier PLL, Hz -/
  pllBw : Nat
  /-- bandwidth of the second-order FLL that assists it, Hz -/
  fllBw : Option Nat
  /-- bandwidth of the carrier-aided DLL, 0.01 Hz -/
  dllBw : Nat
  /-- the code discriminator is (E − L) − ½ (VE − VL), else normalised early-minus-late power -/
  doubleDelta : Bool
  /-- EL in use -/
  el : Nat
  /-- VEVL in use -/
  vevl : Nat
  /-- coherent integration on the data component, ms -/
  dataMs : Nat
  /-- that integration starts at a data-bit edge -/
  bitEdge : Bool
  /-- coherent integration on the pilot tracked, ms -/
  pilotMs : Option Nat
  deriving DecidableEq, Repr

/-- The loops of a channel in PULL_IN or TRACK: a PLL of PLL_BW with an FLL of 10 Hz in PULL_IN, a DLL of DLL_BW, 1 ms on the data
component until bit synchronisation and INT_MS from a bit edge after it, INT_MS on a pilot from the start of TRACK (R487). -/
def NavChannel.loops (c : NavChannel) (f : NavConfig) : Option TrackLoops :=
  let sp := c.spacings f
  let synced := bit c.locks 3
  let pilot := (Machine.signal c.signal).any (·.pilot)
  let run := fun (pullIn : Bool) =>
    some { pllBw := f.pllBw, fllBw := if pullIn then some 10 else none, dllBw := f.dllBw, doubleDelta := f.doubleDelta,
           el := sp.1, vevl := sp.2, dataMs := if synced then f.intMs else 1, bitEdge := synced,
           pilotMs := if pilot && !pullIn then some f.intMs else none }
  match c.state with
  | .pullIn => run true
  | .track => run false
  | _ => none

/-- The loops channel `n` runs (R487). -/
def State.loopsOf (s : State) (n : Nat) : Option TrackLoops := (s.navChan n).loops s.navCfg

/-- The signal is enabled (R504). -/
def NavConfig.enabled (c : NavConfig) (code : Nat) : Bool := (signal code).isSome && bit c.signals (signalBit code)

/-! ### Events -/

/-- Antenna `a`. -/
def State.antenna (s : State) (a : Nat) : Antenna := s.nav.base.ants.rd a Antenna.reset

/-- Change an antenna. -/
def State.modAntenna (s : State) (a : Nat) (f : Antenna → Antenna) : State :=
  s.modBase fun b => { b with ants := b.ants.upd a Antenna.reset f }

/-- Set the bias state of an antenna; a change raises ANTENNA_STATE (R494). -/
def State.setBias (s : State) (a st ma : Nat) : State :=
  let old := (s.antenna a).bias
  let s := s.modAntenna a fun x => { x with bias := st, ma := ma, shortAt := if st = 3 then some s.time else none }
  if old = st then s else s.raise uBaseband 0x2002 (le 1 a ++ le 1 st ++ le 2 ma)

/-- Band `b` of an antenna. -/
def State.band (s : State) (a b : Nat) : NavBand := (s.antenna a).bands.rd b NavBand.reset

/-- Change a band. -/
def State.modBand (s : State) (a b : Nat) (f : NavBand → NavBand) : State :=
  s.modAntenna a fun x => { x with bands := x.bands.upd b NavBand.reset f }

/-- Frequency range of a band, 10 Hz units (R483). -/
def bandRange (b : Nat) : Nat × Nat :=
  match b with
  | 0 => (155900000, 161000000)
  | 1 => (121500000, 130000000)
  | _ => (116400000, 121500000)

/-- Centre of a spectrum bin, the 1,024 bins spread evenly over the band (assumption 30). -/
def binCentre (b bin : Nat) : Nat :=
  let r := bandRange b
  r.1 + (2 * bin + 1) * (r.2 - r.1) / 2048

/-- A notch stands in the main lobe of the channel's signal (R492). -/
def State.notched (s : State) (c : NavChannel) : Bool :=
  match signal c.signal with
  | none => false
  | some g =>
    let f := ((g.carrier : Int) + g.step * c.gloK).toNat
    let half := if g.boc then 2 * g.chip else g.chip
    (s.band c.ant g.band).notches.any fun n => absDiff (binCentre g.band n.bin) f ≤ half

/-- FLAGS of a channel's measurement record (R496). -/
def State.trackFlags (s : State) (c : NavChannel) : Nat :=
  c.locks % 16 + 16 * flag c.multipath + 32 * flag c.slip + 64 * flag (s.notched c) +
    128 * flag ((signal c.signal).any (·.pilot))

/-! ### Kept data (R497, R498) -/

/-- System of a satellite key: SIGNAL div 16, as in system × 256 + SV. -/
def isGlonass (key : Nat) : Bool := key / 256 == 3

/-- An ephemeris is usable: 4 h from its reference time, 1 h for GLONASS (R498). -/
def usableEph (now key : Nat) (e : Ephemeris) : Bool := decide (now ≤ e.ref + (if isGlonass key then 3600 else 14400) * sec)

/-- The start in progress disregards the time and all kept data: RESTART COLD (R509). -/
def State.disregards (s : State) : Bool := s.nav.base.starting.any (·.kind == 3)

/-- A kept item stored at a module time counts for the start in progress: a start that disregards kept data counts what has come
since it began (R500, R509). -/
def State.counts (s : State) (stored : Nat) : Bool :=
  s.nav.base.starting.all fun x => x.kind != 3 || decide (x.begun ≤ stored)

/-- Satellites with a usable ephemeris. -/
def State.usableSats (s : State) : List Nat :=
  (s.nav.base.kept.ephemerides.entries.filter fun e => usableEph s.time e.1 e.2).map (·.1)

/-- A satellite's ephemeris is usable for the start in progress (R497, R500). -/
def State.ephUsable (s : State) (key : Nat) : Bool :=
  (s.nav.base.kept.ephemerides.find key).any fun e => usableEph s.time key e && s.counts e.storedAt

/-- The almanac is valid: 90 days, 30 for GLONASS (R498). -/
def State.almanacValid (s : State) : Bool :=
  let k := s.nav.base.kept
  (k.almanac.any fun t => s.counts t && decide (s.time ≤ t + 90 * 86400 * sec)) ||
    k.almanacGlo.any fun t => s.counts t && decide (s.time ≤ t + 30 * 86400 * sec)

/-- The almanac of a satellite's system is valid (R498). -/
def State.almanacFor (s : State) (key : Nat) : Bool :=
  let k := s.nav.base.kept
  if isGlonass key then k.almanacGlo.any fun t => s.counts t && decide (s.time ≤ t + 30 * 86400 * sec)
  else k.almanac.any fun t => s.counts t && decide (s.time ≤ t + 90 * 86400 * sec)

/-- Time is known: t_unc is 2 s or less (R497, R500). -/
def State.timeKnown (s : State) : Bool := 
  (!s.disregards && (s.nav.time.valid || s.nav.base.kept.rtcGood)) || s.nav.base.aid.time.isSome

/-- A position is kept, or aided (R500, R507). -/
def State.positionKnown (s : State) : Bool := 
  (!s.disregards && s.nav.base.kept.position.isSome) || s.nav.base.aid.pos.isSome

/-- The conditions of HOT with the satellites `visible` (R500). -/
def State.hot (s : State) (visible : List Nat) : Bool :=
  s.timeKnown && s.positionKnown && 5 ≤ (visible.filter s.ephUsable).length

/-- Class of a NAV start (R500); KIND 3 disregards the time and all kept data (R509). -/
def State.classify (s : State) (kind : Nat) (visible : List Nat) : Nat :=
  if kind = 3 then 3 else if s.hot visible then 1 else if s.timeKnown && s.almanacValid then 2 else 3

/-- An aid takes part in what is known: a time, a position, or the ephemeris of a visible satellite (R500, R507, R508). -/
def State.aided (s : State) : Bool :=
  let b := s.nav.base
  b.aid.time.isSome || b.aid.pos.isSome ||
    b.visible.any fun k => (b.kept.ephemerides.find k).any fun e => e.aided && s.ephUsable k

/-- Aids that make the HOT conditions hold raise the class of the start in progress (R500, R501). -/
def State.raiseClass (s : State) : State :=
  match s.nav.base.starting with
  | some x =>
    if x.cls != 1 && s.aided && s.hot s.nav.base.visible then
      s.modBase fun b => { b with cls := 1, starting := some { x with cls := 1, raised := true, since := s.time } }
    else s
  | none => s

/-! ### Search windows (R497) -/

/-- t_unc that NAV holds, ns; none where time is unknown (R497). -/
def State.heldTimeUnc (s : State) : Option Nat :=
  let kept := s.nav.base.kept.rtcGood && !s.disregards
  match s.nav.base.aid.time with
  | some (_, u) => some (if kept then min 31000 u else u)
  | none => if kept then some 31000 else none

/-- Position uncertainty that NAV holds, m (R497). -/
def State.heldPosUnc (s : State) : Option Nat :=
  let kept := s.nav.base.kept.position.isSome && !s.disregards
  match s.nav.base.aid.pos with
  | some (_, _, _, u) => some (if kept then min 10000 u else u)
  | none => if kept then some 10000 else none

/-- Velocity uncertainty that NAV holds, mm/s (R497). -/
def State.heldVelUnc (s : State) : Nat :=
  let k := if s.nav.base.kept.position.any (·.still) then 0 else 50000
  (s.nav.base.aid.vel.map fun v => min v k).getD k

/-- Frequency uncertainty that NAV holds, ppb (R497). -/
def State.heldFreqUnc (s : State) : Nat :=
  let k := if s.nav.base.kept.tcxo.entries.isEmpty then 2500 else 500
  (s.nav.base.aid.freq.map fun v => min v k).getD k

/-- Length of a signal's tracked code, chips: 1,023 for GPS L1 C/A, whose whole code is 2,046 cells of 0.5 chip (R497). -/
def codeLength (code : Nat) : Nat := if code = 0x01 then 1023 else Config.codeChips code

/-- Speed of light, m/s (R497). -/
def lightSpeed : Nat := 299792458

/-- half_code_chips in 1/1,000 chip; none where an input is unknown or the window exceeds half a code period: the whole code (R497). -/
def State.halfCode (s : State) (code key : Nat) : Option Nat :=
  let rc := 10 * ((signal code).map (·.chip)).getD 0
  let orbit := if s.ephUsable key then some 2 else if s.almanacFor key then some 10000 else none
  match s.heldTimeUnc, s.heldPosUnc, orbit with
  | some t, some p, some o =>
    let x := divNear (1000 * rc * (t * lightSpeed + (p + o) * sec)) (sec * lightSpeed) + 2000
    if 500 * codeLength code < x then none else some x
  | _, _, _ => none

/-- half_doppler_hz in mHz (R497). -/
def State.halfDoppler (s : State) (code key : Nat) (k : Int) : Nat :=
  let f := match signal code with
    | some g => (10 * ((g.carrier : Int) + g.step * k)).toNat
    | none => 0
  let dSv := if s.ephUsable key then 5 else if s.almanacFor key && s.timeKnown then 300 else 5000
  divNear (f * (s.heldFreqUnc * lightSpeed + s.heldVelUnc * 1000000)) (1000000 * lightSpeed) + 1000 * (dSv + 100)

/-- Cells of 0.5 chip by 500 Hz that a window holds (R497). -/
def SearchWindow.cells (w : SearchWindow) (code : Nat) : Nat :=
  let c := match w.code with
    | some h => (2 * h + 499) / 500
    | none => 2 * codeLength code
  c * ((2 * w.doppler + 499999) / 500000)

/-- Channel `n` begins to search for its signal (R485, R497); an acquisition started is counted (R513). -/
def State.startAcq (s : State) (n : Nat) : State :=
  let c := s.navChan n
  let key := c.signal / 16 * 256 + c.sv
  let w : SearchWindow := { code := s.halfCode c.signal key, doppler := s.halfDoppler c.signal key c.gloK }
  (s.setNavChan n { c with state := .acq, search := some w }).count uBaseband 16

/-- Begin a NAV start: every channel released, those assigned by CHANNEL_SET to search again, the class fixed, the bias of the
antennas on (R494, R500; what a release leaves of an assignment is assumption 132). After RESTART the measurement stream waits for
the first channel in TRACK (R509). -/
def State.navStart (s : State) (cause kind : Nat) (visible : List Nat) (req : Option Requester) : State :=
  let s := s.modBase fun b => { b with starting := none, aid := AcqAid.none }
  let cls := s.classify kind visible
  let held := (s.nav.base.chans.entries.filter (·.2.assigned)).map (·.1)
  let s := s.modBase fun b =>
    { b with chans := b.chans.mapAll fun _ c =>
               if c.assigned then { NavChannel.reset with assigned := true, signal := c.signal, sv := c.sv, ant := c.ant,
                                                          el := c.el, vevl := c.vevl, gloK := c.gloK }
               else NavChannel.reset,
             cls := cls, visible := visible, flowing := cause != 3,
             starting := some { cls := cls, cause := cause, since := s.time, begun := s.time, raised := false,
                                discarded := false, req := req, kind := kind } }
  let s := held.foldl State.startAcq s
  let s := s.modTimekeeper fun k => { k with everValid := k.valid }
  (s.setBias 0 1 (s.antenna 0).ma).setBias 1 (if s.nav.base.cfg.antB = 0 then 0 else 1) (s.antenna 1).ma

/-! ### Allocation (R484) -/

/-- Satellites and signals in the order of R484: descending elevation, then ascending priority. -/
def viewBefore (a b : SatView) : Bool :=
  let pa := ((signal a.signal).map (·.priority)).getD 99
  let pb := ((signal b.signal).map (·.priority)).getD 99
  b.elev < a.elev || (a.elev == b.elev && (a.signal / 16 * 256 + a.sv < b.signal / 16 * 256 + b.sv ||
    (a.signal / 16 == b.signal / 16 && a.sv == b.sv && pa ≤ pb)))

/-- Insert a view in its place. -/
def insertView (x : SatView) : List SatView → List SatView
  | [] => [x]
  | y :: ys => if viewBefore x y then x :: y :: ys else y :: insertView x ys

/-- What automatic allocation wants, in order: ANT_A first, then ANT_B (R484). -/
def wanted (c : NavConfig) (sats : List SatView) : List (Nat × SatView) :=
  let ok := (sats.filter fun v => c.enabled v.signal && decide ((c.elevMask : Int) < v.elev)).foldr insertView []
  (ok.map fun v => (0, v)) ++ if c.antB = 0 then [] else ok.map fun v => (1, v)

/-- The channel tracks this signal of this satellite at this antenna. -/
def NavChannel.is (c : NavChannel) (ant : Nat) (v : SatView) : Bool :=
  c.state != .idle && c.ant == ant && c.signal == v.signal && c.sv == v.sv

/-- The channel's signal still meets both masks (R484). -/
def meetsMasks (c : NavConfig) (x : NavChannel) : Bool :=
  x.state != .idle && c.enabled x.signal && decide ((c.elevMask : Int) < x.elev) && c.cn0Mask * 100 ≤ x.cn0 &&
    (x.ant == 0 || c.antB != 0)

/-- Choose what to track within the channels left and ANT_B's share (R484). -/
def chooseViews : Nat → Nat → List (Nat × SatView) → List (Nat × SatView)
  | 0, _, _ => []
  | _, _, [] => []
  | n + 1, b, (a, v) :: l =>
    if a = 0 then (a, v) :: chooseViews n b l
    else if b = 0 then chooseViews (n + 1) b l
    else (a, v) :: chooseViews n (b - 1) l

/-- The lowest automatic channel that is IDLE. -/
def State.idleChannel (s : State) : Option Nat :=
  (List.range 320).find? fun n => (s.navChan n).state == .idle && !(s.navChan n).assigned

/-- Put a signal on the lowest free channel: an acquisition starts (R485). -/
def State.assignView (s : State) (x : Nat × SatView) : State :=
  match s.idleChannel with
  | none => s
  | some n => (s.setNavChan n { NavChannel.reset with signal := x.2.signal, sv := x.2.sv, ant := x.1, elev := x.2.elev,
                                                      gloK := x.2.gloK }).startAcq n

/-- Channel `a` stands before channel `b` in the order of R484: ANT_A first, then as the views do. -/
def NavChannel.before (a b : NavChannel) : Bool :=
  let v := fun (x : NavChannel) => ({ signal := x.signal, sv := x.sv, elev := x.elev, gloK := x.gloK } : SatView)
  a.ant < b.ant || (a.ant == b.ant && viewBefore (v a) (v b))

/-- Insert a channel in its place. -/
def insertChannel (x : Nat × NavChannel) : List (Nat × NavChannel) → List (Nat × NavChannel)
  | [] => [x]
  | y :: ys => if x.2.before y.2 then x :: y :: ys else y :: insertChannel x ys

/-- The automatic channels that keep their signal, in the order of R484: those that meet both masks, as far as the channels left
and ANT_B's share allow. -/
def State.keptChannels (s : State) (cap capB : Nat) : List (Nat × NavChannel) :=
  let l := (s.nav.base.chans.entries.filter fun e => !e.2.assigned && meetsMasks s.nav.base.cfg e.2).foldr insertChannel []
  ((l.filter (·.2.ant == 0)) ++ (l.filter (·.2.ant == 1)).take capB).take cap

/-- Channels left to automatic allocation, and ANT_B's share of them: 48 channels of ANT_A in Ready, else 320 and ANT_B_CHANNELS, less
those that CHANNEL_SET holds (R105, R484, R505). -/
def State.channelCaps (s : State) : Nat × Nat :=
  let assigned := s.nav.base.chans.entries.filter (·.2.assigned)
  let b := (assigned.filter (·.2.ant == 1)).length
  if s.power.rung == 1 then (48 - assigned.length, 0) else (320 - assigned.length, s.nav.base.cfg.antB - b)

/-- Ready goes on tracking up to 48 channels of ANT_A; the others are released (R105, R500). -/
def State.trackReady (s : State) : State :=
  let caps := s.channelCaps
  let kept := (s.keptChannels caps.1 caps.2).map (·.1)
  s.modBase fun b => { b with chans := b.chans.mapAll fun n c =>
    if c.state != .idle && !c.assigned && !kept.contains n then NavChannel.reset else c }

/-- Reallocation (R484): channels whose signal meets both masks keep it; what is left goes to the order of R484, and a signal
with no channel is dropped. In Ready 48 channels of ANT_A track (R500). -/
def State.reallocate (s : State) (sats : List SatView) : State :=
  let auto := fun (x : NavChannel) => x.state != .idle && !x.assigned
  let caps := s.channelCaps
  let kept := s.keptChannels caps.1 caps.2
  let want := (wanted s.nav.base.cfg sats).filter fun w => !kept.any fun x => x.2.is w.1 w.2
  let chosen := chooseViews (caps.1 - kept.length) (caps.2 - (kept.filter (·.2.ant == 1)).length) want
  let stays := fun (n : Nat) (x : NavChannel) => kept.any (·.1 == n) || chosen.any fun w => x.is w.1 w.2
  let refresh := fun (x : NavChannel) =>
    match sats.find? fun v => v.signal == x.signal && v.sv == x.sv with
    | some v => { x with elev := v.elev, gloK := v.gloK }
    | none => x
  let s := s.modBase fun b =>
    { b with chans := b.chans.mapAll fun n x => if auto x && !stays n x then NavChannel.reset else refresh x,
             visible := (sats.map fun v => v.signal / 16 * 256 + v.sv).dedup }
  (chosen.filter fun w => !s.nav.base.chans.entries.any fun e => auto e.2 && e.2.is w.1 w.2).foldl State.assignView s

/-! ### RTCM frames (R508, R516) -/

/-- CRC-24Q of a run of bytes (R508, R516; its polynomial 0x864CFB is assumption 28). -/
def crc24q (bs : List Byte) : Nat :=
  bs.foldl (fun c b => (List.range 8).foldl
    (fun c _ => let c2 := c * 2; (if bit c2 24 then c2 ^^^ 0x1864CFB else c2) % 2 ^ 24) (c ^^^ (b.toNat * 65536))) 0

/-- The number a run of bytes spells, first byte most significant. -/
def beNat (bs : List Byte) : Nat := bs.foldl (fun a b => a * 256 + b.toNat) 0

/-- The length field of a frame: the low 10 bits after the preamble. -/
def rtcmLength (f : List Byte) : Nat := beNat ((f.drop 1).take 2) % 1024

/-- Message type: the first 12 bits of the message. -/
def rtcmType (f : List Byte) : Nat := beNat ((f.drop 3).take 2) / 16

/-- Station ID: the 12 bits that follow the message type. -/
def rtcmStation (f : List Byte) : Nat := beNat ((f.drop 3).take 3) % 4096

/-- The CRC of a whole frame passes. -/
def rtcmCrcOk (f : List Byte) : Bool := crc24q (f.take (f.length - 3)) == beNat (f.drop (f.length - 3))

/-- The ephemeris types of R508. -/
def ephemerisType (n : Nat) : Bool := [1019, 1020, 1042, 1044, 1045, 1046].contains n

/-- The correction messages of R516 that carry measurements. -/
def msmType (n : Nat) : Bool := [107, 108, 109, 111, 112].contains (n / 10) && inRange (n % 10) 4 7

/-- The message types the engine uses (R516). -/
def usedType (n : Nat) : Bool := [1005, 1006, 1007, 1008, 1033, 1230].contains n || msmType n

/-- Change the RTK engine. -/
def State.modRtk (s : State) (f : Rtk → Rtk) : State := { s with nav := { s.nav with rtk := f s.nav.rtk } }

/-- Take one frame whose CRC has passed (R516, R517). -/
def State.takeFrame (s : State) (f : List Byte) : State :=
  let n := rtcmType f
  let s := (s.modRtk fun r => { r with frames := r.frames + 1 }).count uRtk 16
  if !usedType n then s.count uRtk 18
  else if n = 1005 || n = 1006 then
    let id := rtcmStation f
    s.modRtk fun r => { r with stations := (id :: r.stations).dedup }
  else if msmType n && s.nav.rtk.stations.contains (rtcmStation f) then
    s.modRtk fun r => { r with corrStation := rtcmStation f, corrAt := some s.time,
                               dropped := r.dropped || (r.corrAt.isSome && r.corrStation != rtcmStation f) }
  else s

/-- Find the frames in the bytes received (R516): `fuel` bounds the bytes taken off the front. -/
def State.parseRtcm : Nat → State → State
  | 0, s => s
  | fuel + 1, s =>
    match s.nav.rtk.buffer with
    | [] => s
    | b :: rest =>
      if b != 0xD3 then (s.modRtk fun r => { r with buffer := rest }).parseRtcm fuel
      else
        let buf := b :: rest
        let n := 6 + rtcmLength buf
        if buf.length < 3 || buf.length < n then s
        else if rtcmCrcOk (buf.take n) then
          ((s.modRtk fun r => { r with buffer := buf.drop n }).takeFrame (buf.take n)).parseRtcm fuel
        else
          (((s.modRtk fun r => { r with buffer := rest, crcErr := r.crcErr + 1 }).count uRtk 17)).parseRtcm fuel

end Sys2Proof.Machine
end

