-- ==== Sys2Proof/Machine/GuideOps.lean ====
section
/-! DEFINITION. Solutions, the guidance line and steering (15). -/

namespace Sys2Proof.Machine

/-- Change the fusion unit. -/
def State.modFusion (s : State) (f : Fusion → Fusion) : State := { s with nav := { s.nav with fusion := f s.nav.fusion } }

/-- FLAGS of a solution (R524). -/
def Solution.flags (x : Solution) : Nat :=
  bitsOf [x.headingValid, x.dead, x.reversing, x.timeValid, x.aligned, x.step]

/-- A solution as a message body (R524). -/
def Solution.body (x : Solution) : List Byte :=
  le 8 x.time ++ leInt 8 x.lat ++ leInt 8 x.lon ++ leInt 4 x.height ++ leInt 4 x.velN ++ leInt 4 x.velE ++ leInt 4 x.velU ++
    leInt 4 x.speed ++ le 2 x.heading ++ leInt 2 x.pitch ++ leInt 2 x.roll ++ leInt 2 x.yawRate ++
    le 2 (satNat 65535 x.hAcc) ++ le 2 (satNat 65535 x.vAcc) ++ le 2 (satNat 65535 x.hdgAcc) ++ le 2 x.baseline ++
    le 1 x.fix ++ le 1 x.flags ++ le 1 x.sats ++ le 1 x.corrAge

/-- The fused ground speed of R386, R404 and R472 (R523), mm/s. -/
def State.groundSpeed (s : State) : Nat := s.nav.fusion.last.speed.natAbs

/-- CORR_AGE_S (R524). -/
def State.corrAge (s : State) : Nat := (s.nav.rtk.corrAt.map fun t => satNat 255 ((s.time - t) / sec)).getD 255

/-- REVERSING: set below −100 mm/s, cleared above −50 mm/s (R523). -/
def reversing (was : Bool) (speed : Int) : Bool :=
  if speed < -100 then true else if -50 < speed then false else was

/-! ### The line (R525) -/

/-- A point of a curve: E, then N (R525). -/
def State.curvePoint (s : State) (h i : Nat) : Int × Int :=
  let d := s.readPlace h (8 * i) 8
  (fieldInt d 0 4, fieldInt d 4 4)

/-- The segments of a line: one for AB, the chain of its points for a curve. -/
def State.segments (s : State) (l : GuideLine) : List ((Int × Int) × (Int × Int)) :=
  if l.curve then (List.range (l.points - 1)).map fun i => (s.curvePoint l.place i, s.curvePoint l.place (i + 1))
  else [((l.aE, l.aN), (l.bE, l.bN))]

/-- Distance of a point from a segment; from the whole line for AB. -/
def segmentDistance (whole : Bool) (p : Int × Int) (g : (Int × Int) × (Int × Int)) : Int :=
  let f := footOf g.1 g.2 p
  let n := norm (from_ g.1 g.2)
  if whole then (rightOf g.1 g.2 p).natAbs else norm (from_ p (pointAt g.1 g.2 (clampInt 0 n f) 0))

/-- Index of the nearest segment, the first of equals. -/
def nearestSegment (whole : Bool) (p : Int × Int) (l : List ((Int × Int) × (Int × Int))) : Nat :=
  (l.zipIdx.foldl (fun (best : Option (Int × Nat)) e =>
    let d := segmentDistance whole p e.1
    match best with
    | some (b, i) => if d < b then some (d, e.2) else some (b, i)
    | none => some (d, e.2)) none |>.map (·.2)).getD 0

/-- The point a distance on along a chain of segments, and `right` of it; the last segment goes on straight. -/
def walk : Int → Int → List ((Int × Int) × (Int × Int)) → (Int × Int)
  | _, _, [] => (0, 0)
  | l, right, [g] => pointAt g.1 g.2 l right
  | l, right, g :: rest =>
    let n := norm (from_ g.1 g.2)
    if l ≤ n then pointAt g.1 g.2 l right else walk (l - n) right rest

/-- What the guidance computes with a solution: cross-track error, pass and curvature (R525, R526; assumption 33). -/
def State.guide (s : State) (l : GuideLine) (x : Solution) : Int × Int × Int :=
  let h := (x.heading : Int) * 10000
  let p := move (Config.localPlane x.lat x.lon l.lat l.lon) (frameOffset h l.fwd l.right)
  let gs := s.segments l
  let i := nearestSegment (!l.curve) p gs
  let g := gs.getD i ((0, 0), (0, 1))
  let d := rightOf g.1 g.2 p
  let w : Int := max 1 l.swath
  let keep := 10 * (d - s.nav.fusion.pass * w).natAbs ≤ 6 * l.swath
  let pass := if keep then s.nav.fusion.pass else divRound d w
  let xte := d - pass * w
  let la : Int := max l.laMin (l.laMs * x.speed.natAbs / 1000)
  let dir := from_ g.1 g.2
  let fwd := decide (0 ≤ dir.1 * sinA h + dir.2 * cosA h)
  let foot := footOf g.1 g.2 p
  let q := if fwd then walk (foot + la) (pass * w) (gs.drop i)
    else walk (norm dir - foot + la) (-(pass * w)) ((gs.take (i + 1)).reverse.map fun e => (e.2, e.1))
  let v := from_ p q
  let num := 2000000000 * (v.1 * cosA h - v.2 * sinA h)
  let kappa := divRound num (max 1 (norm v * la * unitScale))
  (sat32 xte, pass, clampInt (-l.kappaMax) l.kappaMax kappa)

/-! ### Steering (R526, R527) -/

/-- A signal entry on its way to the lanes' table (R353). -/
def State.putSignal (s : State) (slot : Nat) (v : Int) (t : Nat) : State :=
  if slot = 0xFFFF then s
  else s.modControl fun c => { c with signalPending := c.signalPending ++ [(slot, v, t)] }

/-- Write the steering slots with a solution (R526). -/
def State.writeSteer (s : State) (t : Nat) : State :=
  match s.nav.fusion.steer with
  | none => s
  | some x =>
    if s.nav.fusion.engaged then
      ((s.putSignal x.xteSlot s.nav.fusion.xte t).putSignal x.curvSlot s.nav.fusion.kappa t).putSignal x.stateSlot 1 t
    else s.putSignal x.stateSlot 0 t

/-- STEER_STATE fields (R542). -/
def State.steerFields (s : State) (new cause : Nat) : List Byte :=
  le 1 new ++ le 1 cause ++ le 2 0 ++ leInt 4 s.nav.fusion.xte ++ leInt 4 s.nav.fusion.pass

/-- Steering disengages for a cause other than a host's request (R527). -/
def State.disengage (s : State) (cause : Nat) : State :=
  if s.nav.fusion.engaged then
    let s := (s.modFusion fun f => { f with engaged := false, fixLow := none }).writeSteer s.time
    (s.raise uFusion 0x2011 (s.steerFields 0 cause)).count uFusion 19
  else s

/-- The curve of the line has been lost (R527 cause 6). -/
def State.lineLost (s : State) : Bool :=
  match s.nav.fusion.line with
  | none => true
  | some l => l.curve && !(s.lists l.place uFusion)

/-- The first cause of R527 that arises in this solution. -/
def State.disengageCause (s : State) : Option Nat :=
  let f := s.nav.fusion
  let xteMax := (f.line.map (·.xteMax)).getD 0
  if f.fixLow.any fun t => decide (t + 500 * ms ≤ s.time) then some 2
  else if xteMax < f.xte.natAbs && f.line.isSome then some 4
  else if f.reversing then some 5
  else if s.lineLost then some 6
  else none

/-- Fix and line of a new solution, guidance and steering (R525–R527). -/
def State.guidance (s : State) (x : Solution) : State :=
  let s := match s.nav.fusion.line with
    | some l =>
      if s.lineLost then s
      else
        let g := s.guide l x
        s.modFusion fun f => { f with xte := g.1, pass := g.2.1, kappa := g.2.2 }
    | none => s
  let low := s.nav.fusion.engaged && s.nav.fusion.steer.any fun q => x.fix < q.fixMin
  let s := s.modFusion fun f => { f with fixLow := if low then some (f.fixLow.getD s.time) else none }
  let s := if s.nav.fusion.engaged then
      (match s.disengageCause with
        | some c => s.disengage c
        | none => s)
    else s
  s.writeSteer x.time

/-- Steering with a fused solution older than 100 ms disengages (R527 cause 3). -/
def State.steerStale (s : State) : State :=
  if s.nav.fusion.engaged && s.nav.fusion.last.time + 100 * ms < s.time then s.disengage 3 else s

/-- The history of R397: position, heading and speed at 100 ms intervals over the last 60 s, from the first fused solution in each. -/
def State.keepTrack (s : State) (x : Solution) : State :=
  if s.functions.track.any fun p => p.time / (100 * ms) == x.time / (100 * ms) then s
  else
    let p : TrackPoint := { time := x.time, lat := x.lat, lon := x.lon, heading := x.heading * 10, speed := x.speed.natAbs }
    let old := fun q : TrackPoint => decide (x.time ≤ q.time + 60 * sec)
    s.modFunctions fun f => { f with track := (f.track.filter old) ++ [p] }

end Sys2Proof.Machine
end

