-- ==== Sys2Proof/Machine/FunctionOps.lean ====
section
/-! DEFINITION. The machine functions' operations: parameters, starting and stopping, faults, and what each kind computes every
millisecond (11). -/

namespace Sys2Proof.Machine

/-! ### Parameters and bindings -/

/-- 0x8000_0000: an invalid value (R396, R399, R400). -/
def invalidValue : Int := -2147483648

/-- Unsigned field of the parameter block (R411). -/
def Instance.pu (x : Instance) (off size : Nat) : Nat := field x.params off size

/-- Signed 32-bit field of the parameter block. -/
def Instance.pi (x : Instance) (off : Nat) : Int := fieldInt x.params off 4

/-- Kind of the instance's template. -/
def Instance.kind (x : Instance) : TplKind := tplKind x.template

/-- Lane unit of the instance. -/
def Instance.unit (x : Instance) : Nat := uLane x.lane

/-- The first binding of a role. -/
def Instance.one (x : Instance) (k : Nat) : Option Binding := (x.role k).head?

/-- The instance runs: IDLE or ACTIVE. -/
def Instance.running (x : Instance) : Bool := x.state == .idle || x.state == .active

/-- Value of a HOST, SIGNAL, SI or NAV binding (R386). -/
def State.bound (s : State) (b : Binding) : Int :=
  match b.kind with
  | 3 => (s.sensorIn b.ref).value
  | 5 => (s.signalSlot b.ref).1
  | 6 => (s.hostValue b.ref).1
  | 7 => (s.groundSpeed : Int)
  | _ => 0

/-- Write a value to the instance's SP_OUT slot, effective at the next loop tick start (R384). -/
def State.writeSpOut (s : State) (n : Nat) (v : Int) : State :=
  match (s.inst n).one 3 with
  | some b => s.putSignal b.ref v s.time
  | none => s

/-! ### Changes of state -/

/-- FUNCTION_STATE fields (R413). -/
def functionState (n : Nat) (old new : InstState) (cause : Nat) (deferred : Bool) (detail : Nat) : List Byte :=
  le 1 n ++ le 1 old.code ++ le 1 new.code ++ le 1 cause ++ le 1 (flag deferred) ++ le 3 0 ++ le 4 detail

/-- Command an instance's channel on: as a SET entry, along no path (R391, R466). -/
def State.instOn (s : State) (c : Nat) : State :=
  (((s.endEntries c 2).endBegun c 2).named c none).commandOn c |>.finishRequests

/-- Stop what an instance drives: its channels off together, its loops opened with SAFE (R391). -/
def State.release (s : State) (x : Instance) : State :=
  let s := x.chans.foldl (fun s c => if (s.sw c).cmdOn then (s.named c none).commandOff c else s) s
  let s := x.loops.reverse.foldl (fun s l => s.openLoop l 1 0 8) s
  s.finishRequests

/-- Move an instance that stops or faults; a start in progress ends with it (R391, R395). -/
def State.haltInst (s : State) (n : Nat) (new : InstState) (cause detail : Nat) : State :=
  let x := s.inst n
  let old := x.state
  let s := if x.running then s.release x else s
  let s := s.modInst n fun x => { x with state := new, cause := cause, detail := detail, starting := none, governing := false, vHold := none }
  let s := if new == .fault then s.count x.unit 23 else s
  match x.starting with
  | some k => s.settle x.unit 0x1101 (functionState n k.old new cause k.deferred detail) k.req false true
  | none => s.raise x.unit 0x1101 (functionState n old new cause false detail)

/-- Loop `n` can close now (R356, R368). -/
def State.canClose (s : State) (n : Nat) : Bool :=
  let st := (s.loop n).state
  st == .closed || (st == .open && !s.destTaken n && !s.modeForbidsLoop n)

/-- Instance `n` asks the loops of a list to close, where they are open and not asked yet. -/
def State.askClose (s : State) (n : Nat) (l : List Nat) : State :=
  let new := l.filter fun m => (s.loop m).state == .open && (s.loop m).closing.isNone
  let s := new.foldl (fun s m => s.modLoop m fun y => { y with closing := some [] }) s
  s.modInst n fun x => { x with starting := x.starting.map fun k => { k with asked := (k.asked ++ new).dedup } }

/-- A start in progress goes on (R391): AUX_LOOP loops, then the MAIN_LOOP, then the channels; it completes with the last channel
on. A SWITCH instance's channels follow at ON_DELAY_EXPIRY. -/
def State.progress (s : State) (n : Nat) : State :=
  let x := s.inst n
  match x.starting with
  | none => s
  | some k =>
    let aux := (x.role 2).map (·.ref)
    let main := (x.role 1).map (·.ref)
    let closed := fun (l : List Nat) => l.all fun m => (s.loop m).state == .closed
    let reopened := fun (m : Nat) => k.asked.contains m && (s.loop m).state == .open && (s.loop m).closing.isNone
    let bad := (aux ++ main).find? fun m => !s.canClose m || reopened m
    let forbidden := x.chans.find? fun c => !s.modeLets s.mode.mode c || (s.sw c).fault != 0 || (s.sw c).phase == .noSupply
    match bad, forbidden with
    | some m, _ => s.haltInst n .fault 2 m
    | none, some c => s.haltInst n .fault 3 c
    | none, none =>
      if !closed aux then s.askClose n aux
      else if !closed main then s.askClose n main
      else
        let s := if x.kind == .switch then s
          else (k.chans.foldl State.instOn s).modInst n fun y => { y with starting := some { k with chans := [] } }
        let k := ((s.inst n).starting).getD k
        let deferred := k.deferred || x.chans.any fun c => match (s.sw c).phase with
          | .deferred _ => true
          | _ => false
        let s := s.modInst n fun y => { y with starting := some { k with deferred := deferred } }
        if k.chans = [] && x.chans.all (fun c => (s.sw c).phase == .on) then
          (s.modInst n fun y => { y with starting := none }).settle x.unit 0x1101
            (functionState n k.old x.state k.cause deferred 0) k.req false false
        else s

/-- A SWITCH instance switches its next channel on (R391). -/
def State.nextChannel (s : State) (n : Nat) : State :=
  let x := s.inst n
  match x.starting with
  | some k =>
    match k.chans with
    | c :: rest =>
      if s.modeLets s.mode.mode c && (s.sw c).fault == 0 then
        ((s.instOn c).modInst n fun y => { y with starting := some { k with chans := rest, next := s.time + x.pu 0 2 * ms } }).progress n
      else s.haltInst n .fault 3 c
    | [] => s.progress n
  | none => s

/-- Start an instance into `new` (R391, R401); the state changes at once, FUNCTION_STATE follows when the start completes. -/
def State.startInst (s : State) (n : Nat) (new : InstState) (cause : Nat) (req : Option Requester) : State :=
  let x := s.inst n
  let k : Starting := { req := req, old := x.state, cause := cause, chans := x.chans, next := s.time, deferred := false,
                         asked := [] }
  let v : Int := ((x.one 0x0B).map s.bound).getD 0
  let s := s.modInst n fun x =>
    { x with state := new, cause := cause, detail := 0, starting := some k, rho := x.pi 32, vl := x.pi 12, vsp := v,
             governing := false, vHold := none, limit := 0 }
  if x.kind == .switch then s.nextChannel n else s.progress n

/-- The state into which a mode starts an instance (R390, R393): only working CTRL and SWITCH instances use IDLE. -/
def Instance.startState (x : Instance) (m : Mode) : InstState :=
  if m == .fieldReady && tplWorking x.template && (x.kind == .ctrl || x.kind == .switch) then .idle else .active

/-- Cause and detail of R413 for which a running instance enters FAULT (R395); none where it goes on. -/
def State.instFault (s : State) (x : Instance) : Option (Nat × Nat) :=
  let loopBad := x.loops.find? fun n =>
    let st := (s.loop n).state
    st == .fault || (x.starting.isNone && st != .closed)
  let chanBad := x.chans.find? fun c => (s.sw c).fault != 0
  let enBad := (x.role 6).find? fun b => !s.readsOne b
  match loopBad, chanBad, enBad with
  | some n, _, _ => some (2, n)
  | none, some c, _ => some (3, c)
  | none, none, some b => some (4, b.ref)
  | none, none, none => if s.fenced x.unit then some (5, 0) else none

/-- The cause of an instance's FAULT has cleared (R395). -/
def State.faultCleared (s : State) (x : Instance) : Bool :=
  match x.cause with
  | 2 => x.loops.all fun n => (s.loop n).state != .fault
  | 3 => x.chans.all fun c => (s.sw c).fault == 0
  | 4 => (x.role 6).all s.readsOne
  | _ => !s.fenced x.unit

/-- A mode commit moves instance `n` (R393). -/
def State.commitInst (s : State) (m : Mode) (n : Nat) : State :=
  let x := s.inst n
  let w := tplWorking x.template
  let idles := x.kind == .ctrl || x.kind == .switch
  let move := fun (st : InstState) =>
    (s.modInst n fun x => { x with state := st, cause := 1, detail := 0 }).raise x.unit 0x1101 (functionState n x.state st 1 false 0)
  let stop := if x.running then s.haltInst n .stopped 1 0 else s
  let auto := x.state == .stopped && x.autostart
  if x.state == .empty then s
  else match m with
    | .fieldReady =>
      if w then
        if x.state == .active && idles then move .idle
        else if auto then s.startInst n (x.startState m) 1 none else s
      else if auto then s.startInst n .active 1 none else s
    | .working => if w then (if x.state == .idle then move .active else s) else if auto then s.startInst n .active 1 none else s
    | .headland =>
      if w then (if x.state == .idle then move .active else s.modInst n fun x => { x with vHold := none }) else if auto then s.startInst n .active 1 none else s
    | .limp => if s.intact x then s else if x.running then s.haltInst n .stopped 7 0 else s
    | .parked => if w then stop else if auto then s.startInst n .active 1 none else s
    | .road => if w then stop else if auto then s.startInst n .active 1 none else s
    | .service => if w then stop else if auto then s.startInst n .active 1 none else s
    | _ => stop

/-- A mode commit moves every instance, in order (R393). -/
def State.commitInsts (s : State) (m : Mode) : State := s.functions.insts.keys.foldl (fun s n => s.commitInst m n) s

/-! ### Crop flow, losses, scaled measurements -/

/-- A source of crop flow: its value, or none where it is excluded (R396). -/
def State.flowSource (s : State) (weight staleMs : Nat) (v : Int) (sample : Nat) (absent : Bool) : Option (Int × Nat) :=
  if weight = 0 || absent || sample = 0 || sample + staleMs * ms < s.time then none else some (v, weight)

/-- CROP_FLOW (R396): a division rounds to the nearest (assumption 41). -/
def State.runFlow (s : State) (n : Nat) : State :=
  let x := s.inst n
  let staleMs := x.pu 24 2
  let imp := (x.one 7).bind fun b =>
    let si := s.sensorIn b.ref
    s.flowSource (x.pu 9 1) staleMs (sat32 (mulc (x.pi 4) (x.pu 8 1) (si.value - x.pi 0))) si.sample (!s.unitUp uSensor)
  let vis := (x.one 8).bind fun b =>
    let v := s.signalSlot b.ref
    s.flowSource (x.pu 10 1) staleMs v.1 v.2 false
  let used := imp.toList ++ vis.toList
  let aux := flag imp.isSome + 2 * flag vis.isSome
  let w := (used.map (·.2)).sum
  if w = 0 then
    (s.modInst n fun x => { x with result := none, out := invalidValue, aux := aux }).writeSpOut n invalidValue
  else
    let raw := divRound ((used.map fun e => (e.2 : Int) * e.1).sum) w
    let q := divRound (raw * (x.pu 12 4 : Int)) 65536
    let y := filterBy (x.pu 26 1) x.y q
    let r := if y < (x.pu 20 4 : Int) then 0 else y
    let s := s.modInst n fun x =>
      { x with y := some y, result := some r, out := r, aux := aux, calSum := x.calSum.map (· + r.toNat) }
    s.writeSpOut n r

/-- The flow an instance binds: its value where it is valid (R396). -/
def State.flowOf (s : State) (x : Instance) : Option Int :=
  (x.one 0x0C).bind fun b => if (s.inst b.ref).state == .active then (s.inst b.ref).result else none

/-- Loss mass rate over the window, µg/s (R399). -/
def State.lossRate (s : State) (x : Instance) : Nat :=
  let w := x.pu 16 1
  ((x.role 9).map fun b =>
    let hits := ((s.sensorIn b.ref).hitTimes.filter fun h => decide (s.time < h + w * sec)).length
    hits * x.pu (4 * b.ref) 2 * 1000000 / (max 1 w * max 1 (x.pu (4 * b.ref + 2) 2))).sum

/-- LOSS_MONITOR (R399): its mass goes to every YIELD_MAP bound to the same flow while the loss is valid (assumption 41). -/
def State.runLoss (s : State) (n : Nat) : State :=
  let x := s.inst n
  let rate := s.lossRate x
  match s.flowOf x with
  | some q =>
    if q ≤ 0 then (s.modInst n fun x => { x with result := none, out := invalidValue }).writeSpOut n invalidValue
    else
      let loss := divRound ((rate : Int) * 10000) (q * 1000000 + rate)
      let f := (x.one 0x0C).map (·.ref)
      let add := fun (_ : Nat) (y : Instance) =>
        if y.template = 0x15 && ((y.one 0x0C).map (·.ref)) == f then { y with lossNg := y.lossNg + rate } else y
      let s := s.modFunctions fun g => { g with insts := g.insts.mapAll add }
      (s.modInst n fun x => { x with result := some loss, out := loss }).writeSpOut n loss
  | none => (s.modInst n fun x => { x with result := none, out := invalidValue }).writeSpOut n invalidValue

/-- A SENSOR binding is stale or absent (R400): an SI that has stopped refreshing its sample time, a slot never written
(assumption 41). -/
def State.sensorLost (s : State) (b : Binding) : Bool :=
  if b.kind = 3 then !s.unitUp uSensor || (s.sensorIn b.ref).mode == 0 || decide ((s.sensorIn b.ref).sample + ms < s.time)
  else (s.signalSlot b.ref).2 == 0

/-- MOISTURE or GRAIN_TANK (R400). -/
def State.runScale (s : State) (n : Nat) : State :=
  let x := s.inst n
  match x.one 0x0A with
  | some b =>
    if s.sensorLost b then (s.modInst n fun x => { x with result := none, out := invalidValue }).writeSpOut n invalidValue
    else
      let v := sat32 (mulc (x.pi 4) (x.pu 8 1) (s.bound b - x.pi 0))
      let y := filterBy (x.pu 9 1) x.y v
      let r := clampInt 0 (if x.template = 0x14 then 500 else 1000) y
      (s.modInst n fun x => { x with y := some y, result := some r, out := r }).writeSpOut n r
  | none => s

/-- CTRL: the set-point of R392. -/
def State.runCtrl (s : State) (n : Nat) : State :=
  let x := s.inst n
  let spIn := ((x.one 4).map s.bound).getD 0
  let v := if x.state == .idle then x.pi 0
    else if s.mode.mode == .headland && x.pi 4 != invalidValue then x.pi 4 else spIn
  (s.modInst n fun x => { x with out := v }).writeSpOut n v

/-- OUT of a SWITCH instance: channels on, in binding order (R412). -/
def State.chanMap (s : State) (x : Instance) : Nat := bitsOf (x.chans.map fun c => (s.sw c).phase.conducting)

/-- One execution of instance `n` (R384): a new parameter block takes effect, faults are taken, the kind's law runs. -/
def State.runInst (s : State) (n : Nat) : State :=
  let x := s.inst n
  if x.state == .empty then s
  else
    let fault := if x.running then s.instFault x else none
    match fault with
    | some (c, d) => s.haltInst n .fault c d
    | none =>
      if s.fenced x.unit then s
      else if x.state == .fault && s.faultCleared x then
        (s.modInst n fun x => { x with state := .stopped, cause := 6, detail := 0 }).raise x.unit 0x1101
          (functionState n .fault .stopped 6 false 0)
      else
        let s := s.modInst n fun x => { x with params := x.newParams.getD x.params, newParams := none, execTime := s.time }
        let s := (s.count x.unit 22).progress n
        let x := s.inst n
        if !x.running then s
        else match x.kind with
          | .ctrl => s.runCtrl n
          | .switch => s.modInst n fun y => { y with out := s.chanMap x }
          | .flow => s.runFlow n
          | .loss => s.runLoss n
          | .scale => s.runScale n
          | _ => s

/-! ### The throughput governor -/

/-- Point of the history in the 100 ms interval of module time that holds `t` (R397). -/
def State.trackAt (s : State) (t : Nat) : Option TrackPoint :=
  s.functions.track.find? fun p => p.time / (100 * ms) == t / (100 * ms)

/-- Working width of an instance, mm (R401): WIDTH_MM at `off` times WIDTH in ‰. -/
def State.workWidth (s : State) (x : Instance) (off : Nat) : Int :=
  match x.one 0x0F with
  | some b => divRound (x.pi off * s.bound b) 1000
  | none => x.pi off

/-- A quotient rounded to the nearest; a zero divisor gives the largest value (R402 keeps ρ, not the width, above 0). -/
def quotient (a b : Int) : Int := if b = 0 then 2147483647 else divRound a b

/-- ρ after a governor period (R401, R402). -/
def State.density (s : State) (x : Instance) (q : Option Int) : Int :=
  let delay := ((x.one 0x0C).map fun b => (s.inst b.ref).pu 16 4).getD 0
  let vThen : Int := ((s.trackAt (s.time - delay * ms)).map fun p => (p.speed : Int)).getD 0
  let w := s.workWidth x 36
  match q with
  | some q =>
    let rho := if x.pi 40 ≤ q && 200 ≤ vThen && 0 < w then
        x.rho + divRound ((divRound (q * 1000000) (w * vThen) - x.rho) * (x.pu 6 2 : Int)) (max 1 (x.pi 28))
      else x.rho
    clampInt 1 10000 rho
  | none => x.rho

/-- v_l after a governor period (R401). -/
def Instance.lossSpeed (x : Instance) (loss : Option Int) : Int :=
  match loss with
  | some l =>
    if (x.pu 4 2 : Int) < l then min x.vl x.vsp - x.pi 24
    else if l < divRound (8 * (x.pu 4 2 : Int)) 10 then min (x.vl + x.pi 24) (x.pi 12)
    else x.vl
  | none => x.vl

/-- Write v_sp, and GOVERNOR_LIMIT where the deciding term has changed (R403). -/
def State.govern (s : State) (n : Nat) (limit : Nat) (vsp : Int) (loss : Option Int) : State :=
  let x := s.inst n
  let s := (s.modInst n fun x => { x with vsp := vsp, out := vsp, aux := x.rho.toNat, limit := limit, governing := true }).writeSpOut n vsp
  if limit = x.limit then s
  else s.raise x.unit 0x1102 (le 1 n ++ le 1 limit ++ le 2 0 ++ leInt 4 vsp ++ leInt 4 x.rho ++ leInt 4 (loss.getD invalidValue))

/-- LIMIT code of the term that decides v_t (R401–R403): a v_l that stands at V_MAX is no loss that limits, so that V_MAX decides
there. Of terms that decide together, the one that decided before goes on deciding, as in the chapter's worked example. -/
def Instance.deciding (x : Instance) (vq vl spIn : Int) : Nat :=
  let vMax := x.pi 12
  let least := min vq (min vl spIn)
  let terms : List (Nat × Int) := [(1, vq), (if vl < vMax then 2 else 4, vl), (5, spIn)]
  let ties := (terms.filter fun e => e.2 == least).map (·.1)
  if least < x.pi 8 then 3 else if vMax < least then 4 else if ties.contains x.limit then x.limit else ties.headD 1

/-- One period of a governor (R401–R403). It takes the ground speed as v_sp where it begins to govern (assumption 42). -/
def State.runGovernor (s : State) (n : Nat) : State :=
  let x := s.inst n
  let spIn := ((x.one 4).map s.bound).getD 0
  let period : Int := x.pu 6 2
  let m := s.mode.mode
  if x.state != .active || (m != .working && m != .headland) then
    (s.modInst n fun x => { x with out := spIn, governing := false, vHold := none }).writeSpOut n spIn
  else
    let v : Int := ((x.one 0x0B).map s.bound).getD 0
    let s := if x.governing then s else s.modInst n fun x => { x with vsp := v, vHold := none }
    let x := s.inst n
    let q := s.flowOf x
    let loss := (x.one 0x0D).bind fun b => if (s.inst b.ref).state == .active then (s.inst b.ref).result else none
    let move := fun (t : Int) =>
      clampInt (x.vsp - divRound (x.pi 20 * period) 1000) (x.vsp + divRound (x.pi 16 * period) 1000) t
    if m == .headland || q.isNone then
      let hold := x.vHold.getD x.vsp
      (s.modInst n fun x => { x with vHold := some hold }).govern n (if spIn < hold then 5 else 6) (move (min hold spIn)) loss
    else
      let rho := s.density x q
      let vl := x.lossSpeed loss
      let vq := quotient (x.pi 0 * 1000000) (rho * s.workWidth x 36)
      let least := min vq (min vl spIn)
      let limit := x.deciding vq vl spIn
      (s.modInst n fun x => { x with rho := rho, vl := vl, vHold := none }).govern n limit (move (clampInt (x.pi 8) (x.pi 12) least)) loss

/-! ### Yield mapping -/

/-- The cutter-bar centre at a point of the history, in the local plane (R405). -/
def barCentre (p : TrackPoint) (fwd right lat0 lon0 : Int) : Int × Int :=
  move (Config.localPlane p.lat p.lon lat0 lon0) (frameOffset ((p.heading : Int) * 1000) fwd right)

/-- Sample points of a swept rectangle from `a` to `b` of width `w` at a spacing, at the centres of equal sub-strips (R405); the
number of strips is rounded to the nearest, at least 1 (assumption 43). -/
def sweep (a b : Int × Int) (w spacing : Int) : List (Int × Int) :=
  let len := norm (from_ a b)
  let na := max 1 (divRound len spacing).toNat
  let nw := max 1 (divRound w spacing).toNat
  (List.range na).flatMap fun i => (List.range nw).map fun j =>
    pointAt a b (len * (2 * i + 1) / (2 * na)) (w * (2 * j + 1) / (2 * nw) - w / 2)

/-- Cell column and row of a point (R406): cells of `cell` mm. -/
def cellOf (p : Int × Int) (cell : Int) : Int × Int := (p.1 / cell, p.2 / cell)

/-- The distinct elements of a list with their counts, in order of first appearance. -/
def tally (l : List (Int × Int)) : List ((Int × Int) × Nat) := l.dedup.map fun x => (x, l.count x)

/-- Add a share of a step to a yield cell (R406): mass, area and, with a valid moisture, its weight. -/
def addYield (old : List Byte) (massG area : Nat) (moist : Option Nat) (late : Bool) : List Byte :=
  let fl := field old 14 2
  let f0 := if late && field old 4 4 != 0 then fl ||| 1 else fl
  le 4 (field old 0 4 + massG) ++ le 4 (field old 4 4 + area) ++
    le 4 (field old 8 4 + moist.getD 0) ++ le 2 (satNat 65535 (field old 12 2 + 1)) ++
    le 2 (if moist.isNone then f0 ||| 2 else f0)

/-- Add mass, in mg, to UNMAPPED_G (R404, R408). -/
def State.unmapped (s : State) (n mg : Nat) : State := s.modInst n fun x => { x with unmappedMg := x.unmappedMg + mg }

/-- Write one cell's share of a step (R405–R408). `mg` and `area` are the step's mass and its area in mm², shared by `k` of `total`
points. -/
def State.yieldCell (s : State) (n h : Nat) (c : Int × Int) (k total mg area : Nat) (moist : Option Int) : State :=
  let x := s.inst n
  let tile := (c.1 / 64, c.2 / 64)
  let slot := match s.tileAt h 2 tile.1 tile.2 with
    | some i => some (i, s)
    | none => (s.freeTile h).map fun i =>
        (i, s.writePlace h (i * tileSize) (tileHeader 2 (x.pu 12 2) tile.1 tile.2 (x.pu 16 4) (x.pi 20) (x.pi 24) s.time))
  match slot with
  | some (i, s) =>
    let col := (c.1 % 64).toNat
    let row := (c.2 % 64).toNat
    let off := cellOffset i col row
    let old := s.cell h i col row
    let massG := divNear (mg * k) (1000 * total)
    let a := divNear (area * k) (100 * total)
    let wet := moist.map fun m => divNear (m.toNat * mg * k) (100000 * total)
    let late := (x.stepTimes.find off).all fun u => decide (u + 10 * sec < s.time)
    let s := s.writeCell h i col row (addYield old massG a wet late) (field old 4 4 == 0 && a != 0)
    (s.modInst n fun x =>
      { x with stepTimes := x.stepTimes.put off s.time, massG := x.massG + massG, areaCm2 := x.areaCm2 + a }).count x.unit 25
  | none =>
    let s := s.unmapped n (mg * k / total)
    if x.tilesFull then s
    else (s.modInst n fun x => { x with tilesFull := true }).raise x.unit 0x1103 (le 1 n ++ le 3 0 ++ le 4 (s.tileSlots h) ++ le 8 h)

/-- The origin of an instance's plane: as given, or the first mapped position, written back into PARAMS (R405). -/
def Instance.origin (x : Instance) (p : TrackPoint) : Instance :=
  if x.pi 20 = 0 && x.pi 24 = 0 then
    { x with params := patch x.params 20 (leInt 4 (divRound p.lat 100) ++ leInt 4 (divRound p.lon 100)) }
  else x

/-- One step of a yield map (R404, R405). -/
def State.runYield (s : State) (n : Nat) : State :=
  let x := s.inst n
  let h := ((x.one 0x11).map (·.ref)).getD 0
  let flow := s.flowOf x
  let mg := ((flow.map (·.toNat)).getD 0) * 100
  let delay := ((x.one 0x0C).map fun b => (s.inst b.ref).pu 16 4).getD 0
  let t1 := s.time - delay * ms
  let m := s.mode.mode
  let s := s.modInst n fun x => { x with out := (mg / 1000 : Nat), aux := (s.tilesOf h 2).length, execTime := s.time }
  let engaged := (x.one 0x10).all s.readsOne
  let pts := (s.trackAt (t1 - 100 * ms)).bind fun p0 => (s.trackAt t1).map fun p1 => (p0, p1)
  match pts with
  | some (p0, p1) =>
    if (m == .working || m == .headland) && engaged && flow.isSome && 139 ≤ p1.speed && (s.placement h).isSome then
      let y := x.origin p0
      let s := s.modInst n fun z => { z with params := y.params }
      let a := barCentre p0 (y.pi 4) (y.pi 8) (y.pi 20) (y.pi 24)
      let b := barCentre p1 (y.pi 4) (y.pi 8) (y.pi 20) (y.pi 24)
      let w := s.workWidth y 0
      let cell : Int := y.pu 12 2 * 100
      let pts := sweep a b w (cell / 4)
      let area := (norm (from_ a b) * w).toNat
      let moist := (y.one 0x0E).bind fun z => if (s.inst z.ref).state == .active then (s.inst z.ref).result else none
      (tally (pts.map fun p => cellOf p cell)).foldl (fun s e => s.yieldCell n h e.1 e.2 pts.length mg area moist) s
    else (s.unmapped n mg).count x.unit 24
  | none => (s.unmapped n mg).count x.unit 24

end Sys2Proof.Machine
end

