-- ==== Sys2Proof/Machine/NetOps.lean ====
section
/-! DEFINITION. The Ethernet switch, the module's IP endpoint and the fleet agent (20). -/

namespace Sys2Proof.Machine

/-- Change the switch. -/
def State.modEth (s : State) (f : EthSwitch → EthSwitch) : State := { s with eth := f s.eth }

/-- Port `n`. -/
def State.ethPort (s : State) (n : Nat) : EthPort := s.eth.ports.rd n EthPort.reset

/-- Change port `n`. -/
def State.modEthPort (s : State) (n : Nat) (f : EthPort → EthPort) : State :=
  s.modEth fun e => { e with ports := e.ports.upd n EthPort.reset f }

/-! ### Ports (R655, R677) -/

/-- FLAGS as shipped (R655). -/
def shippedFlags (n : Nat) : Nat := ([21, 3, 3, 3, 3, 73, 5] : List Nat).getD n 1

/-- PORT_CONFIG as shipped (R655, R677). -/
def shippedPort (n : Nat) : List Byte :=
  le 1 n ++ le 1 (shippedFlags n) ++ le 2 1 ++ le 1 0 ++ le 1 0 ++
    (if n = 5 then le 1 0 ++ le 1 8 ++ le 1 32 ++ le 1 0 ++ le 1 128 else le 5 0) ++ le 5 0

/-- The configuration in force. -/
def State.ethConfig (s : State) (n : Nat) : List Byte :=
  if (s.ethPort n).cfg = [] then shippedPort n else (s.ethPort n).cfg

/-- Bit `b` of a port's FLAGS: 0 ENABLE, 1 MASTER, 2 TUNNEL, 3 NODES, 4 FLEET, 5 TERM, 6 PLCA. -/
def State.ethFlag (s : State) (n b : Nat) : Bool := bit (field (s.ethConfig n) 1 1) b

/-- Speed of a port with a fixed speed, Mbit/s (R655). -/
def ethSpeed (n : Nat) : Option Nat := ([some 2500, some 1000, some 1000, some 100, some 100, some 10, none, some 10000, some 2500] :
  List (Option Nat)).getD n none

/-- Set a port's LINK; a change raises LINK_STATE (R682). -/
def State.setLink (s : State) (n link speed cause : Nat) : State :=
  let p := s.ethPort n
  let s := s.modEthPort n fun p => { p with link := link, speed := if link = 2 then speed else 0,
                                            egress := if link = 2 then p.egress else [] }
  if p.link = link then s
  else s.raise uSwitch 0x4101 (le 1 n ++ le 1 p.link ++ le 1 link ++ le 1 cause ++
    le 2 (if link = 2 then speed else 0) ++ le 2 0)

/-- A frame is dropped and counted on a port (R656, R657). -/
def State.dropEthFrame (s : State) (n : Nat) : State := s.modEthPort n fun p => { p with dropped := p.dropped + 1 }

/-! ### Gating (R664–R666) -/

/-- The cycle: the sum of the intervals. -/
def GateList.cycle (g : GateList) : Nat := (g.entries.map (·.2)).sum

/-- First cycle start at or after a module time. -/
def GateList.startAfter (g : GateList) (t : Nat) : Nat :=
  if t ≤ g.base then g.base else g.base + (t - g.base + g.cycle - 1) / max 1 g.cycle * g.cycle

/-- The entries left once `d` ns have gone by, the first one cut. -/
def skipTime : Nat → List (Nat × Nat) → List (Nat × Nat)
  | _, [] => []
  | d, (g, i) :: l => if i ≤ d then skipTime (d - i) l else (g, i - d) :: l

/-- Time from now for which class `c` stays open, ns. -/
def openRun (c : Nat) : List (Nat × Nat) → Nat
  | [] => 0
  | (g, i) :: l => if bit g c then i + openRun c l else 0

/-- The entries from a module time on, two cycles of them. -/
def GateList.ahead (g : GateList) (t : Nat) : List (Nat × Nat) :=
  skipTime ((t - g.base) % max 1 g.cycle) (g.entries ++ g.entries ++ g.entries)

/-- The gates of the entry in force at a module time. -/
def GateList.gatesAt (g : GateList) (t : Nat) : Nat := ((g.ahead t).head?.map (·.1)).getD 0xFF

/-- Time from `t` for which a port's class stays open; none without end. -/
def EthPort.openFor (p : EthPort) (c t : Nat) : Option Nat :=
  match p.gates with
  | none => none
  | some g =>
    let run := match p.gateHold with
      | some h => if bit p.openGates c then h - t + openRun c (g.ahead h) else 0
      | none => openRun c (g.ahead t)
    if g.cycle ≤ run then none else some run

/-- Time a frame takes with preamble and gap, ns (R664). -/
def frameTime (speed length : Nat) : Nat := (length + 20) * 8000 / max 1 speed

/-- A frame of a class may start `d` ns from now. -/
def EthPort.fits (p : EthPort) (c t d length : Nat) : Bool :=
  (p.openFor c (t + d)).all fun o => frameTime p.speed length ≤ o

/-- Put a frame on the wire. -/
def EthPort.send (p : EthPort) (f : EthFrame) : EthPort := { p with wire := p.wire ++ [f], tx := p.tx + 1 }

/-- The frame that may start next: of the highest class whose oldest frame fits (R656, R664). -/
def EthPort.nextFrame (p : EthPort) (t d : Nat) : Option (EgressFrame × List EgressFrame) :=
  [7, 6, 5, 4, 3, 2, 1, 0].findSome? fun c =>
    match takeFirst (fun (e : EgressFrame) => e.cls == c) p.egress with
    | some (e, rest) => if p.fits c t d e.frame.length then some (e, rest) else none
    | none => none

/-- Send what may start, each after the one before it; `fuel` bounds the frames. -/
def EthPort.drain : Nat → Nat → Nat → EthPort → EthPort
  | 0, _, _, p => p
  | fuel + 1, t, d, p =>
    match p.nextFrame t d with
    | some (e, rest) => drain fuel t (d + frameTime p.speed e.frame.length) (EthPort.send { p with egress := rest } e.frame)
    | none => p

/-- Send whatever the gates let go at the present time. -/
def State.drainPort (s : State) (n : Nat) : State := s.modEthPort n fun p => p.drain p.egress.length s.time 0

/-- Bytes of egress buffer of a port (R656). -/
def egressBytes : Nat := 262144

/-- A frame for a port: sent, held for its gate, or dropped without a buffer (R656, R664). Messages of gPTP bypass the gates. -/
def State.egress (s : State) (n cls : Nat) (f : EthFrame) : State :=
  let p := s.ethPort n
  if p.link != 2 then (if n = 7 then s.dropEthFrame n else s)
  else if n > 4 || p.gates.isNone || f.etherType == 0x88F7 then s.modEthPort n fun p => p.send f
  else if (p.egress.map (·.frame.length)).sum + f.length > egressBytes then (s.dropEthFrame n).count uSwitch 17
  else if !(p.egress.any fun e => e.cls == cls) && p.fits cls s.time 0 f.length then s.modEthPort n fun p => p.send f
  else
    let closing := (p.openFor cls s.time).any (0 < ·)
    (s.modEthPort n fun p => { p with egress := p.egress ++ [{ cls := cls, frame := f }] }).countN uSwitch 21 (flag closing)

/-- Time between two Syncs, ns (R661). -/
def EthSwitch.syncInterval (e : EthSwitch) : Nat := sec / 2 ^ (-e.logSync).toNat

/-- A port that waits for its link after a rung holds its gates until then (R666). -/
def unlinked : Nat := 2 ^ 64

/-- A pending list after a step to `t`: its next cycle start on the new scale (R665, R666). -/
def GatePending.onScale (x : GatePending) (inForce : Option GateList) (d : Int) (t : Nat) : GatePending :=
  let ready := ((x.ready : Int) + d).toNat
  let due := match x.list with
    | some g => g.startAfter (max ready t)
    | none => (inForce.map fun g => g.startAfter t).getD t
  { x with ready := ready, adopt := due }

/-- Every port holds its gate states until the first cycle start on the new scale, and a pending list is adopted at a cycle start
of it (R666). -/
def EthPort.steppedTo (p : EthPort) (d : Int) (old new : Nat) : EthPort :=
  let p := { p with pending := p.pending.map fun (x : GatePending) => x.onScale p.gates d new }
  match p.gates with
  | none => p
  | some g => if p.gateHold = some unlinked then p else { p with openGates := g.gatesAt old, gateHold := some (g.startAfter new) }

/-! ### Forwarding (R656) -/

/-- The module's MAC address (R657). -/
def State.macBase (s : State) : Nat := beNat s.update.macBase

/-- A group address. -/
def groupMac (m : Nat) : Bool := bit m 40

/-- Ageing time of a learned address, 300 s (R656). -/
def ageing : Nat := 300 * sec

/-- The learned addresses that have not aged at a module time (R656). -/
def EthSwitch.fresh (e : EthSwitch) (t : Nat) : List (Nat × Nat × Nat) := e.learned.filter fun x => t < x.2.2 + ageing

/-- Learn a source address; a full table learns no new one (R656). -/
def State.learn (s : State) (src port : Nat) : State :=
  s.modEth fun e =>
    let rest := (e.fresh s.time).filter fun x => x.1 != src
    if groupMac src || (rest.length ≥ 4096) then e else { e with learned := rest ++ [(src, port, s.time)] }

/-- The ports a frame goes to: those of a known address, else every other port (R656). -/
def State.targets (s : State) (ingress dst : Nat) : List Nat :=
  let others := (List.range 9).filter (· != ingress)
  let known := if dst = s.macBase then some 8 else if dst = s.macBase + 1 then some 7
    else ((s.eth.fresh s.time).find? fun x => x.1 == dst).map (·.2.1)
  if groupMac dst then others
  else match known with
    | some p => if p = ingress then [] else [p]
    | none => others

/-- VID and PCP of a frame on its ingress port: its tag, or PVID and PRIORITY; VID 0 takes the PVID (R656, assumption 36). -/
def State.classify8021Q (s : State) (n : Nat) (f : EthFrame) : Nat × Nat :=
  let c := s.ethConfig n
  match f.tag with
  | some (pcp, vid) => (if vid = 0 then field c 2 2 else vid, pcp % 8)
  | none => (field c 2 2, field c 4 1)

/-- The frame as it leaves a port: untagged where the PVID is its VID (R656). -/
def State.leaving (s : State) (n vid pcp : Nat) (f : EthFrame) : EthFrame :=
  let untagged := f.length - 4 * flag f.tag.isSome
  if field (s.ethConfig n) 2 2 = vid then { f with tag := none, length := max 64 untagged }
  else { f with tag := some (pcp, vid), length := max 64 (untagged + 4) }

/-- Forward a frame from a port. The answer is the frame as it reaches the IP endpoint, if it does. -/
def State.forward (s : State) (n : Nat) (f : EthFrame) : State × Option EthFrame :=
  let c := s.classify8021Q n f
  let s := s.learn f.src n
  let ts := s.targets n f.dst
  let s := if ts = [] then s else s.count uSwitch 16
  let s := (ts.filter (· != 8)).foldl (fun s p => s.egress p c.2 (s.leaving p c.1 c.2 f)) s
  if ts.contains 8 && (s.ethPort 8).link == 2 then
    (s.modEthPort 8 fun p => p.send (s.leaving 8 c.1 c.2 f), some (s.leaving 8 c.1 c.2 f))
  else (s, none)

/-! ### The IP endpoint (R657; ARP, ICMP, IPv4 and UDP headers are assumption 25) -/

/-- The endpoint's address; none before the first IP_CONFIG. -/
def State.ipAddress (s : State) : Option (List Byte) := if s.eth.ip = [] then none else some (s.eth.ip.take 4)

/-- The VLAN of the endpoint; none for untagged. -/
def State.ipVlan (s : State) : Option Nat := if field s.eth.ip 12 2 = 0 then none else some (field s.eth.ip 12 2)

/-- A number as `n` bytes, the first most significant. -/
def be (n x : Nat) : List Byte := (le n x).reverse

/-- The one's complement checksum of IPv4, over bytes whose checksum field is 0. -/
def inetSum (bs : List Byte) : Nat :=
  let words := (List.range ((bs.length + 1) / 2)).map fun i => beNat ((bs.drop (2 * i)).take 2 ++ if 2 * i + 1 < bs.length then [] else [0])
  let fold := fun x => x % 65536 + x / 65536
  65535 - fold (fold (fold words.sum))

/-- An IPv4 packet from the endpoint. -/
def State.ipPacket (s : State) (dst : List Byte) (proto : Nat) (body : List Byte) : List Byte :=
  let h := fun sum => be 1 0x45 ++ be 1 0 ++ be 2 (20 + body.length) ++ be 4 0 ++ be 1 64 ++ be 1 proto ++ be 2 sum ++
    s.eth.ip.take 4 ++ dst
  h (inetSum (h 0)) ++ body

/-- A frame from the endpoint, switched from I_MOD. -/
def State.endpointFrame (s : State) (dst etherType : Nat) (payload : List Byte) : State :=
  let f : EthFrame := { dst := dst, src := s.macBase, tag := s.ipVlan.map fun v => (0, v), etherType := etherType,
                        payload := payload, length := max 64 (18 + payload.length), fcsOk := true }
  ((s.modEthPort 8 fun p => { p with rx := p.rx + 1 }).forward 8 f).1

/-- The broadcast address. -/
def broadcastMac : Nat := 0xFFFFFFFFFFFF

/-- An ARP message of the endpoint. -/
def State.arp (s : State) (op dst : Nat) (ip : List Byte) : State :=
  s.endpointFrame (if op = 1 then broadcastMac else dst) 0x0806
    (be 2 1 ++ be 2 0x0800 ++ be 1 6 ++ be 1 4 ++ be 2 op ++ be 6 s.macBase ++ s.eth.ip.take 4 ++
      be 6 (if op = 1 then 0 else dst) ++ ip)

/-- The host a datagram goes to first: the address itself on the endpoint's network, the gateway otherwise (R679). -/
def State.nextHop (s : State) (ip : List Byte) : List Byte :=
  let mask := 2 ^ (32 - field s.eth.ip 4 1)
  if beNat ip / mask == beNat (s.eth.ip.take 4) / mask then ip else (s.eth.ip.drop 8).take 4

/-- MAC address that ARP has resolved. -/
def State.resolved (s : State) (ip : List Byte) : Option Nat := (s.eth.arp.find? fun x => x.1 == ip).map (·.2)

/-- A UDP datagram from the endpoint; where the next hop is not resolved an ARP request goes in its place. -/
def State.sendUdp (s : State) (ip : List Byte) (src dst : Nat) (bytes : List Byte) : State :=
  if s.eth.ip = [] then s
  else
    let hop := s.nextHop ip
    match s.resolved hop with
    | none => s.arp 1 0 hop
    | some mac => s.endpointFrame mac 0x0800
        (s.ipPacket ip 17 (be 2 src ++ be 2 dst ++ be 2 (8 + bytes.length) ++ be 2 0 ++ bytes))

/-- ARP: the sender is learned, and a request for the endpoint's address is answered (R657). -/
def State.takeArp (s : State) (p : List Byte) : State :=
  let sender := (p.drop 14).take 4
  let mac := beNat ((p.drop 8).take 6)
  if s.eth.ip = [] || (p.drop 24).take 4 != s.eth.ip.take 4 then s
  else
    let s := s.modEth fun e => { e with arp := (e.arp.filter fun x => x.1 != sender) ++ [(sender, mac)] }
    if beNat ((p.drop 6).take 2) = 1 then s.arp 2 mac sender else s

/-- An ICMP echo request is answered (R657). -/
def State.takeIcmp (s : State) (src : Nat) (p : List Byte) : State :=
  let body := p.drop 20
  if (body.head?.map (·.toNat)).getD 0 = 8 then
    let reply := fun sum => be 1 0 ++ be 1 0 ++ be 2 sum ++ body.drop 4
    s.endpointFrame src 0x0800 (s.ipPacket ((p.drop 12).take 4) 1 (reply (inetSum (reply 0))))
  else s

/-- A frame at the IP endpoint, from port `n`. ARP and ICMP echo are answered; the datagrams of the tunnel, of node edges and
of the fleet are commands of their own; anything else is discarded and counted (R657). -/
def State.endpointTakes (s : State) (n : Nat) (f : EthFrame) : State :=
  let p := f.payload
  let mine := s.eth.ip != [] && (p.drop 16).take 4 == s.eth.ip.take 4
  if f.tag.map (·.2) != s.ipVlan then s.dropEthFrame n
  else if f.etherType = 0x0806 then s.takeArp p
  else if f.etherType = 0x0800 && mine then
    let proto := (p.getD 9 0).toNat
    let port := beNat ((p.drop 22).take 2)
    let served := (proto == 6 && port == 7411) ||
      (proto == 17 && (port == 7412 || (s.fleet.cfg != [] && port == field s.fleet.cfg 10 2)))
    if proto = 1 then s.takeIcmp f.src p else if served then s else s.dropEthFrame n
  else s.dropEthFrame n

/-- A service datagram refused by port flags or an unmapped node (R657, R668, R683). -/
def State.refuseDatagram (s : State) (n : Nat) : State := (s.dropEthFrame n).count uSwitch 19

/-! ### The fleet agent (R669–R676) -/

/-- Change the fleet agent. -/
def State.modFleet (s : State) (f : Fleet → Fleet) : State := { s with fleet := f s.fleet }

/-- Count 0 SENT, 1 RECEIVED, 2 MERGED, 3 AUTH, 4 REPLAY, 5 STALE, 6 MISMATCH (R680), with its Diagnostics counter (R683). -/
def State.countFleet (s : State) (i n : Nat) : State :=
  let diag := ([16, 17, 22, 18, 19, 20, 21] : List Nat).getD i 16
  (s.modFleet fun f => { f with counts := f.counts.modify i (· + BitVec.ofNat 32 n) }).countN uFleet diag n

/-- A fleet key slot holds a key (R669). -/
def State.fleetKey (s : State) (slot : Nat) : Option (List Byte) := s.update.keys.find (4 + slot)

/-- COVERAGE of FLEET_CONFIG. -/
def Fleet.coverage (f : Fleet) : Nat := field f.cfg 20 8

/-- YIELD of FLEET_CONFIG; 0 for none. -/
def Fleet.yield (f : Fleet) : Nat := field f.cfg 28 8

/-- The placement is a COVERAGE placement that lists the agent (R669, R680). -/
def State.fleetPlace (s : State) (h : Nat) : Bool := (s.placement h).any fun p => p.cls == clsCoverage && p.lists uFleet

/-- The state of R669: the first unmet condition. -/
def State.fleetCondition (s : State) : Nat :=
  let f := s.fleet
  if field f.cfg 0 1 = 0 then 0
  else if (s.fleetKey (field f.cfg 1 1)).isNone then 1
  else if s.eth.ip = [] || (s.resolved (s.nextHop ((f.cfg.drop 12).take 4))).isNone then 2
  else if !s.fleetPlace f.coverage then 3
  else 4

/-- Bring the agent's state up to date; a change raises FLEET_STATE (R682). -/
def State.fleetEval (s : State) : State :=
  let st := s.fleetCondition
  if st = s.fleet.state then s
  else
    let old := s.fleet.state
    (s.modFleet fun f => { f with state := st }).raise uFleet 0x4201 (le 1 old ++ le 1 st ++ le 2 0)

/-- Nonce of a datagram: SENDER, then SEQ (R670). -/
def fleetNonce (d : List Byte) : List Byte := (d.drop 8).take 12

/-- Encrypt or decrypt a run of bytes under a key and a nonce. -/
def gcmBytes (key nonce bytes : List Byte) : List Byte :=
  bytes.zipIdx.map fun x => x.1 ^^^ Config.gcmStream key nonce x.2

/-- A datagram sealed under a key: bytes 0–27 in clear, the rest encrypted, then the tag (R670). -/
def sealDatagram (key d : List Byte) : List Byte :=
  let n := fleetNonce d
  let c := gcmBytes key n (d.drop 28)
  d.take 28 ++ c ++ le 16 (Config.gcmTag key n (d.take 28) c).toNat

/-- The fleet address of the module of a machine (R667). -/
def fleetAddress (machine : Nat) : Nat := machine * 1024

/-- The plaintext of a datagram of one tile's cells (R670). -/
def State.fleetDatagram (s : State) (yld : Bool) (tile : Nat) (cells : List (Nat × Nat)) : List Byte :=
  let f := s.fleet
  let h := if yld then f.yield else f.coverage
  let d := s.readPlace h tile 64
  le 1 1 ++ le 1 (if yld then 2 else 1) ++ le 1 (field f.cfg 1 1) ++ le 1 0 ++ (f.cfg.drop 4).take 4 ++
    le 4 (fleetAddress (field f.cfg 8 2)) ++ le 8 f.seqOut ++ le 8 s.time ++ (d.drop 4).take 12 ++ (d.drop 2).take 2 ++
    le 2 cells.length ++
    (cells.map fun c => le 1 c.1 ++ le 1 c.2 ++ le 2 0 ++
      s.readPlace h (tile + 64 + 16 * (64 * c.2 + c.1)) 16).flatten

/-- The cell is a coverage cell whose last change came from another machine (R671). -/
def State.foreign (s : State) (c : ChangedCell) : Bool :=
  !c.yield && bit (field (s.readPlace s.fleet.coverage (c.tile + 64 + 16 * (64 * c.row + c.col)) 16) 3 1) 2

/-- Send one datagram of the oldest due tile, and queue its cells again REPEAT periods later (R671). -/
def State.sendCells (s : State) (key : List Byte) : State :=
  match s.fleet.changed.find? fun c => c.wait == 0 with
  | none => s
  | some c0 =>
    let pick := (s.fleet.changed.filter fun c => c.wait == 0 && c.yield == c0.yield && c.tile == c0.tile).take 64
    let d := sealDatagram key (s.fleetDatagram c0.yield c0.tile (pick.map fun c => (c.col, c.row)))
    let repeats := field s.fleet.cfg 2 1
    let again := if repeats = 0 then [] else (pick.filter (!·.again)).map fun c => { c with wait := repeats, again := true }
    let s := s.modFleet fun f =>
      { f with changed := (f.changed.filter fun c => !pick.contains c) ++ again, seqOut := f.seqOut + 1, wire := f.wire ++ [d] }
    (s.countFleet 0 1).sendUdp ((s.fleet.cfg.drop 12).take 4) (field s.fleet.cfg 10 2) (field s.fleet.cfg 16 2) d

/-- At most `n` datagrams of what is due (R671). -/
def State.sendDue : Nat → List Byte → State → State
  | 0, _, s => s
  | n + 1, key, s => (s.sendCells key).sendDue n key

/-- One exchange (R671). -/
def State.exchange (s : State) : State :=
  match s.fleetKey (field s.fleet.cfg 1 1) with
  | none => s
  | some key =>
    let keep := s.fleet.changed.filter fun c => !s.foreign c && (!c.yield || s.fleet.yield != 0)
    (s.modFleet fun f => { f with changed := keep.map fun c => { c with wait := c.wait - 1 } }).sendDue 200 key

/-- FLEET_TILES_FULL, once (R674). -/
def State.tilesFull (s : State) (h : Nat) : State :=
  if s.fleet.tilesFull then s
  else (s.modFleet fun f => { f with tilesFull := true }).raise uFleet 0x4203 (le 8 h ++ le 4 (s.tileSlots h) ++ le 4 0)

/-- A cell of a datagram or of a source tile into a coverage placement: MERGED, TILES_NEW and LOST rise by what it did
(R673, R674). -/
def State.mergeInto (s : State) (h : Nat) (x y : Int) (fieldId cellDm : Nat) (lat lon : Int) (col row bits time machine : Nat)
    (remote : Bool) : State × Nat × Nat × Nat :=
  match s.claimTile h x y fieldId cellDm lat lon with
  | none => (s, 0, 0, 1)
  | some (slot, new, s) => (s.mergeAt h slot col row bits time machine remote, 1, flag new, 0)

/-- Add up what merges did. -/
def addCounts (a b : Nat × Nat × Nat) : Nat × Nat × Nat := (a.1 + b.1, a.2.1 + b.2.1, a.2.2 + b.2.2)

/-- The cells of an opened coverage datagram are merged as a remote writer's (R673, R674). -/
def State.mergeDatagram (s : State) (d : List Byte) : State :=
  let h := s.fleet.coverage
  let first := (s.tilesOf h 1).head?.map fun i => s.tileHead h i
  let lat := (first.map fun x => fieldInt x 16 4).getD 0
  let lon := (first.map fun x => fieldInt x 20 4).getD 0
  let machine := field d 8 4 / 1024 % 4096
  let cell := fun (acc : State × Nat × Nat × Nat) i =>
    let c := (d.drop (44 + 20 * i)).take 20
    let x := acc.1.mergeInto h (fieldInt d 28 4) (fieldInt d 32 4) (field d 36 4) (field d 40 2) lat lon (field c 0 1 % 64)
      (field c 1 1 % 64) (field c 4 2) (field c 12 8) machine true
    (x.1, addCounts acc.2 x.2)
  let r := (List.range (field d 42 2)).foldl cell (s, 0, 0, 0)
  let s := ((r.1.countFleet 2 r.2.1).countN uFleet 23 r.2.2.1).countN uFleet 24 r.2.2.2
  if 0 < r.2.2.2 then s.tilesFull h else s

/-- A sender's replay window accepts a SEQ (R672). -/
def FleetSender.accepts (x : FleetSender) (seq : Nat) : Bool :=
  x.high < seq || (seq < x.high && x.high - seq ≤ 64 && !bit x.window (x.high - seq - 1))

/-- A sender's replay window after a SEQ it accepts. -/
def FleetSender.take (x : FleetSender) (seq t : Nat) : FleetSender :=
  if x.high < seq then
    let k := seq - x.high
    { x with high := seq, window := if 64 < k then 0 else (x.window * 2 ^ k + 2 ^ (k - 1)) % 2 ^ 64, lastHeard := t }
  else { x with window := x.window ||| 2 ^ (x.high - seq - 1), lastHeard := t }

/-- The sender's record, moved to the front; the one heard least recently is forgotten beyond 256 (R672). -/
def State.hear (s : State) (machine seq : Nat) : State :=
  s.modFleet fun f =>
    let x := match f.senders.find? fun x => x.machine == machine with
      | some x => x.take seq s.time
      | none => { machine := machine, high := seq, window := 0, lastHeard := s.time }
    { f with senders := (x :: f.senders.filter fun y => y.machine != machine).take 256 }

/-- TIME of a datagram is too old or ahead (R672 step 4). -/
def State.staleTime (s : State) (t : Nat) : Bool := s.nav.time.valid && (t + 60 * sec < s.time || s.time + sec < t)

/-- FIELD_ID and CELL_DM of a coverage datagram are those of the local tiles (R672 step 6). -/
def State.sameField (s : State) (d : List Byte) : Bool :=
  let h := s.fleet.coverage
  match (s.tilesOf h 1).head? with
  | none => false
  | some i => field d 36 4 == field (s.tileHead h i) 12 4 && field d 40 2 == field (s.tileHead h i) 2 2

/-- The opened form of a datagram under its key: none where the tag does not verify (R672 step 3). -/
def State.openDatagram (s : State) (d : List Byte) : Option (List Byte) :=
  if 1 < field d 2 1 then none
  else match s.fleetKey (field d 2 1) with
    | none => none
    | some key =>
      let n := fleetNonce d
      let c := (d.drop 28).take (d.length - 44)
      if le 16 (Config.gcmTag key n (d.take 28) c).toNat == d.drop (d.length - 16) then
        some (d.take 28 ++ gcmBytes key n c)
      else none

/-- Check a received datagram in the order of R672: the reason it is discarded for, or its opened form. -/
def State.checkDatagram (s : State) (d : List Byte) : Nat ⊕ List Byte :=
  let n := (d.length - 60) / 20
  let kind := field d 1 1
  let machine := field d 8 4 / 1024 % 4096
  if d.length != 60 + 20 * n || !inRange n 1 64 || field d 0 1 != 1 || !inRange kind 1 2 then .inl 6
  else if field d 4 4 != field s.fleet.cfg 4 4 || machine == field s.fleet.cfg 8 2 then .inl 6
  else match s.openDatagram d with
    | none => .inl 3
    | some o =>
      if s.staleTime (field d 20 8) then .inl 5
      else if s.fleet.senders.any fun x => x.machine == machine && !x.accepts (field d 12 8) then .inl 4
      else if field o 42 2 != n || (kind == 1 && !s.sameField o) then .inl 6
      else .inr o

end Sys2Proof.Machine
end

