-- ==== Sys2Proof/Machine/SectionOps.lean ====
section
/-! DEFINITION. The section timing engine's operations: executing edges, node commands, the geometry of the implement, the
prediction of each section's path and the coverage map (13). -/

namespace Sys2Proof.Machine

/-! ### Sections and edges -/

/-- An undefined section. -/
def Section.none_ : Section :=
  { target := ⟨0, 0, 0⟩, fwd := 0, right := 0, width := 0, onLat := 0, offLat := 0, on := false, marks := [],
    point := none }

/-- Section `n`. -/
def State.section_ (s : State) (n : Nat) : Section := s.sections.secs.rd n Section.none_

/-- Change section `n`, where it is defined. -/
def State.modSection (s : State) (n : Nat) (f : Section → Section) : State :=
  s.modSections fun x => match x.secs.find n with
    | some y => { x with secs := x.secs.put n (f y) }
    | none => x

/-- 0.1 ms in ns. -/
def tenthMs : Nat := 100000

/-- An edge of a section has executed at module time `t`: the section's state and its covered interval follow (R475, R480). -/
def State.sectionEdge (s : State) (e : Edge) (t : Nat) : State :=
  match e.section_ with
  | some n => s.modSection n fun x =>
      if e.action != 1 then x.offAt t
      else if x.marks.any fun m => m.2.isNone then { x with on := true }
      else { x with on := true, marks := x.marks ++ [(t + x.onLat * tenthMs, none)] }
  | none => s

/-- An edge on a module channel executes as a SET entry would (R419, R422, R456); one that R420 would now refuse ends FAULT
(assumption 137). -/
def State.runEdge (s : State) (e : Edge) (c : Nat) : State :=
  let err : Int := (s.time : Int) - e.time
  let path := if e.section_.isSome || 64 ≤ e.ch then none else some ((s.chan e.ch).path, e.ch)
  let busy := (e.action == 2 && (s.holder c).isSome) || (e.action != 2 && s.ownedChannel c)
  if s.fenced (swUnit c) then s.endEdge e 1 0 0 false
  else if (s.sw c).fault != 0 || busy then
    (if e.action = 0 then s.sectionEdge e s.time else s).endEdge e 1 0 err true
  else
    let s := ((s.endEntries c 2).endBegun c 2).named c path
    if e.action = 2 then ((s.setValue c e.value).endEdge e 0 0 err true).finishRequests
    else
      let s := (s.modEdge e.id fun x => { x with begun := true, error := err }).sectionEdge e s.time
      (if e.action = 1 then s.commandOn c else s.commandOff c).finishRequests

/-- A 32-bit identifier field of IMPLEMENT_SET plus a node number, as a frame's identifier with bit 29 for a 29-bit one (R477). -/
def canIdOf (x k : Nat) : Nat := if bit x 31 then (x % 2 ^ 29 + k) % 2 ^ 29 + 2 ^ 29 else (x + k) % 2 ^ 11

/-- Node number of a target (R453). -/
def Target.nodeNo (g : Target) : Nat := g.node % 1024

/-- Message bus of a CAN node target (R453). -/
def Target.bus (g : Target) : Nat := g.node / 4096

/-- The 8-byte command record of an edge (R460). -/
def Edge.record (e : Edge) : List Byte := le 1 e.target.index ++ le 1 (e.action + 16 * e.seq) ++ le 6 e.time

/-- Put a node command on its wire (R460). -/
def State.sendEdge (s : State) (e : Edge) : State :=
  let g := e.target
  if g.kind = 2 then s.busSendId g.bus (canIdOf (s.impl 44 4) g.nodeNo) 0 0 e.record
  else
    let s := s.modSections fun x => { x with wire := x.wire ++ [(g.nodeNo, e.record)] }
    match s.eth.nodes.find g.nodeNo with
    | some ip => s.sendUdp ip 7412 7412 e.record
    | none => s

/-- Send a node edge's command with the next SEQ of its target, which its record then carries; it is fixed from then on (R460,
R461, R467). -/
def State.commandNode (s : State) (e : Edge) : State :=
  let k := e.target.key
  let seq := s.sections.seqs.rd k 0
  let s := s.modSections fun x => { x with seqs := x.seqs.put k ((seq + 1) % 16), nodeOn := x.nodeOn.put k (e.action == 1) }
  let s := s.modEdge e.id fun x => { x with seq := seq, sent := some s.time }
  let s := s.modRecord e.id fun x => { x with body := x.body.take 25 ++ le 1 seq ++ x.body.drop 26 }
  s.sendEdge { e with seq := seq }

/-- The module time nearest `t` whose bits 47:0 are `x` (R460). -/
def expand48 (t x : Nat) : Nat :=
  let m := 2 ^ 48
  let b := t / m * m + x
  if b + m / 2 < t then b + m else if t + m / 2 < b && m ≤ b then b - m else b

/-! ### Geometry -/

/-- Pose of the implement (R468): antenna in µm, heading and bar heading in 10^−6 degree, speed in mm/s (µm per ms), yaw rate in
10^−6 degree per ms. -/
structure Pose where
  ant : Int × Int
  heading : Int
  bar : Int
  speed : Int
  yaw : Int
  deriving DecidableEq, Repr

/-- The antenna, mm. -/
def Pose.antMm (p : Pose) : Int × Int := (p.ant.1 / 1000, p.ant.2 / 1000)

/-- The implement is TOWED (R468). -/
def State.towed (s : State) : Bool := s.impl 4 1 == 2

/-- The hitch at a pose (R468). -/
def State.hitchAt (s : State) (p : Pose) : Int × Int := move p.antMm (frameOffset p.heading (s.implInt 8 4) (s.implInt 12 4))

/-- Heading of the frame that carries the sections (R468). -/
def State.barHeading (s : State) (p : Pose) : Int := if s.towed then p.bar else p.heading

/-- Reference point of a section at a pose (R468). -/
def State.refPoint (s : State) (x : Section) (p : Pose) : Int × Int :=
  if s.towed then move (move (s.hitchAt p) (frameOffset p.bar (-(s.impl 16 4 : Int)) 0)) (frameOffset p.bar x.fwd x.right)
  else move p.antMm (frameOffset p.heading x.fwd x.right)

/-- Bar heading after the hitch has travelled `ds` µm (R468): one radian is 57,295,780 units of 10^−6 degree. -/
def State.barStep (s : State) (bar heading ds : Int) : Int :=
  bar + divRound (ds * sinA (heading - bar) * 57295780) (unitScale * 1000 * max 1 (s.impl 16 4 : Int))

/-- The pose 1 ms later, at constant speed and yaw rate (R469). -/
def State.poseStep (s : State) (p : Pose) : Pose :=
  let d := frameOffset p.heading p.speed 0
  let q := { p with ant := (p.ant.1 + d.1, p.ant.2 + d.2), heading := p.heading + p.yaw }
  { q with bar := if s.towed then s.barStep p.bar p.heading (norm d) else p.bar }

/-- CELL_DM ÷ 4 in mm (R469). -/
def State.subCell (s : State) : Int := (s.impl 30 2 : Int) * 25

/-- Sample points across a section at a reference point, at the centres of equal sub-strips (R469). -/
def State.across (s : State) (x : Section) (p h : Int × Int) : List (Int × Int) :=
  let n := max 1 (divRound (x.width : Int) (max 1 s.subCell)).toNat
  (List.range n).map fun j =>
    let o : Int := (x.width : Int) * (2 * j + 1) / (2 * n) - (x.width : Int) / 2
    (p.1 + along o h.1, p.2 + along o h.2)

/-- Unit vector to the right of a heading, × 10^12. -/
def rightUnit (h : Int) : Int × Int := (cosA h, -sinA h)

/-- Handle of the COVERAGE placement. -/
def State.coverage (s : State) : Nat := s.impl 32 8

/-- Tile, cell column, cell row and sub-cell bit of a point (R406, R475). -/
def State.locate (s : State) (p : Int × Int) : (Int × Int) × Nat × Nat × Nat :=
  let sub := max 1 s.subCell
  let cx := p.1 / (4 * sub)
  let cy := p.2 / (4 * sub)
  let bx := (p.1 / sub % 4).toNat
  let b_y := (p.2 / sub % 4).toNat
  ((cx / 64, cy / 64), (cx % 64).toNat, (cy % 64).toNat, 4 * b_y + bx)

/-- A point counts as covered (R469). -/
def State.covered (s : State) (p : Int × Int) : Bool :=
  let (tile, col, row, b) := s.locate p
  match s.tileAt s.coverage 1 tile.1 tile.2 with
  | some i =>
    let c := s.cell s.coverage i col row
    bit (field c 0 2) b || field c 3 1 % 4 != 0
  | none => false

/-- Covered points of a section at a pose, and their number. -/
def State.share (s : State) (x : Section) (p : Pose) : Nat × Nat :=
  let l := s.across x (s.refPoint x p) (rightUnit (s.barHeading p))
  ((l.filter s.covered).length, l.length)

/-! ### Prediction -/

/-- The engine may queue on edges (R463, R464, R474). -/
def State.onAllowed (s : State) : Bool :=
  s.mode.mode == .working || (s.mode.mode == .headland && s.impl 6 1 == 1)

/-- The desired state of section `n` at a share (R469, R479): OVERRIDE first, FORCE_ON only where an on action is allowed. -/
def State.desired (s : State) (n : Nat) (c : Nat × Nat) : Bool :=
  if s.sections.slow then false
  else if bit s.sections.forceOff n then false
  else if bit s.sections.forceOn n && s.mode.mode == .working then true
  else decide (100 * c.1 < s.impl 5 1 * c.2)

/-- Steps of 1 ms: the transitions of section `n` from `state` within `fuel` more steps, as tenths of a millisecond after the
solution and the new state, at most `most` of them (R470). `prev` is the share one step before. -/
def State.transitions (s : State) (n : Nat) (x : Section) : Nat → Nat → Nat → Bool → Nat × Nat → Pose → List (Nat × Bool)
  | 0, _, _, _, _, _ => []
  | fuel + 1, k, from_, state, prev, p =>
    let c := s.share x p
    let want := s.desired n c
    let p' := s.poseStep p
    if k < from_ || want == state then s.transitions n x fuel (k + 1) from_ state c p'
    else
      let a : Int := (prev.1 : Int) * 100 * c.2
      let b : Int := (c.1 : Int) * 100 * prev.2
      let thr : Int := (s.impl 5 1 : Int) * prev.2 * c.2
      let frac := if k = from_ || a = b then 10 else (clampInt 0 10 (divRound (10 * (thr - a)) (b - a))).toNat
      (10 * (k - 1) + (if k = 0 then 0 else frac), want) :: s.transitions n x fuel (k + 1) from_ want c p'

/-- The pose of the last solution used. -/
def State.pose (s : State) (z : Solution) : Pose :=
  let a := Config.localPlane z.lat z.lon (s.implInt 52 4) (s.implInt 56 4)
  { ant := (a.1 * 1000, a.2 * 1000), heading := (z.heading : Int) * 10000, bar := s.sections.bar,
    speed := z.speed, yaw := z.yawRate * 10 }

/-- Engine edges of section `n` that are queued, in order of time; sent ones first as they are fixed. -/
def State.sectionEdges (s : State) (n : Nat) : List Edge := s.sections.edges.filter fun e => e.section_ == some n

/-- Latency of an action, ns. -/
def Section.latency (x : Section) (action : Nat) : Nat := (if action = 1 then x.onLat else x.offLat) * tenthMs

/-- Time of an edge for a transition, and the shortfall in µs (R470). -/
def State.edgeTime (s : State) (z : Nat) (x : Section) (tr : Nat × Bool) : Nat × Nat :=
  let t := (z + tr.1 * tenthMs : Int) - x.latency (flag tr.2)
  let least : Int := s.time + 100 * us
  if t < least then (least.toNat, ((least - t) / 1000).toNat) else (t.toNat, 0)

/-- Bring one unsent edge to a new time: its record expires and a new one is written (R467, R471). -/
def State.moveEdge (s : State) (e : Edge) (t late : Nat) : State :=
  let s := s.modSections fun x => { x with edges := x.edges.filter fun y => y.id != e.id }
  let s := match s.record e.id with
    | some x => s.expireOther x 2 0x0204
    | none => s
  (s.queueEdge { e with time := t, lateUs := late }).count uSection 18

/-- Match the unsent edges of a section with the transitions predicted, moving or removing each (R471); what is left of the
transitions. -/
def State.adjustEdges (s : State) (z : Nat) (x : Section) : List Edge → List (Nat × Bool) → State × List (Nat × Bool)
  | [], trs => (s, trs)
  | e :: es, [] => State.adjustEdges (s.endEdge e 4 (e.resultFlags false) 0 false) z x es []
  | e :: es, tr :: trs =>
    if flag tr.2 = e.action then
      let (t, late) := s.edgeTime z x tr
      let s := if 1 * ms < absDiff t e.time then s.moveEdge e t late else s
      State.adjustEdges s z x es trs
    else State.adjustEdges (s.endEdge e 4 (e.resultFlags false) 0 false) z x es (tr :: trs)

/-- Engine entries of the queue: 4,096 in all and 32 per target, with two reserved per section (R454). -/
def State.edgeRoom (s : State) (g : Target) : Bool :=
  s.sections.edges.length < 4096 && (s.sections.edges.filter fun e => e.target == g).length < 32

/-- One section at a solution (R470, R471). Transitions are sought from 1 ms after the last fixed edge takes effect on the
ground (assumption 44). -/
def State.predictSection (s : State) (z : Solution) (p : Pose) (n : Nat) : State :=
  let x := s.section_ n
  let l := s.sectionEdges n
  let fixed := l.filter fun e => e.sent.isSome || e.begun
  let open_ := l.filter fun e => e.sent.isNone && !e.begun
  let effects := (fixed.map fun e => e.time + x.latency e.action) ++ (x.marks.getLast?.map fun m => m.2.getD m.1).toList
  let last := effects.foldl max 0
  let base := ((fixed.getLast?).map fun e => e.action == 1).getD x.on
  let from_ := if z.time < last then (last - z.time) / ms + 2 else 0
  let steps := (max x.onLat x.offLat) / 10 + 200
  let trs := s.transitions n x (steps + 1) 0 from_ base (0, 1) p
  let (s, rest) := s.adjustEdges z.time x open_ trs
  match rest with
  | tr :: _ =>
    if tr.2 && !s.onAllowed then s
    else if !s.edgeRoom x.target then s
    else
      let (t, late) := s.edgeTime z.time x tr
      s.queueEngine n x.target (flag tr.2) t late
  | [] => s

/-! ### Coverage -/

/-- Mark one point covered (R475): a tile that no slot is free for is left out. -/
def State.markPoint (s : State) (t : Nat) (p : Int × Int) : State :=
  let (tile, col, row, b) := s.locate p
  let h := s.coverage
  match s.claimTile h tile.1 tile.2 (s.impl 60 4) (s.impl 30 2) (s.implInt 52 4) (s.implInt 56 4) with
  | some (i, _, s) =>
    if bit (field (s.cell h i col row) 0 2) b then s else s.mergeAt h i col row (2 ^ b) t (field s.fleet.cfg 8 2) false
  | none => s

/-- The parts of the interval from `t0` to `t1` in which section `x` was applied, in permille of it (R475). -/
def Section.appliedParts (x : Section) (t0 t1 : Nat) : List (Nat × Nat) :=
  x.marks.filterMap fun m =>
    let lo := max m.1 t0
    let hi := min (m.2.getD t1) t1
    if hi ≤ lo || t1 ≤ t0 then none else some ((lo - t0) * 1000 / (t1 - t0), (hi - t0) * 1000 / (t1 - t0))

/-- Mark what section `n` covered on its way to its new reference point (R475): sampled along the track at the sub-cell spacing. -/
def State.markSection (s : State) (n : Nat) (z : Solution) (p : Pose) : State :=
  let x := s.section_ n
  let q := s.refPoint x p
  let live := fun (m : Nat × Option Nat) => m.2.all fun b => decide (z.time < b)
  let s' := s.modSection n fun y => { y with point := some q, marks := y.marks.filter live }
  match x.point with
  | none => s'
  | some a =>
    if !bit (s.impl 28 1) 1 then s'
    else
      let d := from_ a q
      let pts := (x.appliedParts s.sections.solTime z.time).flatMap fun (lo, hi) =>
        let len := norm d * ((hi : Int) - lo) / 1000
        let k := max 1 (divUp len.toNat (max 1 s.subCell).toNat)
        (List.range k).flatMap fun i =>
          let f : Int := (lo : Int) * 2 * k + (2 * i + 1) * ((hi : Int) - lo)
          let c : Int × Int := (a.1 + d.1 * f / (2000 * k), a.2 + d.2 * f / (2000 * k))
          s.across x c (rightUnit (s.barHeading p))
      pts.foldl (fun s c => s.markPoint z.time c) s'

/-! ### The solution -/

/-- The solution counts for the engine: at FIX_MIN or better (R473). -/
def State.solutionGood (s : State) (z : Solution) : Bool := s.impl 7 1 ≤ z.fix

/-- Off edges at module time `t` for every section that is on, with no edge of the engine left behind them (R471–R473). -/
def State.gateOff (s : State) (t : Nat) : State :=
  (s.removeEdges (fun e => e.section_.isSome && (e.action == 1 || decide (t < e.time))) 4).queueOffs t

/-- The gate of R472. -/
def State.speedGate (s : State) (z : Solution) : State :=
  let v := z.speed.natAbs
  if z.reversing || v < s.impl 20 2 then
    let s := s.modSections fun x => { x with slow := true }
    s.gateOff (s.time + 100 * us)
  else if s.sections.slow && s.impl 20 2 + 100 ≤ v then s.modSections fun x => { x with slow := false }
  else s

/-- A fused solution reaches the engine (R468–R475); one that has stopped only marks what its sections still cover. -/
def State.takeSolution (s : State) (z : Solution) : State :=
  let p0 := s.pose z
  let h := s.hitchAt p0
  let ds := match s.sections.hitch with
    | some a => norm (from_ a h) * 1000
    | none => 0
  let bar := if s.sections.hitch.isNone || !s.towed then p0.heading else s.barStep s.sections.bar p0.heading ds
  let p := { p0 with bar := bar }
  let ids := s.sections.secs.keys
  let s := ids.foldl (fun s n => s.markSection n z p) s
  let good := s.solutionGood z
  let gap := decide (s.sections.solTime + 100 * ms < z.time)
  let s := s.modSections fun x =>
    { x with bar := bar, hitch := some h, fix := z.fix, solTime := z.time,
             goodSince := if !good then none else if gap then some z.time else some (x.goodSince.getD z.time) }
  if s.sections.state == .running && good then
    let s := s.speedGate z
    if s.sections.slow then s else ids.foldl (fun s n => s.predictSection z p n) s
  else s

/-- A mode commit settles the queue and the engine (R464). -/
def State.commitSections (s : State) (m : Mode) : State :=
  let onEdge := fun (e : Edge) => e.action == 1
  match m with
  | .working => s
  | .fieldReady => s.removeEdges onEdge 5
  | .limp => s.removeEdges onEdge 5
  | .headland => s.removeEdges (fun e => e.action == 1 && (e.section_.isNone || s.impl 6 1 != 1)) 5
  | .safeHold =>
    let s := (s.removeEdges (fun _ => true) 5).stopEngine 1 5 s.time
    s.sections.nodeOn.entries.foldl (fun s e =>
      let g : Target := { kind := e.1 / 2 ^ 24, index := e.1 / 2 ^ 16 % 256, node := e.1 % 2 ^ 16 }
      if e.2 && !s.sections.edges.any (fun x => x.target == g && x.action == 0 && x.sent.isNone) then
        s.queueEdge { engineEdge 0 g 0 s.time 0 with section_ := none, entry := (2 ^ 64, 0) }
      else s) s
  | _ => (s.removeEdges (fun _ => true) 5).stopEngine 1 5 s.time

end Sys2Proof.Machine
end

