-- ==== Sys2Proof/Machine/SafetyOps.lean ====
section
/-! DEFINITION. Operations of the safety island: inputs, faults, functions, outputs, starts, the change log and the
commissioning record (23). -/

namespace Sys2Proof.Machine

/-- Change the safety island. -/
def State.modSafety (s : State) (f : Safety → Safety) : State := { s with safety := f s.safety }

/-- Unit ID of the SAFE_IN bank (R735). -/
def uSafeIn : Nat := 0x0201
/-- Unit ID of the SAFE_OUT bank. -/
def uSafeOut : Nat := 0x0202

/-! ### The configuration block (R767) -/

/-- KIND of input `n`. -/
def inKind (b : List Byte) (n : Nat) : Nat := field b (4 * n) 1
/-- INVERT of input `n`. -/
def inInvert (b : List Byte) (n : Nat) : Bool := bit (field b (4 * n + 1) 1) 0
/-- FILTER of input `n`, in ns. -/
def inFilter (b : List Byte) (n : Nat) : Nat := field b (4 * n + 2) 1 * 100000
/-- Output `n` is enabled. -/
def outEnabled (b : List Byte) (n : Nat) : Bool := bit (field b (32 + 4 * n) 1) 0
/-- OPEN_DIAG of output `n`. -/
def outDiag (b : List Byte) (n : Nat) : Bool := bit (field b (32 + 4 * n) 1) 1
/-- OFFTEST_MS of output `n`. -/
def outTestMs (b : List Byte) (n : Nat) : Nat := field b (34 + 4 * n) 2
/-- Inputs of function `n`. -/
def fnInputs (b : List Byte) (n : Nat) : Nat := field b (48 + 8 * n) 1
/-- Outputs of function `n`. -/
def fnOutputs (b : List Byte) (n : Nat) : Nat := field b (49 + 8 * n) 1
/-- FLAGS bit `k` of function `n`: 0 enabled, 1 MANUAL_RESET, 2 START_RESET, 3 HOLD_MODULE. -/
def fnFlag (b : List Byte) (n k : Nat) : Bool := bit (field b (50 + 8 * n) 1) k
/-- STOP_DELAY_MS of function `n`. -/
def fnDelay (b : List Byte) (n : Nat) : Nat := field b (52 + 8 * n) 2

/-- The block breaks R767. -/
def configBad (b : List Byte) : Bool :=
  let zero := fun (off n : Nat) => ((b.drop off).take n).all (· == 0)
  ((List.range 8).any fun n => inKind b n > 2 || field b (4 * n + 1) 1 > 1 ||
      (inKind b n != 0 && !inRange (field b (4 * n + 2) 1) 10 100) || !zero (4 * n + 3) 1) ||
  ((List.range 4).any fun n => field b (32 + 4 * n) 1 > 3 || !zero (33 + 4 * n) 1 ||
      (outEnabled b n && !inRange (outTestMs b n) 100 10000)) ||
  ((List.range 8).any fun n => fnOutputs b n > 15 || field b (50 + 8 * n) 1 > 15 || !zero (51 + 8 * n) 1 ||
      fnDelay b n > 10000 || !zero (54 + 8 * n) 2 || (fnFlag b n 0 && (fnInputs b n == 0 || fnOutputs b n == 0)) ||
      (List.range 8).any fun i => bit (fnInputs b n) i && inKind b i == 0) ||
  field b 112 1 > 32 || !zero 113 15 || (List.range 32).any fun i => !zero (129 + 4 * i) 1

/-! ### Reading the island -/

/-- Input `n`. -/
def Safety.input (x : Safety) (n : Nat) : SafeIn := x.ins.rd n SafeIn.reset
/-- Output `n`. -/
def Safety.out (x : Safety) (n : Nat) : SafeOut := x.outs.rd n SafeOut.reset
/-- Function `n`. -/
def Safety.fn (x : Safety) (n : Nat) : SafeFn := x.fns.rd n SafeFn.reset

/-- Change input `n`. -/
def State.modSafeIn (s : State) (n : Nat) (f : SafeIn → SafeIn) : State :=
  s.modSafety fun x => { x with ins := x.ins.upd n SafeIn.reset f }
/-- Change output `n`. -/
def State.modSafeOut (s : State) (n : Nat) (f : SafeOut → SafeOut) : State :=
  s.modSafety fun x => { x with outs := x.outs.upd n SafeOut.reset f }
/-- Change function `n`. -/
def State.modSafeFn (s : State) (n : Nat) (f : SafeFn → SafeFn) : State :=
  s.modSafety fun x => { x with fns := x.fns.upd n SafeFn.reset f }

/-- A fault is latched in a list. -/
def latched (l : List WiringFault) (code : Nat) : Bool := l.any (·.code == code)

/-- A look at the conditions of latched faults at `t`: that of the codes `present` stands, every other is absent (R758). -/
def WiringFault.look (f : WiringFault) (present : List Nat) (t : Nat) : WiringFault :=
  { f with absentSince := if present.contains f.code then none else some (f.absentSince.getD t) }

/-- The condition of a wiring fault has been absent for 100 ms at `t` (R758). -/
def goneSince (t : Nat) (x : Option Nat) : Bool := x.any fun u => decide (u + 100 * ms ≤ t)

/-- Input `n` reads PERMIT (R740, R756). -/
def Safety.permits (x : Safety) (n : Nat) : Bool :=
  inKind x.active n != 0 && (x.input n).level == .permit && (x.input n).faults == [] && x.safgnd.isNone

/-- OUT_ON (R769). -/
def Safety.outOn (x : Safety) : Nat := bitsOf ((List.range 4).map fun n => (x.out n).on)

/-- The safety logic runs its cycles. -/
def State.safRuns (s : State) : Bool := s.safety.state == .run && s.clocked islSaf

/-! ### Events -/

/-- SAFETY_STATE (R770), with the outputs as they then stand. -/
def State.tellFn (s : State) (n : Nat) (old new : FnState) (cause : Nat) : State :=
  s.raise uSafety 0x7001 (le 1 n ++ le 1 old.code ++ le 1 new.code ++ le 1 cause ++ le 1 s.safety.outOn ++ le 3 0)

/-- SAFETY_FAULT (R770). -/
def State.tellSafeFault (s : State) (code index : Nat) (latched : Bool) : State :=
  s.raise uSafety 0x7002 (le 1 code ++ le 1 index ++ le 1 (flag latched) ++ le 1 0)

/-! ### Outputs and the cut switch -/

/-- Output `n` switches off; an off-demand during a pulse ends it (R745). -/
def State.safeOff (s : State) (n : Nat) : State :=
  let x := s.safety.out n
  if !x.on then s
  else
    let s := s.modSafeOut n fun x => { x with on := false, pulseDue := none, demandAt := s.time }
    if x.pulse.isSome then s.count uSafeOut 17 else s

/-- Every safety output switches off. -/
def State.safeAllOff (s : State) : State := (List.range 4).foldl (fun s n => s.safeOff n) s

/-- The cut switch opens: no output has power (R735). -/
def State.openCut (s : State) : State :=
  if s.safety.cutOpen then s.safeAllOff else ((s.modSafety fun x => { x with cutOpen := true }).count uSafeOut 19).safeAllOff

/-- A latched fault holds the cut switch open (R756). -/
def Safety.cutHeld (x : Safety) : Bool := x.safgnd.isSome || (List.range 4).any fun n => latched (x.out n).faults 0x0C

/-- Latch a wiring fault on output `n` (R743–R745, R756). -/
def State.latchOut (s : State) (n code : Nat) : State :=
  if latched (s.safety.out n).faults code then s
  else
    let s := (s.safeOff n).modSafeOut n fun x =>
      { x with faults := x.faults ++ [{ code := code, absentSince := none }], openLoad := false }
    let s := if code = 0x0C then s.openCut else s
    (if code = 0x0E || code = 0x0C then s.count uSafeOut 18 else s).tellSafeFault code n true

/-! ### SAFE_FAULT (R757) -/

/-- An internal fault: every output off, the cut switch open, SAFE_HOLD asked for with a cause of R757. -/
def State.safeFault (s : State) (code index cause : Nat) : State :=
  let s := (s.modSafety fun x => { x with state := .safeFault, fault := code }).openCut
  (s.tellSafeFault code index true).askHold cause [supervisorOf islSaf] none

/-! ### Functions (R747–R749) -/

/-- Output `n` may be on (R747): enabled, named, every enabled function that names it in PERMIT, no latched fault; one that is
on stays on while a function is STOPPING. -/
def Safety.mayOn (x : Safety) (n : Nat) : Bool :=
  let l := (List.range 8).filter fun k => fnFlag x.active k 0 && bit (fnOutputs x.active k) n
  outEnabled x.active n && l != [] && (x.out n).faults == [] && !x.cutOpen && x.state == .run &&
    l.all fun k => (x.fn k).state == .permit || ((x.out n).on && (x.fn k).state == .stopping)

/-- Set the outputs from the functions (R747); a change of demand delays the next test pulse (R745). -/
def State.setOutputs (s : State) : State :=
  (List.range 4).foldl (fun s n =>
    let may := s.safety.mayOn n && !s.power.holdupWait
    if may && !(s.safety.out n).on then
      s.modSafeOut n fun x =>
        { x with on := true, demandAt := s.time, pulseDue := some (s.time + outTestMs s.safety.active n * ms) }
    else if may then s else s.safeOff n) s

/-- Restart every function (R749): an enabled one in DEMAND. -/
def State.restartFns (s : State) (cause : Nat) : State :=
  (List.range 8).foldl (fun s n =>
    let old := (s.safety.fn n).state
    let on := fnFlag s.safety.active n 0
    let new := if on then FnState.demand else FnState.disabled
    let need := fnFlag s.safety.active n 1 || fnFlag s.safety.active n 2
    let s := s.modSafeFn n fun _ => { state := new, stopDue := none, needReset := on && need, cause := cause }
    if old == new then s else s.tellFn n old new cause) s

/-- Modes in which SAF is OFF (R752). -/
def safOffMode (m : Mode) : Bool := m == .recovery || m == .factory

/-- SAF starts running its functions, or stays OFF (R749, R752). -/
def State.safStart (s : State) : State :=
  if safOffMode s.mode.mode then (s.modSafety fun x => { x with state := .off }).safeAllOff
  else ((s.modSafety fun x => { x with state := .run, cutOpen := x.cutHeld }).restartFns 0x14).setOutputs

/-- SAF at a mode commit (R752). -/
def State.safMode (s : State) (m : Mode) : State :=
  let st := s.safety.state
  if safOffMode m && (st == .run) then (s.modSafety fun x => { x with state := .off }).safeAllOff
  else if !safOffMode m && st == .off && !s.inReset islSaf then s.safStart
  else s

/-- SAF resets (R757, R760): every output off, faults and off-requests gone (assumption 50); the kept configuration stays. -/
def State.safReset (s : State) : State :=
  (s.safeAllOff.modSafety fun x =>
    { x with state := .off, fault := 0, ins := Bank.empty, outs := Bank.empty, fns := Bank.empty, cutOpen := true,
             safgnd := none, hostOff := 0, rstStuck := false, rstLow := none, resetEdge := false, holding := 0 }).modMode fun m =>
    { m with holdRst := false }

/-- SAF is released and tests itself (R759). -/
def State.safRelease (s : State) : State := s.modSafety fun x => { x with state := .selftest, cutOpen := true }

/-! ### Change log (R764) -/

/-- Bytes 0–71 of an entry. -/
def LogEntry.body (e : LogEntry) : List Byte :=
  le 4 e.seq ++ le 1 e.kind ++ le 3 0 ++ le 8 e.time ++ le 4 e.epoch ++ le 4 0 ++ (e.subject ++ List.replicate 32 0).take 32 ++
    (e.operator_ ++ List.replicate 16 0).take 16

/-- The 112 bytes of an entry. -/
def LogEntry.bytes (e : LogEntry) : List Byte := e.body ++ (e.hash ++ List.replicate 32 0).take 32 ++ le 8 0

/-- The bytes of "SL4800-SAFETY". -/
def safetyText : List Byte := [0x53, 0x4C, 0x34, 0x38, 0x30, 0x30, 0x2D, 0x53, 0x41, 0x46, 0x45, 0x54, 0x59]

/-- H_0. -/
def genesisHash (moduleId : Nat) : List Byte := Config.sha256 (le 8 moduleId ++ safetyText)

/-- Write one entry with a given sequence and hash; the newest 4,096 are kept, and SAFETY_CONFIG is raised (R764, R770). -/
def State.writeLog (s : State) (e : LogEntry) : State :=
  let l := s.safety.log ++ [e]
  let drop := decide (4096 < l.length)
  let s := s.modSafety fun x =>
    { x with log := if drop then l.tail else l, head := some (e.seq, e.hash),
             baseHash := if drop then ((l.head?.map (·.hash)).getD x.baseHash) else x.baseHash }
  s.raise uSafety 0x7004 (le 1 e.kind ++ le 3 0 ++ le 4 e.seq ++ (e.subject ++ List.replicate 16 0).take 16)

/-- The genesis entry, at the module's first entry to COMMISSION (R764). -/
def State.genesis (s : State) : State :=
  if s.safety.head.isSome then s
  else s.writeLog { seq := 0, kind := 0, time := s.time, epoch := s.mode.epoch.toNat, subject := List.replicate 32 0,
                    operator_ := List.replicate 16 0, hash := genesisHash s.update.moduleId }

/-- Append an entry (R764). -/
def State.appendLog (s : State) (kind : Nat) (subject operator_ : List Byte) : State :=
  let s := s.genesis
  let (n, h) := (s.safety.head).getD (0, [])
  let e : LogEntry := { seq := n + 1, kind := kind, time := s.time, epoch := s.mode.epoch.toNat, subject := subject,
                        operator_ := operator_, hash := [] }
  s.writeLog { e with hash := Config.sha256 (h ++ e.body) }

/-- The chain verifies from a hash on, and ends in the last one (R761). -/
def chainOk (moduleId : Nat) : List Byte → List LogEntry → Bool
  | _, [] => true
  | h, e :: l =>
    let want := if e.seq = 0 then genesisHash moduleId else Config.sha256 (h ++ e.body)
    e.hash == want && chainOk moduleId e.hash l

/-- A VALIDATE entry for a hash follows the newest CONFIG_COMMIT, which names it (R761); the log is read newest first. -/
def commitValid (h : List Byte) : List LogEntry → Bool → Bool
  | [], _ => false
  | e :: l, seen =>
    if e.kind = 2 then seen && e.subject == h else commitValid h l (seen || (e.kind == 3 && e.subject == h))

/-- An item of CAL_LIST is defined (R761). -/
def State.itemDefined (s : State) (family index : Nat) : Bool :=
  match family with
  | 0x10 => (s.loop index).state != .empty
  | 0x11 => (s.inst index).template != 0
  | 0x12 => decide (index < 48)
  | 0x30 => (s.vision.cams.find index).any (·.cfg != [])
  | 0x32 => (s.infer.jobs.find index).any (·.desc != [])
  | 0x13 => if index = 0xFFFF then s.sections.implement != [] else (s.sections.secs.find index).isSome
  | _ => Config.itemDefined family index

/-- The commissioning record is valid (R129, R761). -/
def State.recordValid (s : State) : Bool :=
  let x := s.safety
  let b := x.active
  x.validated && chainOk s.update.moduleId x.baseHash x.log &&
    (x.log.getLast?.map fun e => (e.seq, e.hash)) == x.head && commitValid (Config.sha256 b) x.log.reverse false &&
    (List.range (field b 112 1)).all fun i => s.itemDefined (field b (128 + 4 * i) 1) (field b (130 + 4 * i) 2)

/-- LIFECYCLE as it reads (R197, R786): COMMISSIONED once a provisioned module holds a valid commissioning record. -/
def State.lifecycleNow (s : State) : Lifecycle :=
  if s.mode.lifecycle == .provisioned && s.recordValid then .commissioned else s.mode.lifecycle

/-- K (R763). -/
def State.safetyKey (s : State) : List Byte := (s.safety.key).getD (Config.pbkdf2 [] (le 8 s.update.moduleId))

/-- HEAD_SEQ; 0 before the genesis entry. -/
def Safety.headSeq (x : Safety) : Nat := (x.head.map (·.1)).getD 0

end Sys2Proof.Machine
end

