-- ==== Sys2Proof/Machine/UpdateOps.lean ====
section
/-! DEFINITION. The security engine's operations: image classes, the container and its checks, activation, trial and return,
the keys (24). -/

namespace Sys2Proof.Machine

/-- Change the security engine's state. -/
def State.modUpdate (s : State) (f : Update → Update) : State := { s with update := f s.update }

/-- Image class `c` (R772). -/
def State.cls (s : State) (c : Nat) : ImageClass := s.update.classes.rd c ImageClass.reset

/-- Change an image class. -/
def State.modCls (s : State) (c : Nat) (f : ImageClass → ImageClass) : State :=
  s.modUpdate fun u => { u with classes := u.classes.upd c ImageClass.reset f }

/-- MALUF. -/
def clsMaluf : Nat := 0x01
/-- LOADER. -/
def clsLoader : Nat := 0x02
/-- SAFETY. -/
def clsSafety : Nat := 0x03
/-- CONTROL. -/
def clsControl : Nat := 0x04
/-- MEMORY. -/
def clsMemory : Nat := 0x05
/-- APP_BOOT. -/
def clsAppBoot : Nat := 0x0C

/-- The code names an image class (R772). -/
def isClass (c : Nat) : Bool := inRange c 1 12

/-- Island of a class (R772). -/
def classIsland (c : Nat) : Nat :=
  ([0, islSup, islSup, islSaf, islCtl, islMem, islNav, islNet, islVis, islInf, islDis, islFld, islApp] : List Nat).getD c 0

/-- Largest container of a class in bytes, decimal multiples (R6, R772). -/
def classMax (c : Nat) : Nat := (([0, 64, 4, 4, 16, 8, 16, 16, 16, 32, 8, 2, 4096] : List Nat).getD c 0) * 1000000

/-- The class may have the LOADER policy (R772). -/
def mayLoader (c : Nat) : Bool := inRange c 4 12

/-- The classes that an island runs. -/
def classesOf (i : Nat) : List Nat := (List.range 13).filter fun c => c != 0 && classIsland c == i

/-- A restart of the class is a module reset (R31, R783). -/
def needsModuleReset (c : Nat) : Bool := c == clsControl || c == clsMemory

/-! ### Slots -/

/-- Slot 0 is A; 1 is B and 2 the staging area, which share a place (R773). -/
def ImageClass.slot (x : ImageClass) (i : Nat) : ImageSlot := if i = 0 then x.slotA else x.slotB

/-- Change a slot. -/
def ImageClass.modSlot (x : ImageClass) (i : Nat) (f : ImageSlot → ImageSlot) : ImageClass :=
  if i = 0 then { x with slotA := f x.slotA } else { x with slotB := f x.slotB }

/-- Put a slot in a state. -/
def ImageClass.setState (x : ImageClass) (i : Nat) (st : SlotState) : ImageClass := x.modSlot i fun y => { y with state := st }

/-- The slot whose image runs. -/
def ImageClass.current (x : ImageClass) : Nat := x.active.getD 0

/-- The other slot of a DUAL class. -/
def ImageClass.other (x : ImageClass) : Nat := 1 - x.current

/-- Slot a new image is written into: the staging area of a LOADER class, else the slot that is not current (R773). -/
def ImageClass.target (x : ImageClass) : Nat := if x.loader then 2 else x.other

/-- VERSION of the image a class runs. -/
def State.runningVersion (s : State) (c : Nat) : Nat :=
  let x := s.cls c
  match x.active with
  | none => 0
  | some i => if (x.slot i).image = [] then (Config.shippedVersion c).toNat else (x.slot i).version

/-- VERSION a slot reports. -/
def slotVersion (c : Nat) (y : ImageSlot) : Nat :=
  if y.state = .empty || y.state = .installing then 0
  else if y.image = [] then (Config.shippedVersion c).toNat else y.version

/-- The current slot is in TRIAL. -/
def ImageClass.inTrial (x : ImageClass) : Bool := x.slotA.state == .trial || x.slotB.state == .trial

/-- A slot is REVERT_PENDING. -/
def ImageClass.reverting (x : ImageClass) : Bool := x.slotA.state == .revertPending || x.slotB.state == .revertPending

/-- Fields of IMAGE_STATE (R794). -/
def State.imageState (s : State) (c slot : Nat) (old new : SlotState) (cause : Nat) : List Byte :=
  le 1 c ++ le 1 slot ++ le 1 old.code ++ le 1 new.code ++ le 1 cause ++ le 1 (s.cls c).counter ++ le 2 0 ++
    le 4 (s.runningVersion c)

/-- Raise IMAGE_STATE to the subscribers, or complete a request with it (R794, R819). -/
def State.tellImage (s : State) (c slot : Nat) (old new : SlotState) (cause : Nat) (req : Option Requester) (fail : Bool) :
    State :=
  s.settle uSecurity 0x8002 (s.imageState c slot old new cause) req false fail

/-! ### The container (R775–R778) -/

/-- Offset of the signature: after the recipient entries. -/
def signatureAt (b : List Byte) : Nat := 128 + 160 * field b 28 1

/-- The ciphertext payload. -/
def cipherOf (b : List Byte) : List Byte := (b.drop (signatureAt b + 96)).take (field b 24 4)

/-- The recipient entries. -/
def recipients (b : List Byte) : List (List Byte) :=
  (List.range (field b 28 1)).map fun i => (b.drop (128 + 160 * i)).take 160

/-- The first recipient entry that fits this module (R777). -/
def State.fitting (s : State) (b : List Byte) : Option (List Byte) :=
  (recipients b).find? fun e =>
    field e 0 1 == 2 || (field e 0 1 == 1 && s.update.pub != [] && field e 8 8 == s.update.moduleId)

/-- Public key of a KEY_ID (R776). -/
def State.imageKey (s : State) (id : Nat) : List Byte :=
  if id ≤ 3 then le 97 (Config.vendorImageKey id).toNat else s.update.keys.rd 3 []

/-- PAYLOAD_HASH and TAG hold over the ciphertext (R778, R780 step 6). -/
def State.payloadOk (s : State) (b : List Byte) : Bool :=
  match s.fitting b with
  | none => false
  | some e =>
    let key := le 32 (Config.contentKey s.update.pub e).toNat
    let c := cipherOf b
    Config.sha384 c == (b.drop 32).take 48 &&
      le 16 (Config.gcmTag key ((b.drop 80).take 12) (b.take 32) c).toNat == (b.drop 92).take 16

/-- Step 1 of R780. -/
def imageHeaderOk (b : List Byte) (c length : Nat) : Bool :=
  let key := field b 7 1
  b.take 4 == le 4 0x474D494B && field b 4 2 == 1 && field b 8 2 == 0x4800 && field b 6 1 == c &&
    (key ≤ 3 || key == 0x10) && field b 10 2 ≤ 255 && inRange (field b 28 1) 1 16 &&
    b.length ≤ classMax c && b.length == length && b.length == signatureAt b + 96 + field b 24 4 &&
    !(key ≤ 3 && bit (field b 29 1) key)

/-- The checks of R780 in order: the first that fails. -/
def State.checkContainer (s : State) (b : List Byte) (c length : Nat) : Option Status :=
  let key := field b 7 1
  firstOf [
    (!imageHeaderOk b c length, .badParam),
    (if key ≤ 3 then bit s.update.revoked key else c != clsAppBoot || (s.update.keys.find 3).isNone, .keyRevoked),
    (!Config.ecdsaVerify (s.imageKey key) (b.take (signatureAt b)) ((b.drop (signatureAt b)).take 96), .sigInvalid),
    (field b 10 2 < (s.cls c).counter, .rollback),
    ((s.fitting b).isNone, .notForModule),
    (!s.payloadOk b, .sigInvalid)]

/-- The slot a verified container makes. -/
def slotOf (b : List Byte) (st : SlotState) : ImageSlot :=
  { state := st, keyId := field b 7 1, svn := field b 10 2, version := field b 12 4, revoke := field b 29 1 % 16, image := b }

/-- The image of a slot decrypts into its island (R778); an image as shipped does (assumption 5). -/
def State.sound (s : State) (c i : Nat) : Bool :=
  let y := (s.cls c).slot i
  y.image == [] || s.payloadOk y.image

/-- The ROM can boot slot `i` of MALUF (R778). -/
def State.loadable (s : State) (i : Nat) : Bool :=
  let x := s.cls clsMaluf
  let y := x.slot i
  s.sound clsMaluf i &&
    (y.state == .active || ((y.state == .installed || y.state == .trial || y.state == .revertPending) && x.counter ≤ y.svn))

/-! ### Installation -/

/-- Free the target of an installation: it is EMPTY. -/
def State.emptyTarget (s : State) (i : Installation) : State := s.modCls i.cls fun x => x.modSlot i.slot fun _ => ImageSlot.empty

/-- Fields of IMAGE_INSTALLED (R794). -/
def installedFields (i : Installation) (st : Status) (b : List Byte) (n : Nat) : List Byte :=
  le 1 i.cls ++ le 1 i.slot ++ le 2 st.code ++ le 4 (field b 12 4) ++ le 2 (field b 10 2) ++ le 2 0 ++ le 4 n

/-- The installation ends with a failed check (R780): its target is EMPTY. -/
def State.failInstall (s : State) (i : Installation) (st : Status) (b : List Byte) : State :=
  ((s.emptyTarget i).modUpdate fun u => { u with install := none }).complete uSecurity 0x8001
    (installedFields i st b b.length) i.req false true

/-- The container has not come in full (R779, R793): TIMEOUT. How much of it came is open, and so is what its header would say: free
values (assumption 3). -/
def State.stallInstall (s : State) (i : Installation) : State :=
  let (v, s) := s.free 32
  let (n, s) := s.free 16
  let (b, s) := s.free 32
  ((s.emptyTarget i).modUpdate fun u => { u with install := none }).complete uSecurity 0x8001
    (le 1 i.cls ++ le 1 i.slot ++ le 2 Status.timeout.code ++ le 4 v.toNat ++ le 2 n.toNat ++ le 2 0 ++
      le 4 (b.toNat % (i.length + 1))) i.req false true

/-- A stop cuts the installation off (R774, R781): its slot is EMPTY and the next start says so. -/
def State.cutInstall (s : State) : State :=
  match s.update.install with
  | none => s
  | some i => (s.emptyTarget i).modUpdate fun u => { u with install := none, interrupted := u.interrupted ++ [(i.cls, i.slot)] }

/-- The installations a stop cut off are reported at the start (R781). -/
def State.tellInterrupted (s : State) : State :=
  let l := s.update.interrupted
  (l.foldl (fun s x => s.tellImage x.1 x.2 .installing .empty 5 none false) s).modUpdate fun u => { u with interrupted := [] }

/-! ### Activation, trial and return -/

/-- Raise the counter of a class to an SVN, and revoke the keys the image names (R782). -/
def State.fuse (s : State) (c : Nat) (y : ImageSlot) : State :=
  (s.modCls c fun x => { x with counter := max x.counter y.svn }).modUpdate fun u => { u with revoked := u.revoked ||| y.revoke }

/-- The island of a class starts from another slot: an activation or a return that waited for it begins (R783, R784). -/
def ImageClass.switchTo (x : ImageClass) (slot : Nat) (due : Option Nat) : ImageClass :=
  { x with active := some slot, rejoinDue := due }

/-- The activation or return of a class that has begun is done (R783, R784): the new slot is TRIAL and its trial begins, or
the slot left is INSTALLED and the fallback ACTIVE. -/
def State.finishAct (s : State) (c : Nat) : State :=
  let x := s.cls c
  match x.act with
  | none => s
  | some a =>
    if x.copying || x.active != some a.slot then s
    else
      let s := s.modCls c fun x => { x with act := none, rejoinDue := none }
      if x.loader then
        -- R783: the copy came first, so the completion is ACTIVE
        (s.count uSecurity 18).tellImage c 0 (if a.req.isNone then .pending else .installed) .active a.cause a.req false
      else if a.back then
        let left := 1 - a.slot
        let old := (x.slot left).state
        ((s.modCls c fun x => { (x.setState left .installed).setState a.slot .active with trialStart := 0 }).count uSecurity
          19).tellImage c left old .installed a.cause a.req (a.cause != 0)
      else
        let left := 1 - a.slot
        let old := (x.slot a.slot).state
        ((s.modCls c fun x => { (x.setState left .installed).setState a.slot .trial with trialStart := s.time }).count uSecurity
          18).tellImage c a.slot old .trial a.cause a.req false

/-- Whether the mode permits images (R130). -/
def State.imageMode (s : State) : Bool := ModeSet.img.has s.mode.mode

/-- The island of class `c` starts again (R784): a waiting activation or return begins; an activation whose island resets
before it is done, and a class in TRIAL, go back to the fallback: at once at a module start or where the mode permits images, and
otherwise REVERT_PENDING. `cause` is 0x02 or 0x06 of R794. -/
def State.restartClass (s : State) (c cause : Nat) (start : Bool) : State :=
  let x := s.cls c
  match x.act with
  | some a =>
    if x.copying then s
    else if x.loader then
      s.modCls c fun x => { x with copying := true }
    else if x.active != some a.slot then s.modCls c (·.switchTo a.slot (if a.back then none else some (s.time + 5 * sec)))
    else if a.back then s
    else s.modCls c fun x =>
      { x.switchTo (1 - a.slot) none with act := some { a with slot := 1 - a.slot, back := true, cause := cause } }
  | none =>
    if !x.inTrial then s
    else
      let back : Activation := { req := none, slot := x.other, back := true, cause := cause }
      if start || s.imageMode then s.modCls c fun x => { x.switchTo x.other none with act := some back }
      else (s.modCls c fun x => { x.setState x.current .revertPending with act := some back }).tellImage c x.current .trial
        .revertPending cause none false

/-- As R784 says of every island but the resident loader: LOADER has no island of its own to wait for, so its switch is done at
once (R783). -/
def State.restartImage (s : State) (c cause : Nat) (start : Bool) : State :=
  let s := s.restartClass c cause start
  if c = clsLoader then s.finishAct c else s

/-- Every class of an island. -/
def State.restartImages (s : State) (i cause : Nat) (start : Bool) : State :=
  (classesOf i).foldl (fun s c => s.restartImage c cause start) s

/-- Every class of an island is done with its activation or return. -/
def State.finishActs (s : State) (i : Nat) : State := (classesOf i).foldl (fun s c => if c = clsMaluf then s else s.finishAct c) s

/-- A class whose copy of R773 is still running holds its island in reset. -/
def State.copyingIn (s : State) (i : Nat) : Bool := (classesOf i).any fun c => (s.cls c).copying

/-- The first class of an island whose image does not load (R778). -/
def State.unsound (s : State) (i : Nat) : Option Nat :=
  (classesOf i).find? fun c => c != clsMaluf && c != clsLoader && !s.sound c (s.cls c).current

/-- The image of a class does not load: its island stays in reset (R778, R794). -/
def State.loadFailed (s : State) (c : Nat) : State :=
  let x := s.cls c
  let st := (x.slot x.current).state
  (s.tellImage c x.current st st 4 none false).count uSecurity 20

/-- The ROM boots MALUF: a slot that does not load is passed over for the other one, where that loads (R778). The slot passed over
keeps its state where no activation waits for it. -/
def State.bootMaluf (s : State) : State :=
  let x := s.cls clsMaluf
  let i := x.current
  if s.loadable i || !s.loadable (1 - i) then s
  else match x.act with
    | some a =>
      (s.modCls clsMaluf fun x => { x.switchTo (1 - i) none with act := some { a with slot := 1 - i, back := true, cause := 4 } }).count
        uSecurity 20
    | none => (s.loadFailed clsMaluf).modCls clsMaluf fun x => x.switchTo (1 - i) none

/-- The copy of R773 is done: the slot holds what the staging area held, the counter rises and keys are revoked (R782). -/
def State.copied (s : State) (c : Nat) : State :=
  let y := (s.cls c).slotB
  (s.modCls c fun x =>
    { x with slotA := { y with state := .active }, slotB := ImageSlot.empty, copying := false, active := some 0,
             act := x.act.map fun a => { a with slot := 0 } }).fuse c y

/-! ### Outputs off (R783, R789) -/

/-- Every switch channel, FO0–FO15 and SAFE_OUT0–SAFE_OUT3 is off. -/
def State.outputsOff (s : State) : Bool :=
  (s.stage.chans.entries.all fun e => !e.2.cmdOn && e.2.phase == .off) &&
    (List.range 16).all (fun n => !(s.fieldIo.fo.rd n FieldOut.reset).on) &&
    (List.range 4).all fun n => !(s.safety.out n).on

/-! ### Keys -/

/-- Identity and keys are complete: MODULE_ID, TLS_CERT and TLS_ANCHOR are present (R786). -/
def State.identityComplete (s : State) : Bool :=
  s.update.pub != [] && (s.update.keys.find 1).isSome && (s.update.keys.find 2).isSome

/-- LIFECYCLE reads PROVISIONED once identity and keys are complete (R786). -/
def State.provision (s : State) : State :=
  if s.identityComplete && s.mode.lifecycle == .vendor then s.modMode fun m => { m with lifecycle := .provisioned } else s

/-- KEY_CHANGED (R797). -/
def State.keyChanged (s : State) (kind act : Nat) : State := s.raise uSecurity 0x8101 (le 1 kind ++ le 1 act ++ le 2 0)

/-- Content of a key is well formed (R786, R796). -/
def State.keyOk (s : State) (kind : Nat) (content : List Byte) : Bool :=
  match kind with
  | 1 => content.length ≤ 2048 && Config.certWellFormed content && s.update.pub != [] &&
      le 97 (Config.certKey content).toNat == s.update.pub
  | 2 => content.length ≤ 2048 && Config.certWellFormed content
  | 3 => content.length == 97 && Config.pointOk content
  | _ => content.length == 137 && (Config.unwrapFleet s.update.pub content).isSome

/-- What is stored for a key: the fleet key as unwrapped, any other as given. -/
def State.keyValue (s : State) (kind : Nat) (content : List Byte) : List Byte :=
  if kind ≤ 3 then content
  else match Config.unwrapFleet s.update.pub content with
    | some k => le 32 k.toNat
    | none => []

/-- Modes in which a key may be set or cleared (R786). -/
def keyModes (kind : Nat) : ModeSet := if kind ≤ 3 then .only [.provision, .commission] else .run

/-- A return to FACTORY from PROVISION erases identity, keys and the commissioning record; the counters stay (R786). -/
def State.eraseIdentity (s : State) : State :=
  let s := s.modUpdate fun u => { u with moduleId := 0, pub := [], macBase := List.replicate 6 0, keys := Bank.empty }
  let s := s.modSafety fun x => { x with active := List.replicate 256 0, staged := none, validated := false, log := [],
                                         baseHash := List.replicate 32 0, head := none }
  (s.modMode fun m => { m with lifecycle := .vendor }).fleetEval

end Sys2Proof.Machine
end

