-- ==== Sys2Proof/Machine/FenceOps.lean ====
section
/-! DEFINITION. Fencing a unit and driving its outputs to their safe state, and a unit's return (01, 04). -/

namespace Sys2Proof.Machine

/-! ### What a unit does when it is fenced or reset (R25) -/

/-- Channels of switch channel group `k` (R24). -/
def groupChannels (k : Nat) : List Nat :=
  match k with
  | 0 => [0, 1, 2, 3]
  | 1 => [4, 5, 6, 7]
  | 2 => (List.range 12).map (8 + ·)
  | 3 => (List.range 12).map (20 + ·)
  | 4 => (List.range 8).map (32 + ·)
  | _ => (List.range 8).map (40 + ·)

/-- A unit of CTL is fenced: a lane's loops write SAFE_VALUE and open, its instances enter FAULT (R366, R395); a channel group's
channels take their safe state (R25); the section engine stops (R479). -/
def State.quietCtl (s : State) (k : Nat) : State :=
  if k < 4 then
    let s := (s.control.loops.entries.filter fun e => e.2.lane == k && e.2.state != .empty).foldl
      (fun s e => s.openLoop e.1 1 6 0x0B) s
    (s.functions.insts.entries.filter fun e => e.2.lane == k && e.2.running).foldl (fun s e => s.haltInst e.1 .fault 5 0) s
  else if k < 10 then s.applySafeAll (groupChannels (k - 4)) true
  else if k = 10 then s.stopEngine 5 4 (s.time + 100 * us)
  else s

/-- A unit of VIS is fenced: frames in process end, and a port's link is lost (R561, R587). -/
def State.quietVis (s : State) (k : Nat) : State :=
  if k < 16 then (s.abortFrames k).modCam k fun c => { c with lockedAt := none } else s.abortPipe (k - 16)

/-- A unit of NET is fenced: a controller goes passive (R617), the switch's ports go off (R656). -/
def State.quietNet (s : State) (k : Nat) : State :=
  if k < 12 then s.busStop k 4
  else if k = 12 then (List.range 9).foldl (fun s n => s.setLink n 0 0 3) s
  else s

/-- Drive a unit's outputs to the unit's safe state (R25). The field outputs are off with the converter, and keep their commanded
states for R687 (R688). -/
def State.quiet (s : State) (u : Nat) : State :=
  let i := islandOf u
  let k := u % 256
  if i = islCtl then s.quietCtl k
  else if i = islVis then s.quietVis k
  else if i = islInf then s.abandonOn [k]
  else if i = islNav then (if k = 2 then s.disengage 7 else s)
  else if i = islNet then s.quietNet k
  else if i = islDis then s.displayOff
  else if i = islFld then (if k = 1 && !s.fieldIo.converterFailed then s.foAllOff else s)
  else if i = islSaf then s.safeAllOff
  else if u = uLink then (if s.fabric.link.phase == .up || s.fabric.link.phase == .retraining then s.linkDown .down 0 else s)
  else s

/-- Fence a unit with a cause of R228 (R25, R146): its streams report it absent, its outputs take their safe state, and
UNIT_FENCED is raised where `tell`. -/
def State.fence (s : State) (u cause : Nat) (commit : Option Nat) (tell : Bool) : State :=
  if s.fenced u then s
  else
    let f : Fence := { unit := u, cause := cause, since := s.time, commit := commit, long := false, late := false }
    let s := s.endpointsAbsent (Endpoint.ofUnits [u]) (if cause = 4 then 1 else 2)
    let s := (s.quiet u).modMode fun m => { m with fences := m.fences ++ [f] }
    let s := s.count u 0
    if tell then s.raise moduleSupervisor 0x0305 (le 2 u ++ le 1 cause ++ le 1 0) else s

/-- Fence each of the units. -/
def State.fenceAll (s : State) (us : List Nat) (cause : Nat) (commit : Option Nat) (tell : Bool) : State :=
  us.foldl (fun s u => s.fence u cause commit tell) s

/-! ### Islands released and reset -/

/-- Every Diagnostics counter of an island returns to 0 at its reset (R20). -/
def ModeState.clearCounters (m : ModeState) (i : Nat) : ModeState :=
  { m with diag := m.diag.keep fun k _ => k / 262144 != i }

/-- An island resets: its reset counter and the times of its resets (R20, R134), and its units lose their applied
windows (R326, R328). -/
def State.countReset (s : State) (i : Nat) : State :=
  let s := s.modIsland i fun x =>
    { x with released := false, resets := x.resets + 1,
             resetTimes := (s.time :: x.resetTimes.filter fun t => decide (s.time ≤ t + 600 * sec)).take 8 }
  (s.modMode fun m => m.clearCounters i).modLedger (·.unitsReset i)

/-- What NAV loses at its reset: time is carried by the RTC (R35), no solution, no line, no engagement; configuration and kept
data stay. -/
def State.navReset (s : State) : State :=
  let s := s.disengage 7
  let s := s.setTime fun k =>
    { k with source := .rtc, valid := false, everValid := false, lastTime := none, holdSince := none, slew := 0, step := none,
             message := List.replicate 40 0 }
  let n := s.nav
  let base := { n.base with chans := n.base.chans.mapAll fun _ c => if c.assigned then c else NavChannel.reset,
                            ants := Bank.empty, aid := AcqAid.none }
  { s with nav := { n with base := base, rtk := Rtk.reset, fusion := { Fusion.reset with cfg := n.fusion.cfg } } }

/-- What a VIS reset does beyond its units' fences: VXk_RST_N is low (R74), and the counters of ports, outputs and pipelines return
to 0 (R20). -/
def State.visReset (s : State) : State :=
  let out := fun (_ : Nat) (o : CamOutput) => { o with messages := 0, withheld := 0, noStream := 0 }
  let cam := fun (_ : Nat) (c : Camera) =>
    { c with bridge := false, delivered := 0, dropped := 0, crcErr := 0, outputs := c.outputs.mapAll out }
  let pipe := fun (_ : Nat) (p : Pipeline) => { p with frames := 0, aborted := 0 }
  s.modVision fun v => { v with cams := v.cams.mapAll cam, pipes := v.pipes.mapAll pipe }

/-- The counters of every job return to 0 at an INF reset (R20). -/
def State.infReset (s : State) : State :=
  let job := fun (_ : Nat) (x : Job) =>
    { x with runsAcc := 0, runsPool := 0, late := 0, superseded := 0, droppedLate := 0, aborted := 0, mismatch := 0 }
  s.modInfer fun i => { i with jobs := i.jobs.mapAll job }

/-- The counters of the display return to 0 at a DIS reset (R20). -/
def State.disReset (s : State) : State := s.modDisplay fun d => { d with updates := 0, restorations := 0 }

/-- MAP_MERGE jobs that NET's reset or a rung cuts off end with a status (R264; assumption 24). -/
def State.mergesLost (s : State) (st : Status) : State :=
  let l := s.fleet.merges
  let s := s.modFleet fun f => { f with merges := [] }
  l.foldl (fun s j => s.complete uFleet 0x4202 (le 2 st.code ++ le 1 (flag j.late) ++ le 1 0 ++ le 12 0) j.req false
    true) s

/-- What NET loses at its reset (R618, R656): queues, sessions, addresses learned and resolved; configuration stays. -/
def State.netReset (s : State) : State :=
  let s := (List.range 12).foldl (fun s n => s.busReset n) s
  let port := fun (_ : Nat) (p : EthPort) =>
    { p with egress := [], pending := none, gateHold := none, rx := 0, tx := 0, dropped := 0, crcErr := 0 }
  let s := s.modEth fun e =>
    { e with ports := e.ports.mapAll port, learned := [], announced := none, arp := [], syncAt := none, announceAt := none,
             pdelayAt := none, term := false }
  (s.mergesLost .hwFault).modFleet fun f =>
    { f with senders := [], changed := [], tilesFull := false, state := 0, exchangeAt := none, counts := List.replicate 7 0 }

/-- A port that is off or asleep comes back: an external one looks for its partner, an internal one is up at once, that of APP
where APP runs (R655, R658). -/
def State.portUp (s : State) (n cause : Nat) : State :=
  let up := n = 8 || (n = 7 && !s.inReset islApp)
  let cause := if (s.ethPort n).woke then 4 else cause
  (s.setLink n (if up then 2 else 1) ((ethSpeed n).getD 0) cause).modEthPort n fun p => { p with woke := false }

/-- The ports of the switch come back where they are enabled, once the switch has left its fence, and E5's termination with them
(R656, R658, R660). -/
def State.portsUp (s : State) (cause : Nat) : State :=
  if !s.unitUp uSwitch then s
  else
    let s := (List.range 9).foldl (fun s n =>
      if s.ethFlag n 0 && ((s.ethPort n).link == 0 || (s.ethPort n).link == 3) then s.portUp n cause else s) s
    s.modEth fun e => { e with term := s.ethFlag 5 5 }

/-- An island is released, and what its start does (R71, R85, R126, R205, R337, R618, R656, R714, R760). Power over coax comes on
with ENABLE, as R546 has it, and not here (assumption 115). `cause` is that of a NAV start (R509):
1 a module start, 2 a rung exit, 4 an island reset. -/
def State.releaseIsland (s : State) (i cause : Nat) : State :=
  let s := s.modIsland i fun x => { x with released := true }
  if i = islNav then
    s.navStart cause (((s.nav.base.starting.map (·.kind)).getD 1)) [] ((s.nav.base.starting.bind (·.req)))
  else if i = islNet then (s.busesStart (if cause = 2 then 3 else 4)).portsUp (if cause = 2 then 2 else 3)
  else if i = islCtl then s.modMode fun m => { m with lastBeat := some s.time, jackExpired := false }
  else if i = islFld then s.fieldRejoined
  else if i = islSaf then s.safRelease
  else if i = islDis then s.panelAtRelease
  else if i = islApp then
    -- after an APP reset alone the output state is presented again (R31, R337)
    let s := if s.unitUp uSwitch then s.setLink 7 2 ((ethSpeed 7).getD 0) 5 else s
    if cause = 4 then s.tellOutputs 1 else s
  else s

/-- A unit that rejoins starts again (R111, R564, R618). -/
def State.wake (s : State) (u : Nat) : State :=
  let i := islandOf u
  let k := u % 256
  if i = islVis && k < 16 then (if (s.cam k).live then s.camState k .powering 8 else s)
  else if i = islNet && k < 12 then (if (s.bus k).running then s.busStart k 4 else s)
  else if u = uSwitch then s.portsUp 3
  else if u = uFleet then s.fleetEval
  else if i = islDis then s.checkContent
  else s

/-- The last unit fenced at a commit has rejoined (R147). -/
def State.converge (s : State) : State :=
  if s.mode.converging && !s.mode.fences.any (·.commit.isSome) then
    (s.modMode fun m => { m with converging := false }).raise moduleSupervisor 0x0304
      (le 4 s.mode.epoch.toNat ++ le 4 (satNat (2 ^ 32 - 1) ((s.time - s.mode.commitTick) / us)))
  else s

/-- A unit leaves the fence with the current mode and epoch (R111, R146, R147). -/
def State.unfence (s : State) (u : Nat) : State :=
  let tell := s.fenced u
  let s := (s.modMode fun m => { m with fences := m.fences.filter fun f => f.unit != u }).endpointsReturn (Endpoint.ofUnits [u])
  let s := s.wake u
  let s := if tell then
      s.raise moduleSupervisor 0x0306 (le 2 u ++ le 1 s.mode.mode.code ++ le 1 0 ++ le 4 s.mode.epoch.toNat)
    else s
  s.converge

end Sys2Proof.Machine
end

