-- ==== Sys2Proof/Machine/ModeOps.lean ====
section
/-! DEFINITION. Mode changes: transitions and their conditions, the prepare and its answers, abort and commit, forced entry to
SAFE_HOLD, LIMP causes, authorization (04, 06). -/

namespace Sys2Proof.Machine

/-! ### LIMP causes (R134) -/

/-- The island has reset more than three times within 600 s (R134). -/
def Island.storm (x : Island) (now : Nat) : Bool := 4 ≤ (x.resetTimes.filter fun t => decide (now ≤ t + 600 * sec)).length

/-- LIMP_CAUSES (R227): HOLDUP_LOW, SUPPLY_STUD_LOST, island reset storm, unit fenced over 10 s. -/
def State.limpCauses (s : State) : Nat :=
  bitsOf [s.power.holdupLow, s.power.lostA || s.power.lostB,
    [islVis, islInf, islNav, islNet, islDis, islFld].any fun i => (s.island i).storm s.time, s.mode.fences.any (·.long)]

/-- CAUSE of R229 of the first active LIMP cause. -/
def State.limpCause (s : State) : Option Nat :=
  ((List.range 4).find? fun b => bit s.limpCauses b).map (0x10 + ·)

/-- The modes from which, and into which, an active cause commits LIMP (R134). -/
def limpModes : List Mode := [.parked, .road, .fieldReady, .working, .headland, .service]

/-! ### Transitions (R132, R133, R824) -/

/-- The transitions a host may request (R132). -/
def hostTransition (a b : Mode) : Bool :=
  match a with
  | .factory => b == .provision
  | .provision => b == .commission || b == .factory || b == .safeHold
  | .commission => b == .parked || b == .provision || b == .safeHold
  | .parked => [Mode.road, .fieldReady, .service, .commission, .safeHold].contains b
  | .road => [Mode.parked, .fieldReady, .safeHold].contains b
  | .fieldReady => [Mode.working, .parked, .road, .safeHold].contains b
  | .working => [Mode.headland, .fieldReady, .safeHold].contains b
  | .headland => [Mode.working, .fieldReady, .safeHold].contains b
  | .service => [Mode.parked, .safeHold].contains b
  | .limp => [Mode.parked, .road, .safeHold].contains b
  | .safeHold => b == .parked || b == .safeHold
  | _ => false

/-- AUTH_KIND a transition needs (R132, R762): 0x01 safety password, 0x02 vendor authorization; none where any will do. -/
def State.authKind (s : State) (b : Mode) : Option Nat :=
  match s.mode.mode, b with
  | .factory, .provision => some 2
  | .provision, .factory => some 2
  | .commission, .provision => some 1
  | .parked, .commission => some 1
  | .commission, .commission => some 1
  | _, _ => none

/-- The cause of SAFE_HOLD has cleared (R824). -/
def State.holdCleared (s : State) : Bool :=
  let m := s.mode
  match m.holdCause with
  | 0x20 => s.safRuns && m.holdRst
  | 0x21 => s.safRuns && m.holdRst
  | 0x25 => s.safRuns && m.holdRst
  | 0x22 => m.holdFns == 0
  | 0x23 => m.holdUnits.all s.unitUp
  | 0x24 => m.holdChannel.all fun c =>
      let x := s.chan c
      x.watch.lostAt.isNone || x.watch.timeoutMs == 0 || x.path == .unbound
  | _ => true

/-- The further condition of a transition (R132, R133, R824); none where it is met. -/
def State.furtherRefusal (s : State) (b : Mode) : Option Status :=
  match s.mode.mode, b with
  | .provision, .commission => if s.identityComplete then none else some .wrongMode
  | .commission, .parked => if s.recordValid then none else some .wrongMode
  | .limp, .parked => if s.limpCause.isSome then some .wrongMode else none
  | .limp, .road => if s.limpCause.isSome then some .wrongMode else none
  | .safeHold, .parked =>
    if s.holdCleared then none
    else if [0x20, 0x21, 0x22, 0x25].contains s.mode.holdCause then some .safetyLocked else some .wrongMode
  | _, _ => none

/-! ### Authorization (R225, R226) -/

/-- The challenge held for a kind. -/
def ModeState.challenge (m : ModeState) (kind : Nat) : Option Challenge := if kind = 1 then m.challengePw else m.challengeVendor

/-- Set the challenge of a kind. -/
def State.setChallenge (s : State) (kind : Nat) (c : Option Challenge) : State :=
  s.modMode fun m => if kind = 1 then { m with challengePw := c } else { m with challengeVendor := c }

/-- A kind is locked out (R226). -/
def State.lockedOut (s : State) (kind : Nat) : Bool :=
  (if kind = 1 then s.mode.lockPw else s.mode.lockVendor).any fun t => decide (s.time < t)

/-- What PROOF must be (R763, R788). -/
def State.proofFor (s : State) (kind : Nat) (nonce : List Byte) : List Byte :=
  if kind = 1 then Config.hmac s.safetyKey (nonce ++ le 8 s.update.moduleId)
  else Config.hmac (le 32 Config.vendorKey.toNat) (nonce ++ le 16 Config.serial.toNat)

/-- A proof of a kind has passed: its count returns to 0. -/
def State.proofPassed (s : State) (kind : Nat) : State :=
  s.modMode fun m => if kind = 1 then { m with failedPw := 0 } else { m with failedVendor := 0 }

/-- A proof of a kind has failed; the fifth in a row locks the kind out for 300 s (R226, R764). -/
def State.proofFailed (s : State) (kind : Nat) : State :=
  if kind = 1 then
    let n := s.mode.failedPw + 1
    if n < 5 then s.modMode fun m => { m with failedPw := n }
    else (s.modMode fun m => { m with failedPw := n, lockPw := some (s.time + 300 * sec) }).appendLog 4 (List.replicate 32 0)
      (List.replicate 16 0)
  else
    let n := s.mode.failedVendor + 1
    s.modMode fun m => { m with failedVendor := n, lockVendor := if 5 ≤ n then some (s.time + 300 * sec) else m.lockVendor }

/-- No safety password has been set (R762, R763). -/
def State.noPassword (s : State) : Bool := s.safety.key.isNone

/-- Check the authorization of a MODE_REQUEST: whether it stands, and the state after a proof has been evaluated (R225). -/
def State.authorize (s : State) (b : Mode) (kind : Nat) (nonce proof : List Byte) : Bool × State :=
  match s.authKind b with
  | none => (true, s)
  | some k =>
    if b == .commission && s.mode.mode == .commission && kind = 0 && s.noPassword then (true, s)
    else if s.lockedOut k || kind != k then (false, s)
    else match s.mode.challenge k with
      | none => (false, s)
      | some c =>
        if c.nonce != nonce || c.expires ≤ s.time then (false, s)
        else
          let s' := s.setChallenge k none
          if proof == s.proofFor k nonce then (true, s'.proofPassed k) else (false, s'.proofFailed k)

/-! ### Prepare, abort -/

/-- Units that are fenced, or whose island is in reset, when the prepare is sent (R144); a unit under self-test answers BUSY
(R231). -/
def State.absentUnits (s : State) : List Nat :=
  ((List.range 12).flatMap unitsOf).filter fun u =>
    (s.fenced u || (s.inReset (islandOf u) && islandOf u != islAon && islandOf u != islSup)) &&
      !s.mode.selfTests.any fun x => x.unit == u

/-- Islands whose supervisor votes. -/
def Change.voters (c : Change) : List Nat := (List.range 12).filter fun i => (unitsOf i).any fun u => !c.absent.contains u

/-- First 1 ms tick boundary at least `d` after `t` (R141, R145). -/
def firstTick (t d : Nat) : Nat := (t + d + ms - 1) / ms * ms

/-- Body of a MODE record (R823). -/
def modeBody (m req : Mode) (cause epoch tick : Nat) : List Byte :=
  le 1 m.code ++ le 1 req.code ++ le 1 cause ++ le 1 0 ++ le 4 epoch ++ le 8 tick

/-- Write the MODE record of the change, OPEN, with its commit tick (R141, R319). -/
def State.openModeRecord (s : State) (tick : Nat) : State :=
  match s.mode.change with
  | none => s
  | some c =>
    let e := s.mode.epoch + 1
    let id := s.ledger.nextId
    let s := s.newRecord .mode .open 0xFF uLedger (some tick) e false (modeBody c.target c.requested c.cause e.toNat tick)
    s.modMode fun m => { m with change := some { c with record := id } }

/-- Send the prepare of a change (R141, R145). -/
def State.prepare (s : State) (requested target : Mode) (cause : Nat) (req : Option Requester) (forced : Bool)
    (units : List Nat) : State :=
  let c : Change := { requested := requested, target := target, cause := cause, req := req, forced := forced, prepare := s.time,
                      ready := [], allReady := none, absent := s.absentUnits, record := 0, units := units }
  s.modMode fun m => { m with change := some c }

/-- The change in progress aborts: MODE_ABORTED with a reason of R142; its MODE record expires NOT_COMMITTED (R141, R330). -/
def State.abortChange (s : State) (reason unit : Nat) : State :=
  match s.mode.change with
  | none => s
  | some c =>
    let s := s.modMode fun m => { m with change := none }
    let s := match s.record c.record with
      | some x => s.expireOther x 7 0
      | none => s
    s.settle moduleSupervisor 0x0303 (le 1 c.requested.code ++ le 1 reason ++ le 2 unit ++ le 4 s.mode.epoch.toNat) c.req true true

/-- Units of an island that has not yet answered reset or are fenced: the change aborts (R142 reason 0x03), naming the first of them
that takes part in the vote (assumption 116). -/
def State.resetInVote (s : State) (us : List Nat) : State :=
  match s.mode.change with
  | some c =>
    match us.find? fun u => !c.ready.contains (islandOf u) && !c.absent.contains u with
    | some u => if c.forced then s else s.abortChange 3 u
    | none => s
  | none => s

/-- SELFTEST_DONE (R231); a unit that was fenced for the test rejoins. -/
def State.endSelfTest (s : State) (x : SelfTest) (result failCode : Nat) : State :=
  let s := s.modMode fun m => { m with selfTests := m.selfTests.filter fun y => y.unit != x.unit }
  let s := s.complete moduleSupervisor 0xF001
    (le 2 x.unit ++ le 1 result ++ le 1 x.depth ++ le 4 failCode ++ le 4 ((s.time - x.started) / us)) x.req false (result != 0)
  if s.mode.fences.any fun f => f.unit == x.unit && f.cause == 3 then s.unfence x.unit else s

/-- Begin a forced entry to SAFE_HOLD (R145): a change in progress is aborted with PREEMPTED, and self-tests stop (R231). An
automatic entry that is cut short by another is asked for again. PREEMPTED names no unit that refuses: the event carries the module
supervisor's ID (assumption 117). -/
def State.forceHold (s : State) (cause : Nat) (units : List Nat) (ch : Option Nat) (req : Option Requester) : State :=
  let s := match s.mode.change with
    | some c =>
      if c.forced && c.req.isNone then s.modMode fun m => { m with holdPending := (c.cause, c.units, m.holdChannel) :: m.holdPending }
      else s
    | none => s
  let s := s.abortChange 5 moduleSupervisor
  let s := s.mode.selfTests.foldl (fun s x => s.endSelfTest x 4 0) s
  let s := s.prepare .safeHold .safeHold cause req true units
  (s.modMode fun m => { m with holdChannel := ch }).openModeRecord (firstTick s.time (100 * us))

/-! ### What an island answers (R142) -/

/-- A working instance runs: START of it would be unmet for ROAD (R142). -/
def State.workingRuns (s : State) : Option Nat :=
  (s.functions.insts.entries.find? fun e => e.2.running && tplWorking e.2.template).map fun e => uLane e.2.lane

/-- The fused ground speed was above 0.5 km/h within the last 1 s (R142), in mm/s. -/
def State.movedLately (s : State) : Bool :=
  let fast := fun (v : Nat) (t : Nat) => decide (500000 < 3600 * v && s.time ≤ t + sec)
  fast s.nav.fusion.last.speed.natAbs s.nav.fusion.last.time || s.functions.track.any fun p => fast p.speed p.time

/-- Unit and reason for which an island refuses a prepare (R142, R231, R781); none where it can apply the mode. -/
def State.islandRefuses (s : State) (i : Nat) (m : Mode) : Option (Nat × Nat) :=
  match s.mode.selfTests.find? fun x => islandOf x.unit == i with
  | some x => some (x.unit, 2)
  | none =>
    if i = islCtl then
      match (if m == .road then s.workingRuns else none),
          s.control.loops.entries.find? fun e => e.2.state == .tuning with
      | some u, _ => some (u, 1)
      | none, some e => some (uLane e.2.lane, 2)
      | none, none => none
    else if i = islNav && m == .parked && s.movedLately then some (uFusion, 1)
    else if i = islSup && s.update.install.isSome then some (uSecurity, 2)
    else none

/-! ### Commit -/

/-- Loops at a commit (R366, R368): every one opens at COMMISSION and SAFE_HOLD, and those whose destination channel the mode
forbids. An outer loop stays CLOSED above an inner loop that opens (R361); a CLOSE of it that still waits ends where the mode
forbids the channel at the end of its chain. -/
def State.commitLoops (s : State) (m : Mode) : State :=
  (s.control.loops.entries.filter fun e => e.2.state != .empty).foldl (fun s e =>
    if m == .commission || m == .safeHold || (descChannel e.2.desc).any fun c => !s.modeLetsLoop m c then
      (s.openLoop e.1 1 1 0x0A).dropClosing e.1 1
    else if s.modeForbidsLoop e.1 then s.dropClosing e.1 1
    else s) s

/-- Channels at a commit (R335, R421, R442, R448): each takes its safe state at SAFE_HOLD; in any other mode that does not let
one be on, one that is on, or held, takes it; RECOVERY, FACTORY and PROVISION leave none on; a service drive ends. -/
def State.commitChannels (s : State) (m : Mode) : State :=
  let s := match s.stage.service with
    | some (c, _) => ((s.modStage fun p => { p with service := none }).commandOff c).finishRequests
    | none => s
  (List.range 48).foldl (fun s c =>
    let x := s.sw c
    if m == .safeHold then s.applySafe c true
    else if m == .factory || m == .provision then (if x.cmdOn || x.phase != .off then (s.commandOff c).finishRequests else s)
    else if s.modeLets m c then s
    else if x.cmdOn || x.held != .none then s.applySafe c (m != .service)
    else s) s

/-- What every unit does when it applies a mode (R130, R393, R464, R695, R752). -/
def State.applyMode (s : State) (m : Mode) : State :=
  let s := ((s.commitLoops m).commitSections m).commitChannels m
  let s := s.commitInsts m
  let s := if s.nav.fusion.engaged && !([Mode.fieldReady, .working, .headland, .limp].contains m) then s.disengage 1 else s
  let s := if [Mode.recovery, .factory, .provision, .commission, .service, .safeHold].contains m then s.foAllOff else s
  let s := s.safMode m
  if m == .commission then s.genesis else s

/-- The satellite assignments of CHANNEL_SET end at the commit of a mode change out of COMMISSION or SERVICE, `old` (R505). -/
def State.releaseAssigned (s : State) (old m : Mode) : State :=
  if old == m then s
  else
    let f := fun (_ : Nat) (c : NavChannel) => if c.assigned then NavChannel.reset else c
    s.modBase fun b => { b with chans := b.chans.mapAll f }

/-- Every unit takes the new mode and epoch (R141): the hub's registers, the record, and what each unit does. -/
def State.enterMode (s : State) (m : Mode) : State :=
  let old := s.mode.mode
  let s := s.modMode fun x =>
    { x with mode := m, epoch := x.epoch + 1, commitTick := s.time,
             session := if old == .commission && m != .commission then none else x.session }
  let s := s.modHub fun h => { h with epochChanged := true, cntEpoch := h.cntEpoch + 1 }
  let s := if m == .parked && old != .parked then s.modPower fun p => { p with descentFrom := some s.time }
    else if m != .parked then s.modPower fun p => { p with wait := p.wait.filter fun w => w.req.isSome }
    else s
  ((s.applyMode m).releaseAssigned old m).drawStrip

/-- Mark the units fenced since the prepare as fenced at this commit (R146). -/
def ModeState.markFenced (m : ModeState) (absent : List Nat) (tick : Nat) : ModeState :=
  let f := fun (x : Fence) => if absent.contains x.unit || x.commit.isSome then x else { x with commit := some tick }
  let fences := m.fences.map f
  { m with fences := fences, converging := fences.any (·.commit.isSome) }

/-- Put a list's members that are in `first` before the others. -/
def putFirst (first l : List Nat) : List Nat := (l.filter fun u => first.contains u) ++ l.filter fun u => !first.contains u

/-- The change commits at the present tick (R141, R145, R146): units that missed it are fenced, the MODE record is APPLIED, every
unit applies the mode, and MODE_CHANGED is raised. -/
def State.commitChange (s : State) (missed : List Nat) : State :=
  match s.mode.change with
  | none => s
  | some c =>
    let old := s.mode.mode
    let s := (s.modMode fun m => { m with change := none }).fenceAll missed (if c.forced then 5 else 2) (some s.time) true
    let s := s.modMode fun m => m.markFenced c.absent s.time
    let s := s.setRecord c.record .applied 0
    let s := s.enterMode c.target
    let s := if c.target == .commission then s.modMode fun m => { m with session := c.req.map (·.ch) } else s
    let s := if old == .provision && c.target == .factory then s.eraseIdentity else s
    -- the unit that failed to converge stands first, among the fenced units (R229)
    let away := fun u => c.absent.contains u && !c.units.contains u
    let fenced := putFirst c.units ((s.mode.fences.filter fun f => !away f.unit).map (·.unit))
    let absent := c.absent.filter away
    let s := if c.target == .safeHold then
        s.modMode fun m => { m with holdCause := c.cause, holdUnits := fenced ++ absent, holdRst := false }
      else s
    s.settle moduleSupervisor 0x0302
      (le 1 c.requested.code ++ le 1 c.target.code ++ le 1 c.cause ++ le 1 (flag s.mode.converging) ++ le 4 s.mode.epoch.toNat ++
        le 8 s.mode.commitTick ++ le 1 fenced.length ++ le 1 absent.length ++ le 2 0 ++ (fenced ++ absent).flatMap (le 2)) c.req true false

end Sys2Proof.Machine
end

