-- ==== Sys2Proof/Machine/ResetOps.lean ====
section
/-! DEFINITION. Island resets, module resets and the controlled power-fail: what each leaves of every unit's state (01, 03, 04, 05). -/

namespace Sys2Proof.Machine

/-! ### What a module reset leaves (R32, R171, R177, R204) -/

/-- A channel after a module reset or a power-fail: unbound and at its reset values; outcomes the ledger holds stay with the TAGs
they hold, and the journal settings stay in KEEP (R332, R341). -/
def Channel.afterStop (c : Channel) (path : Path) (fams : BitVec 256) : Channel :=
  let w := c.waiting.filter fun i => i.record != 0
  { Channel.reset with path := path, families := fams, waiting := w, windowMs := c.windowMs, holdReplay := c.holdReplay,
                       held := c.held.filter fun q => w.any fun i => i.event.req == some q }

/-- The hub after a module reset: absent until the release; pins keep their levels. -/
def Hub.afterStop (h : Hub) : Hub :=
  let f := fun n (c : Channel) => if n = 0 then c.afterStop .app allFamilies else c.afterStop .unbound 0
  let chans := (if (h.chans.find 0).isSome then h.chans else h.chans.put 0 Channel.reset).mapAll f
  { Hub.reset with chans := chans, absent := true, perst := h.perst, nextSerial := h.nextSerial }

/-- Each stop leaves what KEEP and AON hold of the supervisors' state (R226, R228): with no record of it the time of the stop is
unknown. -/
def ModeState.afterStop (m : ModeState) (cause now : Nat) : ModeState :=
  let f := fun i (x : Island) => if i = islAon then x else { x with released := false, resets := x.resets + 1, resetTimes := [] }
  let islands := (List.range 12).foldl (fun (b : Bank Island) i => b.put i (m.islands.rd i Island.reset)) Bank.empty
  { m with mode := .none, booted := false, lastMode := if m.booted then m.mode else m.lastMode, stopCause := cause,
           stopTime := if cause = 0 then 0 else now, converging := false, change := Option.none, holdRst := false, holdPending := [],
           bootHold := Option.none, fences := [], islands := islands.mapAll f, challengePw := Option.none,
           challengeVendor := Option.none, session := Option.none, selfTests := [],
           diag := m.diag.keep fun k _ => k / 262144 == islAon, jackInForce := m.jackMs, lastBeat := Option.none,
           jackExpired := false, safeApplied := false }

/-- The supply's own state goes on; rungs, waits and throttles are those of a new start. -/
def Power.afterStop (p : Power) (now : Nat) : Power :=
  { p with crank := none, lowSince := none, holdupWait := true, waitSince := now, holdupMj := 0, holdupTested := false,
           holdupLow := false, rung := 0, wait := none, entering := none, entryTime := 0, retained := 0, descentFrom := none,
           recovStrap := false, strapsFixed := false, backupSince := none, budgetPct := (100, 100, 100),
           platePct := (100, 100, 100), toldPct := (100, 100, 100) }

/-- The ledger in KEEP survives; units other than AON's have reset, and lose their applied windows (R326, R328). -/
def Ledger.afterStop (l : Ledger) : Ledger :=
  ((List.range 12).filter (· != islAon)).foldl (fun l i => l.unitsReset i)
    { l with replaying := false, passed := false, redispatched := [], waiting := [] }

/-- A loop comes up OPEN with its states cleared (R367). -/
def Loop.afterStop (x : Loop) : Loop :=
  if x.state == .empty then x
  else { Loop.reset with desc := x.desc, state := .open, lane := x.lane, slot := x.slot, phase := x.phase }

/-- The control engine: host values and signals cleared (R352). -/
def Control.afterStop (c : Control) : Control :=
  let f := fun (_ : Nat) (x : Loop) => x.afterStop
  { Control.reset with loops := c.loops.mapAll f, tickNo := c.tickNo }

/-- A switch channel: off, its thermal memory, its configuration and a latched fault kept (R32, R338, R420, R439). -/
def Switch.afterStop (x : Switch) : Switch :=
  { Switch.reset with cool := x.cool, cfg := x.cfg, fault := x.fault, theta := x.theta, thetaKeep := x.thetaKeep, retriesLeft := x.retriesLeft }

/-- The power stage. -/
def PowerStage.afterStop (p : PowerStage) : PowerStage :=
  let f := fun (_ : Nat) (x : Switch) => x.afterStop
  { PowerStage.reset with chans := p.chans.mapAll f }

/-- An instance: STOPPED, with the totals last saved (R384, R408). -/
def Instance.afterStop (x : Instance) : Instance :=
  if x.template = 0 then x
  else
    { Instance.reset with template := x.template, autostart := x.autostart, lane := x.lane, label := x.label,
                          params := x.newParams.getD x.params, binds := x.binds, state := .stopped, areaCm2 := x.saved.1,
                          massG := x.saved.2.1, unmappedMg := x.saved.2.2.1, lossNg := x.saved.2.2.2, since := x.since,
                          saved := x.saved }

/-- The machine functions. -/
def Functions.afterStop (x : Functions) : Functions :=
  let f := fun (_ : Nat) (y : Instance) => y.afterStop
  { Functions.reset with insts := x.insts.mapAll f }

/-- The field group and the sensor inputs: their configuration (R703). -/
def FieldIo.afterStop (x : FieldIo) : FieldIo :=
  let i := fun (_ : Nat) (y : FieldIn) =>
    { FieldIn.reset with type := y.type, breakOn := y.breakOn, invert := y.invert, filterUs := y.filterUs }
  let o := fun (_ : Nat) (y : FieldOut) => { FieldOut.reset with restore := y.restore, openDiag := y.openDiag }
  let n := fun (_ : Nat) (y : SensorIn) =>
    { SensorIn.reset with mode := y.mode, range := y.range, supply := y.supply, ratio := y.ratio, avg := y.avg,
                          freqThresh := y.freqThresh, hitThresh := y.hitThresh, deadUs := y.deadUs }
  { FieldIo.reset with fi := x.fi.mapAll i, fo := x.fo.mapAll o, si := x.si.mapAll n }

/-- The section engine: STOPPED, its configuration kept (R477, R478). -/
def Sections.afterStop (x : Sections) : Sections :=
  let f := fun (_ : Nat) (y : Section) => { y with on := false, marks := [], point := none }
  { Sections.reset with implement := x.implement, secs := x.secs.mapAll f, nextSerial := x.nextSerial }

/-- The fabric: every stream ended, the link untrained (R300, R315). -/
def Fabric.afterStop (x : Fabric) : Fabric :=
  let l := { Link.reset with enable := x.link.enable, maxWidth := x.link.maxWidth, timeFromPeer := x.link.timeFromPeer }
  { Fabric.reset with link := l }

/-- NAV: configuration and the data of R498 kept, module time carried by the RTC (R35). -/
def Nav.afterStop (n : Nav) : Nav :=
  let k := match n.time.nextCfg with
    | some p => n.time.configure p
    | none => n.time
  let time := { Timekeeper.reset with lostTime := k.lostTime, lastTime := k.lastTime, holdoverS := k.holdoverS, onlyValid := k.onlyValid, flags := k.flags, width := k.width,
                                      cable := k.cable }
  { Nav.reset with base := { Baseband.reset with cfg := n.base.cfg, kept := n.base.kept },
                   fusion := { Fusion.reset with cfg := n.fusion.cfg }, time := time }

/-- Camera ports: configuration, stage parameters and outputs kept (R563, R571, R587). -/
def Vision.afterStop (v : Vision) : Vision :=
  let o := fun (_ : Nat) (y : CamOutput) => { CamOutput.reset with cfg := y.cfg }
  let f := fun (_ : Nat) (c : Camera) =>
    { Camera.reset with cfg := c.cfg, paramSeq := c.paramSeq, stages := c.stages, outputs := c.outputs.mapAll o }
  { Vision.reset with cams := v.cams.mapAll f }

/-- A bus controller: configuration, filters and the running state kept (R618, R624, R627), its termination off (R59). -/
def BusController.afterStop (b : BusController) : BusController :=
  let q := fun (_ : Nat) (x : RxQueue) => { x with records := [], overflows := 0, toldAt := none, firstAt := none }
  { BusController.reset with cfg := b.cfg, running := b.running, filters := b.filters, count := b.count, dflt := b.dflt,
                             dfltGen := b.dfltGen, pairs := b.pairs, pairGens := b.pairGens, queues := b.queues.mapAll q }

/-- The Ethernet switch: its configuration. -/
def EthSwitch.afterStop (x : EthSwitch) : EthSwitch :=
  let f := fun (_ : Nat) (p : EthPort) => { EthPort.reset with cfg := p.cfg }
  { EthSwitch.reset with ports := x.ports.mapAll f, syncPorts := x.syncPorts, logSync := x.logSync, prio := x.prio, ip := x.ip,
                         nodes := x.nodes }

/-- The fleet agent: its configuration and SEQ_OUT (R670). -/
def Fleet.afterStop (x : Fleet) : Fleet := { Fleet.reset with cfg := x.cfg, seqOut := x.seqOut }

/-- The display engine: its configuration, the fitted panel and the last completed waveform (R730). -/
def Display.afterStop (x : Display) : Display :=
  { Display.reset with external := x.external, airTemp := x.airTemp, idleMs := x.idleMs, statusRows := x.statusRows,
                       pmic := x.pmic, store := x.store, waveform := x.waveform, lastWave := x.lastWave, panel := x.panel, pins := x.pins,
                       nextId := x.nextId, temp := x.temp }

/-- The images: no transport holds channel 63, and no request waits for an activation any more (R177). -/
def Update.afterStop (u : Update) : Update :=
  let g := fun (a : Activation) => { a with req := none }
  let f := fun (_ : Nat) (x : ImageClass) => { x with act := x.act.map g }
  { u with classes := u.classes.mapAll f, romPort := none }

/-- Each 4 KB block of a write-back unit cut off holds its old or its new content (R254): a free value per block. -/
def State.tearUnit (s : State) (h : Nat) (w : WriteBack) : State :=
  (blocksOf w.offset w.length).foldl (fun s b =>
    let (x, s) := s.free 1
    if x = 1 then s.modPlacement h fun p => { p with synced := p.synced.copyFrom p.mem (b * blockSize) blockSize } else s) s

/-- The placement engine after a module reset or a power-fail (R254, R261): VOLATILE and RUNG placements lost, DURABLE ones with
their synced content, no copies, pins or views. `cause` is that of PLACEMENT_LOST. -/
def State.placesAfterStop (s : State) (cause : Nat) : State :=
  let s := s.place.places.entries.foldl (fun s e =>
    if e.2.dur == 2 then e.2.writing.foldl (fun s w => s.tearUnit e.1 w) s else s) s
  let lost := s.place.places.entries.filter fun e => e.2.dur != 2
  let kept := s.place.places.keep fun _ p => p.dur == 2
  let f := fun (_ : Nat) (p : Placement) =>
    { p with mem := p.synced, pin := 0, chunks := Bank.empty, dirty := Bank.empty, pinning := [], syncs := [],
             views := [], writing := [], unrestored := Bank.empty }
  s.modPlace fun q =>
    { q with places := kept.mapAll f, moving := [], pool := none, bootView := 0, pressed := Bank.empty, degraded := 0,
             owed := q.owed ++ lost.map fun e => (0x0402, lostFields e.1 e.2 cause) }

/-- Everything but AON and KEEP is gone. `stop` is the STOP_CAUSE and `lost` the cause of PLACEMENT_LOST. -/
def State.forgetAll (s : State) (stop lost : Nat) : State :=
  let s := s.cutInstall.placesAfterStop lost
  let bus := fun (_ : Nat) (b : BusController) => b.afterStop
  { s.safReset with
      hub := s.hub.afterStop, power := s.power.afterStop s.time, mode := s.mode.afterStop stop s.time,
      ledger := s.ledger.afterStop, control := s.control.afterStop, stage := s.stage.afterStop,
      functions := s.functions.afterStop, fieldIo := s.fieldIo.afterStop, fabric := s.fabric.afterStop,
      nav := s.nav.afterStop, vision := s.vision.afterStop, infer := Inference.reset, buses := s.buses.mapAll bus,
      eth := s.eth.afterStop, fleet := s.fleet.afterStop, display := s.display.afterStop, update := s.update.afterStop,
      sections := s.sections.afterStop, deferred := [] }

/-! ### Module reset (R32, R77, R125) -/

/-- A module reset: every switch output off in hardware, every island but AON reset, and the reset held until its release. The
display's discharge sequence runs first (R715). One that ends RECOVERY has STOP_CAUSE 0x07 (R791). -/
def State.moduleReset (s : State) (stop : Nat) : State :=
  let stop := if s.mode.mode == .recovery then 7 else stop
  let s := (s.displayOff.allOff.foAllOff).forgetAll stop 2
  s.modPower fun p => { p with life := .inReset }

/-! ### Controlled power-fail (R98, R102–R104, R254) -/

/-- Records left OPEN. -/
def Ledger.openCount (l : Ledger) : Nat := (l.records.filter fun x => x.state == .open).length

/-- Write a SNAPSHOT record of the output state, retiring the one before it (R319). -/
def State.snapshot (s : State) : State :=
  let old := fun (x : Record) => x.kind == .snapshot && x.state == .applied
  let s := s.modLedger fun l => { l with records := mapIf old (fun x => { x with state := .retired, changed := s.time }) l.records }
  s.newRecord .snapshot .applied 0xFF (supervisorOf islCtl) none 0 false (s.outputReport 0)

/-- Copy the live thermal memory to KEEP (R338). -/
def State.copyTheta (s : State) : State :=
  s.modStage fun p =>
    let f := fun (_ : Nat) (x : Switch) => { x with thetaKeep := x.theta }
    { p with chans := p.chans.mapAll f }

/-- The reserve carries the power-fail sequence to its end: 0.5 J (R100, R102); one not yet tested in this start counts as
sufficient (assumption 72). -/
def Power.reserveOk (p : Power) : Bool := !p.holdupTested || 500 ≤ p.holdupMj

/-- Write-back units in flight complete or are cut off by the close of the ledger (R254): a free value for each. -/
def State.writesAtFail (s : State) : State :=
  s.place.places.entries.foldl (fun s e =>
    e.2.writing.foldl (fun s w =>
      let (x, s) := s.free 1
      if x = 1 then s.wroteBack e.1 w else s) s) s

/-- A controlled power-fail, which runs to completion (R102, R103): the change in progress aborts, the outputs switch off, thermal
memory is saved, the display's frame ends, the ledger is closed with a POWER_FAIL record, and the module is unpowered. -/
def State.powerFail (s : State) (cause : Nat) (vMin : Int) : State :=
  let ok := s.power.reserveOk
  let s := s.abortChange 5 moduleSupervisor
  let s := if ok then s.snapshot else s
  let s := s.allOff.foAllOff.safeAllOff
  let s := if ok then s.copyTheta.writesAtFail.displayPowerFail else s.displayOff
  let v := (max vMin 0).toNat / 10
  let s :=
    if ok then
      s.newRecord .powerFail .applied 0xFF uPower none 0 false
        (le 8 s.time ++ le 1 cause ++ le 1 0 ++ le 2 (satNat 65535 v) ++ le 4 s.ledger.openCount)
    else s
  let s := s.forgetAll (if ok then 1 else 0) 3
  s.modPower fun p => { p with life := .unpowered, aonKept := ok, copyMissing := !ok, backupSince := some s.time }

/-! ### Island resets (R25, R31) -/

/-- A tunnel session ends, and its channel is reset as RESET_CH does (R189); the outputs follow with PATH_LOST_HOLD (R334). -/
def State.endSession (s : State) (n : Nat) : State :=
  match s.hub.sessions.find n with
  | none => s
  | some x =>
    let s := s.modHub fun h => { h with sessions := h.sessions.erase n }
    match x.ch with
    | some c => (s.resetChannel c stRestarted).losePath .tunnel (some c)
    | none => s

/-- Self-tests of an island's units end (R231). -/
def State.endIslandTests (s : State) (i : Nat) : State :=
  (s.mode.selfTests.filter fun x => islandOf x.unit == i).foldl (fun s x => s.endSelfTest x 4 0) s

/-- The path of APP is lost (R31, R261, R334): hold policies, mapped views, the worker pool and E7's
link. -/
def State.appLost (s : State) : State :=
  let s := (List.range 48).foldl (fun s k => if pathCovers (.app, none) (s.sw k).lastPath then s.holdChannel k else s) s
  let s := s.modPlace fun q =>
    let f := fun h (p : Placement) => if h = q.bootView then p else { p with views := [] }
    { q with places := q.places.mapAll f }
  let s := if (s.ethPort 7).link = 2 then s.poolLost.setLink 7 1 0 5 else s.poolLost
  s.modEth fun e => { e with learned := e.learned.filter fun x => x.2.1 != 7 }

/-- The change in progress is lost with the module supervisor: its request is lost, its MODE record stays OPEN (R171, R328), and
an automatic entry to SAFE_HOLD is asked for again. -/
def ModeState.supLost (m : ModeState) : ModeState :=
  match m.change with
  | some c =>
    let again := if c.forced && c.req.isNone then [(c.cause, c.units, m.holdChannel)] else []
    { m with change := none, holdPending := again ++ m.holdPending }
  | none => m

/-- Deferred requests of SUP's own units and of the module supervisor are lost with them (R171). -/
def State.dropDeferred (s : State) : State := { s with deferred := s.deferred.filter (·.1.byUnit) }

/-- SUP resets alone (R28, R31, R152, R171): the hub is absent, an installation is cut off, and a MALUF or LOADER image that waits
or is in trial is dealt with at the start. -/
def State.supReset (s : State) : State :=
  let s := s.cutInstall.countReset islSup
  let s := s.modMode fun m => m.supLost
  let s := s.modPower fun p => { p with wait := p.wait.filter fun w => w.req.isNone, entering := none }
  let kept := fun (n : Nat) (q : Outstanding) =>
    ([0x01, 0x03, 0x80] : List Nat).contains q.family || s.ledger.records.any fun x =>
      x.kind == .command && x.state == .open && x.ch == n && field x.body 2 1 == q.family && field x.body 3 1 == q.op &&
        field x.body 8 4 == q.tag.toNat
  let lose := fun n (c : Channel) => c.hubLost (kept n)
  let s := s.modHub fun h =>
    { h with absent := true, serving := false, phase := .rom, sessions := Bank.empty, chans := h.chans.mapAll lose }
  s.dropDeferred.restartImages islSup 2 false

/-- An island resets alone, or escalates (R31). -/
def State.islandReset (s : State) (i : Nat) : State :=
  if i = islAon then s
  else if i = islMem then s.moduleReset 3
  else if i = islCtl then s.moduleReset 4
  else if i = islSup then s.supReset
  else
    let s := s.endIslandTests i
    let s := s.resetInVote (unitsOf i)
    let s := (s.countReset i).fenceAll (unitsOf i) 4 none true
    let s := s.modMode fun m => m.clearCounters i
    let s :=
      if i = islNav then s.navReset
      else if i = islVis then s.visReset
      else if i = islInf then s.infReset
      else if i = islDis then s.disReset
      else if i = islNet then (s.hub.sessions.keys.foldl (fun s n => s.endSession n) s).netReset
      else if i = islSaf then s.safReset.askHold 0x20 [supervisorOf islSaf] none
      else if i = islApp then s.appLost
      else s
    s.restartImages i 2 false

end Sys2Proof.Machine
end

