-- ==== Sys2Proof/Machine/ExecField.lean ====
section
/-! DEFINITION. The Field I/O and sensors family and the field group's own events (21). -/

namespace Sys2Proof.Machine

/-! ### Field supply -/

/-- FLD measures and acts (R685). -/
def State.fieldRuns (s : State) : Bool := !s.inReset islFld && s.clocked islFld && !s.fieldIo.converterFailed

/-- When FLD_CONVERTER_FAIL has its effect. -/
def whenFldConverterFail (_t : Nat) (s : State) : Bool :=
  s.power.life == .started && decide (s.power.rung < 3) && !s.inReset islFld && !s.fieldIo.converterFailed

/-- Effect of FLD_CONVERTER_FAIL. -/
def doneFldConverterFail (_t : Nat) (s : State) : State :=
  s.fieldUnpowered.islandReset islFld

/-- When FSUP_LOW has its effect. -/
def whenFsupLow (_t mv : Nat) (s : State) : Bool :=
  s.fieldRuns && decide (mv < 19200)

/-- Effect of FSUP_LOW. -/
def doneFsupLow (_t mv : Nat) (s : State) : State :=
  (s.modField fun x => { x with fsupMv := mv }).fieldLow

/-- FSUP_LOW (R685). -/
def execFsupLow (t mv : Nat) (s : State) : Out :=
  event t s (whenFsupLow t mv) (doneFsupLow t mv)

/-- When FSUP_LOST has its effect. -/
def whenFsupLost (_t mv : Nat) (s : State) : Bool :=
  s.fieldRuns && !s.fieldIo.lost && decide (mv < 15000)

/-- Effect of FSUP_LOST. -/
def doneFsupLost (_t mv : Nat) (s : State) : State :=
  let s0 := s
  let s := (s0.modField fun x => { x with fsupMv := mv }).fieldLow
  let off := s.foOnBits
  let s := ((s.modField fun x => { x with lost := true }).foLost.count uFsup 17).noteInvalid s0
  s.tellFsup 2 off

/-- FSUP_LOST (R685): each threshold raises its own event where the supply falls through both. -/
def execFsupLost (t mv : Nat) (s : State) : Out :=
  event t s (whenFsupLost t mv) (doneFsupLost t mv)

/-- When FSUP_RESTORED has its effect. -/
def whenFsupRestored (_t mv : Nat) (s : State) : Bool :=
  s.fieldRuns && (s.fieldIo.low || s.fieldIo.lost) && decide (19200 ≤ mv)

/-- Effect of FSUP_RESTORED. -/
def doneFsupRestored (_t mv : Nat) (s : State) : State :=
  let s0 := s
  let s := s0.modField fun x => { x with fsupMv := mv, low := false, lost := false }
  let s := if s0.fieldIo.lost then s.foRestore else s
  (s.noteInvalid s0).tellFsup 0 0

/-- FSUP_RESTORED (R685, R687). -/
def execFsupRestored (t mv : Nat) (s : State) : Out :=
  event t s (whenFsupRestored t mv) (doneFsupRestored t mv)

/-! ### Field inputs -/

/-- When FI_LEVEL_ACCEPT has its effect. -/
def whenFiLevelAccept (t fi : Nat) (_level : Bool) (stamp : Nat) (s : State) : Bool :=
  s.unitUp uFi && !s.fiInvalid fi && decide (stamp + (s.fieldIn fi).filterUs * us ≤ t)

/-- Effect of FI_LEVEL_ACCEPT. -/
def doneFiLevelAccept (_t fi : Nat) (level : Bool) (stamp : Nat) (s : State) : State :=
  s.setFiLevel fi (level != (s.fieldIn fi).invert) (s.fldTime stamp)

/-- FI_LEVEL_ACCEPT (R690): a level that has held for FILTER_US since its first sample at `stamp`, stamped by FLD's copy of module
time; an INVALID input's value is frozen (R685, R691). -/
def execFiLevelAccept (t fi : Nat) (level : Bool) (stamp : Nat) (s : State) : Out :=
  valid (fi < 32) <| event t s (whenFiLevelAccept t fi level stamp) (doneFiLevelAccept t fi level stamp)

/-- When FI_CHANGE_MESSAGE has its effect. -/
def whenFiChangeMessage (t : Nat) (s : State) : Bool :=
  s.unitUp uFi && t % ms == 0 && s.fieldIo.changes != []

/-- Effect of FI_CHANGE_MESSAGE. -/
def doneFiChangeMessage (_t : Nat) (s : State) : State :=
  let l := s.fieldIo.changes
  (s.modField fun x => { x with changes := [] }).present uFi 1 { time := s.fldTime s.time, marks := 0, body := l.flatten }

/-- FI_CHANGE_MESSAGE, at the end of a 1 ms tick (R692). -/
def execFiChangeMessage (t : Nat) (s : State) : Out :=
  event t s (whenFiChangeMessage t) (doneFiChangeMessage t)

/-- When WIRE_BREAK_DETECT has its effect. -/
def whenWireBreakDetect (_t fi currentUa : Nat) (s : State) : Bool :=
  s.unitUp uFi && (s.fieldIn fi).breakOn && !(s.fieldIn fi).broken && !s.fieldIo.low && !s.fieldIo.lost &&
      (s.fieldIn fi).level == (s.fieldIn fi).invert && decide (currentUa < 150)

/-- Effect of WIRE_BREAK_DETECT. -/
def doneWireBreakDetect (_t fi currentUa : Nat) (s : State) : State :=
  s.setBreak fi true currentUa

/-- WIRE_BREAK_DETECT (R691): while the input reads 0, before INVERT. -/
def execWireBreakDetect (t fi currentUa : Nat) (s : State) : Out :=
  valid (fi < 32) <| event t s (whenWireBreakDetect t fi currentUa) (doneWireBreakDetect t fi currentUa)

/-- When WIRE_BREAK_CLEAR has its effect. -/
def whenWireBreakClear (_t fi currentUa : Nat) (s : State) : Bool :=
  s.unitUp uFi && (s.fieldIn fi).broken && !s.fieldIo.low && !s.fieldIo.lost && decide (300 ≤ currentUa)

/-- Effect of WIRE_BREAK_CLEAR. -/
def doneWireBreakClear (_t fi currentUa : Nat) (s : State) : State :=
  s.setBreak fi false currentUa

/-- WIRE_BREAK_CLEAR (R691). -/
def execWireBreakClear (t fi currentUa : Nat) (s : State) : Out :=
  valid (fi < 32) <| event t s (whenWireBreakClear t fi currentUa) (doneWireBreakClear t fi currentUa)

/-! ### Field outputs -/

/-- When FO_SHORT has its effect. -/
def whenFoShort (_t fo currentMa : Nat) (s : State) : Bool :=
  (s.fo fo).on && decide (1200 ≤ currentMa)

/-- Effect of FO_SHORT. -/
def doneFoShort (_t fo currentMa : Nat) (s : State) : State :=
  s.foLatch fo 1 currentMa

/-- FO_SHORT (R693). -/
def execFoShort (t fo currentMa : Nat) (s : State) : Out :=
  valid (fo < 16) <| event t s (whenFoShort t fo currentMa) (doneFoShort t fo currentMa)

/-- When FO_OVERTEMP has its effect. -/
def whenFoOvertemp (_t _fo : Nat) (_junction : Int) (_currentMa : Nat) (s : State) : Bool :=
  s.fieldRuns

/-- Effect of FO_OVERTEMP. -/
def doneFoOvertemp (_t fo : Nat) (junction : Int) (currentMa : Nat) (s : State) : State :=
  let s := s.modFo fo fun x => { x with hot := decide (1450 < junction) }
  if 1700 ≤ junction && (s.fo fo).fault == 0 then s.foLatch fo 2 currentMa else s

/-- FO_OVERTEMP (R693): a junction reading in 0.1 °C. -/
def execFoOvertemp (t fo : Nat) (junction : Int) (currentMa : Nat) (s : State) : Out :=
  valid (fo < 16) <| event t s (whenFoOvertemp t fo junction currentMa) (doneFoOvertemp t fo junction currentMa)

/-- When FO_OPEN_LOAD has its effect. -/
def whenFoOpenLoad (_t fo _currentMa : Nat) (s : State) : Bool :=
  (s.fo fo).on

/-- Effect of FO_OPEN_LOAD. -/
def doneFoOpenLoad (_t fo currentMa : Nat) (s : State) : State :=
  let x := s.fo fo
  let s := s.modFo fo fun x => { x with ma := currentMa }
  if !x.openDiag then s
  else if !x.openLoad && currentMa < 5 then (s.modFo fo fun x => { x with openLoad := true }).tellFo fo 4 currentMa
  else if x.openLoad && 10 ≤ currentMa then (s.modFo fo fun x => { x with openLoad := false }).tellFo fo 5 currentMa
  else s

/-- FO_OPEN_LOAD: a current that has stood for 50 ms (R694, R703); it flags OPEN_LOAD where OPEN_DIAG is set. -/
def execFoOpenLoad (t fo currentMa : Nat) (s : State) : Out :=
  valid (fo < 16) <| event t s (whenFoOpenLoad t fo currentMa) (doneFoOpenLoad t fo currentMa)

/-! ### Sensor inputs and supplies -/

/-- Mean of the conversions, rounded to nearest (R698; assumption 46). -/
def meanOf (l : List Int) : Int := if l = [] then 0 else divRound l.sum l.length

/-- The value of input `n` in a converting mode (R698): with RATIO, a VOLTAGE value is scaled by 5,000 mV ÷ the supply; a
supply that measures 0 V gives a free value (assumption 3). -/
def State.siMean (s : State) (x : SensorIn) (supplyMv : Nat) : Int × State :=
  let m := meanOf x.conv
  if x.mode = 1 && x.ratio then
    if supplyMv = 0 then ((s.free 32).1.toInt, (s.free 32).2) else (sat32 (divRound (m * 5000) supplyMv), s)
  else (m, s)

/-- LOW for a conversion `v` (R699): a CURRENT input below 3.0 mA for 100 ms, a RESISTANCE input above its range. -/
def SensorIn.lowNow (x : SensorIn) (v : Int) (t : Nat) : Bool :=
  match x.mode with
  | 2 => x.lowSince.any fun u => decide (u + 100 * ms ≤ t)
  | 3 => decide ((x.top).getD 0 < v)
  | _ => false

/-- When SI_CONVERSION has its effect. -/
def whenSiConversion (_t si : Nat) (_raw : Int) (_supplyMv : Nat) (s : State) : Bool :=
  s.unitUp uSensor && (s.sensorIn si).mode != 0

/-- Effect of SI_CONVERSION. -/
def doneSiConversion (t si : Nat) (raw : Int) (supplyMv : Nat) (s : State) : State :=
  let x := s.sensorIn si
  let s := if x.supply < 4 && (s.sup5 x.supply).fault.isNone then s.modSup5 x.supply fun y => { y with mv := supplyMv } else s
  let v : Int := match x.mode with
    | 4 => if raw ≤ 0 || (10 * sec : Int) < raw then 0 else divNear 1000000000000 raw.toNat
    | 5 => 10 * ((x.hitTimes.filter fun h => decide (t < h + 100 * ms)).length : Int)
    | _ => raw
  let averaged := x.mode == 1 || x.mode == 2 || x.mode == 3
  let low := if x.mode = 2 && v < 3000 then some ((x.lowSince).getD t) else none
  let out := if x.mode = 2 && 30000 < v && x.shuntOut.isNone then some t else x.shuntOut
  let x := { x with conv := if averaged then (v :: x.conv).take x.avg else [], lowSince := low, shuntOut := out }
  let (value, s) := if averaged then s.siMean x supplyMv else (v, s)
  let fresh := !(x.supply < 4 && (s.sup5 x.supply).fault.isSome)
  let s := s.modSi si fun _ => { x with value := value, sample := if fresh then t else x.sample }
  s.setSiFlags si ((x.top).any fun top => decide (105 * top < 100 * v)) (x.lowNow v t)

/-- SI_CONVERSION (R697–R701): `raw` is the conversion in the mode's units, in FREQUENCY mode the last complete period in ns
(assumption 46). An input whose SUPPLY is in FAULT keeps its sample time (R701). -/
def execSiConversion (t si : Nat) (raw : Int) (supplyMv : Nat) (s : State) : Out :=
  valid (si < 16) <| event t s (whenSiConversion t si raw supplyMv) (doneSiConversion t si raw supplyMv)

/-- When SHUNT_REENABLE has its effect. -/
def whenShuntReenable (t si : Nat) (s : State) : Bool :=
  (s.sensorIn si).shuntOut.any fun u => decide (u + sec ≤ t)

/-- Effect of SHUNT_REENABLE. -/
def doneShuntReenable (_t si : Nat) (s : State) : State :=
  s.modSi si fun x => { x with shuntOut := none }

/-- SHUNT_REENABLE (R699). -/
def execShuntReenable (t si : Nat) (s : State) : Out :=
  valid (si < 16) <| event t s (whenShuntReenable t si) (doneShuntReenable t si)

/-- When ACOUSTIC_HIT has its effect. -/
def whenAcousticHit (t si : Nat) (s : State) : Bool :=
  s.unitUp uSensor && (s.sensorIn si).mode == 5 &&
      ((s.sensorIn si).hitTimes.head?).all fun h => decide (h + (s.sensorIn si).deadUs * us ≤ t)

/-- Effect of ACOUSTIC_HIT. -/
def doneAcousticHit (t si : Nat) (s : State) : State :=
  s.modSi si fun x =>
    { x with hits := x.hits + 1, hitTimes := t :: x.hitTimes.filter fun h => decide (t < h + 30 * sec) }

/-- ACOUSTIC_HIT (R700): a crossing within DEAD_US of the last hit is ignored. -/
def execAcousticHit (t si : Nat) (s : State) : Out :=
  valid (si < 16) <| event t s (whenAcousticHit t si) (doneAcousticHit t si)

/-- When SUP5_FAULT has its effect. -/
def whenSup5Fault (_t sup milliamps : Nat) (s : State) : Bool :=
  s.unitUp uSensor && (s.sup5 sup).fault.isNone && decide (150 ≤ milliamps)

/-- Effect of SUP5_FAULT. -/
def doneSup5Fault (t sup _milliamps : Nat) (s : State) : State :=
  let (v, s) := s.free 32
  let s := (s.modSup5 sup fun _ => { fault := some t, mv := 0, ma := 0 }).count uSensor 18
  s.tellSi (0x10 + sup) 3 v.toInt

/-- SUP5_FAULT (R701); VALUE of a supply's event is open, a free value (assumption 3). -/
def execSup5Fault (t sup milliamps : Nat) (s : State) : Out :=
  valid (sup < 4) <| event t s (whenSup5Fault t sup milliamps) (doneSup5Fault t sup milliamps)

/-- When SUP5_RETRY has its effect. -/
def whenSup5Retry (t sup _mv _milliamps : Nat) (s : State) : Bool :=
  s.unitUp uSensor && (s.sup5 sup).fault.any fun u => decide (u + sec ≤ t)

/-- Effect of SUP5_RETRY. -/
def doneSup5Retry (t sup mv milliamps : Nat) (s : State) : State :=
  if 150 ≤ milliamps then s.modSup5 sup fun x => { x with fault := some t }
  else
    let (v, s) := s.free 32
    (s.modSup5 sup fun _ => { fault := none, mv := mv, ma := milliamps }).tellSi (0x10 + sup) 4 v.toInt

/-- SUP5_RETRY (R701): a retry that meets the limit again leaves FAULT set. -/
def execSup5Retry (t sup mv milliamps : Nat) (s : State) : Out :=
  valid (sup < 4) <| event t s (whenSup5Retry t sup mv milliamps) (doneSup5Retry t sup mv milliamps)

/-! ### The family -/

/-- Refusals of FI_CONFIG. -/
def checksFiConfig (r : Request) (_s : State) : List (Bool × Status) :=
  let n := r.u 0 1
  [(n > 31 || !(r.u 1 1 == 1 || r.u 1 1 == 3) || r.u 2 1 > 3 || !r.zero 3 1 || r.u 4 2 > 50000 ||
      r.u 4 2 % 50 != 0 || !r.zero 6 2, .badParam)]

/-- Effect of FI_CONFIG. -/
def doneFiConfig (r : Request) (s : State) : State :=
  let n := r.u 0 1
  let x := s.fieldIn n
  let s := s.modFi n fun x =>
    { x with type := r.u 1 1, breakOn := bit (r.u 2 1) 0, invert := bit (r.u 2 1) 1, filterUs := r.u 4 2 }
  let s := if x.invert == bit (r.u 2 1) 1 then s else s.setFiLevel n (!x.level) (s.fldTime s.time)
  let s := if x.broken && !bit (r.u 2 1) 0 then
      let (v, s) := s.free 16
      s.setBreak n false v.toNat
    else s
  answer opFiConfig uFi r [] s

/-- FI_CONFIG (R703): INVERT reverses the reported level (R690), and an input whose check is switched off leaves wire break
(R691); its current then is open, a free value. -/
def execFiConfig (r : Request) (s : State) : Out :=
  serve opFiConfig uFi r s (checksFiConfig r) (doneFiConfig r)

/-- Refusals of FO_CONFIG. -/
def checksFoConfig (r : Request) (_s : State) : List (Bool × Status) :=
  [(r.u 0 1 > 15 || r.u 1 1 > 3 || !r.zero 2 2, .badParam)]

/-- Effect of FO_CONFIG. -/
def doneFoConfig (r : Request) (s : State) : State :=
  answer opFoConfig uFo r []
    (s.modFo (r.u 0 1) fun x => { x with restore := bit (r.u 1 1) 0, openDiag := bit (r.u 1 1) 1 })

/-- FO_CONFIG (R703). -/
def execFoConfig (r : Request) (s : State) : Out :=
  serve opFoConfig uFo r s (checksFoConfig r) (doneFoConfig r)

/-- A loop that is CLOSED or TUNING reads sensor input `n` (R703). -/
def State.siRead (s : State) (n : Nat) : Bool :=
  s.control.loops.entries.any fun e => (e.2.state == .closed || e.2.state == .tuning) &&
    [8, 24, 40].any fun off => e.2.u off 1 == 1 && e.2.u (off + 1) 1 == n

/-- SI_CONFIG lies outside R697 or R703. -/
def siConfigBad (r : Request) : Bool :=
  let m := r.u 1 1
  let sup := r.u 3 1
  r.u 0 1 > 15 || m > 5 || (m == 5 && r.u 0 1 > 3) || (m == 1 && r.u 2 1 > 2) || ((m == 2 || m == 4) && r.u 2 1 != 0) ||
    (m == 3 && r.u 2 1 > 1) || !(sup ≤ 3 || sup == 0xFF) || r.u 4 1 > 1 || (bit (r.u 4 1) 0 && sup == 0xFF) ||
    !inRange (r.u 5 1) 1 64 || !inRange (r.u 6 2) 500 20000 || !inRange (r.u 8 2) 5 2000 || !inRange (r.u 10 2) 50 5000 ||
    !r.zero 12 4

/-- Refusals of SI_CONFIG. -/
def checksSiConfig (r : Request) (s : State) : List (Bool × Status) :=
  let n := r.u 0 1
  [(decide (n < 16) && (s.sensorIn n).mode != r.u 1 1 && s.siRead n, .busyId), (siConfigBad r, .badParam)]

/-- Effect of SI_CONFIG. -/
def doneSiConfig (r : Request) (s : State) : State :=
  let n := r.u 0 1
  let s := s.modSi n fun x =>
    { x with mode := r.u 1 1, range := r.u 2 1, supply := r.u 3 1, ratio := bit (r.u 4 1) 0, avg := r.u 5 1,
             freqThresh := r.u 6 2, hitThresh := r.u 8 2, deadUs := r.u 10 2, conv := [], lowSince := none,
             shuntOut := none, value := if r.u 1 1 = 0 then 0 else x.value }
  answer opSiConfig uSensor r [] (if r.u 1 1 = 0 then s.setSiFlags n false false else s)

/-- SI_CONFIG (R703): the conversions begin anew; an input set OFF reads 0 without flags (R697). -/
def execSiConfig (r : Request) (s : State) : Out :=
  serve opSiConfig uSensor r s (checksSiConfig r) (doneSiConfig r)

/-- Modes that accept any FO_SET entry (R695). -/
def foModes : List Mode := [.parked, .road, .fieldReady, .working, .headland, .limp]

/-- The refusals of one FO_SET entry (R686, R703). -/
def State.foEntryChecks (s : State) (r : Request) (i : Nat) : List (Bool × Status) :=
  let n := r.u (8 + 4 * i) 1
  let a := r.u (9 + 4 * i) 1
  let twice := (List.range i).any fun j => r.u (8 + 4 * j) 1 == n
  [(n > 15 || a > 1 || !r.zero (10 + 4 * i) 2 || twice, .badParam),
   (decide (n ≤ 15) && a == 1 && ((s.fo n).fault != 0 || s.fieldIo.lost), .hwFault)]

/-- COMMISSION and SERVICE take one entry, and only while no other output is on (R695); one commanded on counts as on. -/
def State.foAlone (s : State) (r : Request) : Bool :=
  r.u 4 1 == 1 && (List.range 16).all fun n => n == r.u 8 1 || !((s.fo n).on || (s.fo n).cmd)

/-- One FO_SET entry takes effect (R695). -/
def State.foEntry (s : State) (n a : Nat) : State :=
  if a = 1 then (s.modFo n fun x => { x with cmd := true }).foOn n else s.foOff n

/-- Refusals of FO_SET. -/
def checksFoSet (r : Request) (s : State) : List (Bool × Status) :=
  let k := r.u 4 1
  let m := s.mode.mode
  let one := m == .commission || m == .service
  [(!(foModes.contains m || one), .wrongMode), (one && !s.foAlone r, .busyId),
   (!inRange k 1 16 || !r.zero 5 3 || r.len != 8 + 4 * k, .badParam)]

/-- Refusals of the entries of FO_SET. -/
def entriesFoSet (r : Request) (s : State) : List (List (Bool × Status)) :=
  let k := r.u 4 1
  (List.range k).map (s.foEntryChecks r)

/-- Effect of FO_SET. -/
def doneFoSet (r : Request) (s : State) : State :=
  let k := r.u 4 1
  answer opFoSet uFo r []
    ((List.range k).foldl (fun s i => s.foEntry (r.u (8 + 4 * i) 1) (r.u (9 + 4 * i) 1)) s)

/-- FO_SET (R686, R695, R703). -/
def execFoSet (r : Request) (s : State) : Out :=
  serveEntries opFoSet uFo r s true (checksFoSet r) (entriesFoSet r) (doneFoSet r)

/-- Refusals of FO_CLEAR. -/
def checksFoClear (r : Request) (s : State) : List (Bool × Status) :=
  let n := r.u 0 1
  [(n > 15 || !r.zero 1 3, .badParam), (decide (n ≤ 15) && (s.fo n).hot, .hwFault)]

/-- Effect of FO_CLEAR. -/
def doneFoClear (r : Request) (s : State) : State :=
  let n := r.u 0 1
  let x := s.fo n
  answer opFoClear uFo r []
    (if x.fault = 0 then s else (s.modFo n fun x => { x with fault := 0 }).tellFo n 3 x.ma)

/-- FO_CLEAR (R693, R703). -/
def execFoClear (r : Request) (s : State) : Out :=
  serve opFoClear uFo r s (checksFoClear r) (doneFoClear r)

/-- Bits of the field inputs. -/
def fiBits (f : Nat → Bool) : List Byte := le 4 (bitsOf ((List.range 32).map f))

/-- Bits of the field outputs. -/
def State.foBits (s : State) (f : FieldOut → Bool) : List Byte := le 2 (bitsOf ((List.range 16).map fun n => f (s.fo n)))

/-- Effect of FIELD_STATUS. -/
def doneFieldStatus (r : Request) (s : State) : State :=
  answer opFieldStatus (supervisorOf islFld) r
    (le 8 s.time ++ le 2 (satNat 65535 s.fieldIo.fsupMv) ++ le 1 (flag s.fieldIo.low + 2 * flag s.fieldIo.lost) ++ le 1 0 ++
      fiBits (fun n => (s.fieldIn n).level) ++ fiBits s.fiInvalid ++ fiBits (fun n => (s.fieldIn n).broken) ++
      s.foBits (·.cmd) ++ s.foBits (·.on) ++ s.foBits (·.fault != 0) ++ s.foBits (·.openLoad) ++
      (List.range 16).flatMap fun n => le 2 (satNat 65535 (s.fo n).ma)) s

/-- FIELD_STATUS (R703): the island supervisor answers for the three units. -/
def execFieldStatus (r : Request) (s : State) : Out :=
  serve opFieldStatus (supervisorOf islFld) r s (fun _ => []) (doneFieldStatus r)

/-- SI_STATUS record of input `n` (R703): stale when its sample is older than one loop tick. -/
def State.siRecord (s : State) (n : Nat) : List Byte :=
  let x := s.sensorIn n
  leInt 4 (sat32 x.value) ++
    le 1 (bitsOf [x.overRange, x.low, x.supply < 4 && (s.sup5 x.supply).fault.isSome,
      x.mode != 0 && decide (x.sample + tickNs < s.time)]) ++ le 3 0

/-- STATE of a sensor supply (R701, R703): on while CTL runs in Run or Ready. -/
def State.sup5State (s : State) (k : Nat) : Nat :=
  if (s.sup5 k).fault.isSome then 1 else if s.inReset islCtl || 1 < s.power.rung then 2 else 0

/-- Effect of SI_STATUS. -/
def doneSiStatus (r : Request) (s : State) : State :=
  answer opSiStatus uSensor r
    (le 8 s.time ++ (List.range 16).flatMap s.siRecord ++
      ((List.range 4).flatMap fun k => le 2 (satNat 65535 (s.sup5 k).mv) ++ le 1 (satNat 255 (s.sup5 k).ma) ++ le 1 (s.sup5State k)) ++
      (List.range 4).flatMap fun n => le 4 (s.sensorIn n).hits.toNat) s

/-- SI_STATUS (R703). -/
def execSiStatus (r : Request) (s : State) : Out :=
  serve opSiStatus uSensor r s (fun _ => []) (doneSiStatus r)

end Sys2Proof.Machine
end

