-- ==== Sys2Proof/Machine/RungOps.lean ====
section
/-! DEFINITION. The rung ladder: its conditions, entry and exit, and the wake sources (03, 06). -/

namespace Sys2Proof.Machine

/-! ### Conditions (R116) -/

/-- Every switch channel is off. -/
def State.switchesOff (s : State) : Bool := s.stage.chans.entries.all fun e => !e.2.cmdOn && e.2.phase == .off

/-- FO0–FO15 are off. -/
def State.fieldsOff (s : State) : Bool := (List.range 16).all fun n => !(s.fo n).on && !(s.fo n).deferred

/-- SAFE_OUT0–SAFE_OUT3 are off. -/
def State.safesOff (s : State) : Bool := (List.range 4).all fun n => !(s.safety.out n).on

/-- No camera port is enabled. -/
def State.camerasOff (s : State) : Bool := s.vision.cams.entries.all fun e => !e.2.on

/-- A keep-awake hold is active (R118, R214). -/
def State.keptAwake (s : State) : Bool := s.hub.chans.entries.any fun e => e.2.keepAwake.any fun t => decide (s.time < t)

/-- Cause of R116 of the first condition unmet for a target; none when every one holds. -/
def State.rungUnmet (s : State) (w : RungWait) : Option Nat :=
  let checks : List (Nat × Nat × Bool) := [
    (1, 2, s.switchesOff),
    (2, 2, s.fieldsOff),
    (3, 2, s.safesOff),
    (4, 2, s.sections.edges.isEmpty),
    (5, 2, s.camerasOff),
    (6, 2, s.display.active.isEmpty && s.display.queued.isEmpty),
    (7, 2, s.mode.mode == .parked),
    (8, 5, !s.power.ign),
    (9, 1, !s.keptAwake),
    (10, 7, w.shelfConfirm),
    (13, 2, s.power.crank.isNone)]
  (checks.find? fun c => decide (c.2.1 ≤ w.target) && !c.2.2).map (·.1)

/-- RUNG_REFUSED to the requester (R117, R212). An automatic descent raises none (R119). -/
def State.rungRefused (s : State) (w : RungWait) (cause : Nat) : State :=
  match w.req with
  | some q => s.complete uPower 0x0206 (le 1 w.target ++ le 1 cause ++ le 2 0) q false true
  | none => s

/-- The moments of R119 from which the descent delays count: a delay runs with IGN low, the mode PARKED and no keep-awake
hold. -/
def State.countDescent (s : State) : State :=
  s.modPower fun p =>
    { p with descentFrom := if p.ign || s.mode.mode != .parked || s.keptAwake then none else some s.time }

/-! ### Placements across a rung (R107, R108, R258, R259) -/

/-- One NEAR tile. -/
def tileBytes : Nat := 4 * 2 ^ 20

/-- Tier that holds a placement: the faster of its home and its pin. -/
def Placement.holder (p : Placement) : Nat := if p.pin = 0 then p.home else min p.home p.pin

/-- Retention order: descending PRIORITY, then ascending size. -/
def retainBefore (a b : Nat × Placement) : Bool := b.2.prio < a.2.prio || (a.2.prio == b.2.prio && a.2.size ≤ b.2.size)

/-- Insert a candidate in its place. -/
def insertRetain (x : Nat × Placement) : List (Nat × Placement) → List (Nat × Placement)
  | [] => [x]
  | y :: ys => if retainBefore x y then x :: y :: ys else y :: insertRetain x ys

/-- Placements kept in `tiles` NEAR tiles in Resting, and the bytes they take. -/
def State.retained (s : State) (tiles : Nat) : List Nat × Nat :=
  let l := (s.place.places.entries.filter fun e => bit e.2.flags 0 && e.2.holder == 1).foldr insertRetain []
  l.foldl (fun (a : List Nat × Nat) e =>
    if a.2 + e.2.size ≤ tiles * tileBytes then (a.1 ++ [e.1], a.2 + e.2.size) else a) ([], 0)

/-- Tiers lost at a rung: none, NEAR, or NEAR and FAR (R107). -/
def lostTier (r : Nat) : Nat := if 4 ≤ r then 2 else if r = 3 then 1 else 0

/-- Before a rung that loses a tier, every DURABLE write-back is completed, and for Dormant and below every shadow is brought up to
date (R258). -/
def State.flushAtRung (s : State) (r : Nat) : State :=
  let s := s.place.places.entries.foldl (fun s e => if e.2.dur == 2 then s.flushPlacement e.1 else s) s
  let f := fun (_ : Nat) (p : Placement) => if p.dur == 1 && 4 ≤ r then { p with dirty := Bank.empty } else p
  s.modPlace fun q => { q with places := q.places.mapAll f }

/-- Where the chunks of a RUNG placement stand in a rung that loses its home: in FAR in Resting, in the shadow below (R258). -/
def Placement.leftAt (p : Placement) (r : Nat) : Bank Nat :=
  ⟨(List.range p.chunkCount).map fun c => (c, if r = 3 then (p.unrestored.find c).getD 2 else 4)⟩

/-- What a rung does to one placement whose content is kept: copies are dropped but for a pin in a tier that stays, a RUNG placement
leaves a home that is lost, and views end with APP's software (R258, R261). -/
def Placement.atRung (p : Placement) (r : Nat) (kept boot : Bool) : Placement :=
  let last := lostTier r
  let stays := fun (c : Chunk) => p.pin != 0 && c.tier == p.pin && (last < p.pin || kept)
  let leaves := p.dur == 1 && decide (p.home ≤ last) && !kept
  { p with chunks := p.chunks.mapAll fun _ c => if stays c then c else { c with tier := 0 },
           unrestored := if leaves then p.leftAt r else p.unrestored,
           moves := if leaves && r == 3 then p.moves + BitVec.ofNat 32 p.chunkCount else p.moves,
           views := if boot then p.views else [] }

/-- What a rung does to the placements: VOLATILE content of a lost tier is lost, which is told at the exit (R258, R259). -/
def State.placesAtRung (s : State) (r : Nat) (kept : List Nat) : State :=
  let gone := fun (e : Nat × Placement) => e.2.dur == 0 && decide (e.2.holder ≤ lostTier r) && !kept.contains e.1
  let lost := s.place.places.entries.filter gone
  let s := lost.foldl (fun s e => (s.modelGone e.1).dropPlacement e.1) s
  s.modPlace fun q =>
    { q with places := q.places.mapAll fun h p => p.atRung r (kept.contains h) (h == q.bootView), moving := [],
             bootView := if lost.any (fun e => e.1 == q.bootView) then 0 else q.bootView,
             owed := q.owed ++ lost.map fun e => (0x0402, lostFields e.1 e.2 1) }

/-- The exit from a rung tells of the placements lost, and pinned placements regain their pins (R259). -/
def State.placesAtExit (s : State) : State :=
  let owed := s.place.owed
  let s := s.modPlace fun q => { q with owed := [] }
  let s := owed.foldl (fun s e => s.raise uPlacement e.1 e.2) s
  (s.place.places.keys.foldl State.settlePin s).pressures

/-! ### Entry (R122) -/

/-- What every rung does to the running units: inference and map-merge jobs end (R264), the panel discharges once no update is active (R715, R723), ANT_B's bias goes off (R105). -/
def State.quietRung (s : State) : State :=
  let s := ((s.endJobs 2).mergesLost .wrongMode).pressures
  let s := if 0 < s.display.rails && s.display.active.isEmpty then s.startDischarge.tellPanel 5 0xFF else s
  s.setBias 1 0 0

/-- The ports of the switch at the entry to Poised or lower: an enabled port with TC10 wake sleeps and keeps its wake detection
down to Resting, every other one is off; gates stand still until the port links again (R112, R658, R666). -/
def State.portsSleep (s : State) (target : Nat) : State :=
  let hold := fun (p : EthPort) => { p with gateHold := p.gates.map fun _ => unlinked }
  let sleeps := fun (n : Nat) => target ≤ 3 && n < 5 && bit s.power.wake.sources 4 && bit s.power.wake.tc10 n && s.ethFlag n 0
  (List.range 9).foldl (fun s n => (s.setLink n (if sleeps n then 3 else 0) 0 2).modEthPort n hold) s

/-- No port keeps its wake detection below Resting (R112). -/
def State.portsOff (s : State) : State :=
  s.modEth fun e => { e with ports := e.ports.mapAll fun _ p => { p with link := 0 } }

/-- Ports whose TC10 wake-up request ended the rung (R658). -/
def State.portsWoke (s : State) (tc10 : Nat) : State :=
  (List.range 5).foldl (fun s n => if bit tc10 n then s.modEthPort n fun p => { p with woke := true } else s) s

/-- What Poised and below do: buses stop (R618), ports go off (R656), the antenna bias and the front light go off (R494, R728), and
the jack-in-the-box no longer runs (R105). -/
def State.quietPoised (s : State) (target : Nat) : State :=
  let s := (List.range 12).foldl (fun s n => s.busHalt n 3) s
  let s := s.portsSleep target
  let s := (s.setBias 0 0 0).modDisplay fun d => { d with flOn := false, flLevel := 0 }
  s.modMode fun m => { m with lastBeat := none }

/-- Islands that lose their power from Resting on: all but AON (R105). -/
def poweredDown : List Nat := (List.range 12).filter (· != islAon)

/-- An island is powered down: it is in reset, its units wait behind the fence for their restart (R111), and its counters return to
0 (R20). -/
def State.powerDown (s : State) (i : Nat) : State :=
  let s := s.modIsland i fun x => { x with released := false, resets := x.resets + 1 }
  let fence := fun (u : Nat) => ({ unit := u, cause := 0, since := s.time, commit := none, long := false, late := false } : Fence)
  let new := (unitsOf i).filter fun u => !s.fenced u
  let s := s.modMode fun m => m.clearCounters i
  let s := s.modMode fun m => { m with fences := m.fences ++ if i = islSup then [] else new.map fence }
  -- the module supervisor tells of the fences as of those of an island reset; the hub is absent, and they are held (R149, R822)
  let s := if i = islSup then s
    else new.foldl (fun s u => s.raise moduleSupervisor 0x0305 (le 2 u ++ le 1 4 ++ le 1 0)) s
  s.modLedger (·.unitsReset i)

/-- Content lost from Resting on (R105, R107, R300): every island's volatile state. -/
def State.loseContent (s : State) : State :=
  let s := s.endpointsAbsent (fun e => !e.ring && !e.peer) 4
  let s := if s.fabric.link.phase == .up || s.fabric.link.phase == .retraining then s.linkDown .down 0 else s
  let s := s.poolLost.navReset.netReset.safReset.infReset
  let s := ((s.modControl (·.afterStop)).modStage (·.afterStop)).modFunctions (·.afterStop)
  let s := ((s.modField (·.afterStop)).modVision (·.afterStop)).modSections (·.afterStop)
  (s.displayOff.disReset).modHub fun h => { h with sessions := Bank.empty, serving := false, phase := .rom }

/-- Body of a RUNG record (R823). -/
def rungBody (r tiles : Nat) (req : Option Requester) (t : Nat) : List Byte :=
  le 1 r ++ le 1 tiles ++ le 1 ((req.map (·.ch)).getD 0xFF) ++ le 1 0 ++ le 4 ((req.map (·.tag.toNat)).getD 0) ++ le 8 t ++ le 16 0

/-- The held TAG of a request moves under a ledger record. -/
def State.holdUnder (s : State) (q : Requester) (id : Nat) : State :=
  s.modChan q.ch fun c => { c with held := mapIf (· == q) (fun q => { q with record := id }) c.held }

/-- Entry to Resting or below: the hub is absent, RUNG_ENTERED goes into the ledger (R122, R213). -/
def State.enterDeep (s : State) (w : RungWait) : State :=
  let s := s.flushAtRung w.target
  let kept := if w.target = 3 then s.retained w.retain else ([], 0)
  let tiles := (kept.2 + tileBytes - 1) / tileBytes
  let first := s.power.rung < 3
  let s := s.modPower fun p => { p with rung := w.target, entryTime := s.time, retained := tiles }
  let id := s.ledger.nextId
  let s := s.newRecord .rung .open 0xFF uLedger none 0 false (rungBody w.target tiles w.req s.time)
  let told := w.req.filter fun q => q.wanted && (s.chan q.ch).held.contains q
  let s := s.modRecord id fun x => { x with replied := true, path := (told.map (·.path)).getD .unbound }
  let s := match w.req with
    | some q => s.holdUnder q id
    | none => s
  let s := s.modHub fun h => { h with absent := true }
  let s := s.placesAtRung w.target kept.1
  let s := (if first then poweredDown.foldl (fun s i => s.powerDown i) s.loseContent else s).restStreams
  if 4 ≤ w.target then s.copyTheta.portsOff else s

/-- The entry of R122 is complete: the module is in the rung. -/
def State.enterRung (s : State) (w : RungWait) : State :=
  let s := s.modPower fun p => { p with wait := none, entering := none }
  let s := if s.power.rung = 0 then s.quietRung else s
  let s := if s.power.rung < 2 && 2 ≤ w.target then s.quietPoised w.target else s
  if 3 ≤ w.target then s.enterDeep w
  else
    let s := s.modPower fun p => { p with rung := w.target, entryTime := s.time, retained := 0 }
    let s := if w.target = 1 then s.trackReady else s
    s.settle uPower 0x0204 (le 1 w.target ++ le 1 0 ++ le 2 0) w.req true false

/-! ### Replay (R327, R331, R339) -/

/-- A replay begins: a completion of a journalled command waits for its LEDGER_RESULT. -/
def State.startReplay (s : State) (cause : Nat) : State :=
  let live := fun (x : Record) => x.kind == .command && (x.state == .open || x.state == .applied)
  s.modLedger fun l =>
    { l with replaying := true, passed := false, counts := (0, 0, 0), replayCause := cause, replayTime := s.time, redispatched := [],
             waiting := [], replayTo := l.nextId, records := mapIf live (fun x => { x with replied := false }) l.records }

/-! ### Exit (R106, R111, R114) -/

/-- RUNG_ENTERED of an OPEN RUNG record is delivered after exit, or at the replay of a start (R328): to its requester, whose TAG a
module reset has released, and to the subscribers of the Power family (R122, R213). -/
def State.redeliverRung (s : State) (x : Record) : State :=
  let fields := le 1 (field x.body 0 1) ++ le 1 (field x.body 1 1) ++ le 2 0
  let e := { s.eventOf uPower 0x0204 fields [0x02] with time := field x.body 8 8 }
  let s := s.setRecord x.id .applied 0
  let ch := field x.body 2 1
  if 64 ≤ ch then s.post e
  else match (s.chan ch).held.find? fun q => q.record == x.id with
    | some q => s.post { e with req := some q }
    | none =>
      if x.path == .unbound then s.post e
      else
        let q : Requester := { ch := ch, tag := BitVec.ofNat 32 (field x.body 4 4), wanted := true, record := x.id, path := x.path,
                               serial := s.serial }
        ((s.bumpSerial).hold q).post { e with req := some q }

/-- RUNG_EXITED (R221). -/
def rungExited (p : Power) (src tc10 can : Nat) : List Byte :=
  le 1 p.rung ++ le 1 tc10 ++ le 2 src ++ le 2 can ++ le 2 0 ++ le 8 p.entryTime

/-- Every liveness watch restarts from its full timeout (R208). -/
def State.restartWatches (s : State) : State :=
  let f := fun (_ : Nat) (c : Channel) => if c.watch.lostAt.isSome then c else { c with watch := c.watch.restart s.time }
  s.modHub fun h => { h with chans := h.chans.mapAll f }

/-- Thermal memory comes back from KEEP, as if no time had elapsed (R110). -/
def State.restoreTheta (s : State) : State :=
  s.modStage fun p =>
    let f := fun (_ : Nat) (x : Switch) => { x with theta := x.thetaKeep }
    { p with chans := p.chans.mapAll f }

/-- AON's time is lost: module time starts again from STOP_TIME, and the RTC is not trusted (R107, R530). -/
def State.timeLost (s : State) : State :=
  (s.modTimekeeper fun k => { k with lostTime := true, lastTime := none }).modBase fun b => { b with kept := { b.kept with rtcGood := false } }

/-- Run is reached from Ready or Poised. -/
def State.leaveShallow (s : State) (r src tc10 can : Nat) : State :=
  let fields := rungExited s.power src tc10 can
  let s := s.modPower fun p => { p with rung := 0 }
  let s :=
    if r = 1 then s.setBias 1 (if s.nav.base.cfg.antB = 0 then 0 else 1) (s.antenna 1).ma
    else
      let s := ((s.portsWoke tc10).busesStart 3).portsUp 2
      let s := s.navReset.navStart 2 1 [] none
      s.modMode fun m => { m with lastBeat := some s.time }
  s.raise uPower 0x0205 fields

/-- Run is reached from Resting or below: the hub serves again with its bindings (R204), what the ledger and the islands hold is
delivered (R122, R822), and every island starts again behind its fence (R111). -/
def State.leaveDeep (s : State) (r src tc10 can : Nat) : State :=
  let fields := rungExited s.power src tc10 can
  let s := s.modPower fun p => { p with rung := 0 }
  let s := if r = 7 then s.restoreTheta.timeLost else s
  let s := s.modIsland islSup fun x => { x with released := true }
  let s := (s.modHub fun h => { h.restart none with phase := .ready }).takeHeld
  let s := s.endpointsReturn (Endpoint.ofUnits (unitsOf islAon ++ unitsOf islSup))
  let s := (s.ledger.records.filter fun x => x.kind == .rung && x.state == .open).foldl (fun s x => s.redeliverRung x) s
  let s := s.raiseHeld uPower 0x0205 fields [0x02]
  let s := s.portsWoke tc10
  let s := (if s.place.bootView = 0 then s.createBootView else s).placesAtExit
  s.enableChannel0 true

/-- Run is reached (R106): watches and descent delays start again (R119, R208). -/
def State.leaveRung (s : State) (src tc10 can : Nat) : State :=
  let r := s.power.rung
  let s := s.modPower fun p => { p with backupSince := none, lastExit := if r = 0 then none else some (s.time, r) }
  let s := s.modHub fun h => { h with wakeDue := false }
  let s := if r = 0 then s else if r < 3 then s.leaveShallow r src tc10 can else s.leaveDeep r src tc10 can
  s.restartWatches.countDescent

/-- Deepest rung a wake source serves, by SOURCES bit (R112). -/
def wakeReach (src : Nat) : Nat := ([7, 5, 6, 4, 3, 6, 5, 2] : List Nat).getD src 0

/-- A wake source qualifies: it is enabled, and serves the rung the module is in or is entering (R112, R120). None does while the
supply is below 3.0 V and AON draws on its backup store: the spec is silent there (assumption 118). -/
def State.wakes (s : State) (src : Nat) : Bool :=
  s.power.life == .started && s.power.backupSince.isNone && bit s.power.wake.sources src &&
    (match s.power.entering with
     | some (w, _) => decide (w.target ≤ wakeReach src)
     | none => inRange s.power.rung 1 (wakeReach src))

/-- A source that qualifies together with the one that has just ended the rung, and serves that rung (R114). -/
def State.joinsExit (s : State) (src : Nat) : Bool :=
  s.power.life == .started && s.power.rung == 0 && bit s.power.wake.sources src &&
    s.power.lastExit.any fun x => x.1 == s.time && decide (x.2 ≤ wakeReach src)

/-- The fields of RUNG_EXITED with one more source (R114, R221). -/
def joinFields (l : List Byte) (src tc10 can : Nat) : List Byte :=
  le 1 (field l 0 1) ++ le 1 (field l 1 1 ||| tc10) ++ le 2 (field l 2 2 ||| src) ++ le 2 (field l 4 2 ||| can) ++ l.drop 6

/-- Another source of the exit that has just been made joins its RUNG_EXITED (R114). -/
def State.joinExit (s : State) (src tc10 can : Nat) : State :=
  let mine := fun (e : RaisedEvent) => e.code == 0x0205
  let f := fun (e : RaisedEvent) => { e with fields := joinFields e.fields src tc10 can }
  s.modHub fun h => { h with raised := mapIf mine f h.raised }

/-- A qualified wake (R112, R114, R120): an entry in progress is abandoned, and Run is reached in one transition; sources that
qualify at the same time are all reported (assumption 69). -/
def State.rungWake (s : State) (src tc10 can : Nat) : State :=
  if s.wakes src then
    let s := match s.power.entering with
      | some (w, _) => (s.modPower fun p => { p with entering := none, wait := none }).rungRefused w 0x0B
      | none => s
    s.leaveRung (2 ^ src) tc10 can
  else if s.joinsExit src then s.joinExit (2 ^ src) tc10 can
  else s

/-- A CH_STATUS flag that its CH_IRQ_EN enables has been set since `old`: it wakes the module as a doorbell does (R185). -/
def State.flagWake (s old : State) : State :=
  if s.power.rung = 0 && s.power.entering.isNone then s
  else if s.hub.chans.entries.any fun e => e.2.rose (old.chan e.1) then s.rungWake 7 0 0
  else s

end Sys2Proof.Machine
end

