-- ==== Sys2Proof/Machine/RegOps.lean ====
section
/-! DEFINITION. The hub window: who may write which register, and what each write does; the compatibility view; what the hub
fetches and checks (05). -/

namespace Sys2Proof.Machine

/-! ### Who may access the window (R150–R153, R187) -/

/-- The hub answers register accesses: the module runs and SUP is not resetting (R152). -/
def State.hubUp (s : State) : Bool := !s.hub.absent && s.power.life == .started

/-- The window can be reached from the application cores, and from PCIe while the endpoint is enabled (R150, R187). -/
def State.windowOpen (s : State) (src : Path) : Bool :=
  s.hubUp && (src == .app || (src == .pcie && s.hub.endpoint && !s.hub.perst))

/-- A write to a channel block from this path is not ignored (R153); the ROM serves channel 63 over PCIe as well (R790). -/
def State.ownPath (s : State) (src : Path) (ch : Nat) : Bool :=
  let p := (s.chan ch).path
  s.windowOpen src && (p == src || (p == .recovery && src == .pcie && s.hub.pcieStrap))

/-! ### CH_CTRL (R157–R159, R170) -/

/-- ENABLE may be set: sizes 4–8, and writable bases nonzero and 4,096-aligned (R158). -/
def Channel.enableOk (c : Channel) : Bool :=
  inRange c.reqLog2 4 8 && inRange c.rplLog2 4 8 && (c.path != .pcie || (baseOk c.reqBase && baseOk c.rplBase))

/-- Set ENABLE of a disabled channel, or RING_ERROR (R158, R159). -/
def State.tryEnable (s : State) (ch : Nat) : State :=
  if (s.chan ch).enableOk then (if (s.chan ch).path == .app then s.placeRings ch else s).enableChannel ch
  else s.modChan ch (·.setFlag stRingError)

/-- A write of CH_CTRL: RESET_CH acts alone (R170, R332); the sizes are taken while ENABLE is 0 (R158). Clearing ENABLE leaves
pointers, rings, subscriptions and what waits (assumption 113). -/
def State.ctrlWrite (s : State) (ch w : Nat) : State :=
  let c := s.chan ch
  if bit w 1 then (s.resetChannel ch stRestarted).dropOutcomes ch
  else if c.enable then s.setChan ch { c with enable := bit w 0 }
  else
    let s := s.setChan ch { c with reqLog2 := w / 16 % 16, rplLog2 := w / 256 % 16 }
    if bit w 0 then s.tryEnable ch else s

/-- A message that a connection or the view puts in the channel's request ring (R189, R190, R192). -/
def Channel.place (c : Channel) (m : Slot) : Channel := { c with inbox := c.inbox ++ [m], reqTail := c.reqTail + 1 }

/-! ### Pointers and flags (R164–R168, R181, R182, R184) -/

/-- A write of DOORBELL (R165, R187). -/
def State.doorbellWrite (s : State) (ch w : Nat) : State :=
  let c := s.chan ch
  let n := BitVec.ofNat 16 w
  if !c.enable || (c.path == .pcie && !s.hub.busMaster) || c.reqSize < (n - c.reqHead).toNat then
    s.modChan ch (·.setFlag stRingError)
  else s.setChan ch { c with reqTail := n }

/-- A write of RPL_HEAD (R168). -/
def Channel.returnSlots (c : Channel) (w : Nat) : Channel :=
  let n := BitVec.ofNat 16 w
  let k := (n - c.rplHead).toNat
  if k ≤ (c.rplTail - c.rplHead).toNat then { c with rplHead := n, ring := c.ring.drop k } else c.setFlag stRingError

/-- Hardware sets of CH_STATUS bits. -/
def Channel.setBits (c : Channel) (bits : Nat) : Channel :=
  (List.range 7).foldl (fun (c : Channel) n =>
    if bit bits n then { c with status := c.status ||| BitVec.ofNat 7 (2 ^ n), cnt := c.cnt.modify n (· + 1) } else c) c

/-- A write of CH_STATUS with hardware sets in the same cycle: the sets win (R182). On PCIe the message is sent again while the
AND is nonzero (R184). -/
def Channel.writeStatus (c : Channel) (w set : Nat) : Channel :=
  let new := Channel.setBits { c with status := c.status &&& ~~~(BitVec.ofNat 7 w) } set
  if new.path == .pcie then (if new.irqAnd then new.levelIrq.sendIrq else new.levelIrq)
  else Channel.refreshIrq c new

/-- A write of GLOBAL_STATUS with hardware sets in the same cycle (R163, R181, R182). -/
def Hub.writeGlobal (h : Hub) (w set : Nat) : Hub :=
  { h with restarted := bit set 0 || (h.restarted && !bit w 0), epochChanged := bit set 1 || (h.epochChanged && !bit w 1),
           cntRestart := if bit set 0 then h.cntRestart + 1 else h.cntRestart,
           cntEpoch := if bit set 1 then h.cntEpoch + 1 else h.cntEpoch }

/-- A write of C24_STAT with a hardware set of DONE in the same cycle (R191); ignored while the view is disabled. -/
def CompatView.writeStat (v : CompatView) (w set : Nat) : CompatView :=
  if v.enabled then
    { v with done := bit set 1 || (v.done && !bit w 1), doneCount := if bit set 1 then v.doneCount + 1 else v.doneCount }
  else v

/-- A write to a W1C register of the window, with the hardware sets of the same cycle, which no path gates (R153, R182). -/
def State.w1cWrite (s : State) (src : Path) (off w set : Nat) : State :=
  if off < 0x4000 && off % 256 = 4 then
    if s.ownPath src (off / 256) then s.modChan (off / 256) (·.writeStatus w set)
    else if s.hubUp && set != 0 then s.modChan (off / 256) fun c => c.refreshIrq (c.setBits set)
    else s
  else
    let w := if s.windowOpen src then w else 0
    if !s.hubUp then s
    else if off = 0x400C then s.modHub fun h => h.writeGlobal w set
    else if off = 0x8030 then s.modCompat fun v => v.writeStat w set
    else s

/-! ### The compatibility view (R191, R192) -/

/-- The request that the view's registers form (R192). -/
def CompatView.request (v : CompatView) : Slot :=
  let payload := (v.args.flatMap fun a => le 4 a.toNat).take v.len.toNat
  let m : Slot := { len := v.len.zeroExtend 16, family := v.family, op := v.op, flags := 1, status := 0, tag := v.tag, check := 0,
                    payload := payload }
  { m with check := Slot.computed m }

/-- GO (R192): one written while BUSY is 1 is ignored first, whatever LEN says (assumption 111). Channel 62 runs from its first
request (assumption 8). -/
def State.compatGo (s : State) : State :=
  let v := s.hub.compat
  if v.busy then s
  else if 32 < v.len.toNat then s.modCompat fun v => { v with err := true, rlen := 0, result := BitVec.ofNat 16 Status.badLength.code }
  else
    let s := s.modCompat fun v => { v with busy := true }
    let s := if (s.chan 62).enable then s else s.enableChannel 62
    s.modChan 62 (·.place v.request)

/-- A write of C24_CMD (R191, R192). -/
def State.compatCommand (s : State) (w : Nat) : State :=
  if s.hub.compat.enabled then
    let s := s.modCompat fun v => { v with family := BitVec.ofNat 8 (w / 256), op := BitVec.ofNat 8 w }
    if bit w 31 then s.compatGo else s
  else s

/-- A write to a register of the view, at an offset from 0x8000; ignored while the view is disabled (R191). -/
def State.compatWrite (s : State) (r : Nat) (w : U32) : State :=
  if !s.hub.compat.enabled then s
  else if r = 0x000 then s.compatCommand w.toNat
  else if r = 0x004 then s.modCompat fun v => { v with len := w.setWidth 6 }
  else if r = 0x008 then s.modCompat fun v => { v with tag := w }
  else if inRange r 0x010 0x02C then s.modCompat fun v => { v with args := v.args.set ((r - 0x010) / 4) w }
  else if r = 0x030 then s.modCompat fun v => v.writeStat w.toNat 0
  else s

/-! ### Any other write (R10, R151, R156, R163) -/

/-- Put a word in the low or the high half of a base register. -/
def setHalf (b : U64) (high : Bool) (w : U32) : U64 :=
  if high then (w ++ b.setWidth 32) else ((b >>> 32).setWidth 32 : U32) ++ w

/-- A write to a register of a channel block (R156): bases only on PCIE and while ENABLE is 0 (R158, R159). -/
def State.blockWrite (s : State) (ch r : Nat) (w : U32) : State :=
  let c := s.chan ch
  let v := w.toNat
  if r = 0x00 then s.ctrlWrite ch v
  else if r = 0x04 then s.setChan ch (c.writeStatus v 0)
  else if r = 0x08 then s.setChan ch (c.refreshIrq { c with irqEn := w &&& 0x7F })
  else if r = 0x0C then s.doorbellWrite ch v
  else if inRange r 0x10 0x1C then
    if c.path == .pcie && !c.enable then
      s.setChan ch (if r < 0x18 then { c with reqBase := setHalf c.reqBase (r == 0x14) w }
        else { c with rplBase := setHalf c.rplBase (r == 0x1C) w })
    else s
  else if r = 0x2C then s.setChan ch (c.returnSlots v)
  else if r = 0x30 then s.setChan ch { c with coalCount := v / 65536 % 256, coalTime := v % 65536 }
  else s

/-- The Mask bit of a channel's MSI-X vector is written: unmasking sends a message that waits (R186, assumption 110). -/
def Channel.setMask (c : Channel) (on : Bool) : Channel :=
  if !on && c.msiPending then { c with masked := false, msiPending := false, irqCount := c.irqCount + 1 } else { c with masked := on }

/-- A write of word `k` of the MSI-X table: every fourth word holds a vector's Mask bit (R186, assumption 110). -/
def State.msixWrite (s : State) (k : Nat) (w : U32) : State :=
  if k % 4 = 3 then s.modChan (k / 4) (·.setMask (w.getLsbD 0)) else s.modHub fun h => { h with msixTable := h.msixTable.put k w }

/-- A write of a word of PCIe configuration space (R186, R187): the command register and BAR0; every other register there is read
only (assumption 110). -/
def Hub.cfgWrite (h : Hub) (off : Nat) (w : U32) : Hub :=
  if off = 0x04 then { h with command := w.setWidth 16 }
  else if off = 0x10 then { h with bar0 := setHalf h.bar0 false (w &&& 0xFFFF0000) }
  else if off = 0x14 then { h with bar0 := setHalf h.bar0 true w }
  else h

/-- A write of a word at an offset of the window, from a path that reaches it; from 0x1_0000 on, an offset of PCIe configuration
space (assumption 110). -/
def State.windowWrite (s : State) (src : Path) (off : Nat) (w : U32) : State :=
  if off < 0x4000 then (if s.ownPath src (off / 256) then s.blockWrite (off / 256) (off % 256) w else s)
  else if off = 0x400C then s.modHub fun h => h.writeGlobal w.toNat 0
  else if inRange off 0x8000 0x8FFF then s.compatWrite (off - 0x8000) w
  else if inRange off 0xE000 0xE3FF && src == .pcie then s.msixWrite ((off - 0xE000) / 4) w
  else if 0x10000 ≤ off && src == .pcie then s.modHub fun h => h.cfgWrite (off - 0x10000) w
  else s

/-! ### Reads (R10, R151–R153, R156, R157, R161–R163, R186, R191) -/

/-- CH_CTRL as read (R157): RESET_CH reads 0. -/
def Channel.ctrlWord (c : Channel) : Nat := flag c.enable + 16 * c.reqLog2 + 256 * c.rplLog2 + 65536 * c.path.code

/-- A register of a channel block as read (R156): bases read 0 where they are not used (R159), DOORBELL and reserved offsets read
0. -/
def Channel.readReg (c : Channel) (r : Nat) : Nat :=
  let base := fun (b : U64) (high : Bool) =>
    if !c.ringed then 0 else if high then b.toNat / 2 ^ 32 else b.toNat % 2 ^ 32 / 4096 * 4096
  if r = 0x00 then c.ctrlWord
  else if r = 0x04 then c.status.toNat
  else if r = 0x08 then c.irqEn.toNat
  else if r = 0x10 then base c.reqBase false
  else if r = 0x14 then base c.reqBase true
  else if r = 0x18 then base c.rplBase false
  else if r = 0x1C then base c.rplBase true
  else if r = 0x20 then c.reqTail.toNat
  else if r = 0x24 then c.reqHead.toNat
  else if r = 0x28 then c.rplTail.toNat
  else if r = 0x2C then c.rplHead.toNat
  else if r = 0x30 then c.coalCount * 65536 + c.coalTime
  else if inRange r 0x40 0x58 then (c.cnt.getD ((r - 0x40) / 4) 0).toNat
  else if r = 0x5C then c.cntDiscard.toNat
  else 0

/-- HUB_STATE as read (R163). -/
def State.hubStateWord (s : State) : Nat :=
  s.hub.phase.code + 256 * s.mode.mode.code + 65536 * flag s.mode.converging

/-- CHAN_PATHk as read: 4 bits for each of its eight channels (R163). -/
def State.chanPathWord (s : State) (k : Nat) : Nat :=
  ((List.range 8).map fun j => (s.chan (8 * k + j)).path.code * 16 ^ j).sum

/-- A global register as read (R163). TIME_LO gives the SUP copy of module time; the latch is the effect of its own command. -/
def State.readGlobal (s : State) (r : Nat) : Nat :=
  if r = 0x00 then s.hub.version.toNat
  else if r = 0x04 then s.hubStateWord
  else if r = 0x08 then s.mode.epoch.toNat
  else if r = 0x0C then bitsOf [s.hub.restarted, s.hub.epochChanged]
  else if r = 0x10 then s.hub.cntRestart.toNat
  else if r = 0x14 then s.hub.cntEpoch.toNat
  else if r = 0x20 then s.copyTime islSup % 2 ^ 32
  else if r = 0x24 then s.hub.timeHi.toNat
  else if inRange r 0x40 0x5C then s.chanPathWord ((r - 0x40) / 4)
  else 0

/-- A register of the compatibility view as read (R191): every one 0 while the view is disabled, GO always. -/
def CompatView.readReg (v : CompatView) (r : Nat) : Nat :=
  if !v.enabled then 0
  else if r = 0x000 then v.family.toNat * 256 + v.op.toNat
  else if r = 0x004 then v.len.toNat
  else if r = 0x008 then v.tag.toNat
  else if inRange r 0x010 0x02C then (v.args.getD ((r - 0x010) / 4) 0).toNat
  else if r = 0x030 then bitsOf [v.busy, v.done, v.err, v.trunc]
  else if r = 0x034 then v.rlen.toNat * 65536 + v.result.toNat
  else if inRange r 0x040 0x05C then field v.res (r - 0x040) 4
  else 0

/-- A word of the MSI-X pending bit array: bit n for channel n (R150, R186). -/
def State.msixPending (s : State) (k : Nat) : Nat := bitsOf ((List.range 32).map fun n => (s.chan (32 * k + n)).msiPending)

/-- A word of PCIe configuration space as read (R186); capabilities, whose offsets the spec does not give, read 0 (assumption
110). -/
def Hub.cfgRead (h : Hub) (off : Nat) : Nat :=
  if off = 0x00 then 0x48001F6B
  else if off = 0x04 then h.command.toNat
  else if off = 0x08 then 0x118000 * 256 + Config.siliconRev.toNat % 256
  else if off = 0x10 then h.bar0.toNat % 2 ^ 32 + 4
  else if off = 0x14 then h.bar0.toNat / 2 ^ 32
  else if off = 0x2C then 0x00011F6B
  else 0

/-- What a read at an offset of the window returns to a path that reaches it (R10, R151–R153): all ones while SUP resets, 0 from a
reserved region, and from the MSI-X regions to the application cores. -/
def State.windowRead (s : State) (src : Path) (off : Nat) : U32 :=
  if !s.hubUp then 0xFFFFFFFF
  else BitVec.ofNat 32 (
    if off < 0x4000 then (s.chan (off / 256)).readReg (off % 256)
    else if off < 0x4100 then s.readGlobal (off - 0x4000)
    else if inRange off 0x8000 0x8FFF then s.hub.compat.readReg (off - 0x8000)
    else if src != .pcie then 0
    else if inRange off 0xE000 0xE3FF then
      (if off / 4 % 4 = 3 then flag (s.chan ((off - 0xE000) / 16)).masked else (s.hub.msixTable.rd ((off - 0xE000) / 4) 0).toNat)
    else if inRange off 0xF000 0xF007 then s.msixPending ((off - 0xF000) / 4)
    else if 0x10000 ≤ off then s.hub.cfgRead (off - 0x10000)
    else 0)

/-! ### Validating a request (R174, R175, R196, R791) -/

/-- FAMILY is defined, and in RECOVERY the ROM serves it, on channel 63 alone (R174 step 4, R196, R791). -/
def State.familyServed (s : State) (c : Channel) (m : Slot) : Bool :=
  let f := m.family.toNat
  if s.mode.mode == .recovery then c.path == .recovery && (f == 0x80 || (f == 0x01 && m.op.toNat == 0x01)) else familyCodes.contains f

/-- The OP is defined, and the ROM serves it in RECOVERY (R174 step 5, R791). -/
def State.opServed (s : State) (m : Slot) : Option OpSpec :=
  let o := m.op.toNat
  if s.mode.mode == .recovery && m.family.toNat == 0x80 && o != 0x05 && o != 0x08 then none
  else findOp m.family.toNat o

/-- Step 9 of R174 fails: the epoch of a mode-sensitive OP (R137). A MODE_REQUEST before the boot commit, or with TARGET
SAFE_HOLD, is left to its own rule (R127, R224). -/
def State.epochStale (s : State) (o : OpSpec) (m : Slot) : Bool :=
  let own := o.family == 0x03 && o.op == 0x01 && (!s.mode.booted || field m.payload 4 1 == Mode.safeHold.code)
  let e := field m.payload 0 4
  o.epoch && !own && (e == 0 || e != s.mode.epoch.toNat || !s.mode.booted)

/-- The checks of R174 in order: the first that fails, or the OP. -/
def State.checkSlot (s : State) (c : Channel) (m : Slot) : Except Status OpSpec :=
  if 4080 < m.len.toNat then .error .badLength
  else if m.check != Slot.computed m then .error .badCheck
  else if m.flags.toNat / 8 != 0 || m.status != 0 then .error .badParam
  else if !s.familyServed c m then .error .unknownFamily
  else match s.opServed m with
    | none => .error .unknownOp
    | some o =>
      if !o.lenOk m.len.toNat then .error .badLength
      else if bit m.flags.toNat 1 && !o.journal then .error .badParam
      else if c.held.any (fun q => q.tag == m.tag) then .error .busyId
      else if s.epochStale o m then .error .staleEpoch
      else .ok o

/-- The reply of a request that fails a check of R174, or finds no room to be journalled: LEN 0, whatever its REPLY_WANTED bit
(R174, R175, R323); REPLY_WANTED and URGENT are copied as in any reply (R176, assumption 112). -/
def State.failSlot (s : State) (ch : Nat) (m : Slot) (st : Status) : State :=
  let c := s.chan ch
  let c := if inRange st.code 0x0101 0x0105 then c.setFlag stBad else c
  let f := m.flags.toNat
  let s' := (s.setChan ch c).count uHub 2
  if c.path == .compat then s'.modCompat fun v => v.copy st.code false []
  else
    (s'.modChan ch fun c => (c.write { family := m.family.toNat, op := m.op.toNat, flags := flag (bit f 0) + 4 * flag (bit f 2),
                                       status := st.code, tag := m.tag, payload := [] }).coalesce s.time (bit f 2)).noteSent s

/-! ### Held items (R822) -/

/-- What is held for the channels waits from the present moment (R822). -/
def State.restartHeld (s : State) : State :=
  let g := fun (i : HeldItem) => { i with since := s.time }
  let f := fun (_ : Nat) (c : Channel) => { c with waiting := c.waiting.map g }
  s.modHub fun h => { h with chans := h.chans.mapAll f }

/-- The item is the outcome of a COMMAND record, which R331 governs. -/
def State.isOutcome (s : State) (i : HeldItem) : Bool :=
  i.record != 0 && s.ledger.records.any fun x => x.id == i.record && x.kind == .command

/-- Discard the items of a channel that have waited 600 s (R822): each releases its TAG and is counted. -/
def State.discardHeld (s : State) (ch : Nat) : State :=
  let due := fun (i : HeldItem) => decide (i.since + 600 * sec ≤ s.time) && !s.isOutcome i
  let c := s.chan ch
  let gone := c.waiting.filter due
  (s.setChan ch { c with waiting := c.waiting.filter fun i => !due i,
                         held := c.held.filter fun q => !gone.any fun i => i.event.req == some q }).countN uHub 16 gone.length

end Sys2Proof.Machine
end

