-- ==== Sys2Proof/Machine/CascadeOps.lean ====
section
/-! DEFINITION. Messages that arrive on a connection: tunnels and the control stream of the cascade (05). -/

namespace Sys2Proof.Machine

/-- The request ring of a connection's channel is full: the module reads nothing from it (R189). -/
def Channel.full (c : Channel) : Bool := decide (c.reqSize ≤ c.inbox.length)

/-- A message on a connection (R189, R190): it waits outside while the ring is full; one with a LEN above 4,080 is answered and
ends the tunnel's `session`, or resets the cascade's channel. -/
def State.takeMessage (s : State) (ch : Nat) (m : Slot) (session : Option Nat) : State :=
  if (s.chan ch).full then s
  else if 4080 < m.len.toNat then
    let s := s.failSlot ch m .badLength
    match session with
    | some k => s.endSession k
    | none => s.resetChannel ch stRestarted
  else s.modChan ch (·.place m)

/-- A message for a CASCADE channel, which runs from its first message (R190; assumption 8). -/
def State.takeCascade (s : State) (ch : Nat) (m : Slot) : State :=
  (if (s.chan ch).enable then s else s.enableChannel ch).takeMessage ch m none

/-- The message that bytes of a connection spell (R172, R189). -/
def Slot.ofBytes (b : List Byte) : Slot :=
  { len := BitVec.ofNat 16 (field b 0 2), family := BitVec.ofNat 8 (field b 2 1), op := BitVec.ofNat 8 (field b 3 1),
    flags := BitVec.ofNat 16 (field b 4 2), status := BitVec.ofNat 16 (field b 6 2), tag := BitVec.ofNat 32 (field b 8 4),
    check := BitVec.ofNat 32 (field b 12 4), payload := b.drop 16 }

/-- Channels bound to CASCADE. -/
def State.cascadeChannels (s : State) : List Nat := (s.hub.chans.entries.filter fun e => e.2.path == .cascade).map (·.1)

/-- The oldest message on the control stream goes to its CASCADE channel while that channel's ring has room (R189, R190). Which of
several CASCADE channels a message is for is not stated: a free value (assumption 128). -/
def State.readControl (s : State) : State :=
  match s.fabric.link.ctlIn, s.cascadeChannels with
  | m :: rest, c :: cs =>
    let ch := (c :: cs).getD ((Config.free 6 s.freeCount).toNat % (cs.length + 1)) c
    if s.hubUp && s.hub.serving && s.fabric.link.phase == .up && !(s.chan ch).full then
      ((s.spend 1).modLink fun l => { l with ctlIn := rest }).takeCascade ch m
    else s
  | _, _ => s

/-- A whole message has arrived on the control stream. -/
def State.takeControl (s : State) (bytes : List Byte) : State :=
  let body := (bytes.drop 16).take (field bytes 8 4)
  (s.modLink fun l => { l with ctlIn := l.ctlIn ++ [Slot.ofBytes body] }).readControl

end Sys2Proof.Machine
end

