-- ==== Sys2Proof/Machine/ExecFunction.lean ====
section
/-! DEFINITION. The Machine function family and the instances' periodic events (11). -/

namespace Sys2Proof.Machine

/-! ### Definitions -/

/-- Counts a role may have for a kind of template (R387): fewest and most; none where it is not permitted. -/
def roleCount (k : TplKind) (role : Nat) : Option (Nat × Nat) :=
  match k, role with
  | .ctrl, 0x01 => some (1, 1)
  | .ctrl, 0x02 => some (0, 3)
  | .ctrl, 0x03 => some (1, 1)
  | .ctrl, 0x04 => some (1, 1)
  | .ctrl, 0x05 => some (0, 4)
  | .ctrl, 0x06 => some (0, 2)
  | .switch, 0x05 => some (1, 8)
  | .switch, 0x06 => some (0, 2)
  | .flow, 0x03 => some (0, 1)
  | .flow, 0x07 => some (0, 1)
  | .flow, 0x08 => some (0, 1)
  | .loss, 0x03 => some (0, 1)
  | .loss, 0x09 => some (1, 4)
  | .loss, 0x0C => some (1, 1)
  | .scale, 0x03 => some (0, 1)
  | .scale, 0x0A => some (1, 1)
  | .yield, 0x0C => some (1, 1)
  | .yield, 0x0E => some (0, 1)
  | .yield, 0x0F => some (0, 1)
  | .yield, 0x10 => some (0, 1)
  | .yield, 0x11 => some (1, 1)
  | .gov, 0x03 => some (1, 1)
  | .gov, 0x04 => some (1, 1)
  | .gov, 0x0B => some (1, 1)
  | .gov, 0x0C => some (1, 1)
  | .gov, 0x0D => some (0, 1)
  | .gov, 0x0F => some (0, 1)
  | _, _ => none

/-- Binding kinds of a role (R387). -/
def roleKinds (role : Nat) : List Nat :=
  match role with
  | 0x01 => [1]
  | 0x02 => [1]
  | 0x03 => [5]
  | 0x04 => [6, 5]
  | 0x05 => [2]
  | 0x06 => [4, 5]
  | 0x07 => [3]
  | 0x08 => [5]
  | 0x09 => [3]
  | 0x0A => [3, 5]
  | 0x0B => [7, 5]
  | 0x0C => [8]
  | 0x0D => [8]
  | 0x0E => [8]
  | 0x0F => [3, 5]
  | 0x10 => [4, 5]
  | 0x11 => [9]
  | _ => []

/-- Highest REF of a binding kind that is an index (R386). -/
def kindTop (k : Nat) : Nat := ([0, 255, 47, 15, 31, 255, 63, 0, 63] : List Nat).getD k 0

/-- Template an INSTANCE binding of a role must name (R387). -/
def roleTemplate (role : Nat) : Nat := if role = 0x0C then 0x12 else if role = 0x0D then 0x13 else 0x14

/-- A TILES placement that R388 refuses for lane unit `u`. -/
def State.tilesBad (s : State) (h u : Nat) : Bool :=
  (s.placement h).all fun p => p.cls != clsCoverage || !p.lists u || p.size / tileSize < 16 || p.rate < 1

/-- A binding refused by itself, for instance `n` on lane unit `u` (R386–R388). -/
def State.bindingBad (s : State) (n u : Nat) (k : TplKind) (b : Binding) : Bool :=
  (roleCount k b.role).isNone || !(roleKinds b.role).contains b.kind || (b.kind != 9 && b.ref > kindTop b.kind) ||
    (b.role == 9 && b.ref > 3) || (b.kind == 1 && (s.loop b.ref).state == .empty) ||
    (b.kind == 8 && (b.ref == n || (s.inst b.ref).template != roleTemplate b.role)) || (b.kind == 9 && s.tilesBad b.ref u)

/-- Bindings that R388 keeps to one instance: loops, channels and SP_OUT slots. -/
def Binding.exclusive (b : Binding) : Bool := b.kind == 1 || b.kind == 2 || b.role == 3

/-- The bindings of a DEFINE break R387, R388 or R442. -/
def State.bindingsBad (s : State) (n u tpl : Nat) (l : List Binding) : Bool :=
  let k := tplKind tpl
  let x : Instance := { Instance.reset with template := tpl, binds := l }
  let excl := l.filter Binding.exclusive
  let others := s.functions.insts.entries.filter fun e => e.1 != n
  let dests := x.loops.map fun m => (m, (s.loop m).desc)
  (l.any (s.bindingBad n u k)) ||
    ((List.range 18).any fun r => (roleCount k r).any fun c => !inRange (x.role r).length c.1 c.2) ||
    (k == .flow && (x.one 7).isNone && (x.one 8).isNone) ||
    (others.any fun e => e.2.binds.any fun y => y.exclusive && excl.any fun b => b.kind == y.kind && b.ref == y.ref) ||
    ((x.role 2).any fun b => dests.any fun d => d.1 != b.ref && descInner d.2 == some b.ref) ||
    (x.chans.any fun c => dests.any fun d => descChannel d.2 == some c) ||
    ((x.one 1).any fun b => let d := (s.loop b.ref).desc
      field d 24 1 != 7 || (x.one 3).any fun o => field d 25 1 != o.ref) ||
    (tplWorking tpl && x.chans.any fun c => s.swFlag c 1)

/-- A parameter block outside R411. -/
def paramsBad (k : TplKind) (p : List Byte) : Bool :=
  let u := fun off n => field p off n
  let v := fun off => fieldInt p off 4
  let zero := fun off => (p.drop off).any fun b => b != 0
  match k with
  | .ctrl => zero 8
  | .switch => u 0 2 > 5000 || zero 2
  | .flow => u 8 1 > 31 || u 11 1 != 0 || !inRange (u 12 4) 32768 131072 || u 16 4 > 30000 || u 20 4 > 10000 ||
      !inRange (u 24 2) 1 1000 || u 26 1 > 15 || zero 27
  | .loss => ([0, 4, 8, 12].any fun o => !inRange (u o 2) 10 200 || !inRange (u (o + 2) 2) 10 1000) || !inRange (u 16 1) 1 30 || zero 17
  | .scale => u 8 1 > 31 || u 9 1 > 15 || zero 10
  | .yield => !inRange (u 0 4) 1000 60000 || (v 4).natAbs > 20000 || (v 8).natAbs > 20000 || !inRange (u 12 2) 5 100 ||
      u 14 2 > 300 || (v 20).natAbs > 900000000 || (v 24).natAbs > 1800000000 || zero 28
  | .gov => !inRange (u 0 4) 1000 100000 || !inRange (u 4 2) 10 1000 || !inRange (u 6 2) 100 1000 || u 8 4 > u 12 4 ||
      !inRange (u 12 4) 1 15000 || !inRange (u 16 4) 1 2000 || !inRange (u 20 4) 1 2000 || !inRange (u 24 4) 1 500 ||
      !inRange (u 28 4) 1000 60000 || !inRange (u 32 4) 1 10000 || !inRange (u 36 4) 1000 60000 || u 40 4 > 100000 || zero 44

/-- Binding `i` of a DEFINE (R386, R410). -/
def defineBinding (r : Request) (i : Nat) : Binding :=
  { role := r.u (80 + 12 * i) 1, kind := r.u (81 + 12 * i) 1, ref := r.u (84 + 12 * i) 8 }

/-- The bindings of a DEFINE. -/
def defineBindings (r : Request) : List Binding := (List.range (r.u 8 1)).map (defineBinding r)

/-- Instances on lane `k` other than `n`. -/
def State.laneInsts (s : State) (k n : Nat) : Nat :=
  (s.functions.insts.entries.filter fun e => e.1 != n && e.2.state != .empty && e.2.lane == k).length

/-- The lane of a definition: as given, or the one with the fewest instances (R410). -/
def State.pickLane (s : State) (n lane : Nat) : Nat :=
  if lane ≤ 3 then lane
  else (List.range 4).foldl (fun b k => if s.laneInsts k n < s.laneInsts b n then k else b) 0

/-- Refusals of FUNCTION_DEFINE. -/
def checksFunctionDefine (r : Request) (s : State) : List (Bool × Status) :=
  let n := r.u 4 1
  let tpl := r.u 5 1
  let u := uLane (s.pickLane n (r.u 7 1))
  [((s.inst n).running || (s.inst n).state == .fault, .busyId),
      (n > 63 || !inRange tpl 1 0x20 || r.u 6 1 > 1 || !(r.u 7 1 ≤ 3 || r.u 7 1 == 0xFF) || !inRange (r.u 8 1) 1 24 || !r.zero 9 3 ||
        r.len != 80 + 12 * r.u 8 1 || (List.range (r.u 8 1)).any (fun i => !r.zero (82 + 12 * i) 2) ||
        paramsBad (tplKind tpl) (r.bytes 16 64) || s.bindingsBad n u tpl (defineBindings r), .badParam),
      (16 ≤ s.laneInsts (s.pickLane n (r.u 7 1)) n, .noSpace)]

/-- Effect of FUNCTION_DEFINE. -/
def doneFunctionDefine (r : Request) (s : State) : State :=
  let n := r.u 4 1
  let tpl := r.u 5 1
  let u := uLane (s.pickLane n (r.u 7 1))
  answer opFunctionDefine u r []
      (s.modInst n fun _ =>
        { Instance.reset with template := tpl, autostart := bit (r.u 6 1) 0, lane := s.pickLane n (r.u 7 1), label := r.u 12 4,
                              params := r.bytes 16 64, binds := defineBindings r, state := .stopped, since := s.time })

/-- FUNCTION_DEFINE (R384, R388, R410). -/
def execFunctionDefine (r : Request) (s : State) : Out :=
  let n := r.u 4 1
  let u := uLane (s.pickLane n (r.u 7 1))
  serve opFunctionDefine u r s (checksFunctionDefine r) (doneFunctionDefine r)

/-- Another instance binds instance `n` (R410). -/
def State.instBound (s : State) (n : Nat) : Bool :=
  s.functions.insts.entries.any fun e => e.1 != n && e.2.binds.any fun b => b.kind == 8 && b.ref == n

/-- Refusals of FUNCTION_CLEAR. -/
def checksFunctionClear (r : Request) (s : State) : List (Bool × Status) :=
  let n := r.u 4 1
  [((s.inst n).running || (s.inst n).state == .fault || s.instBound n, .busyId), (n > 63 || !r.zero 5 3, .badParam)]

/-- Effect of FUNCTION_CLEAR. -/
def doneFunctionClear (r : Request) (s : State) : State :=
  let n := r.u 4 1
  let u := (s.inst n).unit
  answer opFunctionClear u r [] (s.modFunctions fun f => { f with insts := f.insts.erase n })

/-- FUNCTION_CLEAR (R410). -/
def execFunctionClear (r : Request) (s : State) : Out :=
  let n := r.u 4 1
  let u := (s.inst n).unit
  serve opFunctionClear u r s (checksFunctionClear r) (doneFunctionClear r)

/-- START is not permitted in the mode (R409); in LIMP a working instance must be intact (R130). -/
def State.startForbidden (s : State) (x : Instance) : Bool :=
  let m := s.mode.mode
  if tplWorking x.template then
    !([Mode.fieldReady, .working, .headland, .limp].contains m) || (m == .limp && !s.intact x)
  else !oprModes.contains m

/-- A START that would falsify CTL's ready answer to a change into ROAD is deferred (R143). -/
def State.startDeferred (s : State) (n : Nat) : Bool :=
  s.answeredReady islCtl && (s.mode.change.any fun c => c.target == .road) && tplWorking (s.inst n).template

/-- Refusals of FUNCTION_START. -/
def checksFunctionStart (r : Request) (s : State) : List (Bool × Status) :=
  let n := r.u 4 1
  [(s.startForbidden (s.inst n), .wrongMode), (n > 63 || (s.inst n).state == .empty || !r.zero 5 3, .badParam),
      ((s.inst n).state == .fault || ((s.inst n).role 6).any (fun b => !s.readsOne b), .hwFault)]

/-- Effect of FUNCTION_START. -/
def doneFunctionStart (r : Request) (s : State) : State :=
  let n := r.u 4 1
  let u := (s.inst n).unit
  if (s.inst n).running then answer opFunctionStart u r [] s
  else if s.startDeferred n then s.defer .functionStart r
  else
    let q := s.requester opFunctionStart r
    (s.accepted opFunctionStart u r []).startInst n ((s.inst n).startState s.mode.mode) 0 (some q)

/-- FUNCTION_START (R391, R395, R409, R412): completed by FUNCTION_STATE; an instance that runs is answered OK. A deferred one
is evaluated at the end of the change (R143). -/
def execFunctionStart (r : Request) (s : State) : Out :=
  let n := r.u 4 1
  let u := (s.inst n).unit
  serve opFunctionStart u r s (checksFunctionStart r) (doneFunctionStart r)

/-- Refusals of FUNCTION_STOP. -/
def checksFunctionStop (r : Request) (s : State) : List (Bool × Status) :=
  let n := r.u 0 1
  [(n > 63 || (s.inst n).state == .empty || !r.zero 1 3, .badParam)]

/-- Effect of FUNCTION_STOP. -/
def doneFunctionStop (r : Request) (s : State) : State :=
  let n := r.u 0 1
  let u := (s.inst n).unit
  answer opFunctionStop u r [] (if (s.inst n).running then s.haltInst n .stopped 0 0 else s)

/-- FUNCTION_STOP (R391, R412): answered OK with the channels off and the loops open. -/
def execFunctionStop (r : Request) (s : State) : Out :=
  let n := r.u 0 1
  let u := (s.inst n).unit
  serve opFunctionStop u r s (checksFunctionStop r) (doneFunctionStop r)

/-- The fields of a YIELD block that may change only while the instance is STOPPED (R411). -/
def yieldKeys (p : List Byte) : List Byte := (p.drop 12).take 2 ++ (p.drop 16).take 12

/-- Refusals of FUNCTION_PARAMS. -/
def checksFunctionParams (r : Request) (s : State) : List (Bool × Status) :=
  let n := r.u 4 1
  let p := r.bytes 8 64
  [((s.inst n).kind == .yield && (s.inst n).state != .stopped && (s.inst n).state != .empty &&
        yieldKeys p != yieldKeys (s.inst n).params, .busyId),
      (n > 63 || (s.inst n).state == .empty || !r.zero 5 3 || paramsBad (s.inst n).kind p, .badParam)]

/-- Effect of FUNCTION_PARAMS. -/
def doneFunctionParams (r : Request) (s : State) : State :=
  let n := r.u 4 1
  let u := (s.inst n).unit
  let p := r.bytes 8 64
  answer opFunctionParams u r [] (s.modInst n fun x => { x with newParams := some p })

/-- FUNCTION_PARAMS (R411): it takes effect at the instance's next execution. -/
def execFunctionParams (r : Request) (s : State) : Out :=
  let n := r.u 4 1
  let u := (s.inst n).unit
  serve opFunctionParams u r s (checksFunctionParams r) (doneFunctionParams r)

/-- Refusals of FUNCTION_STATUS. -/
def checksFunctionStatus (r : Request) (_s : State) : List (Bool × Status) :=
  let n := r.u 0 1
  [(n > 63 || !r.zero 1 3, .badParam)]

/-- Effect of FUNCTION_STATUS. -/
def doneFunctionStatus (r : Request) (s : State) : State :=
  let n := r.u 0 1
  let x := s.inst n
  answer opFunctionStatus x.unit r (le 1 n ++ le 1 x.template ++ le 1 x.state.code ++ le 1 x.cause ++ le 1 x.lane ++ le 3 0 ++
      leInt 4 x.out ++ le 4 x.aux ++ le 8 x.execTime) s

/-- FUNCTION_STATUS (R412). -/
def execFunctionStatus (r : Request) (s : State) : Out :=
  let n := r.u 0 1
  let x := s.inst n
  serve opFunctionStatus x.unit r s (checksFunctionStatus r) (doneFunctionStatus r)

/-- CALIBRATE's reply (R412). -/
def calibrateReply (grams cal : Nat) : List Byte := le 8 grams ++ le 4 cal ++ le 4 0

/-- The new CAL_Q16 of a CALIBRATE end; none where it is refused (R398). -/
def newCal (x : Instance) (weighed : Nat) : Option Nat :=
  let g := (x.calSum.getD 0) / 1000
  let c := divNear (x.pu 12 4 * weighed) g
  if g < 500000 || !inRange c 32768 131072 then none else some c

/-- Refusals of CALIBRATE. -/
def checksCalibrate (r : Request) (s : State) : List (Bool × Status) :=
  let n := r.u 4 1
  [(n > 63 || (s.inst n).template != 0x12 || !inRange (r.u 5 1) 1 3 || !r.zero 6 2, .badParam)]

/-- Effect of CALIBRATE. -/
def doneCalibrate (r : Request) (s : State) : State :=
  let n := r.u 4 1
  let u := (s.inst n).unit
  let x := s.inst n
  let g := (x.calSum.getD 0) / 1000
  match r.u 5 1 with
  | 1 => answer opCalibrate u r (calibrateReply 0 (x.pu 12 4)) (s.modInst n fun x => { x with calSum := some 0 })
  | 2 =>
    match newCal x (r.u 8 8) with
    | none => refuse opCalibrate u r .badParam (s.modInst n fun x => { x with calSum := none })
    | some c =>
      let set := fun (p : List Byte) => patch p 12 (le 4 c)
      answer opCalibrate u r (calibrateReply g c)
        (s.modInst n fun x => { x with calSum := none, params := set x.params, newParams := x.newParams.map set })
  | _ => answer opCalibrate u r (calibrateReply g (x.pu 12 4)) (s.modInst n fun x => { x with calSum := none })

/-- CALIBRATE (R398): an end that is refused ends the run as well. -/
def execCalibrate (r : Request) (s : State) : Out :=
  let n := r.u 4 1
  let u := (s.inst n).unit
  serve opCalibrate u r s (checksCalibrate r) (doneCalibrate r)

/-- Refusals of TOTALS. -/
def checksYieldTotals (r : Request) (s : State) : List (Bool × Status) :=
  let n := r.u 0 1
  let x := s.inst n
  [(n > 63 || x.template != 0x15 || r.u 1 1 > 1 || !r.zero 2 2, .badParam)]

/-- Effect of TOTALS. -/
def doneYieldTotals (r : Request) (s : State) : State :=
  let n := r.u 0 1
  let x := s.inst n
  let s' := if r.u 1 1 = 1 then
      s.modInst n fun x => { x with areaCm2 := 0, massG := 0, unmappedMg := 0, lossNg := 0, since := s.time }
    else s
  answer opTotals x.unit r (le 8 x.areaCm2 ++ le 8 x.massG ++ le 8 (x.unmappedMg / 1000) ++ le 8 (x.lossNg / 10 ^ 9) ++ le 8 x.since) s'

/-- TOTALS (R408, R412). -/
def execYieldTotals (r : Request) (s : State) : Out :=
  let n := r.u 0 1
  let x := s.inst n
  serve opTotals x.unit r s (checksYieldTotals r) (doneYieldTotals r)

/-! ### Periodic events -/

/-- When INSTANCE_TICK has its effect. -/
def whenInstanceTick (t : Nat) (s : State) : Bool :=
  s.ctlRuns && t % ms == 0 && s.functions.lastTick != t

/-- Effect of INSTANCE_TICK. -/
def doneInstanceTick (t : Nat) (s : State) : State :=
  let s := s.modFunctions fun f => { f with lastTick := t }
  s.functions.insts.keys.foldl (fun s n => s.runInst n) s

/-- INSTANCE_TICK (R384): every lane executes its instances once in the 1 ms module tick. -/
def execInstanceTick (t : Nat) (s : State) : Out :=
  event t s (whenInstanceTick t) (doneInstanceTick t)

/-- When ON_DELAY_EXPIRY has its effect. -/
def whenOnDelayExpiry (t inst : Nat) (s : State) : Bool :=
  s.unitUp (s.inst inst).unit && (s.inst inst).kind == .switch && (s.inst inst).starting.any fun k => k.chans != [] && decide (k.next ≤ t)

/-- Effect of ON_DELAY_EXPIRY. -/
def doneOnDelayExpiry (_t inst : Nat) (s : State) : State :=
  s.nextChannel inst

/-- ON_DELAY_EXPIRY (R391). -/
def execOnDelayExpiry (t inst : Nat) (s : State) : Out :=
  valid (inst < 64) <| event t s (whenOnDelayExpiry t inst) (doneOnDelayExpiry t inst)

/-- When GOVERNOR_PERIOD has its effect. -/
def whenGovernorPeriod (t inst : Nat) (s : State) : Bool :=
  (s.inst inst).kind == .gov && (s.inst inst).state != .empty && s.unitUp (s.inst inst).unit &&
      inRange s.mode.mode.code 5 0x0B && t % (max 1 ((s.inst inst).pu 6 2) * ms) == 0

/-- Effect of GOVERNOR_PERIOD. -/
def doneGovernorPeriod (_t inst : Nat) (s : State) : State :=
  s.runGovernor inst

/-- GOVERNOR_PERIOD (R401, R403): a governor runs or copies in the modes from PARKED to LIMP. -/
def execGovernorPeriod (t inst : Nat) (s : State) : Out :=
  valid (inst < 64) <| event t s (whenGovernorPeriod t inst) (doneGovernorPeriod t inst)

/-- When YIELD_STEP has its effect. -/
def whenYieldStep (t inst : Nat) (s : State) : Bool :=
  (s.inst inst).kind == .yield && (s.inst inst).state == .active && s.unitUp (s.inst inst).unit && t % (100 * ms) == 0

/-- Effect of YIELD_STEP. -/
def doneYieldStep (_t inst : Nat) (s : State) : State :=
  s.runYield inst

/-- YIELD_STEP (R404). -/
def execYieldStep (t inst : Nat) (s : State) : Out :=
  valid (inst < 64) <| event t s (whenYieldStep t inst) (doneYieldStep t inst)

/-- When TOTALS_SAVE has its effect. -/
def whenTotalsSave (_t : Nat) (s : State) : Bool :=
  s.ctlRuns

/-- Effect of TOTALS_SAVE. -/
def doneTotalsSave (_t : Nat) (s : State) : State :=
  s.modFunctions fun f => { f with insts := f.insts.mapAll fun _ x => { x with saved := (x.areaCm2, x.massG, x.unmappedMg, x.lossNg) } }

/-- TOTALS_SAVE (R408). -/
def execTotalsSave (t : Nat) (s : State) : Out :=
  event t s (whenTotalsSave t) (doneTotalsSave t)

end Sys2Proof.Machine
end

