-- ==== Sys2Proof/Machine/ExecInference.lean ====
section
/-! DEFINITION. The Inference family and the accelerator's events (18). -/

namespace Sys2Proof.Machine

/-! ### Models (R596–R598) -/

/-- The header of a container at the start of a placement (R596). -/
def modelOf (h : List Byte) : Model :=
  { kind := field h 7 1, ops := field h 8 8, clusters := field h 16 1, flags := field h 17 1, inFormat := field h 18 1,
    inW := field h 20 2, inH := field h 22 2, rateGops := field h 24 4, actBytes := field h 28 4,
    weightBytes := field h 32 8, outBytes := field h 40 4, appBytes := field h 44 4 }

/-- The header is one of R596, but for its TARGET. -/
def headerOk (h : List Byte) : Bool :=
  h.take 4 == [0x43, 0x59, 0x53, 0x4D] && field h 4 2 == 1 && field h 7 1 ≤ 4 && [1, 2, 4].contains (field h 16 1) &&
    field h 17 1 < 8 && inRange (field h 24 4) 1 24000 && field h 19 1 == 0 && field h 60 4 == 0

/-- CAUSE of a refused load, in the order of R614; a container longer than its placement cannot be checked (R597). -/
def State.loadCause (s : State) (h : Nat) : Option Nat :=
  let head := s.readPlace h 0 64
  let total := field head 48 8
  let size := ((s.placement h).map (·.size)).getD 0
  if !headerOk head then some 1
  else if field head 6 1 != 0x48 then some 2
  else if total < 64 || size < total then some 4
  else if (crc32c (head.take 56 ++ le 4 0 ++ s.readPlace h 60 (total - 60))).toNat != field head 56 4 then some 3
  else if (s.infer.models.find h).isNone && s.infer.models.entries.length ≥ 32 then some 5
  else none

/-- Refusals of MODEL_LOAD. -/
def checksModelLoad (r : Request) (s : State) : List (Bool × Status) :=
  let h := r.u 0 8
  [(!s.mayName h r.ch || (s.placement h).any (fun p => p.cls != 5), .badParam)]

/-- Effect of MODEL_LOAD. -/
def doneModelLoad (r : Request) (s : State) : State :=
  let h := r.u 0 8
  let q := s.requester opModelLoad r
  let s := s.accepted opModelLoad (uCluster 0) r []
  match s.loadCause h with
  | some c => (s.complete (uCluster 0) 0x3201 (modelState h 2 c) q false true)
  | none =>
    let s := s.modInfer fun x => { x with models := x.models.put h (modelOf (s.readPlace h 0 64)) }
    s.complete (uCluster 0) 0x3201 (modelState h 1 0) q false false

/-- MODEL_LOAD (R597, R611). -/
def execModelLoad (r : Request) (s : State) : Out :=
  serve opModelLoad (uCluster 0) r s (checksModelLoad r) (doneModelLoad r)

/-- A defined job names the model (R598). -/
def State.modelUsed (s : State) (h : Nat) : Bool := s.infer.jobs.entries.any fun e => e.2.desc != [] && e.2.model == h

/-- Refusals of MODEL_UNLOAD. -/
def checksModelUnload (r : Request) (s : State) : List (Bool × Status) :=
  let h := r.u 0 8
  [((s.infer.models.find h).isNone || !s.mayName h r.ch, .badParam), (s.modelUsed h, .busyId)]

/-- Effect of MODEL_UNLOAD. -/
def doneModelUnload (r : Request) (s : State) : State :=
  let h := r.u 0 8
  answer opModelUnload (uCluster 0) r [] (s.modInfer fun x => { x with models := x.models.erase h })

/-- MODEL_UNLOAD (R598, R611). -/
def execModelUnload (r : Request) (s : State) : Out :=
  serve opModelUnload (uCluster 0) r s (checksModelUnload r) (doneModelUnload r)

/-! ### Jobs (R610–R613) -/

/-- Bytes of a kind's fixed fields that hold a signed 32-bit value (R609). -/
def kindFields (k : Nat) : Nat := if k = 1 then 24 else if k = 2 then 16 else if k = 3 then 8 else if k = 4 then 16 else 0

/-- Bytes per pixel of an input format (R574): PACKED and NV12 by their larger sample. -/
def formatBytes (f : Nat) (n : Nat) : Nat :=
  if f = 2 || f = 7 then 2 * n else if f = 3 then 6 * n else if f = 4 then 3 * n else if f = 5 then n
  else if f = 6 then n + n / 2 else 2 * n

/-- The slot is the SP_OUT of an instance (R612). -/
def State.isSpOut (s : State) (slot : Nat) : Bool :=
  s.functions.insts.entries.any fun e => e.2.template != 0 && e.2.binds.any fun b => b.role == 3 && b.ref == slot

/-- JOB_DEFINE lies outside R612. -/
def State.jobBad (s : State) (r : Request) : Bool :=
  let n := r.u 44 1
  let slots := (List.range n).map fun i => r.u (64 + 12 * i + 2) 2
  let own := homeCluster (r.u 0 1)
  let size := fun h => ((s.placement h).map (·.size)).getD 0
  let cls := fun h => ((s.placement h).map (·.cls)).getD 0
  r.u 0 1 > 63 || r.u 1 1 > 7 || !inRange (r.u 2 1) 1 8 || r.u 3 1 > 3 || !inRange (r.u 4 4) 1000 10000000 || n > 8 ||
    r.len != 64 + 12 * n || !r.zero 45 19 ||
    !s.mayName (r.u 16 8) r.ch || !s.mayName (r.u 24 8) r.ch || !([1, 4].contains (cls (r.u 16 8))) || cls (r.u 24 8) != 4 ||
    (r.u 32 8 != 0 && (!s.mayName (r.u 32 8) r.ch || cls (r.u 32 8) != 4)) ||
    !s.lists (r.u 16 8) own || !s.lists (r.u 24 8) own ||
    slots.any (fun x => x > 255 || s.isSpOut x) || slots.eraseDups.length != n ||
    ((List.range n).any fun i => r.u (64 + 12 * i + 8) 1 > 31 || !r.zero (64 + 12 * i + 9) 3) ||
    match s.infer.models.find (r.u 8 8) with
    | none => true
    | some m =>
      !s.mayName (r.u 8 8) r.ch || size (r.u 16 8) / r.u 2 1 < 64 + formatBytes m.inFormat (m.inW * m.inH) ||
        size (r.u 24 8) < m.actBytes || (r.u 32 8 != 0 && size (r.u 32 8) < r.u 2 1 * m.outBytes) ||
        (List.range n).any fun i => r.u (64 + 12 * i) 2 % 4 != 0 || r.u (64 + 12 * i) 2 + 4 > kindFields m.kind

/-- Refusals of JOB_DEFINE. -/
def checksJobDefine (r : Request) (s : State) : List (Bool × Status) :=
  let j := r.u 0 1
  [(s.jobBad r, .badParam), (j ≤ 63 && (s.job j).running, .busyId)]

/-- Effect of JOB_DEFINE. -/
def doneJobDefine (r : Request) (s : State) : State :=
  let j := r.u 0 1
  answer opJobDefine (homeCluster j) r [] (s.modJob j fun _ => { Job.reset with desc := r.payload })

/-- JOB_DEFINE (R611, R612). -/
def execJobDefine (r : Request) (s : State) : Out :=
  let j := r.u 0 1
  serve opJobDefine (homeCluster (min 63 j)) r s (checksJobDefine r) (doneJobDefine r)

/-- The checks of an OP that names a job. -/
def jobChecks (r : Request) (needDesc : Bool) (s : State) : Bool :=
  r.u 0 1 > 63 || !r.zero 1 3 || (needDesc && (s.job (r.u 0 1)).desc == [])

/-- Refusals of JOB_CLEAR. -/
def checksJobClear (r : Request) (s : State) : List (Bool × Status) :=
  let j := r.u 0 1
  [(jobChecks r false s, .badParam), (j ≤ 63 && (s.job j).running, .busyId)]

/-- Effect of JOB_CLEAR. -/
def doneJobClear (r : Request) (s : State) : State :=
  let j := r.u 0 1
  answer opJobClear (homeCluster j) r [] (s.modInfer fun x => { x with jobs := x.jobs.erase j })

/-- JOB_CLEAR (R611). -/
def execJobClear (r : Request) (s : State) : Out :=
  let j := r.u 0 1
  serve opJobClear (homeCluster (min 63 j)) r s (checksJobClear r) (doneJobClear r)

/-- Refusals of JOB_START. -/
def checksJobStart (r : Request) (s : State) : List (Bool × Status) :=
  [(jobChecks r true s, .badParam)]

/-- Effect of JOB_START. -/
def doneJobStart (r : Request) (s : State) : State :=
  let j := r.u 0 1
  let q := s.requester opJobStart r
  let s := s.accepted opJobStart (homeCluster j) r []
  let old := (s.job j).stateCode
  -- jobs run in Run alone: one that starts in a rung is STOPPED at once (R264)
  if s.power.rung != 0 then
    (s.modJob j fun x => { x with running := false, cause := 2 }).complete (homeCluster j) 0x3202 (jobState j old 1 2) q false false
  -- a job whose model is no longer loaded stays STOPPED (R598)
  else if (s.infer.models.find (s.job j).model).isNone then
    (s.modJob j fun x => { x with running := false, cause := 1 }).complete (homeCluster j) 0x3202 (jobState j old 1 1) q false false
  else
    let s := ((s.modJob j fun x => { x with running := true, cause := 0 }).stageModel (s.job j).model).pressures
    s.complete (homeCluster j) 0x3202 (jobState j old 2 0) q false false

/-- JOB_START: the model is staged, and JOB_STATE completes it (R264, R611). -/
def execJobStart (r : Request) (s : State) : Out :=
  let j := r.u 0 1
  serve opJobStart (homeCluster (min 63 j)) r s (checksJobStart r) (doneJobStart r)

/-- Refusals of JOB_STOP. -/
def checksJobStop (r : Request) (s : State) : List (Bool × Status) :=
  [(jobChecks r true s, .badParam)]

/-- Effect of JOB_STOP. -/
def doneJobStop (r : Request) (s : State) : State :=
  let j := r.u 0 1
  let q := s.requester opJobStop r
  let s := s.accepted opJobStop (homeCluster j) r []
  let old := (s.job j).stateCode
  (s.stopJob j 0).pressures.complete (homeCluster j) 0x3202 (jobState j old 1 0) q false false

/-- JOB_STOP (R607, R611). -/
def execJobStop (r : Request) (s : State) : Out :=
  let j := r.u 0 1
  serve opJobStop (homeCluster (min 63 j)) r s (checksJobStop r) (doneJobStop r)

/-- The input whose work item is outstanding. -/
def Job.poolItem (x : Job) (item : Nat) : Option (InputSlot × Nat) :=
  x.inputs.findSome? fun i =>
    match i.phase with
    | .pool n start => if n = item then some (i, start) else none
    | _ => none

/-- The result body that the pool has written for an input: the bytes behind its header (R603; assumption 14). -/
def State.poolBody (s : State) (x : Job) (i : InputSlot) (len : Nat) : List Byte :=
  let out := ((s.infer.models.find x.model).map (·.outBytes)).getD 0
  (s.readPlace x.poolBuf (i.slot * out) len).drop 32

/-- Refusals of POOL_DONE. -/
def checksPoolDone (r : Request) (s : State) : List (Bool × Status) :=
  let j := r.u 0 1
  let x := s.job j
  let out := ((s.infer.models.find x.model).map (·.outBytes)).getD 0
  [(j > 63 || r.u 1 1 > 1 || !r.zero 2 2 || r.u 8 4 > out || !r.zero 12 4 || (x.poolItem (r.u 4 4)).isNone ||
      s.infer.poolCh != some r.ch, .badParam)]

/-- Effect of POOL_DONE. -/
def donePoolDone (r : Request) (s : State) : State :=
  let j := r.u 0 1
  match (s.job j).poolItem (r.u 4 4) with
  | none => s
  | some (i, start) =>
    let s := s.answered opPoolDone (homeCluster j) r .ok []
    if r.u 1 1 = 1 then s.result j i 2 start true []
    else
      let body := s.poolBody (s.job j) i (r.u 8 4)
      (s.modJob j fun x => { x with runsPool := x.runsPool + 1 }).result j i 0 start true body

/-- POOL_DONE names an item that has timed out. -/
def State.poolLate (s : State) (r : Request) : Bool :=
  let j := r.u 0 1
  j ≤ 63 && ((s.job j).poolItem (r.u 4 4)).isNone && r.u 4 4 < (s.job j).nextItem &&
    (gate opPoolDone (homeCluster (min 63 j)) r (s.atTime r.time)).isNone

/-- POOL_DONE: a result for an outstanding work item; one for an item that has timed out is refused and counted (R603,
R613). -/
def execPoolDone (r : Request) (s : State) : Out :=
  serve opPoolDone (homeCluster (min 63 (r.u 0 1))) r (if s.poolLate r then s.count (uCluster 0) 20 else s) (checksPoolDone r)
    (donePoolDone r)

/-- An input waits: it has not started (R600). -/
def InputSlot.waits (i : InputSlot) : Bool := i.phase == .ready || i.phase == .placed

/-- JOB_STATUS reply (R613). -/
def State.jobReply (s : State) (j : Nat) : List Byte :=
  let x := s.job j
  le 8 s.time ++ le 1 x.stateCode ++ le 1 x.cause ++ le 1 (x.inputs.filter InputSlot.waits).length ++ le 1 0 ++
    le 4 x.runsAcc.toNat ++ le 4 x.runsPool.toNat ++ le 4 x.late.toNat ++ le 4 x.superseded.toNat ++ le 4 x.droppedLate.toNat ++
    le 4 x.aborted.toNat ++ le 4 x.mismatch.toNat ++ le 4 x.lastUs ++ le 4 0

/-- Refusals of JOB_STATUS. -/
def checksJobStatus (r : Request) (s : State) : List (Bool × Status) :=
  [(jobChecks r false s, .badParam)]

/-- Effect of JOB_STATUS. -/
def doneJobStatus (r : Request) (s : State) : State :=
  let j := r.u 0 1
  answer opJobStatus (homeCluster j) r (s.jobReply j) s

/-- JOB_STATUS (R613). -/
def execJobStatus (r : Request) (s : State) : Out :=
  let j := r.u 0 1
  serve opJobStatus (homeCluster (min 63 j)) r s (checksJobStatus r) (doneJobStatus r)

/-! ### Inputs and runs (R600–R606) -/

/-- The oldest waiting input. -/
def Job.oldest (x : Job) : Option InputSlot := x.inputs.find? InputSlot.waits

/-- The lowest free slot of INPUT_BUF. -/
def Job.freeSlot (x : Job) : Option Nat := (List.range x.depth).find? fun k => x.inputs.all fun i => i.slot != k

/-- Copy a message into a slot. -/
def State.takeInput (s : State) (j slot seq : Nat) (m : Msg) : State :=
  let x := s.job j
  let s := s.writePlace x.inputBuf (slot * s.slotBytes x) (m.body.take (s.slotBytes x))
  s.modJob j fun x => { x with inputs := x.inputs ++
    [{ slot := slot, seq := seq, msg := m, deadline := m.time + x.deadlineNs, phase := .ready, late := false }] }

/-- An input counts as superseded. -/
def State.supersede (s : State) (j : Nat) : State :=
  (s.modJob j fun x => { x with superseded := x.superseded + 1, lost := true }).tellLate j

/-- When INFERENCE_INPUT has its effect. -/
def whenInferenceInput (_t job _seq : Nat) (_m : Msg) (s : State) : Bool :=
  (s.job job).running && s.unitUp (homeCluster job)

/-- Effect of INFERENCE_INPUT. -/
def doneInferenceInput (_t job seq : Nat) (m : Msg) (s : State) : State :=
  match (s.job job).freeSlot with
  | some k => s.takeInput job k seq m
  | none =>
    match (s.job job).oldest with
    | some i => ((s.dropInput job i).takeInput job i.slot seq m).supersede job
    | none => s.supersede job

/-- INFERENCE_INPUT: a message is copied into a slot; with every slot taken it replaces the oldest waiting input, and is itself
superseded where every input has started (R600, R607; assumption 15). -/
def execInferenceInput (t job seq : Nat) (m : Msg) (s : State) : Out :=
  valid (job < 64) <| event t s (whenInferenceInput t job seq m) (doneInferenceInput t job seq m)

/-- The input is not one the model takes (R604). -/
def mismatched (m : Model) (i : InputSlot) : Bool :=
  field i.msg.body 6 1 != m.inFormat || field i.msg.body 8 2 != m.inW || field i.msg.body 10 2 != m.inH

/-- Discard an input whose deadline has passed, under DROP_LATE (R601). -/
def State.dropLate (s : State) (j : Nat) (i : InputSlot) : State :=
  ((s.dropInput j i).modJob j fun x => { x with droppedLate := x.droppedLate + 1, lost := true }).tellLate j

/-- Send an input to the pool as a work item (R603). -/
def State.sendItem (s : State) (j : Nat) (i : InputSlot) : State :=
  let x := s.job j
  let out := ((s.infer.models.find x.model).map (·.outBytes)).getD 0
  let body := le 1 j ++ le 3 0 ++ le 4 x.nextItem ++ le 8 x.model ++ le 8 x.inputBuf ++ le 8 (i.slot * s.slotBytes x) ++
    le 8 x.poolBuf ++ le 8 (i.slot * out) ++ le 8 i.deadline
  let s := (s.modInput j i fun i => { i with phase := .pool x.nextItem s.time }).modJob j fun x =>
    { x with nextItem := (x.nextItem + 1) % 2 ^ 32 }
  s.present (uCluster 0) 49 { time := s.time, marks := 0, body := body }

/-- When INPUT_PLACEMENT has its effect. -/
def whenInputPlacement (_t job : Nat) (s : State) : Bool :=
  (s.job job).running

/-- Effect of INPUT_PLACEMENT. -/
def doneInputPlacement (_t job : Nat) (s : State) : State :=
  let x := s.job job
  match x.inputs.find? (fun i => i.phase == .ready), s.infer.models.find x.model with
  | some i, some m =>
    if mismatched m i then (s.modJob job fun x => { x with mismatch := x.mismatch + 1 }).result job i 1 s.time false []
    else
      let (pool, late) := s.placeInput job x m i.deadline
      if pool then
        if x.dropLate && i.deadline < s.time then s.dropLate job i
        else (s.modInput job i fun i => { i with late := late }).sendItem job { i with late := late }
      else s.modInput job i fun i => { i with late := late, phase := .placed }
  | _, _ => s

/-- INPUT_PLACEMENT: the oldest ready input of a job is refused as a mismatch or placed under R263 (R601, R603, R604). -/
def execInputPlacement (t job : Nat) (s : State) : Out :=
  valid (job < 64) <| event t s (whenInputPlacement t job) (doneInputPlacement t job)

/-- The input waits for clusters: placed or preempted. -/
def InputSlot.wantsClusters (i : InputSlot) : Bool :=
  match i.phase with
  | .placed => true
  | .preempted _ => true
  | _ => false

/-- The input that goes first in the order of R602. -/
def State.first (s : State) : Option (Nat × InputSlot) :=
  let all := (s.infer.jobs.entries.map fun e => (e.2.inputs.filter InputSlot.wantsClusters).map fun i => (e.1, i)).flatten
  all.foldl (fun best c =>
    match best with
    | none => some c
    | some b =>
      if before (s.job c.1).prio c.2.deadline c.1 (s.job b.1).prio b.2.deadline b.1 then some c else some b) none

/-- When RUN_START has its effect. -/
def whenRunStart (_t : Nat) (s : State) : Bool :=
  s.first.isSome && s.power.rung == 0

/-- Effect of RUN_START. -/
def doneRunStart (_t : Nat) (s : State) : State :=
  match s.first with
  | none => s
  | some (j, i) =>
    let x := s.job j
    match s.infer.models.find x.model with
    | none => s
    | some m =>
      let n := s.spans m
      if n = 0 || s.freeClusters.length < n then s
      else
        let cs := s.freeClusters.take n
        match i.phase with
        | .preempted start => s.modInput j i fun i => { i with phase := .running cs start }
        | _ =>
          if x.dropLate && i.deadline < s.time then s.dropLate j i
          else s.modInput j i fun i => { i with phase := .running cs s.time }

/-- RUN_START: the first input starts, or resumes, once its clusters are free (R601, R602). -/
def execRunStart (t : Nat) (s : State) : Out :=
  event t s (whenRunStart t) (doneRunStart t)

/-- When LAYER_PREEMPT has its effect. -/
def whenLayerPreempt (_t job : Nat) (s : State) : Bool :=
  let wanted := fun (s : State) => s.first.any fun c =>
    (s.job job).prio < (s.job c.1).prio &&
      (s.infer.models.find (s.job c.1).model).any fun m => s.freeClusters.length < s.spans m
  wanted s

/-- Effect of LAYER_PREEMPT. -/
def doneLayerPreempt (_t job : Nat) (s : State) : State :=
  match (s.job job).inputs.find? fun i => i.on != [] with
  | some i =>
    match i.phase with
    | .running cs start =>
      cs.foldl (fun s k => s.count (uCluster k) 17) (s.modInput job i fun i => { i with phase := .preempted start })
    | _ => s
  | none => s

/-- LAYER_PREEMPT: an instance of the job gives its clusters up to a ready input of higher priority that lacks them (R602). -/
def execLayerPreempt (t job : Nat) (s : State) : Out :=
  valid (job < 64) <| event t s (whenLayerPreempt t job) (doneLayerPreempt t job)

/-- When RUN_END has its effect. -/
def whenRunEnd (_t job : Nat) (_body : List Byte) (s : State) : Bool :=
  (s.job job).inputs.any fun i => i.on.any s.clusters.contains

/-- Effect of RUN_END. -/
def doneRunEnd (_t job : Nat) (body : List Byte) (s : State) : State :=
  let x := s.job job
  match x.inputs.find? fun i => i.on.any s.clusters.contains with
  | some i =>
    match i.phase, s.infer.models.find x.model with
    | .running cs start, some m =>
      let mb := ((s.unstaged x.model m).map (·.2)).sum / 1000000
      let s := cs.foldl (fun s k => (s.count (uCluster k) 16).countN (uCluster k) 19 mb) s
      (s.modJob job fun x => { x with runsAcc := x.runsAcc + 1 }).result job i 0 start false body
    | _, _ => s
  | none => s

/-- RUN_END: the job's oldest instance with a running cluster ends, and its result is presented (R595, R605, R606). -/
def execRunEnd (t job : Nat) (body : List Byte) (s : State) : Out :=
  valid (job < 64) <| event t s (whenRunEnd t job body) (doneRunEnd t job body)

/-- When POOL_TIMEOUT has its effect. -/
def whenPoolTimeout (_t job item : Nat) (s : State) : Bool :=
  let due := fun (s : State) => ((s.job job).poolItem item).any fun i => i.1.deadline + sec ≤ s.time
  due s

/-- Effect of POOL_TIMEOUT. -/
def donePoolTimeout (_t job item : Nat) (s : State) : State :=
  match (s.job job).poolItem item with
  | some (i, start) => s.result job i 3 start true []
  | none => s

/-- POOL_TIMEOUT: no POOL_DONE by DEADLINE + 1 s (R603). -/
def execPoolTimeout (t job item : Nat) (s : State) : Out :=
  valid (job < 64) <| event t s (whenPoolTimeout t job item) (donePoolTimeout t job item)

end Sys2Proof.Machine
end

