-- ==== Sys2Proof/Machine/ExecSwitch.lean ====
section
/-! DEFINITION. The Load switch family and the power stage's events (12). -/

namespace Sys2Proof.Machine

/-! ### Rated current and thermal state -/

/-- I_B25 in A and τ in s of a WIRE_CS (R430). -/
def wireFigures (cs : Nat) : Nat × Nat :=
  if cs = 50 then (9, 12) else if cs = 75 then (12, 16) else if cs = 100 then (14, 20) else if cs = 150 then (18, 28)
  else if cs = 250 then (25, 40) else if cs = 400 then (34, 58) else if cs = 600 then (44, 80) else (60, 120)

/-- T_max of an insulation class, °C (R430). -/
def insulationMax (k : Nat) : Nat := ([0, 85, 100, 125, 150] : List Nat).getD k 100

/-- Square of I_n at an ambient of `air` tenths of a degree, µA² (R430). -/
def State.ratedAt (s : State) (c : Nat) (air : Int) : Nat :=
  let tmax : Int := insulationMax (s.swCfg c 7 1)
  let ta := min air (10 * tmax - 100)
  let ib := (wireFigures (s.swCfg c 8 2)).1
  let wire := ib * ib * (10 * tmax - ta).toNat * 10 ^ 12 / 750
  let class_ := match swClass c with
    | .hc => 33 * 33 * 10 ^ 12
    | .mc => 11 * 11 * 10 ^ 12
    | .pv => 44 * 44 * 10 ^ 10
  min wire class_

/-- Square of I_n in force: AMBIENT, or the last housing air reading applied with MEAS_AMBIENT (R430). -/
def State.ratedSquare (s : State) (c : Nat) : Nat :=
  let base := s.ratedAt c (10 * ((s.swCfg c 10 1 : Int) - 40))
  if s.swFlag c 2 then ((s.sw c).rated).getD base else base

/-- θ after one tick of mean squared current (R429), in units of 10^−15. -/
def State.nextTheta (s : State) (c square : Nat) : Int :=
  let th := (s.sw c).theta
  let x : Int := (square : Int) * 10 ^ 15 / (s.ratedSquare c : Int)
  th + (x - th) / (20000 * (wireFigures (s.swCfg c 8 2)).2 : Nat)

/-- Channel `c`'s share of a 50 µs tick (R429): the thermal state follows the current, but where the supply is cut or the
group disturbed and its hard limit not reached (R89, R428); at 1 the channel switches off and latches FUSE. -/
def State.channelStep (s : State) (c : Nat) (x : SwSample) : State :=
  let g := swSupply c
  let frozen := s.groupCut g || ((s.supplyGroup g).disturbed.isSome && !(s.sw c).limited)
  let th := if frozen then (s.sw c).theta else s.nextTheta c x.square
  let s := s.modSw c fun y => { y with current := x.mean, cool := x.cool, theta := th }
  if 10 ^ 15 ≤ th && (s.sw c).phase.conducting then (s.count (swUnit c) 18).latchFault c 2 x.mean else s

/-- The channel a group sheds next: ascending SHED_PRIO, the highest number first (R440). -/
def State.shedNext (s : State) (g : Grp) : Option Nat :=
  ((grpChannels g).filter fun c => (s.sw c).phase.conducting).foldl (fun b c =>
    match b with
    | some d => if s.swCfg c 17 1 ≤ s.swCfg d 17 1 then some c else b
    | none => some c) none

/-- Shed one channel of a group (R440). -/
def State.shedOne (s : State) (g : Grp) : State :=
  match s.shedNext g with
  | some c =>
    let s := (s.latchFault c 5 (s.sw c).current).count (swUnit c) 26
    (s.modGroup g fun x => { x with sheds := x.sheds + 1 }).tellGroup g 2 c 0 0 0
  | none => s

/-- A shed sequence goes on while the 1 ms average is above 76 A and a channel of the group is on (R440). -/
def State.shedGoesOn (s : State) (g : Grp) : Bool := decide (76000 < (s.supplyGroup g).stud1) && (s.shedNext g).isSome

/-- End a shed sequence (R440). -/
def State.endShed (s : State) (g : Grp) : State :=
  s.modGroup g fun x => { x with shedDue := none, settleUntil := s.time + 100 * ms }

/-- A group's share of a tick (R440, R450). -/
def State.groupStep (s : State) (g : Grp) (x : GroupSample) : State :=
  let s := s.modGroup g fun y => { y with vBus := x.vBus, vGsns := x.vGsns, stud1 := x.stud1, stud100 := x.stud100, peak := x.peak,
                                          disturbed := y.disturbed.map fun d => (d.1, d.2.1, min d.2.2 x.vBus) }
  let y := s.supplyGroup g
  if y.shedDue.isSome then (if s.shedGoesOn g then s else s.endShed g)
  else if 200000 < x.stud1 || (80000 < x.stud100 && y.settleUntil ≤ s.time) then
    (s.shedOne g).modGroup g fun y => { y with shedDue := some (s.time + 10 * ms) }
  else s

/-- AON carries on cooling every channel's thermal memory in rungs 1–6 (R110). -/
def State.coolAll (s : State) : State :=
  (List.range 48).foldl (fun s c => s.modSw c fun x => { x with theta := s.nextTheta c 0, current := 0 }) s

/-- When CHANNEL_TICK has its effect. -/
def whenChannelTick (_t : Nat) (_currents : List SwSample) (_a _b : GroupSample) (s : State) : Bool :=
  s.ctlRuns || inRange s.power.rung 2 6

/-- Effect of CHANNEL_TICK. -/
def doneChannelTick (_t : Nat) (currents : List SwSample) (a b : GroupSample) (s : State) : State :=
  if !s.ctlRuns then s.coolAll else
  let s := (List.range (min 48 currents.length)).foldl (fun s c => s.channelStep c (currents.getD c ⟨0, 0, true⟩)) s
  ((s.groupStep .a a).groupStep .b b).finishRequests

/-- CHANNEL_TICK (R429, R440); with CTL powered down in a rung, AON's cooling alone (R110). -/
def execChannelTick (t : Nat) (currents : List SwSample) (a b : GroupSample) (s : State) : Out :=
  event t s (whenChannelTick t currents a b) (doneChannelTick t currents a b)

/-- When SHED_STEP_TIMER has its effect. -/
def whenShedStepTimer (t : Nat) (g : Grp) (s : State) : Bool :=
  (s.supplyGroup g).shedDue.any fun u => decide (u ≤ t)

/-- Effect of SHED_STEP_TIMER. -/
def doneShedStepTimer (t : Nat) (g : Grp) (s : State) : State :=
  if s.shedGoesOn g then
    ((s.shedOne g).modGroup g fun y => { y with shedDue := some (t + 10 * ms) }).finishRequests
  else s.endShed g

/-- SHED_STEP_TIMER (R440). -/
def execShedStepTimer (t : Nat) (g : Grp) (s : State) : Out :=
  event t s (whenShedStepTimer t g) (doneShedStepTimer t g)

/-! ### Turn-on, limits and retries -/

/-- Regulated inrush limit of the class, µA (R415). -/
def inrushLimit (c : Nat) : Nat := match swClass c with
  | .hc => 90000000
  | .mc => 30000000
  | .pv => 8000000

/-- Hard current limit of the class, µA (R415). -/
def hardLimit (c : Nat) : Nat := match swClass c with
  | .hc => 120000000
  | .mc => 45000000
  | .pv => 12000000

/-- When INRUSH_TIMER_EXPIRY has its effect. -/
def whenInrushTimerExpiry (t ch _outputMv _currentUa : Nat) (s : State) : Bool :=
  (match (s.sw ch).phase with
        | .turningOn u => decide (u ≤ t)
        | _ => false) && (s.supplyGroup (swSupply ch)).disturbed.isNone

/-- Effect of INRUSH_TIMER_EXPIRY. -/
def doneInrushTimerExpiry (_t ch outputMv currentUa : Nat) (s : State) : State :=
  let v := (s.supplyGroup (swSupply ch)).vBus
  if 9 * v ≤ 10 * outputMv && currentUa < inrushLimit ch then (s.finishTurnOn ch).finishRequests
  else ((s.count (swUnit ch) 19).trip ch 3 currentUa).finishRequests

/-- INRUSH_TIMER_EXPIRY (R423): frozen while the group is disturbed (R428). -/
def execInrushTimerExpiry (t ch outputMv currentUa : Nat) (s : State) : Out :=
  valid (ch < 48) <| event t s (whenInrushTimerExpiry t ch outputMv currentUa) (doneInrushTimerExpiry t ch outputMv currentUa)

/-- When HARD_CURRENT_LIMIT has its effect. -/
def whenHardCurrentLimit (_t ch peakUa : Nat) (s : State) : Bool :=
  (s.sw ch).phase.conducting && decide (hardLimit ch ≤ peakUa)

/-- Effect of HARD_CURRENT_LIMIT. -/
def doneHardCurrentLimit (_t ch peakUa : Nat) (s : State) : State :=
  (((s.modSw ch fun x => { x with limited := true }).count (swUnit ch) 17).trip ch 1 peakUa).finishRequests

/-- HARD_CURRENT_LIMIT (R425). -/
def execHardCurrentLimit (t ch peakUa : Nat) (s : State) : Out :=
  valid (ch < 48) <| event t s (whenHardCurrentLimit t ch peakUa) (doneHardCurrentLimit t ch peakUa)

/-- When RETRY_WAIT_EXPIRY has its effect. -/
def whenRetryWaitExpiry (t ch : Nat) (s : State) : Bool :=
  (match (s.sw ch).phase with
        | .retryWait u => decide (u ≤ t)
        | _ => false) && decide ((s.sw ch).theta ≤ 900000000000000)

/-- Effect of RETRY_WAIT_EXPIRY. -/
def doneRetryWaitExpiry (_t ch : Nat) (s : State) : State :=
  (s.turnOn ch true).finishRequests

/-- RETRY_WAIT_EXPIRY (R426): not while θ is above 900 ‰; deferred in crank hold. -/
def execRetryWaitExpiry (t ch : Nat) (s : State) : Out :=
  valid (ch < 48) <| event t s (whenRetryWaitExpiry t ch) (doneRetryWaitExpiry t ch)

/-- When RETRY_RESTORE has its effect. -/
def whenRetryRestore (t ch : Nat) (s : State) : Bool :=
  (s.sw ch).phase.conducting && (s.sw ch).onSince.any fun u => decide (u + 10 * sec ≤ t)

/-- Effect of RETRY_RESTORE. -/
def doneRetryRestore (_t ch : Nat) (s : State) : State :=
  s.modSw ch fun x => { x with retriesLeft := none }

/-- RETRY_RESTORE (R426). -/
def execRetryRestore (t ch : Nat) (s : State) : Out :=
  valid (ch < 48) <| event t s (whenRetryRestore t ch) (doneRetryRestore t ch)

/-- When DISTURBANCE_RAISE has its effect. -/
def whenDisturbanceRaise (_t : Nat) (g : Grp) (mean v : Nat) (s : State) : Bool :=
  s.ctlRuns && (s.supplyGroup g).disturbed.isNone && decide (100 * v < 85 * mean)

/-- Effect of DISTURBANCE_RAISE. -/
def doneDisturbanceRaise (t : Nat) (g : Grp) (mean v : Nat) (s : State) : State :=
  let s := s.modGroup g fun x => { x with disturbed := some (t, mean, v), disturbances := x.disturbances + 1 }
  ([0, 1, 2, 3, 4, 5].filter fun k => (k % 2 == 0) == (g == .a)).foldl (fun s k => s.count (uGroup k) 22) s

/-- DISTURBANCE_RAISE (R427): the three group units of the supply group count it. -/
def execDisturbanceRaise (t : Nat) (g : Grp) (mean v : Nat) (s : State) : Out :=
  event t s (whenDisturbanceRaise t g mean v) (doneDisturbanceRaise t g mean v)

/-- When DISTURBANCE_CLEAR has its effect. -/
def whenDisturbanceClear (t : Nat) (g : Grp) (v _vMin : Nat) (s : State) : Bool :=
  (s.supplyGroup g).disturbed.any fun d => decide (85 * d.2.1 ≤ 100 * v) || decide (d.1 + 2 * ms ≤ t)

/-- Effect of DISTURBANCE_CLEAR. -/
def doneDisturbanceClear (t : Nat) (g : Grp) (_v vMin : Nat) (s : State) : State :=
  let (t0, pre, low) := ((s.supplyGroup g).disturbed).getD (t, 0, 0)
  let s := s.modGroup g fun x => { x with disturbed := none }
  let s := (grpChannels g).foldl (fun s c =>
    match (s.sw c).phase with
    | .turningOn u => s.modSw c fun x =>
        { x with phase := .turningOn (u + (t - max t0 (x.onSince.getD t0))), diag := if bit x.diag 5 then x.diag else x.diag + 32 }
    | _ => s) s
  s.tellGroup g 1 0xFF pre (min low vMin) ((t - t0) / us)

/-- DISTURBANCE_CLEAR (R427, R428): each frozen inrush timer moves on by the time the flag stood over it. -/
def execDisturbanceClear (t : Nat) (g : Grp) (v vMin : Nat) (s : State) : Out :=
  event t s (whenDisturbanceClear t g v vMin) (doneDisturbanceClear t g v vMin)

/-! ### Lamp power compensation -/

/-- The largest number below 2^n with `p`, where `p` holds up to it: bit by bit from `acc`. -/
def largestBelow (p : Nat → Bool) : Nat → Nat → Nat
  | 0, acc => acc
  | n + 1, acc => if p (acc + 2 ^ n) then largestBelow p n (acc + 2 ^ n) else largestBelow p n acc

/-- Duty of a filament lamp (R432), 0.01 %, and whether it is clamped: d^5 V^8 = LEVEL^5 V_ref^8, rounded down. -/
def filamentDuty (level vref v : Nat) : Nat × Bool :=
  let ok := fun (d : Nat) => d ^ 5 * v ^ 8 ≤ level ^ 5 * vref ^ 8
  if 10000 ^ 5 * v ^ 8 < level ^ 5 * vref ^ 8 then (10000, true) else (largestBelow ok 14 0, false)

/-- Duty of an LED lamp (R432). -/
def ledDuty (level vref vf v : Nat) : Nat × Bool :=
  if v ≤ vf + 100 then (10000, true)
  else if 10000 * (v - vf) < level * (vref - vf) then (10000, true)
  else (level * (vref - vf) / (v - vf), false)

/-- When LAMP_COMPENSATION has its effect. -/
def whenLampCompensation (_t : Nat) (_loads : List Nat) (s : State) : Bool :=
  s.ctlRuns

/-- Effect of LAMP_COMPENSATION. -/
def doneLampCompensation (_t : Nat) (loads : List Nat) (s : State) : State :=
  (List.range (min 32 loads.length)).foldl (fun s c =>
    if s.isLamp c && (s.sw c).phase == .on then
      let vref := s.swCfg c 24 2 * 10
      let r := if s.swCfg c 5 1 = 1 then filamentDuty (s.swValue c) vref (loads.getD c 0)
        else ledDuty (s.swValue c) vref (s.swCfg c 26 2 * 10) (loads.getD c 0)
      (s.modSw c fun x => { x with duty := r.1 }).setDiag c 4 r.2
    else s) s

/-- LAMP_COMPENSATION (R432): `loads` are the mean load voltages in mV, by channel. -/
def execLampCompensation (t : Nat) (loads : List Nat) (s : State) : Out :=
  event t s (whenLampCompensation t loads) (doneLampCompensation t loads)

/-! ### Diagnostics -/

/-- The diagnostics of channel `c` run: no crank hold, no disturbance, its group supplied (R428, R441). -/
def State.diagnosing (s : State) (c : Nat) : Bool :=
  s.power.crank.isNone && (s.supplyGroup (swSupply c)).disturbed.isNone && s.supplied (swSupply c)

/-- When REG_ERROR_TIMER has its effect. -/
def whenRegErrorTimer (_t ch : Nat) (_error : Bool) (s : State) : Bool :=
  swClass ch == .pv && (s.sw ch).phase == .on && s.diagnosing ch

/-- Effect of REG_ERROR_TIMER. -/
def doneRegErrorTimer (_t ch : Nat) (error : Bool) (s : State) : State :=
  s.setDiag ch 3 error

/-- REG_ERROR_TIMER (R434). -/
def execRegErrorTimer (t ch : Nat) (error : Bool) (s : State) : Out :=
  valid (ch < 48) <| event t s (whenRegErrorTimer t ch error) (doneRegErrorTimer t ch error)

/-- When OPEN_LOAD_TIMER has its effect. -/
def whenOpenLoadTimer (_t ch : Nat) (_below : Bool) (s : State) : Bool :=
  (s.sw ch).phase == .on && s.diagnosing ch && s.swCfg ch 20 2 != 0 &&
      (swClass ch != .pv || decide (2000 * s.swCfg ch 20 2 ≤ s.swValue ch))

/-- Effect of OPEN_LOAD_TIMER. -/
def doneOpenLoadTimer (_t ch : Nat) (below : Bool) (s : State) : State :=
  let s := if below && !bit (s.sw ch).diag 0 then s.count (swUnit ch) 21 else s
  s.setDiag ch 0 below

/-- OPEN_LOAD_TIMER (R435): on a PV channel only with a set-point of at least twice OPEN_MA. -/
def execOpenLoadTimer (t ch : Nat) (below : Bool) (s : State) : Out :=
  valid (ch < 48) <| event t s (whenOpenLoadTimer t ch below) (doneOpenLoadTimer t ch below)

/-- When OFF_DIAG_CHECK has its effect. -/
def whenOffDiagCheck (_t ch _outputMv _drivenMv : Nat) (s : State) : Bool :=
  s.swFlag ch 0 && (s.sw ch).phase == .off && s.power.rung == 0 && s.diagnosing ch

/-- Effect of OFF_DIAG_CHECK. -/
def doneOffDiagCheck (_t ch outputMv drivenMv : Nat) (s : State) : State :=
  if 2000 < outputMv then s.setDiag ch 2 true
  else (s.setDiag ch 2 false).setDiag ch 1 (decide (3000 < drivenMv))

/-- OFF_DIAG_CHECK (R436): the output with no source applied, then with the 0.5 mA source. -/
def execOffDiagCheck (t ch outputMv drivenMv : Nat) (s : State) : Out :=
  valid (ch < 48) <| event t s (whenOffDiagCheck t ch outputMv drivenMv) (doneOffDiagCheck t ch outputMv drivenMv)

/-- When OFFTEST_PULSE has its effect. -/
def whenOfftestPulse (t ch : Nat) (s : State) : Bool :=
  s.swFlag ch 3 && swClass ch != .pv && (s.sw ch).phase == .on && (s.sw ch).duty == 10000 &&
      (s.sw ch).pulse.isNone && decide ((s.sw ch).demandAt + 2 * ms ≤ t) && s.diagnosing ch &&
      (s.sw ch).testedAt.all fun u => decide (u + s.swCfg ch 36 2 * ms ≤ t)

/-- Effect of OFFTEST_PULSE. -/
def doneOfftestPulse (t ch : Nat) (s : State) : State :=
  (s.modSw ch fun x => { x with pulse := some t, testedAt := some t }).count (swUnit ch) 24

/-- OFFTEST_PULSE (R437): OFFTEST_MS after the last. -/
def execOfftestPulse (t ch : Nat) (s : State) : Out :=
  valid (ch < 48) <| event t s (whenOfftestPulse t ch) (doneOfftestPulse t ch)

/-- When OFFTEST_PULSE_END has its effect. -/
def whenOfftestPulseEnd (t ch outputMv : Nat) (s : State) : Bool :=
  match (s.sw ch).pulse with
  | some u => decide (outputMv < 2000) || decide (u + 400 * us ≤ t)
  | none => s.swFlag ch 3 && swClass ch != .pv && (s.sw ch).phase == .on && decide ((s.sw ch).duty < 10000) && s.diagnosing ch

/-- Effect of OFFTEST_PULSE_END. -/
def doneOfftestPulseEnd (_t ch outputMv : Nat) (s : State) : State :=
  (s.modSw ch fun x => { x with pulse := none }).setDiag ch 2 (decide (2000 ≤ outputMv))

/-- OFFTEST_PULSE_END (R437): the end of a pulse, or of a PWM off phase of a channel with a duty below 10,000. -/
def execOfftestPulseEnd (t ch outputMv : Nat) (s : State) : Out :=
  valid (ch < 48) <| event t s (whenOfftestPulseEnd t ch outputMv) (doneOfftestPulseEnd t ch outputMv)

/-- When JUNCTION_OVERTEMP has its effect. -/
def whenJunctionOvertemp (_t ch : Nat) (s : State) : Bool :=
  s.ctlRuns && (s.sw ch).fault == 0

/-- Effect of JUNCTION_OVERTEMP. -/
def doneJunctionOvertemp (_t ch : Nat) (s : State) : State :=
  (((s.modSw ch fun x => { x with cool := false }).latchFault ch 4 (s.sw ch).current)).finishRequests

/-- JUNCTION_OVERTEMP (R438). -/
def execJunctionOvertemp (t ch : Nat) (s : State) : Out :=
  valid (ch < 48) <| event t s (whenJunctionOvertemp t ch) (doneJunctionOvertemp t ch)

/-- When GSNS_OPEN_DETECT has its effect. -/
def whenGsnsOpenDetect (_t : Nat) (g : Grp) (s : State) : Bool :=
  s.ctlRuns && !(s.supplyGroup g).fallback

/-- Effect of GSNS_OPEN_DETECT. -/
def doneGsnsOpenDetect (_t : Nat) (g : Grp) (s : State) : State :=
  (s.modGroup g fun x => { x with fallback := true }).tellGroup g 3 0xFF 0 0 0

/-- GSNS_OPEN_DETECT (R54). -/
def execGsnsOpenDetect (t : Nat) (g : Grp) (s : State) : Out :=
  event t s (whenGsnsOpenDetect t g) (doneGsnsOpenDetect t g)

/-- When GSNS_RESTORED has its effect. -/
def whenGsnsRestored (_t : Nat) (g : Grp) (s : State) : Bool :=
  s.ctlRuns && (s.supplyGroup g).fallback

/-- Effect of GSNS_RESTORED. -/
def doneGsnsRestored (_t : Nat) (g : Grp) (s : State) : State :=
  (s.modGroup g fun x => { x with fallback := false }).tellGroup g 4 0xFF 0 0 0

/-- GSNS_RESTORED (R451). -/
def execGsnsRestored (t : Nat) (g : Grp) (s : State) : Out :=
  event t s (whenGsnsRestored t g) (doneGsnsRestored t g)

/-- When SERVICE_DRIVE_TIMEOUT has its effect. -/
def whenServiceDriveTimeout (t : Nat) (s : State) : Bool :=
  s.stage.service.any fun x => decide (x.2 ≤ t)

/-- Effect of SERVICE_DRIVE_TIMEOUT. -/
def doneServiceDriveTimeout (_t : Nat) (s : State) : State :=
  let c := ((s.stage.service).map (·.1)).getD 0
  let s := (s.modStage fun p => { p with service := none }).commandOff c
  (s.tellChannel c 7 (s.sw c).fault (s.sw c).current).finishRequests

/-- SERVICE_DRIVE_TIMEOUT (R448). -/
def execServiceDriveTimeout (t : Nat) (s : State) : Out :=
  event t s (whenServiceDriveTimeout t) (doneServiceDriveTimeout t)

/-- When AMBIENT_UPDATE has its effect. -/
def whenAmbientUpdate (_t : Nat) (_air : Int) (s : State) : Bool :=
  s.ctlRuns

/-- Effect of AMBIENT_UPDATE. -/
def doneAmbientUpdate (_t : Nat) (air : Int) (s : State) : State :=
  (List.range 48).foldl (fun s c => if s.swFlag c 2 then s.modSw c fun x => { x with rated := some (s.ratedAt c air) } else s)
    (s.modPower fun p => { p with airTemp := air })

/-- AMBIENT_UPDATE (R430): `air` in 0.1 °C. -/
def execAmbientUpdate (t : Nat) (air : Int) (s : State) : Out :=
  event t s (whenAmbientUpdate t air) (doneAmbientUpdate t air)

/-- When HOLD_MS_EXPIRY has its effect. -/
def whenHoldMsExpiry (t sw : Nat) (s : State) : Bool :=
  match (s.sw sw).held with
      | .holdFor u => decide (u ≤ t)
      | _ => false

/-- Effect of HOLD_MS_EXPIRY. -/
def doneHoldMsExpiry (_t sw : Nat) (s : State) : State :=
  let s := s.applySafe sw true
  s.tellChannel sw 6 (s.sw sw).fault (s.sw sw).current

/-- HOLD_MS_EXPIRY (R333, R443). -/
def execHoldMsExpiry (t sw : Nat) (s : State) : Out :=
  valid (sw < 48) <| event t s (whenHoldMsExpiry t sw) (doneHoldMsExpiry t sw)

/-! ### The family -/

/-- CONFIG lies outside R417, R430, R442 or R445. -/
def switchConfigBad (s : State) (r : Request) : Bool :=
  let c := r.u 4 1
  let k := swClass c
  let pv := k == .pv
  let (omin, omax, pmin, pmax) := match k with
    | .hc => (100, 5000, 100, 2000)
    | .mc => (20, 2000, 100, 2000)
    | .pv => (10, 1000, 1000, 4000)
  !(c < 48) || r.u 5 1 > 5 || (pv && r.u 5 1 != 3) || r.u 6 1 > 15 || !inRange (r.u 7 1) 1 4 ||
    !([50, 75, 100, 150, 250, 400, 600, 1000].contains (r.u 8 2)) || r.u 10 1 > insulationMax (r.u 7 1) + 30 ||
    !(r.u 11 1 ≤ 7 || r.u 11 1 == 0xFF) || !inRange (r.u 12 2) 10 1000 || !inRange (r.u 14 1) 1 100 || r.u 15 1 > 2 ||
    !(r.u 16 1 ≤ 200 || r.u 16 1 == 0xFF) || r.u 17 1 > 7 || r.u 18 2 > 60000 ||
    !(r.u 20 2 == 0 || inRange (r.u 20 2) omin omax) || !inRange (r.u 22 2) pmin pmax || !inRange (r.u 24 2) 600 3200 ||
    r.u 26 2 + 100 > r.u 24 2 || r.u 28 4 > swMax c ||
    (if pv then !(r.u 32 2 == 0 || inRange (r.u 32 2) 50 400) || r.u 34 2 > 500 else r.u 32 2 != 0 || r.u 34 2 != 0) ||
    !inRange (r.u 36 2) 100 10000 || !r.zero 38 2 || (bit (r.u 6 1) 1 && s.workingChannel c)

/-- Group unit a Load switch request addresses: that of the channel, or of the first entry's channel. -/
def swUnitOf (c : Nat) : Nat := if c < 48 then swUnit c else uGroup 0

/-- Refusals of SWITCH_CONFIG. -/
def checksSwitchConfig (r : Request) (s : State) : List (Bool × Status) :=
  let c := r.u 4 1
  [(switchConfigBad s r, .badParam),
      (decide (c < 48) && (!((s.sw c).phase == .off || (s.sw c).fault != 0) || (s.holder c).isSome), .busyId)]

/-- Refusals of the entries of SWITCH_CONFIG. -/
def entriesSwitchConfig (_r : Request) (_s : State) : List (List (Bool × Status)) :=
  []

/-- Effect of SWITCH_CONFIG. -/
def doneSwitchConfig (r : Request) (s : State) : State :=
  let c := r.u 4 1
  answer opSwitchConfig (swUnitOf c) r []
    (s.modSw c fun x => { x with cfg := r.bytes 4 36, rated := none, retriesLeft := none })

/-- SWITCH_CONFIG (R445): the present rated current counts from AMBIENT until the next housing air reading (assumption 38). -/
def execSwitchConfig (r : Request) (s : State) : Out :=
  let c := r.u 4 1
  serveEntries opSwitchConfig (swUnitOf c) r s true (checksSwitchConfig r) (entriesSwitchConfig r) (doneSwitchConfig r)

/-- Entry `i` of a SET (R446). -/
def setEntry (r : Request) (i : Nat) : SwEntry :=
  { ch := r.u (8 + 8 * i) 1, action := r.u (9 + 8 * i) 1, value := r.u (12 + 8 * i) 4, result := none, flags := 0 }

/-- The entries of a SET. -/
def setEntries (r : Request) : List SwEntry := (List.range (r.u 4 1)).map (setEntry r)

/-- The refusals of one SET entry (R420, R421, R446, R457). -/
def State.entryChecks (s : State) (r : Request) (i : Nat) : List (Bool × Status) :=
  let e := setEntry r i
  let c := e.ch
  let ok := decide (c < 48)
  let twice := (List.range i).any fun j => (setEntry r j).ch == c
  [(!ok || e.action > 2 || !r.zero (10 + 8 * i) 2 || twice || (e.value != 0xFFFFFFFF && e.value > swMax c), .badParam),
   (ok && (s.fenced (swUnit c) || (e.action != 0 && !s.modeLets s.mode.mode c)), .wrongMode),
   (ok && ((e.value != 0xFFFFFFFF && (s.holder c).isSome) || (e.action != 2 && s.ownedChannel c) ||
      (e.action != 2 && s.sections.state == .running && s.sectionTarget c)), .busyId),
   (ok && e.action != 0 && (s.sw c).fault != 0, .hwFault)]

/-- Put a request in the queue of the next tick (R418). -/
def State.queueSwitch (s : State) (q : Option Requester) (p : Option (Path × Nat)) (l : List SwEntry) : State :=
  s.modStage fun x =>
    { x with requests := x.requests ++ [{ req := q, due := tickAfter s.time, started := false, path := p, entries := l }] }

/-- Refusals of SET. -/
def checksSwitchSet (r : Request) (_s : State) : List (Bool × Status) :=
  [(!inRange (r.u 4 1) 1 48 || !r.zero 5 3 || r.len != 8 + 8 * r.u 4 1, .badParam)]

/-- Refusals of the entries of SET. -/
def entriesSwitchSet (r : Request) (s : State) : List (List (Bool × Status)) :=
  (List.range (r.u 4 1)).map (s.entryChecks r)

/-- Effect of SET. -/
def doneSwitchSet (r : Request) (s : State) : State :=
  let u := swUnitOf (r.u 8 1)
  let q := s.requester opSet r
  (s.accepted opSet u r []).queueSwitch (some q) (some ((s.chan r.ch).path, r.ch)) (setEntries r)

/-- SET (R418, R446): it takes effect at the first loop tick after dispatch. -/
def execSwitchSet (r : Request) (s : State) : Out :=
  let u := swUnitOf (r.u 8 1)
  serveEntries opSet u r s true (checksSwitchSet r) (entriesSwitchSet r) (doneSwitchSet r)

/-- Estimated time until θ is at 700 ‰, ms: τ ln(θ ÷ 0.7), by the series of the logarithm (R431, R447; assumption 39). -/
def State.coolMs (s : State) (c : Nat) : Nat :=
  let th := (s.sw c).theta.toNat
  let lim := 700000000000000
  if th ≤ lim then 0
  else
    let z := (th - lim) * 10 ^ 9 / (th + lim)
    let z2 := z * z / 10 ^ 9
    let z3 := z * z2 / 10 ^ 9
    let z5 := z3 * z2 / 10 ^ 9
    let z7 := z5 * z2 / 10 ^ 9
    let ln := 2 * (z + z3 / 3 + z5 / 5 + z7 / 7)
    max 1 ((wireFigures (s.swCfg c 8 2)).2 * ln / 10 ^ 6)

/-- Refusals of CLEAR_FAULT. -/
def checksClearFault (r : Request) (_s : State) : List (Bool × Status) :=
  let c := r.u 4 1
  [(!(c < 48) || !r.zero 5 3, .badParam)]

/-- Effect of CLEAR_FAULT. -/
def doneClearFault (r : Request) (s : State) : State :=
  let c := r.u 4 1
  let x := s.sw c
  if x.fault = 0 then answer opClearFault (swUnitOf c) r (le 4 0) s
  else if x.fault = 4 && !x.cool then
    refuseWith opClearFault (swUnitOf c) r .hwFault (le 4 (s.free 32).1.toNat) (s.free 32).2
  else if x.theta > 700000000000000 then refuseWith opClearFault (swUnitOf c) r .hwFault (le 4 (s.coolMs c)) s
  else
    let s := s.modSw c fun x => { x with fault := 0, retriesLeft := none }
    let s := s.named c (some ((s.chan r.ch).path, r.ch))
    answer opClearFault (swUnitOf c) r (le 4 0) (s.tellChannel c 3 0 x.current)

/-- CLEAR_FAULT (R431, R438, R439, R447): the time until a junction has cooled is open, a free value. -/
def execClearFault (r : Request) (s : State) : Out :=
  let c := r.u 4 1
  serve opClearFault (swUnitOf c) r s (checksClearFault r) (doneClearFault r)

/-- Refusals of SERVICE_DRIVE. -/
def checksServiceDrive (r : Request) (s : State) : List (Bool × Status) :=
  let c := r.u 4 1
  let on := r.u 5 1 == 1
  [(!(c < 48) || r.u 5 1 > 1 || !r.zero 6 2 || (r.u 8 4 != 0xFFFFFFFF && r.u 8 4 > swMax c) ||
        !inRange (r.u 12 4) 100 60000, .badParam),
      (decide (c < 48) && (s.stage.service.any (fun x => x.1 != c) || s.ownedChannel c ||
        (r.u 8 4 != 0xFFFFFFFF && (s.holder c).isSome)), .busyId),
      (decide (c < 48) && on && (s.sw c).fault != 0, .hwFault)]

/-- Refusals of the entries of SERVICE_DRIVE. -/
def entriesServiceDrive (_r : Request) (_s : State) : List (List (Bool × Status)) :=
  []

/-- Effect of SERVICE_DRIVE. -/
def doneServiceDrive (r : Request) (s : State) : State :=
  let c := r.u 4 1
  let on := r.u 5 1 == 1
  let q := s.requester opServiceDrive r
  let due := tickAfter s.time
  let s := (s.accepted opServiceDrive (swUnitOf c) r []).queueSwitch (some q) (some ((s.chan r.ch).path, r.ch))
    [{ ch := c, action := r.u 5 1, value := r.u 8 4, result := none, flags := 0 }]
  if on then s.modStage fun p => { p with service := some (c, due + r.u 12 4 * ms) } else s

/-- SERVICE_DRIVE (R448). -/
def execServiceDrive (r : Request) (s : State) : Out :=
  let c := r.u 4 1
  serveEntries opServiceDrive (swUnitOf c) r s true (checksServiceDrive r) (entriesServiceDrive r) (doneServiceDrive r)

/-- STATUS record of channel `c` (R449). -/
def State.switchRecord (s : State) (c : Nat) : List Byte :=
  let x := s.sw c
  le 1 c ++ le 1 x.stateCode ++ le 1 x.fault ++ le 1 (s.swDiag c) ++ le 4 (satNat (2 ^ 32 - 1) x.current) ++
    le 4 (s.swValue c) ++ le 2 (satNat 65535 x.thetaPm) ++ le 1 (s.swLeft c) ++ le 1 0

/-- Refusals of SWITCH_STATUS. -/
def checksSwitchStatus (r : Request) (_s : State) : List (Bool × Status) :=
  [(!inRange (r.u 1 1) 1 48 || r.u 0 1 + r.u 1 1 > 48 || !r.zero 2 2, .badParam)]

/-- Effect of SWITCH_STATUS. -/
def doneSwitchStatus (r : Request) (s : State) : State :=
  answer opSwitchStatus (swUnitOf (r.u 0 1)) r (le 8 s.time ++ le 1 (r.u 1 1) ++ le 7 0 ++
    (List.range (r.u 1 1)).flatMap fun i => s.switchRecord (r.u 0 1 + i)) s

/-- SWITCH_STATUS (R449). -/
def execSwitchStatus (r : Request) (s : State) : Out :=
  serve opSwitchStatus (swUnitOf (r.u 0 1)) r s (checksSwitchStatus r) (doneSwitchStatus r)

/-- Refusals of READ_CONFIG. -/
def checksReadConfig (r : Request) (_s : State) : List (Bool × Status) :=
  [(!(r.u 0 1 < 48) || !r.zero 1 3, .badParam)]

/-- Effect of READ_CONFIG. -/
def doneReadConfig (r : Request) (s : State) : State :=
  answer opReadConfig (swUnitOf (r.u 0 1)) r (s.swConfig (r.u 0 1)) s

/-- READ_CONFIG (R449). -/
def execReadConfig (r : Request) (s : State) : Out :=
  serve opReadConfig (swUnitOf (r.u 0 1)) r s (checksReadConfig r) (doneReadConfig r)

/-- GROUP_STATUS record (R450). -/
def State.groupRecord (s : State) (g : Grp) : List Byte :=
  let x := s.supplyGroup g
  le 1 g.code ++ le 1 (bitsOf [x.disturbed.isSome, s.groupCut g, s.groupLost g, x.fallback, x.shedDue.isSome]) ++ le 2 0 ++
    le 2 (satNat 65535 (x.vBus / 10)) ++ leInt 2 (clampInt (-32768) 32767 x.vGsns) ++ le 4 x.stud1 ++ le 4 x.peak ++
    le 4 x.disturbances.toNat ++ le 4 x.sheds.toNat

/-- Effect of GROUP_STATUS. -/
def doneGroupStatus (r : Request) (s : State) : State :=
  answer opGroupStatus (uGroup 0) r (s.groupRecord .a ++ s.groupRecord .b) s

/-- GROUP_STATUS (R450). -/
def execGroupStatus (r : Request) (s : State) : Out :=
  serve opGroupStatus (uGroup 0) r s (fun _ => []) (doneGroupStatus r)

end Sys2Proof.Machine
end

