-- ==== Sys2Proof/Machine/ExecHub.lean ====
section
/-! DEFINITION. The mailbox hub: register accesses, the fetch of a request, deliveries, the hub's restart, PCIe, tunnel and
cascade (05). -/

namespace Sys2Proof.Machine

/-! ### Register accesses -/

/-- When DOORBELL has its effect. -/
def whenDoorbell (_t : Nat) (src : Path) (ch : Nat) (_w : U32) (s : State) : Bool :=
  s.ownPath src ch

/-- Effect of DOORBELL. -/
def doneDoorbell (_t : Nat) (_src : Path) (ch : Nat) (w : U32) (s : State) : State :=
  let s0 := s
  let s := (s0.doorbellWrite ch w.toNat).flagWake s0
  if (s.chan ch).enable then s.rungWake 7 0 0 else s

/-- DOORBELL (R165, R185). -/
def execDoorbell (t : Nat) (src : Path) (ch : Nat) (w : U32) (s : State) : Out :=
  valid (ch < 64) <| event t s (whenDoorbell t src ch w) (doneDoorbell t src ch w)

/-- When RESET_CH has its effect. -/
def whenResetCh (_t : Nat) (src : Path) (ch : Nat) (_w : U32) (s : State) : Bool :=
  s.ownPath src ch

/-- Effect of RESET_CH. -/
def doneResetCh (_t : Nat) (_src : Path) (ch : Nat) (w : U32) (s : State) : State :=
  (s.ctrlWrite ch w.toNat).flagWake s

/-- RESET_CH, a write of CH_CTRL (R170). -/
def execResetCh (t : Nat) (src : Path) (ch : Nat) (w : U32) (s : State) : Out :=
  valid (ch < 64) <| event t s (whenResetCh t src ch w) (doneResetCh t src ch w)

/-- When CH_ENABLE has its effect. -/
def whenChEnable (_t : Nat) (src : Path) (ch : Nat) (_w : U32) (s : State) : Bool :=
  s.ownPath src ch

/-- Effect of CH_ENABLE. -/
def doneChEnable (_t : Nat) (_src : Path) (ch : Nat) (w : U32) (s : State) : State :=
  (s.ctrlWrite ch w.toNat).flagWake s

/-- ENABLE, a write of CH_CTRL (R158–R160). -/
def execChEnable (t : Nat) (src : Path) (ch : Nat) (w : U32) (s : State) : Out :=
  valid (ch < 64) <| event t s (whenChEnable t src ch w) (doneChEnable t src ch w)

/-- Effect of W1C_CLEAR. -/
def doneW1cClear (_t : Nat) (src : Path) (off : Nat) (w set : U32) (s : State) : State :=
  (s.w1cWrite src off w.toNat set.toNat).flagWake s

/-- A write to a W1C register, `set` holding the hardware sets of the same cycle (R181, R182). -/
def execW1cClear (t : Nat) (src : Path) (off : Nat) (w set : U32) (s : State) : Out :=
  valid (off % 4 = 0 && off < 0x10000) <| event t s (fun _ => true) (doneW1cClear t src off w set)

/-- When RPL_HEAD_WRITE has its effect. -/
def whenRplHeadWrite (_t : Nat) (src : Path) (ch : Nat) (_w : U32) (s : State) : Bool :=
  s.ownPath src ch

/-- Effect of RPL_HEAD_WRITE. -/
def doneRplHeadWrite (_t : Nat) (_src : Path) (ch : Nat) (w : U32) (s : State) : State :=
  (s.modChan ch (·.returnSlots w.toNat)).flagWake s

/-- RPL_HEAD (R168). -/
def execRplHeadWrite (t : Nat) (src : Path) (ch : Nat) (w : U32) (s : State) : Out :=
  valid (ch < 64) <| event t s (whenRplHeadWrite t src ch w) (doneRplHeadWrite t src ch w)

/-- When TIME_LO_READ has its effect. -/
def whenTimeLoRead (_t : Nat) (src : Path) (s : State) : Bool :=
  src == .app || s.windowOpen src

/-- Effect of TIME_LO_READ. -/
def doneTimeLoRead (_t : Nat) (src : Path) (s : State) : State :=
  let w := s.windowRead src 0x4020
  if s.hubUp then s.modHub fun h => { h with readData := w, timeHi := BitVec.ofNat 32 (s.copyTime islSup / 2 ^ 32) }
  else s.modHub fun h => { h with readData := w }

/-- A read of TIME_LO (R152, R163). -/
def execTimeLoRead (t : Nat) (src : Path) (s : State) : Out :=
  event t s (whenTimeLoRead t src) (doneTimeLoRead t src)

/-- When REGISTER_WRITE has its effect. -/
def whenRegisterWrite (_t : Nat) (src : Path) (_off : Nat) (_w : U32) (s : State) : Bool :=
  s.windowOpen src

/-- Effect of REGISTER_WRITE. -/
def doneRegisterWrite (_t : Nat) (src : Path) (off : Nat) (w : U32) (s : State) : State :=
  let s0 := s
  let s := (s0.windowWrite src off w).flagWake s0
  if off < 0x4000 && off % 256 = 0x0C && s.ownPath src (off / 256) && (s.chan (off / 256)).enable then s.rungWake 7 0 0 else s

/-- Any other register write (R10, R151, R153), one to PCIe configuration space among them (R186, assumption 110). -/
def execRegisterWrite (t : Nat) (src : Path) (off : Nat) (w : U32) (s : State) : Out :=
  valid (off % 4 = 0 && (off < 0x10000 || (src == .pcie && off < 0x11000))) <|
    event t s (whenRegisterWrite t src off w) (doneRegisterWrite t src off w)

/-- When C24_GO has its effect. -/
def whenC24Go (_t : Nat) (src : Path) (_w : U32) (s : State) : Bool :=
  s.windowOpen src

/-- Effect of C24_GO. -/
def doneC24Go (_t : Nat) (_src : Path) (w : U32) (s : State) : State :=
  s.compatCommand w.toNat

/-- GO, a write of C24_CMD (R192). -/
def execC24Go (t : Nat) (src : Path) (w : U32) (s : State) : Out :=
  event t s (whenC24Go t src w) (doneC24Go t src w)

/-! ### The fetch of a request (R167, R174, R322) -/

/-- The request next in a channel's ring: read from the host's memory on the ring paths and in RECOVERY, else the message that
came first. -/
def State.headRequest (s : State) (ch : Nat) (m : Slot) : Option Slot :=
  let c := s.chan ch
  if c.path == .recovery then (if s.update.romPort.isSome then some m else none)
  else if c.ringed then (if c.reqHead == c.reqTail then none else some m)
  else c.inbox.head?

/-- Reply slots the request takes (R167). -/
def slotsFor (m : Slot) : Nat := if (findOp m.family.toNat m.op.toNat).any (·.accepted) then 2 else 1

/-- The hub may fetch from a channel now (R126, R185, R187). -/
def State.mayServe (s : State) (c : Channel) : Bool :=
  s.hubUp && (s.hub.serving || s.mode.mode == .recovery) && s.power.rung == 0 && c.enable && (c.path != .pcie || s.hub.busMaster)

/-- The hub may fetch the request now (R100, R126, R167, R185, R187). -/
def State.mayFetch (s : State) (ch : Nat) (m : Slot) : Bool :=
  let c := s.chan ch
  s.mayServe c && !(s.power.holdupWait && bit m.flags.toNat 1) && decide (slotsFor m ≤ c.freeSlots)

/-- A slot is URGENT. -/
def slotUrgent (m : Slot) : Bool := bit m.flags.toNat 2

/-- A request waits on the channel, and nothing that R100 or R167 looks at can hold it back. -/
def State.fetchable (s : State) (c : Channel) : Bool :=
  s.mayServe c && !s.power.holdupWait && decide (2 ≤ c.freeSlots) && c.path != .recovery && c.reqHead != c.reqTail

/-- It is the turn of this request (R169): an URGENT one is always served first; another waits for a channel known to hold an
URGENT one, and for each channel whose turn comes before its own. What a ring in host memory holds behind its head is not known to
the hub, so a channel with more requests waiting may be one that holds an URGENT request (assumption 85). -/
def State.inTurn (s : State) (ch : Nat) (m : Slot) : Bool :=
  let c := s.chan ch
  let mayBeUrgent := slotUrgent m || (if c.ringed then decide (1 < (c.reqTail - c.reqHead).toNat) else c.inbox.any slotUrgent)
  let before := (List.range ((ch + 63 - s.hub.lastFetched) % 64)).map fun k => (s.hub.lastFetched + 1 + k) % 64
  mayBeUrgent ||
    (!(s.hub.chans.entries.any fun e => e.1 != ch && s.fetchable e.2 && e.2.inbox.any slotUrgent) &&
      !before.any fun n => s.fetchable (s.chan n))

/-- The slot is taken: REQ_HEAD advances and REQ_SPACE is set (R161). -/
def Channel.consume (c : Channel) : Channel :=
  if c.reqHead == c.reqTail then c
  else Channel.setFlag { c with inbox := c.inbox.drop 1, reqHead := c.reqHead + 1 } stSpace

/-- A fetched request as its unit gets it. -/
def requestOf (t ch : Nat) (m : Slot) : Request :=
  { time := t, ch := ch, tag := m.tag, wanted := bit m.flags.toNat 0, journal := bit m.flags.toNat 1, urgent := bit m.flags.toNat 2,
    payload := m.payload.take m.len.toNat }

/-- The unit a journalled OP of the Control or Machine function family addresses. -/
def State.laneUnit (s : State) (o : OpSpec) (r : Request) : Nat :=
  let n := r.u (if o.epoch then 4 else 0) 1
  if o.family == 0x11 then (if o == opFunctionDefine then uLane (s.pickLane n (r.u 7 1)) else (s.inst n).unit)
  else if o == opValueWrite then uLane 0
  else if o == opLoopDefine then uLane (if r.u 9 1 ≤ 3 then r.u 9 1 else 0)
  else (s.loop n).unit

/-- The unit a journalled OP addresses: UNIT of its record (R340). -/
def State.targetUnit (s : State) (o : OpSpec) (r : Request) : Nat :=
  match o.family with
  | 0x01 => uMaluf
  | 0x02 => uPower
  | 0x04 => uPlacement
  | 0x05 => if o == opLinkConfig then uLink else uFabric
  | 0x06 => uLedger
  | 0x10 => s.laneUnit o r
  | 0x11 => s.laneUnit o r
  | 0x12 => swUnitOf (r.u (if o == opSet then 8 else 4) 1)
  | 0x13 => uSection
  | 0x20 => if o == opNavConfig then uBaseband else uFusion
  | 0x21 => uTime
  | 0x30 => camUnit r
  | 0x31 => s.pipeUnit r
  | 0x32 => if o == opModelLoad || o == opModelUnload then uCluster 0 else homeCluster (min 63 (r.u 0 1))
  | 0x40 => busUnit r
  | 0x41 => uSwitch
  | 0x42 => uFleet
  | 0x50 => if o == opFiConfig then uFi else if o == opSiConfig then uSensor else uFo
  | 0x60 => if o == opFrontLight then uDisplayPower else uDisplay
  | _ => uSecurity

/-- Fetch a request: its checks, its place in the ledger where it is journalled, and the reply slots it holds. The unit executes it
with the row of its OP. -/
def State.fetch (s : State) (ch : Nat) (m : Slot) : State :=
  let s := (s.modChan ch (·.consume)).modHub fun h => { h with lastFetched := ch }
  match s.checkSlot (s.chan ch) m with
  | .error st => s.failSlot ch m st
  | .ok o =>
    let s := s.beat ch
    let j := bit m.flags.toNat 1
    if j && s.ledger.cmdFree < journalSize m then s.failSlot ch m .noSpace
    else
      let s := if j then s.journal ch o (s.targetUnit o (requestOf s.time ch m)) m else s
      let q : Outstanding := { tag := m.tag, family := o.family, op := o.op, slots := slotsFor m }
      s.modChan ch fun c => { c with outstanding := c.outstanding ++ [q] }

/-- When REQUEST_FETCH has its effect. -/
def whenRequestFetch (_t ch : Nat) (m : Slot) (s : State) : Bool :=
  (s.headRequest ch m).any fun m => s.mayFetch ch m && s.inTurn ch m

/-- Effect of REQUEST_FETCH. -/
def doneRequestFetch (_t ch : Nat) (m : Slot) (s : State) : State := (s.fetch ch ((s.headRequest ch m).getD m)).readControl

/-- REQUEST_FETCH (R167, R169, R174). -/
def execRequestFetch (t ch : Nat) (m : Slot) (s : State) : Out :=
  valid (ch < 64) <| event t s (whenRequestFetch t ch m) (doneRequestFetch t ch m)

/-! ### Deliveries -/

/-- The hub writes events: it serves, and a mode has been entered, or the ROM runs RECOVERY (R820, R822). -/
def State.hubDelivers (s : State) : Bool := s.hubUp && (s.mode.booted || s.mode.mode == .recovery)

/-- When COAL_TIMEOUT has its effect. -/
def whenCoalTimeout (t ch : Nat) (s : State) : Bool :=
  s.hubUp && (s.chan ch).coalDue.any fun d => decide (d ≤ t)

/-- Effect of COAL_TIMEOUT. -/
def doneCoalTimeout (_t ch : Nat) (s : State) : State :=
  (s.modChan ch (·.notifyReply)).flagWake s

/-- COAL_TIMEOUT (R162). -/
def execCoalTimeout (t ch : Nat) (s : State) : Out :=
  valid (ch < 64) <| event t s (whenCoalTimeout t ch) (doneCoalTimeout t ch)

/-- When HELD_ITEM_DISCARD has its effect. -/
def whenHeldItemDiscard (_t _ch : Nat) (s : State) : Bool :=
  s.hubDelivers

/-- Effect of HELD_ITEM_DISCARD. -/
def doneHeldItemDiscard (_t ch : Nat) (s : State) : State :=
  s.discardHeld ch

/-- HELD_ITEM_DISCARD (R822). -/
def execHeldItemDiscard (t ch : Nat) (s : State) : Out :=
  valid (ch < 64) <| event t s (whenHeldItemDiscard t ch) (doneHeldItemDiscard t ch)

/-- The hub is back after a SUP reset: before the boot commit the start goes on from where it stood (R126, R152, R171, R204, R327,
R337, R783, R822). -/
def State.hubBack (s : State) : State :=
  let s := s.bootMaluf.modIsland islSup fun x => { x with released := true }
  let keep := (s.cls clsMaluf).act.bind (·.req)
  let far := s.mode.booted || [islVis, islInf, islDis, islApp].any fun i => !s.inReset i
  let rom := s.mode.mode == .recovery
  let phase := if rom then HubPhase.recovery else if s.mode.booted then .ready else .starting
  let s := (s.modHub fun h => { h.restart keep with phase := phase, serving := far && !rom }).takeHeld
  let s := if far && !rom then s.enableChannel0 true else s
  let s := s.restartWatches.restartHeld.modUpdate fun u => { u with romPort := none }
  let s := if s.mode.booted then (s.startReplay 1).tellOutputs 2 else s
  s.finishAct clsMaluf

/-- When HUB_RESTART has its effect. -/
def whenHubRestart (_t : Nat) (s : State) : Bool :=
  s.hub.absent && s.power.life == .started && decide (s.power.rung < 3)

/-- Effect of HUB_RESTART. -/
def doneHubRestart (_t : Nat) (s : State) : State :=
  s.hubBack

/-- HUB_RESTART (R171): a hub made absent by a rung comes back with Run. -/
def execHubRestart (t : Nat) (s : State) : Out :=
  event t s (whenHubRestart t) (doneHubRestart t)

/-! ### PCIe (R170, R187) -/

/-- A function-level reset or PERST_N resets the endpoint and every channel bound to PCIE; that path is lost (R187, R334). -/
def State.pcieReset (s : State) : State :=
  let mask := fun (_ : Nat) (c : Channel) => { c with masked := true, msiPending := false }
  let s := (s.modHub fun h => { h with command := 0, bar0 := 0, msixTable := Bank.empty, chans := h.chans.mapAll mask }).losePath
    .pcie none
  if s.hub.absent then s
  else
    let f := fun (_ : Nat) (c : Channel) => if c.path == .pcie then c.resetCh stRestarted else c
    s.modHub fun h => { h with chans := h.chans.mapAll f }

/-- When PCIE_FUNCTION_RESET has its effect. -/
def whenPcieFunctionReset (_t : Nat) (perst : Bool) (s : State) : Bool :=
  s.hub.endpoint || perst

/-- Effect of PCIE_FUNCTION_RESET. -/
def donePcieFunctionReset (_t : Nat) (perst : Bool) (s : State) : State :=
  let s := if perst then s.modHub fun h => { h with perst := true } else s
  if s.hub.endpoint then s.pcieReset.flagWake s else s

/-- PCIE_FUNCTION_RESET (R187): with PERST_N asserted the endpoint is not reached until the pin's release (R76). -/
def execPcieFunctionReset (t : Nat) (perst : Bool) (s : State) : Out :=
  event t s (whenPcieFunctionReset t perst) (donePcieFunctionReset t perst)

/-- When PERST_N_RELEASE has its effect. -/
def whenPerstNRelease (_t : Nat) (s : State) : Bool :=
  s.hub.perst

/-- Effect of PERST_N_RELEASE. -/
def donePerstNRelease (_t : Nat) (s : State) : State :=
  let s := s.modHub fun h => { h with perst := false, endpoint := h.endpoint || (h.pcieStrap && s.power.strapsFixed) }
  if s.hub.endpoint then s.rungWake 7 0 0 else s

/-- PERST_N is released: the endpoint is enabled where the strap says so (R76), and the module may wake (R112). -/
def execPerstNRelease (t : Nat) (s : State) : Out :=
  event t s (whenPerstNRelease t) (donePerstNRelease t)

/-- When RING_DMA_FAIL has its effect. -/
def whenRingDmaFail (_t ch : Nat) (s : State) : Bool :=
  s.hubUp && (s.chan ch).path == .pcie && (s.chan ch).enable

/-- Effect of RING_DMA_FAIL. -/
def doneRingDmaFail (_t ch : Nat) (s : State) : State :=
  (s.resetChannel ch stRingError).flagWake s

/-- RING_DMA_FAIL (R170). -/
def execRingDmaFail (t ch : Nat) (s : State) : Out :=
  valid (ch < 64) <| event t s (whenRingDmaFail t ch) (doneRingDmaFail t ch)

/-! ### The Ethernet tunnel (R188, R189, R657, R787) -/

/-- The tunnel serves: the hub runs, NET runs, and the certificates are present. -/
def State.tunnelServes (s : State) : Bool :=
  s.hubUp && s.hub.serving && s.power.rung == 0 && s.unitUp uSwitch && (s.update.keys.find 1).isSome && (s.update.keys.find 2).isSome

/-- When TUNNEL_CONNECT has its effect. -/
def whenTunnelConnect (_t _session port : Nat) (_authenticated : Bool) (s : State) : Bool :=
  (s.ethPort port).link == 2

/-- Effect of TUNNEL_CONNECT. -/
def doneTunnelConnect (_t session port : Nat) (authenticated : Bool) (s : State) : State :=
  if !s.ethFlag port 2 then s.refuseDatagram port
  else if s.tunnelServes && authenticated && (s.hub.sessions.find session).isNone then
    s.modHub fun h => { h with sessions := h.sessions.put session { ch := none, lastMessage := s.time, answer := [] } }
  else s

/-- TUNNEL_CONNECT (R188): a client that is not authenticated is disconnected; on a port without TUNNEL nothing answers (R657). -/
def execTunnelConnect (t session port : Nat) (authenticated : Bool) (s : State) : Out :=
  valid (session < 8 && port < 7) <| event t s (whenTunnelConnect t session port authenticated) (doneTunnelConnect t session port authenticated)

/-- When TUNNEL_OPEN_RECORD has its effect. -/
def whenTunnelOpenRecord (_t session : Nat) (_ch _reserved : U16) (s : State) : Bool :=
  s.hubUp && (s.hub.sessions.find session).any fun x => x.ch.isNone

/-- Effect of TUNNEL_OPEN_RECORD. -/
def doneTunnelOpenRecord (_t session : Nat) (ch reserved : U16) (s : State) : State :=
  let n := ch.toNat
  let taken := s.hub.sessions.entries.any fun e => e.2.ch == some n
  if n ≤ 61 && reserved == 0 && (s.chan n).path == .tunnel && !taken then
    let x : TunnelSession := { ch := some n, lastMessage := s.time, answer := le 2 n ++ le 2 reserved.toNat }
    (s.modHub fun h => { h with sessions := h.sessions.put session x }).enableChannel n
  else s.endSession session

/-- TUNNEL_OPEN_RECORD (R189). -/
def execTunnelOpenRecord (t session : Nat) (ch reserved : U16) (s : State) : Out :=
  valid (session < 8) <| event t s (whenTunnelOpenRecord t session ch reserved) (doneTunnelOpenRecord t session ch reserved)

/-- When TUNNEL_MESSAGE has its effect. -/
def whenTunnelMessage (_t _session : Nat) (_m : Slot) (s : State) : Bool :=
  s.hubUp

/-- Effect of TUNNEL_MESSAGE. -/
def doneTunnelMessage (_t session : Nat) (m : Slot) (s : State) : State :=
  match s.hub.sessions.find session with
  | none => s
  | some x =>
    match x.ch with
    | none => s
    | some ch =>
      let x := { x with lastMessage := s.time }
      let s := if (s.chan ch).full then s else s.modHub fun h => { h with sessions := h.sessions.put session x }
      s.takeMessage ch m (some session)

/-- TUNNEL_MESSAGE (R189). -/
def execTunnelMessage (t session : Nat) (m : Slot) (s : State) : Out :=
  valid (session < 8) <| event t s (whenTunnelMessage t session m) (doneTunnelMessage t session m)

/-- When TUNNEL_CLOSE has its effect. -/
def whenTunnelClose (_t _session : Nat) (s : State) : Bool :=
  s.hubUp

/-- Effect of TUNNEL_CLOSE. -/
def doneTunnelClose (_t session : Nat) (s : State) : State :=
  s.endSession session

/-- TUNNEL_CLOSE (R189). -/
def execTunnelClose (t session : Nat) (s : State) : Out :=
  valid (session < 8) <| event t s (whenTunnelClose t session) (doneTunnelClose t session)

/-- When TUNNEL_IDLE_TIMEOUT has its effect. -/
def whenTunnelIdleTimeout (t session : Nat) (s : State) : Bool :=
  s.hubUp && (s.hub.sessions.find session).any fun x => decide (x.lastMessage + 30 * sec ≤ t)

/-- Effect of TUNNEL_IDLE_TIMEOUT. -/
def doneTunnelIdleTimeout (_t session : Nat) (s : State) : State :=
  s.endSession session

/-- TUNNEL_IDLE_TIMEOUT (R189). -/
def execTunnelIdleTimeout (t session : Nat) (s : State) : Out :=
  valid (session < 8) <| event t s (whenTunnelIdleTimeout t session) (doneTunnelIdleTimeout t session)

/-! ### The cascade (R190) -/

/-- When CASCADE_MESSAGE has its effect. -/
def whenCascadeMessage (_t ch : Nat) (_m : Slot) (s : State) : Bool :=
  s.hubUp && s.hub.serving && (s.chan ch).path == .cascade && s.fabric.link.phase == .up

/-- Effect of CASCADE_MESSAGE. -/
def doneCascadeMessage (_t ch : Nat) (m : Slot) (s : State) : State :=
  s.takeCascade ch m

/-- CASCADE_MESSAGE (R190): the channel runs from its first message (assumption 8); one whose boundary is lost resets it. -/
def execCascadeMessage (t ch : Nat) (m : Slot) (s : State) : Out :=
  valid (ch < 64) <| event t s (whenCascadeMessage t ch m) (doneCascadeMessage t ch m)

end Sys2Proof.Machine
end

