-- ==== Sys2Proof/Machine/ExecMode.lean ====
section
/-! DEFINITION. The Mode and Diagnostics families, and the module supervisor's mode changes (04, 06). -/

namespace Sys2Proof.Machine

/-! ### MODE_REQUEST (R127, R134, R138, R222–R226) -/

/-- Layout of MODE_REQUEST (R222, R223 step 1). -/
def modeRequestBad (r : Request) : Bool :=
  let kind := r.u 5 1
  kind > 2 || (kind == 0) != (r.len == 8) || !inRange (r.u 4 1) 0x02 0x0C || !r.zero 6 2

/-- The mode that commits on a host's request: LIMP in place of one of its six modes while a LIMP cause is active, with its cause
(R134, R229). -/
def State.committedFor (s : State) (b : Mode) : Mode × Nat :=
  match s.limpCause with
  | some c => if s.mode.mode != .limp && limpModes.contains b then (.limp, c) else (b, 0)
  | none => (b, 0)

/-- A MODE_REQUEST whose checks have passed (R223, R224). -/
def State.grantMode (s : State) (r : Request) (b : Mode) : State :=
  if b == s.mode.mode then
    let s := if b == .commission then s.modMode fun m => { m with session := some r.ch } else s
    answer opModeRequest moduleSupervisor r [] s
  else
    let q := s.requester opModeRequest r
    let s := s.accepted opModeRequest moduleSupervisor r []
    if b == .safeHold then s.forceHold 0 [] none (some q)
    else
      let (m, cause) := s.committedFor b
      s.prepare b m cause (some q) false []

/-- MODE_REQUEST past the checks of its own order: proof, then further conditions (R223, R225). -/
def State.tryMode (s : State) (r : Request) (b : Mode) : State :=
  let (ok, s) := s.authorize b (r.u 5 1) (r.bytes 8 16) (r.bytes 24 32)
  if !ok then refuse opModeRequest moduleSupervisor r .authFailed s
  else match s.furtherRefusal b with
    | some st => refuse opModeRequest moduleSupervisor r st s
    | none => s.grantMode r b

/-- Effect of MODE_REQUEST: held until a change in progress ends, but for TARGET SAFE_HOLD (R138, R224, assumption 119); before
the boot commit it is refused (R127). -/
def doneModeRequest (r : Request) (s : State) : State :=
  let no := fun (st : Status) => refuse opModeRequest moduleSupervisor r st s
  let hold := r.u 4 1 == Mode.safeHold.code
  let b := (Mode.ofCode (r.u 4 1)).getD .none
  if !opModeRequest.lenOk r.len then no .badLength
  else if !s.mode.booted then no .wrongMode
  else if s.mode.change.isSome && !hold then s.defer .modeRequest r
  else if !hold && (r.u 0 4 == 0 || r.u 0 4 != s.mode.epoch.toNat) then no .staleEpoch
  else if modeRequestBad r then no .badParam
  else if b != s.mode.mode && !hostTransition s.mode.mode b then no .wrongMode
  else s.tryMode r b

/-! ### The change (R141–R147) -/

/-- When ISLAND_READY has its effect: a vote is open and the island has not answered. -/
def whenIslandReady (_t island : Nat) (s : State) : Bool :=
  s.mode.change.any fun c => !c.forced && c.allReady.isNone && c.voters.contains island && !c.ready.contains island

/-- Effect of ISLAND_READY. -/
def doneIslandReady (t island : Nat) (s : State) : State :=
  match s.mode.change with
  | none => s
  | some c =>
    match s.islandRefuses island c.target with
    | some (u, reason) => s.abortChange reason u
    | none =>
      let c := { c with ready := c.ready ++ [island] }
      if c.voters.all c.ready.contains then
        let s := s.modMode fun m => { m with change := some { c with allReady := some t } }
        s.openModeRecord (firstTick t (20 * us))
      else s.modMode fun m => { m with change := some c }

/-- When ISLAND_REFUSAL has its effect. -/
def whenIslandRefusal (_t unit _reason : Nat) (s : State) : Bool :=
  s.mode.change.any fun c => !c.forced && c.allReady.isNone && c.voters.contains (islandOf unit) &&
      !c.ready.contains (islandOf unit)

/-- Effect of ISLAND_REFUSAL. -/
def doneIslandRefusal (_t unit reason : Nat) (s : State) : State :=
  s.abortChange reason unit

/-- When PREPARE_TIMEOUT has its effect. -/
def whenPrepareTimeout (t : Nat) (s : State) : Bool :=
  s.mode.change.any fun c => !c.forced && c.allReady.isNone && decide (c.prepare + 50 * ms ≤ t)

/-- Effect of PREPARE_TIMEOUT. -/
def donePrepareTimeout (_t : Nat) (s : State) : State :=
  match s.mode.change.bind fun c => c.voters.find? fun i => !c.ready.contains i with
  | some i => s.abortChange 4 (supervisorOf i)
  | none => s

/-- When MODE_COMMIT has its effect. -/
def whenModeCommit (t : Nat) (_missed : List Nat) (s : State) : Bool :=
  s.mode.change.any fun c => !c.forced && c.allReady.any fun r => firstTick r (20 * us) == t

/-- Effect of MODE_COMMIT. -/
def doneModeCommit (_t : Nat) (missed : List Nat) (s : State) : State :=
  s.commitChange missed

/-- When FORCED_SAFE_HOLD has its effect. -/
def whenForcedSafeHold (t : Nat) (_missed : List Nat) (s : State) : Bool :=
  s.mode.change.any fun c => c.forced && firstTick c.prepare (100 * us) == t

/-- Effect of FORCED_SAFE_HOLD. -/
def doneForcedSafeHold (_t : Nat) (missed : List Nat) (s : State) : State :=
  s.commitChange missed

/-- The module supervisor may begin a change of its own: it runs, and a mode has been entered. -/
def State.mayChange (s : State) : Bool :=
  s.power.life == .started && !s.inReset islSup && decide (s.power.rung < 2) && s.mode.booted

/-- When AUTO_LIMP_ENTRY has its effect. -/
def whenAutoLimpEntry (_t : Nat) (s : State) : Bool :=
  s.mayChange && s.mode.change.isNone && limpModes.contains s.mode.mode

/-- Effect of AUTO_LIMP_ENTRY. -/
def doneAutoLimpEntry (_t : Nat) (s : State) : State :=
  match s.limpCause with
  | some c => s.prepare .limp .limp c none false []
  | none => s

/-- AUTO_LIMP_ENTRY (R134). -/
def execAutoLimpEntry (t : Nat) (s : State) : Out :=
  event t s (whenAutoLimpEntry t) (doneAutoLimpEntry t)

/-- When AUTO_SAFE_HOLD has its effect. -/
def whenAutoSafeHold (_t : Nat) (s : State) : Bool :=
  s.mayChange && s.mode.change.all fun c => !c.forced

/-- Effect of AUTO_SAFE_HOLD. -/
def doneAutoSafeHold (_t : Nat) (s : State) : State :=
  match s.mode.holdPending with
  | [] => s
  | (cause, units, ch) :: rest =>
    let s := s.modMode fun m => { m with holdPending := rest }
    if cause = 0x24 && !hostTransition s.mode.mode .safeHold then s else s.forceHold cause units ch none

/-- When CONVERGENCE_DEADLINE has its effect. -/
def whenConvergenceDeadline (t unit : Nat) (s : State) : Bool :=
  s.mode.fences.any fun f => f.unit == unit && !f.late && f.commit.any fun k => decide (k + 200 * ms ≤ t)

/-- Effect of CONVERGENCE_DEADLINE. -/
def doneConvergenceDeadline (_t unit : Nat) (s : State) : State :=
  let s := s.modMode fun m => { m with fences := mapIf (fun f => f.unit == unit) (fun f => { f with late := true }) m.fences }
  s.askHold 0x23 [unit] none

/-- CONVERGENCE_DEADLINE (R147): 200 ms from the tick at which the unit was fenced. -/
def execConvergenceDeadline (t unit : Nat) (s : State) : Out :=
  valid (isUnit unit) <| event t s (whenConvergenceDeadline t unit) (doneConvergenceDeadline t unit)

/-! ### MODE_QUERY, AUTH_CHALLENGE (R225–R227) -/

/-- Effect of MODE_QUERY: PENDING is the mode that commits (R227, assumption 93). -/
def doneModeQuery (r : Request) (s : State) : State :=
  let m := s.mode
  answer opModeQuery moduleSupervisor r
    (le 1 m.mode.code ++ le 1 (bitsOf [m.converging, m.change.isSome]) ++ le 1 ((m.change.map (·.target.code)).getD 0) ++
      le 1 m.fences.length ++ le 4 m.epoch.toNat ++ le 8 m.commitTick ++ le 4 s.limpCauses ++ le 4 0 ++
      m.fences.flatMap fun f => le 2 f.unit) s

/-- MODE_QUERY (R227). -/
def execModeQuery (r : Request) (s : State) : Out :=
  serve opModeQuery moduleSupervisor r s (fun _ => []) (doneModeQuery r)

/-- Refusals of AUTH_CHALLENGE. -/
def checksAuthChallenge (r : Request) (_s : State) : List (Bool × Status) :=
  let kind := r.u 0 1
  [(!inRange kind 1 2 || !r.zero 1 3, .badParam)]

/-- Effect of AUTH_CHALLENGE. -/
def doneAuthChallenge (r : Request) (s : State) : State :=
  let kind := r.u 0 1
  let nonce := freeBytes s.freeCount 16
  let s := (s.spend 16).setChallenge kind (some { nonce := nonce, expires := s.time + 60 * sec })
  answer opAuthChallenge moduleSupervisor r (nonce ++ le 4 60000) s

/-- AUTH_CHALLENGE (R225): the nonce is a free value. -/
def execAuthChallenge (r : Request) (s : State) : Out :=
  serve opAuthChallenge moduleSupervisor r s (checksAuthChallenge r) (doneAuthChallenge r)

/-- When CHALLENGE_EXPIRY has its effect. -/
def whenChallengeExpiry (t kind : Nat) (s : State) : Bool :=
  (s.mode.challenge kind).any fun c => decide (c.expires ≤ t)

/-- Effect of CHALLENGE_EXPIRY. -/
def doneChallengeExpiry (_t kind : Nat) (s : State) : State :=
  s.setChallenge kind none

/-- CHALLENGE_EXPIRY (R225). -/
def execChallengeExpiry (t kind : Nat) (s : State) : Out :=
  valid (inRange kind 1 2) <| event t s (whenChallengeExpiry t kind) (doneChallengeExpiry t kind)

/-- When AUTH_LOCKOUT_END has its effect. -/
def whenAuthLockoutEnd (t kind : Nat) (s : State) : Bool :=
  (if kind = 1 then s.mode.lockPw else s.mode.lockVendor).any fun u => decide (u ≤ t)

/-- Effect of AUTH_LOCKOUT_END. -/
def doneAuthLockoutEnd (_t kind : Nat) (s : State) : State :=
  s.modMode fun m => if kind = 1 then { m with lockPw := none, failedPw := 0 } else { m with lockVendor := none, failedVendor := 0 }

/-- AUTH_LOCKOUT_END (R226): the count of failed proofs returns to 0. -/
def execAuthLockoutEnd (t kind : Nat) (s : State) : Out :=
  valid (inRange kind 1 2) <| event t s (whenAuthLockoutEnd t kind) (doneAuthLockoutEnd t kind)

/-! ### Self-tests (R230, R231) -/

/-- A stream has an endpoint at the unit. -/
def State.streamAttached (s : State) (u : Nat) : Bool :=
  s.fabric.streams.entries.any fun e =>
    Endpoint.ofUnits [u] e.2.producer || e.2.consumers.entries.any fun c => Endpoint.ofUnits [u] c.2.ep

/-- The unit has an output on. -/
def State.unitOutputOn (s : State) (u : Nat) : Bool :=
  let k := u % 256
  if islandOf u = islCtl && 4 ≤ k && k < 10 then (groupChannels (k - 4)).any fun c => (s.sw c).cmdOn || (s.sw c).phase != .off
  else if u = uFo then (List.range 16).any fun n => (s.fo n).on
  else if islandOf u = islVis && k < 16 then (s.cam k).on
  else if islandOf u = islDis then s.display.flOn || decide (0 < s.display.rails)
  else false

/-- Refusals of SELFTEST. -/
def checksSelftest (r : Request) (_s : State) : List (Bool × Status) :=
  let u := r.u 4 2
  let i := islandOf u
  [(!isUnit u || i == islAon || i == islSup || r.u 6 1 > 1 || !r.zero 7 1, .badParam),
      (isUnit u && i == islSaf, .safetyLocked)]

/-- Effect of SELFTEST. -/
def doneSelftest (r : Request) (s : State) : State :=
  let u := r.u 4 2
  let i := islandOf u
  let at_ := if isUnit u then u else uMaluf
  if s.answeredReady i then s.defer .selftest r
  else
    let q := s.requester opSelftest r
    let s := s.accepted opSelftest at_ r []
    let x : SelfTest := { unit := u, depth := r.u 6 1, req := q, started := s.time }
    if s.unitOutputOn u || s.streamAttached u || s.mode.change.isSome then s.endSelfTest x 2 0
    else (s.fence u 3 none true).modMode fun m => { m with selfTests := m.selfTests ++ [x] }

/-- SELFTEST (R230, R231): a busy unit completes at once with RESULT 0x02; after the island's ready answer the request is deferred
to the end of the change (R143). -/
def execSelftest (r : Request) (s : State) : Out :=
  let u := r.u 4 2
  let at_ := if isUnit u then u else uMaluf
  serve opSelftest at_ r s (checksSelftest r) (doneSelftest r)

/-- When SELFTEST_END has its effect. -/
def whenSelftestEnd (_t unit _result : Nat) (_failCode : U32) (s : State) : Bool := s.mode.selfTests.any fun x => x.unit == unit

/-- Effect of SELFTEST_END. -/
def doneSelftestEnd (_t unit result : Nat) (failCode : U32) (s : State) : State :=
  match s.mode.selfTests.find? fun x => x.unit == unit with
  | some x => s.endSelfTest x result (if result = 0 then 0 else failCode.toNat)
  | none => s

/-- SELFTEST_END (R231). -/
def execSelftestEnd (t unit result : Nat) (failCode : U32) (s : State) : Out :=
  valid (isUnit unit && (result == 0 || result == 1 || result == 3)) <|
    event t s (whenSelftestEnd t unit result failCode) (doneSelftestEnd t unit result failCode)

/-! ### Counters (R232–R234) -/

/-- Number of Diagnostics counters of a unit, the reserved ones among them (R233, and the counter lists of R383, R414, R452, R482,
R513, R543, R568, R593, R615, R654, R683, R705, R734, R771, R797, R822). -/
def counterCount (u : Nat) : Nat :=
  let k := u % 256
  match islandOf u with
  | 0x01 => if k = 0 then 17 else if k = 2 then 22 else 16
  | 0x02 => if k = 1 then 19 else if k < 3 then 20 else 16
  | 0x05 => if k < 16 then 29 else if k < 18 then 22 else 16
  | 0x06 => if k = 0 then 21 else if k < 4 then 20 else 16
  | 0x07 => if k = 0 then 26 else if k = 1 then 22 else if k < 4 then 20 else 16
  | 0x08 => if k < 4 then 26 else if k < 10 then 27 else if k = 10 then 23 else if k = 11 then 19 else 16
  | 0x09 => if k < 12 then 33 else if k = 12 then 22 else if k = 13 then 25 else 16
  | 0x0A => if k < 2 then 20 else 16
  | 0x0B => if k = 1 then 20 else if k < 3 then 18 else 16
  | _ => 16

/-- The ID names a unit or an island supervisor, whose counters the island supervisor holds (R233). -/
def hasCounters (u : Nat) : Bool := isUnit u || (islandOf u < 12 && u % 256 == 0xFF)

/-- Who answers: the island supervisor of the unit (R232); the module supervisor where the ID names none. -/
def counterUnit (u : Nat) : Nat := if hasCounters u then supervisorOf (islandOf u) else moduleSupervisor

/-- Counter `i` of a unit (R233). -/
def State.counter (s : State) (u i : Nat) : U32 := s.mode.diag.rd (u * 1024 + i) 0

/-- Refusals of COUNTER_READ. -/
def checksCounterRead (r : Request) (s : State) : List (Bool × Status) :=
  let u := r.u 0 2
  [(!hasCounters u || !inRange (r.u 4 2) 1 1000 || !r.zero 6 2, .badParam), (hasCounters u && s.inReset (islandOf u), .timeout)]

/-- Effect of COUNTER_READ. -/
def doneCounterRead (r : Request) (s : State) : State :=
  let u := r.u 0 2
  let first := r.u 2 2
  let n := min (r.u 4 2) (counterCount u - first)
  answer opCounterRead (counterUnit u) r
    (le 8 s.time ++ le 4 (s.island (islandOf u)).resets.toNat ++ le 2 first ++ le 2 n ++
      (List.range n).flatMap fun i => le 4 (s.counter u (first + i)).toNat) s

/-- COUNTER_READ (R232). -/
def execCounterRead (r : Request) (s : State) : Out :=
  let u := r.u 0 2
  serve opCounterRead (counterUnit u) r s (checksCounterRead r) (doneCounterRead r)

/-- Refusals of COUNTER_CLEAR. -/
def checksCounterClear (r : Request) (s : State) : List (Bool × Status) :=
  let u := r.u 0 2
  let n := r.u 4 2
  [(!hasCounters u || !(inRange n 1 1000 || n == 0xFFFF) || !r.zero 6 2, .badParam),
      (hasCounters u && s.inReset (islandOf u), .timeout)]

/-- Effect of COUNTER_CLEAR. -/
def doneCounterClear (r : Request) (s : State) : State :=
  let u := r.u 0 2
  let first := r.u 2 2
  let n := r.u 4 2
  let named := fun (k : Nat) => k / 1024 == u && (n == 0xFFFF || (first ≤ k % 1024 && k % 1024 < first + n))
  answer opCounterClear (counterUnit u) r [] (s.modMode fun m => { m with diag := m.diag.keep fun k _ => !named k })

/-- COUNTER_CLEAR (R234). -/
def execCounterClear (r : Request) (s : State) : Out :=
  let u := r.u 0 2
  serve opCounterClear (counterUnit u) r s (checksCounterClear r) (doneCounterClear r)

/-- The island has no power: a rung has taken it (R105, R111), or FLD's converter has failed (R688). -/
def State.islandOff (s : State) (i : Nat) : Bool :=
  s.inReset i && ((i == islFld && s.fieldIo.converterFailed) || (unitsOf i).any fun u => s.mode.fences.any fun f => f.unit == u && f.cause == 0)

/-- Effect of THERMAL_READ. -/
def doneThermalRead (r : Request) (s : State) : State :=
  let k := s.freeCount
  let x := fun (i : Nat) => le 2 (if i < 12 && s.islandOff i then 0x8000 else (Config.free 16 (k + i)).toNat)
  answer opThermalRead moduleSupervisor r
    (le 8 s.time ++ (List.range 12).flatMap x ++ leInt 2 s.power.plateTemp ++ x 12 ++ x 13 ++ leInt 2 s.power.airTemp ++ x 14 ++ le 2 0)
    (s.spend 15)

/-- THERMAL_READ (R235): 0x8000 for an island that is off; what the model's inputs do not give, a free value. -/
def execThermalRead (r : Request) (s : State) : Out :=
  serve opThermalRead moduleSupervisor r s (fun _ => []) (doneThermalRead r)

end Sys2Proof.Machine
end

