-- ==== Sys2Proof/Machine/StartOps.lean ====
section
/-! DEFINITION. The start of the module: release of module reset, the order of the islands, the boot mode; throttling of APP, INF
and VIS (03, 04, 25). -/

namespace Sys2Proof.Machine

/-! ### Release of module reset (R80, R110, R125, R126, R338) -/

/-- A voltage in the 10 mV units of an event, held to 0–65,535. -/
def volts (v : Int) : List Byte := le 2 (satNat 65535 ((max v 0).toNat / 10))

/-- Fields of OVERVOLTAGE and SUPPLY_STUD_LOST (R221). -/
def studFields (g : Grp) (on : Bool) (v : Int) : List Byte := le 1 (Grp.code g) ++ le 1 (flag on) ++ volts v

/-- Heat that a channel's hard current limit adds in 1 s (R338), in the units of its thermal memory: H² over I_n² τ (R429). -/
def State.secondHeat (s : State) (c : Nat) : Int :=
  ((hardLimit c ^ 2 * 10 ^ 15 / (s.ratedSquare c * (wireFigures (s.swCfg c 8 2)).2) : Nat) : Int)

/-- Thermal memory at the release: AON's own, or the copy in KEEP where AON has lost it, with 1 s of heat added where the copy of
the stop is missing (R110, R338). -/
def State.wakeTheta (s : State) : State :=
  if s.power.aonKept then s
  else
    let s := s.restoreTheta
    if s.power.copyMissing then
      (List.range 48).foldl (fun s c => s.modSw c fun x => { x with theta := x.theta + s.secondHeat c }) s
    else s

/-- A stud that is absent when the module starts counts as lost, and is reported (R48, R91). -/
def State.absentStuds (s : State) : State :=
  let tell := fun (s : State) (g : Grp) (v : Int) => s.raise uPower 0x020A (studFields g true v)
  let a := decide (s.power.vA < 3000)
  let b := decide (s.power.vB < 3000)
  let s := s.modPower fun p => { p with lostA := a, lostB := b }
  let s := if a then tell s .a s.power.vA else s
  if b then tell s .b s.power.vB else s

/-- Module reset is released: the ROM starts, and the wait of R100 begins. -/
def State.releaseReset (s : State) : State :=
  let s := s.wakeTheta
  let s := if s.power.aonKept then s else s.timeLost
  let s := s.modPower fun p =>
    { p with life := .started, reversed := false, resetN := false, rung := 0, holdupWait := true, waitSince := s.time,
             strapsFixed := false, aonKept := true, copyMissing := false, backupSince := none, lostA := false, lostB := false }
  let s := (s.modIsland islAon fun x => { x with released := true }).modIsland islSup fun x => { x with released := true }
  (s.modHub fun h => { h with absent := false, phase := .rom }).absentStuds

/-! ### Starting the islands (R126, R773, R778) -/

/-- Release islands in order, up to one whose image is still being copied; an island whose image does not load stays in reset. -/
def State.startIslands (s : State) : List Nat → State
  | [] => s
  | i :: l =>
    if !s.inReset i then s.startIslands l
    else if s.copyingIn i then s
    else match s.unsound i with
      | some c => (s.loadFailed c).startIslands l
      | none =>
        let s := s.releaseIsland i 1
        (if i = islSaf then s else s.finishActs i).startIslands l

/-- Islands the rows up to 100 ms release, in order. -/
def firstIslands : List Nat := [islMem, islCtl, islSaf, islNet, islFld, islNav]

/-- Islands the row at 400 ms releases. -/
def lastIslands : List Nat := [islVis, islInf, islDis, islApp]

/-- The start waits for no copy of R773 in these islands. -/
def State.copiesDone (s : State) (l : List Nat) : Bool := l.all fun i => !s.copyingIn i

/-- The ROM enters RECOVERY (R128, R154, R789): nothing else starts. -/
def State.enterRecovery (s : State) : State :=
  let s := (s.modMode fun m => { m with mode := .recovery }).modIsland islMem fun x => { x with released := true }
  let s := s.modChan 63 fun c => { c with path := .recovery }
  (s.modHub fun h => { h with phase := .recovery }).keepBindings

/-- Maluf starts: activations and returns that wait for a module start begin, and the islands follow (R126, R784). -/
def State.beginStart (s : State) : State :=
  let s := s.modHub fun h => { h with phase := .starting }
  let s := s.modFabric fun x =>
    { x with link := { x.link with phase := if x.link.enable && !s.hub.pcieStrap then .disabled else x.link.phase } }
  -- in Dernus mode training may begin, at once where the peer is present already (R82)
  let s := if s.fabric.link.enable && !s.hub.pcieStrap then s.enableLink true else s
  let s := (List.range 12).foldl (fun s i => s.restartImages i 6 true) s
  (s.bootMaluf.tellInterrupted.keepBindings).startIslands firstIslands

/-- The sixteenth samples are in: the straps hold until the next module reset (R80, R82, R154). -/
def State.fixStraps (s : State) (recov pcie : Bool) : State :=
  let s := s.modPower fun p => { p with recovStrap := recov, strapsFixed := true }
  let s := s.modHub fun h => { h with pcieStrap := pcie, endpoint := pcie && !h.perst }
  let s := s.modChan 0 fun c => { c with path := s.hub.path0 }
  let rom := recov || s.update.recoveryMark || !(s.loadable 0 || s.loadable 1)
  let s := s.modUpdate fun u => { u with recoveryMark := false }
  if rom then s.enterRecovery else s.beginStart

/-- FAR is trained: the hub accepts commands on channel 0 (R126, R160, R257). -/
def State.farReady (s : State) : State :=
  let s := (s.modHub fun h => { h with serving := true }).enableChannel0 false
  (if s.place.bootView = 0 then (s.modPlace fun q => { q with viewGb := q.bootGb }).createBootView else s).startIslands lastIslands

/-! ### The boot commit (R126–R129, R337) -/

/-- The boot mode and its HOLD_CAUSE (R128). -/
def State.bootMode (s : State) : Mode × Nat :=
  let m := s.mode
  if m.lifecycle == .vendor then (.factory, 0)
  else if !s.identityComplete then (.provision, 0)
  else if !s.recordValid then (.commission, 0)
  else if m.lastMode == .safeHold then (.safeHold, m.holdCause)
  else if s.safety.state == .safeFault then (.safeHold, m.bootHold.getD 0x21)
  else match m.bootHold, s.limpCause with
    | some c, _ => (.safeHold, c)
    | none, some c => (.limp, c)
    | none, none => (.parked, 0)

/-- REPLAY_DONE.CAUSE of a start: power-fail where the power was lost, module reset otherwise (R344). -/
def ModeState.replayCause (m : ModeState) : Nat := if [0, 1, 5].contains m.stopCause then 3 else 2

/-- POWER_FAIL events of the records not yet reported (R104, R319). -/
def State.tellPowerFails (s : State) : State :=
  (s.ledger.records.filter fun x => x.kind == .powerFail && x.state == .applied).foldl (fun s x =>
    (s.setRecord x.id .retired 0).raise uPower 0x0203 x.body) s

/-- OUTPUT_STATE of a module start: the last SNAPSHOT before the stop (R337); the present state where there is none (assumption 93). -/
def State.tellStartOutputs (s : State) : State :=
  match (s.ledger.records.filter fun x => x.kind == .snapshot && x.state == .applied).getLast? with
  | some x =>
    s.raiseHeld (supervisorOf islCtl) 0x0603 (x.body.take 8 ++ le 1 3 ++ x.body.drop 9) [0x06, 0x12]
  | none => s.tellOutputs 3

/-- The boot mode is committed with the next epoch; MODE_ENTERED is the first event, and the ledger replay begins. -/
def State.commitBoot (s : State) : State :=
  let (m, hold) := s.bootMode
  let last := s.mode
  let e := s.mode.epoch + 1
  let s := s.newRecord .mode .applied 0xFF uLedger (some s.time) e false (modeBody m m hold e.toNat s.time)
  let s := s.modMode fun x => { x with booted := true, bootHold := none }
  let s := s.modHub fun h => { h with phase := .ready }
  let fields := le 1 m.code ++ le 1 last.lastMode.code ++ le 1 last.stopCause ++ le 1 hold ++ le 4 e.toNat ++ le 8 last.stopTime
  let entered := s.eventOf moduleSupervisor 0x0301 fields []
  let s := s.modHub fun h => { h with raised := entered :: h.raised }
  let s := s.enterMode m
  let s := if m == .safeHold then
      s.modMode fun x => { x with holdCause := hold, holdUnits := if last.lastMode == .safeHold then x.holdUnits else [],
                                  holdRst := false }
    else s
  let owed := s.place.owed
  let s := s.modPlace fun q => { q with owed := [] }
  let s := owed.foldl (fun s e => s.raise uPlacement e.1 e.2) s
  let s := s.tellPowerFails.tellStartOutputs.restartHeld
  (s.startReplay last.replayCause).finishAct clsMaluf

/-! ### Throttling (R39, R807, R808) -/

/-- The component of a triple for APP, INF and VIS. -/
def pctOf (p : Nat × Nat × Nat) (k : Nat) : Nat := if k = 0 then p.1 else if k = 1 then p.2.1 else p.2.2

/-- Percentages in force but for crank hold: the lowest that a limit sets. -/
def Power.percents (p : Power) : Nat × Nat × Nat :=
  (min p.budgetPct.1 p.platePct.1, min p.budgetPct.2.1 p.platePct.2.1, min p.budgetPct.2.2 p.platePct.2.2)

/-- THROTTLE for each island whose percentage has changed, and with `always` for each that stays throttled; none in crank hold.
A release names the limit `why`. -/
def State.tellThrottle (s : State) (why : Nat) (always : Bool) : State :=
  if s.power.crank.isSome then s
  else
    let new := s.power.percents
    let told := s.power.toldPct
    let s := (List.range 3).foldl (fun s k =>
      let n := pctOf new k
      if n != pctOf told k || (always && n != 100) then
        let reason := if n = 100 then why else if n = pctOf s.power.platePct k then 1 else 0
        s.raise uPower 0x0207 (le 1 (([islApp, islInf, islVis] : List Nat).getD k 0) ++ le 1 (flag (n != 100)) ++ le 1 reason ++ le 1 n)
      else s) s
    s.modPower fun p => { p with toldPct := new }

/-- Rows of R807: threshold in 0.1 °C, and percentages. -/
def plateRows : List (Int × Nat × Nat × Nat) :=
  [(750, 50, 100, 100), (780, 25, 50, 100), (810, 25, 25, 50), (840, 12, 12, 25), (900, 6, 6, 6)]

/-- Percentages the cold plate sets at a reading, with the 3 °C of hysteresis from the present ones. -/
def platePercents (plate : Int) (old : Nat × Nat × Nat) : Nat × Nat × Nat :=
  let held := fun (r : Int × Nat × Nat × Nat) => old.1 ≤ r.2.1 && old.2.1 ≤ r.2.2.1 && old.2.2 ≤ r.2.2.2
  ((plateRows.filter fun r => r.1 ≤ plate || (held r && r.1 - 30 < plate)).getLast?.map (·.2)).getD (100, 100, 100)

/-- The power budget's next step: APP, then INF, then VIS; the percentage of a step is open, a free value of 0–99 (R39, assumption
3). -/
def State.budgetStep (s : State) : State :=
  let (x, s) := s.free 16
  let v := x.toNat % 100
  s.modPower fun p =>
    { p with budgetPct :=
        if p.budgetPct.1 = 100 then (v, p.budgetPct.2)
        else if p.budgetPct.2.1 = 100 then (p.budgetPct.1, v, p.budgetPct.2.2)
        else if p.budgetPct.2.2 = 100 then (p.budgetPct.1, p.budgetPct.2.1, v)
        else p.budgetPct }

end Sys2Proof.Machine
end

