-- ==== Sys2Proof/Machine/ExecPower.lean ====
section
/-! DEFINITION. Supply, start, crank hold, the reserve, throttling, rungs and wake sources: the module's own events and the Power
family (02, 03, 04, 06, 25). -/

namespace Sys2Proof.Machine

/-! ### Start and module reset (R77–R80, R100, R125, R126, R128) -/

/-- Record the studs' voltages. -/
def State.studs (s : State) (vA vB : Int) : State := s.modPower fun p => { p with vA := vA, vB := vB }

/-- When POWER_ON_START has its effect. -/
def whenPowerOnStart (_t : Nat) (vA vB : Int) (s : State) : Bool :=
  (s.power.life == .unpowered || s.power.life == .aonLost) && decide (8000 ≤ max vA vB)

/-- Effect of POWER_ON_START. -/
def donePowerOnStart (_t : Nat) (vA vB : Int) (s : State) : State :=
  let s := s.studs vA vB
  if s.power.resetN then s.modPower fun p => { p with life := .inReset } else s.releaseReset

/-- POWER_ON_START (R87, R125): held in reset while RESET_N is asserted. -/
def execPowerOnStart (t : Nat) (vA vB : Int) (s : State) : Out :=
  event t s (whenPowerOnStart t vA vB) (donePowerOnStart t vA vB)

/-- When RESET_N_ASSERT has its effect. -/
def whenResetNAssert (_t widthNs : Nat) (s : State) : Bool :=
  decide (2000 ≤ widthNs) && decide (s.power.rung ≤ 5)

/-- Effect of RESET_N_ASSERT. -/
def doneResetNAssert (_t widthNs : Nat) (s : State) : State :=
  let (x, s) := s.free 1
  if 10000 ≤ widthNs || x = 1 then
    let s := if s.power.life == .started then s.moduleReset 2 else s
    s.modPower fun p => { p with resetN := true }
  else s

/-- RESET_N_ASSERT (R77, R78): a pulse between 2 µs and 10 µs resets the module or not, a free value. -/
def execResetNAssert (t widthNs : Nat) (s : State) : Out :=
  event t s (whenResetNAssert t widthNs) (doneResetNAssert t widthNs)

/-- When RESET_N_RELEASE has its effect. -/
def whenResetNRelease (_t : Nat) (s : State) : Bool :=
  s.power.resetN || s.power.life == .inReset

/-- Effect of RESET_N_RELEASE. -/
def doneResetNRelease (_t : Nat) (s : State) : State :=
  if s.power.life == .inReset then s.releaseReset else s.modPower fun p => { p with resetN := false }

/-- RESET_N_RELEASE (R125, R126). -/
def execResetNRelease (t : Nat) (s : State) : Out :=
  event t s (whenResetNRelease t) (doneResetNRelease t)

/-- When STRAP_SAMPLING_DONE has its effect. -/
def whenStrapSamplingDone (_t _recovLow _pcieLow : Nat) (s : State) : Bool :=
  s.power.life == .started && s.power.rung == 0 && !s.power.strapsFixed && s.hubUp

/-- Effect of STRAP_SAMPLING_DONE. -/
def doneStrapSamplingDone (_t recovLow pcieLow : Nat) (s : State) : State :=
  s.fixStraps (recovLow == 16) (pcieLow == 16)

/-- STRAP_SAMPLING_DONE (R80–R82): a strap is low only where all 16 samples are. -/
def execStrapSamplingDone (t recovLow pcieLow : Nat) (s : State) : Out :=
  valid (recovLow ≤ 16 && pcieLow ≤ 16) <| event t s (whenStrapSamplingDone t recovLow pcieLow) (doneStrapSamplingDone t recovLow pcieLow)

/-- When FAR_TRAINED has its effect. -/
def whenFarTrained (_t : Nat) (s : State) : Bool :=
  s.hubUp && s.power.strapsFixed && s.hub.phase == .starting && !s.hub.serving && s.copiesDone firstIslands

/-- Effect of FAR_TRAINED. -/
def doneFarTrained (_t : Nat) (s : State) : State :=
  s.farReady

/-- FAR_TRAINED (R126). -/
def execFarTrained (t : Nat) (s : State) : Out :=
  event t s (whenFarTrained t) (doneFarTrained t)

/-- HOLDUP_LOW (R221). -/
def State.tellHoldup (s : State) (mj : Nat) (low : Bool) : State :=
  (s.modPower fun p => { p with holdupLow := low }).raise uPower 0x0209 (le 2 (satNat 65535 mj) ++ le 1 (flag low) ++ le 1 0)

/-- When HOLDUP_WAIT_END has its effect. -/
def whenHoldupWaitEnd (t energyMj : Nat) (s : State) : Bool :=
  s.power.life == .started && s.power.holdupWait && (decide (6000 ≤ energyMj) || decide (s.power.waitSince + 1500 * ms ≤ t))

/-- Effect of HOLDUP_WAIT_END. -/
def doneHoldupWaitEnd (_t energyMj : Nat) (s : State) : State :=
  let s := s.modPower fun p => { p with holdupWait := false, holdupMj := energyMj, holdupTested := true }
  let s := if energyMj < 6000 then s.tellHoldup energyMj true else s
  s.releaseDeferred.foRelease

/-- HOLDUP_WAIT_END (R100, R101): the first test of a start; what waited for the reserve goes on. -/
def execHoldupWaitEnd (t energyMj : Nat) (s : State) : Out :=
  event t s (whenHoldupWaitEnd t energyMj) (doneHoldupWaitEnd t energyMj)

/-- When HOLDUP_TEST has its effect. -/
def whenHoldupTest (_t _energyMj : Nat) (s : State) : Bool :=
  s.power.life == .started && !s.power.holdupWait && decide (s.power.rung ≤ 1)

/-- Effect of HOLDUP_TEST. -/
def doneHoldupTest (_t energyMj : Nat) (s : State) : State :=
  let low := decide (energyMj < 6000)
  let s := s.modPower fun p => { p with holdupMj := energyMj, holdupTested := true }
  if low != s.power.holdupLow then s.tellHoldup energyMj low else s

/-- HOLDUP_TEST (R101): in Run and Ready. -/
def execHoldupTest (t energyMj : Nat) (s : State) : Out :=
  event t s (whenHoldupTest t energyMj) (doneHoldupTest t energyMj)

/-- When BOOT_COMMIT has its effect. -/
def whenBootCommit (_t : Nat) (s : State) : Bool :=
  s.hubUp && s.hub.phase == .starting && s.hub.serving && !s.power.holdupWait && !s.mode.booted &&
      s.copiesDone lastIslands && s.safety.state != .selftest && !s.restoring

/-- Effect of BOOT_COMMIT. -/
def doneBootCommit (_t : Nat) (s : State) : State :=
  s.commitBoot

/-- BOOT_COMMIT (R126, R128). -/
def execBootCommit (t : Nat) (s : State) : Out :=
  event t s (whenBootCommit t) (doneBootCommit t)

/-! ### Supply events (R89–R104) -/

/-- The electronics run from the supply: Run or Ready (R92, R96). -/
def State.onSupply (s : State) : Bool := s.power.life == .started && decide (s.power.rung ≤ 1)

/-- When CRANK_HOLD_ENTRY has its effect. -/
def whenCrankHoldEntry (_t : Nat) (vA vB : Int) (s : State) : Bool :=
  s.onSupply && s.power.crank.isNone && decide (max vA vB < 6000)

/-- Effect of CRANK_HOLD_ENTRY. -/
def doneCrankHoldEntry (_t : Nat) (vA vB : Int) (s : State) : State :=
  let v := max vA vB
  let c : Crank := { vEntry := v, vMin := v, lowTime := 0, deferred := 0 }
  let s := (s.studs vA vB).modPower fun p => { p with crank := some c, lowSince := if v < 4500 then some s.time else none }
  s.raise uPower 0x0201 (volts v ++ le 2 0)

/-- CRANK_HOLD_ENTRY (R92–R97). -/
def execCrankHoldEntry (t : Nat) (vA vB : Int) (s : State) : Out :=
  event t s (whenCrankHoldEntry t vA vB) (doneCrankHoldEntry t vA vB)

/-- When CRANK_HOLD_EXIT has its effect. -/
def whenCrankHoldExit (_t : Nat) (vA vB _vMin : Int) (_lowNs : Nat) (s : State) : Bool :=
  s.power.crank.isSome && decide (6500 ≤ max vA vB)

/-- Effect of CRANK_HOLD_EXIT. -/
def doneCrankHoldExit (_t : Nat) (vA vB vMin : Int) (lowNs : Nat) (s : State) : State :=
  match s.power.crank with
  | none => s
  | some c =>
    let s := (s.studs vA vB).modPower fun p => { p with crank := none, lowSince := none }
    let s := s.raise uPower 0x0202
      (volts (min c.vMin vMin) ++ le 2 (satNat 65535 (max c.lowTime lowNs / 100000)) ++ le 4 c.deferred)
    (s.releaseDeferred.foRelease.restartWatches).tellThrottle 1 true

/-- CRANK_HOLD_EXIT (R95, R97, R208, R808). -/
def execCrankHoldExit (t : Nat) (vA vB vMin : Int) (lowNs : Nat) (s : State) : Out :=
  event t s (whenCrankHoldExit t vA vB vMin lowNs) (doneCrankHoldExit t vA vB vMin lowNs)

/-- When CRANK_LOW_TIMER_RESET has its effect. -/
def whenCrankLowTimerReset (_t : Nat) (s : State) : Bool :=
  s.power.crank.isSome && s.power.lowSince.isSome

/-- Effect of CRANK_LOW_TIMER_RESET. -/
def doneCrankLowTimerReset (_t : Nat) (s : State) : State :=
  let low := s.time - s.power.lowSince.getD s.time - ms
  s.modPower fun p => { p with lowSince := none, crank := p.crank.map fun c => { c with lowTime := max c.lowTime low } }

/-- CRANK_LOW_TIMER_RESET (R96, R97): the supply has been at or above 4.5 V for 1 ms. -/
def execCrankLowTimerReset (t : Nat) (s : State) : Out :=
  event t s (whenCrankLowTimerReset t) (doneCrankLowTimerReset t)

/-- When CRANK_LOW_TIMEOUT has its effect. -/
def whenCrankLowTimeout (t : Nat) (vA vB _vMin : Int) (s : State) : Bool :=
  s.onSupply && s.power.crank.isSome && decide (max vA vB < 4500) &&
      s.power.lowSince.all fun u => decide (u + 50 * ms < t)

/-- Effect of CRANK_LOW_TIMEOUT. -/
def doneCrankLowTimeout (_t : Nat) (vA vB vMin : Int) (s : State) : State :=
  let low := (s.power.crank.map (·.vMin)).getD vMin
  (s.studs vA vB).powerFail 2 (min low vMin)

/-- CRANK_LOW_TIMEOUT (R96, R102). -/
def execCrankLowTimeout (t : Nat) (vA vB vMin : Int) (s : State) : Out :=
  event t s (whenCrankLowTimeout t vA vB vMin) (doneCrankLowTimeout t vA vB vMin)

/-- When SUPPLY_BELOW_3V has its effect. -/
def whenSupplyBelow3v (_t : Nat) (vA vB : Int) (_s : State) : Bool :=
  decide (max vA vB < 3000)

/-- Effect of SUPPLY_BELOW_3V. -/
def doneSupplyBelow3v (_t : Nat) (vA vB : Int) (s : State) : State :=
  let s := s.studs vA vB
  let low := (s.power.crank.map (·.vMin)).getD (max vA vB)
  if s.onSupply then s.powerFail 1 (min low (max vA vB))
  else match s.power.life with
    | .started => s.modPower fun p => { p with backupSince := some (p.backupSince.getD s.time) }
    | .inReset => s.modPower fun p => { p with life := .unpowered, backupSince := some s.time }
    | _ => s

/-- SUPPLY_BELOW_3V (R96, R123): a power-fail in Run and Ready; in the lower rungs AON draws on its backup store. -/
def execSupplyBelow3v (t : Nat) (vA vB : Int) (s : State) : Out :=
  event t s (whenSupplyBelow3v t vA vB) (doneSupplyBelow3v t vA vB)

/-- When AON_BACKUP_TIMEOUT has its effect. -/
def whenAonBackupTimeout (t : Nat) (s : State) : Bool :=
  s.power.backupSince.any fun u => decide (u + 60 * sec ≤ t)

/-- Effect of AON_BACKUP_TIMEOUT. -/
def doneAonBackupTimeout (_t : Nat) (s : State) : State :=
  let s0 := s
  match s0.power.life with
  | .started =>
    let missing := decide (s0.power.rung < 4)
    let s := s0.forgetAll 5 3
    s.modPower fun p => { p with life := .aonLost, aonKept := false, copyMissing := missing, backupSince := none }
  | .unpowered => s0.modPower fun p => { p with aonKept := false, backupSince := none }
  | _ => s0

/-- AON_BACKUP_TIMEOUT (R110, R123): AON loses power after 60 s; the next start has STOP_CAUSE 0x05. -/
def execAonBackupTimeout (t : Nat) (s : State) : Out :=
  event t s (whenAonBackupTimeout t) (doneAonBackupTimeout t)

/-- Record the voltage of one stud. -/
def State.stud (s : State) (g : Grp) (v : Int) : State :=
  s.modPower fun p => match g with
    | .a => { p with vA := v }
    | .b => { p with vB := v }

/-- Mark a group cut or restored. -/
def State.markCut (s : State) (g : Grp) (on : Bool) : State :=
  s.modPower fun p => match g with
    | .a => { p with cutA := on }
    | .b => { p with cutB := on }

/-- Mark a stud lost or returned. -/
def State.markLost (s : State) (g : Grp) (on : Bool) : State :=
  s.modPower fun p => match g with
    | .a => { p with lostA := on }
    | .b => { p with lostB := on }

/-- The module measures its studs. -/
def State.measures (s : State) : Bool := s.power.life == .started

/-- When OVERVOLTAGE_CUT has its effect. -/
def whenOvervoltageCut (_t : Nat) (g : Grp) (v : Int) (s : State) : Bool :=
  s.measures && !s.groupCut g && decide (37000 < v)

/-- Effect of OVERVOLTAGE_CUT. -/
def doneOvervoltageCut (_t : Nat) (g : Grp) (v : Int) (s : State) : State :=
  (((s.stud g v).markCut g true).supplyGone g).raise uPower 0x0208 (studFields g true v)

/-- OVERVOLTAGE_CUT (R89). -/
def execOvervoltageCut (t : Nat) (g : Grp) (v : Int) (s : State) : Out :=
  event t s (whenOvervoltageCut t g v) (doneOvervoltageCut t g v)

/-- When OVERVOLTAGE_RESTORE has its effect. -/
def whenOvervoltageRestore (_t : Nat) (g : Grp) (v : Int) (s : State) : Bool :=
  s.measures && s.groupCut g && decide (v < 35000)

/-- Effect of OVERVOLTAGE_RESTORE. -/
def doneOvervoltageRestore (_t : Nat) (g : Grp) (v : Int) (s : State) : State :=
  (((s.stud g v).markCut g false).raise uPower 0x0208 (studFields g false v)).supplyBack g false

/-- OVERVOLTAGE_RESTORE (R87, R89). -/
def execOvervoltageRestore (t : Nat) (g : Grp) (v : Int) (s : State) : Out :=
  event t s (whenOvervoltageRestore t g v) (doneOvervoltageRestore t g v)

/-- When STUD_LOST has its effect. -/
def whenStudLost (_t : Nat) (g : Grp) (v : Int) (s : State) : Bool :=
  s.measures && !s.groupLost g && decide (v < 3000)

/-- Effect of STUD_LOST. -/
def doneStudLost (_t : Nat) (g : Grp) (v : Int) (s : State) : State :=
  (((s.stud g v).markLost g true).supplyGone g).raise uPower 0x020A (studFields g true v)

/-- STUD_LOST (R91). -/
def execStudLost (t : Nat) (g : Grp) (v : Int) (s : State) : Out :=
  event t s (whenStudLost t g v) (doneStudLost t g v)

/-- When STUD_RETURNED has its effect. -/
def whenStudReturned (_t : Nat) (g : Grp) (v : Int) (s : State) : Bool :=
  s.measures && ((s.groupLost g && decide (6000 ≤ v)) || (s.power.backupSince.isSome && decide (3000 < v)))

/-- Effect of STUD_RETURNED. -/
def doneStudReturned (_t : Nat) (g : Grp) (v : Int) (s : State) : State :=
  let s := (s.stud g v).modPower fun p => { p with backupSince := none }
  if s.groupLost g && decide (6000 ≤ v) then
    ((s.markLost g false).raise uPower 0x020A (studFields g false v)).supplyBack g true
  else s

/-- STUD_RETURNED (R91, R123): below Ready a stud back above 3.0 V ends AON's draw on its backup store, whether or not it counts as
returned. -/
def execStudReturned (t : Nat) (g : Grp) (v : Int) (s : State) : Out :=
  event t s (whenStudReturned t g v) (doneStudReturned t g v)

/-- When REVERSE_BATTERY has its effect. -/
def whenReverseBattery (_t : Nat) (vA vB : Int) (_s : State) : Bool :=
  decide (max vA vB < 0)

/-- Effect of REVERSE_BATTERY. -/
def doneReverseBattery (_t : Nat) (vA vB : Int) (s : State) : State :=
  let s := s.studs vA vB
  let s := if s.onSupply then s.powerFail 1 (max vA vB)
    else if s.power.life == .started then s.modPower fun p => { p with backupSince := some (p.backupSince.getD s.time) }
    else if s.power.life == .inReset then s.modPower fun p => { p with life := .unpowered, backupSince := some s.time }
    else s
  s.modPower fun p => { p with reversed := true }

/-- REVERSE_BATTERY (R90): the module has no supply; a module that ran has lost it (R96). -/
def execReverseBattery (t : Nat) (vA vB : Int) (s : State) : Out :=
  event t s (whenReverseBattery t vA vB) (doneReverseBattery t vA vB)

/-! ### Throttling (R39, R807, R808) -/

/-- When THERMAL_DERATE_CHECK has its effect. -/
def whenThermalDerateCheck (_t : Nat) (_plate : Int) (s : State) : Bool :=
  s.onSupply

/-- Effect of THERMAL_DERATE_CHECK. -/
def doneThermalDerateCheck (_t : Nat) (plate : Int) (s : State) : State :=
  (s.modPower fun p => { p with plateTemp := plate, platePct := platePercents plate p.platePct }).tellThrottle 1 false

/-- THERMAL_DERATE_CHECK (R807). -/
def execThermalDerateCheck (t : Nat) (plate : Int) (s : State) : Out :=
  event t s (whenThermalDerateCheck t plate) (doneThermalDerateCheck t plate)

/-- When POWER_BUDGET_EXCEEDED has its effect. -/
def whenPowerBudgetExceeded (_t _milliwatts : Nat) (s : State) : Bool :=
  s.onSupply

/-- Effect of POWER_BUDGET_EXCEEDED. -/
def donePowerBudgetExceeded (_t milliwatts : Nat) (s : State) : State :=
  let s := s.modPower fun p => { p with elecMw := milliwatts }
  let s := if 95000 < milliwatts then s.budgetStep else s.modPower fun p => { p with budgetPct := (100, 100, 100) }
  s.tellThrottle 0 false

/-- POWER_BUDGET_EXCEEDED (R38, R39): one step further above 95 W; a demand that no longer exceeds it releases every step. -/
def execPowerBudgetExceeded (t milliwatts : Nat) (s : State) : Out :=
  event t s (whenPowerBudgetExceeded t milliwatts) (donePowerBudgetExceeded t milliwatts)

/-! ### The Power family (R211–R220) -/

/-- RUNG_REQUEST lies outside R211 or R212. -/
def rungBad (r : Request) : Bool :=
  let target := r.u 0 1
  !inRange target 1 7 || r.u 1 1 > 1 || (r.u 1 1 == 1) != (target == 7) || r.u 2 2 > 60 || (target == 3 && r.u 4 1 > 16) ||
    !r.zero 5 3

/-- Refusals of RUNG_REQUEST. -/
def checksRungRequest (r : Request) (s : State) : List (Bool × Status) :=
  [(s.power.entering.isSome, .busyId), (rungBad r, .badParam)]

/-- Effect of RUNG_REQUEST. -/
def doneRungRequest (r : Request) (s : State) : State :=
  if s.mode.change.isSome then s.defer .rungRequest r
  else
    let q := s.requester opRungRequest r
    let s := match s.power.wait with
      | some w => s.rungRefused w 0x0C
      | none => s
    let w : RungWait := { target := r.u 0 1, retain := r.u 4 1, shelfConfirm := r.u 1 1 == 1,
                          until? := some (s.time + r.u 2 2 * sec), req := some q }
    (s.accepted opRungRequest uPower r []).modPower fun p => { p with wait := some w }

/-- RUNG_REQUEST (R211, R212): while a mode change runs it is held, and evaluated at the change's end (R121). -/
def execRungRequest (r : Request) (s : State) : Out :=
  serve opRungRequest uPower r s (checksRungRequest r) (doneRungRequest r)

/-- Keep-awake holds have changed: a hold cancels an automatic wait, and the end of the last one starts the delays (R119). -/
def State.holdsChanged (s old : State) : State :=
  let s := if s.keptAwake then s.modPower fun p => { p with wait := p.wait.filter fun w => w.req.isSome } else s
  if s.keptAwake != old.keptAwake then s.countDescent else s

/-- Refusals of KEEP_AWAKE. -/
def checksKeepAwake (r : Request) (_s : State) : List (Bool × Status) :=
  let n := r.u 0 2
  [(n > 600 || !r.zero 2 2, .badParam)]

/-- Effect of KEEP_AWAKE. -/
def doneKeepAwake (r : Request) (s : State) : State :=
  let n := r.u 0 2
  let s' := s.modChan r.ch fun c => { c with keepAwake := if n = 0 then none else some (s.time + n * sec) }
  answer opKeepAwake uPower r [] (s'.holdsChanged s)

/-- KEEP_AWAKE (R118, R214). -/
def execKeepAwake (r : Request) (s : State) : Out :=
  serve opKeepAwake uPower r s (checksKeepAwake r) (doneKeepAwake r)

/-- When KEEP_AWAKE_EXPIRY has its effect. -/
def whenKeepAwakeExpiry (t ch : Nat) (s : State) : Bool :=
  (s.chan ch).keepAwake.any fun u => decide (u ≤ t)

/-- Effect of KEEP_AWAKE_EXPIRY. -/
def doneKeepAwakeExpiry (_t ch : Nat) (s : State) : State :=
  let s := s.modChan ch fun c => { c with keepAwake := none }
  if s.keptAwake then s else s.countDescent

/-- KEEP_AWAKE_EXPIRY (R118, R119, R214). -/
def execKeepAwakeExpiry (t ch : Nat) (s : State) : Out :=
  valid (ch < 64) <| event t s (whenKeepAwakeExpiry t ch) (doneKeepAwakeExpiry t ch)

/-- Bits of a number. -/
def bitCount (w x : Nat) : Nat := ((List.range w).filter fun b => bit x b).length

/-- Refusals of WAKE_CONFIG. -/
def checksWakeConfig (r : Request) (s : State) : List (Bool × Status) :=
  let alarm := r.u 8 8
  let sel := r.u 6 2
  [(r.u 1 1 != 0 || r.u 2 1 > 3 || r.u 3 1 > 31 || r.u 4 2 > 0xFFF || sel > 0xFFF || !r.zero 16 4 ||
      (r.u 2 1 == 0 && bit (r.u 0 2) 1) || bitCount 12 sel > 4 ||
      (List.range 12).any (fun m => bit sel m && (s.power.filters.find m).isNone) ||
      (alarm != 0 && decide (alarm < s.time + 2 * sec)), .badParam)]

/-- Effect of WAKE_CONFIG. -/
def doneWakeConfig (r : Request) (s : State) : State :=
  let alarm := r.u 8 8
  let sel := r.u 6 2
  let w : WakeConfig := { sources := r.u 0 2, wakeInEdge := r.u 2 1, tc10 := r.u 3 1, canPattern := r.u 4 2, canSelective := sel,
                          alarm := alarm }
  answer opWakeConfig uPower r [] (s.modPower fun p => { p with wake := w })

/-- WAKE_CONFIG (R113, R215, R216): WAKE_IN_EDGE is 0 only where its source is off. -/
def execWakeConfig (r : Request) (s : State) : Out :=
  serve opWakeConfig uPower r s (checksWakeConfig r) (doneWakeConfig r)

/-- Refusals of CAN_WAKE_FILTER. -/
def checksCanWakeFilter (r : Request) (s : State) : List (Bool × Status) :=
  let m := r.u 0 1
  let format := r.u 1 1
  let over11 := fun (x : Nat) => decide (0x7FF < x)
  let over29 := fun (x : Nat) => decide (0x1FFFFFFF < x)
  [(m > 11 || !(format ≤ 1 || format == 0xFF) || r.u 2 1 > 8 || !r.zero 3 1 ||
      (format == 0 && (over11 (r.u 4 4) || over11 (r.u 8 4))) || (format == 1 && (over29 (r.u 4 4) || over29 (r.u 8 4))) ||
      (format == 0xFF && bit s.power.wake.canSelective m), .badParam)]

/-- Effect of CAN_WAKE_FILTER. -/
def doneCanWakeFilter (r : Request) (s : State) : State :=
  let m := r.u 0 1
  let format := r.u 1 1
  let f : WakeFilter := { format := format, dlc := r.u 2 1, id := BitVec.ofNat 32 (r.u 4 4), mask := BitVec.ofNat 32 (r.u 8 4),
                          data := r.bytes 12 8, dataMask := r.bytes 20 8 }
  answer opCanWakeFilter uPower r []
    (s.modPower fun p => { p with filters := if format = 0xFF then p.filters.erase m else p.filters.put m f })

/-- CAN_WAKE_FILTER (R217, R218). -/
def execCanWakeFilter (r : Request) (s : State) : Out :=
  serve opCanWakeFilter uPower r s (checksCanWakeFilter r) (doneCanWakeFilter r)

/-- A nonzero delay may not be shorter than a nonzero one of a shallower rung (R219). -/
def shorter (deep shallow : Nat) : Bool := deep != 0 && shallow != 0 && decide (deep < shallow)

/-- Refusals of DESCENT_SET. -/
def checksDescentSet (r : Request) (_s : State) : List (Bool × Status) :=
  let d := r.u 0 4
  let h := r.u 4 4
  let k := r.u 8 4
  let out := fun (x : Nat) => !(x == 0 || inRange x 10 2592000)
  [(out d || out h || out k || shorter h d || shorter k d || shorter k h, .badParam)]

/-- Effect of DESCENT_SET. -/
def doneDescentSet (r : Request) (s : State) : State :=
  let d := r.u 0 4
  let h := r.u 4 4
  let k := r.u 8 4
  answer opDescentSet uPower r [] (s.modPower fun p => { p with dormantS := d, hibernateS := h, keepS := k })

/-- DESCENT_SET (R119, R219). -/
def execDescentSet (r : Request) (s : State) : Out :=
  serve opDescentSet uPower r s (checksDescentSet r) (doneDescentSet r)

/-- Longest remaining keep-awake hold, s, rounded up (R220). -/
def State.holdLeft (s : State) : Nat :=
  (s.hub.chans.entries.map fun e => ((e.2.keepAwake.getD 0 - s.time) + sec - 1) / sec).foldl max 0

/-- Number of active keep-awake holds (R220). -/
def State.holdCount (s : State) : Nat := (s.hub.chans.entries.filter fun e => e.2.keepAwake.any fun t => decide (s.time < t)).length

/-- Islands throttled by any limit, crank hold among them (R93, R220). -/
def State.throttledBits (s : State) : Nat :=
  let p := s.power.percents
  let on := fun (k : Nat) => s.power.crank.isSome || pctOf p k != 100
  2 ^ islApp * flag (on 0) + 2 ^ islInf * flag (on 1) + 2 ^ islVis * flag (on 2)

/-- Effect of POWER_STATUS. -/
def donePowerStatus (r : Request) (s : State) : State :=
  let p := s.power
  answer opPowerStatus uPower r
    (le 8 s.time ++ volts p.vA ++ volts p.vB ++ le 2 (satNat 65535 p.holdupMj) ++ le 1 ((p.entering.map (·.1.target)).getD p.rung) ++
      le 1 (bitsOf [p.crank.isSome, p.cutA, p.cutB, p.lostA, p.lostB, p.holdupLow]) ++ le 4 p.elecMw ++ le 2 s.throttledBits ++
      le 2 s.holdCount ++ le 4 s.holdLeft ++ le 4 0) s

/-- POWER_STATUS (R220). -/
def execPowerStatus (r : Request) (s : State) : Out :=
  serve opPowerStatus uPower r s (fun _ => []) (donePowerStatus r)

/-! ### Rung transitions (R115–R122) -/

/-- A waiting request may begin its entry: its conditions hold, and the rung it asks for is deeper (R117, R122). -/
def State.rungReady (s : State) (w : RungWait) : Bool :=
  (s.rungUnmet w).isNone && s.mode.change.isNone && decide (s.power.rung < w.target)

/-- When RUNG_CONDITION_CHECK has its effect. -/
def whenRungConditionCheck (_t : Nat) (s : State) : Bool :=
  s.power.life == .started && (s.hub.wakeDue ||
    match s.power.entering with
    | some (w, _) => decide (w.target < 2) || s.power.crank.isNone
    | none => s.power.wait.any s.rungReady)

/-- Effect of RUNG_CONDITION_CHECK. -/
def doneRungConditionCheck (_t : Nat) (s : State) : State :=
  if s.hub.wakeDue then (s.modHub fun h => { h with wakeDue := false }).rungWake 7 0 0
  else match s.power.entering, s.power.wait with
  | some (w, _), _ => s.enterRung w
  | none, some w => s.modPower fun p => { p with entering := some (w, s.time), wait := none }
  | none, none => s

/-- RUNG_CONDITION_CHECK (R92, R116, R122, R185): a wake that a reply has asked for is taken first; an entry begins at the first check at which every condition holds, and is complete at
the next; it waits for a crank hold to end. -/
def execRungConditionCheck (t : Nat) (s : State) : Out := event t s (whenRungConditionCheck t) (doneRungConditionCheck t)

/-- When RUNG_WAIT_TIMEOUT has its effect. -/
def whenRungWaitTimeout (t : Nat) (s : State) : Bool :=
  s.power.wait.any fun w => (s.rungUnmet w).isSome && w.until?.any fun u => decide (u ≤ t)

/-- Effect of RUNG_WAIT_TIMEOUT. -/
def doneRungWaitTimeout (_t : Nat) (s : State) : State :=
  match s.power.wait with
  | none => s
  | some w => (s.modPower fun p => { p with wait := none }).rungRefused w ((s.rungUnmet w).getD 0)

/-- RUNG_WAIT_TIMEOUT (R117). -/
def execRungWaitTimeout (t : Nat) (s : State) : Out := event t s (whenRungWaitTimeout t) (doneRungWaitTimeout t)

/-- Delay of an automatic descent, s (R119). -/
def Power.delay (p : Power) (target : Nat) : Nat :=
  if target = 4 then p.dormantS else if target = 5 then p.hibernateS else if target = 6 then p.keepS else 0

/-- When AUTO_DESCENT_EXPIRY has its effect. -/
def whenAutoDescentExpiry (t target : Nat) (s : State) : Bool :=
  s.power.life == .started && !s.power.ign && s.mode.mode == .parked && !s.keptAwake && s.power.entering.isNone &&
      decide (0 < s.power.delay target) && decide (s.power.rung < target) &&
      (s.power.wait.all fun w => w.req.isNone && decide (w.target < target)) &&
      s.power.descentFrom.any fun f => decide (f + s.power.delay target * sec ≤ t)

/-- Effect of AUTO_DESCENT_EXPIRY. -/
def doneAutoDescentExpiry (_t target : Nat) (s : State) : State :=
  let w : RungWait := { target := target, retain := 0, shelfConfirm := false, until? := none, req := none }
  s.modPower fun p => { p with wait := some w }

/-- AUTO_DESCENT_EXPIRY (R119): the descent waits for its conditions; a host's request goes before it. -/
def execAutoDescentExpiry (t target : Nat) (s : State) : Out :=
  valid (inRange target 4 6) <| event t s (whenAutoDescentExpiry t target) (doneAutoDescentExpiry t target)

/-! ### Wake sources (R112–R114, R217) -/

/-- When IGN_RISE has its effect. -/
def whenIgnRise (_t : Nat) (s : State) : Bool :=
  !s.power.ign

/-- Effect of IGN_RISE. -/
def doneIgnRise (_t : Nat) (s : State) : State :=
  (s.modPower fun p => { p with ign := true, descentFrom := none, wait := p.wait.filter fun w => w.req.isSome }).rungWake 0 0 0

/-- IGN_RISE (R112, R119): an automatic descent that waits is cancelled. -/
def execIgnRise (t : Nat) (s : State) : Out :=
  event t s (whenIgnRise t) (doneIgnRise t)

/-- When IGN_FALL has its effect. -/
def whenIgnFall (_t : Nat) (s : State) : Bool :=
  s.power.ign

/-- Effect of IGN_FALL. -/
def doneIgnFall (_t : Nat) (s : State) : State :=
  (s.modPower fun p => { p with ign := false }).countDescent

/-- IGN_FALL (R119). -/
def execIgnFall (t : Nat) (s : State) : Out :=
  event t s (whenIgnFall t) (doneIgnFall t)

/-- When WAKE_IN_EDGE has its effect. -/
def whenWakeInEdge (_t : Nat) (level : Bool) (s : State) : Bool :=
  s.power.wakeIn != level

/-- Effect of WAKE_IN_EDGE. -/
def doneWakeInEdge (_t : Nat) (level : Bool) (s : State) : State :=
  let s := s.modPower fun p => { p with wakeIn := level }
  if bit s.power.wake.wakeInEdge (if level then 0 else 1) then s.rungWake 1 0 0 else s

/-- WAKE_IN_EDGE (R112, R215). -/
def execWakeInEdge (t : Nat) (level : Bool) (s : State) : Out :=
  event t s (whenWakeInEdge t level) (doneWakeInEdge t level)

/-- When CAN_WAKE_PATTERN has its effect. -/
def whenCanWakePattern (_t mb : Nat) (s : State) : Bool :=
  bit s.power.wake.canPattern mb

/-- Effect of CAN_WAKE_PATTERN. -/
def doneCanWakePattern (_t mb : Nat) (s : State) : State :=
  s.rungWake 2 0 (2 ^ mb)

/-- CAN_WAKE_PATTERN (R112). -/
def execCanWakePattern (t mb : Nat) (s : State) : Out :=
  valid (mb < 12) <| event t s (whenCanWakePattern t mb) (doneCanWakePattern t mb)

/-- A classical frame matches a filter (R217). -/
def WakeFilter.isMatch (f : WakeFilter) (format : Nat) (id : U32) (data : List Byte) : Bool :=
  f.format == format && f.dlc ≤ data.length && f.id &&& f.mask == id &&& f.mask &&
    (List.range f.dlc).all fun i =>
      f.data.getD i 0 &&& f.dataMask.getD i 0 == data.getD i 0 &&& f.dataMask.getD i 0

/-- When CAN_SELECTIVE_WAKE has its effect. -/
def whenCanSelectiveWake (_t mb format : Nat) (id : U32) (data : List Byte) (s : State) : Bool :=
  bit s.power.wake.canSelective mb && inRange (s.bus mb).nominalKbps 125 1000 &&
    (s.power.filters.find mb).any fun f => f.isMatch format id data

/-- Effect of CAN_SELECTIVE_WAKE. -/
def doneCanSelectiveWake (_t mb _format : Nat) (_id : U32) (_data : List Byte) (s : State) : State :=
  s.rungWake 3 0 (2 ^ mb)

/-- CAN_SELECTIVE_WAKE (R112, R113, R217). -/
def execCanSelectiveWake (t mb format : Nat) (id : U32) (data : List Byte) (s : State) : Out :=
  valid (mb < 12 && data.length ≤ 8) <| event t s (whenCanSelectiveWake t mb format id data) (doneCanSelectiveWake t mb format id data)

/-- When TC10_WAKE has its effect. -/
def whenTc10Wake (_t port : Nat) (s : State) : Bool :=
  bit s.power.wake.tc10 port

/-- Effect of TC10_WAKE. -/
def doneTc10Wake (_t port : Nat) (s : State) : State :=
  s.rungWake 4 (2 ^ port) 0

/-- TC10_WAKE (R112). -/
def execTc10Wake (t port : Nat) (s : State) : Out :=
  valid (port < 5) <| event t s (whenTc10Wake t port) (doneTc10Wake t port)

/-- When RTC_ALARM has its effect. -/
def whenRtcAlarm (t : Nat) (s : State) : Bool :=
  s.power.wake.alarm != 0 && decide (s.power.wake.alarm ≤ t) && decide (t < s.power.wake.alarm + sec)

/-- Effect of RTC_ALARM. -/
def doneRtcAlarm (_t : Nat) (s : State) : State :=
  s.rungWake 5 0 0

/-- RTC_ALARM (R112, R215): the alarm time, to 1 s. -/
def execRtcAlarm (t : Nat) (s : State) : Out :=
  event t s (whenRtcAlarm t) (doneRtcAlarm t)

/-- When USB_VBUS_RISE has its effect. -/
def whenUsbVbusRise (_t : Nat) (s : State) : Bool :=
  !s.power.usb

/-- Effect of USB_VBUS_RISE. -/
def doneUsbVbusRise (_t : Nat) (s : State) : State :=
  (s.modPower fun p => { p with usb := true }).rungWake 6 0 0

/-- USB_VBUS_RISE (R73, R112). -/
def execUsbVbusRise (t : Nat) (s : State) : Out :=
  event t s (whenUsbVbusRise t) (doneUsbVbusRise t)

/-- When USB_VBUS_FALL has its effect. -/
def whenUsbVbusFall (_t : Nat) (s : State) : Bool :=
  s.power.usb

/-- Effect of USB_VBUS_FALL. -/
def doneUsbVbusFall (_t : Nat) (s : State) : State :=
  let s := s.modPower fun p => { p with usb := false }
  if s.update.romPort == some .usb then
    (s.modUpdate fun u => { u with romPort := none }).resetChannel 63 stRestarted
  else s

/-- USB_VBUS_FALL (R73): the USB device is gone, and a recovery session on it with it (R790). -/
def execUsbVbusFall (t : Nat) (s : State) : Out :=
  event t s (whenUsbVbusFall t) (doneUsbVbusFall t)

end Sys2Proof.Machine
end

