-- ==== Sys2Proof/Machine/ExecSystem.lean ====
section
/-! DEFINITION. The System family, the watchdogs and the supervisory tree (01, 06). -/

namespace Sys2Proof.Machine

/-! ### Identity, inventory, time (R197–R199) -/

/-- DISPLAY of IDENTIFY (R71, R197). -/
def State.displayCode (s : State) : Nat :=
  match s.display.panel with
  | none => 0
  | some p => if p.lid then 1 else 2

/-- MALUF_VERSION of IDENTIFY (R197): 0 where the boot slot holds no valid image. -/
def State.malufVersion (s : State) : Nat :=
  if s.loadable (s.cls clsMaluf).current then s.runningVersion clsMaluf else 0

/-- ASCII "SL4800-HC", padded to 16 bytes. -/
def partNumber : List Byte := [0x53, 0x4C, 0x34, 0x38, 0x30, 0x30, 0x2D, 0x48, 0x43, 0, 0, 0, 0, 0, 0, 0]

/-- Effect of IDENTIFY. -/
def doneIdentify (r : Request) (s : State) : State :=
  answer opIdentify uMaluf r
    (le 1 (s.hub.version.toNat / 2 ^ 24) ++ le 1 (s.hub.version.toNat / 2 ^ 16 % 256) ++ le 2 Config.siliconRev.toNat ++ partNumber ++ le 16 Config.serial.toNat ++ le 4 s.malufVersion ++
      le 4 Config.romVersion.toNat ++ le 8 s.update.moduleId ++ le 1 s.lifecycleNow.code ++ le 1 s.displayCode ++ le 2 0 ++
      le 8 Config.mfgTime.toNat) s

/-- IDENTIFY (R197, R821). -/
def execIdentify (r : Request) (s : State) : Out :=
  serve opIdentify uMaluf r s (fun _ => []) (doneIdentify r)

/-- A stud within the operating range of R87. -/
def inOperatingRange (v : Int) : Bool := decide (6000 ≤ v) && decide (v ≤ 36000)

/-- ATTACHED (R198). -/
def State.attached (s : State) : Nat :=
  bitsOf (((List.range 12).map fun n => (s.cam n).on && decide (0 < (s.cam n).pocMa)) ++
    [(s.antenna 0).bias == 1, (s.antenna 1).bias == 1, s.display.panel.isSome, s.display.panel.any (·.lid),
     s.fabric.link.phase == .up, !s.fieldIo.lost, inOperatingRange s.power.vA, inOperatingRange s.power.vB])

/-- Clock percentages in force for an island: those of crank hold, the power budget and the cold plate (R39, R93, R807). -/
def State.throttled (s : State) (i : Nat) : Bool :=
  let pick := fun (p : Nat × Nat × Nat) => if i = islApp then p.1 else if i = islInf then p.2.1 else p.2.2
  (i == islApp || i == islInf || i == islVis) &&
    (s.power.crank.isSome || pick s.power.budgetPct != 100 || pick s.power.platePct != 100)

/-- STATE of an island in INVENTORY while the module answers requests: in reset, running or throttled (R198). -/
def State.islandState (s : State) (i : Nat) : Nat := if s.inReset i then 1 else if s.throttled i then 4 else 2

/-- Bit i for each unit index i of an island that meets `p`. -/
def unitBits (i : Nat) (p : Nat → Bool) : Nat := bitsOf ((unitsOf i).map p)

/-- One island record of INVENTORY (R21, R198). -/
def State.islandRecord (s : State) (i : Nat) : List Byte :=
  le 1 i ++ le 1 (s.islandState i) ++ le 1 (unitCount i) ++ le 1 0 ++ le 4 (s.island i).resets.toNat ++
    le 4 (unitBits i fun _ => !s.inReset i) ++ le 4 (unitBits i s.fenced) ++ le 8 s.time ++ le 2 0

/-- Effect of INVENTORY. -/
def doneInventory (r : Request) (s : State) : State :=
  answer opInventory uMaluf r (le 4 s.attached ++ le 4 0 ++ (List.range 12).flatMap s.islandRecord) s

/-- INVENTORY (R198). -/
def execInventory (r : Request) (s : State) : Out :=
  serve opInventory uMaluf r s (fun _ => []) (doneInventory r)

/-- Effect of TIME_READ. -/
def doneTimeRead (r : Request) (s : State) : State :=
  let (x, s) := s.free 16
  let k := s.nav.time
  answer opTimeRead uMaluf r
    (le 8 (s.copyTime islSup) ++ le 8 (s.time + x.toNat % 62001 - 31000) ++
      le 4 (bitsOf [k.valid, k.source == .holdover, k.source == .rtc]) ++ le 4 s.errorNs) s

/-- TIME_READ (R199): the RTC lies within 31 µs of module time (R35), the difference being a free value (assumption 3). -/
def execTimeRead (r : Request) (s : State) : Out :=
  serve opTimeRead uMaluf r s (fun _ => []) (doneTimeRead r)

/-! ### Channels, subscriptions and the view (R200–R204) -/

/-- Bind a channel to a path (R200, R201, R208): the bases of the new path are not yet written, and a session on the old one
ends. -/
def State.bind (s : State) (ch : Nat) (p : Path) : State :=
  if (s.chan ch).path == p then s
  else
    let s := s.resetChannel ch stRestarted
    let s := s.modChan ch fun c =>
      { c with path := p, reqBase := 0, rplBase := 0, irq := false,
               watch := if p == .unbound then HostWatch.reset else c.watch }
    s.modHub fun h => { h with sessions := h.sessions.keep fun _ x => x.ch != some ch }

/-- Refusals of CHANNEL_BIND. -/
def checksChannelBind (r : Request) (s : State) : List (Bool × Status) :=
  let ch := r.u 0 1
  let p := Path.ofCode (r.u 1 1)
  [(ch > 62 || p.isNone || !r.zero 2 2 || (ch == 62 && s.hub.compat.enabled) || (p == some .pcie && !s.hub.pcieStrap) ||
      (ch == 0 && (p == some .app || p == some .pcie) && p != some s.hub.path0), .badParam)]

/-- Effect of CHANNEL_BIND. -/
def doneChannelBind (r : Request) (s : State) : State :=
  let ch := r.u 0 1
  let p := Path.ofCode (r.u 1 1)
  (((s.answered opChannelBind uMaluf r .ok []).bind ch (p.getD .unbound))).keepBindings

/-- CHANNEL_BIND (R200, R201): the reply goes out on the old binding first. -/
def execChannelBind (r : Request) (s : State) : Out :=
  serve opChannelBind uMaluf r s (checksChannelBind r) (doneChannelBind r)

/-- Bits of FAMILIES set for families the spec does not define (R202). -/
def undefinedFamilies (x : BitVec 256) : Bool := x &&& ~~~allFamilies != 0

/-- Refusals of SUBSCRIBE. -/
def checksSubscribe (r : Request) (_s : State) : List (Bool × Status) :=
  let ch := r.u 0 1
  let fams := BitVec.ofNat 256 (r.u 4 32)
  [(ch > 62 || !r.zero 1 3 || undefinedFamilies fams, .badParam)]

/-- Effect of SUBSCRIBE. -/
def doneSubscribe (r : Request) (s : State) : State :=
  let ch := r.u 0 1
  let fams := BitVec.ofNat 256 (r.u 4 32)
  let s := (s.modChan ch fun c => { c with families := fams }).keepBindings
  answer opSubscribe uMaluf r [] s

/-- SUBSCRIBE (R202). -/
def execSubscribe (r : Request) (s : State) : Out :=
  serve opSubscribe uMaluf r s (checksSubscribe r) (doneSubscribe r)

/-- Enable or disable the view (R203, R204): channel 62 runs with it (assumption 8). Disabling a view that is not enabled changes
nothing, a binding that channel 62 has by then included (assumption 114). -/
def State.setView (s : State) (on : Bool) : State :=
  if s.hub.compat.enabled == on then s
  else
    let s := s.bind 62 (if on then .compat else .unbound)
    let s := s.modHub fun h => { h with compat := { CompatView.reset with enabled := on } }
    (if on then s.enableChannel 62 else s).keepBindings

/-- Refusals of COMPAT_VIEW. -/
def checksCompatView (r : Request) (_s : State) : List (Bool × Status) :=
  [(r.u 0 1 > 1 || !r.zero 1 3, .badParam)]

/-- Effect of COMPAT_VIEW. -/
def doneCompatView (r : Request) (s : State) : State :=
  answer opCompatView uMaluf r [] (s.setView (r.u 0 1 == 1))

/-- COMPAT_VIEW (R203). -/
def execCompatView (r : Request) (s : State) : Out :=
  serve opCompatView uMaluf r s (checksCompatView r) (doneCompatView r)

/-! ### Watchdogs (R27, R28, R205–R208, R336) -/

/-- Refusals of WATCHDOG_SET. -/
def checksWatchdogSet (r : Request) (_s : State) : List (Bool × Status) :=
  [(!inRange (r.u 4 2) 20 1000 || !r.zero 6 2, .badParam)]

/-- Effect of WATCHDOG_SET. -/
def doneWatchdogSet (r : Request) (s : State) : State :=
  let old := s.mode.jackMs
  answer opWatchdogSet uMaluf r (le 2 old ++ le 2 0) (s.modMode fun m => { m with jackMs := r.u 4 2 })

/-- WATCHDOG_SET (R205): the new timeout takes effect at the next beat. -/
def execWatchdogSet (r : Request) (s : State) : Out :=
  serve opWatchdogSet uMaluf r s (checksWatchdogSet r) (doneWatchdogSet r)

/-- Refusals of HOST_WATCH. -/
def checksHostWatch (r : Request) (_s : State) : List (Bool × Status) :=
  let n := r.u 0 2
  [(!(n == 0 || inRange n 10 10000) || r.u 2 1 > 1 || !r.zero 3 5, .badParam)]

/-- Effect of HOST_WATCH. -/
def doneHostWatch (r : Request) (s : State) : State :=
  let n := r.u 0 2
  let w := { HostWatch.reset with timeoutMs := n, safeHold := r.u 2 1 == 1 }
  answer opHostWatch uMaluf r [] (s.modChan r.ch fun c => { c with watch := w.restart s.time })

/-- HOST_WATCH (R206). -/
def execHostWatch (r : Request) (s : State) : Out :=
  serve opHostWatch uMaluf r s (checksHostWatch r) (doneHostWatch r)

/-- Effect of HOST_BEAT. -/
def doneHostBeat (r : Request) (s : State) : State :=
  answer opHostBeat uMaluf r [] s

/-- HOST_BEAT (R206): its fetch has restarted the watch, and it does nothing else. -/
def execHostBeat (r : Request) (s : State) : Out :=
  serve opHostBeat uMaluf r s (fun _ => []) (doneHostBeat r)

/-- When HOST_WATCH_EXPIRY has its effect. -/
def whenHostWatchExpiry (t ch : Nat) (s : State) : Bool :=
  s.hubUp && s.power.rung == 0 && s.power.crank.isNone && (s.chan ch).watch.deadline.any fun d => decide (d ≤ t)

/-- Effect of HOST_WATCH_EXPIRY. -/
def doneHostWatchExpiry (_t ch : Nat) (s : State) : State :=
  let w := (s.chan ch).watch
  let act := w.safeHold && (!s.mode.booted || hostTransition s.mode.mode .safeHold)
  let s := s.modChan ch fun c => { c with watch := { w with deadline := none, lostAt := some s.time } }
  let s := s.raise moduleSupervisor 0x0101 (le 1 ch ++ le 1 (flag act) ++ le 2 w.timeoutMs)
  if act then s.askHold 0x24 [] (some ch) else s

/-- HOST_WATCH_EXPIRY (R207, R208): paused below Run and in crank hold. ACTION reports the forced entry where the mode permits
it. -/
def execHostWatchExpiry (t ch : Nat) (s : State) : Out :=
  valid (ch < 64) <| event t s (whenHostWatchExpiry t ch) (doneHostWatchExpiry t ch)

/-- The module supervisor runs: SUP is released and clocked. -/
def State.supRuns (s : State) : Bool := s.power.life == .started && !s.inReset islSup && decide (s.power.rung < 2)

/-- When MODULE_SUPERVISOR_BEAT has its effect. -/
def whenModuleSupervisorBeat (_t : Nat) (s : State) : Bool :=
  s.supRuns && !s.inReset islCtl

/-- Effect of MODULE_SUPERVISOR_BEAT. -/
def doneModuleSupervisorBeat (_t : Nat) (s : State) : State :=
  s.modMode fun m => { m with lastBeat := some s.time, jackInForce := m.jackMs, jackExpired := false }

/-- MODULE_SUPERVISOR_BEAT (R205). -/
def execModuleSupervisorBeat (t : Nat) (s : State) : Out :=
  event t s (whenModuleSupervisorBeat t) (doneModuleSupervisorBeat t)

/-- Channels that the jack-in-the-box moves to their safe state (R209): those not already there. -/
def State.movedSafe (s : State) : Nat :=
  ((List.range 48).filter fun c =>
    let x := s.sw c
    x.fault == 0 && !x.safe && (x.cmdOn || x.phase != .off || s.safeOn c)).length

/-- When JACK_IN_THE_BOX_EXPIRY has its effect. -/
def whenJackInTheBoxExpiry (t : Nat) (s : State) : Bool :=
  s.power.life == .started && decide (s.power.rung < 2) && !s.inReset islCtl && !s.mode.jackExpired &&
      s.mode.lastBeat.any fun b => decide (b + s.mode.jackInForce * ms ≤ t)

/-- Effect of JACK_IN_THE_BOX_EXPIRY. -/
def doneJackInTheBoxExpiry (_t : Nat) (s : State) : State :=
  let n := s.movedSafe
  let s := (s.applySafeAll (List.range 48) true).foAllOff
  let s := s.modMode fun m => { m with jackExpired := true, safeApplied := true }
  s.raise (supervisorOf islCtl) 0x0103 (le 8 s.time ++ le 2 s.mode.jackInForce ++ le 1 n ++ le 1 0)

/-- JACK_IN_THE_BOX_EXPIRY (R205, R210, R336, R696). -/
def execJackInTheBoxExpiry (t : Nat) (s : State) : Out :=
  event t s (whenJackInTheBoxExpiry t) (doneJackInTheBoxExpiry t)

/-- When SUP_WATCHDOG_EXPIRY has its effect. -/
def whenSupWatchdogExpiry (_t : Nat) (s : State) : Bool :=
  s.supRuns && !s.hub.absent

/-- Effect of SUP_WATCHDOG_EXPIRY. -/
def doneSupWatchdogExpiry (_t : Nat) (s : State) : State :=
  s.islandReset islSup

/-! ### Units and islands (R25, R26, R31, R134, R146) -/

/-- When UNIT_HEARTBEAT_LOSS has its effect. -/
def whenUnitHeartbeatLoss (_t unit : Nat) (s : State) : Bool :=
  s.power.life == .started && decide (s.power.rung < 2) && s.unitUp unit

/-- Effect of UNIT_HEARTBEAT_LOSS. -/
def doneUnitHeartbeatLoss (_t unit : Nat) (s : State) : State :=
  (s.resetInVote [unit]).fence unit 1 none true

/-- The island can be reset: it runs (R31: AON only at a power-on). -/
def State.resettable (s : State) (i : Nat) : Bool :=
  s.power.life == .started && decide (s.power.rung < 3) && i != islAon && !s.inReset i

/-- When ISLAND_REPORT_TIMEOUT has its effect. -/
def whenIslandReportTimeout (_t island : Nat) (s : State) : Bool :=
  s.supRuns && s.resettable island && island != islSup

/-- Effect of ISLAND_REPORT_TIMEOUT. -/
def doneIslandReportTimeout (_t island : Nat) (s : State) : State :=
  s.islandReset island

/-- When ISLAND_RESET has its effect. -/
def whenIslandReset (_t island : Nat) (s : State) : Bool :=
  s.resettable island

/-- Effect of ISLAND_RESET. -/
def doneIslandReset (_t island : Nat) (s : State) : State :=
  s.islandReset island

/-- A fenced unit returns (R111, R146): its island is released first, where its image loads (R773, R778); when the last unit is
back, an activation is done (R783). SAF's is done when its self-test passes. -/
def State.rejoin (s : State) (u : Nat) (f : Fence) : State :=
  let i := islandOf u
  if s.inReset i && s.copyingIn i then s
  else
    match (if s.inReset i then s.unsound i else none) with
    | some c => s.loadFailed c
    | none =>
      let s := if s.inReset i then s.releaseIsland i (if f.cause = 0 then 2 else 4) else s
      let s := s.unfence u
      if i = islSaf || (unitsOf i).any s.fenced then s else s.finishActs i

/-- When UNIT_REJOIN has its effect: the unit is fenced, and is not under self-test. -/
def whenUnitRejoin (_t unit : Nat) (s : State) : Bool :=
  s.fenced unit && s.power.life == .started && decide (s.power.rung < 2) && !s.mode.selfTests.any fun x => x.unit == unit

/-- Effect of UNIT_REJOIN. -/
def doneUnitRejoin (_t unit : Nat) (s : State) : State :=
  match s.mode.fences.find? fun f => f.unit == unit with
  | none => s
  | some f => s.rejoin unit f

/-- UNIT_REJOIN (R146): a unit under self-test rejoins at the end of its test (R231). -/
def execUnitRejoin (t unit : Nat) (s : State) : Out := valid (isUnit unit) <| event t s (whenUnitRejoin t unit) (doneUnitRejoin t unit)

/-- When FENCED_UNIT_TIMEOUT has its effect. -/
def whenFencedUnitTimeout (t unit : Nat) (s : State) : Bool :=
  s.mode.change.isNone && s.mode.fences.any fun f => f.unit == unit && decide (f.since + 10 * sec < t)

/-- Effect of FENCED_UNIT_TIMEOUT. -/
def doneFencedUnitTimeout (_t unit : Nat) (s : State) : State :=
  s.modMode fun m => { m with fences := mapIf (fun f => f.unit == unit) (fun f => { f with long := true }) m.fences }

/-- FENCED_UNIT_TIMEOUT (R134): the unit becomes a LIMP cause. -/
def execFencedUnitTimeout (t unit : Nat) (s : State) : Out :=
  valid (isUnit unit) <| event t s (whenFencedUnitTimeout t unit) (doneFencedUnitTimeout t unit)

end Sys2Proof.Machine
end

