-- ==== Sys2Proof/Machine/ExecUpdate.lean ====
section
/-! DEFINITION. The Update and Keys families, the security engine's timers and the recovery transports (24). -/

namespace Sys2Proof.Machine

/-! ### Restarting a class (R783, R784) -/

/-- The restart that an activation or a return calls for: SUP, a module reset, the class's island, or nothing but the switch. -/
def State.restartNow (s : State) (c : Nat) : State :=
  if c = clsLoader then s.restartImage clsLoader 0 false
  else if needsModuleReset c then s.moduleReset 6
  else s.islandReset (classIsland c)

/-- A class goes back to its fallback (R784): at once where the mode permits images, at its next restart otherwise. -/
def State.revertImage (s : State) (c cause : Nat) (req : Option Requester) : State :=
  let x := s.cls c
  let cur := x.current
  let back : Activation := { req := req, slot := x.other, back := true, cause := cause }
  if s.imageMode then (s.modCls c fun x => { x with act := some back, rejoinDue := none }).restartNow c
  else
    (s.modCls c fun x => { (x.setState cur .revertPending) with act := some { back with req := none }, rejoinDue := none }).tellImage
      c cur (x.slot cur).state .revertPending cause req (cause != 0)

/-- RESET_NOW decides when these classes restart (R783). -/
def takesResetNow (c : Nat) : Bool := needsModuleReset c || c == clsAppBoot

/-- Checks of IMAGE_ACTIVATE and IMAGE_REVERT alike (R783, R793). -/
def State.imageChecks (s : State) (r : Request) : List (Bool × Status) :=
  [(!isClass (r.u 4 1) || 2 ≤ r.u 5 1 || !r.zero 6 2, .badParam),
   ((s.cls (r.u 4 1)).act.isSome || (bit (r.u 5 1) 0 && !s.outputsOff), .busyId)]

/-- Refusals of IMAGE_ACTIVATE. -/
def checksImageActivate (r : Request) (s : State) : List (Bool × Status) :=
  let c := r.u 4 1
  let x := s.cls c
  let y := x.slot x.target
  s.imageChecks r ++
    [(s.mode.change.isSome || x.inTrial || x.reverting, .busyId),
     (c == clsSafety && s.mode.session != some r.ch, .authFailed),
     (isClass c && y.state != .installed, .badParam),
     (y.svn < x.counter, .rollback)]

/-- Effect of IMAGE_ACTIVATE. -/
def doneImageActivate (r : Request) (s : State) : State :=
  let c := r.u 4 1
  let x := s.cls c
  let i := x.target
  let q := s.requester opImageActivate r
  let s := s.accepted opImageActivate uSecurity r []
  let act : Activation := { req := some q, slot := i, back := false, cause := 0 }
  if takesResetNow c && !bit (r.u 5 1) 0 then
    ((s.modCls c fun x => { (x.setState i .pending) with act := some { act with req := none } }).tellImage c i .installed
      .pending 0 (some q) false)
  else (s.modCls c fun x => { x with act := some act }).restartNow c

/-- Refusals of IMAGE_REVERT. -/
def checksImageRevert (r : Request) (s : State) : List (Bool × Status) :=
  let c := r.u 4 1
  let x := s.cls c
  let y := x.slot x.other
  s.imageChecks r ++
    [(isClass c && (x.loader || y.state != .installed), .badParam),
     (!x.inTrial && y.svn < x.counter, .rollback)]

/-- Effect of IMAGE_REVERT; an island that has answered ready in a mode change defers its reset (R143). -/
def doneImageRevert (r : Request) (s : State) : State :=
  let c := r.u 4 1
  let x := s.cls c
  let cur := x.current
  let back : Activation := { req := none, slot := x.other, back := true, cause := 0 }
  let q := s.requester opImageRevert r
  if s.answeredReady (classIsland c) then s.defer .imageRevert r
  else
    let s := s.accepted opImageRevert uSecurity r []
    if takesResetNow c && !bit (r.u 5 1) 0 then
      (s.modCls c fun x => { (x.setState cur .revertPending) with act := some back }).tellImage c cur (x.slot cur).state
        .revertPending 0 (some q) false
    else s.revertImage c 0 (some q)

/-- Refusals of IMAGE_CONFIRM. -/
def checksImageConfirm (r : Request) (s : State) : List (Bool × Status) :=
  let c := r.u 0 1
  [(!isClass c || !r.zero 1 3 || !(s.cls c).inTrial, .badParam)]

/-- Effect of IMAGE_CONFIRM. -/
def doneImageConfirm (r : Request) (s : State) : State :=
  let c := r.u 0 1
  let x := s.cls c
  let s := s.modCls c fun x => { (x.setState x.current .active) with trialStart := 0 }
  answer opImageConfirm uSecurity r [] (s.fuse c (x.slot x.current))

/-- IMAGE_CONFIRM (R782, R785). -/
def execImageConfirm (r : Request) (s : State) : Out :=
  serve opImageConfirm uSecurity r s (checksImageConfirm r) (doneImageConfirm r)

/-- When TRIAL_REJOIN_TIMEOUT has its effect. -/
def whenTrialRejoinTimeout (t cls : Nat) (s : State) : Bool :=
  (s.cls cls).rejoinDue.any (fun d => decide (d ≤ t)) && (s.cls cls).act.any fun a => !a.back

/-- Effect of TRIAL_REJOIN_TIMEOUT. -/
def doneTrialRejoinTimeout (_t cls : Nat) (s : State) : State :=
  s.revertImage cls 1 ((s.cls cls).act.bind (·.req))

/-- When CONFIRM_TIMEOUT has its effect. -/
def whenConfirmTimeout (t cls : Nat) (s : State) : Bool :=
  s.power.life == .started && (s.cls cls).inTrial && (s.cls cls).act.isNone &&
      decide ((s.cls cls).trialStart + (s.cls cls).confirmS * sec ≤ t)

/-- Effect of CONFIRM_TIMEOUT. -/
def doneConfirmTimeout (_t cls : Nat) (s : State) : State :=
  s.revertImage cls 3 none

/-- When LOADER_COPY_DONE has its effect. -/
def whenLoaderCopyDone (_t cls : Nat) (s : State) : Bool :=
  s.power.life == .started && (s.cls cls).copying

/-- Effect of LOADER_COPY_DONE. -/
def doneLoaderCopyDone (_t cls : Nat) (s : State) : State :=
  let s := s.copied cls
  let i := classIsland cls
  if !s.mode.booted then
    let s := s.startIslands firstIslands
    if s.hub.serving then s.startIslands lastIslands else s
  else if s.inReset i && !s.copyingIn i then
    match s.unsound i with
    | some c => s.loadFailed c
    | none => s.releaseIsland i 4
  else s

/-- LOADER_COPY_DONE (R773, R782): the island is released, and a start that waited for it goes on. -/
def execLoaderCopyDone (t cls : Nat) (s : State) : Out :=
  valid (isClass cls) <| event t s (whenLoaderCopyDone t cls) (doneLoaderCopyDone t cls)

/-! ### Installation (R779–R781) -/

/-- The source may be read on the request's path, and its reference names something (R279, R779). -/
def State.sourceOk (s : State) (r : Request) : Bool :=
  let ref := r.u 8 8
  let off := r.u 16 8
  let path := (s.chan r.ch).path
  match r.u 1 1 with
  | 1 => s.mayName ref r.ch && s.lists ref uSecurity && (s.placement ref).any fun p => off + r.u 4 4 ≤ p.size
  | 2 => off == 0 && r.u 4 4 ≤ 67108864 && ((s.streamNo ref).bind s.stream).any fun x =>
      x.consumers.entries.any fun c => !c.2.ep.ring && !c.2.ep.peer && c.2.ep.unit == uSecurity && c.2.ep.port == 1
  | 3 => off == 0 && path == .pcie
  | 4 => off == 0 && ref == 0 && path == .tunnel
  | _ => false

/-- Another LOADER class needs what the staging area holds: it waits for its module reset, or copies. -/
def State.stagingNeeded (s : State) (c : Nat) : Bool :=
  (List.range 13).any fun k => k != c && (s.cls k).loader && ((s.cls k).act.isSome || (s.cls k).copying)

/-- The write begins: the target is INSTALLING, and a staging area holds no other class's image (R772, R774). -/
def State.startInstall (s : State) (i : Installation) : State :=
  let s := if i.slot = 2 then
      (List.range 13).foldl (fun s k => if (s.cls k).loader then s.modCls k fun x => { x with slotB := ImageSlot.empty } else s) s
    else s
  (s.modCls i.cls fun x => x.modSlot i.slot fun _ => { ImageSlot.empty with state := .installing }).modUpdate fun u =>
    { u with install := some i }

/-- Refusals of IMAGE_INSTALL. -/
def checksImageInstall (r : Request) (s : State) : List (Bool × Status) :=
  let c := r.u 0 1
  let x := s.cls c
  [(!isClass c || !r.zero 2 2 || !s.sourceOk r, .badParam),
   (s.update.install.isSome || x.inTrial || x.reverting || x.act.isSome || (x.loader && s.stagingNeeded c), .busyId)]

/-- Effect of IMAGE_INSTALL; an island that has answered ready in a mode change defers it (R143). -/
def doneImageInstall (r : Request) (s : State) : State :=
  let c := r.u 0 1
  let q := s.requester opImageInstall r
  let i : Installation := { cls := c, source := r.u 1 1, length := r.u 4 4, ref := r.u 8 8, offset := r.u 16 8,
                            slot := (s.cls c).target, req := q, since := s.time, reset := false }
  if s.answeredReady islSup then s.defer .imageInstall r else (s.accepted opImageInstall uSecurity r []).startInstall i

/-- IMAGE_INSTALL (R779, R781). -/
def execImageInstall (r : Request) (s : State) : Out :=
  serve opImageInstall uSecurity r s (checksImageInstall r) (doneImageInstall r)

/-- The installed image of RECOVERY becomes TRIAL at the restart, MALUF's alone (R791). -/
def State.recoveryLoaded (s : State) (i : Installation) : State :=
  let act : Activation := { req := none, slot := i.slot, back := false, cause := 0 }
  let s := s.count uSecurity 21
  if i.cls = clsMaluf then s.modCls clsMaluf fun x => { x with act := some act, rejoinDue := none } else s

/-- The container an installation has received: that of its placement, or what its source carried (R779). -/
def State.installBytes (s : State) (i : Installation) (container : List Byte) : List Byte :=
  if i.source = 1 && s.mode.mode != .recovery then s.readPlace i.ref i.offset i.length else container

/-- Time that writing a container takes at 400 MB/s, ns (R781). -/
def writeTime (length : Nat) : Nat := length * 5 / 2

/-- When INSTALL_DATA_COMPLETE has its effect: within 60 s (R779), and for a container that passes no earlier than its writing allows
(R781). -/
def whenInstallDataComplete (t : Nat) (container : List Byte) (s : State) : Bool :=
  s.power.life == .started && s.update.install.any fun i =>
    decide (t < i.since + 60 * sec) &&
      (decide (i.since + writeTime i.length ≤ t) || (s.checkContainer (s.installBytes i container) i.cls i.length).isSome)

/-- Effect of INSTALL_DATA_COMPLETE. -/
def doneInstallDataComplete (_t : Nat) (container : List Byte) (s : State) : State :=
  match s.update.install with
  | none => s
  | some i =>
    let rom := s.mode.mode == .recovery
    let b := s.installBytes i container
    match s.checkContainer b i.cls i.length with
    | some st => (s.count uSecurity 17).failInstall i st b
    | none =>
      let s := (s.modCls i.cls fun x => x.modSlot i.slot fun _ => slotOf b .installed).modUpdate fun u => { u with install := none }
      let e := { s.eventOf uSecurity 0x8001 (installedFields i .ok b b.length) [] with req := some i.req, toSubs := false }
      if rom then
        let s := (s.recoveryLoaded i).deliver e
        if i.reset then s.moduleReset 7 else s
      else (s.count uSecurity 16).complete uSecurity 0x8001 (installedFields i .ok b b.length) i.req false false

/-- INSTALL_DATA_COMPLETE (R780): within 60 s; every check in its order. In RECOVERY the completion is written at once, and RESET
ends with a module reset (R791). -/
def execInstallDataComplete (t : Nat) (container : List Byte) (s : State) : Out :=
  event t s (whenInstallDataComplete t container) (doneInstallDataComplete t container)

/-- When INSTALL_TIMEOUT has its effect. -/
def whenInstallTimeout (t : Nat) (s : State) : Bool :=
  s.update.install.any fun i => decide (i.since + 60 * sec ≤ t)

/-- Effect of INSTALL_TIMEOUT. -/
def doneInstallTimeout (_t : Nat) (s : State) : State :=
  match s.update.install with
  | some i => s.stallInstall i
  | none => s

/-- INSTALL_TIMEOUT (R779). -/
def execInstallTimeout (t : Nat) (s : State) : Out :=
  event t s (whenInstallTimeout t) (doneInstallTimeout t)

/-- Refusals of INSTALL_ABORT. -/
def checksInstallAbort (_r : Request) (s : State) : List (Bool × Status) :=
  [(s.update.install.isNone, .badParam)]

/-- Effect of INSTALL_ABORT. -/
def doneInstallAbort (r : Request) (s : State) : State :=
  match s.update.install with
  | some i => ((s.answered opInstallAbort uSecurity r .ok []).stallInstall i)
  | none => answer opInstallAbort uSecurity r [] s

/-- INSTALL_ABORT (R793). -/
def execInstallAbort (r : Request) (s : State) : Out :=
  serve opInstallAbort uSecurity r s (checksInstallAbort r) (doneInstallAbort r)

/-! ### Status and policy (R793) -/

/-- A slot as IMAGE_STATUS shows it. -/
def slotBytes (c : Nat) (y : ImageSlot) : List Byte := le 1 y.state.code ++ le 1 y.keyId ++ le 2 y.svn ++ le 4 (slotVersion c y)

/-- CONFIRM_LEFT_S, the last part of a second counted whole. -/
def State.confirmLeft (s : State) (x : ImageClass) : Nat :=
  if x.inTrial then (x.trialStart + x.confirmS * sec - s.time + sec - 1) / sec else 0

/-- Refusals of IMAGE_STATUS. -/
def checksImageStatus (r : Request) (_s : State) : List (Bool × Status) :=
  let c := r.u 0 1
  [(!isClass c || !r.zero 1 3, .badParam)]

/-- Effect of IMAGE_STATUS. -/
def doneImageStatus (r : Request) (s : State) : State :=
  let c := r.u 0 1
  let x := s.cls c
  answer opImageStatus uSecurity r
    (le 1 c ++ le 1 (if x.loader then 2 else 1) ++ le 1 (x.active.getD 0xFF) ++ le 1 x.counter ++ slotBytes c x.slotA ++
      slotBytes c x.slotB ++ le 4 (s.confirmLeft x) ++ le 8 x.trialStart) s

/-- IMAGE_STATUS (R793). -/
def execImageStatus (r : Request) (s : State) : Out :=
  serve opImageStatus uSecurity r s (checksImageStatus r) (doneImageStatus r)

/-- A class takes a policy: from DUAL to LOADER the inactive slot is emptied and the active image stands in the one slot; back, slot
B is EMPTY (R773, R793). -/
def ImageClass.withPolicy (x : ImageClass) (loader : Bool) (confirmS : Nat) : ImageClass :=
  let x := { x with confirmS := confirmS }
  if x.loader == loader then x
  else if loader then { x with loader := true, slotA := x.slot x.current, slotB := ImageSlot.empty, active := x.active.map fun _ => 0 }
  else { x with loader := false, slotB := ImageSlot.empty }

/-- Refusals of POLICY_SET. -/
def checksPolicySet (r : Request) (s : State) : List (Bool × Status) :=
  let c := r.u 0 1
  let p := r.u 1 1
  [(!isClass c || !inRange p 1 2 || (p == 2 && !mayLoader c) || !r.zero 2 2 || !inRange (r.u 4 4) 60 86400, .badParam),
               (s.update.install.isSome || (s.cls c).inTrial || (s.cls c).reverting || (s.cls c).act.isSome, .busyId)]

/-- Effect of POLICY_SET. -/
def donePolicySet (r : Request) (s : State) : State :=
  let c := r.u 0 1
  let p := r.u 1 1
  answer opPolicySet uSecurity r [] (s.modCls c (·.withPolicy (p == 2) (r.u 4 4)))

/-- POLICY_SET (R793). -/
def execPolicySet (r : Request) (s : State) : Out :=
  serve opPolicySet uSecurity r s (checksPolicySet r) (donePolicySet r)

/-! ### Recovery (R789–R791) -/

/-- Refusals of RECOVERY_ENTER. -/
def checksRecoveryEnter (r : Request) (s : State) : List (Bool × Status) :=
  [(!r.zero 0 4, .badParam), (!s.outputsOff, .busyId)]

/-- Effect of RECOVERY_ENTER. -/
def doneRecoveryEnter (r : Request) (s : State) : State :=
  if s.answeredReady islSup then s.defer .recoveryEnter r
  else
    let s := s.answered opRecoveryEnter uSecurity r .ok []
    (s.modUpdate fun u => { u with recoveryMark := true }).moduleReset 6

/-- RECOVERY_ENTER (R789, R793): the reply, the mark in KEEP, the module reset. An island that has answered ready in a mode change
defers it (R143). -/
def execRecoveryEnter (r : Request) (s : State) : Out :=
  serve opRecoveryEnter uSecurity r s (checksRecoveryEnter r) (doneRecoveryEnter r)

/-- The slot that does not hold the last loadable image (R791). -/
def State.recoverySlot (s : State) (c : Nat) : Nat :=
  let x := s.cls c
  let good := if c = clsMaluf then s.loadable x.current || !s.loadable x.other else true
  if good then x.other else x.current

/-- Refusals of RECOVERY_LOAD. -/
def checksRecoveryLoad (r : Request) (s : State) : List (Bool × Status) :=
  let c := r.u 0 1
  let src := r.u 1 1
  [(!inRange c 1 2 || 2 ≤ r.u 2 1 || !r.zero 3 1 || r.u 16 8 != 0 ||
                  !(if s.update.romPort == some .pcie then src == 3 else src == 1), .badParam),
               (s.update.install.isSome, .busyId)]

/-- Effect of RECOVERY_LOAD. -/
def doneRecoveryLoad (r : Request) (s : State) : State :=
  let c := r.u 0 1
  let src := r.u 1 1
  let q := s.requester opRecoveryLoad r
  let i : Installation := { cls := c, source := src, length := r.u 4 4, ref := r.u 8 8, offset := 0, slot := s.recoverySlot c,
                            req := q, since := s.time, reset := bit (r.u 2 1) 0 }
  (s.accepted opRecoveryLoad uSecurity r []).startInstall i

/-- RECOVERY_LOAD (R791, R793). -/
def execRecoveryLoad (r : Request) (s : State) : Out :=
  serve opRecoveryLoad uSecurity r s (checksRecoveryLoad r) (doneRecoveryLoad r)

/-- The ROM serves this transport (R790). -/
def State.romServes (s : State) (port : RomPort) : Bool :=
  match port with
  | .usb => s.power.usb
  | .e6 => s.identityComplete && s.ipAddress.isSome
  | .pcie => s.hub.pcieStrap && !s.hub.perst

/-- When RECOVERY_SESSION has its effect. -/
def whenRecoverySession (_t : Nat) (port : RomPort) (s : State) : Bool :=
  s.hubUp && s.mode.mode == .recovery && s.update.romPort.isNone && s.romServes port

/-- Effect of RECOVERY_SESSION. -/
def doneRecoverySession (_t : Nat) (port : RomPort) (s : State) : State :=
  (s.modUpdate fun u => { u with romPort := some port }).enableChannel 63

/-- RECOVERY_SESSION (R790): the first transport holds channel 63. -/
def execRecoverySession (t : Nat) (port : RomPort) (s : State) : Out :=
  event t s (whenRecoverySession t port) (doneRecoverySession t port)

/-- When RECOVERY_SESSION_CLOSE has its effect. -/
def whenRecoverySessionClose (_t : Nat) (s : State) : Bool :=
  s.update.romPort.isSome

/-- Effect of RECOVERY_SESSION_CLOSE. -/
def doneRecoverySessionClose (_t : Nat) (s : State) : State :=
  (s.modUpdate fun u => { u with romPort := none }).resetChannel 63 stRestarted

/-- RECOVERY_SESSION_CLOSE (R790). -/
def execRecoverySessionClose (t : Nat) (s : State) : Out :=
  event t s (whenRecoverySessionClose t) (doneRecoverySessionClose t)

/-! ### Identity and keys (R786, R787, R796) -/

/-- MAC_BASE is even and unicast. -/
def macBaseOk (m : List Byte) : Bool := !bit (field m 5 1) 0 && !bit (field m 0 1) 0

/-- Refusals of IDENTITY_SET. -/
def checksIdentitySet (r : Request) (s : State) : List (Bool × Status) :=
  [(!macBaseOk (r.bytes 0 6) || !r.zero 6 2, .badParam), (s.update.pub != [], .busyId)]

/-- Effect of IDENTITY_SET. -/
def doneIdentitySet (r : Request) (s : State) : State :=
  let pub := freeBytes s.freeCount 97
  let s := s.spend 97
  let s := s.modUpdate fun u =>
    { u with pub := pub, moduleId := field (Config.sha384 pub) 0 8, macBase := r.bytes 0 6 }
  answer opIdentitySet uSecurity r [] s.provision

/-- IDENTITY_SET (R786): the device key is made at random, so its public half is a free value (assumption 3). -/
def execIdentitySet (r : Request) (s : State) : Out :=
  serve opIdentitySet uSecurity r s (checksIdentitySet r) (doneIdentitySet r)

/-- Refusals of KEY_PUBLIC. -/
def checksKeyPublic (_r : Request) (s : State) : List (Bool × Status) :=
  [(s.update.pub == [], .wrongMode)]

/-- Effect of KEY_PUBLIC. -/
def doneKeyPublic (r : Request) (s : State) : State :=
  let id := le 8 s.update.moduleId ++ s.update.pub
  answer opKeyPublic uSecurity r (id ++ le 3 0 ++ le 96 (Config.attest (id ++ le 16 Config.serial.toNat)).toNat) s

/-- KEY_PUBLIC (R796). -/
def execKeyPublic (r : Request) (s : State) : Out :=
  serve opKeyPublic uSecurity r s (checksKeyPublic r) (doneKeyPublic r)

/-- The fleet key in use by a RUNNING agent (R669, R787). -/
def State.fleetKeyUsed (s : State) (kind : Nat) : Bool :=
  s.fleet.state == 4 && 4 ≤ kind && field s.fleet.cfg 1 1 == kind - 4

/-- Refusals of KEY_SET. -/
def checksKeySet (r : Request) (s : State) : List (Bool × Status) :=
  let k := r.u 0 1
  let content := r.payload.drop 4
  [(inRange k 1 5 && !(keyModes k).has s.mode.mode, .wrongMode), (s.fleetKeyUsed k, .busyId),
               (r.len != 4 + r.u 2 2, .badLength),
               (!inRange k 1 5 || !r.zero 1 1 || !s.keyOk k content, .badParam)]

/-- Effect of KEY_SET. -/
def doneKeySet (r : Request) (s : State) : State :=
  let k := r.u 0 1
  let content := r.payload.drop 4
  let s := s.modUpdate fun u => { u with keys := u.keys.put k (s.keyValue k content) }
  let s := (s.answered opKeySet uSecurity r .ok []).provision.keyChanged k 1
  if 4 ≤ k then s.fleetEval else s

/-- KEY_SET (R786, R787, R796). -/
def execKeySet (r : Request) (s : State) : Out :=
  serve opKeySet uSecurity r s (checksKeySet r) (doneKeySet r)

/-- Refusals of KEY_CLEAR. -/
def checksKeyClear (r : Request) (s : State) : List (Bool × Status) :=
  let k := r.u 0 1
  [(inRange k 1 5 && !(keyModes k).has s.mode.mode, .wrongMode),
               (inRange k 1 2 && s.mode.mode != .provision, .busyId),
               (!inRange k 1 5 || !r.zero 1 3, .badParam)]

/-- Effect of KEY_CLEAR. -/
def doneKeyClear (r : Request) (s : State) : State :=
  let k := r.u 0 1
  let s := s.modUpdate fun u => { u with keys := u.keys.erase k }
  let s := (s.answered opKeyClear uSecurity r .ok []).keyChanged k 0
  if 4 ≤ k then s.fleetEval else s

/-- KEY_CLEAR (R786, R796). -/
def execKeyClear (r : Request) (s : State) : Out :=
  serve opKeyClear uSecurity r s (checksKeyClear r) (doneKeyClear r)

/-- Effect of KEY_STATUS. -/
def doneKeyStatus (r : Request) (s : State) : State :=
  let u := s.update
  let present := bitsOf ((List.range 5).map fun k => (u.keys.find (k + 1)).isSome)
  let after := match u.keys.find 1 with
    | some der => (Config.certNotAfter der).toNat
    | none => 0
  answer opKeyStatus uSecurity r (le 1 present ++ le 1 s.lifecycleNow.code ++ le 2 0 ++ le 8 after ++ le 4 0) s

/-- KEY_STATUS (R796). -/
def execKeyStatus (r : Request) (s : State) : Out :=
  serve opKeyStatus uSecurity r s (fun _ => []) (doneKeyStatus r)

end Sys2Proof.Machine
end

