-- ==== Sys2Proof/Machine/ExecChange.lean ====
section
/-! DEFINITION. The end of a mode change and what it lets go on: the requests that units and the module supervisor have deferred
(R121, R138, R143), and the commands that can end a change (04). -/

namespace Sys2Proof.Machine

/-! ### Deferred requests -/

/-- The state a meaning answers, where it answers one. -/
def nextOr (s : State) (o : Out) : State :=
  match o with
  | .next t => t
  | _ => s

/-- The request as it is evaluated at the end of the change. -/
def laterAt (r : Request) (s : State) : Request := { r with time := s.time }

/-- Evaluate a deferred request (R121, R137, R138, R143): it passes every check again, its epoch among them. -/
def State.redo (s : State) (x : DeferredOp × Request) : State :=
  let r := laterAt x.2 s
  match x.1 with
  | .modeRequest => doneModeRequest r s
  | .rungRequest => nextOr s (execRungRequest r s)
  | .selftest => nextOr s (execSelftest r s)
  | .tune => nextOr s (execLoopTune r s)
  | .functionStart => nextOr s (execFunctionStart r s)
  | .imageInstall => nextOr s (execImageInstall r s)
  | .imageRevert => nextOr s (serve opImageRevert uSecurity r s (checksImageRevert r) (doneImageRevert r))
  | .recoveryEnter => nextOr s (execRecoveryEnter r s)

/-- The change has committed or aborted: what was deferred is evaluated, in order. One that must wait for another change is deferred
again. -/
def State.settleDeferred (s : State) : State :=
  if s.mode.change.all (·.forced) then
    let l := s.deferred
    l.foldl State.redo { s with deferred := [] }
  else s

/-- The effect of a command that may end a mode change: what was deferred until then follows (R121, R138, R143). -/
def settling (effect : State → State) (s : State) : State := (effect s).settleDeferred

/-! ### Commands that can end a change -/

/-- MODE_REQUEST (R222–R226). -/
def execModeRequest (r : Request) (s : State) : Out :=
  valid (r.ch < 64) (.next (settling (doneModeRequest r) (s.atTime r.time)))

/-- ISLAND_READY (R141–R143): an island that cannot apply the mode answers refused; the last ready opens the MODE record. -/
def execIslandReady (t island : Nat) (s : State) : Out :=
  valid (island < 12) <| event t s (whenIslandReady t island) (settling (doneIslandReady t island))

/-- ISLAND_REFUSAL (R141, R142): a unit's own reason. -/
def execIslandRefusal (t unit reason : Nat) (s : State) : Out :=
  valid (isUnit unit && inRange reason 1 3) <| event t s (whenIslandRefusal t unit reason)
    (settling (doneIslandRefusal t unit reason))

/-- PREPARE_TIMEOUT (R141, R142): the first silent island supervisor is named. -/
def execPrepareTimeout (t : Nat) (s : State) : Out :=
  event t s (whenPrepareTimeout t) (settling (donePrepareTimeout t))

/-- MODE_COMMIT (R141, R146): at the first tick at least 20 µs after the last ready; `missed` are the units that miss it. -/
def execModeCommit (t : Nat) (missed : List Nat) (s : State) : Out :=
  valid (missed.all isUnit) <| event t s (whenModeCommit t missed) (settling (doneModeCommit t missed))

/-- FORCED_SAFE_HOLD (R145): at the first tick at least 100 µs after the prepare. -/
def execForcedSafeHold (t : Nat) (missed : List Nat) (s : State) : Out :=
  valid (missed.all isUnit) <| event t s (whenForcedSafeHold t missed) (settling (doneForcedSafeHold t missed))

/-- AUTO_SAFE_HOLD (R132, R135, R145, R207): the oldest cause; HOST_LOST has effect only where the mode permits the transition. -/
def execAutoSafeHold (t : Nat) (s : State) : Out :=
  event t s (whenAutoSafeHold t) (settling (doneAutoSafeHold t))

/-- UNIT_HEARTBEAT_LOSS (R25): a loss before the island's answer ends a mode change (R142). -/
def execUnitHeartbeatLoss (t unit : Nat) (s : State) : Out :=
  valid (isUnit unit) <| event t s (whenUnitHeartbeatLoss t unit) (settling (doneUnitHeartbeatLoss t unit))

/-- SUP_WATCHDOG_EXPIRY (R28). -/
def execSupWatchdogExpiry (t : Nat) (s : State) : Out :=
  event t s (whenSupWatchdogExpiry t) (settling (doneSupWatchdogExpiry t))

/-- ISLAND_REPORT_TIMEOUT (R26): found by the module supervisor, so not of SUP itself. -/
def execIslandReportTimeout (t island : Nat) (s : State) : Out :=
  valid (island < 12) <| event t s (whenIslandReportTimeout t island) (settling (doneIslandReportTimeout t island))

/-- ISLAND_RESET (R31). -/
def execIslandReset (t island : Nat) (s : State) : Out :=
  valid (island < 12) <| event t s (whenIslandReset t island) (settling (doneIslandReset t island))

/-- CONFIRM_TIMEOUT (R784). -/
def execConfirmTimeout (t cls : Nat) (s : State) : Out :=
  valid (isClass cls) <| event t s (whenConfirmTimeout t cls) (settling (doneConfirmTimeout t cls))

/-- TRIAL_REJOIN_TIMEOUT (R784): 5 s from the reset; the activation's completion reports the return. -/
def execTrialRejoinTimeout (t cls : Nat) (s : State) : Out :=
  valid (isClass cls) <| event t s (whenTrialRejoinTimeout t cls) (settling (doneTrialRejoinTimeout t cls))

/-- IMAGE_ACTIVATE (R783). -/
def execImageActivate (r : Request) (s : State) : Out :=
  serve opImageActivate uSecurity r s (checksImageActivate r) (settling (doneImageActivate r))

/-- IMAGE_REVERT (R784, R785). -/
def execImageRevert (r : Request) (s : State) : Out :=
  serve opImageRevert uSecurity r s (checksImageRevert r) (settling (doneImageRevert r))

/-- FLD_CONVERTER_FAIL (R688): FLD loses its power and resets. -/
def execFldConverterFail (t : Nat) (s : State) : Out :=
  event t s (whenFldConverterFail t) (settling (doneFldConverterFail t))

end Sys2Proof.Machine
end

