-- ==== Sys2Proof/Machine/ExecDisplay.lean ====
section
/-! DEFINITION. The Display family and the display engine's own events (22). -/

namespace Sys2Proof.Machine

/-- The display unit runs. -/
def State.displayRuns (s : State) : Bool := s.unitUp uDisplay

/-! ### The family -/

/-- DISPLAY_CONFIG lies outside R719 or R730. -/
def displayConfigBad (s : State) (r : Request) : Bool :=
  r.u 0 1 > 1 || r.u 1 1 > 1 || r.u 2 2 > 60000 || r.u 4 2 > 200 || !r.zero 9 3 || !r.zero 20 4 || !s.storeOk (r.u 12 8) ||
    !s.mayName (r.u 12 8) r.ch ||
    (r.u 1 1 == 0 && s.display.panel.any fun p => !p.hasSensor)

/-- Refusals of DISPLAY_CONFIG. -/
def checksDisplayConfig (r : Request) (s : State) : List (Bool × Status) :=
  [(s.display.active != [] || s.display.queued != [], .busyId), (displayConfigBad s r, .badParam)]

/-- Effect of DISPLAY_CONFIG. -/
def doneDisplayConfig (r : Request) (s : State) : State :=
  let s := s.modDisplay fun d =>
    { d with external := r.u 0 1 == 1, airTemp := r.u 1 1 == 1, idleMs := r.u 2 2, statusRows := some (r.u 4 2),
             pmic := (r.u 6 1, r.u 7 1, r.u 8 1), store := r.u 12 8,
             faulted := d.faulted && d.panel.isNone, railFault := none }
  answer opDisplayConfig uDisplay r [] s.checkContent

/-- DISPLAY_CONFIG (R713, R730). -/
def execDisplayConfig (r : Request) (s : State) : Out :=
  serve opDisplayConfig uDisplay r s (checksDisplayConfig r) (doneDisplayConfig r)

/-- The file a placement holds. -/
def State.waveFile (s : State) (h : Nat) : List Byte := s.readPlace h 0 (field (s.readPlace h 0 64) 16 4)

/-- Refusals of WAVEFORM_LOAD. -/
def checksWaveformLoad (r : Request) (s : State) : List (Bool × Status) :=
  let h := r.u 0 8
  let bad := fun (s : State) =>
    match s.placement h with
    | some p =>
      let w := s.waveFile h
      !s.mayName h r.ch || !(p.cls == 2 && p.dur == 2 && p.lists uDisplay) || p.size < field w 16 4 || !waveOk w ||
        s.display.panel.any fun q => !(field w 8 8 == 0 || field w 8 8 == q.id) || !waveFits w q
    | none => true
  [(bad s, .badParam)]

/-- Effect of WAVEFORM_LOAD. -/
def doneWaveformLoad (r : Request) (s : State) : State :=
  let h := r.u 0 8
  answer opWaveformLoad uDisplay r [] ((s.modDisplay fun d => { d with waveform := h, lastWave := s.waveFile h }).checkContent)

/-- WAVEFORM_LOAD (R717, R718, R730). -/
def execWaveformLoad (r : Request) (s : State) : Out :=
  serve opWaveformLoad uDisplay r s (checksWaveformLoad r) (doneWaveformLoad r)

/-- Temperature in force at dispatch: the last reading of the source TEMP_SOURCE names (R716, R731). -/
def State.panelTemp (s : State) : Int := if s.display.airTemp then s.power.airTemp else s.display.temp

/-- The band an UPDATE is checked against: the latched one, or that of the present temperature (R731). -/
def State.currentBand (s : State) : Option Nat := (s.display.band.map (·.1)).orElse fun _ => bandOf s.panelTemp

/-- UPDATE lies outside R731. -/
def updateBad (s : State) (r : Request) : Bool :=
  let m := r.u 0 1
  let x := r.u 4 2
  let y := r.u 6 2
  let w := r.u 8 2
  let h := r.u 10 2
  let stride := r.u 32 4
  let src := s.placement (r.u 16 8)
  !inRange m 1 4 || !r.zero 1 3 || !r.zero 12 4 || !r.zero 36 4 || x % 8 != 0 || w % 8 != 0 || w < 8 || h < 1 || stride < w ||
    (s.display.panel.any fun p => x + w > p.width || y + h > p.height - s.display.strip) ||
    !s.mayName (r.u 16 8) r.ch || !(src.any fun p => p.lists uDisplay && r.u 24 8 + stride * (h - 1) + w ≤ p.size) || !s.waveReady ||
    !s.storeOk s.display.store || (s.currentBand.any fun b => waveFrames s.display.lastWave b m == 0)

/-- Refusals of DISPLAY_UPDATE (R721, R731). -/
def checksDisplayUpdate (r : Request) (s : State) : List (Bool × Status) :=
  [((bandOf s.panelTemp).isNone, .outOfBand), (updateBad s r, .badParam), (32 ≤ s.display.queued.length, .noSpace),
   (s.display.panel.isNone || s.display.faulted, .hwFault)]

/-- Effect of DISPLAY_UPDATE. -/
def doneDisplayUpdate (r : Request) (s : State) : State :=
  let q := s.requester opDisplayUpdate r
  let id := s.display.nextId
  let s := s.accepted opDisplayUpdate uDisplay r (le 4 id)
  let u : PanelUpdate :=
    { id := id, mode := r.u 0 1, x := r.u 4 2, y := r.u 6 2, w := r.u 8 2, h := r.u 10 2, ch := r.ch, tag := r.tag.toNat,
      req := some q, source := r.u 16 8, offset := r.u 24 8, stride := r.u 32 4, record := 0, band := 0xFF, frame := 0,
      frames := 0, start := 0, restore := none }
  s.modDisplay fun d => { d with nextId := (d.nextId + 1) % 2 ^ 32, queued := d.queued ++ [u] }

/-- DISPLAY_UPDATE is refused for the panel's temperature. -/
def State.updateOutOfBand (s : State) (r : Request) : Bool :=
  (gate opDisplayUpdate uDisplay r (s.atTime r.time)).isNone &&
    refusal (checksDisplayUpdate r (s.atTime r.time)) == some .outOfBand

/-- UPDATE (R721, R731); one refused with OUT_OF_BAND is counted (R734). -/
def execDisplayUpdate (r : Request) (s : State) : Out :=
  serve opDisplayUpdate uDisplay r (if s.updateOutOfBand r then s.count uDisplay 18 else s) (checksDisplayUpdate r)
    (doneDisplayUpdate r)

/-- Refusals of FRONT_LIGHT. -/
def checksFrontLight (r : Request) (s : State) : List (Bool × Status) :=
  [(r.u 0 2 > 1000 || !r.zero 2 2, .badParam), (!(s.display.panel.any (·.hasLight)), .hwFault)]

/-- Effect of FRONT_LIGHT. -/
def doneFrontLight (r : Request) (s : State) : State :=
  answer opFrontLight uDisplayPower r []
    (s.modDisplay fun d => if d.known then d.light (r.u 0 2) else { d with flHeld := some (r.u 0 2) })

/-- FRONT_LIGHT (R714, R728, R732). -/
def execFrontLight (r : Request) (s : State) : Out :=
  serve opFrontLight uDisplayPower r s (checksFrontLight r) (doneFrontLight r)

/-- Effect of DISPLAY_STATUS. -/
def doneDisplayStatus (r : Request) (s : State) : State :=
  let d := s.display
  let kind := match d.pins with
    | some p => if p.1 then 1 else 2
    | none => 0
  let (milli, s') := s.free 16
  let (volts, s') := s'.free 16
  answer opDisplayStatus uDisplay r
    (le 8 s.time ++ le 1 kind ++ le 1 d.stateCode ++ le 1 ((d.band.map (·.1)).getD 0xFF) ++ le 1 d.active.length ++
      le 1 d.queued.length ++ le 1 0 ++ le 2 d.flLevel ++ le 2 milli.toNat ++ leInt 2 s.panelTemp ++ le 2 volts.toNat ++
      le 2 ((d.panel.map (·.width)).getD 0) ++ le 2 ((d.panel.map (·.height)).getD 0) ++ le 2 0 ++ le 8 d.panelId ++
      le 4 d.updates.toNat ++ le 4 d.restorations.toNat ++ le 4 0) s'

/-- DISPLAY_STATUS (R732): the front-light current and VCOM are measured on the panel, free values (assumption 47). -/
def execDisplayStatus (r : Request) (s : State) : Out :=
  serve opDisplayStatus uDisplay r s (fun _ => []) (doneDisplayStatus r)

/-! ### Panel and rails -/

/-- When PANEL_DETECT_CHANGE has its effect. -/
def whenPanelDetectChange (_t : Nat) (_fitted _lidSel : Bool) (_identity : List Byte) (_s : State) : Bool :=
  true

/-- Effect of PANEL_DETECT_CHANGE. -/
def donePanelDetectChange (_t : Nat) (fitted lidSel : Bool) (identity : List Byte) (s : State) : State :=
  let s := s.modDisplay fun d => { d with pins := if fitted then some (lidSel, identity) else none }
  if s.inReset islDis then s else s.samplePanel

/-- PANEL_DETECT_CHANGE (R71, R707, R714, R715). -/
def execPanelDetectChange (t : Nat) (fitted lidSel : Bool) (identity : List Byte) (s : State) : Out :=
  event t s (whenPanelDetectChange t fitted lidSel identity) (donePanelDetectChange t fitted lidSel identity)

/-- An update or a restoration is due (R712, R721, R726). -/
def State.displayDue (s : State) : Bool := s.display.queued != [] || s.openDisplay != []

/-- The rails may rise (R71, R712, R713): a panel without a fault is fitted, and the wait of R100 is over. -/
def State.railsAllowed (s : State) : Bool :=
  s.power.rung == 0 && s.unitUp uDisplayPower && s.display.panel.isSome && !s.display.faulted && !s.power.holdupWait &&
    s.display.state != .discharging

/-- Time from the request at which step `n` of R709 falls (R712). -/
def railStep (n : Nat) : Nat := if n ≤ 1 then 0 else n * ms

/-- When RAIL_POWER_UP has its effect. -/
def whenRailPowerUp (t : Nat) (s : State) : Bool :=
  s.railsAllowed && ((s.display.state == .powering && s.display.railsAt.all fun u => decide (u + railStep (s.display.rails + 1) ≤ t)) || (s.display.state == .down && s.displayDue &&
      (s.display.railFault.all fun u => decide (u + sec ≤ t))))

/-- Effect of RAIL_POWER_UP. -/
def doneRailPowerUp (t : Nat) (s : State) : State :=
  let n := s.display.rails + 1
  let s := if n = 1 then s.count uDisplayPower 16 else s
  s.modDisplay fun d =>
    { d with rails := n, railsAt := if n = 1 then some t else d.railsAt, state := if n < 6 then .powering else .ready,
             pmicOut := if d.external && inRange n 2 5 then d.pmic.2.2 else d.pmicOut, lastFrame := if n < 6 then d.lastFrame else some t }

/-- RAIL_POWER_UP (R709, R711, R712): the next rail in order rises, steps 2 to 5 of an external supply by the write of PMIC_EN_VAL; after VCOM the first frame may start. -/
def execRailPowerUp (t : Nat) (s : State) : Out :=
  event t s (whenRailPowerUp t) (doneRailPowerUp t)

/-- When RAIL_FAULT has its effect. -/
def whenRailFault (t rail : Nat) (s : State) : Bool :=
  inRange rail 1 s.display.rails &&
    (s.display.state == .powering ||
      (s.display.state == .ready && s.display.active == [] && s.display.railsAt.any fun u => decide (t ≤ u + railStep 7)))

/-- Effect of RAIL_FAULT. -/
def doneRailFault (t rail : Nat) (s : State) : State :=
  let second := s.display.railFault.any fun u => decide (t < u + 10 * sec)
  let s := (s.startDischarge.modDisplay fun d => { d with railFault := some t, faulted := second }).count uDisplayPower 17
  let s := s.tellPanel 3 rail
  if second then s.failQueued else s

/-- RAIL_FAULT (R713): a rail that has risen is out of tolerance at its test, VCOM's 1 ms after its step included; a second failure within 10 s puts the panel in FAULT, and what is queued ends with HW_FAULT. -/
def execRailFault (t rail : Nat) (s : State) : Out :=
  event t s (whenRailFault t rail) (doneRailFault t rail)

/-- When RAIL_RETRY has its effect. -/
def whenRailRetry (t : Nat) (s : State) : Bool :=
  s.railsAllowed && s.display.state == .down && s.displayDue &&
      s.display.railFault.any fun u => decide (u + sec ≤ t)

/-- Effect of RAIL_RETRY. -/
def doneRailRetry (t : Nat) (s : State) : State :=
  (s.modDisplay fun d => { d with rails := 1, railsAt := some t, state := .powering }).count uDisplayPower 16

/-- RAIL_RETRY (R713): 1 s after a rail fault the first rail rises again. -/
def execRailRetry (t : Nat) (s : State) : Out :=
  event t s (whenRailRetry t) (doneRailRetry t)

/-- When DISCHARGE_SEQUENCE has its effect. -/
def whenDischargeSequence (_t : Nat) (s : State) : Bool :=
  s.display.state == .discharging

/-- Effect of DISCHARGE_SEQUENCE. -/
def doneDischargeSequence (_t : Nat) (s : State) : State :=
  s.discharge

/-- DISCHARGE_SEQUENCE (R715): what a trigger has begun runs to its end. -/
def execDischargeSequence (t : Nat) (s : State) : Out :=
  event t s (whenDischargeSequence t) (doneDischargeSequence t)

/-- When DISPLAY_IDLE_TIMEOUT has its effect. -/
def whenDisplayIdleTimeout (t : Nat) (s : State) : Bool :=
  s.display.state == .ready && s.display.active == [] &&
      s.display.lastFrame.any fun u => decide (u + s.display.idleMs * ms ≤ t)

/-- Effect of DISPLAY_IDLE_TIMEOUT. -/
def doneDisplayIdleTimeout (_t : Nat) (s : State) : State :=
  s.startDischarge.tellPanel 4 0xFF

/-- DISPLAY_IDLE_TIMEOUT (R715). -/
def execDisplayIdleTimeout (t : Nat) (s : State) : Out :=
  event t s (whenDisplayIdleTimeout t) (doneDisplayIdleTimeout t)

/-- When FRONT_LIGHT_FAULT has its effect. -/
def whenFrontLightFault (_t : Nat) (s : State) : Bool :=
  s.display.flOn

/-- Effect of FRONT_LIGHT_FAULT. -/
def doneFrontLightFault (_t : Nat) (s : State) : State :=
  ((s.modDisplay fun d => { d with flOn := false, flLevel := 0 }).count uDisplayPower 19).tellPanel 6 0xFF

/-- FRONT_LIGHT_FAULT (R728). -/
def execFrontLightFault (t : Nat) (s : State) : Out :=
  event t s (whenFrontLightFault t) (doneFrontLightFault t)

/-! ### Updates and restorations -/

/-- Every rail has passed its test, 1 ms after its step (R712, R713). -/
def State.railsTested (s : State) (t : Nat) : Bool := s.display.railsAt.all fun u => decide (u + railStep 7 ≤ t)

/-- Display work may start (R100, R723): the rails are up, no crank hold, the reserve full. -/
def State.displayFree (s : State) : Bool :=
  s.power.rung == 0 && s.displayRuns && s.display.state == .ready && s.power.crank.isNone && !s.power.holdupWait && !s.display.faulted &&
    s.display.panel.isSome

/-- The first queued update that overlaps no active and no earlier queued one (R721). -/
def nextUpdate (active earlier : List PanelUpdate) : List PanelUpdate → Option PanelUpdate
  | [] => none
  | u :: l => if (active ++ earlier).any u.overlaps then nextUpdate active (earlier ++ [u]) l else some u

/-- The update that starts next (R721, R726): before every restoration is complete only the clear of R714. -/
def State.startable (s : State) : Option PanelUpdate :=
  let d := s.display
  if 16 ≤ d.active.length || d.active.any (·.restore.isSome) then none
  else if s.openDisplay != [] || d.clearing then (if d.active = [] then d.queued.find? (·.isClear) else none)
  else nextUpdate d.active [] d.queued

/-- Take an update out of the queue. -/
def State.unqueue (s : State) (u : PanelUpdate) : State :=
  s.modDisplay fun d => { d with queued := d.queued.erase u }

/-- An update starts in a band (R722): record, store, frames. -/
def State.startUpdate (s : State) (u : PanelUpdate) (band : Nat) : State :=
  let s := s.unqueue u
  let u := { u with band := band, frames := waveFrames s.display.lastWave band u.mode }
  let id := s.ledger.nextId
  let s := s.newRecord .display .open 0xFF uDisplay none s.mode.epoch true (displayBody u 0 s.display.panelId)
  let s := match s.display.panel with
    | some p => if u.isClear then s.writeHeader p else s
    | none => s
  (s.storeUpdate u).modDisplay fun d => { d with active := d.active ++ [{ u with record := id }] }

/-- Latch a band (R710, R720). -/
def State.latchBand (s : State) (b : Nat) : State :=
  s.modDisplay fun d =>
    let v := waveVcom d.lastWave b + (d.panel.map (·.vcomOffset)).getD 0
    { d with band := some (b, s.time, clampInt (-5000) 0 v) }

/-- The temperature that a sample takes: `temp` of the panel sensor, or the housing air where TEMP_SOURCE names it (R716). -/
def State.sampled (s : State) (temp : Int) : Int := if s.display.airTemp then s.power.airTemp else temp

/-- When UPDATE_START has its effect. -/
def whenUpdateStart (t : Nat) (_temp : Int) (s : State) : Bool :=
  s.displayFree && s.railsTested t && s.startable.isSome &&
      (s.display.active == [] || (s.display.boundary == t && s.display.band.any fun b => decide (t ≤ b.2.1 + 10 * sec)))

/-- Effect of UPDATE_START. -/
def doneUpdateStart (_t : Nat) (temp : Int) (s : State) : State :=
  match s.startable with
  | some u =>
    let temp := s.sampled temp
    let s := s.modDisplay fun d => { d with temp := temp }
    let band := if s.display.active = [] then (if u.isClear then some (nearestBand temp) else bandOf temp)
      else s.display.band.map (·.1)
    if !s.waveReady || !s.storeOk s.display.store || (u.source != 0 && (s.placement u.source).isNone) then
      (s.unqueue u).displayDone u .hwFault 0xFF 0 0
    else match band with
    | some b =>
      if waveFrames s.display.lastWave b u.mode = 0 then ((s.unqueue u).displayDone u .outOfBand 0xFF 0 0).count uDisplay 18
      else (if s.display.active = [] then s.latchBand b else s).startUpdate u b
    | none => ((s.unqueue u).displayDone u .outOfBand 0xFF 0 0).count uDisplay 18
  | none => s

/-- UPDATE_START (R720–R722): an idle panel latches the band of `temp`; an update joins, at a frame boundary, a band latched no more than 10 s
earlier, and waits otherwise. One whose source, store or waveform has been released ends with HW_FAULT. The clear of R714 takes the nearest band, and a mode the band lacks ends with OUT_OF_BAND
(assumption 48). -/
def execUpdateStart (t : Nat) (temp : Int) (s : State) : Out :=
  event t s (whenUpdateStart t temp) (doneUpdateStart t temp)

/-- When PANEL_TEMP_TIMEOUT has its effect. -/
def whenPanelTempTimeout (_t : Nat) (s : State) : Bool :=
  s.displayFree && !s.display.airTemp && s.display.active == []

/-- Effect of PANEL_TEMP_TIMEOUT. -/
def donePanelTempTimeout (_t : Nat) (s : State) : State :=
  match s.startable with
  | some u => if u.isClear then s else (s.unqueue u).displayDone u .hwFault 0xFF 0 0
  | none => s

/-- PANEL_TEMP_TIMEOUT (R716): the update that would have sampled fails. -/
def execPanelTempTimeout (t : Nat) (s : State) : Out :=
  event t s (whenPanelTempTimeout t) (donePanelTempTimeout t)

/-- When DISPLAY_FRAME_END has its effect. -/
def whenDisplayFrameEnd (t : Nat) (s : State) : Bool :=
  (s.displayRuns || (s.display.active.any (·.restore.isSome) && !s.inReset islDis)) && s.display.active != [] && decide (s.display.boundary + s.display.frameNs ≤ t)

/-- Effect of DISPLAY_FRAME_END. -/
def doneDisplayFrameEnd (_t : Nat) (s : State) : State :=
  s.frameEnd

/-- DISPLAY_FRAME_END (R708, R722). A restoration's frames run on without the display unit: the supervisor draws it (R29, R726). -/
def execDisplayFrameEnd (t : Nat) (s : State) : Out :=
  event t s (whenDisplayFrameEnd t) (doneDisplayFrameEnd t)

/-- One record is restored (R726): another panel's is APPLIED at once; with the store or the waveform gone CLEAR runs alone,
with the last waveform that was read. -/
def State.restoreRecord (s : State) (x : Record) (p : Panel) (temp : Int) : State :=
  let f := fun off size => field x.body off size
  if f 24 8 != p.id then (s.restored x.id 0xFF 4).checkContent
  else
    let b := nearestBand temp
    let gone := !s.storeOk s.display.store || !s.waveReady
    let flags := flag (bandOf temp).isNone + 2 * flag gone
    if s.display.lastWave = [] then (s.restored x.id 0xFF flags).checkContent
    else
      let u := { clearUpdate p with
                 x := f 8 2, y := f 10 2, w := f 12 2, h := f 14 2, record := x.id, band := b,
                 frames := waveFrames s.display.lastWave b 1, restore := some (x.id, flags, !gone) }
      (s.latchBand b).modDisplay fun d => { d with active := [u], temp := temp }

/-- When RESTORATION has its effect. -/
def whenRestoration (t : Nat) (_temp : Int) (s : State) : Bool :=
  s.power.rung == 0 && s.railsTested t && !s.inReset islDis && s.display.state == .ready && !s.power.holdupWait && s.power.crank.isNone &&
      !s.display.faulted && s.display.active == [] && !s.display.clearing && s.openDisplay != []

/-- Effect of RESTORATION. -/
def doneRestoration (_t : Nat) (temp : Int) (s : State) : State :=
  match s.openDisplay, s.display.panel with
  | x :: _, some p => s.restoreRecord x p (s.sampled temp)
  | _, _ => s

/-- RESTORATION (R726): the record with the lowest ID, once the clear of R714 is over. -/
def execRestoration (t : Nat) (temp : Int) (s : State) : Out :=
  event t s (whenRestoration t temp) (doneRestoration t temp)

end Sys2Proof.Machine
end

