-- ==== Sys2Proof/Machine/ExecLedger.lean ====
section
/-! DEFINITION. The ledger: replay of work in flight, the records' timers, the outputs' snapshot and the Ledger family (09). -/

namespace Sys2Proof.Machine

/-! ### Replay (R327–R331) -/

/-- Families of family_is_ctl: Control, Machine function, Load switch and Section timing (R328). -/
def ctlFamilies : List Nat := [0x10, 0x11, 0x12, 0x13]

/-- Status of a COMMAND record in the applied windows (R326). -/
def Ledger.applied (l : Ledger) (id : Nat) : Option Nat :=
  (l.windows.entries.findSome? fun w => w.2.find? fun x => x.1 == id).map (·.2)

/-- The reply status of a record that is APPLIED: its window's, or the one its OP gives (R326). -/
def State.statusOf (s : State) (x : Record) : Nat :=
  (s.ledger.applied x.id).getD (flag ((findOp (field x.body 2 1) (field x.body 3 1)).any (·.accepted)))

/-- A COMMAND record expires in a replay. -/
def State.expireReplayed (s : State) (x : Record) (cause : Nat) : State := (s.expireCommand x cause 0).noteReplay 0 0 1

/-- LEDGER_RESULT with ORIGIN 0x02 for a record that is APPLIED: the OP's own completion waits for it (R326, R331). -/
def State.redeliver (s : State) (x : Record) : State :=
  let st := s.statusOf x
  (s.modRecord x.id fun x => { x with delivered := false, replied := false }).outcome x 0x0601 (ledgerResult x st [] 2) false

/-- The command is handed to its unit once more; the row of its OP executes it under every check of the unit (R328, R329). -/
def State.redispatch (s : State) (x : Record) : State :=
  let s := s.modRecord x.id fun x => { x with dispatched := true, replayed := true, uncertain := false }
  (s.modLedger fun l => { l with redispatched := l.redispatched ++ [x.id] }).noteReplay 1 0 0

/-- `check` of R328. -/
def State.replayCheck (s : State) (x : Record) : State :=
  if x.deadline.any fun d => decide (d ≤ s.time) then s.expireReplayed x 1
  else if s.mode.safeApplied && ctlFamilies.contains (field x.body 2 1) then s.expireReplayed x 4
  else if (s.chan x.ch).holdReplay then s.modLedger fun l => { l with waiting := l.waiting ++ [x.id] }
  else s.redispatch x

/-- A COMMAND record that is OPEN (R328). -/
def State.replayCommand (s : State) (x : Record) : State :=
  if x.dispatched && x.uncertain then s.expireReplayed x 3
  else if x.dispatched && (s.ledger.applied x.id).isSome then
    ((s.setRecord x.id .applied 0).noteReplay 0 1 0).redeliver x
  else s.replayCheck x

/-- WRITE_TORN of a write-back unit that a stop cut off (R254, R276). -/
def State.tellTorn (s : State) (x : Record) : State :=
  if s.ledger.replayCause = 1 then s
  else s.raise uPlacement 0x0403 (le 8 (field x.body 0 8) ++ le 8 (field x.body 8 8) ++ le 4 (field x.body 16 4) ++ le 4 0)

/-- One OPEN record (R328). -/
def State.replayOpen (s : State) (x : Record) : State :=
  match x.kind with
  | .storeIntent => ((s.expireOther x 6 0).noteReplay 0 0 1).tellTorn x
  | .mode => (s.expireOther x 7 0).noteReplay 0 0 1
  | .display => s
  | .rung => s.redeliverRung x
  | .edge =>
    if (s.edge x.id).isSome then s
    else if x.deadline.any fun d => decide (d ≤ s.time) then (s.expireOther x 1 0).noteReplay 0 0 1
    else (s.expireOther x 2 Status.staleEpoch.code).noteReplay 0 0 1
  | .command => s.replayCommand x
  | .snapshot => s
  | .powerFail => s

/-- An event is the outcome of a COMMAND record (R331). -/
def RaisedEvent.outcomeEvent (e : RaisedEvent) : Bool :=
  (e.code == 0x0601 || e.code == 0x0602) && e.req.any fun q => q.record != 0

/-- The outcome of record `id` is on its way. -/
def State.outcomeFor (s : State) (id : Nat) : Bool :=
  let mine := fun (e : RaisedEvent) => e.outcomeEvent && e.req.any fun q => q.record == id
  s.hub.raised.any mine || s.hub.islandHeld.any mine || s.hub.chans.entries.any fun c => c.2.waiting.any fun i => mine i.event

/-- Some outcome is still to be written (R331). -/
def State.outcomeLeft (s : State) : Bool :=
  s.hub.raised.any (·.outcomeEvent) || s.hub.islandHeld.any (·.outcomeEvent) ||
    s.hub.chans.entries.any fun c => c.2.waiting.any fun i => i.event.outcomeEvent

/-- A record of R331 whose outcome has not been delivered: APPLIED, or OPEN and treated as R328 says. -/
def State.replayRecord (s : State) (x : Record) : State :=
  match x.state with
  | .open => s.replayOpen x
  | .applied => if x.kind == .command && !s.outcomeFor x.id then s.redeliver x else s
  | .retired => s
  | .expired => s

/-- An earlier record of the same unit has been handed over and not yet answered: records that address one unit are handled one at a
time (R327). -/
def State.unitReplays (s : State) (x : Record) : Bool :=
  x.kind == .command && x.state == .open && s.ledger.redispatched.any fun id => (s.record id).any fun y => y.unit == x.unit

/-- One record in the pass of a replay: one written since it began, one that waits for its release or its answer, and one whose unit
still has another are passed over (R327). -/
def State.replayNext (s : State) (x : Record) : State :=
  if s.ledger.replayTo ≤ x.id || s.ledger.waiting.contains x.id || s.unitReplays x then s else s.replayRecord x

/-- A record of the replay has still to be handed to its unit (R327). -/
def State.replayLeft (s : State) : Bool :=
  s.ledger.records.any fun x =>
    x.kind == .command && x.state == .open && decide (x.id < s.ledger.replayTo) && !s.ledger.waiting.contains x.id &&
      !s.ledger.redispatched.contains x.id

/-- REPLAY_DONE follows the last outcome (R331, R344). -/
def State.endReplay (s : State) : State :=
  let l := s.ledger
  if l.replaying && l.passed && l.redispatched.isEmpty && l.waiting.isEmpty && !s.outcomeLeft then
    (s.modLedger fun l => { l with replaying := false }).raise uLedger 0x0604
      (le 1 l.replayCause ++ le 3 0 ++ le 4 l.counts.1 ++ le 4 l.counts.2.1 ++ le 4 l.counts.2.2)
  else s

/-- The ledger service runs. -/
def State.ledgerRuns (s : State) : Bool := s.hubUp && s.mode.booted

/-- When LEDGER_REPLAY has its effect. -/
def whenLedgerReplay (_t : Nat) (s : State) : Bool :=
  s.ledgerRuns && s.ledger.replaying && !s.ledger.passed

/-- Effect of LEDGER_REPLAY. -/
def doneLedgerReplay (_t : Nat) (s : State) : State :=
  let s := s.ledger.records.foldl (fun s x => s.replayNext x) s
  if s.replayLeft then s
  else ((s.modLedger fun l => { l with passed := true }).modMode fun m => { m with safeApplied := false }).endReplay

/-- LEDGER_REPLAY (R327, R328): every record in ID order, but for those that wait for their unit's answer to an earlier one: the
pass goes on with a further LEDGER_REPLAY (assumption 134). -/
def execLedgerReplay (t : Nat) (s : State) : Out :=
  event t s (whenLedgerReplay t) (doneLedgerReplay t)

/-- When EVENT_DELIVERY has its effect. -/
def whenEventDelivery (_t : Nat) (s : State) : Bool :=
  s.hubDelivers

/-- Effect of EVENT_DELIVERY. -/
def doneEventDelivery (_t : Nat) (s : State) : State :=
  let s := s.endReplay
  match takeFirst (fun e => !s.blocked e) s.hub.raised with
  | some (e, rest) => ((s.modHub fun h => { h with raised := rest }).deliver e).flagWake s
  | none => s

/-- EVENT_DELIVERY (R22, R177, R179, R331). -/
def execEventDelivery (t : Nat) (s : State) : Out :=
  event t s (whenEventDelivery t) (doneEventDelivery t)

/-! ### Records (R325, R331, R341) -/

/-- When UNIT_EXECUTION_REPORT has its effect. -/
def whenUnitExecutionReport (_t id : Nat) (s : State) : Bool :=
  s.ledgerRuns && (s.ledger.applied id).isSome

/-- Effect of UNIT_EXECUTION_REPORT. -/
def doneUnitExecutionReport (_t id : Nat) (s : State) : State :=
  let s := s.setRecord id .applied 0
  match s.record id with
  | some x => if x.delivered then s.setRecord id .retired 0 else s
  | none => s

/-- UNIT_EXECUTION_REPORT (R325): the report of a command that its unit has executed; none is kept while the ledger service is
down. -/
def execUnitExecutionReport (t id : Nat) (s : State) : Out :=
  event t s (whenUnitExecutionReport t id) (doneUnitExecutionReport t id)

/-- When HELD_RECORD_DEADLINE has its effect. -/
def whenHeldRecordDeadline (_t id : Nat) (s : State) : Bool :=
  let due := fun (s : State) => s.ledgerRuns && s.ledger.waiting.contains id &&
    (s.record id).any fun x => x.state == .open && x.deadline.any fun d => decide (d ≤ s.time)
  due s

/-- Effect of HELD_RECORD_DEADLINE. -/
def doneHeldRecordDeadline (_t id : Nat) (s : State) : State :=
  match s.record id with
  | some x => (s.modLedger fun l => { l with waiting := l.waiting.filter (· != id) }).expireReplayed x 1
  | none => s

/-- HELD_RECORD_DEADLINE (R341). -/
def execHeldRecordDeadline (t id : Nat) (s : State) : Out :=
  event t s (whenHeldRecordDeadline t id) (doneHeldRecordDeadline t id)

/-- When OUTCOME_DISCARD has its effect. -/
def whenOutcomeDiscard (_t _ch : Nat) (s : State) : Bool :=
  let due := fun (s : State) => s.ledgerRuns && s.ledger.replayTime != 0 && decide (s.ledger.replayTime + 600 * sec ≤ s.time)
  due s

/-- Effect of OUTCOME_DISCARD. -/
def doneOutcomeDiscard (_t ch : Nat) (s : State) : State :=
  let gone := (s.chan ch).waiting.filter fun i => s.isOutcome i
  let ids := gone.map (·.record)
  let n := (gone.filter fun i => i.event.outcomeEvent).length
  let s := s.modChan ch fun c =>
    { c with waiting := c.waiting.filter fun i => !ids.contains i.record, held := c.held.filter fun q => !ids.contains q.record }
  let s := ids.foldl (fun s id =>
    match s.record id with
    | some x => if x.state == .applied then s.setRecord id .retired 0 else s
    | none => s) s
  (s.modLedger fun l => { l with discarded := l.discarded + BitVec.ofNat 32 n }).endReplay

/-- OUTCOME_DISCARD (R331): the outcomes held for a channel 600 s after the replay began, and the completions behind them. -/
def execOutcomeDiscard (t ch : Nat) (s : State) : Out :=
  valid (ch < 64) <| event t s (whenOutcomeDiscard t ch) (doneOutcomeDiscard t ch)

/-! ### Outputs and thermal memory (R319, R334, R338) -/

/-- When SNAPSHOT_TIMER has its effect. -/
def whenSnapshotTimer (_t : Nat) (s : State) : Bool :=
  s.power.life == .started && s.mode.booted && !s.inReset islCtl && decide (s.power.rung < 2)

/-- Effect of SNAPSHOT_TIMER. -/
def doneSnapshotTimer (_t : Nat) (s : State) : State :=
  s.snapshot

/-- SNAPSHOT_TIMER (R319): CTL writes a SNAPSHOT. -/
def execSnapshotTimer (t : Nat) (s : State) : Out :=
  event t s (whenSnapshotTimer t) (doneSnapshotTimer t)

/-- When THERMAL_MEMORY_COPY has its effect. -/
def whenThermalMemoryCopy (_t : Nat) (s : State) : Bool :=
  s.power.life == .started && decide (s.power.rung < 4)

/-- Effect of THERMAL_MEMORY_COPY. -/
def doneThermalMemoryCopy (_t : Nat) (s : State) : State :=
  s.copyTheta

/-- THERMAL_MEMORY_COPY (R338), while KEEP is powered. -/
def execThermalMemoryCopy (t : Nat) (s : State) : Out :=
  event t s (whenThermalMemoryCopy t) (doneThermalMemoryCopy t)

/-- When PATH_LOST_HOLD has its effect. -/
def whenPathLostHold (_t : Nat) (path : Path) (s : State) : Bool :=
  s.power.life == .started && !s.inReset islCtl && s.stage.pathLost.any fun l => l.1 == path

/-- Effect of PATH_LOST_HOLD. -/
def donePathLostHold (_t : Nat) (path : Path) (s : State) : State :=
  let lost := s.stage.pathLost.filter fun l => l.1 == path
  let s := (List.range 48).foldl (fun s c =>
    if lost.any fun l => pathCovers l (s.sw c).lastPath then s.holdChannel c else s) s
  (s.modStage fun x => { x with pathLost := x.pathLost.filter fun l => l.1 != path }).tellOutputs 4

/-- PATH_LOST_HOLD (R334, R343): the hold policy of every channel last commanded through the path that was lost, the session for a
tunnel; an APP island reset applies it itself. -/
def execPathLostHold (t : Nat) (path : Path) (s : State) : Out :=
  valid (path != .unbound) <| event t s (whenPathLostHold t path) (donePathLostHold t path)

/-! ### The Ledger family (R339–R343) -/

/-- Effect of LEDGER_STATUS. -/
def doneLedgerStatus (r : Request) (s : State) : State :=
  let l := s.ledger
  let n := fun (st : RecState) => (l.records.filter fun x => x.state == st).length
  answer opLedgerStatus uLedger r
    (le 8 s.time ++ le 8 l.nextId ++ le 8 ((l.records.head?.map (·.id)).getD 0) ++ le 4 l.cmdFree ++ le 4 l.otherFree ++
      le 4 (n .open) ++ le 4 (n .applied) ++ le 4 l.discarded.toNat ++ le 4 0 ++ le 8 l.replayTime) s

/-- LEDGER_STATUS (R339). -/
def execLedgerStatus (r : Request) (s : State) : Out :=
  serve opLedgerStatus uLedger r s (fun _ => []) (doneLedgerStatus r)

/-- A record as LEDGER_READ returns it in `room` bytes (R340). -/
def Record.shown (x : Record) (room : Nat) : List Byte :=
  let fits := decide (x.size ≤ room)
  let body := if fits then x.body ++ le (x.size - 48 - x.body.length) 0 else x.body.take ((room - 48) / 8 * 8)
  le 8 x.id ++ le 1 x.kind.code ++ le 1 x.state.code ++ le 1 (bitsOf [x.dispatched, x.replayed, x.delivered, !fits]) ++ le 1 x.ch ++
    le 2 x.unit ++ le 2 x.body.length ++ le 8 x.opened ++ le 8 (x.deadline.getD (2 ^ 64 - 1)) ++ le 8 x.changed ++
    le 4 x.epoch.toNat ++ le 1 x.cause ++ le 3 0 ++ body

/-- Records that a reply holds from a list, with the ID that follows them; only the first may be cut. -/
def pageOf : Nat → Nat → List Record → List Byte × Nat × Nat
  | _, _, [] => ([], 0, 0)
  | room, n, x :: rest =>
    if x.size ≤ room then
      let (b, k, next) := pageOf (room - x.size) (n + 1) rest
      (x.shown room ++ b, k + 1, next)
    else if n = 0 then (x.shown room, 1, (rest.head?.map (·.id)).getD 0)
    else ([], 0, x.id)

/-- Refusals of LEDGER_READ. -/
def checksLedgerRead (r : Request) (_s : State) : List (Bool × Status) :=
  [(!r.zero 10 2 || 16 ≤ r.u 9 1, .badParam)]

/-- Effect of LEDGER_READ. -/
def doneLedgerRead (r : Request) (s : State) : State :=
  let want := fun (x : Record) => r.u 0 8 ≤ x.id && bit (r.u 8 1) (x.kind.code - 1) && bit (r.u 9 1) x.state.code
  let (b, n, next) := pageOf 4064 0 (s.ledger.records.filter want)
  answer opLedgerRead uLedger r (le 8 next ++ le 2 n ++ le 6 0 ++ b) s

/-- LEDGER_READ (R340). -/
def execLedgerRead (r : Request) (s : State) : Out :=
  serve opLedgerRead uLedger r s (checksLedgerRead r) (doneLedgerRead r)

/-- Refusals of JOURNAL_CONFIG. -/
def checksJournalConfig (r : Request) (_s : State) : List (Bool × Status) :=
  [(63 ≤ r.u 0 1 || 2 ≤ r.u 1 1 || !r.zero 2 2 || 600000 < r.u 4 4, .badParam)]

/-- Effect of JOURNAL_CONFIG. -/
def doneJournalConfig (r : Request) (s : State) : State :=
  answer opJournalConfig uLedger r []
    (s.modChan (r.u 0 1) fun c => { c with windowMs := r.u 4 4, holdReplay := bit (r.u 1 1) 0 })

/-- JOURNAL_CONFIG (R324, R341). -/
def execJournalConfig (r : Request) (s : State) : Out :=
  serve opJournalConfig uLedger r s (checksJournalConfig r) (doneJournalConfig r)

/-- Release the held records of a channel: those still in time are redispatched (R341, R342). -/
def State.releaseRecords (s : State) (ch : Nat) : State :=
  let mine := s.ledger.records.filter fun x => s.ledger.waiting.contains x.id && x.ch == ch && x.state == .open
  mine.foldl (fun s x =>
    let s := s.modLedger fun l => { l with waiting := l.waiting.filter (· != x.id) }
    if x.deadline.any fun d => decide (d ≤ s.time) then s.expireReplayed x 1 else s.redispatch x) s

/-- Expire the OPEN records of a channel that have not been dispatched (R342). -/
def State.expireByHost (s : State) (ch : Nat) : State :=
  let mine := s.ledger.records.filter fun x => x.kind == .command && x.ch == ch && x.state == .open && !x.dispatched
  mine.foldl (fun s x => (s.modLedger fun l => { l with waiting := l.waiting.filter (· != x.id) }).expireReplayed x 5) s

/-- Refusals of REPLAY_CONTROL. -/
def checksReplayControl (r : Request) (_s : State) : List (Bool × Status) :=
  [(!inRange (r.u 0 1) 1 2 || !r.zero 1 3, .badParam)]

/-- Effect of REPLAY_CONTROL. -/
def doneReplayControl (r : Request) (s : State) : State :=
  answer opReplayControl uLedger r [] (if r.u 0 1 = 1 then s.releaseRecords r.ch else s.expireByHost r.ch)

/-- REPLAY_CONTROL (R342). -/
def execReplayControl (r : Request) (s : State) : Out :=
  serve opReplayControl uLedger r s (checksReplayControl r) (doneReplayControl r)

/-- Effect of OUTPUTS. -/
def doneLedgerOutputs (r : Request) (s : State) : State :=
  answer opOutputs uLedger r (s.outputReport 0) s

/-- OUTPUTS (R343). -/
def execLedgerOutputs (r : Request) (s : State) : Out :=
  serve opOutputs uLedger r s (fun _ => []) (doneLedgerOutputs r)

end Sys2Proof.Machine
end

