-- ==== Sys2Proof/Machine/ExecNav.lean ====
section
/-! DEFINITION. The Navigation family's OPs 0x01–0x08 and the baseband's events (14). -/

namespace Sys2Proof.Machine

/-! ### OPs (R503–R511) -/

/-- NAV_CONFIG lies outside R504 or breaks R489. -/
def navConfigBad (r : Request) : Bool :=
  let sig := r.u 4 4
  sig == 0 || sig &&& signalMask != sig || r.u 8 1 > 30 || !inRange (r.u 9 1) 20 40 || r.u 10 2 > 160 ||
    !([1, 2, 5, 10, 20, 50, 100].contains (r.u 12 1)) || spacingsBad (r.u 13 1) (r.u 14 1) (r.u 15 1 == 1) || r.u 15 1 > 1 ||
    r.u 16 1 == 0 || !inRange (r.u 17 1) 3 30 || !inRange (r.u 18 1) 5 200 || !([1, 2, 4, 5, 10, 20].contains (r.u 19 1)) ||
    !(r.u 20 1 == 0 || inRange (r.u 20 1) 30 100) || r.u 21 1 > 3 || !r.zero 22 2

/-- The views the channels hold, as a reallocation outside its 1 s period sees them (R504). -/
def State.heldViews (s : State) : List SatView :=
  (s.nav.base.chans.entries.filter fun e => e.2.state != .idle && !e.2.assigned).map fun e =>
    { signal := e.2.signal, sv := e.2.sv, elev := e.2.elev, gloK := e.2.gloK }

/-- Refusals of NAV_CONFIG. -/
def checksNavConfig (r : Request) (_s : State) : List (Bool × Status) :=
  [(navConfigBad r, .badParam)]

/-- Effect of NAV_CONFIG. -/
def doneNavConfig (r : Request) (s : State) : State :=
  let vis := s.nav.base.visible
  let c : NavConfig :=
    { signals := r.u 4 4, elevMask := r.u 8 1, cn0Mask := r.u 9 1, antB := r.u 10 2, measHz := r.u 12 1, el := r.u 13 1,
      vevl := r.u 14 1, doubleDelta := r.u 15 1 == 1, mpThresh := r.u 16 1, pllBw := r.u 17 1, dllBw := r.u 18 1,
      intMs := r.u 19 1, blankThresh := r.u 20 1, notch := bit (r.u 21 1) 0, boc := bit (r.u 21 1) 1 }
  let old := s.navCfg
  let s := s.modBase fun b => { b with cfg := c, before := old, tuneAt := (s.time / (20 * ms) + 1) * (20 * ms) }
  let s := if c.antB = 0 || s.power.rung != 0 then s.setBias 1 0 0 else if (s.antenna 1).bias = 0 then s.setBias 1 1 (s.antenna 1).ma else s
  let s := (s.reallocate s.heldViews.dedup).modBase fun b => { b with visible := vis }
  answer opNavConfig uBaseband r [] s

/-- NAV_CONFIG (R504). -/
def execNavConfig (r : Request) (s : State) : Out :=
  serve opNavConfig uBaseband r s (checksNavConfig r) (doneNavConfig r)

/-- CHANNEL_SET lies outside R505. -/
def State.channelSetBad (s : State) (r : Request) : Bool :=
  let c := s.nav.base.cfg
  let code := r.u 7 1
  let narrow := ((signal code).map (·.narrow)).getD 0
  r.u 4 2 > 319 || r.u 6 1 > 1 || !r.zero 12 4 ||
    (r.u 6 1 == 1 && (!c.enabled code || !svOk code (r.u 8 1) || r.u 9 1 > 1 || (r.u 9 1 == 1 && c.antB == 0) ||
      spacingsBad (r.u 10 1) (r.u 11 1) c.doubleDelta || spacingUnits (r.u 10 1) < spacingUnits narrow))

/-- Refusals of CHANNEL_SET. -/
def checksChannelSet (r : Request) (s : State) : List (Bool × Status) :=
  [(s.channelSetBad r, .badParam)]

/-- Effect of CHANNEL_SET. -/
def doneChannelSet (r : Request) (s : State) : State :=
  let n := r.u 4 2
  let old := s.navChan n
  let s :=
    if r.u 6 1 = 0 then if old.assigned then s.setNavChan n NavChannel.reset else s
    else
      let s := (s.setNavChan n { NavChannel.reset with assigned := true, signal := r.u 7 1, sv := r.u 8 1, ant := r.u 9 1,
                                                        el := r.u 10 1, vevl := r.u 11 1 }).startAcq n
      if old.state != .idle && !old.assigned then
        s.assignView (old.ant, { signal := old.signal, sv := old.sv, elev := old.elev, gloK := old.gloK })
      else s
  answer opChannelSet uBaseband r [] s

/-- CHANNEL_SET: automatic allocation moves the signal the channel held to another (R505). -/
def execChannelSet (r : Request) (s : State) : Out :=
  serve opChannelSet uBaseband r s (checksChannelSet r) (doneChannelSet r)

/-- A channel record (R506). -/
def State.channelRecord (s : State) (n : Nat) : List Byte :=
  let c := s.navChan n
  let sp := c.spacings s.navCfg
  le 2 n ++ le 1 c.signal ++ le 1 c.sv ++ le 1 c.ant ++ le 1 c.state.code ++ le 2 (s.trackFlags c + 256 * flag c.assigned) ++
    le 2 c.cn0 ++ le 1 sp.1 ++ le 1 sp.2 ++ leInt 1 c.elev ++ le 1 c.mpIndex ++ leInt 1 c.gloK ++ le 1 0 ++
    le 4 (satNat (2 ^ 32 - 1) c.lockMs) ++ leInt 4 c.doppler

/-- Refusals of CHANNEL_STATUS. -/
def checksChannelStatus (r : Request) (_s : State) : List (Bool × Status) :=
  let first := r.u 0 2
  let n := r.u 2 2
  [(!inRange n 1 160 || first + n > 320, .badParam)]

/-- Effect of CHANNEL_STATUS. -/
def doneChannelStatus (r : Request) (s : State) : State :=
  let first := r.u 0 2
  let n := r.u 2 2
  answer opChannelStatus uBaseband r
      (le 8 s.time ++ le 2 n ++ le 6 0 ++ ((List.range n).map fun i => s.channelRecord (first + i)).flatten) s

/-- CHANNEL_STATUS (R506). -/
def execChannelStatus (r : Request) (s : State) : Out :=
  serve opChannelStatus uBaseband r s (checksChannelStatus r) (doneChannelStatus r)

/-- ACQ_AID lies outside R507. -/
def acqAidBad (r : Request) : Bool :=
  r.u 8 4 > 2000000000 || (r.i 12 4).natAbs > 900000000 || (r.i 16 4).natAbs > 1800000000 || r.u 24 4 > 1000000 ||
    (r.u 28 4 > 100000 && r.u 28 4 != 0xFFFFFFFF) || r.u 32 4 > 5000 || !r.zero 36 12

/-- The value is tighter than the one held. -/
def tighter (x : Nat) (held : Option Nat) : Bool := held.all fun h => x < h

/-- Refusals of ACQ_AID. -/
def checksAcqAid (r : Request) (_s : State) : List (Bool × Status) :=
  [(acqAidBad r, .badParam)]

/-- Effect of ACQ_AID. -/
def doneAcqAid (r : Request) (s : State) : State :=
  let a := s.nav.base.aid
  let a := if r.u 8 4 != 0 && !s.nav.time.valid && tighter (r.u 8 4) s.heldTimeUnc then
    { a with time := some (r.u 0 8, r.u 8 4) } else a
  let a := if r.u 24 4 != 0 && tighter (r.u 24 4) s.heldPosUnc then
    { a with pos := some (r.i 12 4, r.i 16 4, r.i 20 4, r.u 24 4) } else a
  let a := if r.u 28 4 != 0xFFFFFFFF && r.u 28 4 < s.heldVelUnc then { a with vel := some (r.u 28 4) } else a
  let a := if r.u 32 4 != 0 && r.u 32 4 < s.heldFreqUnc then { a with freq := some (r.u 32 4) } else a
  answer opAcqAid uBaseband r [] (s.modBase fun b => { b with aid := a }).raiseClass

/-- ACQ_AID: each item given is used where it is tighter than what NAV holds (R507). -/
def execAcqAid (r : Request) (s : State) : Out :=
  serve opAcqAid uBaseband r s (checksAcqAid r) (doneAcqAid r)

/-- Store an ephemeris (R498, R499). -/
def State.storeEphemeris (s : State) (key : Nat) (e : Ephemeris) : State :=
  s.modBase fun b => { b with kept := { b.kept with ephemerides := b.kept.ephemerides.put key e } }

/-- Refusals of ORBIT_AID. -/
def checksOrbitAid (r : Request) (s : State) : List (Bool × Status) :=
  let f := r.payload.drop 4
  let ref := fun (s : State) => Config.rtcmRef f s.time
  let key := Config.rtcmSv f
  let bad := fun (s : State) =>
    !r.zero 0 4 || field f 0 1 != 0xD3 || f.length != 6 + rtcmLength f || !rtcmCrcOk f || !ephemerisType (rtcmType f) ||
      !s.timeKnown || !usableEph s.time key { ref := ref s, aided := true, frame := f, storedAt := s.time }
  [(bad s, .badParam)]

/-- Effect of ORBIT_AID. -/
def doneOrbitAid (r : Request) (s : State) : State :=
  let f := r.payload.drop 4
  let ref := fun (s : State) => Config.rtcmRef f s.time
  let key := Config.rtcmSv f
  answer opOrbitAid uBaseband r []
      (s.storeEphemeris key { ref := ref s, aided := true, frame := f, storedAt := s.time }).raiseClass

/-- ORBIT_AID (R499, R508). -/
def execOrbitAid (r : Request) (s : State) : Out :=
  serve opOrbitAid uBaseband r s (checksOrbitAid r) (doneOrbitAid r)

/-- Kept data as RESTART's KIND leaves it (R509). -/
def NavKept.restart (k : NavKept) (kind : Nat) : NavKept :=
  if kind = 2 then { k with ephemerides := Bank.empty }
  else if kind = 4 then { NavKept.reset with rtcGood := k.rtcGood }
  else k

/-- Refusals of NAV_RESTART. -/
def checksNavRestart (r : Request) (_s : State) : List (Bool × Status) :=
  [(!inRange (r.u 4 1) 1 4 || !r.zero 5 3, .badParam)]

/-- Effect of NAV_RESTART. -/
def doneNavRestart (r : Request) (s : State) : State :=
  let q := s.requester opNavRestart r
  let s := s.accepted opNavRestart uBaseband r []
  let kind := r.u 4 1
  let s := s.modBase fun b => { b with kept := b.kept.restart kind }
  s.navStart 3 kind s.nav.base.visible (some q)

/-- NAV_RESTART (R500, R509). -/
def execNavRestart (r : Request) (s : State) : Out :=
  serve opNavRestart uBaseband r s (checksNavRestart r) (doneNavRestart r)

/-- Effect of KEPT_STATUS. -/
def doneKeptStatus (r : Request) (s : State) : State :=
  let b := s.nav.base
  let k := b.kept
  let f := fun w i => (Config.free w (s.freeCount + i)).toNat
  let tcxo := match k.tcxo.find (s.nav.time.temp + 100).toNat with
    | some x => leInt 2 x
    | none => le 2 (f 16 0)
  let pos := match k.position with
    | some p => le 4 (satNat (2 ^ 32 - 1) ((s.time - p.since) / sec))
    | none => le 4 (f 32 1)
  let unc := match s.heldPosUnc with
    | some u => le 4 u
    | none => le 4 (f 32 2)
  let alm := match k.almanac with
    | some t => le 2 (satNat 65535 ((s.time - t) / (86400 * sec)))
    | none => le 2 (f 16 3)
  answer opKeptStatus uBaseband r
    (le 8 s.time ++ le 1 b.cls ++ le 1 (flag s.timeKnown + 2 * flag k.position.isSome +
        4 * flag (!k.tcxo.entries.isEmpty) + 8 * flag s.almanacValid) ++ le 2 s.usableSats.length ++ pos ++ unc ++ alm ++
      tcxo ++ le 4 b.ttff ++ le 4 0) (s.spend 4)

/-- KEPT_STATUS (R510). What the reply holds of a position, almanac or offset that is not kept is not stated: free values. -/
def execKeptStatus (r : Request) (s : State) : Out :=
  serve opKeptStatus uBaseband r s (fun _ => []) (doneKeptStatus r)

/-- An antenna record (R511). -/
def State.antennaRecord (s : State) (a : Nat) : List Byte :=
  let x := s.antenna a
  let bands := [0, 1, 2].map fun b => s.band a b
  le 1 a ++ le 1 x.bias ++ le 2 x.ma ++
    (bands.map fun b => le 1 (satNat 255 b.jn) ++ le 1 b.state ++ le 1 b.notches.length ++ le 1 (satNat 255 b.blankPm)).flatten ++
    le 1 (bitsOf (bands.map fun b => [b.gainLow, b.gainHigh]).flatten) ++ le 3 0

/-- Effect of FRONTEND_STATUS. -/
def doneFrontendStatus (r : Request) (s : State) : State :=
  answer opFrontendStatus uBaseband r (le 8 s.time ++ s.antennaRecord 0 ++ s.antennaRecord 1) s

/-- FRONTEND_STATUS (R511). -/
def execFrontendStatus (r : Request) (s : State) : Out :=
  serve opFrontendStatus uBaseband r s (fun _ => []) (doneFrontendStatus r)

/-! ### Starts (R500–R502) -/

/-- When NAV_START has its effect. -/
def whenNavStart (_t cause : Nat) (_visible : List Nat) (s : State) : Bool :=
  (cause == 1 || cause == 2 || cause == 4) && s.power.life == .started && !s.inReset islNav && s.clocked islNav

/-- Effect of NAV_START. -/
def doneNavStart (_t cause : Nat) (visible : List Nat) (s : State) : State :=
  s.navStart cause 1 visible none

/-- NAV_START: a power-on or module reset start, a rung exit or a NAV island reset (R500). -/
def execNavStart (t cause : Nat) (visible : List Nat) (s : State) : Out :=
  event t s (whenNavStart t cause visible) (doneNavStart t cause visible)

/-- When FIRST_FIX has its effect. -/
def whenFirstFix (_t : Nat) (_lat _lon _height : Int) (_distanceM _fix _sats : Nat) (s : State) : Bool :=
  s.unitUp uBaseband && s.nav.base.starting.isSome

/-- Effect of FIRST_FIX. -/
def doneFirstFix (_t : Nat) (lat lon height : Int) (distanceM fix sats : Nat) (s : State) : State :=
  match s.nav.base.starting with
  | none => s
  | some x =>
    if s.nav.base.kept.position.isSome && x.kind != 3 && 10000 < distanceM then
      s.modBase fun b =>
        { b with cls := 2, kept := { b.kept with position := none },
                 starting := some { x with cls := 2, since := s.time, discarded := true } }
    else
      let ttff := satNat (2 ^ 32 - 1) ((s.time - x.since) / ms)
      let p : KeptPosition := { lat := lat, lon := lon, height := height, fix := fix, since := s.time, still := false }
      let s := s.modBase fun b => { b with starting := none, ttff := ttff, kept := { b.kept with position := some p } }
      s.settle uBaseband 0x2001 (le 1 x.cls ++ le 1 x.cause ++ le 1 sats ++ le 1 (flag x.raised + 2 * flag x.discarded) ++
        le 4 ttff) x.req false false

/-- FIRST_FIX: more than 10 km from the kept position, the solution and the kept position are discarded, and the start goes on
as WARM; otherwise the solution stands and NAV_STARTED is raised (R501, R502). -/
def execFirstFix (t : Nat) (lat lon height : Int) (distanceM fix sats : Nat) (s : State) : Out :=
  event t s (whenFirstFix t lat lon height distanceM fix sats) (doneFirstFix t lat lon height distanceM fix sats)

/-! ### Channels (R484–R490) -/

/-- When CHANNEL_REALLOCATION has its effect: while the baseband runs (R25). -/
def whenChannelReallocation (_t : Nat) (_sats : List SatView) (s : State) : Bool :=
  s.unitUp uBaseband

/-- Effect of CHANNEL_REALLOCATION. -/
def doneChannelReallocation (_t : Nat) (sats : List SatView) (s : State) : State :=
  (s.reallocate sats).raiseClass

/-- CHANNEL_REALLOCATION (R484). -/
def execChannelReallocation (t : Nat) (sats : List SatView) (s : State) : Out :=
  event t s (whenChannelReallocation t sats) (doneChannelReallocation t sats)

/-- When SIGNAL_ACQUIRED has its effect. -/
def whenSignalAcquired (_t ch : Nat) (s : State) : Bool :=
  s.unitUp uBaseband && (s.navChan ch).state == .acq

/-- Effect of SIGNAL_ACQUIRED. -/
def doneSignalAcquired (_t ch : Nat) (s : State) : State :=
  (s.modNavChan ch fun c => { c with state := .pullIn, search := none }).count uBaseband 17

/-- SIGNAL_ACQUIRED: from ACQ to PULL_IN, where the FLL assists the PLL (R485, R487: `NavChannel.loops`). -/
def execSignalAcquired (t ch : Nat) (s : State) : Out :=
  valid (ch < 320) <| event t s (whenSignalAcquired t ch) (doneSignalAcquired t ch)

/-- When PULL_IN_LOCK has its effect. -/
def whenPullInLock (_t ch : Nat) (s : State) : Bool :=
  s.unitUp uBaseband && (s.navChan ch).state == .pullIn

/-- Effect of PULL_IN_LOCK. -/
def donePullInLock (_t ch : Nat) (s : State) : State :=
  (s.modNavChan ch fun c =>
    { c with state := .track, locks := c.locks ||| 3, lockMs := 0, mpSince := none, lowSince := none }).modBase fun b =>
      { b with flowing := true }

/-- PULL_IN_LOCK: code and carrier lock, from PULL_IN to TRACK: the FLL leaves the loop and a pilot integrates INT_MS (R485, R487:
`NavChannel.loops`). -/
def execPullInLock (t ch : Nat) (s : State) : Out :=
  valid (ch < 320) <| event t s (whenPullInLock t ch) (donePullInLock t ch)

/-- When TRACK_LOSS has its effect. -/
def whenTrackLoss (_t ch : Nat) (s : State) : Bool :=
  s.unitUp uBaseband && (s.navChan ch).state == .track

/-- The channel has measured below CN0_MASK for 500 ms (R485). -/
def NavChannel.faded (c : NavChannel) (now : Nat) : Bool := c.lowSince.any fun u => decide (u + 500 * ms ≤ now)

/-- Effect of TRACK_LOSS. -/
def doneTrackLoss (_t ch : Nat) (s : State) : State :=
  let faded := (s.navChan ch).faded s.time
  ((s.modNavChan ch fun c => { c with locks := 0, lockMs := 0, mpSince := none, lowSince := none }).countN
    uBaseband 18 (flag (!faded))).startAcq ch

/-- TRACK_LOSS: back to ACQ, the last code phase and Doppler the centre of the search (R485). A channel that has not faded below
CN0_MASK for 500 ms has lost code lock, which is counted (R513). -/
def execTrackLoss (t ch : Nat) (s : State) : Out :=
  valid (ch < 320) <| event t s (whenTrackLoss t ch) (doneTrackLoss t ch)

/-- One channel's MP_INDEX, and its MULTIPATH flag after 1 s on the other side of MP_THRESH (R488). With A_P = 0 the quotient
is not stated: a free value. -/
def State.updateMp (s : State) (a : Correlators) : State :=
  if (s.navChan a.ch).state != .track then s
  else
    let idx := if a.p = 0 then (Config.free 8 s.freeCount).toNat else satNat 255 (divNear (255 * absDiff a.ve a.vl) a.p)
    let s := s.spend (flag (a.p == 0))
    let high := decide (s.navCfg.mpThresh < idx)
    s.modNavChan a.ch fun c =>
      let c := { c with mpIndex := idx }
      if high == c.multipath then { c with mpSince := none }
      else
        let since := c.mpSince.getD s.time
        if since + sec ≤ s.time then { c with multipath := high, mpSince := none } else { c with mpSince := some since }

/-- When MP_INDEX_UPDATE has its effect. -/
def whenMpIndexUpdate (_t : Nat) (_amps : List Correlators) (s : State) : Bool :=
  s.unitUp uBaseband

/-- Effect of MP_INDEX_UPDATE. -/
def doneMpIndexUpdate (_t : Nat) (amps : List Correlators) (s : State) : State :=
  amps.foldl State.updateMp s

/-- MP_INDEX_UPDATE (R488). -/
def execMpIndexUpdate (t : Nat) (amps : List Correlators) (s : State) : Out :=
  event t s (whenMpIndexUpdate t amps) (doneMpIndexUpdate t amps)

/-- When BOC_FALSE_LOCK has its effect. -/
def whenBocFalseLock (_t ch : Nat) (_early : Bool) (s : State) : Bool :=
  s.unitUp uBaseband && s.navCfg.boc && (s.navChan ch).state == .track &&
      (signal (s.navChan ch).signal).any (·.boc)

/-- Effect of BOC_FALSE_LOCK. -/
def doneBocFalseLock (_t ch : Nat) (early : Bool) (s : State) : State :=
  (s.modNavChan ch fun c => { c with slip := true, shift := c.shift + if early then 1 else -1 }).count uBaseband 20

/-- BOC_FALSE_LOCK: the code phase moves by 0.5 chip towards the larger side correlator (R490). -/
def execBocFalseLock (t ch : Nat) (early : Bool) (s : State) : Out :=
  valid (ch < 320) <| event t s (whenBocFalseLock t ch early) (doneBocFalseLock t ch early)

/-! ### Interference and antennas (R491–R495) -/

/-- State of a J/N, at least DEGRADED above 200 ‰ blanked (R491, R493; the shared bounds are assumption 31). -/
def jnState (jn blankPm : Nat) : Nat :=
  max (if jn < 3 then 0 else if jn < 10 then 1 else if jn ≤ 25 then 2 else 3) (if blankPm > 200 then 2 else 0)

/-- A bin stands `level` × 0.1 dB or more above the band's median. -/
def binStands (x : Spectrum) (level : Int) (bin : Nat) : Bool := x.bins.any fun b => b.1 == bin && level ≤ b.2

/-- Bins in a row from `bin` on, upward or downward, that stand 10 dB above the median; `fuel` bounds the row. -/
def binRow (x : Spectrum) (up : Bool) : Nat → Nat → Nat
  | 0, _ => 0
  | fuel + 1, bin =>
    if !binStands x 100 bin then 0
    else if up then 1 + binRow x up fuel (bin + 1)
    else if bin = 0 then 1 else 1 + binRow x up fuel (bin - 1)

/-- Width of a bin of a band, 10 Hz units. -/
def binWidth (band : Nat) : Nat := let r := bandRange band; (r.2 - r.1) / 1024

/-- 3 dB width of the notch on an interferer at `bin`: that of the bins in a row that stand 10 dB above the median, held to
100–500 kHz (R492; how the width is measured is assumption 130). -/
def notchWidth (x : Spectrum) (band bin : Nat) : Nat :=
  let n := binRow x true 1024 bin + binRow x false 1024 bin - 1
  min 50000 (max 10000 (n * binWidth band))

/-- Where an interferer last seen at `bin` stands now: the strongest of that bin and its neighbours that stands 10 dB above the
median (R492, assumption 130). -/
def followBin (x : Spectrum) (bin : Nat) : Option Nat :=
  let near := x.bins.filter fun b => absDiff b.1 bin ≤ 1 && 100 ≤ b.2
  (near.foldl (fun (best : Option (Nat × Int)) b =>
    match best with
    | some y => if y.2 < b.2 || (y.2 == b.2 && b.1 == bin) then some b else some y
    | none => some b) none).map (·.1)

/-- Notches after a spectrum: each follows its interferer and takes its width; one is released after 1 s below the median plus
10 dB (R492). -/
def keepNotches (t band : Nat) (x : Spectrum) (l : List Notch) : List Notch :=
  (l.map fun n =>
    match followBin x n.bin with
    | some b => { bin := b, width := notchWidth x band b, lowSince := none }
    | none => { n with lowSince := some (n.lowSince.getD t) }).filter
    fun n => n.lowSince.all fun u => decide (t < u + sec)

/-- A notch covers a bin. -/
def Notch.covers (n : Notch) (band bin : Nat) : Bool := 2 * absDiff n.bin bin * binWidth band ≤ n.width

/-- Place notches on bins that have stood 15 dB above the median for three spectra in a row and that no notch covers, at most four
in a band (R492). -/
def placeNotches (band : Nat) (x : Spectrum) (l : List Notch) : List Nat → List Notch
  | [] => l
  | b :: bs =>
    if l.length < 4 && !l.any (·.covers band b) then
      placeNotches band x (l ++ [{ bin := b, width := notchWidth x band b, lowSince := none }]) bs
    else placeNotches band x l bs

/-- Bins that stand 15 dB above the median, with the number of spectra in a row (R492). -/
def countSuspects (x : Spectrum) (old : List (Nat × Nat)) : List (Nat × Nat) :=
  (x.bins.filter fun b => 150 ≤ b.2).map fun b => (b.1, ((old.find? fun o => o.1 == b.1).map (·.2)).getD 0 + 1)

/-- INTERFERENCE_STATE fields (R512). -/
def interferenceFields (a b : Nat) (x : NavBand) : List Byte :=
  le 1 a ++ le 1 b ++ le 1 x.state ++ le 1 x.notches.length ++ le 1 (satNat 255 x.jn) ++ le 1 (satNat 255 x.blankPm) ++ le 2 0

/-- When SPECTRUM_UPDATE has its effect. -/
def whenSpectrumUpdate (_t _ant _band : Nat) (_x : Spectrum) (s : State) : Bool :=
  s.unitUp uBaseband

/-- Effect of SPECTRUM_UPDATE. -/
def doneSpectrumUpdate (t ant band : Nat) (x : Spectrum) (s : State) : State :=
  let c := s.navCfg
  let b := s.band ant band
  let blank := if c.blankThresh = 0 then 0 else x.blankPm
  let held := if c.notch then keepNotches t band x b.notches else []
  let sus := if c.notch then countSuspects x b.suspects else []
  let notches := placeNotches band x held ((sus.filter fun u => 3 ≤ u.2).map (·.1))
  let b := { b with jn := x.jn, state := jnState x.jn blank, notches := notches, suspects := sus, blankPm := blank }
  let tell := b.state != b.reported && b.reportedAt.all fun u => decide (u + sec ≤ t)
  let b := if tell then { b with reported := b.state, reportedAt := some t } else b
  let s := ((s.modBand ant band fun _ => b).countN uBaseband 21 (notches.length - held.length)).countN uBaseband 22
    (if c.blankThresh = 0 then 0 else x.runs)
  if tell then s.raise uBaseband 0x2003 (interferenceFields ant band b) else s

/-- SPECTRUM_UPDATE (R491–R493). -/
def execSpectrumUpdate (t ant band : Nat) (x : Spectrum) (s : State) : Out :=
  valid (ant < 2 && band < 3) <| event t s (whenSpectrumUpdate t ant band x) (doneSpectrumUpdate t ant band x)

/-- BIAS_STATE of a bias current (R494). -/
def biasState (ma : Nat) : Nat := if ma < 3 then 2 else if 150 ≤ ma then 3 else 1

/-- When ANTENNA_BIAS_FAULT has its effect. -/
def whenAntennaBiasFault (_t ant _milliamps : Nat) (s : State) : Bool :=
  s.unitUp uBaseband && ((s.antenna ant).bias == 1 || (s.antenna ant).bias == 2)

/-- Effect of ANTENNA_BIAS_FAULT. -/
def doneAntennaBiasFault (_t ant milliamps : Nat) (s : State) : State :=
  let st := biasState milliamps
  (s.setBias ant st milliamps).countN uBaseband 23 (flag (st != 1 && st != (s.antenna ant).bias))

/-- ANTENNA_BIAS_FAULT: the bias current of an enabled antenna has opened, shorted or returned (R494). -/
def execAntennaBiasFault (t ant milliamps : Nat) (s : State) : Out :=
  valid (ant < 2) <| event t s (whenAntennaBiasFault t ant milliamps) (doneAntennaBiasFault t ant milliamps)

/-- When BIAS_RETRY has its effect. -/
def whenBiasRetry (t ant _milliamps : Nat) (s : State) : Bool :=
  s.unitUp uBaseband && (s.antenna ant).bias == 3 && (s.antenna ant).shortAt.all fun u => decide (u + sec ≤ t)

/-- Effect of BIAS_RETRY. -/
def doneBiasRetry (_t ant milliamps : Nat) (s : State) : State :=
  s.setBias ant (if 150 ≤ milliamps then 3 else 1) milliamps

/-- BIAS_RETRY of a shorted antenna, 1 s after the bias went off; OPEN takes a second of its own (R494). -/
def execBiasRetry (t ant milliamps : Nat) (s : State) : Out :=
  valid (ant < 2) <| event t s (whenBiasRetry t ant milliamps) (doneBiasRetry t ant milliamps)

/-- When GAIN_CHECK has its effect. -/
def whenGainCheck (_t ant band : Nat) (_gainDb : Int) (s : State) : Bool :=
  s.unitUp uBaseband && (s.band ant band).state == 0

/-- Effect of GAIN_CHECK. -/
def doneGainCheck (_t ant band : Nat) (gainDb : Int) (s : State) : State :=
  s.modBand ant band fun b => { b with gainLow := decide (gainDb < 15), gainHigh := decide (35 < gainDb) }

/-- GAIN_CHECK (R495). -/
def execGainCheck (t ant band : Nat) (gainDb : Int) (s : State) : Out :=
  valid (ant < 2 && band < 3) <| event t s (whenGainCheck t ant band gainDb) (doneGainCheck t ant band gainDb)

/-! ### Measurements (R496) -/

/-- A measurement record (R496). -/
def State.measureRecord (s : State) (m : Measure) : List Byte :=
  let c := s.navChan m.ch
  le 1 c.signal ++ le 1 c.sv ++ le 1 c.ant ++ le 1 (s.trackFlags c) ++ le 2 m.cn0 ++ le 4 (satNat (2 ^ 32 - 1) m.lockMs) ++
    le 8 m.range ++ leInt 8 m.phase ++ leInt 4 m.doppler ++ le 1 c.mpIndex ++ leInt 1 c.gloK ++ le 2 0

/-- A channel takes what it has measured. -/
def State.takeMeasure (s : State) (m : Measure) : State :=
  s.modNavChan m.ch fun c =>
    { c with cn0 := m.cn0, lockMs := m.lockMs, doppler := m.doppler, range := m.range, locks := m.locks,
             slip := c.slip || m.slip,
             lowSince := if m.cn0 < s.nav.base.cfg.cn0Mask * 100 then some (c.lowSince.getD s.time) else none }

/-! ### Weights (R518) -/

/-- The largest `v` below 2^64 with `v`^1000 at most `x`. -/
def root1000 (x : Nat) : Nat :=
  (List.range 64).reverse.foldl (fun v i => if (v + 2 ^ i) ^ 1000 ≤ x then v + 2 ^ i else v) 0

/-- 10^((45 − CN0) ÷ 10) for a CN0 in 0.01 dB-Hz, in 10^−9 (R518; the resolution is assumption 133). -/
def noiseFactor (cn0 : Nat) : Nat :=
  if cn0 ≤ 13500 then root1000 (10 ^ (13500 - cn0)) else 0

/-- What the RTK engine makes of a measurement of channel `c`: variances of (0.3 m)² and (3 mm)² times the noise factor, × 4 under
MULTIPATH, × 2 under NOTCHED; no part in ambiguity fixing under MULTIPATH, NOTCHED or CYCLE_SLIP or with LOCK_MS below 2,000 (R518). -/
def State.weigh (s : State) (c : NavChannel) : Weight :=
  let notched := s.notched c
  let f := noiseFactor c.cn0 * (if c.multipath then 4 else 1) * (if notched then 2 else 1)
  { sat := c.signal / 16 * 256 + c.sv, ant := c.ant, code := 90000 * f, phase := 9 * f,
    fixable := !c.multipath && !notched && !c.slip && decide (2000 ≤ c.lockMs) }

/-- An aided ephemeris whose predicted range lies more than 100 m from a measured pseudorange, the receiver clock being solved, is
discarded and counted (R499). -/
def State.checkAided (s : State) (m : Measure) : State :=
  let c := s.navChan m.ch
  let key := c.signal / 16 * 256 + c.sv
  let x := s.nav.rtk.last
  let off := fun (e : Ephemeris) => e.aided && 1000000 < absDiff (Config.orbitRange e.frame s.time x.lat x.lon x.height) m.range
  if s.nav.time.source == .gnss && s.nav.rtk.lastAt.isSome && (s.nav.base.kept.ephemerides.find key).any off then
    (s.modBase fun b =>
      { b with kept := { b.kept with ephemerides := b.kept.ephemerides.erase key } }).count uBaseband 24
  else s

/-- When MEASUREMENT_EPOCH has its effect. -/
def whenMeasurementEpoch (t : Nat) (_m : List Measure) (s : State) : Bool :=
  let hz := if s.power.rung == 1 then 1 else s.navCfg.measHz
  s.unitUp uBaseband && s.nav.base.flowing && t * hz % sec == 0

/-- Effect of MEASUREMENT_EPOCH. -/
def doneMeasurementEpoch (t : Nat) (m : List Measure) (s : State) : State :=
  let on := m.filter fun x => (s.navChan x.ch).state == .track
  let s := on.foldl State.takeMeasure s
  let body := le 8 t ++ le 2 on.length ++ le 1 (flag s.nav.time.valid) ++ le 1 0 ++ le 4 s.nav.base.epochSeq.toNat ++
    (on.map s.measureRecord).flatten
  let slips := (on.filter fun x => (s.navChan x.ch).slip).length
  let s := if s.unitUp uRtk then s.modRtk fun r => { r with weights := on.map fun x => s.weigh (s.navChan x.ch) } else s
  let s := on.foldl State.checkAided s
  let s := s.modBase fun b =>
    { b with epochSeq := b.epochSeq + 1, chans := b.chans.mapAll fun _ c => { c with slip := false } }
  ((s.countN uBaseband 19 slips).count uBaseband 25).present uBaseband 1 { time := t, marks := 0, body := body }

/-- MEASUREMENT_EPOCH: at a whole multiple of 1 ÷ MEAS_HZ, 1 Hz in Ready (R496, R500). The RTK engine weights its measurements
(R518). -/
def execMeasurementEpoch (t : Nat) (m : List Measure) (s : State) : Out :=
  event t s (whenMeasurementEpoch t m) (doneMeasurementEpoch t m)

/-- When NAV_DATA_DECODED has its effect. -/
def whenNavDataDecoded (_t : Nat) (_d : NavData) (s : State) : Bool :=
  s.unitUp uBaseband

/-- Effect of NAV_DATA_DECODED. -/
def doneNavDataDecoded (t : Nat) (d : NavData) (s : State) : State :=
  match d with
  | .ephemeris system sv ref =>
    s.storeEphemeris (system * 256 + sv) { ref := ref, aided := false, frame := [], storedAt := t }
  | .almanac g => s.modBase fun b =>
      { b with kept := if g then { b.kept with almanacGlo := some t } else { b.kept with almanac := some t } }
  | .utc leap => s.modBase fun b => { b with kept := { b.kept with utcAt := some t, leap := leap } }

/-- NAV_DATA_DECODED (R498, R499). -/
def execNavDataDecoded (t : Nat) (d : NavData) (s : State) : Out :=
  event t s (whenNavDataDecoded t d) (doneNavDataDecoded t d)

end Sys2Proof.Machine
end

