-- ==== Sys2Proof/Machine/ExecNet.lean ====
section
/-! DEFINITION. The Ethernet and Fleet families, the switch's events and the fleet agent's (20). -/

namespace Sys2Proof.Machine

/-! ### Ethernet family (R677–R679) -/

/-- PORT_CONFIG lies outside its table. -/
def ethConfigBad (r : Request) : Bool :=
  let n := r.u 0 1
  let f := r.u 1 1
  n > 6 || bit f 7 || (bit f 1 && n > 4) || ((bit f 5 || bit f 6) && n != 5) || !inRange (r.u 2 2) 1 4094 || r.u 4 1 > 7 ||
    (if n = 6 then r.u 5 1 > 3 else r.u 5 1 != 0) || !r.zero 11 5 ||
    (if n = 5 then r.u 6 1 > 15 || !inRange (r.u 7 1) 2 16 || r.u 8 1 < 20 else !r.zero 6 5)

/-- PLCA code of PORT_STATUS after a configuration (R659). -/
def plcaCode (n flags id : Nat) : Nat := if n != 5 || !bit flags 6 then 0 else if id = 0 then 1 else 2

/-- Refusals of ETH_PORT_CONFIG. -/
def checksEthPortConfig (r : Request) (_s : State) : List (Bool × Status) :=
  [(ethConfigBad r, .badParam)]

/-- Effect of ETH_PORT_CONFIG. -/
def doneEthPortConfig (r : Request) (s : State) : State :=
  let n := r.u 0 1
  let s := s.modEthPort n fun p => { p with cfg := r.payload, plca := plcaCode n (r.u 1 1) (r.u 6 1) }
  let s := if n = 5 then s.modEth fun e => { e with term := bit (r.u 1 1) 5 } else s
  let s := answer opEthPortConfig uSwitch r [] s
  -- disabling takes effect after the reply (R677)
  if !bit (r.u 1 1) 0 then s.setLink n 0 0 0
  else if (s.ethPort n).link = 0 then s.setLink n 1 0 0 else s

/-- PORT_CONFIG (R655, R677). -/
def execEthPortConfig (r : Request) (s : State) : Out :=
  serve opEthPortConfig uSwitch r s (checksEthPortConfig r) (doneEthPortConfig r)

/-- ROLE of PORT_STATUS. -/
def State.ethRole (s : State) (n : Nat) : Nat := if n ≤ 4 then flag (s.ethFlag n 1) else 0xFF

/-- Refusals of ETH_PORT_STATUS. -/
def checksEthPortStatus (r : Request) (_s : State) : List (Bool × Status) :=
  let n := r.u 0 1
  [(n > 8 || !r.zero 1 3, .badParam)]

/-- Effect of ETH_PORT_STATUS. -/
def doneEthPortStatus (r : Request) (s : State) : State :=
  let n := r.u 0 1
  let p := s.ethPort n
  let mac := if n = 7 then be 6 (s.macBase + 1) else if n = 8 then be 6 s.macBase else le 6 0
  answer opEthPortStatus uSwitch r (le 8 s.time ++ le 1 n ++ le 1 p.link ++ le 1 (s.ethRole n) ++
    le 1 (if n = 5 then p.plca else 0) ++ le 2 p.speed ++ le 1 (if n ≤ 4 then p.sqi else 0xFF) ++ le 1 0 ++ le 4 p.rx.toNat ++
    le 4 p.tx.toNat ++ le 4 p.dropped.toNat ++ le 4 p.crcErr.toNat ++ mac ++ le 2 0) s

/-- PORT_STATUS (R677). -/
def execEthPortStatus (r : Request) (s : State) : Out :=
  serve opEthPortStatus uSwitch r s (checksEthPortStatus r) (doneEthPortStatus r)

/-- The entries of a GATE_SET. -/
def gateEntries (r : Request) : List (Nat × Nat) := (List.range (r.u 2 2)).map fun i => (r.u (12 + 8 * i) 1, r.u (16 + 8 * i) 4)

/-- GATE_SET lies outside R664 or R678. -/
def gateBad (r : Request) : Bool :=
  let n := r.u 2 2
  let l := gateEntries r
  let cycle := (l.map (·.2)).sum
  r.u 0 1 > 4 || r.u 1 1 > 1 || r.len != 12 + 8 * n ||
    (if r.u 1 1 = 0 then n != 0
     else !inRange n 1 64 || l.any (fun e => !inRange e.2 1000 1000000000) || !inRange cycle 10000 1000000000 ||
      (List.range n).any fun i => !r.zero (13 + 8 * i) 3)

/-- GATE_APPLIED fields (R682). -/
def gateFields (port action n adopt : Nat) : List Byte := le 1 port ++ le 1 action ++ le 2 n ++ le 8 adopt

/-- Refusals of GATE_SET. -/
def checksGateSet (r : Request) (_s : State) : List (Bool × Status) :=
  [(gateBad r, .badParam)]

/-- Effect of GATE_SET. -/
def doneGateSet (r : Request) (s : State) : State :=
  let port := r.u 0 1
  let q := s.requester opGateSet r
  let s := s.accepted opGateSet uSwitch r []
  let p := s.ethPort port
  let s := match p.pending with
    | some old => s.complete uSwitch 0x4102
        (gateFields port 0xFF ((old.list.map fun (g : GateList) => g.entries.length).getD 0) 0) old.req false false
    | none => s
  let g : GateList := { base := r.u 4 8, entries := gateEntries r }
  let x : GatePending := if r.u 1 1 = 1 then { req := q, list := some g, ready := s.time + ms, adopt := g.startAfter (s.time + ms) }
    else { req := q, list := none, ready := s.time, adopt := ((p.gates.map fun o => o.startAfter (s.time + 1))).getD s.time }
  s.modEthPort port fun p => { p with pending := some x }

/-- GATE_SET: a second one before adoption replaces the pending list (R665). -/
def execGateSet (r : Request) (s : State) : Out :=
  serve opGateSet uSwitch r s (checksGateSet r) (doneGateSet r)

/-- Refusals of SYNC_CONFIG. -/
def checksSyncConfig (r : Request) (_s : State) : List (Bool × Status) :=
  [(r.u 0 2 > 255 || r.i 2 1 > 0 || r.i 2 1 < -5 || !r.zero 5 3, .badParam)]

/-- Effect of SYNC_CONFIG. -/
def doneSyncConfig (r : Request) (s : State) : State :=
  answer opSyncConfig uSwitch r []
      (s.modEth fun e => { e with syncPorts := r.u 0 2, logSync := r.i 2 1, prio := (r.u 3 1, r.u 4 1) })

/-- SYNC_CONFIG (R661, R679). -/
def execSyncConfig (r : Request) (s : State) : Out :=
  serve opSyncConfig uSwitch r s (checksSyncConfig r) (doneSyncConfig r)

/-- Refusals of IP_CONFIG. -/
def checksIpConfig (r : Request) (_s : State) : List (Bool × Status) :=
  [(!inRange (r.u 4 1) 8 30 || !r.zero 5 3 || r.u 12 2 > 4094 || !r.zero 14 2, .badParam)]

/-- Effect of IP_CONFIG. -/
def doneIpConfig (r : Request) (s : State) : State :=
  answer opIpConfig uSwitch r [] (s.modEth fun e => { e with ip := r.payload, arp := [] }).fleetEval

/-- IP_CONFIG (R657, R679). -/
def execIpConfig (r : Request) (s : State) : Out :=
  serve opIpConfig uSwitch r s (checksIpConfig r) (doneIpConfig r)

/-- An edge for the node is queued, or a section targets it (R668). -/
def State.nodeBusy (s : State) (n : Nat) : Bool :=
  let is := fun (t : Target) => t.kind == 3 && t.node % 1024 == n
  (s.sections.edges.any fun e => is e.target) || s.sections.secs.entries.any fun e => e.2.width != 0 && is e.2.target

/-- Refusals of NODE_SET. -/
def checksNodeSet (r : Request) (s : State) : List (Bool × Status) :=
  let n := r.u 0 2
  let a := r.bytes 4 4
  let changes := fun (s : State) => (s.eth.nodes.find n).any fun old => r.u 2 1 == 0 || old != a
  [(changes s && s.nodeBusy n, .busyId), (!inRange n 1 1023 || r.u 2 1 > 1 || !r.zero 3 1, .badParam)]

/-- Effect of NODE_SET. -/
def doneNodeSet (r : Request) (s : State) : State :=
  let n := r.u 0 2
  let a := r.bytes 4 4
  answer opNodeSet uSwitch r []
      (s.modEth fun e => { e with nodes := if r.u 2 1 = 0 then e.nodes.erase n else e.nodes.put n a })

/-- NODE_SET (R668, R679). -/
def execNodeSet (r : Request) (s : State) : Out :=
  serve opNodeSet uSwitch r s (checksNodeSet r) (doneNodeSet r)

/-! ### Switch events (R655–R666) -/

/-- When ETH_LINK_CHANGE has its effect. -/
def whenEthLinkChange (_t port : Nat) (_up : Bool) (_speed _sqi : Nat) (s : State) : Bool :=
  s.unitUp uSwitch && s.ethFlag port 0 && inRange (s.ethPort port).link 1 2

/-- Speed of a link: that of the port, and on E6 the one its SPEED sets or that was negotiated, Mbit/s (R655, R677). -/
def State.linkSpeed (s : State) (port speed : Nat) : Nat :=
  (ethSpeed port).getD (([speed, 10, 100, 1000] : List Nat).getD (field (s.ethConfig port) 5 1) speed)

/-- Effect of ETH_LINK_CHANGE. -/
def doneEthLinkChange (t port : Nat) (up : Bool) (speed sqi : Nat) (s : State) : State :=
  let s := (s.modEthPort port fun p => { p with sqi := sqi }).setLink port (if up then 2 else 1)
    (s.linkSpeed port speed) 1
  s.modEthPort port fun p =>
    match p.gates, p.gateHold with
    | some g, some h => if up && h = unlinked then { p with gateHold := some (g.startAfter t), openGates := 0xFF } else p
    | _, _ => p

/-- ETH_LINK_CHANGE: the link with the partner of an enabled port goes up or down (R655, R666). -/
def execEthLinkChange (t port : Nat) (up : Bool) (speed sqi : Nat) (s : State) : Out :=
  valid (port < 7) <| event t s (whenEthLinkChange t port up speed sqi) (doneEthLinkChange t port up speed sqi)

/-- When PLCA_FALLBACK has its effect. -/
def whenPlcaFallback (_t : Nat) (_beacon : Bool) (s : State) : Bool :=
  s.unitUp uSwitch && s.ethFlag 5 0 && s.ethFlag 5 6 && field (s.ethConfig 5) 6 1 != 0

/-- Effect of PLCA_FALLBACK. -/
def donePlcaFallback (_t : Nat) (beacon : Bool) (s : State) : State :=
  s.modEthPort 5 fun p => { p with plca := if beacon then 2 else 3 }

/-- PLCA_FALLBACK: a follower loses or hears its beacon (R659). -/
def execPlcaFallback (t : Nat) (beacon : Bool) (s : State) : Out :=
  event t s (whenPlcaFallback t beacon) (donePlcaFallback t beacon)

/-- A received gPTP message: Pdelay requests are answered on ports that run it, Announce and Sync are ignored and counted
(R661, R662). -/
def State.takeGptp (s : State) (port : Nat) (f : EthFrame) : State :=
  let kind := (f.payload.getD 0 0).toNat % 16
  if kind = 2 && bit s.eth.syncPorts port && port != 5 then
    s.modEthPort port fun p => { p with tx := p.tx + 2, ptp := (p.ptp.1, p.ptp.2.1, p.ptp.2.2 + 2) }
  else s.count uSwitch 20

/-- When ETH_FRAME_RX has its effect. -/
def whenEthFrameRx (_t port : Nat) (_f : EthFrame) (s : State) : Bool :=
  (s.ethPort port).link == 2

/-- Effect of ETH_FRAME_RX. -/
def doneEthFrameRx (_t port : Nat) (f : EthFrame) (s : State) : State :=
  if !f.fcsOk then s.modEthPort port fun p => { p with crcErr := p.crcErr + 1 }
  else
    let s := s.modEthPort port fun p => { p with rx := p.rx + 1 }
    if f.length > 1522 then (s.dropEthFrame port).count uSwitch 18
    else if f.etherType = 0x88F7 then s.takeGptp port f
    else match s.forward port f with
      | (s, some g) => (s.endpointTakes port g).fleetEval
      | (s, none) => s

/-- ETH_FRAME_RX (R656, R657, R661). -/
def execEthFrameRx (t port : Nat) (f : EthFrame) (s : State) : Out :=
  valid (port < 8) <| event t s (whenEthFrameRx t port f) (doneEthFrameRx t port f)

/-- Effect of ADDRESS_AGEING. -/
def doneAddressAgeing (t mac : Nat) (s : State) : State :=
  s.modEth fun e => { e with learned := e.learned.filter fun x => x.1 != mac || (e.fresh t).contains x }

/-- ADDRESS_AGEING (R656). -/
def execAddressAgeing (t mac : Nat) (s : State) : Out :=
  event t s (fun _ => true) (doneAddressAgeing t mac)

/-- Send `k` gPTP frames on every gPTP port that is up and meets `p`. -/
def State.gptpSend (s : State) (p : Nat → Bool) (k : Nat) (f : Nat × Nat × Nat → Nat × Nat × Nat) : State :=
  ((List.range 8).filter fun n => bit s.eth.syncPorts n && (s.ethPort n).link == 2 && p n).foldl (fun s n =>
    s.modEthPort n fun x => { x with tx := x.tx + BitVec.ofNat 32 k, ptp := f x.ptp }) s

/-- The switch runs and an interval is over since a message was last sent (R658, R661). -/
def State.gptpDue (s : State) (last : Option Nat) (interval t : Nat) : Bool :=
  s.unitUp uSwitch && s.power.rung < 2 && last.all fun a => decide (a + interval ≤ t)

/-- When GPTP_SYNC_TX has its effect: every 2^LOG_SYNC s (R661). -/
def whenGptpSyncTx (t : Nat) (s : State) : Bool := s.gptpDue s.eth.syncAt s.eth.syncInterval t

/-- When GPTP_ANNOUNCE_TX has its effect: every 1 s (R661). -/
def whenGptpAnnounceTx (t : Nat) (s : State) : Bool := s.gptpDue s.eth.announceAt sec t

/-- When PDELAY_TX has its effect: every 1 s (R661). -/
def whenPdelayTx (t : Nat) (s : State) : Bool := s.gptpDue s.eth.pdelayAt sec t

/-- Effect of GPTP_SYNC_TX. -/
def doneGptpSyncTx (t : Nat) (s : State) : State :=
  (s.gptpSend (fun _ => true) 2 fun c => (c.1 + 1, c.2.1, c.2.2)).modEth fun e =>
    { e with lastSync := ptpTime t, syncAt := some t }

/-- GPTP_SYNC_TX: Sync and Follow_Up (R535, R661). -/
def execGptpSyncTx (t : Nat) (s : State) : Out :=
  event t s (whenGptpSyncTx t) (doneGptpSyncTx t)

/-- Effect of GPTP_ANNOUNCE_TX. -/
def doneGptpAnnounceTx (t : Nat) (s : State) : State :=
  (s.gptpSend (fun _ => true) 1 fun c => (c.1, c.2.1 + 1, c.2.2)).modEth fun e =>
    { e with announced := some s.announcement, announceAt := some t }

/-- GPTP_ANNOUNCE_TX (R535, R661). -/
def execGptpAnnounceTx (t : Nat) (s : State) : Out :=
  event t s (whenGptpAnnounceTx t) (doneGptpAnnounceTx t)

/-- Effect of PDELAY_TX. -/
def donePdelayTx (t : Nat) (s : State) : State :=
  (s.gptpSend (fun n => n != 5) 1 fun c => (c.1, c.2.1, c.2.2 + 1)).modEth fun e => { e with pdelayAt := some t }

/-- PDELAY_TX on every gPTP port but E5 (R661, R662). -/
def execPdelayTx (t : Nat) (s : State) : Out :=
  event t s (whenPdelayTx t) (donePdelayTx t)

/-- When GATE_ENTRY_START has its effect. -/
def whenGateEntryStart (t port : Nat) (s : State) : Bool :=
  s.unitUp uSwitch && s.power.rung < 2 && (s.ethPort port).gates.isSome && (s.ethPort port).gateHold.all fun h => decide (h ≤ t)

/-- Effect of GATE_ENTRY_START. -/
def doneGateEntryStart (t port : Nat) (s : State) : State :=
  (s.modEthPort port fun p =>
    match p.gates with
    | some g => { p with openGates := g.gatesAt t, gateHold := none }
    | none => p).drainPort port

/-- GATE_ENTRY_START: the entry in force at `t` opens its classes; states held over a step stand until the first cycle start
(R664, R666). -/
def execGateEntryStart (t port : Nat) (s : State) : Out :=
  valid (port < 5) <| event t s (whenGateEntryStart t port) (doneGateEntryStart t port)

/-- When GATE_LIST_ADOPT has its effect. -/
def whenGateListAdopt (t port : Nat) (s : State) : Bool :=
  s.unitUp uSwitch && s.power.rung < 2 && (s.ethPort port).pending.any fun x => decide (x.adopt ≤ t)

/-- Effect of GATE_LIST_ADOPT. -/
def doneGateListAdopt (t port : Nat) (s : State) : State :=
  match (s.ethPort port).pending with
  | none => s
  | some x =>
    let n := (x.list.map fun (g : GateList) => g.entries.length).getD 0
    let s := s.modEthPort port fun p =>
      { p with gates := x.list, pending := none,
               gateHold := if p.gateHold = some unlinked then x.list.map fun _ => unlinked else none,
               openGates := (x.list.map fun (g : GateList) => g.gatesAt t).getD 0xFF }
    (s.drainPort port).complete uSwitch 0x4102 (gateFields port (flag x.list.isSome) n x.adopt) x.req false false

/-- GATE_LIST_ADOPT (R665). -/
def execGateListAdopt (t port : Nat) (s : State) : Out :=
  valid (port < 5) <| event t s (whenGateListAdopt t port) (doneGateListAdopt t port)

/-! ### Fleet family (R680, R681) -/

/-- FLEET_CONFIG lies outside its table. -/
def State.fleetConfigBad (s : State) (r : Request) : Bool :=
  let place := fun h => s.fleetPlace h && s.mayName h r.ch
  r.u 0 1 > 1 || r.u 1 1 > 1 || r.u 2 1 > 3 || !r.zero 3 1 || r.u 4 4 == 0 || r.u 8 2 > 4095 || r.u 10 2 < 1024 ||
    r.u 10 2 == 7411 || r.u 10 2 == 7412 || r.u 16 2 == 0 || !inRange (r.u 18 2) 100 60000 || !place (r.u 20 8) ||
    (r.u 28 8 != 0 && !place (r.u 28 8)) || !r.zero 36 4

/-- Refusals of FLEET_CONFIG. -/
def checksFleetConfig (r : Request) (s : State) : List (Bool × Status) :=
  [(s.fleetConfigBad r, .badParam)]

/-- Effect of FLEET_CONFIG. -/
def doneFleetConfig (r : Request) (s : State) : State :=
  let same := s.fleet.coverage = r.u 20 8 && s.fleet.yield = r.u 28 8
  let s := (s.modFleet fun f =>
    { f with cfg := r.payload, changed := if same then f.changed else [], tilesFull := same && f.tilesFull }).fleetEval
  let s := if s.fleet.state = 2 && s.eth.ip != [] then s.arp 1 0 (s.nextHop (r.bytes 12 4)) else s
  answer opFleetConfig uFleet r [] s

/-- FLEET_CONFIG (R669, R680). Where the gateway is not resolved, an ARP request goes out. -/
def execFleetConfig (r : Request) (s : State) : Out :=
  serve opFleetConfig uFleet r s (checksFleetConfig r) (doneFleetConfig r)

/-- Effect of FLEET_STATUS. -/
def doneFleetStatus (r : Request) (s : State) : State :=
  let s := s.fleetEval
  let f := s.fleet
  let heard := (f.senders.filter fun x => decide (s.time ≤ x.lastHeard + 60 * sec)).length
  answer opFleetStatus uFleet r (le 8 s.time ++ le 1 f.state ++ le 1 0 ++ le 2 heard ++ le 8 f.seqOut ++
    (f.counts.map fun c => le 4 c.toNat).flatten) s

/-- FLEET_STATUS (R680). -/
def execFleetStatus (r : Request) (s : State) : Out :=
  serve opFleetStatus uFleet r s (fun _ => []) (doneFleetStatus r)

/-- The tiles of two coverage placements disagree in CELL_DM or FIELD_ID (R681). -/
def State.tilesDiffer (s : State) (a b : Nat) : Bool :=
  let keys := fun h => (s.tilesOf h 1).map fun i => (field (s.tileHead h i) 2 2, field (s.tileHead h i) 12 4)
  let all := keys a ++ keys b
  all.any fun k => all.any fun m => k != m

/-- MAP_MERGE lies outside R681. -/
def State.mapMergeBad (s : State) (r : Request) : Bool :=
  let cov := fun h => (s.placement h).any (fun p => p.cls == clsCoverage) && s.mayName h r.ch
  !cov (r.u 0 8) || !cov (r.u 8 8) || !inRange (r.u 16 4) 10 600000 || r.u 20 1 > 1 || !r.zero 21 3 ||
    s.tilesDiffer (r.u 0 8) (r.u 8 8)

/-- Refusals of MAP_MERGE. -/
def checksMapMerge (r : Request) (s : State) : List (Bool × Status) :=
  [(s.mapMergeBad r, .badParam)]

/-- Effect of MAP_MERGE. -/
def doneMapMerge (r : Request) (s : State) : State :=
  let q := s.requester opMapMerge r
  let s := s.accepted opMapMerge uFleet r []
  let ops := 64 * 4096 * (s.tilesOf (r.u 0 8) 1).length
  let app := if s.power.crank.isNone then
      s.place.pool.bind fun p => (s.poolTime p ops).map fun t => s.time + s.poolQueue p + t else none
  let accNs := (Config.free 32 s.freeCount).toNat
  let due := s.time + r.u 16 4 * ms
  -- a job of the accelerator counts behind those of every other (assumption 13)
  let c := choose true (some (s.time + s.accQueue 64 due + accNs)) app due
  let j : MergeJob := { req := q, source := r.u 0 8, target := r.u 8 8, markFleet := bit (r.u 20 1) 0, late := c.2,
                        pool := c.1, ops := ops, accNs := accNs, start := s.time, deadline := due }
  let s := (s.spend 1).modFleet fun f => { f with merges := f.merges ++ [j] }
  -- jobs run in Run alone: one that starts in a rung ends at once (R264)
  (if s.power.rung != 0 then s.mergesLost .wrongMode else s).pressures

/-- MAP_MERGE: the Puppeteer places the job under R263; the accelerator's time for it is not stated: a free value (R676). -/
def execMapMerge (r : Request) (s : State) : Out :=
  serve opMapMerge uFleet r s (checksMapMerge r) (doneMapMerge r)

/-- Merge one cell of a source tile into the target. -/
def State.mergeSourceCell (s : State) (j : MergeJob) (head : List Byte) (slot i : Nat) : State × Nat × Nat × Nat :=
  let c := s.cell j.source slot (i % 64) (i / 64)
  if field c 0 2 = 0 then (s, 0, 0, 0)
  else s.mergeInto j.target (fieldInt head 4 4) (fieldInt head 8 4) (field head 12 4) (field head 2 2) (fieldInt head 16 4)
    (fieldInt head 20 4) (i % 64) (i / 64) (field c 0 2) (field c 8 8)
    (if j.markFleet then 0xFFFF else field s.fleet.cfg 8 2) j.markFleet

/-- Merge every tile of the source (R676). -/
def State.mergeTiles (s : State) (j : MergeJob) : State × Nat × Nat × Nat :=
  (s.tilesOf j.source 1).foldl (fun acc slot =>
    let head := acc.1.tileHead j.source slot
    (List.range 4096).foldl (fun acc i =>
      let x := acc.1.mergeSourceCell j head slot i
      (x.1, addCounts acc.2 x.2)) acc) (s, 0, 0, 0)

/-- When MERGE_JOB_END has its effect. -/
def whenMergeJobEnd (_t : Nat) (s : State) : Bool :=
  s.fleet.merges != []

/-- Effect of MERGE_JOB_END. -/
def doneMergeJobEnd (_t : Nat) (s : State) : State :=
  match s.fleet.merges with
  | [] => s
  | j :: rest =>
    let x := (s.modFleet fun f => { f with merges := rest }).mergeTiles j
    let s := (x.1.countN uFleet 23 x.2.2.1).countN uFleet 24 x.2.2.2
    let st := if 0 < x.2.2.2 then Status.noSpace else .ok
    let s := s.complete uFleet 0x4202 (le 2 st.code ++ le 1 (flag j.late) ++ le 1 0 ++ le 4 x.2.1 ++ le 4 x.2.2.1 ++
      le 4 x.2.2.2) j.req false (st != .ok)
    (if 0 < x.2.2.2 then s.tilesFull j.target else s).pressures

/-- MERGE_JOB_END of the oldest job (R676). -/
def execMergeJobEnd (t : Nat) (s : State) : Out :=
  event t s (whenMergeJobEnd t) (doneMergeJobEnd t)

/-- When FLEET_EXCHANGE has its effect. -/
def whenFleetExchange (t : Nat) (s : State) : Bool :=
  s.unitUp uFleet && field s.fleet.cfg 0 1 == 1 &&
    s.fleet.exchangeAt.all fun a => decide (a + field s.fleet.cfg 18 2 * ms ≤ t)

/-- Effect of FLEET_EXCHANGE. -/
def doneFleetExchange (t : Nat) (s : State) : State :=
  let s := (s.modFleet fun f => { f with exchangeAt := some t }).fleetEval
  if s.fleet.state = 4 then s.exchange
  else if s.fleet.state = 2 && s.eth.ip != [] then s.arp 1 0 (s.nextHop ((s.fleet.cfg.drop 12).take 4))
  else s

/-- FLEET_EXCHANGE (R671). -/
def execFleetExchange (t : Nat) (s : State) : Out :=
  event t s (whenFleetExchange t) (doneFleetExchange t)

/-- When FLEET_DATAGRAM_RX has its effect: the port carries it to the endpoint. -/
def whenFleetDatagramRx (_t port : Nat) (_bytes : List Byte) (s : State) : Bool :=
  (s.ethPort port).link == 2 && (s.ethPort 8).link == 2

/-- Effect of FLEET_DATAGRAM_RX. -/
def doneFleetDatagramRx (_t port : Nat) (bytes : List Byte) (s : State) : State :=
  let s := s.fleetEval
  if port < 7 && !s.ethFlag port 4 then s.refuseDatagram port
  else if !s.unitUp uFleet || s.fleet.state != 4 then s.dropEthFrame port
  else match s.checkDatagram bytes with
    | .inl reason => s.countFleet reason 1
    | .inr d =>
      let s := (s.countFleet 1 1).hear (field d 8 4 / 1024 % 4096) (field d 12 8)
      if field d 1 1 = 1 then s.mergeDatagram d
      else s.present uFleet 1
        { time := field d 20 8, marks := 0, body := (d.drop 4).take 40 ++ (d.drop 44).take (20 * field d 42 2) }

/-- FLEET_DATAGRAM_RX on a port: refused without its FLEET flag, discarded while the agent does not run, and otherwise checked
under R672 (R657, R672–R674). -/
def execFleetDatagramRx (t port : Nat) (bytes : List Byte) (s : State) : Out :=
  valid (port < 8) <| event t s (whenFleetDatagramRx t port bytes) (doneFleetDatagramRx t port bytes)

end Sys2Proof.Machine
end

