-- ==== Sys2Proof/Machine/ExecPlacement.lean ====
section
/-! DEFINITION. The Placement family and the placement engine's events (07). -/

namespace Sys2Proof.Machine

/-- The unit IDs of a PLACE request (R241). -/
def placeUnits (r : Request) : List Nat := (List.range (r.u 24 1)).map fun i => r.u (32 + 2 * i) 2

/-- The conditions of a PLACE request (R266). -/
def placeReq (r : Request) : PlaceReq :=
  { cls := r.u 0 1, dur := r.u 1 1, size := r.u 4 8, rate := r.u 12 4, bound := r.u 16 4 }

/-- PLACE lies outside R238, R240 or R266. -/
def placeBad (r : Request) : Bool :=
  let q := placeReq r
  !inRange (r.u 24 1) 1 16 || r.len != 32 + 2 * r.u 24 1 || !(clsDurs q.cls).contains q.dur || r.u 2 1 > 3 ||
    r.u 3 1 > 7 || !r.zero 25 7 || q.size == 0 ||
    !(permittedTiers q.cls q.dur).any (fun t => q.size ≤ tierManaged t) ||
    !(placeUnits r).all fun u => isUnit u || u == 0xFFFE

/-- Refusals of PLACE. -/
def checksPlace (r : Request) (s : State) : List (Bool × Status) :=
  [(placeBad r, .badParam), (!placeBad r && (placeReq r).overQuota s r.ch, .quota)]

/-- Effect of PLACE. -/
def donePlace (r : Request) (s : State) : State :=
  let q := placeReq r
  match q.home s with
  | none => refuseWith opPlace uPlacement r .noSpace (q.offer s) (s.spend 1)
  | some t =>
    let size := roundTier t q.size
    let p := newPlacement q.cls q.dur (r.u 2 1) (r.u 3 1) size q.rate (r.u 20 4) (placeUnits r) t r.ch
    let (h, s) := s.lodge p
    answer opPlace uPlacement r
      (le 8 h ++ le 1 t ++ le 3 0 ++ le 4 (tierBound t) ++ le 8 size ++ le 4 q.rate ++ le 4 0) s.pressures

/-- PLACE (R242, R247–R249, R266). -/
def execPlace (r : Request) (s : State) : Out :=
  serve opPlace uPlacement r s (checksPlace r) (donePlace r)

/-- Refusals of RELEASE. -/
def checksPlacementRelease (r : Request) (s : State) : List (Bool × Status) :=
  let h := r.u 0 8
  [(!s.ownsPlacement h r.ch || h == s.place.bootView, .badParam),
      (s.ownsPlacement h r.ch && h != s.place.bootView && (s.streamed h || s.jobbed h || (s.placement h).any (fun p => p.views != [])), .busyId)]

/-- Effect of RELEASE. -/
def donePlacementRelease (r : Request) (s : State) : State :=
  let h := r.u 0 8
  answer opRelease uPlacement r [] ((s.dropPlacement h).modelGone h).pressures.fleetEval

/-- RELEASE (R250, R262, R267). -/
def execPlacementRelease (r : Request) (s : State) : Out :=
  serve opRelease uPlacement r s (checksPlacementRelease r) (donePlacementRelease r)

/-- The tier of greatest residence of a placement (R268). -/
def Placement.greatest (p : Placement) : Nat :=
  [1, 2, 3, 4].foldl (fun best t => if p.bytesIn best < p.bytesIn t then t else best) p.home

/-- The pin tier a PIN names. -/
def Placement.pinTier (p : Placement) (want : Nat) : Nat := if want = 0xFF then p.greatest else want

/-- Bytes a pin into a tier commits there beyond what the placement commits already (R256). -/
def Placement.pinNeeds (p : Placement) (t : Nat) : Nat := if t = 0 || t = p.home || t = p.pin then 0 else roundTier t p.size

/-- Bytes pinned in NEAR by other placements (R256). -/
def State.pinnedNear (s : State) (h : Nat) : Nat :=
  ((s.place.places.entries.filter fun e => e.1 != h && e.2.pin == 1).map fun e => roundTier 1 e.2.size).sum

/-- The pin would put the owner's channel beyond its quota in the pin tier (R249, R256). -/
def State.pinOverQuota (s : State) (p : Placement) (t : Nat) : Bool :=
  let lim := (s.quota p.owner).space.getD (t - 1) 0
  p.pinNeeds t != 0 && lim != 2 ^ 64 - 1 &&
    s.place.sum (fun x => if x.owner = p.owner then x.commit t else 0) + p.pinNeeds t > lim

/-- PIN lies outside R250 or R268, or unpins the boot view (R257). -/
def State.pinBad (s : State) (r : Request) : Bool :=
  let h := r.u 0 8
  let want := r.u 8 1
  !s.ownsPlacement h r.ch || (h == s.place.bootView && want == 0) || !r.zero 9 3 || !([0, 1, 2, 3, 0xFF].contains want) ||
    (s.placement h).any fun p => inRange want 1 3 && want > p.home

/-- Refusals of PIN. -/
def checksPlacementPin (r : Request) (s : State) : List (Bool × Status) :=
  [(s.pinBad r, .badParam),
      (!s.pinBad r && (s.placement (r.u 0 8)).any (fun p => s.pinOverQuota p (p.pinTier (r.u 8 1))), .quota)]

/-- Unpin a placement: what was pinned stays as promoted copies, of a class that is never promoted nothing stays (R244, R255). -/
def State.unpin (s : State) (h : Nat) : State :=
  let s := s.modPlacement h fun p => { p with pin := 0 }
  let s := match s.placement h with
    | some p =>
      if p.cls == 1 || p.cls == 4 then
        let s := s.modPlace fun q => { q with moving := q.moving.filter fun m => m.handle != h }
        p.away.foldl (fun (s : State) (e : Nat × Nat) => s.dropCopy h e.1) s
      else s
    | none => s
  s.completePins h

/-- Effect of PIN. -/
def donePlacementPin (r : Request) (s : State) : State :=
  let h := r.u 0 8
  let want := r.u 8 1
  let q := s.requester opPin r
  match s.placement h with
  | none => s
  | some p =>
    let s := s.accepted opPin uPlacement r []
    let t := p.pinTier want
    let pinned := s.modPlacement h fun p => { p with pin := t, pinning := p.pinning ++ [q] }
    if t = 0 then (pinned.unpin h).pressures
    else if (t = 1 && s.pinnedNear h + roundTier 1 p.size > 128 * 2 ^ 20) ||
        (p.pinNeeds t != 0 && pinned.place.used t > tierManaged t + pinned.idleCopies t) then
      s.complete uPlacement 0x0406 (readyFields h 3 t .noSpace 0) q false true
    else ((pinned.makeRoom t 0).settlePin h).pressures

/-- PIN (R250, R256, R268, R269). -/
def execPlacementPin (r : Request) (s : State) : Out :=
  serve opPin uPlacement r s (checksPlacementPin r) (donePlacementPin r)

/-- Refusals of MAP. -/
def checksPlacementMap (r : Request) (s : State) : List (Bool × Status) :=
  let h := r.u 0 8
  let off := r.u 8 8
  let n := r.u 16 8
  [(!s.mayName h r.ch || !s.lists h 0xFFFE || off % chunkSize != 0 || n % chunkSize != 0 || n == 0 ||
      n > 2 ^ 32 || (s.placement h).any (fun p => off + n > p.size), .badParam)]

/-- Effect of MAP. -/
def donePlacementMap (r : Request) (s : State) : State :=
  let h := r.u 0 8
  let off := r.u 8 8
  let n := r.u 16 8
  let q := s.requester opMap r
  match s.placement h with
  | none => s
  | some p =>
    let s := s.accepted opMap uPlacement r []
    let missing := if p.home ≤ 3 then [] else s.movable h 2 ((chunksOf off n).filter fun c => p.residence c > 2)
    match s.viewAddress n with
    | none => (s.complete uPlacement 0x0406 (readyFields h 4 2 .noSpace 0) q false true)
    | some a =>
      if s.roomFor 2 < missing.length * chunkSize then
        s.complete uPlacement 0x0406 (readyFields h 4 2 .noSpace 0) q false true
      else
        let s := (s.spend 1).makeRoom 2 (missing.length * chunkSize)
        let s := s.modPlacement h fun p =>
          { p with views := p.views ++ [{ address := a, offset := off, length := n, req := some q }] }
        ((s.startMoves h 2 missing).finishViews h).pressures

/-- MAP (R255, R268, R269). -/
def execPlacementMap (r : Request) (s : State) : Out :=
  serve opMap uPlacement r s (checksPlacementMap r) (donePlacementMap r)

/-- Refusals of UNMAP. -/
def checksPlacementUnmap (r : Request) (s : State) : List (Bool × Status) :=
  let h := r.u 0 8
  let a := r.u 8 8
  [(!s.mayName h r.ch || h == s.place.bootView ||
      !(s.placement h).any (fun p => p.views.any fun v => v.address == a && v.req.isNone), .badParam)]

/-- Effect of UNMAP. -/
def donePlacementUnmap (r : Request) (s : State) : State :=
  let h := r.u 0 8
  let a := r.u 8 8
  answer opUnmap uPlacement r []
      ((s.modPlacement h fun p => { p with views := p.views.filter fun v => v.address != a }).settlePin h).pressures

/-- UNMAP (R267). -/
def execPlacementUnmap (r : Request) (s : State) : Out :=
  serve opUnmap uPlacement r s (checksPlacementUnmap r) (donePlacementUnmap r)

/-- Refusals of SYNC. -/
def checksPlacementSync (r : Request) (s : State) : List (Bool × Status) :=
  let h := r.u 0 8
  [(!s.ownsPlacement h r.ch || (s.placement h).any (fun p => p.dur != 2), .badParam)]

/-- Effect of SYNC. -/
def donePlacementSync (r : Request) (s : State) : State :=
  let h := r.u 0 8
  let off := r.u 8 8
  let n := r.u 16 8
  let q := s.requester opSync r
  let s := s.accepted opSync uPlacement r []
  let s := s.modPlacement h fun p =>
    { p with syncs := p.syncs ++ [{ req := q, offset := off, length := n, since := s.time }] }
  s.finishSyncs h

/-- SYNC (R250, R253, R268). -/
def execPlacementSync (r : Request) (s : State) : Out :=
  serve opSync uPlacement r s (checksPlacementSync r) (donePlacementSync r)

/-- QUERY reply (R270). -/
def State.placementReply (s : State) (h : Nat) (p : Placement) : List Byte :=
  le 1 p.cls ++ le 1 p.dur ++ le 1 p.home ++ le 1 p.pin ++
    le 1 (p.flags % 4 + 4 * flag (p.views != []) + 8 * flag (s.jobReads h)) ++ le 1 p.owner ++ le 2 0 ++ le 8 p.size ++
    le 8 (p.bytesIn 1) ++ le 8 (p.bytesIn 2) ++ le 8 p.dirtyBytes ++ le 4 p.moves.toNat ++
    le 4 p.label

/-- Refusals of PLACEMENT_QUERY. -/
def checksPlacementQuery (r : Request) (s : State) : List (Bool × Status) :=
  let h := r.u 0 8
  [(!s.mayName h r.ch, .badParam)]

/-- Effect of PLACEMENT_QUERY. -/
def donePlacementQuery (r : Request) (s : State) : State :=
  let h := r.u 0 8
  match s.placement h with
      | some p => answer opPlacementQuery uPlacement r (s.placementReply h p) s
      | none => s

/-- QUERY (R267, R270). -/
def execPlacementQuery (r : Request) (s : State) : Out :=
  serve opPlacementQuery uPlacement r s (checksPlacementQuery r) (donePlacementQuery r)

/-- A tier record of CAPACITY (R271). -/
def State.tierRecord (s : State) (t : Nat) : List Byte :=
  le 1 t ++ le 3 0 ++ le 4 (tierRate t) ++ le 4 (s.place.rateCommitted t) ++ le 8 (tierManaged t) ++
    le 8 (s.place.committed t) ++ le 8 (s.reclaimable t) ++ le 8 (s.place.free t)

/-- Effect of CAPACITY. -/
def donePlacementCapacity (r : Request) (s : State) : State :=
  answer opCapacity uPlacement r
      (le 8 s.place.bootView ++ le 8 0 ++ s.tierRecord 1 ++ s.tierRecord 2 ++ s.tierRecord 3 ++ s.tierRecord 4) s

/-- CAPACITY (R271). -/
def execPlacementCapacity (r : Request) (s : State) : Out :=
  serve opCapacity uPlacement r s (fun _ => []) (donePlacementCapacity r)

/-- Effect of LIST. -/
def donePlacementList (r : Request) (s : State) : State :=
  let mine := s.place.places.entries.filter fun e => r.u 0 8 ≤ e.1 && (r.ch == 0 || e.2.owner == r.ch)
  let page := mine.take 254
  let next := ((mine.drop 254).head?.map (·.1)).getD 0
  let entry := fun (e : Nat × Placement) =>
    le 8 e.1 ++ le 1 e.2.cls ++ le 1 e.2.dur ++ le 1 e.2.owner ++ le 1 0 ++ le 4 e.2.label
  answer opList uPlacement r (le 8 next ++ le 2 page.length ++ le 6 0 ++ (page.map entry).flatten) s

/-- LIST (R272): the placements from the cursor on, 254 at most. -/
def execPlacementList (r : Request) (s : State) : Out :=
  serve opList uPlacement r s (fun _ => []) (donePlacementList r)

/-- Refusals of QUOTA_SET. -/
def checksQuotaSet (r : Request) (_s : State) : List (Bool × Status) :=
  [(!inRange (r.u 0 1) 1 62 || !r.zero 1 3, .badParam)]

/-- Effect of QUOTA_SET. -/
def doneQuotaSet (r : Request) (s : State) : State :=
  let k : Quota := { rate := r.u 4 4, space := [r.u 8 8, r.u 16 8, r.u 24 8, r.u 32 8] }
  answer opQuotaSet uPlacement r [] (s.modPlace fun q => { q with quotas := q.quotas.put (r.u 0 1) k })

/-- QUOTA_SET (R249, R273). -/
def execQuotaSet (r : Request) (s : State) : Out :=
  serve opQuotaSet uPlacement r s (checksQuotaSet r) (doneQuotaSet r)

/-- The stream of the channel whose producer is the accelerator's work item port (R274, R599). -/
def State.poolStream (s : State) (h ch : Nat) : Bool :=
  s.fabric.streams.entries.any fun e =>
    e.2.handle == h && e.2.ch == ch && !e.2.producer.ring && e.2.producer.unit == uCluster 0 && e.2.producer.port == 49

/-- Refusals of JOB_POOL. -/
def checksJobPool (r : Request) (s : State) : List (Bool × Status) :=
  let w := r.u 0 1
  [(w > 8 || !r.zero 1 3 || (w != 0 && (!inRange (r.u 4 4) 1 2000 || !s.poolStream (r.u 8 8) r.ch)), .badParam)]

/-- Effect of JOB_POOL. -/
def doneJobPool (r : Request) (s : State) : State :=
  let w := r.u 0 1
  let pool : Option JobPool := if w = 0 then none else some { workers := w, gops := r.u 4 4, stream := r.u 8 8 }
  let was := s.place.pool
  let s := s.modPlace fun q => { q with pool := pool }
  let s := match was, pool with
    | some p, none => s.poolWithdrawn p.workers
    | _, _ => s
  answer opJobPool uPlacement r [] (if w = 0 then s else s.modInfer fun i => { i with poolCh := some r.ch })

/-- JOB_POOL; a withdrawn pool finishes its running jobs (R274). -/
def execJobPool (r : Request) (s : State) : Out :=
  serve opJobPool uPlacement r s (checksJobPool r) (doneJobPool r)

/-- Refusals of BOOT_VIEW_SET. -/
def checksBootViewSet (r : Request) (_s : State) : List (Bool × Status) :=
  [(!inRange (r.u 0 1) 4 16 || !r.zero 1 3, .badParam)]

/-- Effect of BOOT_VIEW_SET. -/
def doneBootViewSet (r : Request) (s : State) : State :=
  answer opBootViewSet uPlacement r [] (s.modPlace fun q => { q with bootGb := r.u 0 1 })

/-- BOOT_VIEW_SET (R275). -/
def execBootViewSet (r : Request) (s : State) : Out :=
  serve opBootViewSet uPlacement r s (checksBootViewSet r) (doneBootViewSet r)

/-! ### Events -/

/-- One access: a write of its bytes, the fetch of what a rung moved out, and the use of its chunk (R246, R253, R259). -/
def State.access (s : State) (a : Access) : State :=
  match s.placement a.handle with
  | some p =>
    if a.offset + max 1 a.data.length ≤ p.size then
      let s := if a.data = [] then s else s.writePlace a.handle a.offset a.data
      let s := (s.modPlacement a.handle fun p => p.fetched a.offset (max 1 a.data.length)).settlePin a.handle
      s.modPlacement a.handle fun p =>
        { p with chunks := (chunksOf a.offset (max 1 a.data.length)).foldl (fun (b : Bank Chunk) c =>
            b.upd c ⟨0, 0, 0, 0⟩ fun x => { x with lastUse := s.time }) p.chunks }
    else s
  | none => s

/-- Bits set among the low 8. -/
def ones8 (n : Nat) : Nat := ((List.range 8).filter fun i => bit n i).length

/-- Shift the histories of a placement's chunks by one window (R244). -/
def Placement.window (p : Placement) (t : Nat) : Placement :=
  { p with chunks := (p.chunks.mapAll fun _ x =>
      if x.lastUse = t then { x with hist := (x.hist * 2 + 1) % 256, idle := 0 }
      else { x with hist := x.hist * 2 % 256, idle := x.idle + 1 }).keep fun _ x => x.tier != 0 || x.hist != 0 }

/-- The tier a chunk is promoted to: NEAR, or the fastest its class permits, above its residence, with room for it (R244). -/
def State.promoteTo (s : State) (p : Placement) (c : Nat) : Option Nat :=
  ([1, 2, 3].filter fun t => (clsTiers p.cls).contains t || t = 1).find? fun t =>
    t < p.residence c && chunkSize ≤ s.place.free t

/-- Promote and demote the chunks of one placement (R244): a copy under a view or read by a job stays (R245). -/
def State.promote (s : State) (h : Nat) : State :=
  match s.placement h with
  | some p =>
    if p.cls == 1 || p.cls == 4 || p.pin != 0 then s
    else
      let stale := p.chunks.entries.filter fun e => e.2.tier != 0 && e.2.idle ≥ 64 && !p.viewed e.1 && !s.jobReads h
      let s := stale.foldl (fun s e => s.dropCopy h e.1) s
      let hot := p.chunks.entries.filter fun e => ones8 e.2.hist ≥ 4 && (p.unrestored.find e.1).isNone
      hot.foldl (fun s e =>
        match s.promoteTo p e.1 with
        | some t => s.startMoves h t [e.1]
        | none => s) s
  | none => s

/-- Effect of PROMOTION_WINDOW. -/
def donePromotionWindow (t : Nat) (accesses : List Access) (s : State) : State :=
  let s := accesses.foldl State.access s
  let s := s.modPlace fun q => { q with places := q.places.mapAll fun _ p => p.window t }
  if s.power.crank.isSome then s else (s.place.places.keys.foldl State.promote s).pressures

/-- PROMOTION_WINDOW: the accesses of the 1 ms window that ends, then promotion and demotion, not in crank hold (R244, R260). -/
def execPromotionWindow (t : Nat) (accesses : List Access) (s : State) : Out :=
  event t s (fun _ => true) (donePromotionWindow t accesses)

/-- When MIGRATION_DONE has its effect. -/
def whenMigrationDone (_t handle chunk : Nat) (s : State) : Bool :=
  s.place.moving.any fun m => m.handle == handle && m.chunk == chunk

/-- Effect of MIGRATION_DONE. -/
def doneMigrationDone (_t handle chunk : Nat) (s : State) : State :=
  match takeFirst (fun m => m.handle == handle && m.chunk == chunk) s.place.moving with
  | some (m, rest) =>
    let s := s.modPlace fun q => { q with moving := rest }
    let s := s.modPlacement handle fun p =>
      { p with moves := p.moves + 1,
               chunks := p.chunks.upd chunk ⟨0, 0, 0, s.time⟩ fun x =>
                 { x with tier := if m.to_ = p.home then 0 else m.to_, idle := 0 } }
    -- a view that came meanwhile needs the chunk in FAR or above (R255)
    let low := (s.placement handle).any fun p => p.home = 4 && p.viewed chunk && decide (p.residence chunk > 2)
    let s := if low then s.startMoves handle 2 [chunk] else s
    ((s.settlePin handle).finishViews handle).pressures
  | none => s

/-- MIGRATION_DONE: the copy completes; pins and views may complete (R244, R255, R269). -/
def execMigrationDone (t handle chunk : Nat) (s : State) : Out :=
  event t s (whenMigrationDone t handle chunk) (doneMigrationDone t handle chunk)

/-- When WRITE_BACK_START has its effect. -/
def whenWriteBackStart (_t handle offset length : Nat) (s : State) : Bool :=
  let okay := fun (s : State) => s.power.crank.isNone && !s.power.holdupWait && (s.placement handle).any fun p =>
    p.dur == 2 && inRange length 1 (2 ^ 20) && offset % blockSize == 0 &&
      (length % blockSize == 0 || offset + length == p.size) && offset + length ≤ p.size &&
      ((blocksOf offset length).any fun b => (p.dirty.find b).isSome) &&
      p.writing.all fun w => offset + length ≤ w.offset || w.offset + w.length ≤ offset
  okay s

/-- Effect of WRITE_BACK_START. -/
def doneWriteBackStart (_t handle offset length : Nat) (s : State) : State :=
  s.startUnit handle offset length

/-- WRITE_BACK_START: a unit of at most 1 MB of a DURABLE placement's written data starts, journalled first (R253). No unit
starts in crank hold (R260). -/
def execWriteBackStart (t handle offset length : Nat) (s : State) : Out :=
  event t s (whenWriteBackStart t handle offset length) (doneWriteBackStart t handle offset length)

/-- When WRITE_BACK_DONE has its effect. -/
def whenWriteBackDone (_t handle record : Nat) (s : State) : Bool :=
  (s.placement handle).any fun p => p.writing.any fun w => w.record == record

/-- Effect of WRITE_BACK_DONE. -/
def doneWriteBackDone (_t handle record : Nat) (s : State) : State :=
  match (s.placement handle).bind fun p => p.writing.find? fun w => w.record == record with
  | some w => s.wroteBack handle w
  | none => s

/-- WRITE_BACK_DONE (R253). -/
def execWriteBackDone (t handle record : Nat) (s : State) : Out :=
  event t s (whenWriteBackDone t handle record) (doneWriteBackDone t handle record)

/-- When SHADOW_WRITE has its effect. -/
def whenShadowWrite (_t handle _chunk : Nat) (s : State) : Bool :=
  let okay := fun (s : State) => s.power.crank.isNone && (s.placement handle).any fun p => p.dur == 1 && p.home ≤ 2
  okay s

/-- Effect of SHADOW_WRITE. -/
def doneShadowWrite (_t handle chunk : Nat) (s : State) : State :=
  s.shadowed handle chunk

/-- SHADOW_WRITE: a dirty chunk of a RUNG placement reaches its shadow; not in crank hold (R252, R260). -/
def execShadowWrite (t handle chunk : Nat) (s : State) : Out :=
  event t s (whenShadowWrite t handle chunk) (doneShadowWrite t handle chunk)

/-- When TIER_DEGRADED has its effect. -/
def whenTierDegraded (_t tier : Nat) (degraded : Bool) (rate : Nat) (s : State) : Bool :=
  inRange tier 1 4 && bit s.place.degraded tier != degraded && decide (rate < s.place.rateCommitted tier) == degraded

/-- Effect of TIER_DEGRADED. -/
def doneTierDegraded (_t tier : Nat) (degraded : Bool) (rate : Nat) (s : State) : State :=
  let s := s.modPlace fun q => { q with degraded := Nat.xor q.degraded (2 ^ tier) }
  s.raise uPlacement 0x0405 (le 1 tier ++ le 1 (flag degraded) ++ le 2 0 ++ le 4 rate)

/-- TIER_DEGRADED: measured service has been below the tier's commitment for more than 10 ms, or meets it again (R276). -/
def execTierDegraded (t tier : Nat) (degraded : Bool) (rate : Nat) (s : State) : Out :=
  event t s (whenTierDegraded t tier degraded rate) (doneTierDegraded t tier degraded rate)

/-- When RESTORE_CHUNK_DONE has its effect. -/
def whenRestoreChunkDone (_t handle chunk : Nat) (s : State) : Bool :=
  (s.placement handle).any fun p => (p.unrestored.find chunk).isSome

/-- Effect of RESTORE_CHUNK_DONE. -/
def doneRestoreChunkDone (_t handle chunk : Nat) (s : State) : State :=
  ((s.modPlacement handle fun p => p.fetched (chunk * chunkSize) 1).settlePin handle).finishViews handle

/-- RESTORE_CHUNK_DONE (R259). -/
def execRestoreChunkDone (t handle chunk : Nat) (s : State) : Out :=
  event t s (whenRestoreChunkDone t handle chunk) (doneRestoreChunkDone t handle chunk)

end Sys2Proof.Machine
end

