-- ==== Sys2Proof/Machine/ExecPosition.lean ====
section
/-! DEFINITION. Solutions, steering and their OPs of the Navigation family (15). -/

namespace Sys2Proof.Machine

/-! ### OPs (R536–R540) -/

/-- SOLUTION_CONFIG lies outside R537. -/
def solutionConfigBad (r : Request) : Bool :=
  !([1, 2, 5, 10, 20, 50, 100].contains (r.u 4 1)) || r.u 5 1 > 3 || !inRange (r.u 6 1) 1 60 || r.u 7 1 > 30 ||
    !inRange (r.u 8 2) 500 30000 || (r.i 10 2).natAbs > 18000 || (r.i 12 2).natAbs > 9000 || (r.i 14 2).natAbs > 18000 ||
    (r.i 16 4).natAbs > 20000 || (r.i 20 4).natAbs > 20000 || (r.i 24 4).natAbs > 20000 || r.u 28 2 > 35999 || !r.zero 30 2

/-- Refusals of SOLUTION_CONFIG. -/
def checksSolutionConfig (r : Request) (_s : State) : List (Bool × Status) :=
  [(solutionConfigBad r, .badParam)]

/-- Effect of SOLUTION_CONFIG. -/
def doneSolutionConfig (r : Request) (s : State) : State :=
  let c : SolutionConfig :=
    { solHz := r.u 4 1, rtk := bit (r.u 5 1) 0, heading := bit (r.u 5 1) 1, ageMax := r.u 6 1, drLimit := r.u 7 1,
      baseline := r.u 8 2, mountRoll := r.i 10 2, mountPitch := r.i 12 2, mountYaw := r.i 14 2, imuFwd := r.i 16 4,
      imuRight := r.i 20 4, imuUp := r.i 24 4, antBAz := r.u 28 2 }
  let old := s.nav.fusion.cfg
  let moved := c.baseline != old.baseline || c.mountRoll != old.mountRoll || c.mountPitch != old.mountPitch ||
    c.mountYaw != old.mountYaw || c.imuFwd != old.imuFwd || c.imuRight != old.imuRight || c.imuUp != old.imuUp
  answer opSolutionConfig uFusion r []
    (s.modFusion fun f => { f with cfg := c, aligned := f.aligned && !moved, travel := if moved then 0 else f.travel })

/-- SOLUTION_CONFIG (R537). -/
def execSolutionConfig (r : Request) (s : State) : Out :=
  serve opSolutionConfig uFusion r s (checksSolutionConfig r) (doneSolutionConfig r)

/-- Effect of SOLUTION_READ. -/
def doneSolutionRead (r : Request) (s : State) : State :=
  let f := s.nav.fusion
  answer opSolutionRead uFusion r
    (f.last.body ++ le 1 (flag f.engaged) ++ le 3 0 ++ leInt 4 f.xte ++ leInt 4 f.pass ++ List.replicate 20 0) s

/-- SOLUTION_READ (R540). -/
def execSolutionRead (r : Request) (s : State) : Out :=
  serve opSolutionRead uFusion r s (fun _ => []) (doneSolutionRead r)

/-- GUIDE_LINE lies outside R538. -/
def State.guideLineBad (s : State) (r : Request) : Bool :=
  let k := r.u 0 1
  let dE := r.i 12 4 - r.i 4 4
  let dN := r.i 16 4 - r.i 8 4
  let curve := (s.placement (r.u 32 8)).any fun p => p.cls == 2 && p.lists uFusion && 8 * r.u 40 4 ≤ p.size
  k > 2 || !r.zero 1 3 || !r.zero 62 2 ||
    (k != 0 && (!inRange (r.u 20 4) 500 60000 || (r.i 24 4).natAbs > 20000 || (r.i 28 4).natAbs > 20000 ||
      !inRange (r.u 52 2) 1000 20000 || !inRange (r.u 54 2) 100 5000 || !inRange (r.u 56 4) 1000 500000 ||
      !inRange (r.u 60 2) 100 10000)) ||
    (k == 1 && decide (dE * dE + dN * dN < 1000000)) ||
    (k == 2 && (!inRange (r.u 40 4) 2 65536 || !curve || !s.mayName (r.u 32 8) r.ch))

/-- Refusals of GUIDE_LINE. -/
def checksGuideLine (r : Request) (s : State) : List (Bool × Status) :=
  [(s.nav.fusion.engaged, .busyId), (s.guideLineBad r, .badParam)]

/-- Effect of GUIDE_LINE. -/
def doneGuideLine (r : Request) (s : State) : State :=
  let l : GuideLine :=
    { curve := r.u 0 1 == 2, aE := r.i 4 4, aN := r.i 8 4, bE := r.i 12 4, bN := r.i 16 4, swath := r.u 20 4, fwd := r.i 24 4,
      right := r.i 28 4, place := r.u 32 8, points := r.u 40 4, lat := r.i 44 4, lon := r.i 48 4, laMin := r.u 52 2,
      laMs := r.u 54 2, kappaMax := r.u 56 4, xteMax := r.u 60 2 }
  answer opGuideLine uFusion r []
    (s.modFusion fun f => { f with line := if r.u 0 1 = 0 then none else some l, pass := 0, xte := 0, kappa := 0 })

/-- GUIDE_LINE (R525, R538). -/
def execGuideLine (r : Request) (s : State) : Out :=
  serve opGuideLine uFusion r s (checksGuideLine r) (doneGuideLine r)

/-- Slots that an instance writes as SP_OUT (R389). -/
def State.spOutSlots (s : State) : List Nat :=
  (s.functions.insts.entries.map fun e => (e.2.binds.filter fun b => b.role == 3).map (·.ref)).flatten

/-- STEER lies outside R539. -/
def State.steerBad (s : State) (r : Request) : Bool :=
  let slots := [r.u 8 2, r.u 10 2, r.u 12 2]
  let used := slots.filter (· != 0xFFFF)
  r.u 4 1 > 1 || r.u 5 1 > 3 || (r.u 6 1 > 11 && r.u 6 1 != 0xFF) || !r.zero 7 1 || !r.zero 14 2 ||
    r.u 12 2 == 0xFFFF || used.any (255 < ·) || used.dedup.length != used.length ||
    used.any fun x => s.spOutSlots.contains x

/-- The first condition of R527 that an engagement does not meet, as a cause. HEADING_VALID clear has no code in the table: a
free value stands for it (assumption 34). -/
def State.unmet (s : State) (fixMin : Nat) : Option Nat :=
  let f := s.nav.fusion
  if s.lineLost then some 6
  else if f.last.fix < fixMin || !f.running then some 2
  else if !f.last.headingValid then some (Config.free 8 s.freeCount).toNat
  else none

/-- Refusals of STEER. -/
def checksSteer (r : Request) (s : State) : List (Bool × Status) :=
  let engage := r.u 4 1 == 1
  let m := s.mode.mode
  let ok := if engage then ([Mode.fieldReady, .working, .headland, .limp].contains m) else m != .recovery
  [(!ok, .wrongMode), (s.steerBad r, .badParam)]

/-- Effect of STEER. -/
def doneSteer (r : Request) (s : State) : State :=
  let engage := r.u 4 1 == 1
  let q := s.requester opSteer r
  let s := s.accepted opSteer uFusion r []
  if engage then
    match s.unmet (r.u 5 1) with
    | some c => (s.spend 1).complete uFusion 0x2011 (s.steerFields 0 c) q false true
    | none =>
      let x : Steering := { fixMin := r.u 5 1, isoMb := if r.u 6 1 = 0xFF then none else some (r.u 6 1), xteSlot := r.u 8 2,
                            curvSlot := r.u 10 2, stateSlot := r.u 12 2 }
      let s := (s.modFusion fun f => { f with steer := some x, engaged := true, fixLow := none }).count uFusion 18
      s.complete uFusion 0x2011 (s.steerFields 1 8) q false false
  else
    let s := (s.modFusion fun f => { f with engaged := false, fixLow := none }).writeSteer s.time
    s.complete uFusion 0x2011 (s.steerFields 0 0) q false false

/-- STEER: STEER_STATE completes it (R527, R539). -/
def execSteer (r : Request) (s : State) : Out :=
  serve opSteer uFusion r s (checksSteer r) (doneSteer r)

/-- Effect of RTK_STATUS. -/
def doneRtkStatus (r : Request) (s : State) : State :=
  let k := s.nav.rtk
  let age := (k.corrAt.map fun t => satNat (2 ^ 32 - 1) ((s.time - t) / ms)).getD (2 ^ 32 - 1)
  answer opRtkStatus uRtk r (le 8 s.time ++ le 2 k.corrStation ++ le 1 k.last.fix ++ le 1 0 ++ le 4 k.baseDist ++ le 4 age ++
    le 4 k.frames.toNat ++ le 4 k.crcErr.toNat ++ le 1 k.fixedSats ++ le 3 0) s

/-- RTK_STATUS (R540). -/
def execRtkStatus (r : Request) (s : State) : Out :=
  serve opRtkStatus uRtk r s (fun _ => []) (doneRtkStatus r)

/-! ### Solutions (R516–R524) -/

/-- When RTCM_BYTES has its effect: while the RTK engine runs (R25). -/
def whenRtcmBytes (_t : Nat) (_bytes : List Byte) (s : State) : Bool :=
  s.unitUp uRtk

/-- Effect of RTCM_BYTES. -/
def doneRtcmBytes (_t : Nat) (bytes : List Byte) (s : State) : State :=
  (s.modRtk fun r => { r with buffer := r.buffer ++ bytes }).parseRtcm (s.nav.rtk.buffer.length + bytes.length + 1)

/-- RTCM_BYTES (R516, R517). -/
def execRtcmBytes (t : Nat) (bytes : List Byte) (s : State) : Out :=
  event t s (whenRtcmBytes t bytes) (doneRtcmBytes t bytes)

/-- Satellites whose measurements of the latest epoch may take part in ambiguity fixing (R518). -/
def State.fixableSats (s : State) : List Nat := ((s.nav.rtk.weights.filter (·.fixable)).map (·.sat)).dedup

/-- The fix a solution carries: without usable corrections it falls to DGNSS or below (R517); a change of station ID drops the
fixed ambiguities, and none can be fixed without a measurement that takes part in fixing (R517, R518). -/
def State.rtkFix (s : State) (fix : Nat) : Nat :=
  let c := s.nav.fusion.cfg
  let fresh := s.nav.rtk.corrAt.any fun t => decide (s.time ≤ t + c.ageMax * sec)
  if !c.rtk || !fresh then min fix 1 else if s.nav.rtk.dropped || s.fixableSats.isEmpty then min fix 2 else fix

/-- The baseline agrees with BASELINE_MM to 20 mm + 1 % (R520). -/
def baselineOk (cfg solved : Nat) : Bool := decide (100 * absDiff cfg solved ≤ 2000 + cfg)

/-- When GNSS_SOLUTION has its effect. -/
def whenGnssSolution (t : Nat) (_x : SolutionIn) (_fixedSats _distM : Nat) (s : State) : Bool :=
  s.unitUp uRtk && t * s.nav.fusion.cfg.solHz % sec == 0

/-- Effect of GNSS_SOLUTION. -/
def doneGnssSolution (t : Nat) (x : SolutionIn) (fixedSats distM : Nat) (s : State) : State :=
  let c := s.nav.fusion.cfg
  let ok := x.baseline != 0 && baselineOk c.baseline x.baseline
  let hv := c.heading && ok
  let fix := s.rtkFix x.fix
  let hdg := if hv then (x.heading + 36000 - c.antBAz) % 36000 else (Config.free 16 s.freeCount).toNat
  let sol : Solution :=
    { time := t, lat := x.lat, lon := x.lon, height := x.height, velN := x.velN, velE := x.velE, velU := x.velU,
      speed := x.speed, heading := hdg, pitch := x.pitch, roll := 0, yawRate := 0, hAcc := x.hAcc, vAcc := x.vAcc,
      hdgAcc := x.hdgAcc, baseline := if ok then x.baseline else 0, fix := fix, headingValid := hv, dead := false,
      reversing := reversing s.nav.rtk.last.reversing x.speed, timeValid := s.nav.time.valid, aligned := false,
      step := s.nav.rtk.stepped, sats := x.sats, corrAge := s.corrAge }
  let was := s.nav.rtk.last.fix == 3
  let s := s.spend (flag (!hv))
  let s := (s.countN uRtk 21 (flag (x.baseline != 0 && !ok))).countN uRtk 19 (flag (!was && fix == 3))
  let s := s.countN uRtk 20 (flag (was && fix != 3))
  let s := s.modRtk fun r => { r with last := sol, lastAt := some t, dropped := false, stepped := false,
                                      fixedSats := if fix = 3 then min fixedSats s.fixableSats.length else 0,
                                      baseDist := distM }
  let s := if s.unitUp uFusion then s.modFusion fun f => { f with gnssAt := some t, running := true, deadSince := none } else s
  let s := s.modTimekeeper fun k => if k.source == .gnss then { k with lastTime := some t } else k
  let s := if s.nav.base.starting.isSome then s
    else s.modBase fun b =>
      let p : KeptPosition :=
        { lat := x.lat / 100, lon := x.lon / 100, height := x.height, fix := fix, since := t, still := false }
      { b with kept := { b.kept with position := some p } }
  s.present uRtk 2 { time := t, marks := 0, body := sol.body }

/-- GNSS_SOLUTION at SOL_HZ (R517, R518, R520, R524; satellites with fixed ambiguities are counted while the fix is RTK_FIXED,
assumption 133): `heading` is the azimuth of the baseline. An invalid heading's value is not
stated: a free value. -/
def execGnssSolution (t : Nat) (x : SolutionIn) (fixedSats distM : Nat) (s : State) : Out :=
  event t s (whenGnssSolution t x fixedSats distM) (doneGnssSolution t x fixedSats distM)

/-- Distance towards alignment after 5 ms at a speed and a yaw rate, µm (R521). -/
def alignTravel (old : Nat) (speed yawRate : Int) : Nat :=
  if 1000 ≤ speed.natAbs && yawRate.natAbs < 200 then old + 5 * speed.natAbs else 0

/-- When FUSED_SOLUTION has its effect. -/
def whenFusedSolution (_t : Nat) (_x : SolutionIn) (s : State) : Bool :=
  s.unitUp uFusion && s.nav.fusion.running

/-- Effect of FUSED_SOLUTION. -/
def doneFusedSolution (t : Nat) (x : SolutionIn) (s : State) : State :=
  let f := s.nav.fusion
  let dead := f.deadSince.isSome
  let travel := alignTravel f.travel x.speed x.yawRate
  let aligned := f.aligned || (!dead && s.nav.rtk.last.headingValid) || 20000000 ≤ travel
  let fix := if dead then 0 else s.nav.rtk.last.fix
  let rev := reversing f.reversing x.speed
  let sol : Solution :=
    { time := t, lat := x.lat, lon := x.lon, height := x.height, velN := x.velN, velE := x.velE, velU := x.velU,
      speed := x.speed, heading := if aligned then x.heading else x.course, pitch := x.pitch, roll := x.roll,
      yawRate := x.yawRate, hAcc := x.hAcc, vAcc := x.vAcc, hdgAcc := x.hdgAcc,
      baseline := s.nav.rtk.last.baseline, fix := fix, headingValid := aligned || 500 < x.speed.natAbs, dead := dead,
      reversing := rev, timeValid := s.nav.time.valid, aligned := aligned, step := f.stepped, sats := x.sats,
      corrAge := s.corrAge }
  let s := (s.modFusion fun f => { f with last := sol, aligned := aligned, travel := travel, reversing := rev,
                                          stepped := false }).count uFusion 16
  let s := if f.last.fix != fix then
      s.raise uFusion 0x2010 (le 1 f.last.fix ++ le 1 fix ++ le 1 sol.flags ++ le 1 sol.sats ++ le 8 t)
    else s
  ((s.guidance sol).keepTrack sol).present uFusion 1 { time := t, marks := 0, body := sol.body }

/-- FUSED_SOLUTION at 200 Hz (R521–R526). -/
def execFusedSolution (t : Nat) (x : SolutionIn) (s : State) : Out :=
  event t s (whenFusedSolution t x) (doneFusedSolution t x)

/-- When FIX_LOW_TIMEOUT has its effect. -/
def whenFixLowTimeout (t : Nat) (s : State) : Bool :=
  s.unitUp uFusion && s.nav.fusion.engaged && s.nav.fusion.fixLow.any fun u => decide (u + 500 * ms ≤ t)

/-- Effect of FIX_LOW_TIMEOUT. -/
def doneFixLowTimeout (_t : Nat) (s : State) : State :=
  s.disengage 2

/-- FIX_LOW_TIMEOUT (R527). -/
def execFixLowTimeout (t : Nat) (s : State) : Out :=
  event t s (whenFixLowTimeout t) (doneFixLowTimeout t)

/-- Data of the guidance system command: curvature in 0.25 km⁻¹ steps from −8,032 km⁻¹ and the steering status (R526; its
layout is assumption 35). -/
def guidanceData (kappa : Int) (on : Bool) : List Byte :=
  leInt 2 (divRound kappa 250 + 32128) ++ le 1 (if on then 0xFD else 0xFC) ++ List.replicate 5 0xFF

/-- When ISO_GUIDANCE_COMMAND has its effect. -/
def whenIsoGuidanceCommand (_t : Nat) (s : State) : Bool :=
  s.unitUp uFusion && s.nav.fusion.steer.any fun x => x.isoMb.isSome

/-- Effect of ISO_GUIDANCE_COMMAND. -/
def doneIsoGuidanceCommand (_t : Nat) (s : State) : State :=
  match s.nav.fusion.steer.bind (·.isoMb) with
  | none => s
  | some n =>
    match (s.bus n).cfs.entries.find? fun e => e.2.state == .claimed with
    | none => s
    | some (_, cf) =>
      let f := s.nav.fusion
      s.busSend n (j1939Id 3 0xAD00 255 cf.address) 0 0 (guidanceData (if f.engaged then f.kappa else 0) f.engaged)

/-- ISO_GUIDANCE_COMMAND, from the address of the controller's first claimed control function (R526, assumption 35). -/
def execIsoGuidanceCommand (t : Nat) (s : State) : Out :=
  event t s (whenIsoGuidanceCommand t) (doneIsoGuidanceCommand t)

/-- When DEAD_RECKONING_START has its effect. -/
def whenDeadReckoningStart (t : Nat) (s : State) : Bool :=
  s.unitUp uFusion && s.nav.fusion.running && s.nav.fusion.deadSince.isNone &&
      s.nav.fusion.gnssAt.all fun u => decide (u + 200 * ms ≤ t)

/-- Effect of DEAD_RECKONING_START. -/
def doneDeadReckoningStart (t : Nat) (s : State) : State :=
  (s.modFusion fun f => { f with deadSince := some t }).count uFusion 17

/-- DEAD_RECKONING_START: no GNSS solution for 200 ms (R522). -/
def execDeadReckoningStart (t : Nat) (s : State) : Out :=
  event t s (whenDeadReckoningStart t) (doneDeadReckoningStart t)

/-- When DR_LIMIT_EXPIRY has its effect. -/
def whenDrLimitExpiry (t : Nat) (s : State) : Bool :=
  s.unitUp uFusion && s.nav.fusion.running && s.nav.fusion.deadSince.any fun u =>
      decide (u + s.nav.fusion.cfg.drLimit * sec ≤ t)

/-- Effect of DR_LIMIT_EXPIRY. -/
def doneDrLimitExpiry (_t : Nat) (s : State) : State :=
  s.modFusion fun f => { f with running := false }

/-- DR_LIMIT_EXPIRY (R522). -/
def execDrLimitExpiry (t : Nat) (s : State) : Out :=
  event t s (whenDrLimitExpiry t) (doneDrLimitExpiry t)

end Sys2Proof.Machine
end

