-- ==== Sys2Proof/Machine/ShiftOps.lean ====
section
/-! DEFINITION. A step of module time (R531, R532): intervals that islands count on their own clocks do not move, so the
deadlines and starting points that stand for them move with the step. Queued edges, ledger deadlines, alarms and stamps keep
their module times. -/

namespace Sys2Proof.Machine

/-- A module time moved by `d`. -/
def moved (d : Int) (t : Nat) : Nat := ((t : Int) + d).toNat

/-- A timer that may not run. -/
def movedOpt (d : Int) (o : Option Nat) : Option Nat := o.map (moved d)

/-- Timers of a channel: liveness watch, coalescing, keep-awake hold, held items (R162, R206, R214, R822). -/
def Channel.moved (d : Int) (c : Channel) : Channel :=
  let w := { c.watch with deadline := movedOpt d c.watch.deadline, lostAt := movedOpt d c.watch.lostAt }
  { c with watch := w, coalDue := movedOpt d c.coalDue, keepAwake := movedOpt d c.keepAwake,
           waiting := c.waiting.map fun i => { i with since := Machine.moved d i.since } }

/-- Timers of the hub. -/
def Hub.moved (d : Int) (h : Hub) : Hub :=
  let f := fun (_ : Nat) (c : Channel) => c.moved d
  let g := fun (_ : Nat) (x : TunnelSession) => { x with lastMessage := Machine.moved d x.lastMessage }
  { h with chans := h.chans.mapAll f, sessions := h.sessions.mapAll g }

/-- Timers of a rung wait. -/
def RungWait.moved (d : Int) (w : RungWait) : RungWait := { w with until? := movedOpt d w.until? }

/-- Timers of the power manager. -/
def Power.moved (d : Int) (p : Power) : Power :=
  { p with lowSince := movedOpt d p.lowSince, waitSince := Machine.moved d p.waitSince, wait := p.wait.map (·.moved d),
           entering := p.entering.map fun e => (e.1.moved d, Machine.moved d e.2), descentFrom := movedOpt d p.descentFrom,
           backupSince := movedOpt d p.backupSince }

/-- Timers of the supervisors: fences, the prepare, challenges, lock-outs, the jack-in-the-box. -/
def ModeState.moved (d : Int) (m : ModeState) : ModeState :=
  let ch := fun (c : Challenge) => { c with expires := Machine.moved d c.expires }
  let f := fun (x : Fence) => { x with since := Machine.moved d x.since, commit := movedOpt d x.commit }
  let c := fun (x : Change) => { x with prepare := Machine.moved d x.prepare, allReady := movedOpt d x.allReady }
  let i := fun (_ : Nat) (x : Island) => { x with resetTimes := x.resetTimes.map (Machine.moved d) }
  { m with change := m.change.map c, fences := m.fences.map f, islands := m.islands.mapAll i,
           challengePw := m.challengePw.map ch, challengeVendor := m.challengeVendor.map ch,
           lockPw := movedOpt d m.lockPw, lockVendor := movedOpt d m.lockVendor, lastBeat := movedOpt d m.lastBeat,
           selfTests := m.selfTests.map fun x => { x with started := Machine.moved d x.started } }

/-- Timers of a yo-yo test. -/
def Tune.moved (d : Int) (x : Tune) : Tune :=
  { x with started := Machine.moved d x.started, lastSwitch := Machine.moved d x.lastSwitch, cycleStart := movedOpt d x.cycleStart }

/-- Timers of a switch channel (R423, R426, R437, R334). -/
def Switch.moved (d : Int) (x : Switch) : Switch :=
  let p := match x.phase with
    | .turningOn t => SwPhase.turningOn (Machine.moved d t)
    | .retryWait t => SwPhase.retryWait (Machine.moved d t)
    | y => y
  let h := match x.held with
    | .holdFor t => HoldState.holdFor (Machine.moved d t)
    | y => y
  { x with phase := p, held := h, testedAt := movedOpt d x.testedAt, onSince := movedOpt d x.onSince, demandAt := Machine.moved d x.demandAt,
           pulse := movedOpt d x.pulse }

/-- Timers of a supply group. -/
def Group.moved (d : Int) (g : Group) : Group :=
  { g with disturbed := g.disturbed.map fun x => (Machine.moved d x.1, x.2), shedDue := movedOpt d g.shedDue,
           settleUntil := Machine.moved d g.settleUntil }

/-- Timers of the power stage. -/
def PowerStage.moved (d : Int) (p : PowerStage) : PowerStage :=
  let f := fun (_ : Nat) (x : Switch) => x.moved d
  { p with chans := p.chans.mapAll f, groupA := p.groupA.moved d, groupB := p.groupB.moved d,
           service := p.service.map fun x => (x.1, Machine.moved d x.2) }

/-- Timers of an instance being started. -/
def Instance.moved (d : Int) (x : Instance) : Instance :=
  let f := fun (y : Starting) => { y with next := Machine.moved d y.next }
  { x with starting := x.starting.map f }

/-- Timers of the field group and the sensor inputs. -/
def FieldIo.moved (d : Int) (x : FieldIo) : FieldIo :=
  let f := fun (_ : Nat) (y : SensorIn) =>
    { y with lowSince := movedOpt d y.lowSince, shuntOut := movedOpt d y.shuntOut, hitTimes := y.hitTimes.map (Machine.moved d) }
  let g := fun (_ : Nat) (y : SensorSupply) => { y with fault := movedOpt d y.fault }
  { x with si := x.si.mapAll f, sup5 := x.sup5.mapAll g }

/-- Timers of the streams and the link. -/
def Fabric.moved (d : Int) (x : Fabric) : Fabric :=
  let r := fun (y : RingState) => { y with notifiedAt := movedOpt d y.notifiedAt }
  let k := fun (_ : Nat) (c : Consumer) => { c with ring := r c.ring }
  let f := fun (_ : Nat) (y : Stream) =>
    { y with dropsAt := movedOpt d y.dropsAt, consumers := y.consumers.mapAll k, pRing := r y.pRing,
             draining := y.draining.map fun z => (z.1, Machine.moved d z.2) }
  let lanes := fun (_ : Nat) (l : List Nat) => l.map (Machine.moved d)
  let link := { x.link with laneRetrains := x.link.laneRetrains.mapAll lanes, trainingSince := movedOpt d x.link.trainingSince,
                            checkTimes := x.link.checkTimes.map (Machine.moved d), downAt := movedOpt d x.link.downAt }
  { x with streams := x.streams.mapAll f, link := link }

/-- Timers of NAV but the timekeeper's. -/
def Nav.moved (d : Int) (n : Nav) : Nav :=
  let ch := fun (_ : Nat) (c : NavChannel) => { c with mpSince := movedOpt d c.mpSince, lowSince := movedOpt d c.lowSince }
  let notch := fun (x : Notch) => { x with lowSince := movedOpt d x.lowSince }
  let band := fun (_ : Nat) (b : NavBand) => { b with reportedAt := movedOpt d b.reportedAt, notches := b.notches.map notch }
  let ant := fun (_ : Nat) (a : Antenna) => { a with bands := a.bands.mapAll band, shortAt := movedOpt d a.shortAt }
  let start := fun (x : NavStart) => { x with since := Machine.moved d x.since, begun := Machine.moved d x.begun }
  let base := { n.base with chans := n.base.chans.mapAll ch, ants := n.base.ants.mapAll ant, starting := n.base.starting.map start,
                            tuneAt := Machine.moved d n.base.tuneAt }
  let rtk := { n.rtk with corrAt := movedOpt d n.rtk.corrAt, lastAt := movedOpt d n.rtk.lastAt }
  let fusion := { n.fusion with gnssAt := movedOpt d n.fusion.gnssAt, deadSince := movedOpt d n.fusion.deadSince,
                                fixLow := movedOpt d n.fusion.fixLow }
  let time := { n.time with lastTime := movedOpt d n.time.lastTime, holdSince := movedOpt d n.time.holdSince }
  { n with base := base, rtk := rtk, fusion := fusion, time := time }

/-- Ages of the placement engine: accesses, dirty blocks and the requests that wait for them (R246, R252, R253). -/
def Puppeteer.moved (d : Int) (x : Puppeteer) : Puppeteer :=
  let t := fun (_ : Nat) (u : Nat) => Machine.moved d u
  let c := fun (_ : Nat) (y : Chunk) => { y with lastUse := Machine.moved d y.lastUse }
  let f := fun (_ : Nat) (p : Placement) =>
    { p with chunks := p.chunks.mapAll c, dirty := p.dirty.mapAll t,
             syncs := p.syncs.map fun y => { y with since := Machine.moved d y.since },
             writing := p.writing.map fun w => { w with blocks := w.blocks.mapAll t } }
  { x with places := x.places.mapAll f }

/-- Timers of the camera ports and the pipelines. -/
def Vision.moved (d : Int) (v : Vision) : Vision :=
  let frame := fun (f : CamFrame) => { f with lastLine := Machine.moved d f.lastLine }
  let cam := fun (_ : Nat) (c : Camera) =>
    { c with lockedAt := movedOpt d c.lockedAt, toldAt := movedOpt d c.toldAt, frames := c.frames.map frame,
             recent := c.recent.map fun x => (x.1, Machine.moved d x.2) }
  { v with cams := v.cams.mapAll cam, pipes := v.pipes.mapAll fun _ p => { p with freeAt := Machine.moved d p.freeAt },
           bridgeOn := movedOpt d v.bridgeOn }

/-- Timers of the inference jobs. -/
def Inference.moved (d : Int) (x : Inference) : Inference :=
  let f := fun (_ : Nat) (j : Job) => { j with toldAt := movedOpt d j.toldAt }
  { x with jobs := x.jobs.mapAll f }

/-- Timers of a bus controller. -/
def BusController.moved (d : Int) (b : BusController) : BusController :=
  let q := fun (_ : Nat) (x : RxQueue) => { x with toldAt := movedOpt d x.toldAt, firstAt := movedOpt d x.firstAt }
  let cf := fun (_ : Nat) (x : ControlFunction) => { x with due := movedOpt d x.due }
  { b with busOffAt := b.busOffAt.map (Machine.moved d), queues := b.queues.mapAll q, cfs := b.cfs.mapAll cf,
           outgoing := b.outgoing.map fun x => { x with last := Machine.moved d x.last },
           incoming := b.incoming.map fun x => { x with last := Machine.moved d x.last } }

/-- Timers of the fleet agent: its exchange, its senders and its merge jobs. -/
def Fleet.moved (d : Int) (x : Fleet) : Fleet :=
  { x with exchangeAt := movedOpt d x.exchangeAt,
           senders := x.senders.map fun y => { y with lastHeard := Machine.moved d y.lastHeard },
           merges := x.merges.map fun y => { y with start := Machine.moved d y.start, deadline := Machine.moved d y.deadline } }

/-- Timers of the display. -/
def Display.moved (d : Int) (x : Display) : Display :=
  { x with railFault := movedOpt d x.railFault, railsAt := movedOpt d x.railsAt, lastFrame := movedOpt d x.lastFrame,
           band := x.band.map fun b => (b.1, Machine.moved d b.2.1, b.2.2) }

/-- Timers of the safety island. -/
def Safety.moved (d : Int) (x : Safety) : Safety :=
  let w := fun (y : WiringFault) => { y with absentSince := movedOpt d y.absentSince }
  let i := fun (_ : Nat) (y : SafeIn) => { y with since := Machine.moved d y.since, faults := y.faults.map w }
  let o := fun (_ : Nat) (y : SafeOut) =>
    { y with faults := y.faults.map w, pulse := movedOpt d y.pulse, pulseDue := movedOpt d y.pulseDue,
             demandAt := Machine.moved d y.demandAt }
  let f := fun (_ : Nat) (y : SafeFn) => { y with stopDue := movedOpt d y.stopDue }
  { x with ins := x.ins.mapAll i, outs := x.outs.mapAll o, fns := x.fns.mapAll f, safgnd := x.safgnd.map (movedOpt d),
           rstLow := movedOpt d x.rstLow }

/-- Timers of the images. -/
def Update.moved (d : Int) (u : Update) : Update :=
  let f := fun (_ : Nat) (c : ImageClass) =>
    { c with rejoinDue := movedOpt d c.rejoinDue, trialStart := if c.trialStart = 0 then 0 else Machine.moved d c.trialStart }
  { u with classes := u.classes.mapAll f, install := u.install.map fun i => { i with since := Machine.moved d i.since } }

/-- Every timer of the module moves with a step of `d` ns. -/
def State.shiftTimers (s : State) (d : Int) : State :=
  let loop := fun (_ : Nat) (l : Loop) => { l with tune := l.tune.map (Tune.moved d) }
  let inst := fun (_ : Nat) (x : Instance) => x.moved d
  let bus := fun (_ : Nat) (b : BusController) => b.moved d
  let control := { s.control with loops := s.control.loops.mapAll loop }
  let functions := { s.functions with insts := s.functions.insts.mapAll inst }
  let eth := { s.eth with learned := s.eth.learned.map fun x => (x.1, x.2.1, moved d x.2.2), syncAt := movedOpt d s.eth.syncAt,
                          announceAt := movedOpt d s.eth.announceAt, pdelayAt := movedOpt d s.eth.pdelayAt }
  let sections := { s.sections with holdSince := movedOpt d s.sections.holdSince, goodSince := movedOpt d s.sections.goodSince,
                                    syncAt := s.sections.syncAt.mapAll fun _ u => Machine.moved d u }
  { s with hub := s.hub.moved d, power := s.power.moved d, mode := s.mode.moved d, control := control,
           stage := s.stage.moved d, functions := functions, fieldIo := s.fieldIo.moved d, fabric := s.fabric.moved d,
           nav := s.nav.moved d, vision := s.vision.moved d, infer := s.infer.moved d, buses := s.buses.mapAll bus,
           eth := eth, fleet := s.fleet.moved d, display := s.display.moved d, safety := s.safety.moved d, update := s.update.moved d,
           sections := sections, place := s.place.moved d }

end Sys2Proof.Machine
end

