-- ==== Sys2Proof/Machine/ExecPulse.lean ====
section
/-! DEFINITION. The 1 ms module tick and the time pulse with the step of module time (01, 15). -/

namespace Sys2Proof.Machine

/-- When MODULE_TIME_TICK has its effect. -/
def whenModuleTimeTick (t : Nat) (s : State) : Bool :=
  t % ms == 0 && s.tick < t && s.power.life == .started && s.power.rung < 2

/-- Effect of MODULE_TIME_TICK. -/
def doneModuleTimeTick (t : Nat) (s : State) : State :=
  let s := (s.atTick t).setCopies
  let s := if s.fabric.link.phase == .up then
      s.modLink fun l => { l with wire := l.wire ++ [controlFlit 5 8 (le 8 t)] }
    else s
  s.steerStale

/-- MODULE_TIME_TICK (R35): every island copy of module time is set; a link that is up carries a TIME flit (R305), and steering
without a fused solution for 100 ms disengages (R527). -/
def execModuleTimeTick (t : Nat) (s : State) : Out :=
  event t s (whenModuleTimeTick t) (doneModuleTimeTick t)

/-- Slew at most 10 ns of an offset from one pulse to the next (R528). -/
def slewed (x : Int) : Int := if 10 < x then x - 10 else if x < -10 then x + 10 else 0

/-- Every port's gating at a step of `d` ns (R666). -/
def State.holdGates (s : State) (d : Int) (old new : Nat) : State :=
  s.modEth fun e => { e with ports := e.ports.mapAll fun _ p => p.steppedTo d old new }

/-- Module time steps by `d` ns to the whole second `pulse` (R531, R532). -/
def State.stepTime (s : State) (d : Int) (pulse : Nat) : State :=
  let s := s.holdGates d s.time pulse
  let s := (((s.shiftTimers d).atTime pulse).atTick pulse).modControl fun c => { c with tickNo := pulse / tickNs }
  let s := (s.modFusion fun f => { f with stepped := true }).modRtk fun r => { r with stepped := true }
  let s := s.raise uTime 0x2102 (leInt 8 d ++ le 8 pulse)
  let s := s.setTime fun k => { k.validate with step := none, slew := 0, lastStep := pulse }
  s.count uTime 17

/-- When TIME_PULSE has its effect. -/
def whenTimePulse (t : Nat) (s : State) : Bool :=
  s.unitUp uTime && s.power.rung < 2 &&
    match s.nav.time.step with
    | some (d, some p) => ((t : Int) + d) == (p : Int)
    | _ => t % sec == 0 && s.nav.time.lastPulse < t

/-- Effect of TIME_PULSE. -/
def doneTimePulse (_t : Nat) (s : State) : State :=
  let s := match s.nav.time.nextCfg with
    | some p => s.modTimekeeper fun k => k.configure p
    | none => s
  let s := match s.nav.time.step with
    | some (d, some p) => s.stepTime d p
    | _ => s.modTimekeeper fun k => { k with slew := slewed k.slew }
  let s := s.modTimekeeper fun k => { k with lastPulse := s.time }
  (s.emitPulse false).emitPulse true

/-- TIME_PULSE (R531, R533, R541): a pending configuration takes effect, a scheduled step is made at the pulse, and each output
emits its pulse. -/
def execTimePulse (t : Nat) (s : State) : Out :=
  event t s (whenTimePulse t) (doneTimePulse t)

end Sys2Proof.Machine
end

