-- ==== Sys2Proof/Machine/ExecSafety.lean ====
section
/-! DEFINITION. The Safety family and the safety island's own events (23). -/

namespace Sys2Proof.Machine

/-! ### Inputs -/

/-- What a voltage reads on an input (R739); none between the thresholds of a PLAIN input, which holds its level there
(assumption 51). -/
def readVolts (b : List Byte) (n supplyMv : Nat) (mv : Int) : Option SafeLevel :=
  let swap := fun (x : SafeLevel) => if inInvert b n then (match x with
    | .permit => .demand
    | .demand => .permit
    | f => f) else x
  if inKind b n = 1 then
    if (supplyMv : Int) ≤ 2 * mv then some (swap .permit)
    else if 4 * mv ≤ (supplyMv : Int) then some (swap .demand)
    else none
  else if mv ≤ 1500 then some (.fault 0x09)
  else if 9700 ≤ mv then some (.fault 0x0A)
  else if 3500 ≤ mv && mv ≤ 5300 then some (swap .permit)
  else if 7500 ≤ mv && mv ≤ 9500 then some (swap .demand)
  else some (.fault 0x0B)

/-- What the two paths read together (assumption 51): where they differ, a fault before DEMAND before PERMIT. -/
def bothPaths : Option SafeLevel → Option SafeLevel → Option SafeLevel
  | some (.fault c), _ => some (.fault c)
  | _, some (.fault c) => some (.fault c)
  | some .demand, _ => some .demand
  | _, some .demand => some .demand
  | some .permit, some .permit => some .permit
  | _, _ => none

/-- Input `n` takes a sample (R740): the time its level has held, and whether the conditions of the latched faults stand. -/
def SafeIn.sample (x : SafeIn) (v : SafeLevel) (t : Nat) : SafeIn :=
  let x := if x.raw == v then x else { x with raw := v, since := t }
  let present := match v with
    | .fault c => [c]
    | _ => []
  { x with faults := x.faults.map (·.look present t) }

/-- The safety ground of a sample (R755, R756). -/
def State.sampleGround (s : State) (bad : Bool) : State :=
  match s.safety.safgnd with
  | none =>
    if bad then ((s.modSafety fun x => { x with safgnd := some none }).openCut).tellSafeFault 0x0F 0xFF true else s
  | some since => s.modSafety fun x => { x with safgnd := some (if bad then none else some (since.getD s.time)) }

/-- When SAFE_IN_SAMPLE has its effect. -/
def whenSafeInSample (_t : Nat) (_x : SafSample) (s : State) : Bool :=
  s.safRuns

/-- Effect of SAFE_IN_SAMPLE. -/
def doneSafeInSample (t : Nat) (x : SafSample) (s : State) : State :=
  let a := fun n => x.a.getD n 0
  let b := fun n => x.b.getD n 0
  if !x.railsOk then s.safeFault 0x05 0xFF 0x25
  else match (List.range 8).find? fun n => 200 < (a n - b n).natAbs with
    | some n => (s.count uSafeIn 17).safeFault 0x07 n 0x25
    | none =>
      let cfg := s.safety.active
      let s := (List.range 8).foldl (fun s n =>
        if inKind cfg n = 0 then s
        else match bothPaths (readVolts cfg n x.supplyMv (a n)) (readVolts cfg n x.supplyMv (b n)) with
          | some v => s.modSafeIn n fun y => y.sample v t
          | none => s) s
      s.sampleGround (decide (500 < x.gndMv.natAbs))

/-- SAFE_IN_SAMPLE (R739, R741, R755). -/
def execSafeInSample (t : Nat) (x : SafSample) (s : State) : Out :=
  event t s (whenSafeInSample t x) (doneSafeInSample t x)

/-- When SAFE_IN_ACCEPT has its effect. -/
def whenSafeInAccept (t input : Nat) (s : State) : Bool :=
  s.safRuns && inKind s.safety.active input != 0 &&
      decide ((s.safety.input input).since + inFilter s.safety.active input ≤ t)

/-- Effect of SAFE_IN_ACCEPT. -/
def doneSafeInAccept (_t input : Nat) (s : State) : State :=
  let x := s.safety.input input
  let s := s.modSafeIn input fun x => { x with level := x.raw }
  match x.raw with
  | .fault c =>
    if latched x.faults c then s
    else
      ((s.modSafeIn input fun x => { x with faults := x.faults ++ [{ code := c, absentSince := none }] }).count uSafeIn 18).tellSafeFault
        c input true
  | _ => s

/-- SAFE_IN_ACCEPT (R740): a fault voltage is latched. -/
def execSafeInAccept (t input : Nat) (s : State) : Out :=
  valid (input < 8) <| event t s (whenSafeInAccept t input) (doneSafeInAccept t input)

/-- When INPUT_PATH_TEST has its effect. -/
def whenInputPathTest (_t : Nat) (_mismatch : Option Nat) (s : State) : Bool :=
  s.safRuns

/-- Effect of INPUT_PATH_TEST. -/
def doneInputPathTest (_t : Nat) (mismatch : Option Nat) (s : State) : State :=
  let s := s.count uSafeIn 16
  match mismatch with
  | some n => (s.count uSafeIn 17).safeFault 0x07 n 0x25
  | none => s

/-- INPUT_PATH_TEST (R741). -/
def execInputPathTest (t : Nat) (mismatch : Option Nat) (s : State) : Out :=
  event t s (whenInputPathTest t mismatch) (doneInputPathTest t mismatch)

/-- SAFETY_RESET (R770). -/
def State.tellReset (s : State) (result released cleared : Nat) : State :=
  s.raise uSafety 0x7003 (le 1 result ++ le 1 released ++ le 1 cleared ++ le 1 0)

/-- When SAFE_RST_EDGE has its effect. -/
def whenSafeRstEdge (_t _highNs : Nat) (s : State) : Bool :=
  s.safRuns

/-- Effect of SAFE_RST_EDGE. -/
def doneSafeRstEdge (t highNs : Nat) (s : State) : State :=
  let s := s.modSafety fun x => { x with rstLow := some t }
  if s.safety.rstStuck then (s.tellReset 2 0 0).count uSafety 18
  else if 2 * sec < highNs then
    (((s.modSafety fun x => { x with rstStuck := true }).tellSafeFault 0x10 0xFF true).tellReset 2 0 0).count uSafety 18
  else if highNs < 100 * ms then (s.tellReset 1 0 0).count uSafety 18
  else s.modSafety fun x => { x with resetEdge := true }

/-- SAFE_RST_EDGE (R742): a falling edge after a high of `highNs`; one longer than 2.0 s latches RST_STUCK, and an accepted one acts in the next logic cycle (R750). -/
def execSafeRstEdge (t highNs : Nat) (s : State) : Out :=
  event t s (whenSafeRstEdge t highNs) (doneSafeRstEdge t highNs)

/-- When SAFE_RST_STUCK has its effect. -/
def whenSafeRstStuck (_t : Nat) (s : State) : Bool :=
  s.safRuns && !s.safety.rstStuck

/-- Effect of SAFE_RST_STUCK. -/
def doneSafeRstStuck (_t : Nat) (s : State) : State :=
  (s.modSafety fun x => { x with rstStuck := true, rstLow := none }).tellSafeFault 0x10 0xFF true

/-- SAFE_RST_STUCK (R742). -/
def execSafeRstStuck (t : Nat) (s : State) : Out :=
  event t s (whenSafeRstStuck t) (doneSafeRstStuck t)

/-! ### Outputs -/

/-- When SAFE_TEST_PULSE has its effect. -/
def whenSafeTestPulse (t out : Nat) (s : State) : Bool :=
  let x := s.safety.out out
  s.safRuns && x.on && x.pulseDue.any (fun u => decide (u ≤ t)) && decide (x.demandAt + 2 * ms ≤ t) && s.power.crank.isNone &&
    (List.range 4).all fun n => (s.safety.out n).pulse.isNone

/-- Effect of SAFE_TEST_PULSE. -/
def doneSafeTestPulse (t out : Nat) (s : State) : State :=
  (s.modSafeOut out fun x =>
    { x with pulse := some t, pulseDue := some (t + outTestMs s.safety.active out * ms) }).count uSafeOut 16

/-- SAFE_TEST_PULSE (R745). -/
def execSafeTestPulse (t out : Nat) (s : State) : Out :=
  valid (out < 4) <| event t s (whenSafeTestPulse t out) (doneSafeTestPulse t out)

/-- When SAFE_TEST_PULSE_END has its effect. -/
def whenSafeTestPulseEnd (t out readbackMv : Nat) (s : State) : Bool :=
  (s.safety.out out).pulse.any fun u => decide (readbackMv ≤ 2000) || decide (u + 400 * us ≤ t)

/-- Effect of SAFE_TEST_PULSE_END. -/
def doneSafeTestPulseEnd (_t out readbackMv : Nat) (s : State) : State :=
  let s := s.modSafeOut out fun x => { x with pulse := none }
  if readbackMv ≤ 2000 then s else s.latchOut out 0x0C

/-- SAFE_TEST_PULSE_END (R745): the end of the pulse does not turn an output back on that a demand has switched off. -/
def execSafeTestPulseEnd (t out readbackMv : Nat) (s : State) : Out :=
  valid (out < 4) <| event t s (whenSafeTestPulseEnd t out readbackMv) (doneSafeTestPulseEnd t out readbackMv)

/-- When SAFE_OUT_OVERCURRENT has its effect. -/
def whenSafeOutOvercurrent (_t out : Nat) (s : State) : Bool :=
  s.safRuns && (s.safety.out out).on

/-- Effect of SAFE_OUT_OVERCURRENT. -/
def doneSafeOutOvercurrent (_t out : Nat) (s : State) : State :=
  s.latchOut out 0x0D

/-- SAFE_OUT_OVERCURRENT (R743). -/
def execSafeOutOvercurrent (t out : Nat) (s : State) : Out :=
  valid (out < 4) <| event t s (whenSafeOutOvercurrent t out) (doneSafeOutOvercurrent t out)

/-- When SAFE_OPEN_LOAD has its effect. -/
def whenSafeOpenLoad (_t out : Nat) (_below : Bool) (s : State) : Bool :=
  s.safRuns && (s.safety.out out).on && outDiag s.safety.active out && s.power.crank.isNone

/-- Effect of SAFE_OPEN_LOAD. -/
def doneSafeOpenLoad (_t out : Nat) (below : Bool) (s : State) : State :=
  s.modSafeOut out fun x => { x with openLoad := below }

/-- SAFE_OPEN_LOAD (R744): a warning, suspended in crank hold (R760). -/
def execSafeOpenLoad (t out : Nat) (below : Bool) (s : State) : Out :=
  valid (out < 4) <| event t s (whenSafeOpenLoad t out below) (doneSafeOpenLoad t out below)

/-! ### The logic cycle (R750) -/

/-- What demands function `n`: the first input that does not permit, as a CAUSE of R770, or OFF_REQUEST. -/
def Safety.demandOf (x : Safety) (n : Nat) : Option Nat :=
  match (List.range 8).find? fun i => bit (fnInputs x.active n) i && !x.permits i with
  | some i => some (if (x.input i).faults != [] || x.safgnd.isSome then 0x12 else i)
  | none => if bit x.hostOff n then some 0x10 else none

/-- A change of a function's state: the function, the state before and after, and the cause. -/
structure FnMove where
  fn : Nat
  old : FnState
  new : FnState
  cause : Nat
  deriving DecidableEq, Repr

/-- Where the demands of a cycle at `t` move function `n` (R748, R749). -/
def Safety.moveOf (x : Safety) (t n : Nat) : Option FnMove :=
  let f := x.fn n
  let go := fun new cause => some { fn := n, old := f.state, new := new, cause := cause }
  match f.state, x.demandOf n with
  | .permit, some c => go (if fnDelay x.active n = 0 then .demand else .stopping) c
  | .stopping, none => go .permit f.cause
  | .stopping, some _ => if f.stopDue.any fun u => decide (u ≤ t) then go .demand f.cause else none
  | .demand, none => go (if fnFlag x.active n 1 || f.needReset then .waitReset else .permit) f.cause
  | .waitReset, some c => go .demand c
  | _, _ => none

/-- Apply a move. -/
def State.applyMove (s : State) (m : FnMove) : State :=
  s.modSafeFn m.fn fun f =>
    { f with state := m.new, cause := m.cause,
             stopDue := if m.new == .stopping then some (s.time + fnDelay s.safety.active m.fn * ms) else none,
             needReset := f.needReset && m.new != .permit }

/-- A demand on a function that permits: counted, and SAFE_HOLD asked for where HOLD_MODULE is set (R751). -/
def State.noteDemand (s : State) (m : FnMove) : State :=
  if m.old != .permit then s
  else
    let s := s.count uSafety (if m.cause = 0x10 then 19 else 16)
    if fnFlag s.safety.active m.fn 3 && !bit s.safety.holding m.fn then
      ((s.modSafety fun x => { x with holding := x.holding + 2 ^ m.fn }).modMode fun x =>
        { x with holdFns := x.holdFns ||| 2 ^ m.fn }).askHold 0x22 [uSafety] none
    else s

/-- Fault detection by read-back (R744): an output that was off when the cycle began, and one that was on, outside a test pulse
and crank hold. The condition of a fault on an output that is off is absent (assumption 52). -/
def State.readBack (s : State) (on : List Bool) (c : SafCycle) : State :=
  (List.range 4).foldl (fun s n =>
    let v := c.readback.getD n 0
    let x := s.safety.out n
    if !(on.getD n false) then
      let high := decide (2000 < v)
      let s := if x.faults = [] then s
        else s.modSafeOut n fun x => { x with faults := x.faults.map (·.look (if high then [0x0C] else []) s.time) }
      if high then s.latchOut n 0x0C else s
    else if x.pulse.isNone && s.power.crank.isNone && v + 1500 < c.supplyMv then s.latchOut n 0x0E
    else s) s

/-- The latched faults of the first `k` places that have gone at `t`, each with its place (R758). -/
def goneFaults (t k : Nat) (faults : Nat → List WiringFault) : List (Nat × Nat) :=
  (List.range k).flatMap fun n => ((faults n).filter fun f => goneSince t f.absentSince).map fun f => (n, f.code)

/-- A reset clears the wiring faults that had gone when its edge arrived (R758): the state, and how many. -/
def State.clearFaults (s : State) : State × Nat :=
  let t := (s.safety.rstLow).getD s.time
  let ins := goneFaults t 8 fun n => (s.safety.input n).faults
  let outs := goneFaults t 4 fun n => (s.safety.out n).faults
  let gnd := s.safety.safgnd.any (goneSince t)
  let s := ins.foldl (fun s f =>
    (s.modSafeIn f.1 fun x => { x with faults := x.faults.filter (·.code != f.2) }).tellSafeFault f.2 f.1 false) s
  let s := outs.foldl (fun s f =>
    (s.modSafeOut f.1 fun x => { x with faults := x.faults.filter (·.code != f.2) }).tellSafeFault f.2 f.1 false) s
  let s := if gnd then (s.modSafety fun x => { x with safgnd := none }).tellSafeFault 0x0F 0xFF false else s
  (s.modSafety fun x => { x with cutOpen := x.cutOpen && x.cutHeld }, ins.length + outs.length + flag gnd)

/-- The moves out of WAIT_RESET by a reset (R750). -/
def Safety.releases (x : Safety) : List FnMove :=
  (List.range 8).filterMap fun n =>
    if (x.fn n).state == .waitReset && (x.demandOf n).isNone then
      some { fn := n, old := .waitReset, new := .permit, cause := 0x11 }
    else none

/-- A reset edge acts (R750, R751): faults, functions, and the functions that held SAFE_HOLD and permit again. -/
def State.resetEdge (s : State) : State × List FnMove :=
  let (s, cleared) := s.clearFaults
  let l := s.safety.releases
  let s := l.foldl State.applyMove s
  let permit := fun (x : Safety) n => (x.fn n).state == .permit
  let s := s.modSafety fun x =>
    { x with resetEdge := false, holding := bitsOf ((List.range 8).map fun n => bit x.holding n && !permit x n) }
  let kept := fun (x : Safety) (old : Nat) => bitsOf ((List.range 8).map fun n => bit old n && !permit x n)
  let x := s.safety
  let s := s.modMode fun m => { m with holdRst := true, holdFns := kept x m.holdFns }
  ((s.count uSafety 17).tellReset 0 ((l.map fun m => 2 ^ m.fn).sum) cleared, l)

/-- When RST_STUCK_CLEAR has its effect. -/
def whenRstStuckClear (t : Nat) (s : State) : Bool :=
  s.safety.rstStuck && s.safety.rstLow.any fun u => decide (u + sec ≤ t)

/-- Effect of RST_STUCK_CLEAR. -/
def doneRstStuckClear (_t : Nat) (s : State) : State :=
  (s.modSafety fun x => { x with rstStuck := false }).tellSafeFault 0x10 0xFF false

/-- RST_STUCK_CLEAR (R742): SAFE_RST has been low for 1 s. -/
def execRstStuckClear (t : Nat) (s : State) : Out :=
  event t s (whenRstStuckClear t) (doneRstStuckClear t)

/-- When SAFETY_LOGIC_CYCLE has its effect. -/
def whenSafetyLogicCycle (_t : Nat) (_c : SafCycle) (s : State) : Bool :=
  s.safRuns

/-- Effect of SAFETY_LOGIC_CYCLE. -/
def doneSafetyLogicCycle (_t : Nat) (c : SafCycle) (s : State) : State :=
  if !c.lockstep then s.safeFault 0x01 0xFF 0x25
  else if !c.flow then s.safeFault 0x06 0xFF 0x25
  else
    let on := (List.range 4).map fun n => (s.safety.out n).on
    let moves := (List.range 8).filterMap (s.safety.moveOf s.time)
    let s := (moves.foldl State.applyMove s)
    let s := moves.foldl State.noteDemand s
    let s := s.setOutputs
    let s := s.readBack on c
    let (s, released) := if s.safety.resetEdge then s.resetEdge else (s, [])
    let s := s.setOutputs
    (moves ++ released).foldl (fun s m => s.tellFn m.fn m.old m.new m.cause) s

/-- SAFETY_LOGIC_CYCLE (R736, R747–R751): demands, faults, resets and releases in the order of R750, then the outputs. -/
def execSafetyLogicCycle (t : Nat) (c : SafCycle) (s : State) : Out :=
  event t s (whenSafetyLogicCycle t c) (doneSafetyLogicCycle t c)

/-- When STOP_DELAY_EXPIRY has its effect. -/
def whenStopDelayExpiry (t fn : Nat) (s : State) : Bool :=
  s.safRuns && (s.safety.fn fn).state == .stopping && (s.safety.fn fn).stopDue.any fun u => decide (u ≤ t)

/-- Effect of STOP_DELAY_EXPIRY. -/
def doneStopDelayExpiry (_t fn : Nat) (s : State) : State :=
  let m : FnMove := { fn := fn, old := .stopping, new := .demand, cause := (s.safety.fn fn).cause }
  ((s.applyMove m).setOutputs).tellFn fn .stopping .demand m.cause

/-- STOP_DELAY_EXPIRY (R748). -/
def execStopDelayExpiry (t fn : Nat) (s : State) : Out :=
  valid (fn < 8) <| event t s (whenStopDelayExpiry t fn) (doneStopDelayExpiry t fn)

/-! ### Diagnostics (R755, R759) -/

/-- When a background self-test has an effect: it fails (R755). -/
def whenSafeTest (pass : Bool) (s : State) : Bool := s.safRuns && !pass

/-- Effect of RAM_MARCH. -/
def doneRamMarch (_t : Nat) (_pass : Bool) (s : State) : State := s.safeFault 0x02 0xFF 0x25

/-- RAM_MARCH (R755). -/
def execRamMarch (t : Nat) (pass : Bool) (s : State) : Out := event t s (whenSafeTest pass) (doneRamMarch t pass)

/-- Effect of CODE_CRC_CHECK. -/
def doneCodeCrcCheck (_t : Nat) (_pass : Bool) (s : State) : State := s.safeFault 0x03 0xFF 0x25

/-- CODE_CRC_CHECK (R755). -/
def execCodeCrcCheck (t : Nat) (pass : Bool) (s : State) : Out := event t s (whenSafeTest pass) (doneCodeCrcCheck t pass)

/-- Effect of CLOCK_COMPARE. -/
def doneClockCompare (_t : Nat) (_pass : Bool) (s : State) : State := s.safeFault 0x04 0xFF 0x25

/-- CLOCK_COMPARE (R755). -/
def execClockCompare (t : Nat) (pass : Bool) (s : State) : Out := event t s (whenSafeTest pass) (doneClockCompare t pass)

/-- When SAF_SELFTEST has its effect. -/
def whenSafSelftest (_t _fault : Nat) (s : State) : Bool :=
  s.safety.state == .selftest

/-- Effect of SAF_SELFTEST. -/
def doneSafSelftest (_t fault : Nat) (s : State) : State :=
  if fault = 0 then s.safStart.finishAct clsSafety else s.safeFault fault 0xFF 0x21

/-- SAF_SELFTEST (R759): `fault` is 0 for a pass, an internal code of R756 otherwise. -/
def execSafSelftest (t fault : Nat) (s : State) : Out :=
  valid (fault ≤ 8) <| event t s (whenSafSelftest t fault) (doneSafSelftest t fault)

/-! ### The family -/

/-- Effect of SAFETY_STATUS. -/
def doneSafetyStatus (r : Request) (s : State) : State :=
  let x := s.safety
  let bits := fun (n : Nat) (f : Nat → Bool) => le 1 (bitsOf ((List.range n).map f))
  let st := fun (l : List FnState) n => l.contains (x.fn n).state
  answer opSafetyStatus uSafety r
    (le 8 s.time ++ le 1 x.state.code ++ le 1 x.fault ++ bits 8 x.permits ++ bits 8 (fun n => (x.input n).faults != []) ++
      le 1 x.outOn ++ bits 4 (fun n => (x.out n).faults != []) ++ bits 8 (st [.permit, .stopping]) ++ bits 8 (st [.waitReset]) ++
      le 1 x.hostOff ++
      le 1 (bitsOf [x.holding != 0 || x.state == .safeFault, x.cutOpen, x.rstStuck, x.safgnd.isSome, x.staged.isSome,
        x.validated, x.key.isSome]) ++ le 2 0 ++ le 4 x.headSeq ++ (Config.sha256 x.active).take 16 ++ le 8 0) s

/-- SAFETY_STATUS (R769). -/
def execSafetyStatus (r : Request) (s : State) : Out :=
  serve opSafetyStatus uSafety r s (fun _ => []) (doneSafetyStatus r)

/-- Refusals of CONFIG_READ. -/
def checksConfigRead (r : Request) (_s : State) : List (Bool × Status) :=
  [(r.u 0 1 > 1 || !r.zero 1 3, .badParam)]

/-- Effect of CONFIG_READ. -/
def doneConfigRead (r : Request) (s : State) : State :=
  if r.u 0 1 = 0 then answer opConfigRead uSafety r s.safety.active s
  else match s.safety.staged with
    | some b => answer opConfigRead uSafety r b s
    | none => answer opConfigRead uSafety r (freeBytes s.freeCount 256) (s.spend 256)

/-- CONFIG_READ (R767): a staged block before any CONFIG_STAGE is open, free bytes (assumption 3). -/
def execConfigRead (r : Request) (s : State) : Out :=
  serve opConfigRead uSafety r s (checksConfigRead r) (doneConfigRead r)

/-- The request comes from outside the commissioning session (R762). -/
def notSession (r : Request) (s : State) : Bool := s.mode.session != some r.ch

/-- Refusals of CONFIG_STAGE. -/
def checksConfigStage (r : Request) (s : State) : List (Bool × Status) :=
  let b := r.bytes 8 256
  [(notSession r s, .authFailed), (!r.zero 4 4 || configBad b, .badParam)]

/-- Effect of CONFIG_STAGE. -/
def doneConfigStage (r : Request) (s : State) : State :=
  let b := r.bytes 8 256
  answer opConfigStage uSafety r (Config.sha256 b) (s.modSafety fun x => { x with staged := some b, validated := false })

/-- CONFIG_STAGE (R765, R767). -/
def execConfigStage (r : Request) (s : State) : Out :=
  serve opConfigStage uSafety r s (checksConfigStage r) (doneConfigStage r)

/-- Refusals of CONFIG_COMMIT. -/
def checksConfigCommit (r : Request) (s : State) : List (Bool × Status) :=
  let h := r.bytes 8 32
  [(notSession r s, .authFailed),
      (!r.zero 4 4 || !(s.safety.staged.any fun b => Config.sha256 b == h), .badParam)]

/-- Effect of CONFIG_COMMIT. -/
def doneConfigCommit (r : Request) (s : State) : State :=
  let h := r.bytes 8 32
  let s := s.safeAllOff
  let s := s.modSafety fun x => { x with active := (x.staged).getD x.active, staged := none, validated := false }
  let s := (if s.safety.state == .run then s.restartFns 0x13 else s).appendLog 2 h []
  answer opConfigCommit uSafety r [] s

/-- CONFIG_COMMIT (R749, R765, R768): the staged block becomes the active one. -/
def execConfigCommit (r : Request) (s : State) : Out :=
  serve opConfigCommit uSafety r s (checksConfigCommit r) (doneConfigCommit r)

/-- Refusals of VALIDATE. -/
def checksSafetyValidate (r : Request) (s : State) : List (Bool × Status) :=
  let h := r.bytes 8 32
  let who := r.bytes 40 16
  [(notSession r s, .authFailed),
      (!r.zero 4 4 || Config.sha256 s.safety.active != h || who.any (fun b => 128 ≤ b.toNat), .badParam)]

/-- Effect of VALIDATE. -/
def doneSafetyValidate (r : Request) (s : State) : State :=
  let h := r.bytes 8 32
  let who := r.bytes 40 16
  answer opValidate uSafety r []
    ((s.modSafety fun x => { x with validated := true }).appendLog 3 h ((Config.sha256 who).take 16))

/-- VALIDATE (R765, R768). -/
def execSafetyValidate (r : Request) (s : State) : Out :=
  serve opValidate uSafety r s (checksSafetyValidate r) (doneSafetyValidate r)

/-- Bytes of two fields combined by XOR. -/
def xorBytes (a b : List Byte) : List Byte := List.zipWith (fun x y => x ^^^ y) a b

/-- Refusals of PASSWORD_SET. -/
def checksPasswordSet (r : Request) (s : State) : List (Bool × Status) :=
  let newKey := fun (s : State) =>
    xorBytes (r.bytes 8 32) (Config.hmac s.safetyKey ([0x4B, 0x50, 0x57, 0x44] ++ le 4 s.safety.headSeq))
  let proof := fun (s : State) => Config.hmac (newKey s) ([0x4B, 0x43, 0x4F, 0x4E, 0x46] ++ le 4 s.safety.headSeq)
  [(notSession r s || proof s != r.bytes 40 32, .authFailed), (!r.zero 4 4, .badParam)]

/-- Effect of PASSWORD_SET. -/
def donePasswordSet (r : Request) (s : State) : State :=
  let newKey := fun (s : State) =>
    xorBytes (r.bytes 8 32) (Config.hmac s.safetyKey ([0x4B, 0x50, 0x57, 0x44] ++ le 4 s.safety.headSeq))
  answer opPasswordSet uSafety r []
    ((s.modSafety fun x => { x with key := some (newKey s) }).appendLog 1 (r.bytes 40 32) [])

/-- PASSWORD_SET (R768): "KPWD" and "KCONF" with HEAD_SEQ. -/
def execPasswordSet (r : Request) (s : State) : Out :=
  serve opPasswordSet uSafety r s (checksPasswordSet r) (donePasswordSet r)

/-- Refusals of LOG_READ. -/
def checksLogRead (r : Request) (s : State) : List (Bool × Status) :=
  let first := r.u 0 4
  let base := fun (s : State) => (s.safety.log.head?.map (·.seq)).getD 0
  [(!inRange (r.u 4 2) 1 36 || !r.zero 6 2 || s.safety.log == [] || first < base s || s.safety.headSeq < first,
      .badParam)]

/-- Effect of LOG_READ. -/
def doneLogRead (r : Request) (s : State) : State :=
  let first := r.u 0 4
  let base := fun (s : State) => (s.safety.log.head?.map (·.seq)).getD 0
  let l := ((s.safety.log.drop (first - base s)).take (r.u 4 2)).map (·.bytes)
  answer opLogRead uSafety r
    (le 4 (base s) ++ le 4 s.safety.headSeq ++ le 2 l.length ++ le 6 0 ++ (s.safety.baseHash ++ List.replicate 32 0).take 32 ++
      l.flatten) s

/-- LOG_READ (R769). -/
def execLogRead (r : Request) (s : State) : Out :=
  serve opLogRead uSafety r s (checksLogRead r) (doneLogRead r)

/-- Refusals of OFF_REQUEST. -/
def checksOffRequest (r : Request) (_s : State) : List (Bool × Status) :=
  [(r.u 1 1 > 1 || !r.zero 2 2, .badParam)]

/-- Effect of OFF_REQUEST. -/
def doneOffRequest (r : Request) (s : State) : State :=
  let f := fun n => if bit (r.u 0 1) n then r.u 1 1 == 1 else bit s.safety.hostOff n
  answer opOffRequest uSafety r [] (s.modSafety fun x => { x with hostOff := bitsOf ((List.range 8).map f) })

/-- OFF_REQUEST (R737, R754, R769): for every channel alike; it acts in the next logic cycle. -/
def execOffRequest (r : Request) (s : State) : Out :=
  serve opOffRequest uSafety r s (checksOffRequest r) (doneOffRequest r)

end Sys2Proof.Machine
end

