-- ==== Sys2Proof/Machine/ExecSection.lean ====
section
/-! DEFINITION. The Section timing family and the section engine's events (13). -/

namespace Sys2Proof.Machine

/-! ### Configuration -/

/-- An identifier field outside its 11 or 29 bits (R477). -/
def idBad (x : Nat) : Bool := if bit x 31 then x / 2 ^ 29 != 4 else x ≥ 2 ^ 11

/-- IMPLEMENT_SET outside R477. -/
def implementBad (r : Request) : Bool :=
  let towed := r.u 4 1 == 2
  !inRange (r.u 4 1) 1 2 || !inRange (r.u 5 1) 1 100 || r.u 6 1 > 1 || r.u 7 1 > 3 ||
    (towed && ((r.i 8 4).natAbs > 20000 || (r.i 12 4).natAbs > 20000 || !inRange (r.u 16 4) 500 20000)) || r.u 20 2 > 5000 ||
    r.u 22 2 > 10000 || !inRange (r.u 24 1) 1 100 || !inRange (r.u 25 1) 5 100 || !inRange (r.u 26 2) 50 1000 || r.u 28 1 > 3 ||
    !r.zero 29 1 || !inRange (r.u 30 2) 5 100 || idBad (r.u 40 4) || idBad (r.u 44 4) || idBad (r.u 48 4)

/-- Refusals of IMPLEMENT_SET. -/
def checksImplementSet (r : Request) (s : State) : List (Bool × Status) :=
  [(s.sections.state != .stopped, .busyId), (implementBad r, .badParam)]

/-- Effect of IMPLEMENT_SET. -/
def doneImplementSet (r : Request) (s : State) : State :=
  answer opImplementSet uSection r [] (s.modSections fun x => { x with implement := r.payload })

/-- IMPLEMENT_SET (R477). -/
def execImplementSet (r : Request) (s : State) : Out :=
  serve opImplementSet uSection r s (checksImplementSet r) (doneImplementSet r)

/-- Section of entry `i` of SECTIONS_SET (R478). -/
def sectionEntry (r : Request) (i : Nat) : Section :=
  let o := 8 + 20 * i
  { Section.none_ with target := targetOf r.payload o, fwd := r.i (o + 4) 4, right := r.i (o + 8) 4, width := r.u (o + 12) 2,
                       onLat := r.u (o + 14) 2, offLat := r.u (o + 16) 2 }

/-- A 10BASE-T1S target whose node has no mapping (R668). -/
def State.unmappedNode (s : State) (g : Target) : Bool := g.kind == 3 && (s.eth.nodes.find g.nodeNo).isNone

/-- A section that R457, R478 or R668 refuses. -/
def State.sectionBad (s : State) (x : Section) : Bool :=
  x.target.reserved || x.fwd.natAbs > 40000 || x.right.natAbs > 40000 || x.onLat > 50000 || x.offLat > 50000 ||
    x.width != 0 && (!x.target.ok || !inRange x.width 50 20000 || s.unmappedNode x.target || (x.target.channel).any fun c => (s.chanOwner c).isSome)

/-- Refusals of SECTIONS_SET. -/
def checksSectionsSet (r : Request) (s : State) : List (Bool × Status) :=
  let first := r.u 4 1
  let n := r.u 5 1
  let new := (List.range n).map fun i => (first + i, sectionEntry r i)
  let defined := new.filter fun e => e.2.width != 0
  let targets := defined.map fun e => e.2.target
  [(s.sections.state != .stopped, .busyId),
      (!inRange n 1 128 || first + n > 256 || !r.zero 6 2 || r.len != 8 + 20 * n || (List.range n).any (fun i => !r.zero (26 + 20 * i) 2) ||
        new.any (fun e => s.sectionBad e.2) || targets.dedup.length != targets.length ||
        (s.sections.secs.entries.any fun e => !inRange e.1 first (first + n - 1) && targets.contains e.2.target), .badParam)]

/-- Effect of SECTIONS_SET. -/
def doneSectionsSet (r : Request) (s : State) : State :=
  let first := r.u 4 1
  let n := r.u 5 1
  let new := (List.range n).map fun i => (first + i, sectionEntry r i)
  answer opSectionsSet uSection r [] (s.modSections fun x =>
      { x with secs := new.foldl (fun b e => if e.2.width = 0 then b.erase e.1 else b.put e.1 e.2) x.secs })

/-- SECTIONS_SET (R478). -/
def execSectionsSet (r : Request) (s : State) : Out :=
  serve opSectionsSet uSection r s (checksSectionsSet r) (doneSectionsSet r)

/-- The COVERAGE handle is invalid (R475, R479). -/
def State.coverageBad (s : State) : Bool := (s.placement s.coverage).all fun p => p.cls != clsCoverage || !p.lists uSection

/-- Modes in which the engine may start (R476). -/
def engineModes : List Mode := [.fieldReady, .working, .headland, .limp]

/-- Refusals of ENGINE. -/
def checksSectionEngine (r : Request) (s : State) : List (Bool × Status) :=
  let start := r.u 4 1 == 1
  [((start && !engineModes.contains s.mode.mode) || s.mode.mode == .recovery, .wrongMode),
      (r.u 4 1 > 1 || !r.zero 5 3 || (start && (s.sections.secs.entries = [] || s.sections.implement = [] || s.coverageBad)), .badParam)]

/-- Effect of ENGINE. -/
def doneSectionEngine (r : Request) (s : State) : State :=
  let start := r.u 4 1 == 1
  let s :=
    if start then
      if s.sections.state == .stopped then
        let clear := fun (x : Section) => { x with point := none, marks := if x.on then x.marks else [] }
        (s.modSections fun x =>
          { x with bar := (s.nav.fusion.last.heading : Int) * 10000, hitch := none, goodSince := none, slow := false,
                   secs := x.secs.mapAll fun _ y => clear y }).setEngine .running 0
      else s
    else s.stopEngine 0 4 (s.time + 100 * us)
  answer opEngine uSection r [] s

/-- ENGINE (R468, R479): at a start the bar stands along the fused heading. -/
def execSectionEngine (r : Request) (s : State) : Out :=
  serve opEngine uSection r s (checksSectionEngine r) (doneSectionEngine r)

/-- Refusals of OVERRIDE. -/
def checksSectionOverride (r : Request) (s : State) : List (Bool × Status) :=
  [(r.u 36 32 != 0 && s.mode.mode != .working, .wrongMode), (r.u 4 32 &&& r.u 36 32 != 0, .badParam)]

/-- Effect of OVERRIDE. -/
def doneSectionOverride (r : Request) (s : State) : State :=
  answer opOverride uSection r [] (s.modSections fun x => { x with forceOff := r.u 4 32, forceOn := r.u 36 32 })

/-- OVERRIDE (R479): FORCE_ON counts as an on action (R463). -/
def execSectionOverride (r : Request) (s : State) : Out :=
  serve opOverride uSection r s (checksSectionOverride r) (doneSectionOverride r)

/-! ### Host edges -/

/-- Edge of entry `i` of a SCHEDULE (R480). -/
def scheduleEdge (r : Request) (serial i : Nat) : Edge :=
  let o := 8 + 24 * i
  { id := 0, target := targetOf r.payload o, action := r.u (o + 4) 1, section_ := none, time := r.u (o + 12) 8,
    value := if r.u (o + 4) 1 = 2 then r.u (o + 8) 4 else 0, entry := (serial, i), ch := r.ch, tag := r.tag.toNat, seq := 0,
    sent := none, resent := false, lateUs := 0, begun := false, error := 0, deferred := false }

/-- The refusals of one SCHEDULE entry (R454, R456, R457, R463, R668). -/
def State.scheduleChecks (s : State) (r : Request) (i : Nat) : List (Bool × Status) :=
  let o := 8 + 24 * i
  let e := scheduleEdge r 0 i
  let g := e.target
  let ch := g.channel
  let ok := g.ok
  let m := s.mode.mode
  let soon := s.time + (if g.kind = 1 then 100 * us else s.leadMs * ms)
  let hosts := (s.sections.edges.filter fun x => x.section_.isNone).length
  let engine := s.sections.edges.length - hosts
  let same := (s.sections.edges.filter fun x => x.target == g).length +
    ((List.range i).filter fun j => (scheduleEdge r 0 j).target == g).length
  [(!ok || e.action > 2 || !r.zero (o + 5) 3 || !r.zero (o + 20) 4 || e.time < soon || e.time > s.time + 600 * sec ||
      (e.action == 2 && (g.kind != 1 || e.value > swMax g.index)) || s.unmappedNode g, .badParam),
   (!engineModes.contains m || (e.action == 1 && m != .working) ||
      (ok && ch.any fun c => s.fenced (swUnit c) || (e.action != 0 && !s.modeLets m c)), .wrongMode),
   (ok && ch.any (fun c => (e.action == 2 && (s.holder c).isSome) || (e.action != 2 && s.ownedChannel c)) ||
      (s.sections.state == .running && e.action != 2 && s.sections.secs.entries.any fun x => x.2.target == g), .busyId),
   (32 ≤ same || 4096 - max (2 * s.sections.secs.entries.length) engine ≤ hosts + i, .noSpace)]

/-- Refusals of SCHEDULE. -/
def checksSectionSchedule (r : Request) (s : State) : List (Bool × Status) :=
  let n := r.u 4 1
  [(!engineModes.contains s.mode.mode, .wrongMode), (!inRange n 1 64 || !r.zero 5 3 || r.len != 8 + 24 * n, .badParam)]

/-- Refusals of the entries of SCHEDULE. -/
def entriesSectionSchedule (r : Request) (s : State) : List (List (Bool × Status)) :=
  let n := r.u 4 1
  (List.range n).map (s.scheduleChecks r)

/-- Effect of SCHEDULE. -/
def doneSectionSchedule (r : Request) (s : State) : State :=
  let n := r.u 4 1
  let q := s.requester opSchedule r
  let k := s.sections.nextSerial
  let s := (s.accepted opSchedule uSection r []).modSections fun x =>
    { x with nextSerial := k + 1,
             schedules := x.schedules ++ [{ serial := k, req := some q, ch := r.ch, tag := r.tag.toNat, results := List.replicate n none }] }
  (List.range n).foldl (fun s i => s.queueEdge (scheduleEdge r k i)) s

/-- SCHEDULE (R454, R480, R481): completed by EDGE_DONE. -/
def execSectionSchedule (r : Request) (s : State) : Out :=
  serveEntries opSchedule uSection r s false (checksSectionSchedule r) (entriesSectionSchedule r) (doneSectionSchedule r)

/-- Refusals of EDGE_CANCEL. -/
def checksEdgeCancel (r : Request) (s : State) : List (Bool × Status) :=
  let mine := fun (q : ScheduleReq) => q.ch == r.ch && q.tag == r.u 0 4
  [(!s.sections.schedules.any mine || !r.zero 4 4, .badParam)]

/-- Effect of EDGE_CANCEL. -/
def doneEdgeCancel (r : Request) (s : State) : State :=
  let mine := fun (q : ScheduleReq) => q.ch == r.ch && q.tag == r.u 0 4
  let ids := (s.sections.schedules.filter mine).map (·.serial)
  answer opEdgeCancel uSection r [] (s.removeEdges (fun e => e.section_.isNone && ids.contains e.entry.1) 4)

/-- EDGE_CANCEL (R480). -/
def execEdgeCancel (r : Request) (s : State) : Out :=
  serve opEdgeCancel uSection r s (checksEdgeCancel r) (doneEdgeCancel r)

/-- Effect of SECTION_STATUS. -/
def doneSectionStatus (r : Request) (s : State) : State :=
  let x := s.sections
  let engine := (x.edges.filter fun e => e.section_.isSome).length
  let map := bitsOf ((List.range 256).map fun n => (s.section_ n).on)
  answer opSectionStatus uSection r (le 8 s.time ++ le 1 x.state.code ++ le 1 x.fix ++ le 2 engine ++ le 2 (x.edges.length - engine) ++
    le 2 0 ++ le 4 x.late.toNat ++ le 4 x.noAck.toNat ++ le 8 x.solTime ++ le 32 map) s

/-- SECTION_STATUS (R480). -/
def execSectionStatus (r : Request) (s : State) : Out :=
  serve opSectionStatus uSection r s (fun _ => []) (doneSectionStatus r)

/-! ### Events -/

/-- When EDGE_EXECUTE has its effect. -/
def whenEdgeExecute (t id : Nat) (s : State) : Bool :=
  s.ctlRuns && (s.edge id).any fun e => e.target.kind == 1 && !e.begun && decide (e.time ≤ t)

/-- Effect of EDGE_EXECUTE. -/
def doneEdgeExecute (_t id : Nat) (s : State) : State :=
  match s.edge id with
  | some e => s.runEdge e e.target.index
  | none => s

/-- EDGE_EXECUTE (R419, R456). -/
def execEdgeExecute (t id : Nat) (s : State) : Out :=
  event t s (whenEdgeExecute t id) (doneEdgeExecute t id)

/-- When NODE_COMMAND_SEND has its effect. -/
def whenNodeCommandSend (t id : Nat) (s : State) : Bool :=
  s.unitUp uSection && (s.edge id).any fun e =>
      e.target.kind != 1 && e.sent.isNone && decide (e.time ≤ t + s.leadMs * ms)

/-- Effect of NODE_COMMAND_SEND. -/
def doneNodeCommandSend (_t id : Nat) (s : State) : State :=
  match s.edge id with
  | some e => s.commandNode e
  | none => s

/-- NODE_COMMAND_SEND (R460). -/
def execNodeCommandSend (t id : Nat) (s : State) : Out :=
  event t s (whenNodeCommandSend t id) (doneNodeCommandSend t id)

/-- The sent edge an acknowledgement is for (R461). -/
def State.acked (s : State) (mb : Option Nat) (node : Nat) (rec : List Byte) : Option Edge :=
  s.sections.edges.find? fun e =>
    let g := e.target
    e.sent.isSome && g.nodeNo == node && g.index == field rec 0 1 && e.seq == field rec 1 1 / 16 &&
      (match mb with
        | some n => g.kind == 2 && g.bus == n
        | none => g.kind == 3)

/-- When NODE_ACK_RX has its effect: its bus or the segment carries it. -/
def whenNodeAckRx (_t : Nat) (mb : Option Nat) (_node : Nat) (_rec : List Byte) (s : State) : Bool :=
  match mb with
  | some n => (s.bus n).active
  | none => (s.ethPort 5).link == 2

/-- Effect of NODE_ACK_RX. -/
def doneNodeAckRx (t : Nat) (mb : Option Nat) (node : Nat) (rec : List Byte) (s : State) : State :=
  if mb.isNone && (!s.ethFlag 5 3 || (s.eth.nodes.find node).isNone) then s.refuseDatagram 5
  else match s.acked mb node rec with
    | none => s
    | some e =>
      let at_ := expand48 t (field rec 2 6)
      let err : Int := (at_ : Int) - e.time
      (s.sectionEdge e at_).endEdge e 0 (e.resultFlags (decide (20000 < err.natAbs))) err true

/-- NODE_ACK_RX (R461, R657, R668): on E5 a datagram is refused without NODES or a mapping. -/
def execNodeAckRx (t : Nat) (mb : Option Nat) (node : Nat) (rec : List Byte) (s : State) : Out :=
  valid (mb.all fun n => n < 12) <| event t s (whenNodeAckRx t mb node rec) (doneNodeAckRx t mb node rec)

/-- When NODE_ACK_TIMEOUT has its effect. -/
def whenNodeAckTimeout (t id : Nat) (s : State) : Bool :=
  s.unitUp uSection && (s.edge id).any fun e => e.sent.any fun u =>
      decide ((if e.resent then u else e.time) + s.ackMs * ms ≤ t)

/-- Effect of NODE_ACK_TIMEOUT. -/
def doneNodeAckTimeout (t id : Nat) (s : State) : State :=
  match s.edge id with
  | some e =>
    if e.resent then (s.sectionEdge e e.time).endEdge e 7 (e.resultFlags false) 0 true
    else ((s.modEdge id fun x => { x with resent := true, sent := some t }).count uSection 20).sendEdge e
  | none => s

/-- NODE_ACK_TIMEOUT (R461): the command is resent once, then the edge ends NO_ACK. -/
def execNodeAckTimeout (t id : Nat) (s : State) : Out :=
  event t s (whenNodeAckTimeout t id) (doneNodeAckTimeout t id)

/-- Bus `mb` carries a node target: of a queued edge, or of a section while the engine runs (R459). -/
def State.syncDue (s : State) (mb : Nat) : Bool :=
  let on := fun (g : Target) => g.kind == 2 && g.bus == mb
  let queued := s.sections.edges.any fun e => e.target.kind != 1
  let running := s.sections.state == .running && s.sections.secs.entries.any fun e => e.2.target.kind == 2
  (queued || running) && ((s.sections.edges.any fun e => on e.target) || s.sections.secs.entries.any fun e => on e.2.target)

/-- When NODE_SYNC_SEND has its effect. -/
def whenNodeSyncSend (t mb : Nat) (s : State) : Bool :=
  s.unitUp uSection && s.syncDue mb && (s.sections.syncAt.find mb).all fun u => decide (u + s.syncMs * ms ≤ t)

/-- Effect of NODE_SYNC_SEND. -/
def doneNodeSyncSend (t mb : Nat) (s : State) : State :=
  let seq := s.sections.syncSeq.rd mb 0
  let s := s.modSections fun x => { x with syncSeq := x.syncSeq.put mb ((seq + 1) % 256), syncAt := x.syncAt.put mb t }
  (s.busSendId mb (canIdOf (s.impl 40 4) 0) (syncTag seq) 0 (le 1 seq)).count uSection 22

/-- NODE_SYNC_SEND (R459): SYNC_MS after the last on that bus; FOLLOW_UP leaves when SYNC has been sent, with its start-of-frame time. -/
def execNodeSyncSend (t mb : Nat) (s : State) : Out :=
  valid (mb < 12) <| event t s (whenNodeSyncSend t mb) (doneNodeSyncSend t mb)

/-- When ENGINE_SOLUTION has its effect. -/
def whenEngineSolution (_t : Nat) (s : State) : Bool :=
  s.unitUp uSection && (s.sections.state != .stopped || s.sections.secs.entries.any fun e => e.2.marks != []) &&
    s.nav.fusion.running

/-- Effect of ENGINE_SOLUTION. -/
def doneEngineSolution (_t : Nat) (s : State) : State :=
  s.takeSolution s.nav.fusion.last

/-- ENGINE_SOLUTION (R469–R475). -/
def execEngineSolution (t : Nat) (s : State) : Out :=
  event t s (whenEngineSolution t) (doneEngineSolution t)

/-- When NAV_STALE_HOLD has its effect. -/
def whenNavStaleHold (t : Nat) (s : State) : Bool :=
  s.unitUp uSection && s.sections.state == .running &&
      (decide (s.nav.fusion.last.time + 100 * ms < t) || !s.solutionGood s.nav.fusion.last)

/-- Effect of NAV_STALE_HOLD. -/
def doneNavStaleHold (_t : Nat) (s : State) : State :=
  (s.modSections fun x => { x with goodSince := none }).setEngine .holding 3

/-- NAV_STALE_HOLD (R473). -/
def execNavStaleHold (t : Nat) (s : State) : Out :=
  event t s (whenNavStaleHold t) (doneNavStaleHold t)

/-- When NAV_HOLD_EXPIRY has its effect. -/
def whenNavHoldExpiry (t : Nat) (s : State) : Bool :=
  s.unitUp uSection && s.sections.state == .holding && s.sections.holdSince.any fun u =>
      decide (u + s.impl 22 2 * ms ≤ t)

/-- Effect of NAV_HOLD_EXPIRY. -/
def doneNavHoldExpiry (t : Nat) (s : State) : State :=
  (s.gateOff (t + 100 * us)).setEngine .navOff 3

/-- NAV_HOLD_EXPIRY (R473). -/
def execNavHoldExpiry (t : Nat) (s : State) : Out :=
  event t s (whenNavHoldExpiry t) (doneNavHoldExpiry t)

/-- When NAV_RETURN has its effect. -/
def whenNavReturn (t : Nat) (s : State) : Bool :=
  s.unitUp uSection && (s.sections.state == .holding || s.sections.state == .navOff) &&
      s.sections.goodSince.any fun u => decide (u + sec ≤ t)

/-- Effect of NAV_RETURN. -/
def doneNavReturn (_t : Nat) (s : State) : State :=
  s.setEngine .running 4

/-- NAV_RETURN (R473). -/
def execNavReturn (t : Nat) (s : State) : Out :=
  event t s (whenNavReturn t) (doneNavReturn t)

end Sys2Proof.Machine
end

