-- ==== Sys2Proof/Machine/ExecStream.lean ====
section
/-! DEFINITION. The Stream family and the fabric's events (08). -/

namespace Sys2Proof.Machine

/-! ### Endpoints (R278, R293, R311) -/

/-- The endpoint written in 16 bytes of a payload (R311). -/
def endpointAt (p : List Byte) (off : Nat) : Endpoint :=
  { ring := field p off 1 == 2, peer := field p (off + 1) 1 == 1, unit := field p (off + 2) 2,
    port := field p (off + 4) 1, place := field p (off + 8) 8 }

/-- The endpoint's bytes are not those of R311. -/
def endpointMalformed (p : List Byte) (off : Nat) : Bool :=
  let e := endpointAt p off
  !inRange (field p off 1) 1 2 || field p (off + 1) 1 > 1 || field p (off + 5) 3 != 0 ||
    (if e.ring then e.unit != 0xFFFE || e.port != 0 || e.peer else e.place != 0)

/-- A ring placement is long enough for the header and the descriptors it announces (R293). -/
def State.ringFits (s : State) (h : Nat) : Bool :=
  let k := field (s.readPlace h 8 1) 0 1
  inRange k 4 12 && (s.placement h).any fun p => 64 + 48 * 2 ^ k ≤ p.size

/-- The endpoint cannot be named by the channel (R250, R293, R311). -/
def State.endpointBad (s : State) (e : Endpoint) (producer : Bool) (ch : Nat) : Bool :=
  if e.ring then !s.mayName e.place ch || !s.lists e.place 0xFFFE || !s.ringFits e.place
  else if e.peer then s.fabric.link.phase != .up || !(if producer then hasProducer e.unit e.port else consumes e.unit e.port)
  else if producer then !s.produces e.unit e.port else !consumes e.unit e.port

/-- Two endpoints are the same port, of this module or of the peer. -/
def Endpoint.same (a b : Endpoint) : Bool :=
  !a.ring && !b.ring && a.peer == b.peer && a.unit == b.unit && a.port == b.port

/-- Streams a port consumes, whatever the number of its entries in one stream (R278). -/
def State.consumedBy (s : State) (e : Endpoint) : Nat :=
  (s.fabric.streams.entries.filter fun x => x.2.consumers.entries.any fun c => c.2.ep.same e).length

/-- The port is taken: a producer's by another stream, a consumer's by sixteen (R278, R311). -/
def State.endpointTaken (s : State) (e : Endpoint) (producer : Bool) : Bool :=
  if producer then s.fabric.streams.entries.any fun x => x.2.producer.same e else s.consumedBy e ≥ 16

/-- RATE committed on a port (R286). -/
def State.portRate (s : State) (e : Endpoint) : Nat :=
  (s.fabric.streams.entries.map fun x =>
    x.2.rate * (flag (x.2.producer.same e) + (x.2.consumers.entries.filter fun c => c.2.ep.same e).length)).sum

/-- RATE left on an endpoint's port: 36,000 MB/s less what is committed; a ring is no unit port and has no limit. -/
def State.portLeft (s : State) (e : Endpoint) : Nat := if e.ring then 0xFFFFFFFF else 36000 - s.portRate e

/-- Link stream numbers in use in one direction: 2–1,023 in each (R305). -/
def State.linkNos (s : State) (fromPeer : Bool) : List Nat :=
  s.fabric.streams.entries.filterMap fun e => if e.2.producer.peer == fromPeer then e.2.linkNo else none

/-- The stream crosses connector L. -/
def crosses (p : Endpoint) (cs : List Endpoint) : Bool := p.peer || cs.any (·.peer)

/-- RATE left on the external link (R286, R303). -/
def State.linkLeft (s : State) : Nat :=
  let lim := if s.fabric.link.width = 4 then 11000 else if s.fabric.link.width = 2 then 5500
    else if s.fabric.link.width = 1 then 2750 else 0
  lim - (s.fabric.streams.entries.map fun x =>
    if crosses x.2.producer (x.2.consumers.entries.map fun c => c.2.ep) then x.2.rate else 0).sum

/-- The first limit that refuses `n` new consumers of `credits` flits at `rate`: LIMIT and AVAILABLE (R284, R286, R312). -/
def State.creditLimit (s : State) (credits rate : Nat) (producer : Option Endpoint) (cs : List Endpoint) (link : Bool) :
    Option (Nat × Nat) :=
  let short := fun (e : Endpoint) => s.portLeft e < rate * max 1 (cs.filter e.same).length
  if s.poolFree < credits * cs.length then some (1, s.poolFree)
  else if producer.any short then some (2, (producer.map s.portLeft).getD 0)
  else match cs.find? short with
    | some e => some (3, s.portLeft e)
    | none =>
      if link && s.linkLeft < rate then some (4, s.linkLeft)
      else if producer.isSome && s.fabric.streams.entries.length ≥ 2048 then some (5, 0)
      else if link && (s.linkNos (producer.any (·.peer))).length ≥ 1022 then some (5, 0)
      else none

/-- The NO_CREDIT reply (R312). -/
def limitReply (x : Nat × Nat) : List Byte := le 1 x.1 ++ le 3 0 ++ le 4 x.2 ++ le 8 0

/-- The ring of a new endpoint, as its placement shows it; the module writes ROLE (R293). -/
def State.newRing (s : State) (e : Endpoint) : RingState :=
  if e.ring then
    let h := s.readPlace e.place 0 9
    { RingState.none with sizeLog2 := field h 8 1, posted := BitVec.ofNat 32 (field h 0 4),
                          completed := BitVec.ofNat 32 (field h 4 4) }
  else RingState.none

/-- Write ROLE of a ring endpoint. -/
def State.writeRole (s : State) (e : Endpoint) (role : Nat) : State :=
  if e.ring then s.writePlace e.place 9 (le 1 role) else s

/-- A consumer that joins. -/
def newConsumer (e : Endpoint) (ring : RingState) (credits : Nat) : Consumer :=
  { ep := e, absent := none, credits := credits, freed := 0, occupied := 0, delivered := 0, dropped := 0, lost := 0,
    queue := [], got := [], ring := ring, detaching := false }

/-- The lowest free stream number (R277). -/
def State.freeStreamNo (s : State) : Nat :=
  ((List.range 2048).find? fun i => (s.stream (i + 1)).isNone).getD 0 + 1

/-- A number of the external link, 2–1,023, not in use in the stream's direction: the side that assigns it chooses (R305, R306; a free value,
assumption 3, where it names one not in use). -/
def State.freeLinkNo (s : State) (fromPeer : Bool) : Nat :=
  let used := fun k => (s.linkNos fromPeer).contains k
  let c := 2 + (Config.free 10 s.freeCount).toNat % 1022
  if used c then ((List.range 1022).find? fun i => !used (i + 2)).getD 0 + 2 else c

/-! ### OPs -/

/-- The consumers of CREATE. -/
def createConsumers (r : Request) : List Endpoint := (List.range (r.u 14 1)).map fun i => endpointAt r.payload (40 + 16 * i)

/-- CREATE has a field outside R311 or R312's table. -/
def createMalformed (r : Request) : Bool :=
  let n := r.u 14 1
  let backed := bit (r.u 1 1) 0
  !inRange n 1 8 || r.len != 40 + 16 * n || r.u 0 1 > 2 || r.u 1 1 > 1 || !inRange (r.u 2 2) 4 1024 ||
    !inRange (r.u 4 4) 1 67108864 || !r.zero 15 1 ||
    (if backed then !inRange (r.u 12 2) 2 1024 else r.u 12 2 != 0 || r.u 16 8 != 0) ||
    (24 :: (List.range n).map fun i => 40 + 16 * i).any fun o => endpointMalformed r.payload o

/-- The unit a backing placement must list for an endpoint of this module (R287). -/
def Endpoint.backingUnit (e : Endpoint) : Option Nat := if e.peer then none else if e.ring then some 0xFFFE else some e.unit

/-- CREATE is refused with BAD_PARAM by R287, R289, R290, R291 or by an endpoint. -/
def State.createBad (s : State) (r : Request) : Bool :=
  createMalformed r ||
  let p := endpointAt r.payload 24
  let cs := createConsumers r
  let policy := r.u 0 1
  let backed := bit (r.u 1 1) 0
  let credits := r.u 2 2
  let maxMsg := r.u 4 4
  let slots := r.u 12 2
  let back := r.u 16 8
  s.endpointBad p true r.ch || cs.any (fun e => s.endpointBad e false r.ch) ||
    (backed && (!s.mayName back r.ch ||
      (p :: cs).any (fun e => e.backingUnit.any fun u => !s.lists back u) ||
      (s.placement back).any (fun x => x.size / slots < 16 + maxMsg) ||
      (policy == 2 && slots < cs.length + 2))) ||
    (!backed && policy != 0 && flitsOf maxMsg > credits) ||
    (policy == 0 && !p.ring && cannotStop p.unit)

/-- Refusals of STREAM_CREATE. -/
def checksStreamCreate (r : Request) (s : State) : List (Bool × Status) :=
  let p := endpointAt r.payload 24
  let cs := createConsumers r
  [((p :: cs).any (·.ring) && (s.chan r.ch).path != .app, .wrongMode),
      (s.createBad r, .badParam),
      (!s.createBad r && (s.endpointTaken p true || cs.any fun e => s.endpointTaken e false), .busyId)]

/-- Effect of STREAM_CREATE. -/
def doneStreamCreate (r : Request) (s : State) : State :=
  let p := endpointAt r.payload 24
  let cs := createConsumers r
  match s.creditLimit (r.u 2 2) (r.u 8 4) (some p) cs (crosses p cs) with
  | some x => refuseWith opStreamCreate uFabric r .noCredit (limitReply x) s
  | none =>
    let no := s.freeStreamNo
    let h := s.place.nextHandle
    let credits := r.u 2 2
    let consumers := (cs.zipIdx).foldl (fun (b : Bank Consumer) e => b.put e.2 (newConsumer e.1 (s.newRing e.1) credits))
      Bank.empty
    let linkNo := if crosses p cs then some (s.freeLinkNo p.peer) else none
    let x : Stream :=
      { handle := h, ch := r.ch, policy := r.u 0 1, backed := bit (r.u 1 1) 0, credits := credits, maxMsg := r.u 4 4,
        rate := r.u 8 4, slots := r.u 12 2, backing := r.u 16 8, producer := p, absent := none, pRing := s.newRing p,
        consumers := consumers, nextSeq := 0, droppedAll := 0, out := [], held := [], dropsAt := none, linkNo := linkNo,
        draining := none }
    let s := s.spend (flag linkNo.isSome)
    let s := cs.foldl (fun s e => s.writeRole e 2) (s.writeRole p 1)
    let s := (s.modPlace fun q => { q with nextHandle := q.nextHandle + 1 }).modFabric fun f => { f with streams := f.streams.put no x }
    answer opStreamCreate uFabric r (le 8 h ++ le 2 no ++ le 6 0) s

/-- CREATE (R277–R293, R310–R312). -/
def execStreamCreate (r : Request) (s : State) : Out :=
  serve opStreamCreate uFabric r s (checksStreamCreate r) (doneStreamCreate r)

/-- The channel may act on the stream: it created it, or its backing placement is SHARED (R250, R314). -/
def State.mayUse (s : State) (x : Stream) (ch : Nat) : Bool :=
  x.ch == ch || (x.backing != 0 && (s.placement x.backing).any fun p => bit p.flags 1)

/-- The live stream of a handle that the channel may act on. -/
def State.namedStream (s : State) (h ch : Nat) : Option (Nat × Stream) :=
  s.fabric.streams.entries.find? fun e => e.2.handle == h && s.mayUse e.2 ch

/-- The lowest free consumer index. -/
def Stream.freeIndex (x : Stream) : Nat := ((List.range 8).find? fun i => (x.consumers.find i).isNone).getD 0

/-- ATTACH is refused with BAD_PARAM (R287, R290, R311, R313). -/
def State.attachBad (s : State) (x : Stream) (e : Endpoint) (ch : Nat) : Bool :=
  s.endpointBad e false ch || x.consumers.entries.length ≥ 8 ||
    (x.backed && (e.backingUnit.any (fun u => !s.lists x.backing u) ||
      (x.policy == 2 && x.slots < x.consumers.entries.length + 3)))

/-- Refusals of STREAM_ATTACH. -/
def checksStreamAttach (r : Request) (s : State) : List (Bool × Status) :=
  let e := endpointAt r.payload 8
  let bad := fun (s : State) => endpointMalformed r.payload 8 ||
    !((s.namedStream (r.u 0 8) r.ch).any fun x => !s.attachBad x.2 e r.ch)
  [(e.ring && (s.chan r.ch).path != .app, .wrongMode), (bad s, .badParam),
      (!bad s && s.endpointTaken e false, .busyId)]

/-- Effect of STREAM_ATTACH. -/
def doneStreamAttach (r : Request) (s : State) : State :=
  let e := endpointAt r.payload 8
  match s.namedStream (r.u 0 8) r.ch with
  | none => s
  | some (no, x) =>
    let already := crosses x.producer (x.consumers.entries.map fun c => c.2.ep)
    match s.creditLimit x.credits x.rate none [e] (e.peer && !already) with
    | some l => refuseWith opStreamAttach uFabric r .noCredit (limitReply l) s
    | none =>
      let i := x.freeIndex
      let linkNo := if e.peer && !already then some (s.freeLinkNo false) else x.linkNo
      let x := x.joins i false
      let y := { x with consumers := x.consumers.put i (newConsumer e (s.newRing e) x.credits), linkNo := linkNo }
      let s := s.spend (flag (e.peer && !already))
      answer opStreamAttach uFabric r (le 1 i ++ le 3 0) ((s.setStream no y).writeRole e 2)

/-- ATTACH (R284, R286, R299, R313). -/
def execStreamAttach (r : Request) (s : State) : Out :=
  serve opStreamAttach uFabric r s (checksStreamAttach r) (doneStreamAttach r)

/-- A consumer that leaves keeps only what it has begun to receive (R301). -/
def Consumer.leave (c : Consumer) : Consumer :=
  { c with detaching := true, queue := c.queue.filter fun q => 0 < q.sent }

/-- Refusals of STREAM_DETACH. -/
def checksStreamDetach (r : Request) (s : State) : List (Bool × Status) :=
  let i := r.u 8 1
  [(!r.zero 9 7 || !((s.namedStream (r.u 0 8) r.ch).any fun x =>
      (x.2.consumers.find i).any (fun c => !c.detaching) &&
        (x.2.consumers.entries.filter fun e => !e.2.detaching).length > 1), .badParam)]

/-- Effect of STREAM_DETACH. -/
def doneStreamDetach (r : Request) (s : State) : State :=
  let i := r.u 8 1
  match s.namedStream (r.u 0 8) r.ch with
  | none => s
  | some (no, x) =>
    let s := s.setStream no { x with consumers := ⟨x.consumers.entries.map fun e => (e.1, if e.1 = i then e.2.leave else e.2)⟩ }
    answer opStreamDetach uFabric r [] (((s.finishDetach no i).pump no).finishDrain no)

/-- DETACH (R301, R313). -/
def execStreamDetach (r : Request) (s : State) : Out :=
  serve opStreamDetach uFabric r s (checksStreamDetach r) (doneStreamDetach r)

/-- Refusals of STREAM_DESTROY. -/
def checksStreamDestroy (r : Request) (s : State) : List (Bool × Status) :=
  let bad := fun (s : State) => (s.namedStream (r.u 0 8) r.ch).isNone || r.u 8 1 > 1 || !r.zero 9 3
  [(bad s, .badParam),
      (!bad s && (s.namedStream (r.u 0 8) r.ch).any fun x => x.2.draining.isSome, .busyId)]

/-- Effect of STREAM_DESTROY. -/
def doneStreamDestroy (r : Request) (s : State) : State :=
  match s.namedStream (r.u 0 8) r.ch with
  | none => s
  | some (no, _) =>
    let q := s.requester opStreamDestroy r
    let s := s.accepted opStreamDestroy uFabric r []
    if bit (r.u 8 1) 0 then
      (s.modStream no fun x => { x with draining := some (q, s.time + 100 * ms) }).finishDrain no
    else s.closeStream no q

/-- DESTROY (R301, R314). -/
def execStreamDestroy (r : Request) (s : State) : Out :=
  serve opStreamDestroy uFabric r s (checksStreamDestroy r) (doneStreamDestroy r)

/-- QUERY reply (R314). -/
def Stream.reply (x : Stream) (no : Nat) : List Byte :=
  let gone := (x.consumers.entries.map fun e => if e.2.absent.isSome then 2 ^ (e.1 + 1) else 0).sum
  le 1 x.policy ++ le 1 (flag x.backed) ++ le 1 x.consumers.entries.length ++ le 1 0 ++ le 2 (flag x.absent.isSome + gone) ++
    le 2 no ++ le 4 x.nextSeq.toNat ++ le 4 x.droppedAll.toNat ++
    (x.consumers.entries.map fun e => le 4 e.2.delivered.toNat ++ le 4 e.2.dropped.toNat).flatten

/-- Refusals of STREAM_QUERY. -/
def checksStreamQuery (r : Request) (s : State) : List (Bool × Status) :=
  [((s.namedStream (r.u 0 8) r.ch).isNone, .badParam)]

/-- Effect of STREAM_QUERY. -/
def doneStreamQuery (r : Request) (s : State) : State :=
  match s.namedStream (r.u 0 8) r.ch with
      | some (no, x) => answer opStreamQuery uFabric r (x.reply no) s
      | none => s

/-- QUERY (R314). -/
def execStreamQuery (r : Request) (s : State) : Out :=
  serve opStreamQuery uFabric r s (checksStreamQuery r) (doneStreamQuery r)

/-- Refusals of LINK_CONFIG. -/
def checksLinkConfig (r : Request) (s : State) : List (Bool × Status) :=
  [(s.hub.pcieStrap, .wrongMode),
      (r.u 0 1 > 1 || !([1, 2, 4].contains (r.u 1 1)) || r.u 2 1 > 1 || !r.zero 3 1, .badParam)]

/-- Effect of LINK_CONFIG. -/
def doneLinkConfig (r : Request) (s : State) : State :=
  let s := s.modLink fun l =>
    { l with enable := r.u 0 1 == 1, maxWidth := r.u 1 1, timeFromPeer := bit (r.u 2 1) 0 }
  answer opLinkConfig uLink r [] (s.enableLink (r.u 0 1 == 1))

/-- LINK_CONFIG (R315). -/
def execLinkConfig (r : Request) (s : State) : Out :=
  serve opLinkConfig uLink r s (checksLinkConfig r) (doneLinkConfig r)

/-- LINK_STATUS reply (R315). -/
def Link.reply (l : Link) : List Byte :=
  le 1 l.phase.code ++ le 1 l.width ++ le 1 l.peerRole ++ le 1 l.excluded ++ le 4 0 ++ le 8 l.peerId ++ le 8 l.upTime ++
    le 4 l.checkErr.toNat ++ le 4 l.replays.toNat ++ le 4 l.retrains.toNat ++ le 4 l.downs.toNat ++
    ((List.range 4).map fun i => le 4 (l.syncErr.getD i 0).toNat).flatten ++ le 4 l.creditOvf.toNat ++ le 4 0

/-- Effect of LINK_STATUS. -/
def doneLinkStatus (r : Request) (s : State) : State :=
  answer opLinkStatus uLink r s.fabric.link.reply s

/-- LINK_STATUS (R315). -/
def execLinkStatus (r : Request) (s : State) : Out :=
  serve opLinkStatus uLink r s (fun _ => []) (doneLinkStatus r)

/-- Refusals of LINK_RETRAIN. -/
def checksLinkRetrain (r : Request) (_s : State) : List (Bool × Status) :=
  [(r.u 0 1 > 1 || !r.zero 1 3, .badParam)]

/-- Effect of LINK_RETRAIN. -/
def doneLinkRetrain (r : Request) (s : State) : State :=
  let q := s.requester opLinkRetrain r
  let s := s.accepted opLinkRetrain uLink r []
  let s := if bit (r.u 0 1) 0 then s.modLink fun l => { l with excluded := 0, laneRetrains := Bank.empty } else s
  let wait := fun (s : State) => s.modLink fun l => { l with requests := l.requests ++ [q] }
  match s.fabric.link.phase with
  | .disabled => (s.complete uLink 0x0505 (s.fabric.link.fields 5) q false true)
  | .up => (wait (s.retrain 5))
  | .absent => (wait (s.train 5))
  | .down => (wait (s.train 5))
  | .training => (wait s)
  | .retraining => (wait s)

/-- LINK_RETRAIN (R306–R308, R315): it completes with LINK_STATE, at once where the link is disabled. -/
def execLinkRetrain (r : Request) (s : State) : Out :=
  serve opLinkRetrain uLink r s (checksLinkRetrain r) (doneLinkRetrain r)

/-! ### Messages and flits -/

/-- When MESSAGE_PRESENT has its effect. -/
def whenMessagePresent (_t unit port : Nat) (_m : Msg) (s : State) : Bool :=
  s.produces unit port

/-- Effect of MESSAGE_PRESENT. -/
def doneMessagePresent (_t unit port : Nat) (m : Msg) (s : State) : State :=
  s.present unit port m

/-- MESSAGE_PRESENT: a unit presents a message on a producing port (R280). -/
def execMessagePresent (t unit port : Nat) (m : Msg) (s : State) : Out :=
  event t s (whenMessagePresent t unit port m) (doneMessagePresent t unit port m)

/-- Send a CREDIT flit for credits that a consumer of the peer's stream has returned (R283, R304). -/
def State.sendCredits (s : State) (no idx n : Nat) : State :=
  match s.stream no with
  | some x =>
    if x.producer.peer && n != 0 then
      s.modLink fun l => l.send (mkFlit 0 2 4 0 0 0 (le 2 (x.linkNo.getD 0 + idx * 2048) ++ le 2 n))
    else s
  | none => s

/-- Change one consumer. Credits beyond CREDITS are clamped and counted (R285); those it returns go back over the link where the
producer is the peer's. -/
def State.modConsumer (s : State) (no idx : Nat) (f : Nat → Consumer → Consumer) : State :=
  match (s.stream no).bind fun x => (x.consumers.find idx).map fun c => (x, c) with
  | some (x, c) =>
    let c' := f x.credits c
    let s := if x.credits < c'.credits then s.modLink fun l => { l with creditOvf := l.creditOvf + 1 } else s
    let c' := { c' with credits := min x.credits c'.credits }
    (s.setStream no { x with consumers := x.consumers.put idx c' }).sendCredits no idx (c'.credits - c.credits)
  | none => s

/-- A local consumer of the stream, present, with a flit on its way. -/
def State.flitDue (s : State) (no idx : Nat) : Bool :=
  ((s.stream no).bind fun x => x.consumers.find idx).any fun c => c.due && c.absent.isNone && !c.ep.peer

/-- When FLIT_DELIVER has its effect. -/
def whenFlitDeliver (_t no idx : Nat) (s : State) : Bool :=
  s.flitDue no idx

/-- Effect of FLIT_DELIVER. -/
def doneFlitDeliver (_t no idx : Nat) (s : State) : State :=
  let s := s.modConsumer no idx fun credits c => c.arrive credits
  ((s.finishDetach no idx).pump no).finishDrain no

/-- FLIT_DELIVER: one flit arrives at a consumer of this module, and the last one delivers its message (R280, R283). -/
def execFlitDeliver (t no idx : Nat) (s : State) : Out :=
  event t s (whenFlitDeliver t no idx) (doneFlitDeliver t no idx)

/-- When CREDIT_RETURN has its effect. -/
def whenCreditReturn (_t no idx : Nat) (s : State) : Bool :=
  ((s.stream no).bind fun x => x.consumers.find idx).any fun c => c.freed != 0 && c.absent.isNone

/-- Effect of CREDIT_RETURN. -/
def doneCreditReturn (_t no idx : Nat) (s : State) : State :=
  (s.modConsumer no idx fun _ c => c.giveBack).pump no

/-- CREDIT_RETURN: the consumer returns the credits of the buffers it has freed (R283, R285). -/
def execCreditReturn (t no idx : Nat) (s : State) : Out :=
  event t s (whenCreditReturn t no idx) (doneCreditReturn t no idx)

/-- When STREAM_DRAIN_TIMEOUT has its effect. -/
def whenStreamDrainTimeout (_t no : Nat) (s : State) : Bool :=
  (s.stream no).any fun x => x.draining.any fun d => d.2 ≤ s.time

/-- Effect of STREAM_DRAIN_TIMEOUT. -/
def doneStreamDrainTimeout (_t no : Nat) (s : State) : State :=
  match (s.stream no).bind (·.draining) with
  | some (q, _) => s.closeStream no q
  | none => s

/-- STREAM_DRAIN_TIMEOUT: 100 ms after a draining DESTROY what is held is discarded (R301). -/
def execStreamDrainTimeout (t no : Nat) (s : State) : Out :=
  event t s (whenStreamDrainTimeout t no) (doneStreamDrainTimeout t no)

/-! ### Rings -/

/-- The host's descriptors, written from the last POSTED on (R293, R294). -/
def State.hostPosts (s : State) (e : Endpoint) (r : RingState) (posted : U32) (descs : List (List Byte)) : State :=
  let s := (descs.zipIdx).foldl (fun s d =>
    s.writePlace e.place (r.offset (r.posted + BitVec.ofNat 32 d.2)) (d.1.take 48)) s
  s.writePlace e.place 0 (le 4 posted.toNat)

/-- When RING_POSTED has its effect. -/
def whenRingPosted (_t no ep : Nat) (_posted : U32) (_descs : List (List Byte)) (s : State) : Bool :=
  (s.ringOf no ep).any fun r => !r.2.error

/-- Effect of RING_POSTED. -/
def doneRingPosted (_t no ep : Nat) (posted : U32) (descs : List (List Byte)) (s : State) : State :=
  match s.stream no, s.ringOf no ep with
  | some x, some (e, r) =>
    let s := s.hostPosts e r posted descs
    if (posted - r.completed).toNat > 2 ^ r.sizeLog2 then
      let k := s.freeCount
      ((s.spend 1).modRing no ep fun r => { r with error := true }).tellStream x.handle ep 2
        (Config.free 8 k).toNat 0
    else
      let s := s.modRing no ep fun r => { r with posted := posted }
      if ep = 0xFF then s
      else (s.modConsumer no ep fun credits c =>
        if c.ring.ready then { c with freed := c.freed + c.occupied, occupied := 0 }.autoReturn credits else c).pump no
  | _, _ => s

/-- RING_POSTED: the host has written descriptors and POSTED; MEM takes notice (R294, R296). -/
def execRingPosted (t no ep : Nat) (posted : U32) (descs : List (List Byte)) (s : State) : Out :=
  event t s (whenRingPosted t no ep posted descs) (doneRingPosted t no ep posted descs)

/-- A producer's descriptor: its message is presented once the stream can take it (R295, R297). -/
def State.takeProducer (s : State) (no : Nat) (x : Stream) (e : Endpoint) (r : RingState) : State :=
  let d := s.readPlace e.place (r.offset r.completed) 48
  match s.descriptorBad d (some x.maxMsg) with
  | some st => s.completeDescriptor no 0xFF st false []
  | none =>
    if !x.open || (x.policy = 0 && !x.out.isEmpty) then s.notifyRing no 0xFF false
    else
      let time := if field d 24 8 = 0 then s.time else field d 24 8
      let m : Msg := { time := time, marks := field d 42 2, body := s.readPlace (field d 0 8) (field d 8 8) (field d 16 4) }
      (s.presentOn no m).completeDescriptor no 0xFF .ok false []

/-- A consumer's descriptor: it takes the next whole message (R295–R297). -/
def State.takeConsumer (s : State) (no ep : Nat) (c : Consumer) : State :=
  let r := c.ring
  let d := s.readPlace c.ep.place (r.offset r.completed) 48
  match s.descriptorBad d none with
  | some st => s.completeDescriptor no ep st false []
  | none =>
    match c.got with
    | [] => s.notifyRing no ep false
    | (seq, lost, m) :: rest =>
      let room := field d 16 4
      let s := s.writePlace (field d 0 8) (field d 8 8) (m.body.take room)
      let s := s.completeDescriptor no ep .ok (decide (room < m.body.length)) [
        (16, le 4 (min room m.body.length)), (24, le 8 m.time ++ le 4 seq ++ le 4 lost ++ le 4 (m.marks * 65536))]
      let s := s.modConsumer no ep fun credits c =>
        let c := { c with got := rest, delivered := c.delivered + 1 }
        if c.ring.ready then { c with freed := c.freed + c.occupied, occupied := 0 }.autoReturn credits else c
      (s.pump no).finishDrain no

/-- When DESCRIPTOR_COMPLETE has its effect. -/
def whenDescriptorComplete (_t no ep : Nat) (s : State) : Bool :=
  (s.ringOf no ep).any fun r => r.2.ready || r.2.owed

/-- Effect of DESCRIPTOR_COMPLETE. -/
def doneDescriptorComplete (_t no ep : Nat) (s : State) : State :=
  match s.stream no, s.ringOf no ep with
  | some x, some (e, r) =>
    if !r.ready then s.notifyRing no ep false
    else if ep = 0xFF then s.takeProducer no x e r
    else match x.consumers.find ep with
      | some c => s.takeConsumer no ep c
      | none => s
  | _, _ => s

/-- DESCRIPTOR_COMPLETE: the module takes the next descriptor of a ring and completes it; a STREAM_RING held back by the
50 µs of R297 goes out here too. -/
def execDescriptorComplete (t no ep : Nat) (s : State) : Out :=
  event t s (whenDescriptorComplete t no ep) (doneDescriptorComplete t no ep)

/-! ### The external link -/

/-- When LINK_PRESENCE has its effect. -/
def whenLinkPresence (_t : Nat) (low : Bool) (s : State) : Bool :=
  s.fabric.link.present != low

/-- Effect of LINK_PRESENCE. -/
def doneLinkPresence (_t : Nat) (low : Bool) (s : State) : State :=
  let s := s.modLink fun l => { l with present := low }
  match low, s.fabric.link.phase with
  | true, .absent => s.train 1
  | true, .down => s.train 1
  | false, .up => s.linkDown .absent 1
  | false, .retraining => s.linkDown .absent 1
  | false, .training => s.linkDown .absent 1
  | false, .down => s.modLink fun l => { l with phase := .absent }
  | _, _ => s

/-- LINK_PRESENCE: LINK_PRSNT_N has been low for 10 ms, or has gone high (R306, R309). -/
def execLinkPresence (t : Nat) (low : Bool) (s : State) : Out :=
  event t s (whenLinkPresence t low) (doneLinkPresence t low)

/-- The lanes a width may use: ×4 all, ×2 lanes 0–1 or 2–3, ×1 any (R306, R308). -/
def widthOk (width excluded : Nat) : Bool :=
  let up := fun i => !bit excluded i
  if width = 4 then up 0 && up 1 && up 2 && up 3
  else if width = 2 then (up 0 && up 1) || (up 2 && up 3)
  else width == 1 && (up 0 || up 1 || up 2 || up 3)

/-- The module's PARAM flit (R304). -/
def State.sendParam (s : State) : State :=
  let used := (s.linkNos true).length
  s.modLink fun l => l.send (mkFlit 0 6 14 0 0 0
    (le 8 s.update.moduleId ++ le 1 1 ++ le 1 l.width ++ le 2 (1022 - used) ++ le 2 (min 65535 s.poolFree)))

/-- When LINK_UP has its effect. -/
def whenLinkUp (_t width : Nat) (_peerId : U64) (_peerRole _streams _buffers : Nat) (s : State) : Bool :=
  let okay := fun (s : State) =>
    let l := s.fabric.link
    (l.phase == .training || l.phase == .retraining) && width ≤ l.maxWidth && widthOk width l.excluded
  okay s

/-- Effect of LINK_UP. -/
def doneLinkUp (_t width : Nat) (peerId : U64) (peerRole streams buffers : Nat) (s : State) : State :=
  let l := s.fabric.link
  let again := l.phase == .retraining
  let s := s.modLink fun l =>
    { l with width := width, peerId := peerId.toNat, peerRole := peerRole, peerOffer := (streams, buffers), upTime := s.time,
             trainingSince := none, requests := [], wire := if again then l.wire ++ l.replay else l.wire, resent := 0 }
  let s := s.linkPhase .up l.cause
  let s := l.requests.foldl (fun s q => s.complete uLink 0x0505 (s.fabric.link.fields l.cause) q false false) s
  let s := s.modLink Link.flush
  let s := if again then s else s.sendParam.endpointsReturn (·.peer)
  s.fabric.streams.entries.foldl (fun s e => if e.2.linkNo.isSome then s.pump e.1 else s) s

/-- LINK_UP: training or retraining completes; after a retraining the unacknowledged flits are resent (R306–R309). -/
def execLinkUp (t width : Nat) (peerId : U64) (peerRole streams buffers : Nat) (s : State) : Out :=
  event t s (whenLinkUp t width peerId peerRole streams buffers) (doneLinkUp t width peerId peerRole streams buffers)

/-- When LINK_TRAINING_TIMEOUT has its effect. -/
def whenLinkTrainingTimeout (_t : Nat) (s : State) : Bool :=
  s.fabric.link.trainingSince.any fun x => x + 100 * ms ≤ s.time

/-- Effect of LINK_TRAINING_TIMEOUT. -/
def doneLinkTrainingTimeout (_t : Nat) (s : State) : State :=
  s.linkDown .down 7

/-- LINK_TRAINING_TIMEOUT: not trained 100 ms after the start (R309). -/
def execLinkTrainingTimeout (t : Nat) (s : State) : Out :=
  event t s (whenLinkTrainingTimeout t) (doneLinkTrainingTimeout t)

/-- When LINK_RETRY_TIMER has its effect. -/
def whenLinkRetryTimer (_t : Nat) (s : State) : Bool :=
  s.fabric.link.phase == .down && s.fabric.link.present && s.fabric.link.downAt.all fun d => d + sec ≤ s.time

/-- Effect of LINK_RETRY_TIMER. -/
def doneLinkRetryTimer (_t : Nat) (s : State) : State :=
  s.train s.fabric.link.cause

/-- LINK_RETRY_TIMER: training is retried every 1 s while the peer is present (R309). -/
def execLinkRetryTimer (t : Nat) (s : State) : Out :=
  event t s (whenLinkRetryTimer t) (doneLinkRetryTimer t)

/-- A lane has caused a retrain: its third within 10 s leaves it out (R308). -/
def Link.blame (l : Link) (lane now : Nat) : Link :=
  let times := ((l.laneRetrains.rd lane []).filter fun x => now < x + 10 * sec) ++ [now]
  { l with laneRetrains := l.laneRetrains.put lane times,
           excluded := if times.length ≥ 3 && !bit l.excluded lane then l.excluded + 2 ^ lane else l.excluded }

/-- A trained link is to retrain: on lock loss or a lost marker as its lanes report them, and on what the link counts itself, more than
64 CHECK failures within 1 ms or a flit resent four times (R307). -/
def Link.retrainDue (l : Link) (cause : Nat) : Bool :=
  cause == 2 || cause == 8 || (cause == 3 && decide (64 < l.checkTimes.length)) || (cause == 4 && decide (4 ≤ l.resent))

/-- When LINK_ERROR_RETRAIN has its effect. -/
def whenLinkErrorRetrain (_t cause : Nat) (lane : Option Nat) (s : State) : Bool :=
  s.fabric.link.phase == .up && s.fabric.link.retrainDue cause && lane.all (· < 4)

/-- Effect of LINK_ERROR_RETRAIN. -/
def doneLinkErrorRetrain (_t cause : Nat) (lane : Option Nat) (s : State) : State :=
  (match lane with
    | some i => s.modLink fun l => l.blame i s.time
    | none => s).retrain cause

/-- LINK_ERROR_RETRAIN: a trained link retrains on an error of R307; `lane` is the lane that caused it. A credit overflow, the 65th CHECK
failure and the fourth resending retrain with the flit that brings them. -/
def execLinkErrorRetrain (t cause : Nat) (lane : Option Nat) (s : State) : Out :=
  event t s (whenLinkErrorRetrain t cause lane) (doneLinkErrorRetrain t cause lane)

/-- A message has arrived whole from the peer: it is presented under the sequence the peer gave it (R280). -/
def State.fromPeer (s : State) (k : Nat) (seq : U32) (bytes : List Byte) : State :=
  match s.peerStream k with
  | some (no, x) =>
    if x.open then
      let m : Msg := { time := field bytes 0 8, marks := field bytes 14 2, body := (bytes.drop 16).take (field bytes 8 4) }
      (s.modStream no fun x => { x with nextSeq := seq }).presentOn no m
    else s
  | none => s

/-- A DATA flit accepted in sequence; link stream 1 is the control stream (R281, R282, R305). -/
def State.takeData (s : State) (f : LinkFlit) : State :=
  let part := f.payload.take f.valid
  let sofar := if bit f.flags 0 then part else s.fabric.link.partials.rd f.stream [] ++ part
  if bit f.flags 2 then
    let s := s.modLink fun l => { l with partials := l.partials.erase f.stream }
    match s.peerStream f.stream with
    | some (no, _) => s.dropAll no
    | none => s
  else if bit f.flags 1 then
    let s := s.modLink fun l => { l with partials := l.partials.erase f.stream }
    if f.stream = 1 then s.takeControl sofar else s.fromPeer f.stream f.msgSeq sofar
  else s.modLink fun l => { l with partials := l.partials.put f.stream sofar }

/-- One entry of a CREDIT flit: credits come back for a consumer on the peer's side; more than CREDITS is clamped, counted,
and retrains the link (R283, R285, R304). -/
def State.takeCredit (s : State) (e : Nat × Nat × Nat) : State :=
  match s.fabric.streams.entries.find? fun x => x.2.linkNo == some e.1 && !x.2.producer.peer with
  | some (no, x) =>
    match x.consumers.find e.2.1 with
    | some c =>
      let more := c.credits + e.2.2
      let s := (s.setStream no { x with consumers := x.consumers.put e.2.1 { c with credits := min x.credits more } }).pump no
      if more > x.credits then (s.modLink fun l => { l with creditOvf := l.creditOvf + 1 }).retrain 6 else s
    | none => s
  | none => s

/-- The entries of a CREDIT flit, up to the first with count 0: stream number, consumer index, count (R304). -/
def creditEntries (p : List Byte) : List (Nat × Nat × Nat) :=
  ((List.range 60).map fun i =>
    let k := field p (4 * i) 2
    (k % 2048, k / 2048 % 8, field p (4 * i + 2) 2)).takeWhile fun e => e.2.2 != 0

/-- A sequenced flit accepted in order. -/
def State.takeSequenced (s : State) (f : LinkFlit) : State :=
  let s := s.modLink fun l => { l with rxSeq := f.linkSeq, unacked := l.unacked + 1 }
  let s :=
    if f.kind = 0 then s.takeData f
    else if f.kind = 2 then (creditEntries f.payload).foldl State.takeCredit s
    else s.modLink fun l =>
      { l with peerId := field f.payload 0 8, peerRole := field f.payload 8 1,
               peerOffer := (field f.payload 10 2, field f.payload 12 2) }
  if s.fabric.link.unacked ≥ 32 then s.sendAck else s

/-- A flit has failed CHECK: it is discarded with a NAK, and more than 64 within 1 ms retrain the link (R304, R307). -/
def State.flitBad (s : State) : State :=
  let s := (s.modLink fun l =>
    { l with checkErr := l.checkErr + 1,
             checkTimes := (l.checkTimes.filter fun x => s.time < x + ms) ++ [s.time] }).sendNak
  if 64 < s.fabric.link.checkTimes.length then (s.modLink fun l => { l with checkTimes := [] }).retrain 3 else s

/-- When LINK_FLIT_RX has its effect. -/
def whenLinkFlitRx (_t : Nat) (_f : LinkFlit) (s : State) : Bool :=
  s.fabric.link.phase == .up

/-- Effect of LINK_FLIT_RX. -/
def doneLinkFlitRx (_t : Nat) (f : LinkFlit) (s : State) : State :=
  if flitCheck f != f.check then s.flitBad
  else if f.kind = 3 then s.acknowledge (field f.payload 0 1)
  else if f.kind = 4 then s.goBack (field f.payload 0 1)
  else if f.kind = 0 || f.kind = 2 || f.kind = 6 then
    if f.linkSeq = (s.fabric.link.rxSeq + 1) % 256 then s.takeSequenced f else s.sendNak
  else s

/-- LINK_FLIT_RX: a flit is accepted in sequence, or discarded with a NAK (R304). -/
def execLinkFlitRx (t : Nat) (f : LinkFlit) (s : State) : Out :=
  event t s (whenLinkFlitRx t f) (doneLinkFlitRx t f)

/-- When LINK_ACK_TIMER has its effect. -/
def whenLinkAckTimer (_t : Nat) (s : State) : Bool := s.fabric.link.phase == .up && s.fabric.link.unacked != 0

/-- Effect of LINK_ACK_TIMER. -/
def doneLinkAckTimer (_t : Nat) (s : State) : State := s.sendAck

/-- LINK_ACK_TIMER: an ACK at least every 500 ns (R304). -/
def execLinkAckTimer (t : Nat) (s : State) : Out :=
  event t s (whenLinkAckTimer t) (doneLinkAckTimer t)

/-- When LINK_NAK_RX has its effect. -/
def whenLinkNakRx (_t _seq : Nat) (s : State) : Bool :=
  s.fabric.link.phase == .up

/-- Effect of LINK_NAK_RX. -/
def doneLinkNakRx (_t seq : Nat) (s : State) : State :=
  s.goBack seq

/-- LINK_NAK_RX: everything after the named LINK_SEQ is resent (R304). -/
def execLinkNakRx (t seq : Nat) (s : State) : Out :=
  event t s (whenLinkNakRx t seq) (doneLinkNakRx t seq)

end Sys2Proof.Machine
end

