-- ==== Sys2Proof/Machine/ExecTime.lean ====
section
/-! DEFINITION. The Time family and the timekeeper's events but the pulse itself (08, 15). -/

namespace Sys2Proof.Machine

/-- TIME_CONFIG lies outside R541. -/
def timeConfigBad (r : Request) : Bool :=
  !(r.u 4 4 == 0 || inRange (r.u 4 4) 10 86400) || r.u 8 1 > 1 || !r.zero 9 3 || r.u 12 1 > 3 || r.u 13 1 > 3 ||
    !inRange (r.u 14 2) 1 500 || !inRange (r.u 16 2) 1 500 || (r.i 18 2).natAbs > 1000 || (r.i 20 2).natAbs > 1000 || !r.zero 22 2

/-- Refusals of TIME_CONFIG. -/
def checksTimeConfig (r : Request) (_s : State) : List (Bool × Status) :=
  [(timeConfigBad r, .badParam)]

/-- Effect of TIME_CONFIG. -/
def doneTimeConfig (r : Request) (s : State) : State :=
  answer opTimeConfig uTime r [] (s.modTimekeeper fun k => { k with nextCfg := some r.payload })

/-- TIME_CONFIG: it takes effect at the next pulse (R541). -/
def execTimeConfig (r : Request) (s : State) : Out :=
  serve opTimeConfig uTime r s (checksTimeConfig r) (doneTimeConfig r)

/-- The timing message of the next pulse; before it has been issued its QERR_PS is not known: a free value (R541). -/
def State.nextMessage (s : State) : List Byte :=
  let k := s.nav.time
  if s.time < field k.message 0 8 then k.message
  else s.timingBody (nextSecond s.time) (Config.free 12 s.freeCount).toInt 0 false

/-- Effect of TIME_STATUS. -/
def doneTimeStatus (r : Request) (s : State) : State :=
  answer opTimeStatus uTime r (s.nextMessage ++ le 8 s.nav.time.lastStep) (s.spend 1)

/-- TIME_STATUS (R541). -/
def execTimeStatus (r : Request) (s : State) : Out :=
  serve opTimeStatus uTime r s (fun _ => []) (doneTimeStatus r)

/-- When HOLDOVER_START has its effect. -/
def whenHoldoverStart (t : Nat) (_temp : Int) (s : State) : Bool :=
  s.unitUp uTime && (s.nav.time.source == .gnss || s.nav.time.source == .peer) &&
      s.nav.time.lastTime.all fun u => decide (u + sec ≤ t)

/-- Effect of HOLDOVER_START. -/
def doneHoldoverStart (t : Nat) (temp : Int) (s : State) : State :=
  (s.setTime fun k => { k with source := .holdover, holdSince := some t, holdTemp := temp, temp := temp }).count uTime 18

/-- HOLDOVER_START: no GNSS or peer time for 1 s (R529). -/
def execHoldoverStart (t : Nat) (temp : Int) (s : State) : Out :=
  event t s (whenHoldoverStart t temp) (doneHoldoverStart t temp)

/-- When HOLDOVER_LIMIT has its effect. -/
def whenHoldoverLimit (t : Nat) (_temp : Int) (s : State) : Bool :=
  s.unitUp uTime && s.nav.time.source == .holdover && s.nav.time.valid && s.nav.time.holdoverS != 0 &&
      s.nav.time.holdSince.any fun u => decide (u + s.nav.time.holdoverS * sec ≤ t)

/-- Effect of HOLDOVER_LIMIT. -/
def doneHoldoverLimit (_t : Nat) (temp : Int) (s : State) : State :=
  (s.modTimekeeper fun k => { k with temp := temp }).setTime fun k => { k with valid := false }

/-- HOLDOVER_LIMIT: HOLDOVER_S after holdover began (R530). -/
def execHoldoverLimit (t : Nat) (temp : Int) (s : State) : Out :=
  event t s (whenHoldoverLimit t temp) (doneHoldoverLimit t temp)

/-- Take time from a source whose time differs by `offset` from module time: at most 1 µs is slewed out and TIME_VALID set,
more is left to a step (R531). -/
def State.takeTime (s : State) (src : TimeSource) (offset : Int) : State :=
  s.setTime fun k =>
    let k := { k with source := src, lastTime := some s.time, holdSince := none }
    if offset.natAbs ≤ 1000 then { k.validate with slew := offset, step := none }
    else { k with step := some (-offset, none), slew := 0 }

/-- When GNSS_TIME_RETURN has its effect. -/
def whenGnssTimeReturn (_t : Nat) (_offset : Int) (s : State) : Bool :=
  s.unitUp uTime && s.nav.time.source != .gnss

/-- Effect of GNSS_TIME_RETURN. -/
def doneGnssTimeReturn (_t : Nat) (offset : Int) (s : State) : State :=
  (s.takeTime .gnss offset).modBase fun b => { b with kept := { b.kept with rtcGood := true } }

/-- GNSS_TIME_RETURN: `offset` is module time less GPS time (R531). -/
def execGnssTimeReturn (t : Nat) (offset : Int) (s : State) : Out :=
  event t s (whenGnssTimeReturn t offset) (doneGnssTimeReturn t offset)

/-- When LINK_TIME_FLIT has its effect. -/
def whenLinkTimeFlit (_t _peerTime : Nat) (s : State) : Bool :=
  s.unitUp uTime && s.fabric.link.timeFromPeer && s.fabric.link.phase == .up && s.nav.time.source != .gnss

/-- Effect of LINK_TIME_FLIT. -/
def doneLinkTimeFlit (t peerTime : Nat) (s : State) : State :=
  let offset := (t : Int) - peerTime
  if s.nav.time.source == .peer && s.nav.time.step.isNone && offset.natAbs ≤ 1000 then
    s.modTimekeeper fun k => { k with lastTime := some t, slew := offset }
  else if s.nav.time.source == .peer && s.nav.time.step.isSome then s.modTimekeeper fun k => { k with lastTime := some t }
  else s.takeTime .peer offset

/-- LINK_TIME_FLIT: the peer's time, taken while TIME_FROM_PEER is set and NAV has no time solution (R305, R528; a step from
it is assumption 32). -/
def execLinkTimeFlit (t peerTime : Nat) (s : State) : Out :=
  event t s (whenLinkTimeFlit t peerTime) (doneLinkTimeFlit t peerTime)

/-- The pulse a timing message stands for: the next whole second, on the scale a scheduled step leads to (R531, R533). -/
def State.nextPulse (s : State) : Nat :=
  match s.nav.time.step with
  | some (d, _) => nextSecond ((s.time : Int) + d).toNat
  | none => nextSecond s.time

/-- When TIMING_MESSAGE has its effect. -/
def whenTimingMessage (t : Nat) (qerr _temp : Int) (s : State) : Bool :=
  let p := s.nextPulse
  let now := match s.nav.time.step with
    | some (d, _) => ((t : Int) + d).toNat
    | none => t
  s.unitUp uTime && qerr.natAbs ≤ 2000 && field s.nav.time.message 0 8 != p && now + 100 * ms ≤ p && p ≤ now + 900 * ms

/-- Effect of TIMING_MESSAGE. -/
def doneTimingMessage (t : Nat) (qerr temp : Int) (s : State) : State :=
  let p := s.nextPulse
  let d := (s.nav.time.step.map (·.1)).getD 0
  let s := s.modTimekeeper fun k => { k with temp := temp, step := k.step.map fun x => (x.1, some p) }
  let m := s.timingBody p qerr d s.nav.time.step.isSome
  let gnss := s.nav.time.source == .gnss
  let off := (Config.free 16 s.freeCount).toInt
  let s := if gnss then
      (s.spend 1).modBase fun b =>
        { b with kept := { b.kept with tcxo := b.kept.tcxo.put (temp + 100).toNat off } }
    else s
  (s.modTimekeeper fun k => { k with message := m }).present uTime 1 { time := t, marks := 0, body := m }

/-- TIMING_MESSAGE: one per pulse, from 100 ms after the last pulse to 100 ms before the next (R533, R534). While GNSS
disciplines the TCXO, its offset at the present temperature is learned (R498): a free value. -/
def execTimingMessage (t : Nat) (qerr temp : Int) (s : State) : Out :=
  event t s (whenTimingMessage t qerr temp) (doneTimingMessage t qerr temp)

end Sys2Proof.Machine
end

