-- ==== Sys2Proof/Machine/Dispatch.lean ====
section
/-! DEFINITION. The one match over the commands: an arm per constructor. -/

namespace Sys2Proof.Machine

def exec (i : Instr) (s : State) : Host.Outcome State Fault Refusal :=
  match i with
  | .doorbell t src ch w => Sys2Proof.Machine.execDoorbell t src ch w s
  | .resetCh t src ch w => Sys2Proof.Machine.execResetCh t src ch w s
  | .chEnable t src ch w => Sys2Proof.Machine.execChEnable t src ch w s
  | .w1cClear t src off w set => Sys2Proof.Machine.execW1cClear t src off w set s
  | .rplHeadWrite t src ch w => Sys2Proof.Machine.execRplHeadWrite t src ch w s
  | .timeLoRead t src => Sys2Proof.Machine.execTimeLoRead t src s
  | .registerWrite t src off w => Sys2Proof.Machine.execRegisterWrite t src off w s
  | .c24Go t src w => Sys2Proof.Machine.execC24Go t src w s
  | .requestFetch t ch m => Sys2Proof.Machine.execRequestFetch t ch m s
  | .eventDelivery t => Sys2Proof.Machine.execEventDelivery t s
  | .coalTimeout t ch => Sys2Proof.Machine.execCoalTimeout t ch s
  | .hubRestart t => Sys2Proof.Machine.execHubRestart t s
  | .heldItemDiscard t ch => Sys2Proof.Machine.execHeldItemDiscard t ch s
  | .pcieFunctionReset t perst => Sys2Proof.Machine.execPcieFunctionReset t perst s
  | .ringDmaFail t ch => Sys2Proof.Machine.execRingDmaFail t ch s
  | .tunnelConnect t session port authenticated => Sys2Proof.Machine.execTunnelConnect t session port authenticated s
  | .tunnelOpenRecord t session ch reserved => Sys2Proof.Machine.execTunnelOpenRecord t session ch reserved s
  | .tunnelMessage t session m => Sys2Proof.Machine.execTunnelMessage t session m s
  | .tunnelClose t session => Sys2Proof.Machine.execTunnelClose t session s
  | .tunnelIdleTimeout t session => Sys2Proof.Machine.execTunnelIdleTimeout t session s
  | .cascadeMessage t ch m => Sys2Proof.Machine.execCascadeMessage t ch m s
  | .identify r => Sys2Proof.Machine.execIdentify r s
  | .inventory r => Sys2Proof.Machine.execInventory r s
  | .timeRead r => Sys2Proof.Machine.execTimeRead r s
  | .channelBind r => Sys2Proof.Machine.execChannelBind r s
  | .subscribe r => Sys2Proof.Machine.execSubscribe r s
  | .compatView r => Sys2Proof.Machine.execCompatView r s
  | .watchdogSet r => Sys2Proof.Machine.execWatchdogSet r s
  | .hostWatch r => Sys2Proof.Machine.execHostWatch r s
  | .hostBeat r => Sys2Proof.Machine.execHostBeat r s
  | .hostWatchExpiry t ch => Sys2Proof.Machine.execHostWatchExpiry t ch s
  | .moduleSupervisorBeat t => Sys2Proof.Machine.execModuleSupervisorBeat t s
  | .jackInTheBoxExpiry t => Sys2Proof.Machine.execJackInTheBoxExpiry t s
  | .supWatchdogExpiry t => Sys2Proof.Machine.execSupWatchdogExpiry t s
  | .unitHeartbeatLoss t unit => Sys2Proof.Machine.execUnitHeartbeatLoss t unit s
  | .islandReportTimeout t island => Sys2Proof.Machine.execIslandReportTimeout t island s
  | .islandReset t island => Sys2Proof.Machine.execIslandReset t island s
  | .unitRejoin t unit => Sys2Proof.Machine.execUnitRejoin t unit s
  | .fencedUnitTimeout t unit => Sys2Proof.Machine.execFencedUnitTimeout t unit s
  | .powerOnStart t vA vB => Sys2Proof.Machine.execPowerOnStart t vA vB s
  | .resetNAssert t widthNs => Sys2Proof.Machine.execResetNAssert t widthNs s
  | .resetNRelease t => Sys2Proof.Machine.execResetNRelease t s
  | .strapSamplingDone t recovLow pcieLow => Sys2Proof.Machine.execStrapSamplingDone t recovLow pcieLow s
  | .holdupWaitEnd t energyMj => Sys2Proof.Machine.execHoldupWaitEnd t energyMj s
  | .bootCommit t => Sys2Proof.Machine.execBootCommit t s
  | .ledgerReplay t => Sys2Proof.Machine.execLedgerReplay t s
  | .crankHoldEntry t vA vB => Sys2Proof.Machine.execCrankHoldEntry t vA vB s
  | .crankHoldExit t vA vB vMin lowNs => Sys2Proof.Machine.execCrankHoldExit t vA vB vMin lowNs s
  | .crankLowTimeout t vA vB vMin => Sys2Proof.Machine.execCrankLowTimeout t vA vB vMin s
  | .supplyBelow3v t vA vB => Sys2Proof.Machine.execSupplyBelow3v t vA vB s
  | .overvoltageCut t g v => Sys2Proof.Machine.execOvervoltageCut t g v s
  | .overvoltageRestore t g v => Sys2Proof.Machine.execOvervoltageRestore t g v s
  | .studLost t g v => Sys2Proof.Machine.execStudLost t g v s
  | .studReturned t g v => Sys2Proof.Machine.execStudReturned t g v s
  | .reverseBattery t vA vB => Sys2Proof.Machine.execReverseBattery t vA vB s
  | .holdupTest t energyMj => Sys2Proof.Machine.execHoldupTest t energyMj s
  | .thermalDerateCheck t plate => Sys2Proof.Machine.execThermalDerateCheck t plate s
  | .powerBudgetExceeded t milliwatts => Sys2Proof.Machine.execPowerBudgetExceeded t milliwatts s
  | .rungRequest r => Sys2Proof.Machine.execRungRequest r s
  | .keepAwake r => Sys2Proof.Machine.execKeepAwake r s
  | .keepAwakeExpiry t ch => Sys2Proof.Machine.execKeepAwakeExpiry t ch s
  | .wakeConfig r => Sys2Proof.Machine.execWakeConfig r s
  | .canWakeFilter r => Sys2Proof.Machine.execCanWakeFilter r s
  | .descentSet r => Sys2Proof.Machine.execDescentSet r s
  | .powerStatus r => Sys2Proof.Machine.execPowerStatus r s
  | .rungConditionCheck t => Sys2Proof.Machine.execRungConditionCheck t s
  | .rungWaitTimeout t => Sys2Proof.Machine.execRungWaitTimeout t s
  | .autoDescentExpiry t target => Sys2Proof.Machine.execAutoDescentExpiry t target s
  | .ignRise t => Sys2Proof.Machine.execIgnRise t s
  | .ignFall t => Sys2Proof.Machine.execIgnFall t s
  | .wakeInEdge t level => Sys2Proof.Machine.execWakeInEdge t level s
  | .canWakePattern t mb => Sys2Proof.Machine.execCanWakePattern t mb s
  | .canSelectiveWake t mb format id data => Sys2Proof.Machine.execCanSelectiveWake t mb format id data s
  | .tc10Wake t port => Sys2Proof.Machine.execTc10Wake t port s
  | .rtcAlarm t => Sys2Proof.Machine.execRtcAlarm t s
  | .usbVbusRise t => Sys2Proof.Machine.execUsbVbusRise t s
  | .aonBackupTimeout t => Sys2Proof.Machine.execAonBackupTimeout t s
  | .modeRequest r => Sys2Proof.Machine.execModeRequest r s
  | .islandReady t island => Sys2Proof.Machine.execIslandReady t island s
  | .islandRefusal t unit reason => Sys2Proof.Machine.execIslandRefusal t unit reason s
  | .prepareTimeout t => Sys2Proof.Machine.execPrepareTimeout t s
  | .modeCommit t missed => Sys2Proof.Machine.execModeCommit t missed s
  | .forcedSafeHold t missed => Sys2Proof.Machine.execForcedSafeHold t missed s
  | .autoLimpEntry t => Sys2Proof.Machine.execAutoLimpEntry t s
  | .autoSafeHold t => Sys2Proof.Machine.execAutoSafeHold t s
  | .convergenceDeadline t unit => Sys2Proof.Machine.execConvergenceDeadline t unit s
  | .modeQuery r => Sys2Proof.Machine.execModeQuery r s
  | .authChallenge r => Sys2Proof.Machine.execAuthChallenge r s
  | .challengeExpiry t kind => Sys2Proof.Machine.execChallengeExpiry t kind s
  | .authLockoutEnd t kind => Sys2Proof.Machine.execAuthLockoutEnd t kind s
  | .selftest r => Sys2Proof.Machine.execSelftest r s
  | .selftestEnd t unit result failCode => Sys2Proof.Machine.execSelftestEnd t unit result failCode s
  | .counterRead r => Sys2Proof.Machine.execCounterRead r s
  | .counterClear r => Sys2Proof.Machine.execCounterClear r s
  | .thermalRead r => Sys2Proof.Machine.execThermalRead r s
  | .moduleTimeTick t => Sys2Proof.Machine.execModuleTimeTick t s
  | .place r => Sys2Proof.Machine.execPlace r s
  | .placementRelease r => Sys2Proof.Machine.execPlacementRelease r s
  | .placementPin r => Sys2Proof.Machine.execPlacementPin r s
  | .placementMap r => Sys2Proof.Machine.execPlacementMap r s
  | .placementUnmap r => Sys2Proof.Machine.execPlacementUnmap r s
  | .placementSync r => Sys2Proof.Machine.execPlacementSync r s
  | .placementQuery r => Sys2Proof.Machine.execPlacementQuery r s
  | .placementCapacity r => Sys2Proof.Machine.execPlacementCapacity r s
  | .placementList r => Sys2Proof.Machine.execPlacementList r s
  | .quotaSet r => Sys2Proof.Machine.execQuotaSet r s
  | .jobPool r => Sys2Proof.Machine.execJobPool r s
  | .bootViewSet r => Sys2Proof.Machine.execBootViewSet r s
  | .promotionWindow t accesses => Sys2Proof.Machine.execPromotionWindow t accesses s
  | .migrationDone t handle chunk => Sys2Proof.Machine.execMigrationDone t handle chunk s
  | .writeBackStart t handle offset length => Sys2Proof.Machine.execWriteBackStart t handle offset length s
  | .writeBackDone t handle record => Sys2Proof.Machine.execWriteBackDone t handle record s
  | .shadowWrite t handle chunk => Sys2Proof.Machine.execShadowWrite t handle chunk s
  | .tierDegraded t tier degraded rate => Sys2Proof.Machine.execTierDegraded t tier degraded rate s
  | .restoreChunkDone t handle chunk => Sys2Proof.Machine.execRestoreChunkDone t handle chunk s
  | .streamCreate r => Sys2Proof.Machine.execStreamCreate r s
  | .streamAttach r => Sys2Proof.Machine.execStreamAttach r s
  | .streamDetach r => Sys2Proof.Machine.execStreamDetach r s
  | .streamDestroy r => Sys2Proof.Machine.execStreamDestroy r s
  | .streamQuery r => Sys2Proof.Machine.execStreamQuery r s
  | .linkConfig r => Sys2Proof.Machine.execLinkConfig r s
  | .linkStatus r => Sys2Proof.Machine.execLinkStatus r s
  | .linkRetrain r => Sys2Proof.Machine.execLinkRetrain r s
  | .messagePresent t unit port m => Sys2Proof.Machine.execMessagePresent t unit port m s
  | .flitDeliver t no idx => Sys2Proof.Machine.execFlitDeliver t no idx s
  | .creditReturn t no idx => Sys2Proof.Machine.execCreditReturn t no idx s
  | .ringPosted t no ep posted descs => Sys2Proof.Machine.execRingPosted t no ep posted descs s
  | .descriptorComplete t no ep => Sys2Proof.Machine.execDescriptorComplete t no ep s
  | .streamDrainTimeout t no => Sys2Proof.Machine.execStreamDrainTimeout t no s
  | .linkPresence t low => Sys2Proof.Machine.execLinkPresence t low s
  | .linkUp t width peerId peerRole streams buffers => Sys2Proof.Machine.execLinkUp t width peerId peerRole streams buffers s
  | .linkTrainingTimeout t => Sys2Proof.Machine.execLinkTrainingTimeout t s
  | .linkRetryTimer t => Sys2Proof.Machine.execLinkRetryTimer t s
  | .linkErrorRetrain t cause lane => Sys2Proof.Machine.execLinkErrorRetrain t cause lane s
  | .linkFlitRx t f => Sys2Proof.Machine.execLinkFlitRx t f s
  | .linkAckTimer t => Sys2Proof.Machine.execLinkAckTimer t s
  | .linkNakRx t seq => Sys2Proof.Machine.execLinkNakRx t seq s
  | .linkTimeFlit t peerTime => Sys2Proof.Machine.execLinkTimeFlit t peerTime s
  | .ledgerStatus r => Sys2Proof.Machine.execLedgerStatus r s
  | .ledgerRead r => Sys2Proof.Machine.execLedgerRead r s
  | .journalConfig r => Sys2Proof.Machine.execJournalConfig r s
  | .replayControl r => Sys2Proof.Machine.execReplayControl r s
  | .ledgerOutputs r => Sys2Proof.Machine.execLedgerOutputs r s
  | .unitExecutionReport t id => Sys2Proof.Machine.execUnitExecutionReport t id s
  | .snapshotTimer t => Sys2Proof.Machine.execSnapshotTimer t s
  | .heldRecordDeadline t id => Sys2Proof.Machine.execHeldRecordDeadline t id s
  | .outcomeDiscard t ch => Sys2Proof.Machine.execOutcomeDiscard t ch s
  | .thermalMemoryCopy t => Sys2Proof.Machine.execThermalMemoryCopy t s
  | .pathLostHold t path => Sys2Proof.Machine.execPathLostHold t path s
  | .holdMsExpiry t sw => Sys2Proof.Machine.execHoldMsExpiry t sw s
  | .loopTick t => Sys2Proof.Machine.execLoopTick t s
  | .loopDefine r => Sys2Proof.Machine.execLoopDefine r s
  | .loopClear r => Sys2Proof.Machine.execLoopClear r s
  | .loopCoeff r => Sys2Proof.Machine.execLoopCoeff r s
  | .loopLimits r => Sys2Proof.Machine.execLoopLimits r s
  | .loopClose r => Sys2Proof.Machine.execLoopClose r s
  | .loopOpen r => Sys2Proof.Machine.execLoopOpen r s
  | .valueWrite r => Sys2Proof.Machine.execValueWrite r s
  | .loopStatus r => Sys2Proof.Machine.execLoopStatus r s
  | .loopRead r => Sys2Proof.Machine.execLoopRead r s
  | .loopLanes r => Sys2Proof.Machine.execLoopLanes r s
  | .loopTrace r => Sys2Proof.Machine.execLoopTrace r s
  | .loopTune r => Sys2Proof.Machine.execLoopTune r s
  | .tuneAbort r => Sys2Proof.Machine.execTuneAbort r s
  | .tuneCommit r => Sys2Proof.Machine.execTuneCommit r s
  | .tuneSettleEnd t loop => Sys2Proof.Machine.execTuneSettleEnd t loop s
  | .tuneHalfCycleTimeout t loop => Sys2Proof.Machine.execTuneHalfCycleTimeout t loop s
  | .tuneTimeLimit t loop => Sys2Proof.Machine.execTuneTimeLimit t loop s
  | .signalMessage t lane stamp body => Sys2Proof.Machine.execSignalMessage t lane stamp body s
  | .instanceTick t => Sys2Proof.Machine.execInstanceTick t s
  | .functionDefine r => Sys2Proof.Machine.execFunctionDefine r s
  | .functionClear r => Sys2Proof.Machine.execFunctionClear r s
  | .functionStart r => Sys2Proof.Machine.execFunctionStart r s
  | .functionStop r => Sys2Proof.Machine.execFunctionStop r s
  | .functionParams r => Sys2Proof.Machine.execFunctionParams r s
  | .functionStatus r => Sys2Proof.Machine.execFunctionStatus r s
  | .calibrate r => Sys2Proof.Machine.execCalibrate r s
  | .yieldTotals r => Sys2Proof.Machine.execYieldTotals r s
  | .onDelayExpiry t inst => Sys2Proof.Machine.execOnDelayExpiry t inst s
  | .governorPeriod t inst => Sys2Proof.Machine.execGovernorPeriod t inst s
  | .yieldStep t inst => Sys2Proof.Machine.execYieldStep t inst s
  | .totalsSave t => Sys2Proof.Machine.execTotalsSave t s
  | .switchConfig r => Sys2Proof.Machine.execSwitchConfig r s
  | .switchSet r => Sys2Proof.Machine.execSwitchSet r s
  | .clearFault r => Sys2Proof.Machine.execClearFault r s
  | .serviceDrive r => Sys2Proof.Machine.execServiceDrive r s
  | .switchStatus r => Sys2Proof.Machine.execSwitchStatus r s
  | .readConfig r => Sys2Proof.Machine.execReadConfig r s
  | .groupStatus r => Sys2Proof.Machine.execGroupStatus r s
  | .channelTick t currents a b => Sys2Proof.Machine.execChannelTick t currents a b s
  | .shedStepTimer t g => Sys2Proof.Machine.execShedStepTimer t g s
  | .inrushTimerExpiry t ch outputMv currentUa => Sys2Proof.Machine.execInrushTimerExpiry t ch outputMv currentUa s
  | .hardCurrentLimit t ch peakUa => Sys2Proof.Machine.execHardCurrentLimit t ch peakUa s
  | .retryWaitExpiry t ch => Sys2Proof.Machine.execRetryWaitExpiry t ch s
  | .retryRestore t ch => Sys2Proof.Machine.execRetryRestore t ch s
  | .disturbanceRaise t g mean v => Sys2Proof.Machine.execDisturbanceRaise t g mean v s
  | .disturbanceClear t g v vMin => Sys2Proof.Machine.execDisturbanceClear t g v vMin s
  | .lampCompensation t loads => Sys2Proof.Machine.execLampCompensation t loads s
  | .regErrorTimer t ch error => Sys2Proof.Machine.execRegErrorTimer t ch error s
  | .openLoadTimer t ch below => Sys2Proof.Machine.execOpenLoadTimer t ch below s
  | .offDiagCheck t ch outputMv drivenMv => Sys2Proof.Machine.execOffDiagCheck t ch outputMv drivenMv s
  | .offtestPulse t ch => Sys2Proof.Machine.execOfftestPulse t ch s
  | .offtestPulseEnd t ch outputMv => Sys2Proof.Machine.execOfftestPulseEnd t ch outputMv s
  | .junctionOvertemp t ch => Sys2Proof.Machine.execJunctionOvertemp t ch s
  | .gsnsOpenDetect t g => Sys2Proof.Machine.execGsnsOpenDetect t g s
  | .serviceDriveTimeout t => Sys2Proof.Machine.execServiceDriveTimeout t s
  | .ambientUpdate t air => Sys2Proof.Machine.execAmbientUpdate t air s
  | .implementSet r => Sys2Proof.Machine.execImplementSet r s
  | .sectionsSet r => Sys2Proof.Machine.execSectionsSet r s
  | .sectionEngine r => Sys2Proof.Machine.execSectionEngine r s
  | .sectionOverride r => Sys2Proof.Machine.execSectionOverride r s
  | .sectionSchedule r => Sys2Proof.Machine.execSectionSchedule r s
  | .edgeCancel r => Sys2Proof.Machine.execEdgeCancel r s
  | .sectionStatus r => Sys2Proof.Machine.execSectionStatus r s
  | .edgeExecute t id => Sys2Proof.Machine.execEdgeExecute t id s
  | .nodeCommandSend t id => Sys2Proof.Machine.execNodeCommandSend t id s
  | .nodeAckRx t mb node rec => Sys2Proof.Machine.execNodeAckRx t mb node rec s
  | .nodeAckTimeout t id => Sys2Proof.Machine.execNodeAckTimeout t id s
  | .nodeSyncSend t mb => Sys2Proof.Machine.execNodeSyncSend t mb s
  | .engineSolution t => Sys2Proof.Machine.execEngineSolution t s
  | .navStaleHold t => Sys2Proof.Machine.execNavStaleHold t s
  | .navHoldExpiry t => Sys2Proof.Machine.execNavHoldExpiry t s
  | .navReturn t => Sys2Proof.Machine.execNavReturn t s
  | .navConfig r => Sys2Proof.Machine.execNavConfig r s
  | .channelSet r => Sys2Proof.Machine.execChannelSet r s
  | .channelStatus r => Sys2Proof.Machine.execChannelStatus r s
  | .acqAid r => Sys2Proof.Machine.execAcqAid r s
  | .orbitAid r => Sys2Proof.Machine.execOrbitAid r s
  | .navRestart r => Sys2Proof.Machine.execNavRestart r s
  | .keptStatus r => Sys2Proof.Machine.execKeptStatus r s
  | .frontendStatus r => Sys2Proof.Machine.execFrontendStatus r s
  | .navStart t cause visible => Sys2Proof.Machine.execNavStart t cause visible s
  | .firstFix t lat lon height distanceM fix sats => Sys2Proof.Machine.execFirstFix t lat lon height distanceM fix sats s
  | .channelReallocation t sats => Sys2Proof.Machine.execChannelReallocation t sats s
  | .trackLoss t ch => Sys2Proof.Machine.execTrackLoss t ch s
  | .mpIndexUpdate t amps => Sys2Proof.Machine.execMpIndexUpdate t amps s
  | .bocFalseLock t ch early => Sys2Proof.Machine.execBocFalseLock t ch early s
  | .spectrumUpdate t ant band x => Sys2Proof.Machine.execSpectrumUpdate t ant band x s
  | .antennaBiasFault t ant milliamps => Sys2Proof.Machine.execAntennaBiasFault t ant milliamps s
  | .biasRetry t ant milliamps => Sys2Proof.Machine.execBiasRetry t ant milliamps s
  | .gainCheck t ant band gainDb => Sys2Proof.Machine.execGainCheck t ant band gainDb s
  | .measurementEpoch t m => Sys2Proof.Machine.execMeasurementEpoch t m s
  | .rtcmBytes t bytes => Sys2Proof.Machine.execRtcmBytes t bytes s
  | .gnssSolution t x fixedSats distM => Sys2Proof.Machine.execGnssSolution t x fixedSats distM s
  | .fusedSolution t x => Sys2Proof.Machine.execFusedSolution t x s
  | .fixLowTimeout t => Sys2Proof.Machine.execFixLowTimeout t s
  | .isoGuidanceCommand t => Sys2Proof.Machine.execIsoGuidanceCommand t s
  | .deadReckoningStart t => Sys2Proof.Machine.execDeadReckoningStart t s
  | .drLimitExpiry t => Sys2Proof.Machine.execDrLimitExpiry t s
  | .solutionConfig r => Sys2Proof.Machine.execSolutionConfig r s
  | .solutionRead r => Sys2Proof.Machine.execSolutionRead r s
  | .guideLine r => Sys2Proof.Machine.execGuideLine r s
  | .steer r => Sys2Proof.Machine.execSteer r s
  | .rtkStatus r => Sys2Proof.Machine.execRtkStatus r s
  | .holdoverStart t temp => Sys2Proof.Machine.execHoldoverStart t temp s
  | .holdoverLimit t temp => Sys2Proof.Machine.execHoldoverLimit t temp s
  | .gnssTimeReturn t offset => Sys2Proof.Machine.execGnssTimeReturn t offset s
  | .timingMessage t qerr temp => Sys2Proof.Machine.execTimingMessage t qerr temp s
  | .timePulse t => Sys2Proof.Machine.execTimePulse t s
  | .timeConfig r => Sys2Proof.Machine.execTimeConfig r s
  | .timeStatus r => Sys2Proof.Machine.execTimeStatus r s
  | .cameraPortConfig r => Sys2Proof.Machine.execCameraPortConfig r s
  | .cameraEnable r => Sys2Proof.Machine.execCameraEnable r s
  | .fsyncSet r => Sys2Proof.Machine.execFsyncSet r s
  | .ctrlXfer r => Sys2Proof.Machine.execCtrlXfer r s
  | .cameraPortStatus r => Sys2Proof.Machine.execCameraPortStatus r s
  | .cameraLinkLock t port => Sys2Proof.Machine.execCameraLinkLock t port s
  | .cameraLinkLoss t port => Sys2Proof.Machine.execCameraLinkLoss t port s
  | .pocOvercurrent t port milliamps => Sys2Proof.Machine.execPocOvercurrent t port milliamps s
  | .pocTotalLimit t currents => Sys2Proof.Machine.execPocTotalLimit t currents s
  | .bridgeSupplyFault t => Sys2Proof.Machine.execBridgeSupplyFault t s
  | .bridgeResetRelease t => Sys2Proof.Machine.execBridgeResetRelease t s
  | .fsyncPulse t port => Sys2Proof.Machine.execFsyncPulse t port s
  | .csiPacket t port p => Sys2Proof.Machine.execCsiPacket t port p s
  | .frameTimeout t port => Sys2Proof.Machine.execFrameTimeout t port s
  | .noFramesTimeout t port => Sys2Proof.Machine.execNoFramesTimeout t port s
  | .frameEnd t port => Sys2Proof.Machine.execFrameEnd t port s
  | .pipelineLine t pipe => Sys2Proof.Machine.execPipelineLine t pipe s
  | .pipelineFrameOutput t port => Sys2Proof.Machine.execPipelineFrameOutput t port s
  | .stageSet r => Sys2Proof.Machine.execStageSet r s
  | .outputSet r => Sys2Proof.Machine.execOutputSet r s
  | .outputStatus r => Sys2Proof.Machine.execOutputStatus r s
  | .pipeStatus r => Sys2Proof.Machine.execPipeStatus r s
  | .modelLoad r => Sys2Proof.Machine.execModelLoad r s
  | .modelUnload r => Sys2Proof.Machine.execModelUnload r s
  | .jobDefine r => Sys2Proof.Machine.execJobDefine r s
  | .jobClear r => Sys2Proof.Machine.execJobClear r s
  | .jobStart r => Sys2Proof.Machine.execJobStart r s
  | .jobStop r => Sys2Proof.Machine.execJobStop r s
  | .poolDone r => Sys2Proof.Machine.execPoolDone r s
  | .jobStatus r => Sys2Proof.Machine.execJobStatus r s
  | .inferenceInput t job seq m => Sys2Proof.Machine.execInferenceInput t job seq m s
  | .inputPlacement t job => Sys2Proof.Machine.execInputPlacement t job s
  | .runStart t => Sys2Proof.Machine.execRunStart t s
  | .layerPreempt t job => Sys2Proof.Machine.execLayerPreempt t job s
  | .runEnd t job body => Sys2Proof.Machine.execRunEnd t job body s
  | .poolTimeout t job item => Sys2Proof.Machine.execPoolTimeout t job item s
  | .busConfig r => Sys2Proof.Machine.execBusConfig r s
  | .busControl r => Sys2Proof.Machine.execBusControl r s
  | .filterSet r => Sys2Proof.Machine.execFilterSet r s
  | .compatSet r => Sys2Proof.Machine.execCompatSet r s
  | .queueConfig r => Sys2Proof.Machine.execQueueConfig r s
  | .rxRead r => Sys2Proof.Machine.execRxRead r s
  | .txWrite r => Sys2Proof.Machine.execTxWrite r s
  | .txAbort r => Sys2Proof.Machine.execTxAbort r s
  | .busStatus r => Sys2Proof.Machine.execBusStatus r s
  | .cfClaim r => Sys2Proof.Machine.execCfClaim r s
  | .pgnSend r => Sys2Proof.Machine.execPgnSend r s
  | .canFrameRx t mb f => Sys2Proof.Machine.execCanFrameRx t mb f s
  | .txNotBefore t mb obj => Sys2Proof.Machine.execTxNotBefore t mb obj s
  | .txAttemptEnd t mb sof e => Sys2Proof.Machine.execTxAttemptEnd t mb sof e s
  | .busError t mb transmit lec inc => Sys2Proof.Machine.execBusError t mb transmit lec inc s
  | .busOffDelayExpiry t mb => Sys2Proof.Machine.execBusOffDelayExpiry t mb s
  | .recoveryComplete t mb => Sys2Proof.Machine.execRecoveryComplete t mb s
  | .queueBatchTimeout t mb queue => Sys2Proof.Machine.execQueueBatchTimeout t mb queue s
  | .addressClaimTimer t mb cf => Sys2Proof.Machine.execAddressClaimTimer t mb cf s
  | .transportPacketRx t mb f => Sys2Proof.Machine.execTransportPacketRx t mb f s
  | .transportTimeout t mb session => Sys2Proof.Machine.execTransportTimeout t mb session s
  | .bamPacketTimer t mb session => Sys2Proof.Machine.execBamPacketTimer t mb session s
  | .ethPortConfig r => Sys2Proof.Machine.execEthPortConfig r s
  | .ethPortStatus r => Sys2Proof.Machine.execEthPortStatus r s
  | .gateSet r => Sys2Proof.Machine.execGateSet r s
  | .syncConfig r => Sys2Proof.Machine.execSyncConfig r s
  | .ipConfig r => Sys2Proof.Machine.execIpConfig r s
  | .nodeSet r => Sys2Proof.Machine.execNodeSet r s
  | .ethFrameRx t port f => Sys2Proof.Machine.execEthFrameRx t port f s
  | .addressAgeing t mac => Sys2Proof.Machine.execAddressAgeing t mac s
  | .ethLinkChange t port up speed sqi => Sys2Proof.Machine.execEthLinkChange t port up speed sqi s
  | .gptpSyncTx t => Sys2Proof.Machine.execGptpSyncTx t s
  | .gptpAnnounceTx t => Sys2Proof.Machine.execGptpAnnounceTx t s
  | .pdelayTx t => Sys2Proof.Machine.execPdelayTx t s
  | .gateEntryStart t port => Sys2Proof.Machine.execGateEntryStart t port s
  | .gateListAdopt t port => Sys2Proof.Machine.execGateListAdopt t port s
  | .fleetConfig r => Sys2Proof.Machine.execFleetConfig r s
  | .fleetStatus r => Sys2Proof.Machine.execFleetStatus r s
  | .mapMerge r => Sys2Proof.Machine.execMapMerge r s
  | .mergeJobEnd t => Sys2Proof.Machine.execMergeJobEnd t s
  | .fleetExchange t => Sys2Proof.Machine.execFleetExchange t s
  | .fleetDatagramRx t port bytes => Sys2Proof.Machine.execFleetDatagramRx t port bytes s
  | .fsupLow t mv => Sys2Proof.Machine.execFsupLow t mv s
  | .fsupLost t mv => Sys2Proof.Machine.execFsupLost t mv s
  | .fsupRestored t mv => Sys2Proof.Machine.execFsupRestored t mv s
  | .fldConverterFail t => Sys2Proof.Machine.execFldConverterFail t s
  | .fiLevelAccept t fi level stamp => Sys2Proof.Machine.execFiLevelAccept t fi level stamp s
  | .fiChangeMessage t => Sys2Proof.Machine.execFiChangeMessage t s
  | .wireBreakDetect t fi currentUa => Sys2Proof.Machine.execWireBreakDetect t fi currentUa s
  | .wireBreakClear t fi currentUa => Sys2Proof.Machine.execWireBreakClear t fi currentUa s
  | .foShort t fo currentMa => Sys2Proof.Machine.execFoShort t fo currentMa s
  | .foOvertemp t fo junction currentMa => Sys2Proof.Machine.execFoOvertemp t fo junction currentMa s
  | .foOpenLoad t fo currentMa => Sys2Proof.Machine.execFoOpenLoad t fo currentMa s
  | .siConversion t si raw supplyMv => Sys2Proof.Machine.execSiConversion t si raw supplyMv s
  | .shuntReenable t si => Sys2Proof.Machine.execShuntReenable t si s
  | .acousticHit t si => Sys2Proof.Machine.execAcousticHit t si s
  | .sup5Fault t sup milliamps => Sys2Proof.Machine.execSup5Fault t sup milliamps s
  | .sup5Retry t sup mv milliamps => Sys2Proof.Machine.execSup5Retry t sup mv milliamps s
  | .fiConfig r => Sys2Proof.Machine.execFiConfig r s
  | .foConfig r => Sys2Proof.Machine.execFoConfig r s
  | .siConfig r => Sys2Proof.Machine.execSiConfig r s
  | .foSet r => Sys2Proof.Machine.execFoSet r s
  | .foClear r => Sys2Proof.Machine.execFoClear r s
  | .fieldStatus r => Sys2Proof.Machine.execFieldStatus r s
  | .siStatus r => Sys2Proof.Machine.execSiStatus r s
  | .displayConfig r => Sys2Proof.Machine.execDisplayConfig r s
  | .waveformLoad r => Sys2Proof.Machine.execWaveformLoad r s
  | .displayUpdate r => Sys2Proof.Machine.execDisplayUpdate r s
  | .frontLight r => Sys2Proof.Machine.execFrontLight r s
  | .displayStatus r => Sys2Proof.Machine.execDisplayStatus r s
  | .panelDetectChange t fitted lidSel identity => Sys2Proof.Machine.execPanelDetectChange t fitted lidSel identity s
  | .railPowerUp t => Sys2Proof.Machine.execRailPowerUp t s
  | .railFault t rail => Sys2Proof.Machine.execRailFault t rail s
  | .railRetry t => Sys2Proof.Machine.execRailRetry t s
  | .dischargeSequence t => Sys2Proof.Machine.execDischargeSequence t s
  | .displayIdleTimeout t => Sys2Proof.Machine.execDisplayIdleTimeout t s
  | .panelTempTimeout t => Sys2Proof.Machine.execPanelTempTimeout t s
  | .updateStart t temp => Sys2Proof.Machine.execUpdateStart t temp s
  | .displayFrameEnd t => Sys2Proof.Machine.execDisplayFrameEnd t s
  | .restoration t temp => Sys2Proof.Machine.execRestoration t temp s
  | .frontLightFault t => Sys2Proof.Machine.execFrontLightFault t s
  | .safetyLogicCycle t c => Sys2Proof.Machine.execSafetyLogicCycle t c s
  | .safeInSample t x => Sys2Proof.Machine.execSafeInSample t x s
  | .safeInAccept t input => Sys2Proof.Machine.execSafeInAccept t input s
  | .inputPathTest t mismatch => Sys2Proof.Machine.execInputPathTest t mismatch s
  | .safeRstEdge t highNs => Sys2Proof.Machine.execSafeRstEdge t highNs s
  | .safeRstStuck t => Sys2Proof.Machine.execSafeRstStuck t s
  | .safeTestPulse t out => Sys2Proof.Machine.execSafeTestPulse t out s
  | .safeTestPulseEnd t out readbackMv => Sys2Proof.Machine.execSafeTestPulseEnd t out readbackMv s
  | .safeOutOvercurrent t out => Sys2Proof.Machine.execSafeOutOvercurrent t out s
  | .safeOpenLoad t out below => Sys2Proof.Machine.execSafeOpenLoad t out below s
  | .stopDelayExpiry t fn => Sys2Proof.Machine.execStopDelayExpiry t fn s
  | .ramMarch t pass => Sys2Proof.Machine.execRamMarch t pass s
  | .codeCrcCheck t pass => Sys2Proof.Machine.execCodeCrcCheck t pass s
  | .clockCompare t pass => Sys2Proof.Machine.execClockCompare t pass s
  | .safSelftest t fault => Sys2Proof.Machine.execSafSelftest t fault s
  | .safetyStatus r => Sys2Proof.Machine.execSafetyStatus r s
  | .configRead r => Sys2Proof.Machine.execConfigRead r s
  | .configStage r => Sys2Proof.Machine.execConfigStage r s
  | .configCommit r => Sys2Proof.Machine.execConfigCommit r s
  | .safetyValidate r => Sys2Proof.Machine.execSafetyValidate r s
  | .passwordSet r => Sys2Proof.Machine.execPasswordSet r s
  | .logRead r => Sys2Proof.Machine.execLogRead r s
  | .offRequest r => Sys2Proof.Machine.execOffRequest r s
  | .imageInstall r => Sys2Proof.Machine.execImageInstall r s
  | .installDataComplete t container => Sys2Proof.Machine.execInstallDataComplete t container s
  | .installTimeout t => Sys2Proof.Machine.execInstallTimeout t s
  | .imageActivate r => Sys2Proof.Machine.execImageActivate r s
  | .imageConfirm r => Sys2Proof.Machine.execImageConfirm r s
  | .imageRevert r => Sys2Proof.Machine.execImageRevert r s
  | .imageStatus r => Sys2Proof.Machine.execImageStatus r s
  | .policySet r => Sys2Proof.Machine.execPolicySet r s
  | .recoveryEnter r => Sys2Proof.Machine.execRecoveryEnter r s
  | .recoveryLoad r => Sys2Proof.Machine.execRecoveryLoad r s
  | .recoverySession t port => Sys2Proof.Machine.execRecoverySession t port s
  | .installAbort r => Sys2Proof.Machine.execInstallAbort r s
  | .loaderCopyDone t cls => Sys2Proof.Machine.execLoaderCopyDone t cls s
  | .trialRejoinTimeout t cls => Sys2Proof.Machine.execTrialRejoinTimeout t cls s
  | .confirmTimeout t cls => Sys2Proof.Machine.execConfirmTimeout t cls s
  | .identitySet r => Sys2Proof.Machine.execIdentitySet r s
  | .keyPublic r => Sys2Proof.Machine.execKeyPublic r s
  | .keySet r => Sys2Proof.Machine.execKeySet r s
  | .keyClear r => Sys2Proof.Machine.execKeyClear r s
  | .keyStatus r => Sys2Proof.Machine.execKeyStatus r s
  | .perstNRelease t => Sys2Proof.Machine.execPerstNRelease t s
  | .gsnsRestored t g => Sys2Proof.Machine.execGsnsRestored t g s
  | .signalAcquired t ch => Sys2Proof.Machine.execSignalAcquired t ch s
  | .pullInLock t ch => Sys2Proof.Machine.execPullInLock t ch s
  | .navDataDecoded t d => Sys2Proof.Machine.execNavDataDecoded t d s
  | .busIntegrated t mb => Sys2Proof.Machine.execBusIntegrated t mb s
  | .rstStuckClear t => Sys2Proof.Machine.execRstStuckClear t s
  | .crankLowTimerReset t => Sys2Proof.Machine.execCrankLowTimerReset t s
  | .plcaFallback t beacon => Sys2Proof.Machine.execPlcaFallback t beacon s
  | .farTrained t => Sys2Proof.Machine.execFarTrained t s
  | .recoverySessionClose t => Sys2Proof.Machine.execRecoverySessionClose t s
  | .usbVbusFall t => Sys2Proof.Machine.execUsbVbusFall t s

end Sys2Proof.Machine
end

