-- ==== Sys2Proof/Safety.lean ====
section
/-! DEFINITION. What counts as a safe run, and the words the statements use: the parts of the state, what a command leaves alone,
and when a request is taken. -/

namespace Sys2Proof

open Machine

/-- A step from `s` stops with a fault. -/
def faults (s : State) : Prop := ∃ r, step s = .fault r

/-- The parts of the state: its fields, with the power state's rung, the mode state's epoch, mode, change, fences, islands, proofs,
Diagnostics counters and heartbeat watchdog, and the safety island's kept record, each apart. -/
inductive Part where
  | time
  | tick
  | copies
  | hub
  | power
  | rung
  | epoch
  | mode
  | change
  | fences
  | islands
  | auth
  | diag
  | jack
  | ledger
  | control
  | stage
  | functions
  | fieldIo
  | place
  | fabric
  | nav
  | vision
  | infer
  | buses
  | eth
  | fleet
  | display
  | safety
  | safetyRecord
  | update
  | sections
  | freeCount
  | deferred
  | pending
  deriving DecidableEq, Repr

/-- A part of the mode state is the same in two of them. -/
def Part.sameMode (m n : ModeState) : Part → Prop
  | .epoch => n.epoch = m.epoch
  | .mode => (n.mode, n.booted, n.lastMode, n.stopCause, n.stopTime, n.commitTick) =
      (m.mode, m.booted, m.lastMode, m.stopCause, m.stopTime, m.commitTick)
  | .change => (n.change, n.converging, n.holdCause, n.holdUnits, n.holdFns, n.holdRst, n.holdChannel, n.holdPending, n.bootHold) =
      (m.change, m.converging, m.holdCause, m.holdUnits, m.holdFns, m.holdRst, m.holdChannel, m.holdPending, m.bootHold)
  | .fences => (n.fences, n.selfTests) = (m.fences, m.selfTests)
  | .islands => n.islands = m.islands
  | .auth => (n.challengePw, n.challengeVendor, n.failedPw, n.failedVendor, n.lockPw, n.lockVendor, n.session, n.lifecycle) =
      (m.challengePw, m.challengeVendor, m.failedPw, m.failedVendor, m.lockPw, m.lockVendor, m.session, m.lifecycle)
  | .diag => n.diag = m.diag
  | .jack => (n.jackMs, n.jackInForce, n.lastBeat, n.jackExpired, n.safeApplied) =
      (m.jackMs, m.jackInForce, m.lastBeat, m.jackExpired, m.safeApplied)
  | _ => True

/-- A part of the power state is the same in two of them: the rung and its entry, or all the rest. -/
def Part.samePower (p q : Power) : Part → Prop
  | .rung => (q.rung, q.wait, q.entering, q.entryTime, q.retained) = (p.rung, p.wait, p.entering, p.entryTime, p.retained)
  | .power => { q with rung := p.rung, wait := p.wait, entering := p.entering, entryTime := p.entryTime, retained := p.retained } = p
  | _ => True

/-- A part of the safety island is the same in two of them: the record it keeps (R761, R763, R764), or all the rest. -/
def Part.sameSafety (x y : Safety) : Part → Prop
  | .safetyRecord => (y.active, y.staged, y.validated, y.key, y.log, y.baseHash, y.head) =
      (x.active, x.staged, x.validated, x.key, x.log, x.baseHash, x.head)
  | .safety => { y with active := x.active, staged := x.staged, validated := x.validated, key := x.key, log := x.log,
                        baseHash := x.baseHash, head := x.head } = x
  | _ => True

/-- A part is the same in two states. -/
def Part.same (s t : State) : Part → Prop
  | .time => t.time = s.time
  | .tick => t.tick = s.tick
  | .copies => t.copies = s.copies
  | .hub => t.hub = s.hub
  | .power => Part.samePower s.power t.power .power
  | .rung => Part.samePower s.power t.power .rung
  | .epoch => Part.sameMode s.mode t.mode .epoch
  | .mode => Part.sameMode s.mode t.mode .mode
  | .change => Part.sameMode s.mode t.mode .change
  | .fences => Part.sameMode s.mode t.mode .fences
  | .islands => Part.sameMode s.mode t.mode .islands
  | .auth => Part.sameMode s.mode t.mode .auth
  | .diag => Part.sameMode s.mode t.mode .diag
  | .jack => Part.sameMode s.mode t.mode .jack
  | .ledger => t.ledger = s.ledger
  | .control => t.control = s.control
  | .stage => t.stage = s.stage
  | .functions => t.functions = s.functions
  | .fieldIo => t.fieldIo = s.fieldIo
  | .place => t.place = s.place
  | .fabric => t.fabric = s.fabric
  | .nav => t.nav = s.nav
  | .vision => t.vision = s.vision
  | .infer => t.infer = s.infer
  | .buses => t.buses = s.buses
  | .eth => t.eth = s.eth
  | .fleet => t.fleet = s.fleet
  | .display => t.display = s.display
  | .safety => Part.sameSafety s.safety t.safety .safety
  | .safetyRecord => Part.sameSafety s.safety t.safety .safetyRecord
  | .update => t.update = s.update
  | .sections => t.sections = s.sections
  | .freeCount => t.freeCount = s.freeCount
  | .deferred => t.deferred = s.deferred
  | .pending => t.pending = s.pending

/-- Every part but those named is the same in two states. -/
structure Only (ps : List Part) (s t : State) : Prop where
  same : ∀ p, ps.contains p = false → p.same s t

/-- What may become of the ledger: no ID is used again (R317), and each record is a new one, or one that was there, of the same kind
and moved as R318 allows if it moved at all. -/
structure LedgerMoved (l m : Ledger) : Prop where
  ids : l.nextId ≤ m.nextId
  records : ∀ y ∈ m.records, l.nextId ≤ y.id ∨
    ∃ x ∈ l.records, x.id = y.id ∧ x.kind = y.kind ∧ (x.state = y.state ∨ x.state.mayMove y.state = true)

/-- What may become of the fuses: no anti-rollback counter falls, and no vendor key that is revoked comes back (R782). -/
structure FusesMoved (u v : Update) : Prop where
  counters : ∀ c, (u.classes.rd c ImageClass.reset).counter ≤ (v.classes.rd c ImageClass.reset).counter
  revoked : ∀ i, bit u.revoked i = true → bit v.revoked i = true

/-- The ledger is sound: IDs start at 1, rise, and are all below the next one (R317). -/
structure LedgerSound (l : Ledger) : Prop where
  first : 1 ≤ l.nextId
  bounds : ∀ x ∈ l.records, 1 ≤ x.id ∧ x.id < l.nextId
  rising : l.records.Pairwise fun x y => x.id < y.id

/-- The content of every placement has its canonical form. -/
def PlacesSound (q : Puppeteer) : Prop := ∀ e ∈ q.places.entries, e.2.mem.wf = true ∧ e.2.synced.wf = true

/-- The state is sound: its ledger is, and so is the content of every placement. -/
def Sound (s : State) : Prop := LedgerSound s.ledger ∧ PlacesSound s.place

/-- A request is taken: its channel exists, the gate passes it (R137, R148, R195), and its OP has no refusal for it (R817). -/
abbrev Taken (o : OpSpec) (unit : Nat) (r : Request) (s : State) (checks : State → List (Bool × Status)) : Prop :=
  r.ch < 64 ∧ gate o unit r (s.atTime r.time) = none ∧ refusal (checks (s.atTime r.time)) = none

/-- A command runs to `t`, and nothing but the parts named has changed. -/
def Runs (ps : List Part) (i : Instr) (s t : State) : Prop := exec i s = .next t ∧ Only ps s t

/-- A command that may end a mode change runs to `t`, where nothing but the parts named has changed; then what was deferred until the
end of a change goes on, where there is no change in progress any more (R121, R138, R143). -/
def RunsSettled (ps : List Part) (i : Instr) (s t : State) : Prop := exec i s = .next t.settleDeferred ∧ Only ps s t

/-- The mode that a MODE_REQUEST names, where its own checks in the order of R223 all pass: the length, the boot commit, no change in
progress but for SAFE_HOLD, the epoch, the layout, the transition, the proof and the further conditions. -/
structure ModeTaken (r : Request) (s : State) (b : Mode) : Prop where
  channel : r.ch < 64
  len : opModeRequest.lenOk r.len = true
  booted : s.mode.booted = true
  named : Mode.ofCode (r.u 4 1) = some b
  idle : s.mode.change.isNone = true ∨ b = .safeHold
  current : b = .safeHold ∨ (r.u 0 4 ≠ 0 ∧ r.u 0 4 = s.mode.epoch.toNat)
  layout : modeRequestBad r = false
  may : b = s.mode.mode ∨ hostTransition s.mode.mode b = true
  proved : ((s.atTime r.time).authorize b (r.u 5 1) (r.bytes 8 16) (r.bytes 24 32)).1 = true
  further : ((s.atTime r.time).authorize b (r.u 5 1) (r.bytes 8 16) (r.bytes 24 32)).2.furtherRefusal b = none

/-- A command that is a request of a family other than MODE_REQUEST: its row of the OP table, the unit that executes it, and the
request. An event has none. MODE_REQUEST has its own order of checks (R223). -/
def Instr.asked : Instr → State → Option (OpSpec × Nat × Request)
  | .identify r, _ => some (opIdentify, uMaluf, r)
  | .inventory r, _ => some (opInventory, uMaluf, r)
  | .timeRead r, _ => some (opTimeRead, uMaluf, r)
  | .channelBind r, _ => some (opChannelBind, uMaluf, r)
  | .subscribe r, _ => some (opSubscribe, uMaluf, r)
  | .compatView r, _ => some (opCompatView, uMaluf, r)
  | .watchdogSet r, _ => some (opWatchdogSet, uMaluf, r)
  | .hostWatch r, _ => some (opHostWatch, uMaluf, r)
  | .hostBeat r, _ => some (opHostBeat, uMaluf, r)
  | .rungRequest r, _ => some (opRungRequest, uPower, r)
  | .keepAwake r, _ => some (opKeepAwake, uPower, r)
  | .wakeConfig r, _ => some (opWakeConfig, uPower, r)
  | .canWakeFilter r, _ => some (opCanWakeFilter, uPower, r)
  | .descentSet r, _ => some (opDescentSet, uPower, r)
  | .powerStatus r, _ => some (opPowerStatus, uPower, r)
  | .modeQuery r, _ => some (opModeQuery, moduleSupervisor, r)
  | .authChallenge r, _ => some (opAuthChallenge, moduleSupervisor, r)
  | .selftest r, _ => some (opSelftest, if isUnit (r.u 4 2) then (r.u 4 2) else uMaluf, r)
  | .counterRead r, _ => some (opCounterRead, counterUnit (r.u 0 2), r)
  | .counterClear r, _ => some (opCounterClear, counterUnit (r.u 0 2), r)
  | .thermalRead r, _ => some (opThermalRead, moduleSupervisor, r)
  | .place r, _ => some (opPlace, uPlacement, r)
  | .placementRelease r, _ => some (opRelease, uPlacement, r)
  | .placementPin r, _ => some (opPin, uPlacement, r)
  | .placementMap r, _ => some (opMap, uPlacement, r)
  | .placementUnmap r, _ => some (opUnmap, uPlacement, r)
  | .placementSync r, _ => some (opSync, uPlacement, r)
  | .placementQuery r, _ => some (opPlacementQuery, uPlacement, r)
  | .placementCapacity r, _ => some (opCapacity, uPlacement, r)
  | .placementList r, _ => some (opList, uPlacement, r)
  | .quotaSet r, _ => some (opQuotaSet, uPlacement, r)
  | .jobPool r, _ => some (opJobPool, uPlacement, r)
  | .bootViewSet r, _ => some (opBootViewSet, uPlacement, r)
  | .streamCreate r, _ => some (opStreamCreate, uFabric, r)
  | .streamAttach r, _ => some (opStreamAttach, uFabric, r)
  | .streamDetach r, _ => some (opStreamDetach, uFabric, r)
  | .streamDestroy r, _ => some (opStreamDestroy, uFabric, r)
  | .streamQuery r, _ => some (opStreamQuery, uFabric, r)
  | .linkConfig r, _ => some (opLinkConfig, uLink, r)
  | .linkStatus r, _ => some (opLinkStatus, uLink, r)
  | .linkRetrain r, _ => some (opLinkRetrain, uLink, r)
  | .ledgerStatus r, _ => some (opLedgerStatus, uLedger, r)
  | .ledgerRead r, _ => some (opLedgerRead, uLedger, r)
  | .journalConfig r, _ => some (opJournalConfig, uLedger, r)
  | .replayControl r, _ => some (opReplayControl, uLedger, r)
  | .ledgerOutputs r, _ => some (opOutputs, uLedger, r)
  | .loopDefine r, _ => some (opLoopDefine, uLane (if (field (r.bytes 8 256) 1 1) ≤ 3 then (field (r.bytes 8 256) 1 1) else 0), r)
  | .loopClear r, s => some (opLoopClear, (s.loop (r.u 4 1)).unit, r)
  | .loopCoeff r, s => some (opCoeff, (s.loop (r.u 4 1)).unit, r)
  | .loopLimits r, s => some (opLimits, (s.loop (r.u 4 1)).unit, r)
  | .loopClose r, s => some (opClose, (s.loop (r.u 4 1)).unit, r)
  | .loopOpen r, s => some (opOpen, (s.loop (r.u 0 1)).unit, r)
  | .valueWrite r, _ => some (opValueWrite, uLane 0, r)
  | .loopStatus r, s => some (opLoopStatus, (s.loop (r.u 0 1)).unit, r)
  | .loopRead r, s => some (opLoopRead, (s.loop (r.u 0 1)).unit, r)
  | .loopLanes r, _ => some (opLanes, supervisorOf islCtl, r)
  | .loopTrace r, _ => some (opTrace, uLane (if (r.u 0 1) ≤ 3 then (r.u 0 1) else 0), r)
  | .loopTune r, s => some (opTune, (s.loop (r.u 4 1)).unit, r)
  | .tuneAbort r, s => some (opTuneAbort, (s.loop (r.u 0 1)).unit, r)
  | .tuneCommit r, s => some (opTuneCommit, (s.loop (r.u 4 1)).unit, r)
  | .functionDefine r, s => some (opFunctionDefine, uLane (s.pickLane (r.u 4 1) (r.u 7 1)), r)
  | .functionClear r, s => some (opFunctionClear, (s.inst (r.u 4 1)).unit, r)
  | .functionStart r, s => some (opFunctionStart, (s.inst (r.u 4 1)).unit, r)
  | .functionStop r, s => some (opFunctionStop, (s.inst (r.u 0 1)).unit, r)
  | .functionParams r, s => some (opFunctionParams, (s.inst (r.u 4 1)).unit, r)
  | .functionStatus r, s => some (opFunctionStatus, (s.inst (r.u 0 1)).unit, r)
  | .calibrate r, s => some (opCalibrate, (s.inst (r.u 4 1)).unit, r)
  | .yieldTotals r, s => some (opTotals, (s.inst (r.u 0 1)).unit, r)
  | .switchConfig r, _ => some (opSwitchConfig, swUnitOf (r.u 4 1), r)
  | .switchSet r, _ => some (opSet, swUnitOf (r.u 8 1), r)
  | .clearFault r, _ => some (opClearFault, swUnitOf (r.u 4 1), r)
  | .serviceDrive r, _ => some (opServiceDrive, swUnitOf (r.u 4 1), r)
  | .switchStatus r, _ => some (opSwitchStatus, swUnitOf (r.u 0 1), r)
  | .readConfig r, _ => some (opReadConfig, swUnitOf (r.u 0 1), r)
  | .groupStatus r, _ => some (opGroupStatus, uGroup 0, r)
  | .implementSet r, _ => some (opImplementSet, uSection, r)
  | .sectionsSet r, _ => some (opSectionsSet, uSection, r)
  | .sectionEngine r, _ => some (opEngine, uSection, r)
  | .sectionOverride r, _ => some (opOverride, uSection, r)
  | .sectionSchedule r, _ => some (opSchedule, uSection, r)
  | .edgeCancel r, _ => some (opEdgeCancel, uSection, r)
  | .sectionStatus r, _ => some (opSectionStatus, uSection, r)
  | .navConfig r, _ => some (opNavConfig, uBaseband, r)
  | .channelSet r, _ => some (opChannelSet, uBaseband, r)
  | .channelStatus r, _ => some (opChannelStatus, uBaseband, r)
  | .acqAid r, _ => some (opAcqAid, uBaseband, r)
  | .orbitAid r, _ => some (opOrbitAid, uBaseband, r)
  | .navRestart r, _ => some (opNavRestart, uBaseband, r)
  | .keptStatus r, _ => some (opKeptStatus, uBaseband, r)
  | .frontendStatus r, _ => some (opFrontendStatus, uBaseband, r)
  | .solutionConfig r, _ => some (opSolutionConfig, uFusion, r)
  | .solutionRead r, _ => some (opSolutionRead, uFusion, r)
  | .guideLine r, _ => some (opGuideLine, uFusion, r)
  | .steer r, _ => some (opSteer, uFusion, r)
  | .rtkStatus r, _ => some (opRtkStatus, uRtk, r)
  | .timeConfig r, _ => some (opTimeConfig, uTime, r)
  | .timeStatus r, _ => some (opTimeStatus, uTime, r)
  | .cameraPortConfig r, _ => some (opCameraPortConfig, camUnit r, r)
  | .cameraEnable r, _ => some (opCameraEnable, camUnit r, r)
  | .fsyncSet r, _ => some (opFsyncSet, camUnit r, r)
  | .ctrlXfer r, _ => some (opCtrlXfer, camUnit r, r)
  | .cameraPortStatus r, _ => some (opCameraPortStatus, camUnit r, r)
  | .stageSet r, s => some (opStageSet, s.pipeUnit r, r)
  | .outputSet r, s => some (opOutputSet, s.pipeUnit r, r)
  | .outputStatus r, s => some (opOutputStatus, s.pipeUnit r, r)
  | .pipeStatus r, _ => some (opPipeStatus, supervisorOf islVis, r)
  | .modelLoad r, _ => some (opModelLoad, uCluster 0, r)
  | .modelUnload r, _ => some (opModelUnload, uCluster 0, r)
  | .jobDefine r, _ => some (opJobDefine, homeCluster (min 63 (r.u 0 1)), r)
  | .jobClear r, _ => some (opJobClear, homeCluster (min 63 (r.u 0 1)), r)
  | .jobStart r, _ => some (opJobStart, homeCluster (min 63 (r.u 0 1)), r)
  | .jobStop r, _ => some (opJobStop, homeCluster (min 63 (r.u 0 1)), r)
  | .poolDone r, _ => some (opPoolDone, homeCluster (min 63 (r.u 0 1)), r)
  | .jobStatus r, _ => some (opJobStatus, homeCluster (min 63 (r.u 0 1)), r)
  | .busConfig r, _ => some (opBusConfig, busUnit r, r)
  | .busControl r, _ => some (opBusControl, busUnit r, r)
  | .filterSet r, _ => some (opFilterSet, busUnit r, r)
  | .compatSet r, _ => some (opCompatSet, busUnit r, r)
  | .queueConfig r, _ => some (opQueueConfig, busUnit r, r)
  | .rxRead r, _ => some (opRxRead, busUnit r, r)
  | .txWrite r, _ => some (opTxWrite, busUnit r, r)
  | .txAbort r, _ => some (opTxAbort, busUnit r, r)
  | .busStatus r, _ => some (opBusStatus, busUnit r, r)
  | .cfClaim r, _ => some (opCfClaim, busUnit r, r)
  | .pgnSend r, _ => some (opPgnSend, busUnit r, r)
  | .ethPortConfig r, _ => some (opEthPortConfig, uSwitch, r)
  | .ethPortStatus r, _ => some (opEthPortStatus, uSwitch, r)
  | .gateSet r, _ => some (opGateSet, uSwitch, r)
  | .syncConfig r, _ => some (opSyncConfig, uSwitch, r)
  | .ipConfig r, _ => some (opIpConfig, uSwitch, r)
  | .nodeSet r, _ => some (opNodeSet, uSwitch, r)
  | .fleetConfig r, _ => some (opFleetConfig, uFleet, r)
  | .fleetStatus r, _ => some (opFleetStatus, uFleet, r)
  | .mapMerge r, _ => some (opMapMerge, uFleet, r)
  | .fiConfig r, _ => some (opFiConfig, uFi, r)
  | .foConfig r, _ => some (opFoConfig, uFo, r)
  | .siConfig r, _ => some (opSiConfig, uSensor, r)
  | .foSet r, _ => some (opFoSet, uFo, r)
  | .foClear r, _ => some (opFoClear, uFo, r)
  | .fieldStatus r, _ => some (opFieldStatus, supervisorOf islFld, r)
  | .siStatus r, _ => some (opSiStatus, uSensor, r)
  | .displayConfig r, _ => some (opDisplayConfig, uDisplay, r)
  | .waveformLoad r, _ => some (opWaveformLoad, uDisplay, r)
  | .displayUpdate r, _ => some (opDisplayUpdate, uDisplay, r)
  | .frontLight r, _ => some (opFrontLight, uDisplayPower, r)
  | .displayStatus r, _ => some (opDisplayStatus, uDisplay, r)
  | .safetyStatus r, _ => some (opSafetyStatus, uSafety, r)
  | .configRead r, _ => some (opConfigRead, uSafety, r)
  | .configStage r, _ => some (opConfigStage, uSafety, r)
  | .configCommit r, _ => some (opConfigCommit, uSafety, r)
  | .safetyValidate r, _ => some (opValidate, uSafety, r)
  | .passwordSet r, _ => some (opPasswordSet, uSafety, r)
  | .logRead r, _ => some (opLogRead, uSafety, r)
  | .offRequest r, _ => some (opOffRequest, uSafety, r)
  | .imageInstall r, _ => some (opImageInstall, uSecurity, r)
  | .imageActivate r, _ => some (opImageActivate, uSecurity, r)
  | .imageConfirm r, _ => some (opImageConfirm, uSecurity, r)
  | .imageRevert r, _ => some (opImageRevert, uSecurity, r)
  | .imageStatus r, _ => some (opImageStatus, uSecurity, r)
  | .policySet r, _ => some (opPolicySet, uSecurity, r)
  | .recoveryEnter r, _ => some (opRecoveryEnter, uSecurity, r)
  | .recoveryLoad r, _ => some (opRecoveryLoad, uSecurity, r)
  | .installAbort r, _ => some (opInstallAbort, uSecurity, r)
  | .identitySet r, _ => some (opIdentitySet, uSecurity, r)
  | .keyPublic r, _ => some (opKeyPublic, uSecurity, r)
  | .keySet r, _ => some (opKeySet, uSecurity, r)
  | .keyClear r, _ => some (opKeyClear, uSecurity, r)
  | .keyStatus r, _ => some (opKeyStatus, uSecurity, r)
  | .doorbell _ _ _ _, _ | .resetCh _ _ _ _, _ | .chEnable _ _ _ _, _ | .w1cClear _ _ _ _ _, _ | .rplHeadWrite _ _ _ _, _
  | .timeLoRead _ _, _ | .registerWrite _ _ _ _, _ | .c24Go _ _ _, _ | .requestFetch _ _ _, _ | .eventDelivery _, _
  | .coalTimeout _ _, _ | .hubRestart _, _ | .heldItemDiscard _ _, _ | .pcieFunctionReset _ _, _ | .ringDmaFail _ _, _
  | .tunnelConnect _ _ _ _, _ | .tunnelOpenRecord _ _ _ _, _ | .tunnelMessage _ _ _, _ | .tunnelClose _ _, _
  | .tunnelIdleTimeout _ _, _ | .cascadeMessage _ _ _, _ | .hostWatchExpiry _ _, _ | .moduleSupervisorBeat _, _
  | .jackInTheBoxExpiry _, _ | .supWatchdogExpiry _, _ | .unitHeartbeatLoss _ _, _ | .islandReportTimeout _ _, _
  | .islandReset _ _, _ | .unitRejoin _ _, _ | .fencedUnitTimeout _ _, _ | .powerOnStart _ _ _, _ | .resetNAssert _ _, _
  | .resetNRelease _, _ | .strapSamplingDone _ _ _, _ | .holdupWaitEnd _ _, _ | .bootCommit _, _ | .ledgerReplay _, _
  | .crankHoldEntry _ _ _, _ | .crankHoldExit _ _ _ _ _, _ | .crankLowTimeout _ _ _ _, _ | .supplyBelow3v _ _ _, _
  | .overvoltageCut _ _ _, _ | .overvoltageRestore _ _ _, _ | .studLost _ _ _, _ | .studReturned _ _ _, _
  | .reverseBattery _ _ _, _ | .holdupTest _ _, _ | .thermalDerateCheck _ _, _ | .powerBudgetExceeded _ _, _
  | .keepAwakeExpiry _ _, _ | .rungConditionCheck _, _ | .rungWaitTimeout _, _ | .autoDescentExpiry _ _, _ | .ignRise _, _
  | .ignFall _, _ | .wakeInEdge _ _, _ | .canWakePattern _ _, _ | .canSelectiveWake _ _ _ _ _, _ | .tc10Wake _ _, _
  | .rtcAlarm _, _ | .usbVbusRise _, _ | .aonBackupTimeout _, _ | .modeRequest _, _ | .islandReady _ _, _
  | .islandRefusal _ _ _, _ | .prepareTimeout _, _ | .modeCommit _ _, _ | .forcedSafeHold _ _, _ | .autoLimpEntry _, _
  | .autoSafeHold _, _ | .convergenceDeadline _ _, _ | .challengeExpiry _ _, _ | .authLockoutEnd _ _, _
  | .selftestEnd _ _ _ _, _ | .moduleTimeTick _, _ | .promotionWindow _ _, _ | .migrationDone _ _ _, _
  | .writeBackStart _ _ _ _, _ | .writeBackDone _ _ _, _ | .shadowWrite _ _ _, _ | .tierDegraded _ _ _ _, _
  | .restoreChunkDone _ _ _, _ | .messagePresent _ _ _ _, _ | .flitDeliver _ _ _, _ | .creditReturn _ _ _, _
  | .ringPosted _ _ _ _ _, _ | .descriptorComplete _ _ _, _ | .streamDrainTimeout _ _, _ | .linkPresence _ _, _
  | .linkUp _ _ _ _ _ _, _ | .linkTrainingTimeout _, _ | .linkRetryTimer _, _ | .linkErrorRetrain _ _ _, _ | .linkFlitRx _ _, _
  | .linkAckTimer _, _ | .linkNakRx _ _, _ | .linkTimeFlit _ _, _ | .unitExecutionReport _ _, _ | .snapshotTimer _, _
  | .heldRecordDeadline _ _, _ | .outcomeDiscard _ _, _ | .thermalMemoryCopy _, _ | .pathLostHold _ _, _ | .holdMsExpiry _ _, _
  | .loopTick _, _ | .tuneSettleEnd _ _, _ | .tuneHalfCycleTimeout _ _, _ | .tuneTimeLimit _ _, _ | .signalMessage _ _ _ _, _
  | .instanceTick _, _ | .onDelayExpiry _ _, _ | .governorPeriod _ _, _ | .yieldStep _ _, _ | .totalsSave _, _
  | .channelTick _ _ _ _, _ | .shedStepTimer _ _, _ | .inrushTimerExpiry _ _ _ _, _ | .hardCurrentLimit _ _ _, _
  | .retryWaitExpiry _ _, _ | .retryRestore _ _, _ | .disturbanceRaise _ _ _ _, _ | .disturbanceClear _ _ _ _, _
  | .lampCompensation _ _, _ | .regErrorTimer _ _ _, _ | .openLoadTimer _ _ _, _ | .offDiagCheck _ _ _ _, _
  | .offtestPulse _ _, _ | .offtestPulseEnd _ _ _, _ | .junctionOvertemp _ _, _ | .gsnsOpenDetect _ _, _
  | .serviceDriveTimeout _, _ | .ambientUpdate _ _, _ | .edgeExecute _ _, _ | .nodeCommandSend _ _, _ | .nodeAckRx _ _ _ _, _
  | .nodeAckTimeout _ _, _ | .nodeSyncSend _ _, _ | .engineSolution _, _ | .navStaleHold _, _ | .navHoldExpiry _, _
  | .navReturn _, _ | .navStart _ _ _, _ | .firstFix _ _ _ _ _ _ _, _ | .channelReallocation _ _, _ | .trackLoss _ _, _
  | .mpIndexUpdate _ _, _ | .bocFalseLock _ _ _, _ | .spectrumUpdate _ _ _ _, _ | .antennaBiasFault _ _ _, _
  | .biasRetry _ _ _, _ | .gainCheck _ _ _ _, _ | .measurementEpoch _ _, _ | .rtcmBytes _ _, _ | .gnssSolution _ _ _ _, _
  | .fusedSolution _ _, _ | .fixLowTimeout _, _ | .isoGuidanceCommand _, _ | .deadReckoningStart _, _ | .drLimitExpiry _, _
  | .holdoverStart _ _, _ | .holdoverLimit _ _, _ | .gnssTimeReturn _ _, _ | .timingMessage _ _ _, _ | .timePulse _, _
  | .cameraLinkLock _ _, _ | .cameraLinkLoss _ _, _ | .pocOvercurrent _ _ _, _ | .pocTotalLimit _ _, _ | .bridgeSupplyFault _, _
  | .bridgeResetRelease _, _ | .fsyncPulse _ _, _ | .csiPacket _ _ _, _ | .frameTimeout _ _, _ | .noFramesTimeout _ _, _
  | .frameEnd _ _, _ | .pipelineLine _ _, _ | .pipelineFrameOutput _ _, _ | .inferenceInput _ _ _ _, _ | .inputPlacement _ _, _
  | .runStart _, _ | .layerPreempt _ _, _ | .runEnd _ _ _, _ | .poolTimeout _ _ _, _ | .canFrameRx _ _ _, _
  | .txNotBefore _ _ _, _ | .txAttemptEnd _ _ _ _, _ | .busError _ _ _ _ _, _ | .busOffDelayExpiry _ _, _
  | .recoveryComplete _ _, _ | .queueBatchTimeout _ _ _, _ | .addressClaimTimer _ _ _, _ | .transportPacketRx _ _ _, _
  | .transportTimeout _ _ _, _ | .bamPacketTimer _ _ _, _ | .ethFrameRx _ _ _, _ | .addressAgeing _ _, _
  | .ethLinkChange _ _ _ _ _, _ | .gptpSyncTx _, _ | .gptpAnnounceTx _, _ | .pdelayTx _, _ | .gateEntryStart _ _, _
  | .gateListAdopt _ _, _ | .mergeJobEnd _, _ | .fleetExchange _, _ | .fleetDatagramRx _ _ _, _ | .fsupLow _ _, _
  | .fsupLost _ _, _ | .fsupRestored _ _, _ | .fldConverterFail _, _ | .fiLevelAccept _ _ _ _, _ | .fiChangeMessage _, _
  | .wireBreakDetect _ _ _, _ | .wireBreakClear _ _ _, _ | .foShort _ _ _, _ | .foOvertemp _ _ _ _, _ | .foOpenLoad _ _ _, _
  | .siConversion _ _ _ _, _ | .shuntReenable _ _, _ | .acousticHit _ _, _ | .sup5Fault _ _ _, _ | .sup5Retry _ _ _ _, _
  | .panelDetectChange _ _ _ _, _ | .railPowerUp _, _ | .railFault _ _, _ | .railRetry _, _ | .dischargeSequence _, _
  | .displayIdleTimeout _, _ | .panelTempTimeout _, _ | .updateStart _ _, _ | .displayFrameEnd _, _ | .restoration _ _, _
  | .frontLightFault _, _ | .safetyLogicCycle _ _, _ | .safeInSample _ _, _ | .safeInAccept _ _, _ | .inputPathTest _ _, _
  | .safeRstEdge _ _, _ | .safeRstStuck _, _ | .safeTestPulse _ _, _ | .safeTestPulseEnd _ _ _, _ | .safeOutOvercurrent _ _, _
  | .safeOpenLoad _ _ _, _ | .stopDelayExpiry _ _, _ | .ramMarch _ _, _ | .codeCrcCheck _ _, _ | .clockCompare _ _, _
  | .safSelftest _ _, _ | .installDataComplete _ _, _ | .installTimeout _, _ | .recoverySession _ _, _ | .loaderCopyDone _ _, _
  | .trialRejoinTimeout _ _, _ | .confirmTimeout _ _, _ | .perstNRelease _, _ | .gsnsRestored _ _, _ | .signalAcquired _ _, _
  | .pullInLock _ _, _ | .navDataDecoded _ _, _ | .busIntegrated _ _, _ | .rstStuckClear _, _ | .crankLowTimerReset _, _
  | .plcaFallback _ _, _ | .farTrained _, _ | .recoverySessionClose _, _ | .usbVbusFall _, _ => none

end Sys2Proof
end

