-- ==== Sys2Proof/WellFormed.lean ====
section
/-! DEFINITION. Which commands name only objects the module has. -/

namespace Sys2Proof

open Machine

/-- The operands name channels, loops, ports and other objects that the module has (R24, R150, R344, R416): a command for any other
object does not exist. Nothing else is asked of a command: what a request holds is checked where it is served. -/
def Instr.wf : Instr → Bool
  | .doorbell _ _ ch _ | .resetCh _ _ ch _ | .chEnable _ _ ch _ | .rplHeadWrite _ _ ch _ | .requestFetch _ ch _
  | .coalTimeout _ ch | .heldItemDiscard _ ch | .ringDmaFail _ ch | .cascadeMessage _ ch _ | .hostWatchExpiry _ ch
  | .keepAwakeExpiry _ ch | .outcomeDiscard _ ch => decide (ch < 64)
  | .w1cClear _ _ off _ _ => off % 4 = 0 && off < 0x10000
  | .registerWrite _ src off _ => off % 4 = 0 && (off < 0x10000 || (src == .pcie && off < 0x11000))
  | .timeLoRead _ _ | .c24Go _ _ _ | .eventDelivery _ | .hubRestart _ | .pcieFunctionReset _ _
  | .moduleSupervisorBeat _ | .jackInTheBoxExpiry _ | .supWatchdogExpiry _ | .powerOnStart _ _ _ | .resetNAssert _ _
  | .resetNRelease _ | .holdupWaitEnd _ _ | .bootCommit _ | .ledgerReplay _ | .crankHoldEntry _ _ _
  | .crankHoldExit _ _ _ _ _ | .crankLowTimeout _ _ _ _ | .supplyBelow3v _ _ _ | .overvoltageCut _ _ _
  | .overvoltageRestore _ _ _ | .studLost _ _ _ | .studReturned _ _ _ | .reverseBattery _ _ _ | .holdupTest _ _
  | .thermalDerateCheck _ _ | .powerBudgetExceeded _ _ | .rungConditionCheck _ | .rungWaitTimeout _ | .ignRise _
  | .ignFall _ | .wakeInEdge _ _ | .rtcAlarm _ | .usbVbusRise _ | .aonBackupTimeout _ | .prepareTimeout _
  | .autoLimpEntry _ | .autoSafeHold _ | .moduleTimeTick _ | .promotionWindow _ _ | .migrationDone _ _ _
  | .writeBackStart _ _ _ _ | .writeBackDone _ _ _ | .shadowWrite _ _ _ | .tierDegraded _ _ _ _
  | .restoreChunkDone _ _ _ | .messagePresent _ _ _ _ | .flitDeliver _ _ _ | .creditReturn _ _ _
  | .ringPosted _ _ _ _ _ | .descriptorComplete _ _ _ | .streamDrainTimeout _ _ | .linkPresence _ _
  | .linkUp _ _ _ _ _ _ | .linkTrainingTimeout _ | .linkRetryTimer _ | .linkErrorRetrain _ _ _ | .linkFlitRx _ _
  | .linkAckTimer _ | .linkNakRx _ _ | .linkTimeFlit _ _ | .unitExecutionReport _ _ | .snapshotTimer _
  | .heldRecordDeadline _ _ | .thermalMemoryCopy _ | .loopTick _ | .instanceTick _ | .totalsSave _
  | .channelTick _ _ _ _ | .shedStepTimer _ _ | .disturbanceRaise _ _ _ _ | .disturbanceClear _ _ _ _
  | .lampCompensation _ _ | .gsnsOpenDetect _ _ | .serviceDriveTimeout _ | .ambientUpdate _ _ | .edgeExecute _ _
  | .nodeCommandSend _ _ | .nodeAckTimeout _ _ | .engineSolution _ | .navStaleHold _ | .navHoldExpiry _ | .navReturn _
  | .navStart _ _ _ | .firstFix _ _ _ _ _ _ _ | .channelReallocation _ _ | .mpIndexUpdate _ _ | .measurementEpoch _ _
  | .rtcmBytes _ _ | .gnssSolution _ _ _ _ | .fusedSolution _ _ | .fixLowTimeout _ | .isoGuidanceCommand _
  | .deadReckoningStart _ | .drLimitExpiry _ | .holdoverStart _ _ | .holdoverLimit _ _ | .gnssTimeReturn _ _
  | .timingMessage _ _ _ | .timePulse _ | .pocTotalLimit _ _ | .bridgeSupplyFault _ | .bridgeResetRelease _
  | .runStart _ | .addressAgeing _ _ | .gptpSyncTx _ | .gptpAnnounceTx _ | .pdelayTx _ | .mergeJobEnd _
  | .fleetExchange _ | .fsupLow _ _ | .fsupLost _ _ | .fsupRestored _ _ | .fldConverterFail _ | .fiChangeMessage _
  | .panelDetectChange _ _ _ _ | .railPowerUp _ | .railFault _ _ | .railRetry _ | .dischargeSequence _
  | .displayIdleTimeout _ | .panelTempTimeout _ | .updateStart _ _ | .displayFrameEnd _ | .restoration _ _
  | .frontLightFault _ | .safetyLogicCycle _ _ | .safeInSample _ _ | .inputPathTest _ _ | .safeRstEdge _ _
  | .safeRstStuck _ | .ramMarch _ _ | .codeCrcCheck _ _ | .clockCompare _ _ | .installDataComplete _ _
  | .installTimeout _ | .recoverySession _ _ | .perstNRelease _ | .gsnsRestored _ _ | .navDataDecoded _ _
  | .rstStuckClear _ | .crankLowTimerReset _ | .plcaFallback _ _ | .farTrained _ | .recoverySessionClose _
  | .usbVbusFall _ => true
  | .tunnelConnect _ session port _ => session < 8 && port < 7
  | .tunnelOpenRecord _ session _ _ | .tunnelMessage _ session _ | .tunnelClose _ session
  | .tunnelIdleTimeout _ session => decide (session < 8)
  | .identify r | .inventory r | .timeRead r | .channelBind r | .subscribe r | .compatView r | .watchdogSet r
  | .hostWatch r | .hostBeat r | .rungRequest r | .keepAwake r | .wakeConfig r | .canWakeFilter r | .descentSet r
  | .powerStatus r | .modeRequest r | .modeQuery r | .authChallenge r | .selftest r | .counterRead r | .counterClear r
  | .thermalRead r | .place r | .placementRelease r | .placementPin r | .placementMap r | .placementUnmap r
  | .placementSync r | .placementQuery r | .placementCapacity r | .placementList r | .quotaSet r | .jobPool r
  | .bootViewSet r | .streamCreate r | .streamAttach r | .streamDetach r | .streamDestroy r | .streamQuery r
  | .linkConfig r | .linkStatus r | .linkRetrain r | .ledgerStatus r | .ledgerRead r | .journalConfig r
  | .replayControl r | .ledgerOutputs r | .loopDefine r | .loopClear r | .loopCoeff r | .loopLimits r | .loopClose r
  | .loopOpen r | .valueWrite r | .loopStatus r | .loopRead r | .loopLanes r | .loopTrace r | .loopTune r
  | .tuneAbort r | .tuneCommit r | .functionDefine r | .functionClear r | .functionStart r | .functionStop r
  | .functionParams r | .functionStatus r | .calibrate r | .yieldTotals r | .switchConfig r | .switchSet r
  | .clearFault r | .serviceDrive r | .switchStatus r | .readConfig r | .groupStatus r | .implementSet r
  | .sectionsSet r | .sectionEngine r | .sectionOverride r | .sectionSchedule r | .edgeCancel r | .sectionStatus r
  | .navConfig r | .channelSet r | .channelStatus r | .acqAid r | .orbitAid r | .navRestart r | .keptStatus r
  | .frontendStatus r | .solutionConfig r | .solutionRead r | .guideLine r | .steer r | .rtkStatus r | .timeConfig r
  | .timeStatus r | .cameraPortConfig r | .cameraEnable r | .fsyncSet r | .ctrlXfer r | .cameraPortStatus r
  | .stageSet r | .outputSet r | .outputStatus r | .pipeStatus r | .modelLoad r | .modelUnload r | .jobDefine r
  | .jobClear r | .jobStart r | .jobStop r | .poolDone r | .jobStatus r | .busConfig r | .busControl r | .filterSet r
  | .compatSet r | .queueConfig r | .rxRead r | .txWrite r | .txAbort r | .busStatus r | .cfClaim r | .pgnSend r
  | .ethPortConfig r | .ethPortStatus r | .gateSet r | .syncConfig r | .ipConfig r | .nodeSet r | .fleetConfig r
  | .fleetStatus r | .mapMerge r | .fiConfig r | .foConfig r | .siConfig r | .foSet r | .foClear r | .fieldStatus r
  | .siStatus r | .displayConfig r | .waveformLoad r | .displayUpdate r | .frontLight r | .displayStatus r
  | .safetyStatus r | .configRead r | .configStage r | .configCommit r | .safetyValidate r | .passwordSet r
  | .logRead r | .offRequest r | .imageInstall r | .imageActivate r | .imageConfirm r | .imageRevert r | .imageStatus r
  | .policySet r | .recoveryEnter r | .recoveryLoad r | .installAbort r | .identitySet r | .keyPublic r | .keySet r
  | .keyClear r | .keyStatus r => decide (r.ch < 64)
  | .unitHeartbeatLoss _ unit | .unitRejoin _ unit | .fencedUnitTimeout _ unit | .convergenceDeadline _ unit => isUnit unit
  | .islandReportTimeout _ island | .islandReset _ island | .islandReady _ island => decide (island < 12)
  | .strapSamplingDone _ recovLow pcieLow => recovLow ≤ 16 && pcieLow ≤ 16
  | .autoDescentExpiry _ target => inRange target 4 6
  | .canWakePattern _ mb | .nodeSyncSend _ mb | .canFrameRx _ mb _ | .txAttemptEnd _ mb _ _ | .busError _ mb _ _ _
  | .busOffDelayExpiry _ mb | .recoveryComplete _ mb | .transportPacketRx _ mb _ | .transportTimeout _ mb _
  | .bamPacketTimer _ mb _ | .busIntegrated _ mb => decide (mb < 12)
  | .canSelectiveWake _ mb _ _ data => mb < 12 && data.length ≤ 8
  | .tc10Wake _ port | .gateEntryStart _ port | .gateListAdopt _ port => decide (port < 5)
  | .islandRefusal _ unit reason => isUnit unit && inRange reason 1 3
  | .modeCommit _ missed | .forcedSafeHold _ missed => missed.all isUnit
  | .challengeExpiry _ kind | .authLockoutEnd _ kind => inRange kind 1 2
  | .selftestEnd _ unit result _ => isUnit unit && (result == 0 || result == 1 || result == 3)
  | .pathLostHold _ path => path != .unbound
  | .holdMsExpiry _ sw => decide (sw < 48)
  | .tuneSettleEnd _ loop | .tuneHalfCycleTimeout _ loop | .tuneTimeLimit _ loop => decide (loop < 256)
  | .signalMessage _ lane _ _ => decide (lane < 4)
  | .onDelayExpiry _ inst | .governorPeriod _ inst | .yieldStep _ inst => decide (inst < 64)
  | .inrushTimerExpiry _ ch _ _ | .hardCurrentLimit _ ch _ | .retryWaitExpiry _ ch | .retryRestore _ ch
  | .regErrorTimer _ ch _ | .openLoadTimer _ ch _ | .offDiagCheck _ ch _ _ | .offtestPulse _ ch
  | .offtestPulseEnd _ ch _ | .junctionOvertemp _ ch => decide (ch < 48)
  | .nodeAckRx _ mb _ _ => mb.all fun n => n < 12
  | .trackLoss _ ch | .bocFalseLock _ ch _ | .signalAcquired _ ch | .pullInLock _ ch => decide (ch < 320)
  | .spectrumUpdate _ ant band _ | .gainCheck _ ant band _ => ant < 2 && band < 3
  | .antennaBiasFault _ ant _ | .biasRetry _ ant _ => decide (ant < 2)
  | .cameraLinkLock _ port | .cameraLinkLoss _ port | .pocOvercurrent _ port _ => decide (port < 12)
  | .fsyncPulse _ port | .csiPacket _ port _ | .frameTimeout _ port | .noFramesTimeout _ port | .frameEnd _ port
  | .pipelineFrameOutput _ port => decide (port < 16)
  | .pipelineLine _ pipe => decide (pipe < 2)
  | .inferenceInput _ job _ _ | .inputPlacement _ job | .layerPreempt _ job | .runEnd _ job _ | .poolTimeout _ job _ => decide (job < 64)
  | .txNotBefore _ mb obj => mb < 12 && obj < 64
  | .queueBatchTimeout _ mb queue => mb < 12 && queue < 4
  | .addressClaimTimer _ mb cf => mb < 12 && cf < 4
  | .ethFrameRx _ port _ | .fleetDatagramRx _ port _ => decide (port < 8)
  | .ethLinkChange _ port _ _ _ => decide (port < 7)
  | .fiLevelAccept _ fi _ _ | .wireBreakDetect _ fi _ | .wireBreakClear _ fi _ => decide (fi < 32)
  | .foShort _ fo _ | .foOvertemp _ fo _ _ | .foOpenLoad _ fo _ => decide (fo < 16)
  | .siConversion _ si _ _ | .shuntReenable _ si | .acousticHit _ si => decide (si < 16)
  | .sup5Fault _ sup _ | .sup5Retry _ sup _ _ => decide (sup < 4)
  | .safeInAccept _ input => decide (input < 8)
  | .safeTestPulse _ out | .safeTestPulseEnd _ out _ | .safeOutOvercurrent _ out | .safeOpenLoad _ out _ => decide (out < 4)
  | .stopDelayExpiry _ fn => decide (fn < 8)
  | .safSelftest _ fault => fault ≤ 8
  | .loaderCopyDone _ cls | .trialRejoinTimeout _ cls | .confirmTimeout _ cls => isClass cls

/-- Commands that name only objects the module has. -/
def WellFormed (i : Instr) : Prop := i.wf = true

end Sys2Proof
end

