-- ==== Sys2Proof/Certificates/Slice0/Obligations.lean ====
section
/-! DEFINITION. The statements for the provers: what each family of commands does where it is taken, the rules of the spec that
command by command or over the whole block say more, and what every step keeps. -/

open Sys2Proof Sys2Proof.Machine

/-- For each of the 21 commands of the mailbox hub family: a request that is taken (its channel exists, its gate passes it, its
  OP has no refusal for it) and an event whose condition holds answer the next state that the effect gives, and every part of
  the state outside the list named with the command is as before. -/
def Obligations.HubCommandsRun : Prop :=
  (∀ (t : Nat) (src : Path) (ch : Nat) (w : U32) s, (ch < 64) → whenDoorbell t src ch w (s.atTime t) = true → Runs [.time,
    .hub, .power, .rung, .islands, .diag, .jack, .ledger, .control, .stage, .place, .fabric, .nav, .buses, .eth, .freeCount]
    (.doorbell t src ch w) s (doneDoorbell t src ch w (s.atTime t))) ∧
  (∀ (t : Nat) (src : Path) (ch : Nat) (w : U32) s, (ch < 64) → whenResetCh t src ch w (s.atTime t) = true → Runs [.time, .hub,
    .power, .rung, .islands, .diag, .jack, .ledger, .control, .stage, .place, .fabric, .nav, .buses, .eth, .freeCount]
    (.resetCh t src ch w) s (doneResetCh t src ch w (s.atTime t))) ∧
  (∀ (t : Nat) (src : Path) (ch : Nat) (w : U32) s, (ch < 64) → whenChEnable t src ch w (s.atTime t) = true → Runs [.time,
    .hub, .power, .rung, .islands, .diag, .jack, .ledger, .control, .stage, .place, .fabric, .nav, .buses, .eth, .freeCount]
    (.chEnable t src ch w) s (doneChEnable t src ch w (s.atTime t))) ∧
  (∀ (t : Nat) (src : Path) (off : Nat) (w : U32) (set : U32) s, (off % 4 = 0 && off < 0x10000) = true → Runs [.time, .hub,
    .power, .rung, .islands, .diag, .jack, .ledger, .control, .stage, .place, .fabric, .nav, .buses, .eth, .freeCount]
    (.w1cClear t src off w set) s (doneW1cClear t src off w set (s.atTime t))) ∧
  (∀ (t : Nat) (src : Path) (ch : Nat) (w : U32) s, (ch < 64) → whenRplHeadWrite t src ch w (s.atTime t) = true → Runs [.time,
    .hub, .power, .rung, .islands, .diag, .jack, .ledger, .control, .stage, .place, .fabric, .nav, .buses, .eth, .freeCount]
    (.rplHeadWrite t src ch w) s (doneRplHeadWrite t src ch w (s.atTime t))) ∧
  (∀ (t : Nat) (src : Path) s, whenTimeLoRead t src (s.atTime t) = true → Runs [.time, .hub] (.timeLoRead t src) s
    (doneTimeLoRead t src (s.atTime t))) ∧
  (∀ (t : Nat) (src : Path) (off : Nat) (w : U32) s, (off % 4 = 0 && (off < 0x10000 || (src == .pcie && off < 0x11000))) = true
    → whenRegisterWrite t src off w (s.atTime t) = true → Runs [.time, .hub, .power, .rung, .islands, .diag, .jack, .ledger,
    .control, .stage, .place, .fabric, .nav, .buses, .eth, .freeCount] (.registerWrite t src off w) s (doneRegisterWrite t src
    off w (s.atTime t))) ∧
  (∀ (t : Nat) (src : Path) (w : U32) s, whenC24Go t src w (s.atTime t) = true → Runs [.time, .hub, .diag, .ledger] (.c24Go t
    src w) s (doneC24Go t src w (s.atTime t))) ∧
  (∀ (t : Nat) (ch : Nat) (m : Slot) s, (ch < 64) → whenRequestFetch t ch m (s.atTime t) = true → Runs [.time, .hub, .diag,
    .ledger, .stage, .fabric, .freeCount] (.requestFetch t ch m) s (doneRequestFetch t ch m (s.atTime t))) ∧
  (∀ (t : Nat) (ch : Nat) s, (ch < 64) → whenCoalTimeout t ch (s.atTime t) = true → Runs [.time, .hub, .power, .rung, .islands,
    .diag, .jack, .ledger, .control, .stage, .place, .fabric, .nav, .buses, .eth, .freeCount] (.coalTimeout t ch) s
    (doneCoalTimeout t ch (s.atTime t))) ∧
  (∀ (t : Nat) s, whenHubRestart t (s.atTime t) = true → Runs [.time, .hub, .islands, .diag, .ledger, .update, .freeCount]
    (.hubRestart t) s (doneHubRestart t (s.atTime t))) ∧
  (∀ (t : Nat) (ch : Nat) s, (ch < 64) → whenHeldItemDiscard t ch (s.atTime t) = true → Runs [.time, .hub, .diag]
    (.heldItemDiscard t ch) s (doneHeldItemDiscard t ch (s.atTime t))) ∧
  (∀ (t : Nat) (perst : Bool) s, whenPcieFunctionReset t perst (s.atTime t) = true → Runs [.time, .hub, .power, .rung,
    .islands, .diag, .jack, .ledger, .control, .stage, .place, .fabric, .nav, .buses, .eth, .freeCount] (.pcieFunctionReset t
    perst) s (donePcieFunctionReset t perst (s.atTime t))) ∧
  (∀ (t : Nat) (ch : Nat) s, (ch < 64) → whenRingDmaFail t ch (s.atTime t) = true → Runs [.time, .hub, .power, .rung, .islands,
    .diag, .jack, .ledger, .control, .stage, .place, .fabric, .nav, .buses, .eth, .freeCount] (.ringDmaFail t ch) s
    (doneRingDmaFail t ch (s.atTime t))) ∧
  (∀ (t : Nat) (session : Nat) (port : Nat) (authenticated : Bool) s, (session < 8 && port < 7) = true → whenTunnelConnect t
    session port authenticated (s.atTime t) = true → Runs [.time, .hub, .diag, .eth] (.tunnelConnect t session port
    authenticated) s (doneTunnelConnect t session port authenticated (s.atTime t))) ∧
  (∀ (t : Nat) (session : Nat) (ch : U16) (reserved : U16) s, (session < 8) → whenTunnelOpenRecord t session ch reserved
    (s.atTime t) = true → Runs [.time, .hub, .diag, .ledger, .stage] (.tunnelOpenRecord t session ch reserved) s
    (doneTunnelOpenRecord t session ch reserved (s.atTime t))) ∧
  (∀ (t : Nat) (session : Nat) (m : Slot) s, (session < 8) → whenTunnelMessage t session m (s.atTime t) = true → Runs [.time,
    .hub, .diag, .stage, .fabric] (.tunnelMessage t session m) s (doneTunnelMessage t session m (s.atTime t))) ∧
  (∀ (t : Nat) (session : Nat) s, (session < 8) → whenTunnelClose t session (s.atTime t) = true → Runs [.time, .hub, .stage]
    (.tunnelClose t session) s (doneTunnelClose t session (s.atTime t))) ∧
  (∀ (t : Nat) (session : Nat) s, (session < 8) → whenTunnelIdleTimeout t session (s.atTime t) = true → Runs [.time, .hub,
    .stage] (.tunnelIdleTimeout t session) s (doneTunnelIdleTimeout t session (s.atTime t))) ∧
  (∀ (t : Nat) (ch : Nat) (m : Slot) s, (ch < 64) → whenCascadeMessage t ch m (s.atTime t) = true → Runs [.time, .hub, .diag,
    .ledger, .stage, .fabric] (.cascadeMessage t ch m) s (doneCascadeMessage t ch m (s.atTime t))) ∧
  (∀ (t : Nat) s, whenPerstNRelease t (s.atTime t) = true → Runs [.time, .hub, .power, .rung, .islands, .diag, .jack, .ledger,
    .control, .stage, .place, .fabric, .nav, .buses, .eth, .freeCount] (.perstNRelease t) s (donePerstNRelease t (s.atTime t)))

/-- For each of the 14 commands of the system, watches and island supervision family: a request that is taken (its channel
  exists, its gate passes it, its OP has no refusal for it) and an event whose condition holds answer the next state that the
  effect gives, and every part of the state outside the list named with the command is as before. -/
def Obligations.SystemCommandsRun : Prop :=
  (∀ r s, Taken opIdentify uMaluf r s (fun _ => []) → Runs [.time, .hub, .diag, .ledger, .fabric] (.identify r) s (doneIdentify
    r (s.atTime r.time))) ∧
  (∀ r s, Taken opInventory uMaluf r s (fun _ => []) → Runs [.time, .hub, .diag, .ledger, .fabric] (.inventory r) s
    (doneInventory r (s.atTime r.time))) ∧
  (∀ r s, Taken opTimeRead uMaluf r s (fun _ => []) → Runs [.time, .hub, .diag, .ledger, .fabric, .freeCount] (.timeRead r) s
    (doneTimeRead r (s.atTime r.time))) ∧
  (∀ r s, Taken opChannelBind uMaluf r s (checksChannelBind r) → Runs [.time, .hub, .diag, .ledger, .fabric] (.channelBind r) s
    (doneChannelBind r (s.atTime r.time))) ∧
  (∀ r s, Taken opSubscribe uMaluf r s (checksSubscribe r) → Runs [.time, .hub, .diag, .ledger, .fabric] (.subscribe r) s
    (doneSubscribe r (s.atTime r.time))) ∧
  (∀ r s, Taken opCompatView uMaluf r s (checksCompatView r) → Runs [.time, .hub, .diag, .ledger, .fabric] (.compatView r) s
    (doneCompatView r (s.atTime r.time))) ∧
  (∀ r s, Taken opWatchdogSet uMaluf r s (checksWatchdogSet r) → Runs [.time, .hub, .diag, .jack, .ledger, .fabric]
    (.watchdogSet r) s (doneWatchdogSet r (s.atTime r.time))) ∧
  (∀ r s, Taken opHostWatch uMaluf r s (checksHostWatch r) → Runs [.time, .hub, .diag, .ledger, .fabric] (.hostWatch r) s
    (doneHostWatch r (s.atTime r.time))) ∧
  (∀ r s, Taken opHostBeat uMaluf r s (fun _ => []) → Runs [.time, .hub, .diag, .ledger, .fabric] (.hostBeat r) s (doneHostBeat
    r (s.atTime r.time))) ∧
  (∀ (t : Nat) (ch : Nat) s, (ch < 64) → whenHostWatchExpiry t ch (s.atTime t) = true → Runs [.time, .hub, .change, .diag]
    (.hostWatchExpiry t ch) s (doneHostWatchExpiry t ch (s.atTime t))) ∧
  (∀ (t : Nat) s, whenModuleSupervisorBeat t (s.atTime t) = true → Runs [.time, .jack] (.moduleSupervisorBeat t) s
    (doneModuleSupervisorBeat t (s.atTime t))) ∧
  (∀ (t : Nat) s, whenJackInTheBoxExpiry t (s.atTime t) = true → Runs [.time, .hub, .power, .diag, .jack, .ledger, .control,
    .stage, .fieldIo, .sections] (.jackInTheBoxExpiry t) s (doneJackInTheBoxExpiry t (s.atTime t))) ∧
  (∀ (t : Nat) (unit : Nat) s, (isUnit unit) → whenUnitRejoin t unit (s.atTime t) = true → Runs [.time, .hub, .change, .fences,
    .islands, .diag, .jack, .ledger, .fieldIo, .fabric, .nav, .vision, .buses, .eth, .fleet, .display, .safety, .update]
    (.unitRejoin t unit) s (doneUnitRejoin t unit (s.atTime t))) ∧
  (∀ (t : Nat) (unit : Nat) s, (isUnit unit) → whenFencedUnitTimeout t unit (s.atTime t) = true → Runs [.time, .fences]
    (.fencedUnitTimeout t unit) s (doneFencedUnitTimeout t unit (s.atTime t)))

/-- For each of the 40 commands of the power, start and rungs family: a request that is taken (its channel exists, its gate
  passes it, its OP has no refusal for it) and an event whose condition holds answer the next state that the effect gives, and
  every part of the state outside the list named with the command is as before. -/
def Obligations.PowerCommandsRun : Prop :=
  (∀ (t : Nat) (vA : Int) (vB : Int) s, whenPowerOnStart t vA vB (s.atTime t) = true → Runs [.time, .hub, .power, .rung,
    .islands, .diag, .stage, .nav] (.powerOnStart t vA vB) s (donePowerOnStart t vA vB (s.atTime t))) ∧
  (∀ (t : Nat) (widthNs : Nat) s, whenResetNAssert t widthNs (s.atTime t) = true → Runs [.time, .hub, .power, .rung, .mode,
    .change, .fences, .islands, .auth, .diag, .jack, .ledger, .control, .stage, .functions, .fieldIo, .place, .fabric, .nav,
    .vision, .infer, .buses, .eth, .fleet, .display, .safety, .update, .sections, .freeCount, .deferred] (.resetNAssert t
    widthNs) s (doneResetNAssert t widthNs (s.atTime t))) ∧
  (∀ (t : Nat) s, whenResetNRelease t (s.atTime t) = true → Runs [.time, .hub, .power, .rung, .islands, .diag, .stage, .nav]
    (.resetNRelease t) s (doneResetNRelease t (s.atTime t))) ∧
  (∀ (t : Nat) (recovLow : Nat) (pcieLow : Nat) s, (recovLow ≤ 16 && pcieLow ≤ 16) = true → whenStrapSamplingDone t recovLow
    pcieLow (s.atTime t) = true → Runs [.time, .hub, .power, .mode, .islands, .diag, .jack, .ledger, .stage, .fieldIo, .fabric,
    .nav, .buses, .eth, .display, .safety, .update] (.strapSamplingDone t recovLow pcieLow) s (doneStrapSamplingDone t recovLow
    pcieLow (s.atTime t))) ∧
  (∀ (t : Nat) (energyMj : Nat) s, whenHoldupWaitEnd t energyMj (s.atTime t) = true → Runs [.time, .hub, .power, .diag,
    .ledger, .stage, .fieldIo, .sections] (.holdupWaitEnd t energyMj) s (doneHoldupWaitEnd t energyMj (s.atTime t))) ∧
  (∀ (t : Nat) s, whenBootCommit t (s.atTime t) = true → Runs [.time, .hub, .power, .rung, .epoch, .mode, .change, .auth,
    .diag, .ledger, .control, .stage, .functions, .fieldIo, .place, .nav, .display, .safety, .safetyRecord, .update, .sections]
    (.bootCommit t) s (doneBootCommit t (s.atTime t))) ∧
  (∀ (t : Nat) (vA : Int) (vB : Int) s, whenCrankHoldEntry t vA vB (s.atTime t) = true → Runs [.time, .hub, .power, .diag]
    (.crankHoldEntry t vA vB) s (doneCrankHoldEntry t vA vB (s.atTime t))) ∧
  (∀ (t : Nat) (vA : Int) (vB : Int) (vMin : Int) (lowNs : Nat) s, whenCrankHoldExit t vA vB vMin lowNs (s.atTime t) = true →
    Runs [.time, .hub, .power, .diag, .ledger, .stage, .fieldIo, .sections] (.crankHoldExit t vA vB vMin lowNs) s
    (doneCrankHoldExit t vA vB vMin lowNs (s.atTime t))) ∧
  (∀ (t : Nat) (vA : Int) (vB : Int) (vMin : Int) s, whenCrankLowTimeout t vA vB vMin (s.atTime t) = true → Runs [.time, .hub,
    .power, .rung, .mode, .change, .fences, .islands, .auth, .diag, .jack, .ledger, .control, .stage, .functions, .fieldIo,
    .place, .fabric, .nav, .vision, .infer, .buses, .eth, .fleet, .display, .safety, .update, .sections, .freeCount, .deferred]
    (.crankLowTimeout t vA vB vMin) s (doneCrankLowTimeout t vA vB vMin (s.atTime t))) ∧
  (∀ (t : Nat) (vA : Int) (vB : Int) s, whenSupplyBelow3v t vA vB (s.atTime t) = true → Runs [.time, .hub, .power, .rung,
    .mode, .change, .fences, .islands, .auth, .diag, .jack, .ledger, .control, .stage, .functions, .fieldIo, .place, .fabric,
    .nav, .vision, .infer, .buses, .eth, .fleet, .display, .safety, .update, .sections, .freeCount, .deferred] (.supplyBelow3v
    t vA vB) s (doneSupplyBelow3v t vA vB (s.atTime t))) ∧
  (∀ (t : Nat) (g : Grp) (v : Int) s, whenOvervoltageCut t g v (s.atTime t) = true → Runs [.time, .hub, .power, .diag, .ledger,
    .stage, .sections] (.overvoltageCut t g v) s (doneOvervoltageCut t g v (s.atTime t))) ∧
  (∀ (t : Nat) (g : Grp) (v : Int) s, whenOvervoltageRestore t g v (s.atTime t) = true → Runs [.time, .hub, .power, .diag,
    .ledger, .stage, .sections] (.overvoltageRestore t g v) s (doneOvervoltageRestore t g v (s.atTime t))) ∧
  (∀ (t : Nat) (g : Grp) (v : Int) s, whenStudLost t g v (s.atTime t) = true → Runs [.time, .hub, .power, .diag, .ledger,
    .stage, .sections] (.studLost t g v) s (doneStudLost t g v (s.atTime t))) ∧
  (∀ (t : Nat) (g : Grp) (v : Int) s, whenStudReturned t g v (s.atTime t) = true → Runs [.time, .hub, .power, .diag, .ledger,
    .stage, .sections] (.studReturned t g v) s (doneStudReturned t g v (s.atTime t))) ∧
  (∀ (t : Nat) (vA : Int) (vB : Int) s, whenReverseBattery t vA vB (s.atTime t) = true → Runs [.time, .hub, .power, .rung,
    .mode, .change, .fences, .islands, .auth, .diag, .jack, .ledger, .control, .stage, .functions, .fieldIo, .place, .fabric,
    .nav, .vision, .infer, .buses, .eth, .fleet, .display, .safety, .update, .sections, .freeCount, .deferred] (.reverseBattery
    t vA vB) s (doneReverseBattery t vA vB (s.atTime t))) ∧
  (∀ (t : Nat) (energyMj : Nat) s, whenHoldupTest t energyMj (s.atTime t) = true → Runs [.time, .hub, .power, .diag]
    (.holdupTest t energyMj) s (doneHoldupTest t energyMj (s.atTime t))) ∧
  (∀ (t : Nat) (plate : Int) s, whenThermalDerateCheck t plate (s.atTime t) = true → Runs [.time, .hub, .power, .diag]
    (.thermalDerateCheck t plate) s (doneThermalDerateCheck t plate (s.atTime t))) ∧
  (∀ (t : Nat) (milliwatts : Nat) s, whenPowerBudgetExceeded t milliwatts (s.atTime t) = true → Runs [.time, .hub, .power,
    .diag, .freeCount] (.powerBudgetExceeded t milliwatts) s (donePowerBudgetExceeded t milliwatts (s.atTime t))) ∧
  (∀ r s, Taken opRungRequest uPower r s (checksRungRequest r) → (s.atTime r.time).mode.change = none → Runs [.time, .hub,
    .rung, .diag, .ledger, .fabric, .deferred] (.rungRequest r) s (doneRungRequest r (s.atTime r.time))) ∧
  (∀ r s, Taken opKeepAwake uPower r s (checksKeepAwake r) → Runs [.time, .hub, .power, .rung, .diag, .ledger, .fabric]
    (.keepAwake r) s (doneKeepAwake r (s.atTime r.time))) ∧
  (∀ (t : Nat) (ch : Nat) s, (ch < 64) → whenKeepAwakeExpiry t ch (s.atTime t) = true → Runs [.time, .hub, .power]
    (.keepAwakeExpiry t ch) s (doneKeepAwakeExpiry t ch (s.atTime t))) ∧
  (∀ r s, Taken opWakeConfig uPower r s (checksWakeConfig r) → Runs [.time, .hub, .power, .diag, .ledger, .fabric] (.wakeConfig
    r) s (doneWakeConfig r (s.atTime r.time))) ∧
  (∀ r s, Taken opCanWakeFilter uPower r s (checksCanWakeFilter r) → Runs [.time, .hub, .power, .diag, .ledger, .fabric]
    (.canWakeFilter r) s (doneCanWakeFilter r (s.atTime r.time))) ∧
  (∀ r s, Taken opDescentSet uPower r s (checksDescentSet r) → Runs [.time, .hub, .power, .diag, .ledger, .fabric] (.descentSet
    r) s (doneDescentSet r (s.atTime r.time))) ∧
  (∀ r s, Taken opPowerStatus uPower r s (fun _ => []) → Runs [.time, .hub, .diag, .ledger, .fabric] (.powerStatus r) s
    (donePowerStatus r (s.atTime r.time))) ∧
  (∀ (t : Nat) s, whenRungConditionCheck t (s.atTime t) = true → Runs [.time, .hub, .power, .rung, .change, .fences, .islands,
    .diag, .jack, .ledger, .control, .stage, .functions, .fieldIo, .place, .fabric, .nav, .vision, .infer, .buses, .eth,
    .fleet, .display, .safety, .sections, .freeCount] (.rungConditionCheck t) s (doneRungConditionCheck t (s.atTime t))) ∧
  (∀ (t : Nat) s, whenRungWaitTimeout t (s.atTime t) = true → Runs [.time, .hub, .rung, .diag] (.rungWaitTimeout t) s
    (doneRungWaitTimeout t (s.atTime t))) ∧
  (∀ (t : Nat) (target : Nat) s, (inRange target 4 6) → whenAutoDescentExpiry t target (s.atTime t) = true → Runs [.time,
    .rung] (.autoDescentExpiry t target) s (doneAutoDescentExpiry t target (s.atTime t))) ∧
  (∀ (t : Nat) s, whenIgnRise t (s.atTime t) = true → Runs [.time, .hub, .power, .rung, .islands, .diag, .jack, .ledger,
    .control, .stage, .place, .fabric, .nav, .buses, .eth, .freeCount] (.ignRise t) s (doneIgnRise t (s.atTime t))) ∧
  (∀ (t : Nat) s, whenIgnFall t (s.atTime t) = true → Runs [.time, .power] (.ignFall t) s (doneIgnFall t (s.atTime t))) ∧
  (∀ (t : Nat) (level : Bool) s, whenWakeInEdge t level (s.atTime t) = true → Runs [.time, .hub, .power, .rung, .islands,
    .diag, .jack, .ledger, .control, .stage, .place, .fabric, .nav, .buses, .eth, .freeCount] (.wakeInEdge t level) s
    (doneWakeInEdge t level (s.atTime t))) ∧
  (∀ (t : Nat) (mb : Nat) s, (mb < 12) → whenCanWakePattern t mb (s.atTime t) = true → Runs [.time, .hub, .power, .rung,
    .islands, .diag, .jack, .ledger, .control, .stage, .place, .fabric, .nav, .buses, .eth, .freeCount] (.canWakePattern t mb)
    s (doneCanWakePattern t mb (s.atTime t))) ∧
  (∀ (t : Nat) (mb : Nat) (format : Nat) (id : U32) (data : List Byte) s, (mb < 12 && data.length ≤ 8) = true →
    whenCanSelectiveWake t mb format id data (s.atTime t) = true → Runs [.time, .hub, .power, .rung, .islands, .diag, .jack,
    .ledger, .control, .stage, .place, .fabric, .nav, .buses, .eth, .freeCount] (.canSelectiveWake t mb format id data) s
    (doneCanSelectiveWake t mb format id data (s.atTime t))) ∧
  (∀ (t : Nat) (port : Nat) s, (port < 5) → whenTc10Wake t port (s.atTime t) = true → Runs [.time, .hub, .power, .rung,
    .islands, .diag, .jack, .ledger, .control, .stage, .place, .fabric, .nav, .buses, .eth, .freeCount] (.tc10Wake t port) s
    (doneTc10Wake t port (s.atTime t))) ∧
  (∀ (t : Nat) s, whenRtcAlarm t (s.atTime t) = true → Runs [.time, .hub, .power, .rung, .islands, .diag, .jack, .ledger,
    .control, .stage, .place, .fabric, .nav, .buses, .eth, .freeCount] (.rtcAlarm t) s (doneRtcAlarm t (s.atTime t))) ∧
  (∀ (t : Nat) s, whenUsbVbusRise t (s.atTime t) = true → Runs [.time, .hub, .power, .rung, .islands, .diag, .jack, .ledger,
    .control, .stage, .place, .fabric, .nav, .buses, .eth, .freeCount] (.usbVbusRise t) s (doneUsbVbusRise t (s.atTime t))) ∧
  (∀ (t : Nat) s, whenAonBackupTimeout t (s.atTime t) = true → Runs [.time, .hub, .power, .rung, .mode, .change, .fences,
    .islands, .auth, .diag, .jack, .ledger, .control, .stage, .functions, .fieldIo, .place, .fabric, .nav, .vision, .infer,
    .buses, .eth, .fleet, .display, .safety, .update, .sections, .freeCount, .deferred] (.aonBackupTimeout t) s
    (doneAonBackupTimeout t (s.atTime t))) ∧
  (∀ (t : Nat) s, whenCrankLowTimerReset t (s.atTime t) = true → Runs [.time, .power] (.crankLowTimerReset t) s
    (doneCrankLowTimerReset t (s.atTime t))) ∧
  (∀ (t : Nat) s, whenFarTrained t (s.atTime t) = true → Runs [.time, .hub, .islands, .diag, .jack, .ledger, .fieldIo, .place,
    .nav, .buses, .eth, .display, .safety, .update, .freeCount] (.farTrained t) s (doneFarTrained t (s.atTime t))) ∧
  (∀ (t : Nat) s, whenUsbVbusFall t (s.atTime t) = true → Runs [.time, .hub, .power, .update] (.usbVbusFall t) s
    (doneUsbVbusFall t (s.atTime t)))

/-- For each of the 27 commands of the mode machine, fences, islands, authorization and self-test family: a request that is
  taken (its channel exists, its gate passes it, its OP has no refusal for it) and an event whose condition holds answer the
  next state that the effect gives, and every part of the state outside the list named with the command is as before. -/
def Obligations.ModeCommandsRun : Prop :=
  (∀ r s b, ModeTaken r s b → RunsSettled [.time, .hub, .change, .fences, .auth, .diag, .ledger, .fabric, .vision, .buses,
    .eth, .fleet, .display, .safetyRecord, .deferred] (.modeRequest r) s ((((s.atTime r.time).authorize b (r.u 5 1) (r.bytes 8
    16) (r.bytes 24 32)).2).grantMode r b)) ∧
  (∀ (t : Nat) s, whenAutoLimpEntry t (s.atTime t) = true → Runs [.time, .change] (.autoLimpEntry t) s (doneAutoLimpEntry t
    (s.atTime t))) ∧
  (∀ (t : Nat) (unit : Nat) s, (isUnit unit) → whenConvergenceDeadline t unit (s.atTime t) = true → Runs [.time, .change,
    .fences] (.convergenceDeadline t unit) s (doneConvergenceDeadline t unit (s.atTime t))) ∧
  (∀ r s, Taken opModeQuery moduleSupervisor r s (fun _ => []) → Runs [.time, .hub, .diag, .ledger, .fabric] (.modeQuery r) s
    (doneModeQuery r (s.atTime r.time))) ∧
  (∀ r s, Taken opAuthChallenge moduleSupervisor r s (checksAuthChallenge r) → Runs [.time, .hub, .auth, .diag, .ledger,
    .fabric, .freeCount] (.authChallenge r) s (doneAuthChallenge r (s.atTime r.time))) ∧
  (∀ (t : Nat) (kind : Nat) s, (inRange kind 1 2) → whenChallengeExpiry t kind (s.atTime t) = true → Runs [.time, .auth]
    (.challengeExpiry t kind) s (doneChallengeExpiry t kind (s.atTime t))) ∧
  (∀ (t : Nat) (kind : Nat) s, (inRange kind 1 2) → whenAuthLockoutEnd t kind (s.atTime t) = true → Runs [.time, .auth]
    (.authLockoutEnd t kind) s (doneAuthLockoutEnd t kind (s.atTime t))) ∧
  (∀ r s, Taken opSelftest (if isUnit (r.u 4 2) then (r.u 4 2) else uMaluf) r s (checksSelftest r) → (s.atTime
    r.time).answeredReady (islandOf (r.u 4 2)) = false → Runs [.time, .hub, .power, .change, .fences, .diag, .ledger, .control,
    .stage, .functions, .fieldIo, .fabric, .nav, .vision, .infer, .buses, .eth, .fleet, .display, .safety, .sections,
    .deferred] (.selftest r) s (doneSelftest r (s.atTime r.time))) ∧
  (∀ (t : Nat) (unit : Nat) (result : Nat) (failCode : U32) s, (isUnit unit && (result == 0 || result == 1 || result == 3)) =
    true → whenSelftestEnd t unit result failCode (s.atTime t) = true → Runs [.time, .hub, .change, .fences, .diag, .fabric,
    .vision, .buses, .eth, .fleet, .display] (.selftestEnd t unit result failCode) s (doneSelftestEnd t unit result failCode
    (s.atTime t))) ∧
  (∀ r s, Taken opCounterRead (counterUnit (r.u 0 2)) r s (checksCounterRead r) → Runs [.time, .hub, .diag, .ledger, .fabric]
    (.counterRead r) s (doneCounterRead r (s.atTime r.time))) ∧
  (∀ r s, Taken opCounterClear (counterUnit (r.u 0 2)) r s (checksCounterClear r) → Runs [.time, .hub, .diag, .ledger, .fabric]
    (.counterClear r) s (doneCounterClear r (s.atTime r.time))) ∧
  (∀ r s, Taken opThermalRead moduleSupervisor r s (fun _ => []) → Runs [.time, .hub, .diag, .ledger, .fabric, .freeCount]
    (.thermalRead r) s (doneThermalRead r (s.atTime r.time))) ∧
  (∀ (t : Nat) s, whenSupWatchdogExpiry t (s.atTime t) = true → RunsSettled [.time, .hub, .power, .rung, .mode, .change,
    .fences, .islands, .auth, .diag, .jack, .ledger, .control, .stage, .functions, .fieldIo, .place, .fabric, .nav, .vision,
    .infer, .buses, .eth, .fleet, .display, .safety, .update, .sections, .freeCount, .deferred] (.supWatchdogExpiry t) s
    (doneSupWatchdogExpiry t (s.atTime t))) ∧
  (∀ (t : Nat) (unit : Nat) s, (isUnit unit) → whenUnitHeartbeatLoss t unit (s.atTime t) = true → RunsSettled [.time, .hub,
    .power, .change, .fences, .diag, .ledger, .control, .stage, .functions, .fieldIo, .fabric, .nav, .vision, .infer, .buses,
    .eth, .display, .safety, .sections] (.unitHeartbeatLoss t unit) s (doneUnitHeartbeatLoss t unit (s.atTime t))) ∧
  (∀ (t : Nat) (island : Nat) s, (island < 12) → whenIslandReportTimeout t island (s.atTime t) = true → RunsSettled [.time,
    .hub, .power, .rung, .mode, .change, .fences, .islands, .auth, .diag, .jack, .ledger, .control, .stage, .functions,
    .fieldIo, .place, .fabric, .nav, .vision, .infer, .buses, .eth, .fleet, .display, .safety, .update, .sections, .freeCount,
    .deferred] (.islandReportTimeout t island) s (doneIslandReportTimeout t island (s.atTime t))) ∧
  (∀ (t : Nat) (island : Nat) s, (island < 12) → whenIslandReset t island (s.atTime t) = true → RunsSettled [.time, .hub,
    .power, .rung, .mode, .change, .fences, .islands, .auth, .diag, .jack, .ledger, .control, .stage, .functions, .fieldIo,
    .place, .fabric, .nav, .vision, .infer, .buses, .eth, .fleet, .display, .safety, .update, .sections, .freeCount, .deferred]
    (.islandReset t island) s (doneIslandReset t island (s.atTime t))) ∧
  (∀ (t : Nat) (island : Nat) s, (island < 12) → whenIslandReady t island (s.atTime t) = true → RunsSettled [.time, .hub,
    .change, .diag, .ledger] (.islandReady t island) s (doneIslandReady t island (s.atTime t))) ∧
  (∀ (t : Nat) (unit : Nat) (reason : Nat) s, (isUnit unit && inRange reason 1 3) = true → whenIslandRefusal t unit reason
    (s.atTime t) = true → RunsSettled [.time, .hub, .change, .diag, .ledger] (.islandRefusal t unit reason) s
    (doneIslandRefusal t unit reason (s.atTime t))) ∧
  (∀ (t : Nat) s, whenPrepareTimeout t (s.atTime t) = true → RunsSettled [.time, .hub, .change, .diag, .ledger]
    (.prepareTimeout t) s (donePrepareTimeout t (s.atTime t))) ∧
  (∀ (t : Nat) (missed : List Nat) s, (missed.all isUnit) → whenModeCommit t missed (s.atTime t) = true → RunsSettled [.time,
    .hub, .power, .rung, .epoch, .mode, .change, .fences, .auth, .diag, .ledger, .control, .stage, .functions, .fieldIo,
    .fabric, .nav, .vision, .infer, .buses, .eth, .fleet, .display, .safety, .safetyRecord, .update, .sections] (.modeCommit t
    missed) s (doneModeCommit t missed (s.atTime t))) ∧
  (∀ (t : Nat) (missed : List Nat) s, (missed.all isUnit) → whenForcedSafeHold t missed (s.atTime t) = true → RunsSettled
    [.time, .hub, .power, .rung, .epoch, .mode, .change, .fences, .auth, .diag, .ledger, .control, .stage, .functions,
    .fieldIo, .fabric, .nav, .vision, .infer, .buses, .eth, .fleet, .display, .safety, .safetyRecord, .update, .sections]
    (.forcedSafeHold t missed) s (doneForcedSafeHold t missed (s.atTime t))) ∧
  (∀ (t : Nat) s, whenAutoSafeHold t (s.atTime t) = true → RunsSettled [.time, .hub, .change, .fences, .diag, .ledger, .fabric,
    .vision, .buses, .eth, .fleet, .display] (.autoSafeHold t) s (doneAutoSafeHold t (s.atTime t))) ∧
  (∀ (t : Nat) s, whenFldConverterFail t (s.atTime t) = true → RunsSettled [.time, .hub, .power, .rung, .mode, .change,
    .fences, .islands, .auth, .diag, .jack, .ledger, .control, .stage, .functions, .fieldIo, .place, .fabric, .nav, .vision,
    .infer, .buses, .eth, .fleet, .display, .safety, .update, .sections, .freeCount, .deferred] (.fldConverterFail t) s
    (doneFldConverterFail t (s.atTime t))) ∧
  (∀ r s, Taken opImageActivate uSecurity r s (checksImageActivate r) → RunsSettled [.time, .hub, .power, .rung, .mode,
    .change, .fences, .islands, .auth, .diag, .jack, .ledger, .control, .stage, .functions, .fieldIo, .place, .fabric, .nav,
    .vision, .infer, .buses, .eth, .fleet, .display, .safety, .update, .sections, .freeCount, .deferred] (.imageActivate r) s
    (doneImageActivate r (s.atTime r.time))) ∧
  (∀ r s, Taken opImageRevert uSecurity r s (checksImageRevert r) → (s.atTime r.time).answeredReady (classIsland (r.u 4 1)) =
    false → RunsSettled [.time, .hub, .power, .rung, .mode, .change, .fences, .islands, .auth, .diag, .jack, .ledger, .control,
    .stage, .functions, .fieldIo, .place, .fabric, .nav, .vision, .infer, .buses, .eth, .fleet, .display, .safety, .update,
    .sections, .freeCount, .deferred] (.imageRevert r) s (doneImageRevert r (s.atTime r.time))) ∧
  (∀ (t : Nat) (cls : Nat) s, (isClass cls) → whenTrialRejoinTimeout t cls (s.atTime t) = true → RunsSettled [.time, .hub,
    .power, .rung, .mode, .change, .fences, .islands, .auth, .diag, .jack, .ledger, .control, .stage, .functions, .fieldIo,
    .place, .fabric, .nav, .vision, .infer, .buses, .eth, .fleet, .display, .safety, .update, .sections, .freeCount, .deferred]
    (.trialRejoinTimeout t cls) s (doneTrialRejoinTimeout t cls (s.atTime t))) ∧
  (∀ (t : Nat) (cls : Nat) s, (isClass cls) → whenConfirmTimeout t cls (s.atTime t) = true → RunsSettled [.time, .hub, .power,
    .rung, .mode, .change, .fences, .islands, .auth, .diag, .jack, .ledger, .control, .stage, .functions, .fieldIo, .place,
    .fabric, .nav, .vision, .infer, .buses, .eth, .fleet, .display, .safety, .update, .sections, .freeCount, .deferred]
    (.confirmTimeout t cls) s (doneConfirmTimeout t cls (s.atTime t)))

/-- For each of the 19 commands of the placement family: a request that is taken (its channel exists, its gate passes it, its
  OP has no refusal for it) and an event whose condition holds answer the next state that the effect gives, and every part of
  the state outside the list named with the command is as before. -/
def Obligations.PlacementCommandsRun : Prop :=
  (∀ r s, Taken opPlace uPlacement r s (checksPlace r) → ((placeReq r).home (s.atTime r.time)).isSome = true → Runs [.time,
    .hub, .diag, .ledger, .place, .fabric, .freeCount] (.place r) s (donePlace r (s.atTime r.time))) ∧
  (∀ r s, Taken opRelease uPlacement r s (checksPlacementRelease r) → Runs [.time, .hub, .diag, .ledger, .place, .fabric,
    .infer, .fleet] (.placementRelease r) s (donePlacementRelease r (s.atTime r.time))) ∧
  (∀ r s, Taken opPin uPlacement r s (checksPlacementPin r) → Runs [.time, .hub, .diag, .ledger, .place, .fabric]
    (.placementPin r) s (donePlacementPin r (s.atTime r.time))) ∧
  (∀ r s, Taken opMap uPlacement r s (checksPlacementMap r) → Runs [.time, .hub, .diag, .ledger, .place, .fabric, .freeCount]
    (.placementMap r) s (donePlacementMap r (s.atTime r.time))) ∧
  (∀ r s, Taken opUnmap uPlacement r s (checksPlacementUnmap r) → Runs [.time, .hub, .diag, .ledger, .place, .fabric]
    (.placementUnmap r) s (donePlacementUnmap r (s.atTime r.time))) ∧
  (∀ r s, Taken opSync uPlacement r s (checksPlacementSync r) → Runs [.time, .hub, .diag, .ledger, .place, .fabric]
    (.placementSync r) s (donePlacementSync r (s.atTime r.time))) ∧
  (∀ r s, Taken opPlacementQuery uPlacement r s (checksPlacementQuery r) → Runs [.time, .hub, .diag, .ledger, .fabric]
    (.placementQuery r) s (donePlacementQuery r (s.atTime r.time))) ∧
  (∀ r s, Taken opCapacity uPlacement r s (fun _ => []) → Runs [.time, .hub, .diag, .ledger, .fabric] (.placementCapacity r) s
    (donePlacementCapacity r (s.atTime r.time))) ∧
  (∀ r s, Taken opList uPlacement r s (fun _ => []) → Runs [.time, .hub, .diag, .ledger, .fabric] (.placementList r) s
    (donePlacementList r (s.atTime r.time))) ∧
  (∀ r s, Taken opQuotaSet uPlacement r s (checksQuotaSet r) → Runs [.time, .hub, .diag, .ledger, .place, .fabric] (.quotaSet
    r) s (doneQuotaSet r (s.atTime r.time))) ∧
  (∀ r s, Taken opJobPool uPlacement r s (checksJobPool r) → Runs [.time, .hub, .diag, .ledger, .place, .fabric, .infer,
    .fleet] (.jobPool r) s (doneJobPool r (s.atTime r.time))) ∧
  (∀ r s, Taken opBootViewSet uPlacement r s (checksBootViewSet r) → Runs [.time, .hub, .diag, .ledger, .place, .fabric]
    (.bootViewSet r) s (doneBootViewSet r (s.atTime r.time))) ∧
  (∀ (t : Nat) (accesses : List Access) s, Runs [.time, .hub, .diag, .ledger, .place, .fleet] (.promotionWindow t accesses) s
    (donePromotionWindow t accesses (s.atTime t))) ∧
  (∀ (t : Nat) (handle : Nat) (chunk : Nat) s, whenMigrationDone t handle chunk (s.atTime t) = true → Runs [.time, .hub, .diag,
    .ledger, .place] (.migrationDone t handle chunk) s (doneMigrationDone t handle chunk (s.atTime t))) ∧
  (∀ (t : Nat) (handle : Nat) (offset : Nat) (length : Nat) s, whenWriteBackStart t handle offset length (s.atTime t) = true →
    Runs [.time, .hub, .diag, .ledger, .place] (.writeBackStart t handle offset length) s (doneWriteBackStart t handle offset
    length (s.atTime t))) ∧
  (∀ (t : Nat) (handle : Nat) (record : Nat) s, whenWriteBackDone t handle record (s.atTime t) = true → Runs [.time, .hub,
    .diag, .ledger, .place] (.writeBackDone t handle record) s (doneWriteBackDone t handle record (s.atTime t))) ∧
  (∀ (t : Nat) (handle : Nat) (chunk : Nat) s, whenShadowWrite t handle chunk (s.atTime t) = true → Runs [.time, .place]
    (.shadowWrite t handle chunk) s (doneShadowWrite t handle chunk (s.atTime t))) ∧
  (∀ (t : Nat) (tier : Nat) (degraded : Bool) (rate : Nat) s, whenTierDegraded t tier degraded rate (s.atTime t) = true → Runs
    [.time, .hub, .diag, .place] (.tierDegraded t tier degraded rate) s (doneTierDegraded t tier degraded rate (s.atTime t))) ∧
  (∀ (t : Nat) (handle : Nat) (chunk : Nat) s, whenRestoreChunkDone t handle chunk (s.atTime t) = true → Runs [.time, .hub,
    .diag, .ledger, .place] (.restoreChunkDone t handle chunk) s (doneRestoreChunkDone t handle chunk (s.atTime t)))

/-- For each of the 22 commands of the streams and links family: a request that is taken (its channel exists, its gate passes
  it, its OP has no refusal for it) and an event whose condition holds answer the next state that the effect gives, and every
  part of the state outside the list named with the command is as before. -/
def Obligations.StreamCommandsRun : Prop :=
  (∀ r s, Taken opStreamCreate uFabric r s (checksStreamCreate r) → (s.atTime r.time).creditLimit (r.u 2 2) (r.u 8 4) (some
    (endpointAt r.payload 24)) (createConsumers r) (crosses (endpointAt r.payload 24) (createConsumers r)) = none → Runs
    [.time, .hub, .diag, .ledger, .place, .fabric, .fleet, .freeCount] (.streamCreate r) s (doneStreamCreate r (s.atTime
    r.time))) ∧
  (∀ r s, Taken opStreamAttach uFabric r s (checksStreamAttach r) → (((s.atTime r.time).namedStream (r.u 0 8) r.ch).all fun x
    => ((s.atTime r.time).creditLimit x.2.credits x.2.rate none [endpointAt r.payload 8] ((endpointAt r.payload 8).peer &&
    !crosses x.2.producer (x.2.consumers.entries.map fun c => c.2.ep))).isNone) = true → Runs [.time, .hub, .diag, .ledger,
    .place, .fabric, .fleet, .freeCount] (.streamAttach r) s (doneStreamAttach r (s.atTime r.time))) ∧
  (∀ r s, Taken opStreamDetach uFabric r s (checksStreamDetach r) → Runs [.time, .hub, .diag, .ledger, .fabric] (.streamDetach
    r) s (doneStreamDetach r (s.atTime r.time))) ∧
  (∀ r s, Taken opStreamDestroy uFabric r s (checksStreamDestroy r) → Runs [.time, .hub, .diag, .ledger, .fabric]
    (.streamDestroy r) s (doneStreamDestroy r (s.atTime r.time))) ∧
  (∀ r s, Taken opStreamQuery uFabric r s (checksStreamQuery r) → Runs [.time, .hub, .diag, .ledger, .fabric] (.streamQuery r)
    s (doneStreamQuery r (s.atTime r.time))) ∧
  (∀ r s, Taken opLinkConfig uLink r s (checksLinkConfig r) → Runs [.time, .hub, .diag, .ledger, .stage, .fabric] (.linkConfig
    r) s (doneLinkConfig r (s.atTime r.time))) ∧
  (∀ r s, Taken opLinkStatus uLink r s (fun _ => []) → Runs [.time, .hub, .diag, .ledger, .fabric] (.linkStatus r) s
    (doneLinkStatus r (s.atTime r.time))) ∧
  (∀ r s, Taken opLinkRetrain uLink r s (checksLinkRetrain r) → Runs [.time, .hub, .diag, .ledger, .fabric] (.linkRetrain r) s
    (doneLinkRetrain r (s.atTime r.time))) ∧
  (∀ (t : Nat) (unit : Nat) (port : Nat) (m : Msg) s, whenMessagePresent t unit port m (s.atTime t) = true → Runs [.time, .hub,
    .diag, .fabric] (.messagePresent t unit port m) s (doneMessagePresent t unit port m (s.atTime t))) ∧
  (∀ (t : Nat) (no : Nat) (idx : Nat) s, whenFlitDeliver t no idx (s.atTime t) = true → Runs [.time, .hub, .diag, .fabric]
    (.flitDeliver t no idx) s (doneFlitDeliver t no idx (s.atTime t))) ∧
  (∀ (t : Nat) (no : Nat) (idx : Nat) s, whenCreditReturn t no idx (s.atTime t) = true → Runs [.time, .hub, .diag, .fabric]
    (.creditReturn t no idx) s (doneCreditReturn t no idx (s.atTime t))) ∧
  (∀ (t : Nat) (no : Nat) (ep : Nat) (posted : U32) (descs : List (List Byte)) s, whenRingPosted t no ep posted descs (s.atTime
    t) = true → Runs [.time, .hub, .diag, .place, .fabric, .fleet, .freeCount] (.ringPosted t no ep posted descs) s
    (doneRingPosted t no ep posted descs (s.atTime t))) ∧
  (∀ (t : Nat) (no : Nat) (ep : Nat) s, whenDescriptorComplete t no ep (s.atTime t) = true → Runs [.time, .hub, .diag, .place,
    .fabric, .fleet] (.descriptorComplete t no ep) s (doneDescriptorComplete t no ep (s.atTime t))) ∧
  (∀ (t : Nat) (no : Nat) s, whenStreamDrainTimeout t no (s.atTime t) = true → Runs [.time, .hub, .diag, .fabric]
    (.streamDrainTimeout t no) s (doneStreamDrainTimeout t no (s.atTime t))) ∧
  (∀ (t : Nat) (low : Bool) s, whenLinkPresence t low (s.atTime t) = true → Runs [.time, .hub, .diag, .stage, .fabric]
    (.linkPresence t low) s (doneLinkPresence t low (s.atTime t))) ∧
  (∀ (t : Nat) (width : Nat) (peerId : U64) (peerRole : Nat) (streams : Nat) (buffers : Nat) s, whenLinkUp t width peerId
    peerRole streams buffers (s.atTime t) = true → Runs [.time, .hub, .diag, .fabric] (.linkUp t width peerId peerRole streams
    buffers) s (doneLinkUp t width peerId peerRole streams buffers (s.atTime t))) ∧
  (∀ (t : Nat) s, whenLinkTrainingTimeout t (s.atTime t) = true → Runs [.time, .hub, .diag, .stage, .fabric]
    (.linkTrainingTimeout t) s (doneLinkTrainingTimeout t (s.atTime t))) ∧
  (∀ (t : Nat) s, whenLinkRetryTimer t (s.atTime t) = true → Runs [.time, .hub, .diag, .fabric] (.linkRetryTimer t) s
    (doneLinkRetryTimer t (s.atTime t))) ∧
  (∀ (t : Nat) (cause : Nat) (lane : Option Nat) s, whenLinkErrorRetrain t cause lane (s.atTime t) = true → Runs [.time, .hub,
    .diag, .fabric] (.linkErrorRetrain t cause lane) s (doneLinkErrorRetrain t cause lane (s.atTime t))) ∧
  (∀ (t : Nat) (f : LinkFlit) s, whenLinkFlitRx t f (s.atTime t) = true → Runs [.time, .hub, .diag, .ledger, .stage, .fabric,
    .freeCount] (.linkFlitRx t f) s (doneLinkFlitRx t f (s.atTime t))) ∧
  (∀ (t : Nat) s, whenLinkAckTimer t (s.atTime t) = true → Runs [.time, .fabric] (.linkAckTimer t) s (doneLinkAckTimer t
    (s.atTime t))) ∧
  (∀ (t : Nat) (seq : Nat) s, whenLinkNakRx t seq (s.atTime t) = true → Runs [.time, .hub, .diag, .fabric] (.linkNakRx t seq) s
    (doneLinkNakRx t seq (s.atTime t)))

/-- For each of the 13 commands of the ledger and replay family: a request that is taken (its channel exists, its gate passes
  it, its OP has no refusal for it) and an event whose condition holds answer the next state that the effect gives, and every
  part of the state outside the list named with the command is as before. -/
def Obligations.LedgerCommandsRun : Prop :=
  (∀ (t : Nat) s, whenEventDelivery t (s.atTime t) = true → Runs [.time, .hub, .power, .rung, .islands, .diag, .jack, .ledger,
    .control, .stage, .place, .fabric, .nav, .buses, .eth, .freeCount] (.eventDelivery t) s (doneEventDelivery t (s.atTime t)))
    ∧
  (∀ (t : Nat) s, whenLedgerReplay t (s.atTime t) = true → Runs [.time, .hub, .diag, .jack, .ledger] (.ledgerReplay t) s
    (doneLedgerReplay t (s.atTime t))) ∧
  (∀ r s, Taken opLedgerStatus uLedger r s (fun _ => []) → Runs [.time, .hub, .diag, .ledger, .fabric] (.ledgerStatus r) s
    (doneLedgerStatus r (s.atTime r.time))) ∧
  (∀ r s, Taken opLedgerRead uLedger r s (checksLedgerRead r) → Runs [.time, .hub, .diag, .ledger, .fabric] (.ledgerRead r) s
    (doneLedgerRead r (s.atTime r.time))) ∧
  (∀ r s, Taken opJournalConfig uLedger r s (checksJournalConfig r) → Runs [.time, .hub, .diag, .ledger, .fabric]
    (.journalConfig r) s (doneJournalConfig r (s.atTime r.time))) ∧
  (∀ r s, Taken opReplayControl uLedger r s (checksReplayControl r) → Runs [.time, .hub, .diag, .ledger, .fabric]
    (.replayControl r) s (doneReplayControl r (s.atTime r.time))) ∧
  (∀ r s, Taken opOutputs uLedger r s (fun _ => []) → Runs [.time, .hub, .diag, .ledger, .fabric] (.ledgerOutputs r) s
    (doneLedgerOutputs r (s.atTime r.time))) ∧
  (∀ (t : Nat) (id : Nat) s, whenUnitExecutionReport t id (s.atTime t) = true → Runs [.time, .hub, .diag, .ledger]
    (.unitExecutionReport t id) s (doneUnitExecutionReport t id (s.atTime t))) ∧
  (∀ (t : Nat) s, whenSnapshotTimer t (s.atTime t) = true → Runs [.time, .hub, .diag, .ledger] (.snapshotTimer t) s
    (doneSnapshotTimer t (s.atTime t))) ∧
  (∀ (t : Nat) (id : Nat) s, whenHeldRecordDeadline t id (s.atTime t) = true → Runs [.time, .hub, .diag, .ledger]
    (.heldRecordDeadline t id) s (doneHeldRecordDeadline t id (s.atTime t))) ∧
  (∀ (t : Nat) (ch : Nat) s, (ch < 64) → whenOutcomeDiscard t ch (s.atTime t) = true → Runs [.time, .hub, .diag, .ledger]
    (.outcomeDiscard t ch) s (doneOutcomeDiscard t ch (s.atTime t))) ∧
  (∀ (t : Nat) s, whenThermalMemoryCopy t (s.atTime t) = true → Runs [.time, .stage] (.thermalMemoryCopy t) s
    (doneThermalMemoryCopy t (s.atTime t))) ∧
  (∀ (t : Nat) (path : Path) s, (path != .unbound) → whenPathLostHold t path (s.atTime t) = true → Runs [.time, .hub, .power,
    .diag, .ledger, .control, .stage, .sections] (.pathLostHold t path) s (donePathLostHold t path (s.atTime t)))

/-- For each of the 19 commands of the control engine family: a request that is taken (its channel exists, its gate passes it,
  its OP has no refusal for it) and an event whose condition holds answer the next state that the effect gives, and every part
  of the state outside the list named with the command is as before. -/
def Obligations.ControlCommandsRun : Prop :=
  (∀ (t : Nat) s, whenLoopTick t (s.atTime t) = true → Runs [.time, .hub, .power, .diag, .ledger, .control, .stage, .fabric,
    .sections] (.loopTick t) s (doneLoopTick t (s.atTime t))) ∧
  (∀ r s, Taken opLoopDefine (uLane (if (field (r.bytes 8 256) 1 1) ≤ 3 then (field (r.bytes 8 256) 1 1) else 0)) r s
    (checksLoopDefine r) → (((s.atTime r.time).dropClosing (field (r.bytes 8 256) 0 1) 0).placeOn (field (r.bytes 8 256) 0 1)
    (field (r.bytes 8 256) 1 1) (field (r.bytes 8 256) 2 2) (field (r.bytes 8 256) 4 2)).isSome = true → Runs [.time, .hub,
    .diag, .ledger, .control, .fabric] (.loopDefine r) s (doneLoopDefine r (s.atTime r.time))) ∧
  (∀ r s, Taken opLoopClear ((s.loop (r.u 4 1)).unit) r s (checksLoopClear r) → Runs [.time, .hub, .diag, .ledger, .control,
    .fabric] (.loopClear r) s (doneLoopClear r (s.atTime r.time))) ∧
  (∀ r s, Taken opCoeff ((s.loop (r.u 4 1)).unit) r s (checksLoopCoeff r) → Runs [.time, .hub, .diag, .ledger, .control,
    .fabric] (.loopCoeff r) s (doneLoopCoeff r (s.atTime r.time))) ∧
  (∀ r s, Taken opLimits ((s.loop (r.u 4 1)).unit) r s (checksLoopLimits r) → Runs [.time, .hub, .diag, .ledger, .control,
    .fabric] (.loopLimits r) s (doneLoopLimits r (s.atTime r.time))) ∧
  (∀ r s, Taken opClose ((s.loop (r.u 4 1)).unit) r s (checksLoopClose r) → Runs [.time, .hub, .diag, .ledger, .control,
    .fabric] (.loopClose r) s (doneLoopClose r (s.atTime r.time))) ∧
  (∀ r s, Taken opOpen ((s.loop (r.u 0 1)).unit) r s (checksLoopOpen r) → Runs [.time, .hub, .diag, .ledger, .control, .fabric]
    (.loopOpen r) s (doneLoopOpen r (s.atTime r.time))) ∧
  (∀ r s, Taken opValueWrite (uLane 0) r s (checksValueWrite r) → Runs [.time, .hub, .diag, .ledger, .control, .fabric]
    (.valueWrite r) s (doneValueWrite r (s.atTime r.time))) ∧
  (∀ r s, Taken opLoopStatus (s.loop (r.u 0 1)).unit r s (checksLoopStatus r) → Runs [.time, .hub, .diag, .ledger, .fabric]
    (.loopStatus r) s (doneLoopStatus r (s.atTime r.time))) ∧
  (∀ r s, Taken opLoopRead (s.loop (r.u 0 1)).unit r s (checksLoopRead r) → Runs [.time, .hub, .diag, .ledger, .fabric]
    (.loopRead r) s (doneLoopRead r (s.atTime r.time))) ∧
  (∀ r s, Taken opLanes (supervisorOf islCtl) r s (fun _ => []) → Runs [.time, .hub, .diag, .ledger, .fabric] (.loopLanes r) s
    (doneLoopLanes r (s.atTime r.time))) ∧
  (∀ r s, Taken opTrace (uLane (if (r.u 0 1) ≤ 3 then (r.u 0 1) else 0)) r s (checksLoopTrace r) → Runs [.time, .hub, .diag,
    .ledger, .control, .fabric] (.loopTrace r) s (doneLoopTrace r (s.atTime r.time))) ∧
  (∀ r s, Taken opTune ((s.loop (r.u 4 1)).unit) r s (checksLoopTune r) → (s.atTime r.time).answeredReady islCtl = false → Runs
    [.time, .hub, .diag, .ledger, .control, .fabric, .deferred] (.loopTune r) s (doneLoopTune r (s.atTime r.time))) ∧
  (∀ r s, Taken opTuneAbort ((s.loop (r.u 0 1)).unit) r s (checksTuneAbort r) → Runs [.time, .hub, .diag, .ledger, .control,
    .stage, .fabric] (.tuneAbort r) s (doneTuneAbort r (s.atTime r.time))) ∧
  (∀ r s, Taken opTuneCommit ((s.loop (r.u 4 1)).unit) r s (checksTuneCommit r) → Runs [.time, .hub, .diag, .ledger, .control,
    .fabric] (.tuneCommit r) s (doneTuneCommit r (s.atTime r.time))) ∧
  (∀ (t : Nat) (loop : Nat) s, (loop < 256) → whenTuneSettleEnd t loop (s.atTime t) = true → Runs [.time, .hub, .diag,
    .control, .stage] (.tuneSettleEnd t loop) s (doneTuneSettleEnd t loop (s.atTime t))) ∧
  (∀ (t : Nat) (loop : Nat) s, (loop < 256) → whenTuneHalfCycleTimeout t loop (s.atTime t) = true → Runs [.time, .hub, .diag,
    .control, .stage] (.tuneHalfCycleTimeout t loop) s (doneTuneHalfCycleTimeout t loop (s.atTime t))) ∧
  (∀ (t : Nat) (loop : Nat) s, (loop < 256) → whenTuneTimeLimit t loop (s.atTime t) = true → Runs [.time, .hub, .diag,
    .control, .stage] (.tuneTimeLimit t loop) s (doneTuneTimeLimit t loop (s.atTime t))) ∧
  (∀ (t : Nat) (lane : Nat) (stamp : Nat) (body : List Byte) s, (lane < 4) → whenSignalMessage t lane stamp body (s.atTime t) =
    true → Runs [.time, .diag, .control] (.signalMessage t lane stamp body) s (doneSignalMessage t lane stamp body (s.atTime
    t)))

/-- For each of the 13 commands of the machine functions and yield family: a request that is taken (its channel exists, its
  gate passes it, its OP has no refusal for it) and an event whose condition holds answer the next state that the effect gives,
  and every part of the state outside the list named with the command is as before. -/
def Obligations.FunctionCommandsRun : Prop :=
  (∀ (t : Nat) s, whenInstanceTick t (s.atTime t) = true → Runs [.time, .hub, .power, .diag, .ledger, .control, .stage,
    .functions, .sections] (.instanceTick t) s (doneInstanceTick t (s.atTime t))) ∧
  (∀ r s, Taken opFunctionDefine (uLane (s.pickLane (r.u 4 1) (r.u 7 1))) r s (checksFunctionDefine r) → Runs [.time, .hub,
    .diag, .ledger, .functions, .fabric] (.functionDefine r) s (doneFunctionDefine r (s.atTime r.time))) ∧
  (∀ r s, Taken opFunctionClear ((s.inst (r.u 4 1)).unit) r s (checksFunctionClear r) → Runs [.time, .hub, .diag, .ledger,
    .functions, .fabric] (.functionClear r) s (doneFunctionClear r (s.atTime r.time))) ∧
  (∀ r s, Taken opFunctionStart ((s.inst (r.u 4 1)).unit) r s (checksFunctionStart r) → ((s.atTime r.time).inst (r.u 4
    1)).running = true ∨ (s.atTime r.time).startDeferred (r.u 4 1) = false → Runs [.time, .hub, .power, .diag, .ledger,
    .control, .stage, .functions, .fabric, .sections, .deferred] (.functionStart r) s (doneFunctionStart r (s.atTime r.time))) ∧
  (∀ r s, Taken opFunctionStop ((s.inst (r.u 0 1)).unit) r s (checksFunctionStop r) → Runs [.time, .hub, .diag, .ledger,
    .control, .stage, .functions, .fabric, .sections] (.functionStop r) s (doneFunctionStop r (s.atTime r.time))) ∧
  (∀ r s, Taken opFunctionParams ((s.inst (r.u 4 1)).unit) r s (checksFunctionParams r) → Runs [.time, .hub, .diag, .ledger,
    .functions, .fabric] (.functionParams r) s (doneFunctionParams r (s.atTime r.time))) ∧
  (∀ r s, Taken opFunctionStatus (s.inst (r.u 0 1)).unit r s (checksFunctionStatus r) → Runs [.time, .hub, .diag, .ledger,
    .fabric] (.functionStatus r) s (doneFunctionStatus r (s.atTime r.time))) ∧
  (∀ r s, Taken opCalibrate ((s.inst (r.u 4 1)).unit) r s (checksCalibrate r) → (r.u 5 1 = 2 → (newCal ((s.atTime r.time).inst
    (r.u 4 1)) (r.u 8 8)).isSome = true) → Runs [.time, .hub, .diag, .ledger, .functions, .fabric] (.calibrate r) s
    (doneCalibrate r (s.atTime r.time))) ∧
  (∀ r s, Taken opTotals (s.inst (r.u 0 1)).unit r s (checksYieldTotals r) → Runs [.time, .hub, .diag, .ledger, .functions,
    .fabric] (.yieldTotals r) s (doneYieldTotals r (s.atTime r.time))) ∧
  (∀ (t : Nat) (inst : Nat) s, (inst < 64) → whenOnDelayExpiry t inst (s.atTime t) = true → Runs [.time, .hub, .power, .diag,
    .ledger, .control, .stage, .functions, .sections] (.onDelayExpiry t inst) s (doneOnDelayExpiry t inst (s.atTime t))) ∧
  (∀ (t : Nat) (inst : Nat) s, (inst < 64) → whenGovernorPeriod t inst (s.atTime t) = true → Runs [.time, .hub, .diag,
    .control, .functions] (.governorPeriod t inst) s (doneGovernorPeriod t inst (s.atTime t))) ∧
  (∀ (t : Nat) (inst : Nat) s, (inst < 64) → whenYieldStep t inst (s.atTime t) = true → Runs [.time, .hub, .diag, .functions,
    .place, .fleet] (.yieldStep t inst) s (doneYieldStep t inst (s.atTime t))) ∧
  (∀ (t : Nat) s, whenTotalsSave t (s.atTime t) = true → Runs [.time, .functions] (.totalsSave t) s (doneTotalsSave t (s.atTime
    t)))

/-- For each of the 27 commands of the load switches family: a request that is taken (its channel exists, its gate passes it,
  its OP has no refusal for it) and an event whose condition holds answer the next state that the effect gives, and every part
  of the state outside the list named with the command is as before. -/
def Obligations.SwitchCommandsRun : Prop :=
  (∀ (t : Nat) (sw : Nat) s, (sw < 48) → whenHoldMsExpiry t sw (s.atTime t) = true → Runs [.time, .hub, .power, .diag, .ledger,
    .control, .stage, .sections] (.holdMsExpiry t sw) s (doneHoldMsExpiry t sw (s.atTime t))) ∧
  (∀ r s, Taken opSwitchConfig (swUnitOf (r.u 4 1)) r s (checksSwitchConfig r) → entryRefusal (entriesSwitchConfig r (s.atTime
    r.time)) = none → Runs [.time, .hub, .diag, .ledger, .stage, .fabric] (.switchConfig r) s (doneSwitchConfig r (s.atTime
    r.time))) ∧
  (∀ r s, Taken opSet (swUnitOf (r.u 8 1)) r s (checksSwitchSet r) → entryRefusal (entriesSwitchSet r (s.atTime r.time)) = none
    → Runs [.time, .hub, .diag, .ledger, .stage, .fabric] (.switchSet r) s (doneSwitchSet r (s.atTime r.time))) ∧
  (∀ r s, Taken opClearFault (swUnitOf (r.u 4 1)) r s (checksClearFault r) → (((s.atTime r.time).sw (r.u 4 1)).fault = 0 ∨
    (¬(((s.atTime r.time).sw (r.u 4 1)).fault = 4 ∧ ((s.atTime r.time).sw (r.u 4 1)).cool = false) ∧ ((s.atTime r.time).sw (r.u
    4 1)).theta ≤ 700000000000000)) → Runs [.time, .hub, .diag, .ledger, .stage, .fabric, .freeCount] (.clearFault r) s
    (doneClearFault r (s.atTime r.time))) ∧
  (∀ r s, Taken opServiceDrive (swUnitOf (r.u 4 1)) r s (checksServiceDrive r) → entryRefusal (entriesServiceDrive r (s.atTime
    r.time)) = none → Runs [.time, .hub, .diag, .ledger, .stage, .fabric] (.serviceDrive r) s (doneServiceDrive r (s.atTime
    r.time))) ∧
  (∀ r s, Taken opSwitchStatus (swUnitOf (r.u 0 1)) r s (checksSwitchStatus r) → Runs [.time, .hub, .diag, .ledger, .fabric]
    (.switchStatus r) s (doneSwitchStatus r (s.atTime r.time))) ∧
  (∀ r s, Taken opReadConfig (swUnitOf (r.u 0 1)) r s (checksReadConfig r) → Runs [.time, .hub, .diag, .ledger, .fabric]
    (.readConfig r) s (doneReadConfig r (s.atTime r.time))) ∧
  (∀ r s, Taken opGroupStatus (uGroup 0) r s (fun _ => []) → Runs [.time, .hub, .diag, .ledger, .fabric] (.groupStatus r) s
    (doneGroupStatus r (s.atTime r.time))) ∧
  (∀ (t : Nat) (currents : List SwSample) (a : GroupSample) (b : GroupSample) s, whenChannelTick t currents a b (s.atTime t) =
    true → Runs [.time, .hub, .diag, .ledger, .stage, .sections] (.channelTick t currents a b) s (doneChannelTick t currents a
    b (s.atTime t))) ∧
  (∀ (t : Nat) (g : Grp) s, whenShedStepTimer t g (s.atTime t) = true → Runs [.time, .hub, .diag, .ledger, .stage, .sections]
    (.shedStepTimer t g) s (doneShedStepTimer t g (s.atTime t))) ∧
  (∀ (t : Nat) (ch : Nat) (outputMv : Nat) (currentUa : Nat) s, (ch < 48) → whenInrushTimerExpiry t ch outputMv currentUa
    (s.atTime t) = true → Runs [.time, .hub, .diag, .ledger, .stage, .sections] (.inrushTimerExpiry t ch outputMv currentUa) s
    (doneInrushTimerExpiry t ch outputMv currentUa (s.atTime t))) ∧
  (∀ (t : Nat) (ch : Nat) (peakUa : Nat) s, (ch < 48) → whenHardCurrentLimit t ch peakUa (s.atTime t) = true → Runs [.time,
    .hub, .diag, .ledger, .stage, .sections] (.hardCurrentLimit t ch peakUa) s (doneHardCurrentLimit t ch peakUa (s.atTime t)))
    ∧
  (∀ (t : Nat) (ch : Nat) s, (ch < 48) → whenRetryWaitExpiry t ch (s.atTime t) = true → Runs [.time, .hub, .power, .diag,
    .ledger, .stage, .sections] (.retryWaitExpiry t ch) s (doneRetryWaitExpiry t ch (s.atTime t))) ∧
  (∀ (t : Nat) (ch : Nat) s, (ch < 48) → whenRetryRestore t ch (s.atTime t) = true → Runs [.time, .stage] (.retryRestore t ch)
    s (doneRetryRestore t ch (s.atTime t))) ∧
  (∀ (t : Nat) (g : Grp) (mean : Nat) (v : Nat) s, whenDisturbanceRaise t g mean v (s.atTime t) = true → Runs [.time, .diag,
    .stage] (.disturbanceRaise t g mean v) s (doneDisturbanceRaise t g mean v (s.atTime t))) ∧
  (∀ (t : Nat) (g : Grp) (v : Nat) (vMin : Nat) s, whenDisturbanceClear t g v vMin (s.atTime t) = true → Runs [.time, .hub,
    .diag, .stage] (.disturbanceClear t g v vMin) s (doneDisturbanceClear t g v vMin (s.atTime t))) ∧
  (∀ (t : Nat) (loads : List Nat) s, whenLampCompensation t loads (s.atTime t) = true → Runs [.time, .hub, .diag, .stage]
    (.lampCompensation t loads) s (doneLampCompensation t loads (s.atTime t))) ∧
  (∀ (t : Nat) (ch : Nat) (error : Bool) s, (ch < 48) → whenRegErrorTimer t ch error (s.atTime t) = true → Runs [.time, .hub,
    .diag, .stage] (.regErrorTimer t ch error) s (doneRegErrorTimer t ch error (s.atTime t))) ∧
  (∀ (t : Nat) (ch : Nat) (below : Bool) s, (ch < 48) → whenOpenLoadTimer t ch below (s.atTime t) = true → Runs [.time, .hub,
    .diag, .stage] (.openLoadTimer t ch below) s (doneOpenLoadTimer t ch below (s.atTime t))) ∧
  (∀ (t : Nat) (ch : Nat) (outputMv : Nat) (drivenMv : Nat) s, (ch < 48) → whenOffDiagCheck t ch outputMv drivenMv (s.atTime t)
    = true → Runs [.time, .hub, .diag, .stage] (.offDiagCheck t ch outputMv drivenMv) s (doneOffDiagCheck t ch outputMv
    drivenMv (s.atTime t))) ∧
  (∀ (t : Nat) (ch : Nat) s, (ch < 48) → whenOfftestPulse t ch (s.atTime t) = true → Runs [.time, .diag, .stage] (.offtestPulse
    t ch) s (doneOfftestPulse t ch (s.atTime t))) ∧
  (∀ (t : Nat) (ch : Nat) (outputMv : Nat) s, (ch < 48) → whenOfftestPulseEnd t ch outputMv (s.atTime t) = true → Runs [.time,
    .hub, .diag, .stage] (.offtestPulseEnd t ch outputMv) s (doneOfftestPulseEnd t ch outputMv (s.atTime t))) ∧
  (∀ (t : Nat) (ch : Nat) s, (ch < 48) → whenJunctionOvertemp t ch (s.atTime t) = true → Runs [.time, .hub, .diag, .ledger,
    .stage, .sections] (.junctionOvertemp t ch) s (doneJunctionOvertemp t ch (s.atTime t))) ∧
  (∀ (t : Nat) (g : Grp) s, whenGsnsOpenDetect t g (s.atTime t) = true → Runs [.time, .hub, .diag, .stage] (.gsnsOpenDetect t
    g) s (doneGsnsOpenDetect t g (s.atTime t))) ∧
  (∀ (t : Nat) s, whenServiceDriveTimeout t (s.atTime t) = true → Runs [.time, .hub, .diag, .ledger, .stage, .sections]
    (.serviceDriveTimeout t) s (doneServiceDriveTimeout t (s.atTime t))) ∧
  (∀ (t : Nat) (air : Int) s, whenAmbientUpdate t air (s.atTime t) = true → Runs [.time, .power, .stage] (.ambientUpdate t air)
    s (doneAmbientUpdate t air (s.atTime t))) ∧
  (∀ (t : Nat) (g : Grp) s, whenGsnsRestored t g (s.atTime t) = true → Runs [.time, .hub, .diag, .stage] (.gsnsRestored t g) s
    (doneGsnsRestored t g (s.atTime t)))

/-- For each of the 16 commands of the section timing family: a request that is taken (its channel exists, its gate passes it,
  its OP has no refusal for it) and an event whose condition holds answer the next state that the effect gives, and every part
  of the state outside the list named with the command is as before. -/
def Obligations.SectionCommandsRun : Prop :=
  (∀ r s, Taken opImplementSet uSection r s (checksImplementSet r) → Runs [.time, .hub, .diag, .ledger, .fabric, .sections]
    (.implementSet r) s (doneImplementSet r (s.atTime r.time))) ∧
  (∀ r s, Taken opSectionsSet uSection r s (checksSectionsSet r) → Runs [.time, .hub, .diag, .ledger, .fabric, .sections]
    (.sectionsSet r) s (doneSectionsSet r (s.atTime r.time))) ∧
  (∀ r s, Taken opEngine uSection r s (checksSectionEngine r) → Runs [.time, .hub, .diag, .ledger, .fabric, .sections]
    (.sectionEngine r) s (doneSectionEngine r (s.atTime r.time))) ∧
  (∀ r s, Taken opOverride uSection r s (checksSectionOverride r) → Runs [.time, .hub, .diag, .ledger, .fabric, .sections]
    (.sectionOverride r) s (doneSectionOverride r (s.atTime r.time))) ∧
  (∀ r s, Taken opSchedule uSection r s (checksSectionSchedule r) → entryRefusal (entriesSectionSchedule r (s.atTime r.time)) =
    none → Runs [.time, .hub, .diag, .ledger, .fabric, .sections] (.sectionSchedule r) s (doneSectionSchedule r (s.atTime
    r.time))) ∧
  (∀ r s, Taken opEdgeCancel uSection r s (checksEdgeCancel r) → Runs [.time, .hub, .diag, .ledger, .fabric, .sections]
    (.edgeCancel r) s (doneEdgeCancel r (s.atTime r.time))) ∧
  (∀ r s, Taken opSectionStatus uSection r s (fun _ => []) → Runs [.time, .hub, .diag, .ledger, .fabric] (.sectionStatus r) s
    (doneSectionStatus r (s.atTime r.time))) ∧
  (∀ (t : Nat) (id : Nat) s, whenEdgeExecute t id (s.atTime t) = true → Runs [.time, .hub, .power, .diag, .ledger, .stage,
    .sections] (.edgeExecute t id) s (doneEdgeExecute t id (s.atTime t))) ∧
  (∀ (t : Nat) (id : Nat) s, whenNodeCommandSend t id (s.atTime t) = true → Runs [.time, .diag, .ledger, .buses, .eth,
    .sections] (.nodeCommandSend t id) s (doneNodeCommandSend t id (s.atTime t))) ∧
  (∀ (t : Nat) (mb : Option Nat) (node : Nat) (rec : List Byte) s, (mb.all fun n => n < 12) → whenNodeAckRx t mb node rec
    (s.atTime t) = true → Runs [.time, .hub, .diag, .ledger, .eth, .sections] (.nodeAckRx t mb node rec) s (doneNodeAckRx t mb
    node rec (s.atTime t))) ∧
  (∀ (t : Nat) (id : Nat) s, whenNodeAckTimeout t id (s.atTime t) = true → Runs [.time, .hub, .diag, .ledger, .buses, .eth,
    .sections] (.nodeAckTimeout t id) s (doneNodeAckTimeout t id (s.atTime t))) ∧
  (∀ (t : Nat) (mb : Nat) s, (mb < 12) → whenNodeSyncSend t mb (s.atTime t) = true → Runs [.time, .diag, .buses, .sections]
    (.nodeSyncSend t mb) s (doneNodeSyncSend t mb (s.atTime t))) ∧
  (∀ (t : Nat) s, whenEngineSolution t (s.atTime t) = true → Runs [.time, .hub, .diag, .ledger, .place, .fleet, .sections]
    (.engineSolution t) s (doneEngineSolution t (s.atTime t))) ∧
  (∀ (t : Nat) s, whenNavStaleHold t (s.atTime t) = true → Runs [.time, .hub, .diag, .sections] (.navStaleHold t) s
    (doneNavStaleHold t (s.atTime t))) ∧
  (∀ (t : Nat) s, whenNavHoldExpiry t (s.atTime t) = true → Runs [.time, .hub, .diag, .ledger, .sections] (.navHoldExpiry t) s
    (doneNavHoldExpiry t (s.atTime t))) ∧
  (∀ (t : Nat) s, whenNavReturn t (s.atTime t) = true → Runs [.time, .hub, .diag, .sections] (.navReturn t) s (doneNavReturn t
    (s.atTime t)))

/-- For each of the 22 commands of the navigation baseband family: a request that is taken (its channel exists, its gate passes
  it, its OP has no refusal for it) and an event whose condition holds answer the next state that the effect gives, and every
  part of the state outside the list named with the command is as before. -/
def Obligations.NavCommandsRun : Prop :=
  (∀ r s, Taken opNavConfig uBaseband r s (checksNavConfig r) → Runs [.time, .hub, .diag, .ledger, .fabric, .nav] (.navConfig
    r) s (doneNavConfig r (s.atTime r.time))) ∧
  (∀ r s, Taken opChannelSet uBaseband r s (checksChannelSet r) → Runs [.time, .hub, .diag, .ledger, .fabric, .nav]
    (.channelSet r) s (doneChannelSet r (s.atTime r.time))) ∧
  (∀ r s, Taken opChannelStatus uBaseband r s (checksChannelStatus r) → Runs [.time, .hub, .diag, .ledger, .fabric]
    (.channelStatus r) s (doneChannelStatus r (s.atTime r.time))) ∧
  (∀ r s, Taken opAcqAid uBaseband r s (checksAcqAid r) → Runs [.time, .hub, .diag, .ledger, .fabric, .nav] (.acqAid r) s
    (doneAcqAid r (s.atTime r.time))) ∧
  (∀ r s, Taken opOrbitAid uBaseband r s (checksOrbitAid r) → Runs [.time, .hub, .diag, .ledger, .fabric, .nav] (.orbitAid r) s
    (doneOrbitAid r (s.atTime r.time))) ∧
  (∀ r s, Taken opNavRestart uBaseband r s (checksNavRestart r) → Runs [.time, .hub, .diag, .ledger, .fabric, .nav]
    (.navRestart r) s (doneNavRestart r (s.atTime r.time))) ∧
  (∀ r s, Taken opKeptStatus uBaseband r s (fun _ => []) → Runs [.time, .hub, .diag, .ledger, .fabric, .freeCount] (.keptStatus
    r) s (doneKeptStatus r (s.atTime r.time))) ∧
  (∀ r s, Taken opFrontendStatus uBaseband r s (fun _ => []) → Runs [.time, .hub, .diag, .ledger, .fabric] (.frontendStatus r)
    s (doneFrontendStatus r (s.atTime r.time))) ∧
  (∀ (t : Nat) (cause : Nat) (visible : List Nat) s, whenNavStart t cause visible (s.atTime t) = true → Runs [.time, .hub,
    .diag, .nav] (.navStart t cause visible) s (doneNavStart t cause visible (s.atTime t))) ∧
  (∀ (t : Nat) (lat : Int) (lon : Int) (height : Int) (distanceM : Nat) (fix : Nat) (sats : Nat) s, whenFirstFix t lat lon
    height distanceM fix sats (s.atTime t) = true → Runs [.time, .hub, .diag, .nav] (.firstFix t lat lon height distanceM fix
    sats) s (doneFirstFix t lat lon height distanceM fix sats (s.atTime t))) ∧
  (∀ (t : Nat) (sats : List SatView) s, whenChannelReallocation t sats (s.atTime t) = true → Runs [.time, .diag, .nav]
    (.channelReallocation t sats) s (doneChannelReallocation t sats (s.atTime t))) ∧
  (∀ (t : Nat) (ch : Nat) s, (ch < 320) → whenTrackLoss t ch (s.atTime t) = true → Runs [.time, .diag, .nav] (.trackLoss t ch)
    s (doneTrackLoss t ch (s.atTime t))) ∧
  (∀ (t : Nat) (amps : List Correlators) s, whenMpIndexUpdate t amps (s.atTime t) = true → Runs [.time, .nav, .freeCount]
    (.mpIndexUpdate t amps) s (doneMpIndexUpdate t amps (s.atTime t))) ∧
  (∀ (t : Nat) (ch : Nat) (early : Bool) s, (ch < 320) → whenBocFalseLock t ch early (s.atTime t) = true → Runs [.time, .diag,
    .nav] (.bocFalseLock t ch early) s (doneBocFalseLock t ch early (s.atTime t))) ∧
  (∀ (t : Nat) (ant : Nat) (band : Nat) (x : Spectrum) s, (ant < 2 && band < 3) = true → whenSpectrumUpdate t ant band x
    (s.atTime t) = true → Runs [.time, .hub, .diag, .nav] (.spectrumUpdate t ant band x) s (doneSpectrumUpdate t ant band x
    (s.atTime t))) ∧
  (∀ (t : Nat) (ant : Nat) (milliamps : Nat) s, (ant < 2) → whenAntennaBiasFault t ant milliamps (s.atTime t) = true → Runs
    [.time, .hub, .diag, .nav] (.antennaBiasFault t ant milliamps) s (doneAntennaBiasFault t ant milliamps (s.atTime t))) ∧
  (∀ (t : Nat) (ant : Nat) (milliamps : Nat) s, (ant < 2) → whenBiasRetry t ant milliamps (s.atTime t) = true → Runs [.time,
    .hub, .diag, .nav] (.biasRetry t ant milliamps) s (doneBiasRetry t ant milliamps (s.atTime t))) ∧
  (∀ (t : Nat) (ant : Nat) (band : Nat) (gainDb : Int) s, (ant < 2 && band < 3) = true → whenGainCheck t ant band gainDb
    (s.atTime t) = true → Runs [.time, .nav] (.gainCheck t ant band gainDb) s (doneGainCheck t ant band gainDb (s.atTime t))) ∧
  (∀ (t : Nat) (m : List Measure) s, whenMeasurementEpoch t m (s.atTime t) = true → Runs [.time, .hub, .diag, .fabric, .nav]
    (.measurementEpoch t m) s (doneMeasurementEpoch t m (s.atTime t))) ∧
  (∀ (t : Nat) (ch : Nat) s, (ch < 320) → whenSignalAcquired t ch (s.atTime t) = true → Runs [.time, .diag, .nav]
    (.signalAcquired t ch) s (doneSignalAcquired t ch (s.atTime t))) ∧
  (∀ (t : Nat) (ch : Nat) s, (ch < 320) → whenPullInLock t ch (s.atTime t) = true → Runs [.time, .nav] (.pullInLock t ch) s
    (donePullInLock t ch (s.atTime t))) ∧
  (∀ (t : Nat) (d : NavData) s, whenNavDataDecoded t d (s.atTime t) = true → Runs [.time, .nav] (.navDataDecoded t d) s
    (doneNavDataDecoded t d (s.atTime t)))

/-- For each of the 21 commands of the position, heading, time and first-fix family: a request that is taken (its channel
  exists, its gate passes it, its OP has no refusal for it) and an event whose condition holds answer the next state that the
  effect gives, and every part of the state outside the list named with the command is as before. -/
def Obligations.PositionCommandsRun : Prop :=
  (∀ (t : Nat) (bytes : List Byte) s, whenRtcmBytes t bytes (s.atTime t) = true → Runs [.time, .diag, .nav] (.rtcmBytes t
    bytes) s (doneRtcmBytes t bytes (s.atTime t))) ∧
  (∀ (t : Nat) (x : SolutionIn) (fixedSats : Nat) (distM : Nat) s, whenGnssSolution t x fixedSats distM (s.atTime t) = true →
    Runs [.time, .hub, .diag, .fabric, .nav, .freeCount] (.gnssSolution t x fixedSats distM) s (doneGnssSolution t x fixedSats
    distM (s.atTime t))) ∧
  (∀ (t : Nat) (x : SolutionIn) s, whenFusedSolution t x (s.atTime t) = true → Runs [.time, .hub, .diag, .control, .functions,
    .fabric, .nav] (.fusedSolution t x) s (doneFusedSolution t x (s.atTime t))) ∧
  (∀ (t : Nat) s, whenFixLowTimeout t (s.atTime t) = true → Runs [.time, .hub, .diag, .control, .nav] (.fixLowTimeout t) s
    (doneFixLowTimeout t (s.atTime t))) ∧
  (∀ (t : Nat) s, whenIsoGuidanceCommand t (s.atTime t) = true → Runs [.time, .buses] (.isoGuidanceCommand t) s
    (doneIsoGuidanceCommand t (s.atTime t))) ∧
  (∀ (t : Nat) s, whenDeadReckoningStart t (s.atTime t) = true → Runs [.time, .diag, .nav] (.deadReckoningStart t) s
    (doneDeadReckoningStart t (s.atTime t))) ∧
  (∀ (t : Nat) s, whenDrLimitExpiry t (s.atTime t) = true → Runs [.time, .nav] (.drLimitExpiry t) s (doneDrLimitExpiry t
    (s.atTime t))) ∧
  (∀ r s, Taken opSolutionConfig uFusion r s (checksSolutionConfig r) → Runs [.time, .hub, .diag, .ledger, .fabric, .nav]
    (.solutionConfig r) s (doneSolutionConfig r (s.atTime r.time))) ∧
  (∀ r s, Taken opSolutionRead uFusion r s (fun _ => []) → Runs [.time, .hub, .diag, .ledger, .fabric] (.solutionRead r) s
    (doneSolutionRead r (s.atTime r.time))) ∧
  (∀ r s, Taken opGuideLine uFusion r s (checksGuideLine r) → Runs [.time, .hub, .diag, .ledger, .fabric, .nav] (.guideLine r)
    s (doneGuideLine r (s.atTime r.time))) ∧
  (∀ r s, Taken opSteer uFusion r s (checksSteer r) → Runs [.time, .hub, .diag, .ledger, .control, .fabric, .nav, .freeCount]
    (.steer r) s (doneSteer r (s.atTime r.time))) ∧
  (∀ r s, Taken opRtkStatus uRtk r s (fun _ => []) → Runs [.time, .hub, .diag, .ledger, .fabric] (.rtkStatus r) s
    (doneRtkStatus r (s.atTime r.time))) ∧
  (∀ (t : Nat) (peerTime : Nat) s, whenLinkTimeFlit t peerTime (s.atTime t) = true → Runs [.time, .hub, .diag, .nav]
    (.linkTimeFlit t peerTime) s (doneLinkTimeFlit t peerTime (s.atTime t))) ∧
  (∀ (t : Nat) (temp : Int) s, whenHoldoverStart t temp (s.atTime t) = true → Runs [.time, .hub, .diag, .nav] (.holdoverStart t
    temp) s (doneHoldoverStart t temp (s.atTime t))) ∧
  (∀ (t : Nat) (temp : Int) s, whenHoldoverLimit t temp (s.atTime t) = true → Runs [.time, .hub, .diag, .nav] (.holdoverLimit t
    temp) s (doneHoldoverLimit t temp (s.atTime t))) ∧
  (∀ (t : Nat) (offset : Int) s, whenGnssTimeReturn t offset (s.atTime t) = true → Runs [.time, .hub, .diag, .nav]
    (.gnssTimeReturn t offset) s (doneGnssTimeReturn t offset (s.atTime t))) ∧
  (∀ (t : Nat) (qerr : Int) (temp : Int) s, whenTimingMessage t qerr temp (s.atTime t) = true → Runs [.time, .hub, .diag,
    .fabric, .nav, .freeCount] (.timingMessage t qerr temp) s (doneTimingMessage t qerr temp (s.atTime t))) ∧
  (∀ r s, Taken opTimeConfig uTime r s (checksTimeConfig r) → Runs [.time, .hub, .diag, .ledger, .fabric, .nav] (.timeConfig r)
    s (doneTimeConfig r (s.atTime r.time))) ∧
  (∀ r s, Taken opTimeStatus uTime r s (fun _ => []) → Runs [.time, .hub, .diag, .ledger, .fabric, .freeCount] (.timeStatus r)
    s (doneTimeStatus r (s.atTime r.time))) ∧
  (∀ (t : Nat) s, whenModuleTimeTick t (s.atTime t) = true → Runs [.time, .tick, .copies, .hub, .diag, .control, .fabric, .nav,
    .freeCount] (.moduleTimeTick t) s (doneModuleTimeTick t (s.atTime t))) ∧
  (∀ (t : Nat) s, whenTimePulse t (s.atTime t) = true → Runs [.time, .tick, .hub, .power, .rung, .change, .fences, .islands,
    .auth, .diag, .jack, .control, .stage, .functions, .fieldIo, .place, .fabric, .nav, .vision, .infer, .buses, .eth, .fleet,
    .display, .safety, .update, .sections] (.timePulse t) s (doneTimePulse t (s.atTime t)))

/-- For each of the 22 commands of the camera ports and image pipeline family: a request that is taken (its channel exists, its
  gate passes it, its OP has no refusal for it) and an event whose condition holds answer the next state that the effect gives,
  and every part of the state outside the list named with the command is as before. -/
def Obligations.CameraCommandsRun : Prop :=
  (∀ r s, Taken opCameraPortConfig (camUnit r) r s (checksCameraPortConfig r) → Runs [.time, .hub, .diag, .ledger, .fabric,
    .vision] (.cameraPortConfig r) s (doneCameraPortConfig r (s.atTime r.time))) ∧
  (∀ r s, Taken opCameraEnable (camUnit r) r s (checksCameraEnable r) → Runs [.time, .hub, .diag, .ledger, .fabric, .vision]
    (.cameraEnable r) s (doneCameraEnable r (s.atTime r.time))) ∧
  (∀ r s, Taken opFsyncSet (camUnit r) r s (checksFsyncSet r) → Runs [.time, .hub, .diag, .ledger, .fabric, .vision] (.fsyncSet
    r) s (doneFsyncSet r (s.atTime r.time))) ∧
  (∀ r s, Taken opCtrlXfer (camUnit r) r s (checksCtrlXfer r) → Runs [.time, .hub, .diag, .ledger, .fabric, .freeCount]
    (.ctrlXfer r) s (doneCtrlXfer r (s.atTime r.time))) ∧
  (∀ r s, Taken opCameraPortStatus (camUnit r) r s (checksCameraPortStatus r) → Runs [.time, .hub, .diag, .ledger, .fabric]
    (.cameraPortStatus r) s (doneCameraPortStatus r (s.atTime r.time))) ∧
  (∀ (t : Nat) (port : Nat) s, (port < 12) → whenCameraLinkLock t port (s.atTime t) = true → Runs [.time, .hub, .diag, .vision]
    (.cameraLinkLock t port) s (doneCameraLinkLock t port (s.atTime t))) ∧
  (∀ (t : Nat) (port : Nat) s, (port < 12) → whenCameraLinkLoss t port (s.atTime t) = true → Runs [.time, .hub, .diag, .vision]
    (.cameraLinkLoss t port) s (doneCameraLinkLoss t port (s.atTime t))) ∧
  (∀ (t : Nat) (port : Nat) (milliamps : Nat) s, (port < 12) → whenPocOvercurrent t port milliamps (s.atTime t) = true → Runs
    [.time, .hub, .diag, .fabric, .vision] (.pocOvercurrent t port milliamps) s (donePocOvercurrent t port milliamps (s.atTime
    t))) ∧
  (∀ (t : Nat) (currents : List Nat) s, Runs [.time, .hub, .diag, .fabric, .vision] (.pocTotalLimit t currents) s
    (donePocTotalLimit t currents (s.atTime t))) ∧
  (∀ (t : Nat) s, whenBridgeSupplyFault t (s.atTime t) = true → Runs [.time, .hub, .diag, .fabric, .vision] (.bridgeSupplyFault
    t) s (doneBridgeSupplyFault t (s.atTime t))) ∧
  (∀ (t : Nat) s, whenBridgeResetRelease t (s.atTime t) = true → Runs [.time, .hub, .diag, .vision] (.bridgeResetRelease t) s
    (doneBridgeResetRelease t (s.atTime t))) ∧
  (∀ (t : Nat) (port : Nat) s, (port < 16) → whenFsyncPulse t port (s.atTime t) = true → Runs [.time, .vision] (.fsyncPulse t
    port) s (doneFsyncPulse t port (s.atTime t))) ∧
  (∀ (t : Nat) (port : Nat) (p : CsiPacket) s, (port < 16) → whenCsiPacket t port p (s.atTime t) = true → Runs [.time, .hub,
    .diag, .vision] (.csiPacket t port p) s (doneCsiPacket t port p (s.atTime t))) ∧
  (∀ (t : Nat) (port : Nat) s, (port < 16) → whenFrameTimeout t port (s.atTime t) = true → Runs [.time, .diag, .vision]
    (.frameTimeout t port) s (doneFrameTimeout t port (s.atTime t))) ∧
  (∀ (t : Nat) (port : Nat) s, (port < 16) → whenNoFramesTimeout t port (s.atTime t) = true → Runs [.time, .hub, .diag,
    .fabric, .vision] (.noFramesTimeout t port) s (doneNoFramesTimeout t port (s.atTime t))) ∧
  (∀ (t : Nat) (port : Nat) s, (port < 16) → whenFrameEnd t port (s.atTime t) = true → Runs [.time, .hub, .diag, .fabric,
    .vision] (.frameEnd t port) s (doneFrameEnd t port (s.atTime t))) ∧
  (∀ (t : Nat) (pipe : Nat) s, (pipe < 2) → whenPipelineLine t pipe (s.atTime t) = true → Runs [.time, .vision] (.pipelineLine
    t pipe) s (donePipelineLine t pipe (s.atTime t))) ∧
  (∀ (t : Nat) (port : Nat) s, (port < 16) → whenPipelineFrameOutput t port (s.atTime t) = true → Runs [.time, .hub, .diag,
    .fabric, .vision] (.pipelineFrameOutput t port) s (donePipelineFrameOutput t port (s.atTime t))) ∧
  (∀ r s, Taken opStageSet (s.pipeUnit r) r s (checksStageSet r) → Runs [.time, .hub, .diag, .ledger, .fabric, .vision]
    (.stageSet r) s (doneStageSet r (s.atTime r.time))) ∧
  (∀ r s, Taken opOutputSet (s.pipeUnit r) r s (checksOutputSet r) → Runs [.time, .hub, .diag, .ledger, .fabric, .vision]
    (.outputSet r) s (doneOutputSet r (s.atTime r.time))) ∧
  (∀ r s, Taken opOutputStatus (s.pipeUnit r) r s (checksOutputStatus r) → Runs [.time, .hub, .diag, .ledger, .fabric]
    (.outputStatus r) s (doneOutputStatus r (s.atTime r.time))) ∧
  (∀ r s, Taken opPipeStatus (supervisorOf islVis) r s (checksPipeStatus r) → Runs [.time, .hub, .diag, .ledger, .fabric]
    (.pipeStatus r) s (donePipeStatus r (s.atTime r.time)))

/-- For each of the 14 commands of the inference family: a request that is taken (its channel exists, its gate passes it, its
  OP has no refusal for it) and an event whose condition holds answer the next state that the effect gives, and every part of
  the state outside the list named with the command is as before. -/
def Obligations.InferenceCommandsRun : Prop :=
  (∀ r s, Taken opModelLoad (uCluster 0) r s (checksModelLoad r) → Runs [.time, .hub, .diag, .ledger, .fabric, .infer]
    (.modelLoad r) s (doneModelLoad r (s.atTime r.time))) ∧
  (∀ r s, Taken opModelUnload (uCluster 0) r s (checksModelUnload r) → Runs [.time, .hub, .diag, .ledger, .fabric, .infer]
    (.modelUnload r) s (doneModelUnload r (s.atTime r.time))) ∧
  (∀ r s, Taken opJobDefine (homeCluster (min 63 (r.u 0 1))) r s (checksJobDefine r) → Runs [.time, .hub, .diag, .ledger,
    .fabric, .infer] (.jobDefine r) s (doneJobDefine r (s.atTime r.time))) ∧
  (∀ r s, Taken opJobClear (homeCluster (min 63 (r.u 0 1))) r s (checksJobClear r) → Runs [.time, .hub, .diag, .ledger,
    .fabric, .infer] (.jobClear r) s (doneJobClear r (s.atTime r.time))) ∧
  (∀ r s, Taken opJobStart (homeCluster (min 63 (r.u 0 1))) r s (checksJobStart r) → Runs [.time, .hub, .diag, .ledger, .place,
    .fabric, .infer] (.jobStart r) s (doneJobStart r (s.atTime r.time))) ∧
  (∀ r s, Taken opJobStop (homeCluster (min 63 (r.u 0 1))) r s (checksJobStop r) → Runs [.time, .hub, .diag, .ledger, .place,
    .fabric, .infer] (.jobStop r) s (doneJobStop r (s.atTime r.time))) ∧
  (∀ r s, Taken opPoolDone (homeCluster (min 63 (r.u 0 1))) r s (checksPoolDone r) → Runs [.time, .hub, .diag, .ledger,
    .fabric, .infer] (.poolDone r) s (donePoolDone r (s.atTime r.time))) ∧
  (∀ r s, Taken opJobStatus (homeCluster (min 63 (r.u 0 1))) r s (checksJobStatus r) → Runs [.time, .hub, .diag, .ledger,
    .fabric] (.jobStatus r) s (doneJobStatus r (s.atTime r.time))) ∧
  (∀ (t : Nat) (job : Nat) (seq : Nat) (m : Msg) s, (job < 64) → whenInferenceInput t job seq m (s.atTime t) = true → Runs
    [.time, .hub, .diag, .place, .infer, .fleet] (.inferenceInput t job seq m) s (doneInferenceInput t job seq m (s.atTime t)))
    ∧
  (∀ (t : Nat) (job : Nat) s, (job < 64) → whenInputPlacement t job (s.atTime t) = true → Runs [.time, .hub, .diag, .fabric,
    .infer] (.inputPlacement t job) s (doneInputPlacement t job (s.atTime t))) ∧
  (∀ (t : Nat) s, whenRunStart t (s.atTime t) = true → Runs [.time, .hub, .diag, .infer] (.runStart t) s (doneRunStart t
    (s.atTime t))) ∧
  (∀ (t : Nat) (job : Nat) s, (job < 64) → whenLayerPreempt t job (s.atTime t) = true → Runs [.time, .diag, .infer]
    (.layerPreempt t job) s (doneLayerPreempt t job (s.atTime t))) ∧
  (∀ (t : Nat) (job : Nat) (body : List Byte) s, (job < 64) → whenRunEnd t job body (s.atTime t) = true → Runs [.time, .hub,
    .diag, .fabric, .infer] (.runEnd t job body) s (doneRunEnd t job body (s.atTime t))) ∧
  (∀ (t : Nat) (job : Nat) (item : Nat) s, (job < 64) → whenPoolTimeout t job item (s.atTime t) = true → Runs [.time, .hub,
    .diag, .fabric, .infer] (.poolTimeout t job item) s (donePoolTimeout t job item (s.atTime t)))

/-- For each of the 23 commands of the message bus family: a request that is taken (its channel exists, its gate passes it, its
  OP has no refusal for it) and an event whose condition holds answer the next state that the effect gives, and every part of
  the state outside the list named with the command is as before. -/
def Obligations.BusCommandsRun : Prop :=
  (∀ r s, Taken opBusConfig (busUnit r) r s (checksBusConfig r) → Runs [.time, .hub, .diag, .ledger, .fabric, .buses]
    (.busConfig r) s (doneBusConfig r (s.atTime r.time))) ∧
  (∀ r s, Taken opBusControl (busUnit r) r s (checksBusControl r) → Runs [.time, .hub, .diag, .ledger, .fabric, .buses]
    (.busControl r) s (doneBusControl r (s.atTime r.time))) ∧
  (∀ r s, Taken opFilterSet (busUnit r) r s (checksFilterSet r) → Runs [.time, .hub, .diag, .ledger, .fabric, .buses]
    (.filterSet r) s (doneFilterSet r (s.atTime r.time))) ∧
  (∀ r s, Taken opCompatSet (busUnit r) r s (checksCompatSet r) → Runs [.time, .hub, .diag, .ledger, .fabric, .buses]
    (.compatSet r) s (doneCompatSet r (s.atTime r.time))) ∧
  (∀ r s, Taken opQueueConfig (busUnit r) r s (checksQueueConfig r) → Runs [.time, .hub, .diag, .ledger, .fabric, .buses]
    (.queueConfig r) s (doneQueueConfig r (s.atTime r.time))) ∧
  (∀ r s, Taken opRxRead (busUnit r) r s (checksRxRead r) → Runs [.time, .hub, .diag, .ledger, .fabric, .buses] (.rxRead r) s
    (doneRxRead r (s.atTime r.time))) ∧
  (∀ r s, Taken opTxWrite (busUnit r) r s (checksTxWrite r) → Runs [.time, .hub, .diag, .ledger, .fabric, .buses] (.txWrite r)
    s (doneTxWrite r (s.atTime r.time))) ∧
  (∀ r s, Taken opTxAbort (busUnit r) r s (checksTxAbort r) → Runs [.time, .hub, .diag, .ledger, .fabric, .buses] (.txAbort r)
    s (doneTxAbort r (s.atTime r.time))) ∧
  (∀ r s, Taken opBusStatus (busUnit r) r s (checksBusStatus r) → Runs [.time, .hub, .diag, .ledger, .fabric, .freeCount]
    (.busStatus r) s (doneBusStatus r (s.atTime r.time))) ∧
  (∀ r s, Taken opCfClaim (busUnit r) r s (checksCfClaim r) → Runs [.time, .hub, .diag, .ledger, .fabric, .buses] (.cfClaim r)
    s (doneCfClaim r (s.atTime r.time))) ∧
  (∀ r s, Taken opPgnSend (busUnit r) r s (checksPgnSend r) → Runs [.time, .hub, .diag, .ledger, .fabric, .buses] (.pgnSend r)
    s (donePgnSend r (s.atTime r.time))) ∧
  (∀ (t : Nat) (mb : Nat) (f : CanFrame) s, (mb < 12) → whenCanFrameRx t mb f (s.atTime t) = true → Runs [.time, .hub, .diag,
    .fabric, .buses, .freeCount] (.canFrameRx t mb f) s (doneCanFrameRx t mb f (s.atTime t))) ∧
  (∀ (t : Nat) (mb : Nat) (obj : Nat) s, (mb < 12 && obj < 64) = true → whenTxNotBefore t mb obj (s.atTime t) = true → Runs
    [.time, .buses] (.txNotBefore t mb obj) s (doneTxNotBefore t mb obj (s.atTime t))) ∧
  (∀ (t : Nat) (mb : Nat) (sof : Nat) (e : AttemptEnd) s, (mb < 12) → whenTxAttemptEnd t mb sof e (s.atTime t) = true → Runs
    [.time, .hub, .diag, .fabric, .buses, .freeCount] (.txAttemptEnd t mb sof e) s (doneTxAttemptEnd t mb sof e (s.atTime t))) ∧
  (∀ (t : Nat) (mb : Nat) (transmit : Bool) (lec : Nat) (inc : Nat) s, (mb < 12) → whenBusError t mb transmit lec inc (s.atTime
    t) = true → Runs [.time, .hub, .diag, .buses] (.busError t mb transmit lec inc) s (doneBusError t mb transmit lec inc
    (s.atTime t))) ∧
  (∀ (t : Nat) (mb : Nat) s, (mb < 12) → whenBusOffDelayExpiry t mb (s.atTime t) = true → Runs [.time, .hub, .diag, .buses]
    (.busOffDelayExpiry t mb) s (doneBusOffDelayExpiry t mb (s.atTime t))) ∧
  (∀ (t : Nat) (mb : Nat) s, (mb < 12) → whenRecoveryComplete t mb (s.atTime t) = true → Runs [.time, .hub, .diag, .buses]
    (.recoveryComplete t mb) s (doneRecoveryComplete t mb (s.atTime t))) ∧
  (∀ (t : Nat) (mb : Nat) (queue : Nat) s, (mb < 12 && queue < 4) = true → whenQueueBatchTimeout t mb queue (s.atTime t) = true
    → Runs [.time, .hub, .diag, .fabric, .buses] (.queueBatchTimeout t mb queue) s (doneQueueBatchTimeout t mb queue (s.atTime
    t))) ∧
  (∀ (t : Nat) (mb : Nat) (cf : Nat) s, (mb < 12 && cf < 4) = true → whenAddressClaimTimer t mb cf (s.atTime t) = true → Runs
    [.time, .hub, .diag, .buses] (.addressClaimTimer t mb cf) s (doneAddressClaimTimer t mb cf (s.atTime t))) ∧
  (∀ (t : Nat) (mb : Nat) (f : CanFrame) s, (mb < 12) → whenTransportPacketRx t mb f (s.atTime t) = true → Runs [.time, .hub,
    .diag, .fabric, .buses] (.transportPacketRx t mb f) s (doneTransportPacketRx t mb f (s.atTime t))) ∧
  (∀ (t : Nat) (mb : Nat) (session : Nat) s, (mb < 12) → whenTransportTimeout t mb session (s.atTime t) = true → Runs [.time,
    .hub, .diag, .buses] (.transportTimeout t mb session) s (doneTransportTimeout t mb session (s.atTime t))) ∧
  (∀ (t : Nat) (mb : Nat) (session : Nat) s, (mb < 12) → whenBamPacketTimer t mb session (s.atTime t) = true → Runs [.time,
    .buses] (.bamPacketTimer t mb session) s (doneBamPacketTimer t mb session (s.atTime t))) ∧
  (∀ (t : Nat) (mb : Nat) s, (mb < 12) → whenBusIntegrated t mb (s.atTime t) = true → Runs [.time, .hub, .diag, .buses]
    (.busIntegrated t mb) s (doneBusIntegrated t mb (s.atTime t)))

/-- For each of the 21 commands of the Ethernet and fleet family: a request that is taken (its channel exists, its gate passes
  it, its OP has no refusal for it) and an event whose condition holds answer the next state that the effect gives, and every
  part of the state outside the list named with the command is as before. -/
def Obligations.NetCommandsRun : Prop :=
  (∀ r s, Taken opEthPortConfig uSwitch r s (checksEthPortConfig r) → Runs [.time, .hub, .diag, .ledger, .fabric, .eth]
    (.ethPortConfig r) s (doneEthPortConfig r (s.atTime r.time))) ∧
  (∀ r s, Taken opEthPortStatus uSwitch r s (checksEthPortStatus r) → Runs [.time, .hub, .diag, .ledger, .fabric]
    (.ethPortStatus r) s (doneEthPortStatus r (s.atTime r.time))) ∧
  (∀ r s, Taken opGateSet uSwitch r s (checksGateSet r) → Runs [.time, .hub, .diag, .ledger, .fabric, .eth] (.gateSet r) s
    (doneGateSet r (s.atTime r.time))) ∧
  (∀ r s, Taken opSyncConfig uSwitch r s (checksSyncConfig r) → Runs [.time, .hub, .diag, .ledger, .fabric, .eth] (.syncConfig
    r) s (doneSyncConfig r (s.atTime r.time))) ∧
  (∀ r s, Taken opIpConfig uSwitch r s (checksIpConfig r) → Runs [.time, .hub, .diag, .ledger, .fabric, .eth, .fleet]
    (.ipConfig r) s (doneIpConfig r (s.atTime r.time))) ∧
  (∀ r s, Taken opNodeSet uSwitch r s (checksNodeSet r) → Runs [.time, .hub, .diag, .ledger, .fabric, .eth] (.nodeSet r) s
    (doneNodeSet r (s.atTime r.time))) ∧
  (∀ (t : Nat) (port : Nat) (f : EthFrame) s, (port < 8) → whenEthFrameRx t port f (s.atTime t) = true → Runs [.time, .hub,
    .diag, .eth, .fleet] (.ethFrameRx t port f) s (doneEthFrameRx t port f (s.atTime t))) ∧
  (∀ (t : Nat) (mac : Nat) s, Runs [.time, .eth] (.addressAgeing t mac) s (doneAddressAgeing t mac (s.atTime t))) ∧
  (∀ (t : Nat) (port : Nat) (up : Bool) (speed : Nat) (sqi : Nat) s, (port < 7) → whenEthLinkChange t port up speed sqi
    (s.atTime t) = true → Runs [.time, .hub, .diag, .eth] (.ethLinkChange t port up speed sqi) s (doneEthLinkChange t port up
    speed sqi (s.atTime t))) ∧
  (∀ (t : Nat) s, whenGptpSyncTx t (s.atTime t) = true → Runs [.time, .eth] (.gptpSyncTx t) s (doneGptpSyncTx t (s.atTime t))) ∧
  (∀ (t : Nat) s, whenGptpAnnounceTx t (s.atTime t) = true → Runs [.time, .eth] (.gptpAnnounceTx t) s (doneGptpAnnounceTx t
    (s.atTime t))) ∧
  (∀ (t : Nat) s, whenPdelayTx t (s.atTime t) = true → Runs [.time, .eth] (.pdelayTx t) s (donePdelayTx t (s.atTime t))) ∧
  (∀ (t : Nat) (port : Nat) s, (port < 5) → whenGateEntryStart t port (s.atTime t) = true → Runs [.time, .eth] (.gateEntryStart
    t port) s (doneGateEntryStart t port (s.atTime t))) ∧
  (∀ (t : Nat) (port : Nat) s, (port < 5) → whenGateListAdopt t port (s.atTime t) = true → Runs [.time, .hub, .diag, .eth]
    (.gateListAdopt t port) s (doneGateListAdopt t port (s.atTime t))) ∧
  (∀ r s, Taken opFleetConfig uFleet r s (checksFleetConfig r) → Runs [.time, .hub, .diag, .ledger, .fabric, .eth, .fleet]
    (.fleetConfig r) s (doneFleetConfig r (s.atTime r.time))) ∧
  (∀ r s, Taken opFleetStatus uFleet r s (fun _ => []) → Runs [.time, .hub, .diag, .ledger, .fabric, .fleet] (.fleetStatus r) s
    (doneFleetStatus r (s.atTime r.time))) ∧
  (∀ r s, Taken opMapMerge uFleet r s (checksMapMerge r) → Runs [.time, .hub, .diag, .ledger, .place, .fabric, .fleet,
    .freeCount] (.mapMerge r) s (doneMapMerge r (s.atTime r.time))) ∧
  (∀ (t : Nat) s, whenMergeJobEnd t (s.atTime t) = true → Runs [.time, .hub, .diag, .place, .fleet] (.mergeJobEnd t) s
    (doneMergeJobEnd t (s.atTime t))) ∧
  (∀ (t : Nat) s, whenFleetExchange t (s.atTime t) = true → Runs [.time, .hub, .diag, .eth, .fleet] (.fleetExchange t) s
    (doneFleetExchange t (s.atTime t))) ∧
  (∀ (t : Nat) (port : Nat) (bytes : List Byte) s, (port < 8) → whenFleetDatagramRx t port bytes (s.atTime t) = true → Runs
    [.time, .hub, .diag, .place, .fabric, .eth, .fleet] (.fleetDatagramRx t port bytes) s (doneFleetDatagramRx t port bytes
    (s.atTime t))) ∧
  (∀ (t : Nat) (beacon : Bool) s, whenPlcaFallback t beacon (s.atTime t) = true → Runs [.time, .eth] (.plcaFallback t beacon) s
    (donePlcaFallback t beacon (s.atTime t)))

/-- For each of the 22 commands of the field I/O and sensors family: a request that is taken (its channel exists, its gate
  passes it, its OP has no refusal for it) and an event whose condition holds answer the next state that the effect gives, and
  every part of the state outside the list named with the command is as before. -/
def Obligations.FieldCommandsRun : Prop :=
  (∀ (t : Nat) (mv : Nat) s, whenFsupLow t mv (s.atTime t) = true → Runs [.time, .hub, .diag, .fieldIo] (.fsupLow t mv) s
    (doneFsupLow t mv (s.atTime t))) ∧
  (∀ (t : Nat) (mv : Nat) s, whenFsupLost t mv (s.atTime t) = true → Runs [.time, .hub, .diag, .fieldIo] (.fsupLost t mv) s
    (doneFsupLost t mv (s.atTime t))) ∧
  (∀ (t : Nat) (mv : Nat) s, whenFsupRestored t mv (s.atTime t) = true → Runs [.time, .hub, .power, .diag, .fieldIo]
    (.fsupRestored t mv) s (doneFsupRestored t mv (s.atTime t))) ∧
  (∀ (t : Nat) (fi : Nat) (level : Bool) (stamp : Nat) s, (fi < 32) → whenFiLevelAccept t fi level stamp (s.atTime t) = true →
    Runs [.time, .diag, .fieldIo] (.fiLevelAccept t fi level stamp) s (doneFiLevelAccept t fi level stamp (s.atTime t))) ∧
  (∀ (t : Nat) s, whenFiChangeMessage t (s.atTime t) = true → Runs [.time, .hub, .diag, .fieldIo, .fabric] (.fiChangeMessage t)
    s (doneFiChangeMessage t (s.atTime t))) ∧
  (∀ (t : Nat) (fi : Nat) (currentUa : Nat) s, (fi < 32) → whenWireBreakDetect t fi currentUa (s.atTime t) = true → Runs
    [.time, .hub, .diag, .fieldIo] (.wireBreakDetect t fi currentUa) s (doneWireBreakDetect t fi currentUa (s.atTime t))) ∧
  (∀ (t : Nat) (fi : Nat) (currentUa : Nat) s, (fi < 32) → whenWireBreakClear t fi currentUa (s.atTime t) = true → Runs [.time,
    .hub, .diag, .fieldIo] (.wireBreakClear t fi currentUa) s (doneWireBreakClear t fi currentUa (s.atTime t))) ∧
  (∀ (t : Nat) (fo : Nat) (currentMa : Nat) s, (fo < 16) → whenFoShort t fo currentMa (s.atTime t) = true → Runs [.time, .hub,
    .diag, .fieldIo] (.foShort t fo currentMa) s (doneFoShort t fo currentMa (s.atTime t))) ∧
  (∀ (t : Nat) (fo : Nat) (junction : Int) (currentMa : Nat) s, (fo < 16) → whenFoOvertemp t fo junction currentMa (s.atTime t)
    = true → Runs [.time, .hub, .diag, .fieldIo] (.foOvertemp t fo junction currentMa) s (doneFoOvertemp t fo junction
    currentMa (s.atTime t))) ∧
  (∀ (t : Nat) (fo : Nat) (currentMa : Nat) s, (fo < 16) → whenFoOpenLoad t fo currentMa (s.atTime t) = true → Runs [.time,
    .hub, .diag, .fieldIo] (.foOpenLoad t fo currentMa) s (doneFoOpenLoad t fo currentMa (s.atTime t))) ∧
  (∀ (t : Nat) (si : Nat) (raw : Int) (supplyMv : Nat) s, (si < 16) → whenSiConversion t si raw supplyMv (s.atTime t) = true →
    Runs [.time, .hub, .diag, .fieldIo, .freeCount] (.siConversion t si raw supplyMv) s (doneSiConversion t si raw supplyMv
    (s.atTime t))) ∧
  (∀ (t : Nat) (si : Nat) s, (si < 16) → whenShuntReenable t si (s.atTime t) = true → Runs [.time, .fieldIo] (.shuntReenable t
    si) s (doneShuntReenable t si (s.atTime t))) ∧
  (∀ (t : Nat) (si : Nat) s, (si < 16) → whenAcousticHit t si (s.atTime t) = true → Runs [.time, .fieldIo] (.acousticHit t si)
    s (doneAcousticHit t si (s.atTime t))) ∧
  (∀ (t : Nat) (sup : Nat) (milliamps : Nat) s, (sup < 4) → whenSup5Fault t sup milliamps (s.atTime t) = true → Runs [.time,
    .hub, .diag, .fieldIo, .freeCount] (.sup5Fault t sup milliamps) s (doneSup5Fault t sup milliamps (s.atTime t))) ∧
  (∀ (t : Nat) (sup : Nat) (mv : Nat) (milliamps : Nat) s, (sup < 4) → whenSup5Retry t sup mv milliamps (s.atTime t) = true →
    Runs [.time, .hub, .diag, .fieldIo, .freeCount] (.sup5Retry t sup mv milliamps) s (doneSup5Retry t sup mv milliamps
    (s.atTime t))) ∧
  (∀ r s, Taken opFiConfig uFi r s (checksFiConfig r) → Runs [.time, .hub, .diag, .ledger, .fieldIo, .fabric, .freeCount]
    (.fiConfig r) s (doneFiConfig r (s.atTime r.time))) ∧
  (∀ r s, Taken opFoConfig uFo r s (checksFoConfig r) → Runs [.time, .hub, .diag, .ledger, .fieldIo, .fabric] (.foConfig r) s
    (doneFoConfig r (s.atTime r.time))) ∧
  (∀ r s, Taken opSiConfig uSensor r s (checksSiConfig r) → Runs [.time, .hub, .diag, .ledger, .fieldIo, .fabric] (.siConfig r)
    s (doneSiConfig r (s.atTime r.time))) ∧
  (∀ r s, Taken opFoSet uFo r s (checksFoSet r) → entryRefusal (entriesFoSet r (s.atTime r.time)) = none → Runs [.time, .hub,
    .power, .diag, .ledger, .fieldIo, .fabric] (.foSet r) s (doneFoSet r (s.atTime r.time))) ∧
  (∀ r s, Taken opFoClear uFo r s (checksFoClear r) → Runs [.time, .hub, .diag, .ledger, .fieldIo, .fabric] (.foClear r) s
    (doneFoClear r (s.atTime r.time))) ∧
  (∀ r s, Taken opFieldStatus (supervisorOf islFld) r s (fun _ => []) → Runs [.time, .hub, .diag, .ledger, .fabric]
    (.fieldStatus r) s (doneFieldStatus r (s.atTime r.time))) ∧
  (∀ r s, Taken opSiStatus uSensor r s (fun _ => []) → Runs [.time, .hub, .diag, .ledger, .fabric] (.siStatus r) s
    (doneSiStatus r (s.atTime r.time)))

/-- For each of the 16 commands of the display engine family: a request that is taken (its channel exists, its gate passes it,
  its OP has no refusal for it) and an event whose condition holds answer the next state that the effect gives, and every part
  of the state outside the list named with the command is as before. -/
def Obligations.DisplayCommandsRun : Prop :=
  (∀ r s, Taken opDisplayConfig uDisplay r s (checksDisplayConfig r) → Runs [.time, .hub, .diag, .ledger, .fabric, .display]
    (.displayConfig r) s (doneDisplayConfig r (s.atTime r.time))) ∧
  (∀ r s, Taken opWaveformLoad uDisplay r s (checksWaveformLoad r) → Runs [.time, .hub, .diag, .ledger, .fabric, .display]
    (.waveformLoad r) s (doneWaveformLoad r (s.atTime r.time))) ∧
  (∀ r s, Taken opDisplayUpdate uDisplay r s (checksDisplayUpdate r) → Runs [.time, .hub, .diag, .ledger, .fabric, .display]
    (.displayUpdate r) s (doneDisplayUpdate r (s.atTime r.time))) ∧
  (∀ r s, Taken opFrontLight uDisplayPower r s (checksFrontLight r) → Runs [.time, .hub, .diag, .ledger, .fabric, .display]
    (.frontLight r) s (doneFrontLight r (s.atTime r.time))) ∧
  (∀ r s, Taken opDisplayStatus uDisplay r s (fun _ => []) → Runs [.time, .hub, .diag, .ledger, .fabric, .freeCount]
    (.displayStatus r) s (doneDisplayStatus r (s.atTime r.time))) ∧
  (∀ (t : Nat) (fitted : Bool) (lidSel : Bool) (identity : List Byte) s, whenPanelDetectChange t fitted lidSel identity
    (s.atTime t) = true → Runs [.time, .hub, .diag, .ledger, .display] (.panelDetectChange t fitted lidSel identity) s
    (donePanelDetectChange t fitted lidSel identity (s.atTime t))) ∧
  (∀ (t : Nat) s, whenRailPowerUp t (s.atTime t) = true → Runs [.time, .diag, .display] (.railPowerUp t) s (doneRailPowerUp t
    (s.atTime t))) ∧
  (∀ (t : Nat) (rail : Nat) s, whenRailFault t rail (s.atTime t) = true → Runs [.time, .hub, .diag, .display] (.railFault t
    rail) s (doneRailFault t rail (s.atTime t))) ∧
  (∀ (t : Nat) s, whenRailRetry t (s.atTime t) = true → Runs [.time, .diag, .display] (.railRetry t) s (doneRailRetry t
    (s.atTime t))) ∧
  (∀ (t : Nat) s, whenDischargeSequence t (s.atTime t) = true → Runs [.time, .diag, .display] (.dischargeSequence t) s
    (doneDischargeSequence t (s.atTime t))) ∧
  (∀ (t : Nat) s, whenDisplayIdleTimeout t (s.atTime t) = true → Runs [.time, .hub, .diag, .display] (.displayIdleTimeout t) s
    (doneDisplayIdleTimeout t (s.atTime t))) ∧
  (∀ (t : Nat) s, whenPanelTempTimeout t (s.atTime t) = true → Runs [.time, .hub, .diag, .display] (.panelTempTimeout t) s
    (donePanelTempTimeout t (s.atTime t))) ∧
  (∀ (t : Nat) (temp : Int) s, whenUpdateStart t temp (s.atTime t) = true → Runs [.time, .hub, .diag, .ledger, .place, .fleet,
    .display, .freeCount] (.updateStart t temp) s (doneUpdateStart t temp (s.atTime t))) ∧
  (∀ (t : Nat) s, whenDisplayFrameEnd t (s.atTime t) = true → Runs [.time, .hub, .diag, .ledger, .display] (.displayFrameEnd t)
    s (doneDisplayFrameEnd t (s.atTime t))) ∧
  (∀ (t : Nat) (temp : Int) s, whenRestoration t temp (s.atTime t) = true → Runs [.time, .hub, .diag, .ledger, .display]
    (.restoration t temp) s (doneRestoration t temp (s.atTime t))) ∧
  (∀ (t : Nat) s, whenFrontLightFault t (s.atTime t) = true → Runs [.time, .hub, .diag, .display] (.frontLightFault t) s
    (doneFrontLightFault t (s.atTime t)))

/-- For each of the 24 commands of the safety island family: a request that is taken (its channel exists, its gate passes it,
  its OP has no refusal for it) and an event whose condition holds answer the next state that the effect gives, and every part
  of the state outside the list named with the command is as before. -/
def Obligations.SafetyCommandsRun : Prop :=
  (∀ (t : Nat) (c : SafCycle) s, whenSafetyLogicCycle t c (s.atTime t) = true → Runs [.time, .hub, .change, .diag, .safety]
    (.safetyLogicCycle t c) s (doneSafetyLogicCycle t c (s.atTime t))) ∧
  (∀ (t : Nat) (x : SafSample) s, whenSafeInSample t x (s.atTime t) = true → Runs [.time, .hub, .change, .diag, .safety]
    (.safeInSample t x) s (doneSafeInSample t x (s.atTime t))) ∧
  (∀ (t : Nat) (input : Nat) s, (input < 8) → whenSafeInAccept t input (s.atTime t) = true → Runs [.time, .hub, .diag, .safety]
    (.safeInAccept t input) s (doneSafeInAccept t input (s.atTime t))) ∧
  (∀ (t : Nat) (mismatch : Option Nat) s, whenInputPathTest t mismatch (s.atTime t) = true → Runs [.time, .hub, .change, .diag,
    .safety] (.inputPathTest t mismatch) s (doneInputPathTest t mismatch (s.atTime t))) ∧
  (∀ (t : Nat) (highNs : Nat) s, whenSafeRstEdge t highNs (s.atTime t) = true → Runs [.time, .hub, .diag, .safety]
    (.safeRstEdge t highNs) s (doneSafeRstEdge t highNs (s.atTime t))) ∧
  (∀ (t : Nat) s, whenSafeRstStuck t (s.atTime t) = true → Runs [.time, .hub, .diag, .safety] (.safeRstStuck t) s
    (doneSafeRstStuck t (s.atTime t))) ∧
  (∀ (t : Nat) (out : Nat) s, (out < 4) → whenSafeTestPulse t out (s.atTime t) = true → Runs [.time, .diag, .safety]
    (.safeTestPulse t out) s (doneSafeTestPulse t out (s.atTime t))) ∧
  (∀ (t : Nat) (out : Nat) (readbackMv : Nat) s, (out < 4) → whenSafeTestPulseEnd t out readbackMv (s.atTime t) = true → Runs
    [.time, .hub, .diag, .safety] (.safeTestPulseEnd t out readbackMv) s (doneSafeTestPulseEnd t out readbackMv (s.atTime t))) ∧
  (∀ (t : Nat) (out : Nat) s, (out < 4) → whenSafeOutOvercurrent t out (s.atTime t) = true → Runs [.time, .hub, .diag, .safety]
    (.safeOutOvercurrent t out) s (doneSafeOutOvercurrent t out (s.atTime t))) ∧
  (∀ (t : Nat) (out : Nat) (below : Bool) s, (out < 4) → whenSafeOpenLoad t out below (s.atTime t) = true → Runs [.time,
    .safety] (.safeOpenLoad t out below) s (doneSafeOpenLoad t out below (s.atTime t))) ∧
  (∀ (t : Nat) (fn : Nat) s, (fn < 8) → whenStopDelayExpiry t fn (s.atTime t) = true → Runs [.time, .hub, .diag, .safety]
    (.stopDelayExpiry t fn) s (doneStopDelayExpiry t fn (s.atTime t))) ∧
  (∀ (t : Nat) (pass : Bool) s, whenSafeTest pass (s.atTime t) = true → Runs [.time, .hub, .change, .diag, .safety] (.ramMarch
    t pass) s (doneRamMarch t pass (s.atTime t))) ∧
  (∀ (t : Nat) (pass : Bool) s, whenSafeTest pass (s.atTime t) = true → Runs [.time, .hub, .change, .diag, .safety]
    (.codeCrcCheck t pass) s (doneCodeCrcCheck t pass (s.atTime t))) ∧
  (∀ (t : Nat) (pass : Bool) s, whenSafeTest pass (s.atTime t) = true → Runs [.time, .hub, .change, .diag, .safety]
    (.clockCompare t pass) s (doneClockCompare t pass (s.atTime t))) ∧
  (∀ (t : Nat) (fault : Nat) s, (fault ≤ 8) → whenSafSelftest t fault (s.atTime t) = true → Runs [.time, .hub, .change, .diag,
    .safety, .update] (.safSelftest t fault) s (doneSafSelftest t fault (s.atTime t))) ∧
  (∀ r s, Taken opSafetyStatus uSafety r s (fun _ => []) → Runs [.time, .hub, .diag, .ledger, .fabric] (.safetyStatus r) s
    (doneSafetyStatus r (s.atTime r.time))) ∧
  (∀ r s, Taken opConfigRead uSafety r s (checksConfigRead r) → Runs [.time, .hub, .diag, .ledger, .fabric, .freeCount]
    (.configRead r) s (doneConfigRead r (s.atTime r.time))) ∧
  (∀ r s, Taken opConfigStage uSafety r s (checksConfigStage r) → Runs [.time, .hub, .diag, .ledger, .fabric, .safetyRecord]
    (.configStage r) s (doneConfigStage r (s.atTime r.time))) ∧
  (∀ r s, Taken opConfigCommit uSafety r s (checksConfigCommit r) → Runs [.time, .hub, .diag, .ledger, .fabric, .safety,
    .safetyRecord] (.configCommit r) s (doneConfigCommit r (s.atTime r.time))) ∧
  (∀ r s, Taken opValidate uSafety r s (checksSafetyValidate r) → Runs [.time, .hub, .diag, .ledger, .fabric, .safetyRecord]
    (.safetyValidate r) s (doneSafetyValidate r (s.atTime r.time))) ∧
  (∀ r s, Taken opPasswordSet uSafety r s (checksPasswordSet r) → Runs [.time, .hub, .diag, .ledger, .fabric, .safetyRecord]
    (.passwordSet r) s (donePasswordSet r (s.atTime r.time))) ∧
  (∀ r s, Taken opLogRead uSafety r s (checksLogRead r) → Runs [.time, .hub, .diag, .ledger, .fabric] (.logRead r) s
    (doneLogRead r (s.atTime r.time))) ∧
  (∀ r s, Taken opOffRequest uSafety r s (checksOffRequest r) → Runs [.time, .hub, .diag, .ledger, .fabric, .safety]
    (.offRequest r) s (doneOffRequest r (s.atTime r.time))) ∧
  (∀ (t : Nat) s, whenRstStuckClear t (s.atTime t) = true → Runs [.time, .hub, .diag, .safety] (.rstStuckClear t) s
    (doneRstStuckClear t (s.atTime t)))

/-- For each of the 17 commands of the update and security family: a request that is taken (its channel exists, its gate passes
  it, its OP has no refusal for it) and an event whose condition holds answer the next state that the effect gives, and every
  part of the state outside the list named with the command is as before. -/
def Obligations.UpdateCommandsRun : Prop :=
  (∀ r s, Taken opImageInstall uSecurity r s (checksImageInstall r) → (s.atTime r.time).answeredReady islSup = false → Runs
    [.time, .hub, .diag, .ledger, .fabric, .update, .deferred] (.imageInstall r) s (doneImageInstall r (s.atTime r.time))) ∧
  (∀ (t : Nat) (container : List Byte) s, whenInstallDataComplete t container (s.atTime t) = true → Runs [.time, .hub, .power,
    .rung, .mode, .change, .fences, .islands, .auth, .diag, .jack, .ledger, .control, .stage, .functions, .fieldIo, .place,
    .fabric, .nav, .vision, .infer, .buses, .eth, .fleet, .display, .safety, .update, .sections, .freeCount, .deferred]
    (.installDataComplete t container) s (doneInstallDataComplete t container (s.atTime t))) ∧
  (∀ (t : Nat) s, whenInstallTimeout t (s.atTime t) = true → Runs [.time, .hub, .diag, .update, .freeCount] (.installTimeout t)
    s (doneInstallTimeout t (s.atTime t))) ∧
  (∀ r s, Taken opImageConfirm uSecurity r s (checksImageConfirm r) → Runs [.time, .hub, .diag, .ledger, .fabric, .update]
    (.imageConfirm r) s (doneImageConfirm r (s.atTime r.time))) ∧
  (∀ r s, Taken opImageStatus uSecurity r s (checksImageStatus r) → Runs [.time, .hub, .diag, .ledger, .fabric] (.imageStatus
    r) s (doneImageStatus r (s.atTime r.time))) ∧
  (∀ r s, Taken opPolicySet uSecurity r s (checksPolicySet r) → Runs [.time, .hub, .diag, .ledger, .fabric, .update]
    (.policySet r) s (donePolicySet r (s.atTime r.time))) ∧
  (∀ r s, Taken opRecoveryEnter uSecurity r s (checksRecoveryEnter r) → (s.atTime r.time).answeredReady islSup = false → Runs
    [.time, .hub, .power, .rung, .mode, .change, .fences, .islands, .auth, .diag, .jack, .ledger, .control, .stage, .functions,
    .fieldIo, .place, .fabric, .nav, .vision, .infer, .buses, .eth, .fleet, .display, .safety, .update, .sections, .freeCount,
    .deferred] (.recoveryEnter r) s (doneRecoveryEnter r (s.atTime r.time))) ∧
  (∀ r s, Taken opRecoveryLoad uSecurity r s (checksRecoveryLoad r) → Runs [.time, .hub, .diag, .ledger, .fabric, .update]
    (.recoveryLoad r) s (doneRecoveryLoad r (s.atTime r.time))) ∧
  (∀ (t : Nat) (port : RomPort) s, whenRecoverySession t port (s.atTime t) = true → Runs [.time, .hub, .diag, .ledger, .update]
    (.recoverySession t port) s (doneRecoverySession t port (s.atTime t))) ∧
  (∀ r s, Taken opInstallAbort uSecurity r s (checksInstallAbort r) → Runs [.time, .hub, .diag, .ledger, .fabric, .update,
    .freeCount] (.installAbort r) s (doneInstallAbort r (s.atTime r.time))) ∧
  (∀ (t : Nat) (cls : Nat) s, (isClass cls) → whenLoaderCopyDone t cls (s.atTime t) = true → Runs [.time, .hub, .islands,
    .diag, .jack, .ledger, .fieldIo, .nav, .buses, .eth, .display, .safety, .update] (.loaderCopyDone t cls) s
    (doneLoaderCopyDone t cls (s.atTime t))) ∧
  (∀ r s, Taken opIdentitySet uSecurity r s (checksIdentitySet r) → Runs [.time, .hub, .auth, .diag, .ledger, .fabric, .update,
    .freeCount] (.identitySet r) s (doneIdentitySet r (s.atTime r.time))) ∧
  (∀ r s, Taken opKeyPublic uSecurity r s (checksKeyPublic r) → Runs [.time, .hub, .diag, .ledger, .fabric] (.keyPublic r) s
    (doneKeyPublic r (s.atTime r.time))) ∧
  (∀ r s, Taken opKeySet uSecurity r s (checksKeySet r) → Runs [.time, .hub, .auth, .diag, .ledger, .fabric, .fleet, .update]
    (.keySet r) s (doneKeySet r (s.atTime r.time))) ∧
  (∀ r s, Taken opKeyClear uSecurity r s (checksKeyClear r) → Runs [.time, .hub, .diag, .ledger, .fabric, .fleet, .update]
    (.keyClear r) s (doneKeyClear r (s.atTime r.time))) ∧
  (∀ r s, Taken opKeyStatus uSecurity r s (fun _ => []) → Runs [.time, .hub, .diag, .ledger, .fabric] (.keyStatus r) s
    (doneKeyStatus r (s.atTime r.time))) ∧
  (∀ (t : Nat) s, whenRecoverySessionClose t (s.atTime t) = true → Runs [.time, .hub, .update] (.recoverySessionClose t) s
    (doneRecoverySessionClose t (s.atTime t)))

/-- For every command c, queue q and state s, step of s with c at the front of q is exec of c on s with the queue q, and step
  of s with an empty queue answers that same state (idling is the model's choice, log entry 6). -/
def Obligations.StepRunsFront : Prop :=
  ∀ (c : Instr) (q : List Instr) (s : State),
    step { s with pending := c :: q } = exec c { s with pending := q } ∧
    step { s with pending := [] } = .next { s with pending := [] }

/-- For every command i and state s: if the operands of i name only channels, ports and other objects that the module has
  (Instr.wf), exec answers a next state whose queue is that of s; otherwise exec refuses i with noSuchObject. No command
  faults. That a command for an object that does not exist is refused is the model's choice (log entry 1). -/
def Obligations.CommandsComplete : Prop :=
  ∀ (i : Instr) (s : State),
    (i.wf = true → ∃ t, exec i s = .next t ∧ t.pending = s.pending) ∧
    (i.wf = false → exec i s = .refused .noSuchObject)

/-- For every request but MODE_REQUEST, on an existing channel: if the gate of its OP (length, epoch, mode set, channel rule,
  fence) refuses it with status st, exec answers the refusal st, and nothing changes but the module time, the hub, the
  Diagnostics counters, the ledger and the fabric, over which the reply of a cascade channel travels (R818; R148, R195, R305).
  -/
def Obligations.GateRefusalHasNoEffect : Prop :=
  ∀ (i : Instr) (s : State) (o : OpSpec) (u : Nat) (r : Request) (st : Status), i.asked s = some (o, u, r) → r.ch < 64 →
    gate o u r (s.atTime r.time) = some st →
    ∃ body v, Only [.time, .diag] s v ∧ exec i s = .next (refuseWith o u r st body v) ∧
      Only [.time, .hub, .diag, .ledger, .fabric] s (refuseWith o u r st body v)

/-- For every mode-sensitive request but MODE_REQUEST whose length its OP defines, on an existing channel: if its EPOCH field
  is 0, or is not the current epoch, or no mode has been committed since the start, the unit refuses it with STALE_EPOCH and
  nothing is executed (the unit's comparison of R137, and R127). -/
def Obligations.StaleEpochRefused : Prop :=
  ∀ (i : Instr) (s : State) (o : OpSpec) (u : Nat) (r : Request), i.asked s = some (o, u, r) → r.ch < 64 →
    o.lenOk r.len = true → o.epoch = true → (r.u 0 4 = 0 ∨ r.u 0 4 ≠ s.mode.epoch.toNat ∨ s.mode.booted = false) →
    ∃ body v, Only [.time, .diag] s v ∧ exec i s = .next (refuseWith o u r .staleEpoch body v) ∧
      Only [.time, .hub, .diag, .ledger, .fabric] s (refuseWith o u r .staleEpoch body v)

/-- For every request but MODE_REQUEST whose length its OP defines, on an existing channel, that is not refused over its epoch:
  if the unit that executes it is fenced, it is refused with WRONG_MODE and nothing is executed (R148). -/
def Obligations.FencedUnitRefuses : Prop :=
  ∀ (i : Instr) (s : State) (o : OpSpec) (u : Nat) (r : Request), i.asked s = some (o, u, r) → r.ch < 64 →
    o.lenOk r.len = true → (o.epoch = false ∨ (r.u 0 4 ≠ 0 ∧ r.u 0 4 = s.mode.epoch.toNat ∧ s.mode.booted = true)) →
    s.fenced u = true →
    ∃ body v, Only [.time, .diag] s v ∧ exec i s = .next (refuseWith o u r .wrongMode body v) ∧
      Only [.time, .hub, .diag, .ledger, .fabric] s (refuseWith o u r .wrongMode body v)

/-- CHANNEL_BIND, SUBSCRIBE and COMPAT_VIEW of the length their OP defines, sent on a channel other than 0, are refused with
  WRONG_MODE in every state. -/
def Obligations.ChannelZeroRequests : Prop :=
  ∀ (r : Request) (s : State), r.ch < 64 → r.ch ≠ 0 →
    (opChannelBind.lenOk r.len = true →
      exec (.channelBind r) s = .next (refuse opChannelBind uMaluf r .wrongMode (s.atTime r.time))) ∧
    (opSubscribe.lenOk r.len = true →
      exec (.subscribe r) s = .next (refuse opSubscribe uMaluf r .wrongMode (s.atTime r.time))) ∧
    (opCompatView.lenOk r.len = true →
      exec (.compatView r) s = .next (refuse opCompatView uMaluf r .wrongMode (s.atTime r.time)))

/-- On an enabled channel of a path other than COMPAT, whose request was not fetched before a RESET_CH: where REPLY_WANTED is 1
  or the status is neither OK nor ACCEPTED, writing the reply appends one message with the request's FAMILY, OP and TAG, FLAGS
  with only REPLY_WANTED and URGENT, the status and the payload, to the reply ring or the connection; where it is 0 and the
  status is OK or ACCEPTED, nothing is written (R176). -/
def Obligations.ReplyWritten : Prop :=
  ∀ (o : OpSpec) (r : Request) (st : Status) (payload : List Byte) (s : State),
    (s.chan r.ch).enable = true → (s.chan r.ch).path ≠ .compat → (s.chan r.ch).isOrphan o r.tag = false →
    let c := s.chan r.ch
    let d := (s.writeReply o r st payload).chan r.ch
    let m : Message := { family := o.family, op := o.op, flags := flag r.wanted + 4 * flag r.urgent, status := st.code,
                         tag := r.tag, payload := payload }
    if r.wanted = true ∨ (st ≠ .ok ∧ st ≠ .accepted) then
      d.ring = (if c.ringed then c.ring ++ [m] else c.ring) ∧ d.sent = (if c.ringed then c.sent else c.sent ++ [m])
    else d.ring = c.ring ∧ d.sent = c.sent

/-- A write of w to CH_STATUS with hardware sets in the same cycle, in rung 0 with no rung being entered, by the path of the
  channel: each of the seven flags reads 1 where it was set by hardware, or where it was 1 and w does not clear it; and its
  counter grows by 1 exactly where hardware set it (R181, R182 within one island). -/
def Obligations.SetWinsOverClear : Prop :=
  ∀ (t : Nat) (src : Path) (ch : Nat) (w set : U32) (s : State), ch < 64 → s.ownPath src ch = true →
    s.power.rung = 0 → s.power.entering = none →
    ∃ u, exec (.w1cClear t src (256 * ch + 4) w set) s = .next u ∧ ∀ b < 7,
      (u.chan ch).status.getLsbD b = (set.getLsbD b || ((s.chan ch).status.getLsbD b && !w.getLsbD b)) ∧
      (u.chan ch).cnt[b]? = (s.chan ch).cnt[b]?.map fun n => n + if set.getLsbD b then 1 else 0

/-- A DOORBELL write by the path of the channel, in rung 0 with no rung being entered, and on PCIE with the bus master enabled:
  on an enabled channel, where (tail - REQ_HEAD) modulo 65,536 does not exceed the ring size, REQ_TAIL becomes bits 15:0 of the
  word and nothing else in the channel changes; in every other case REQ_TAIL and ENABLE keep their values, nothing is fetched,
  RING_ERROR is set and its counter grows by 1. A write that repeats REQ_TAIL of an accepted tail changes nothing in the
  channel. Other channels stay as they are. -/
def Obligations.DoorbellAccepted : Prop :=
  ∀ (t : Nat) (src : Path) (ch : Nat) (w : U32) (s : State), ch < 64 → s.ownPath src ch = true →
    s.power.rung = 0 → s.power.entering = none → ((s.chan ch).path = .pcie → s.hub.busMaster = true) →
    let c := s.chan ch
    let tail : U16 := w.setWidth 16
    ∃ u, exec (.doorbell t src ch w) s = .next u ∧ (∀ k, k ≠ ch → u.chan k = s.chan k) ∧
      (if c.enable = true ∧ (tail - c.reqHead).toNat ≤ 2 ^ c.reqLog2 then u.chan ch = { c with reqTail := tail }
       else (u.chan ch).reqTail = c.reqTail ∧ (u.chan ch).reqHead = c.reqHead ∧ (u.chan ch).enable = c.enable ∧
        (u.chan ch).ring = c.ring ∧ (u.chan ch).outstanding = c.outstanding ∧
        (u.chan ch).status = c.status ||| (BitVec.ofNat 7 (2 ^ 4)) ∧ (u.chan ch).cnt = c.cnt.modify 4 (· + 1)) ∧
      (c.enable = true → tail = c.reqTail → (tail - c.reqHead).toNat ≤ 2 ^ c.reqLog2 → u.chan ch = c)

/-- A write of CH_CTRL with RESET_CH set, by the path of the channel, in rung 0 with no rung being entered: ENABLE is 0, all
  four pointers are 0, the reply ring and the list of unanswered requests are empty, CNT_DISCARD has grown by the number of
  requests not yet fetched, CH_RESTARTED is set and its counter has grown by 1, the ring sizes, bases, PATH, interrupt enables
  and subscription keep their values, and other channels stay as they are (R170). -/
def Obligations.ResetChannelEmpties : Prop :=
  ∀ (t : Nat) (src : Path) (ch : Nat) (w : U32) (s : State), ch < 64 → s.ownPath src ch = true →
    s.power.rung = 0 → s.power.entering = none → w.getLsbD 1 = true →
    let c := s.chan ch
    ∃ u, exec (.resetCh t src ch w) s = .next u ∧ (∀ k, k ≠ ch → u.chan k = s.chan k) ∧
      let d := u.chan ch
      d.enable = false ∧ d.reqTail = 0 ∧ d.reqHead = 0 ∧ d.rplTail = 0 ∧ d.rplHead = 0 ∧ d.ring = [] ∧ d.outstanding = [] ∧
      d.cntDiscard = c.cntDiscard + (c.reqTail - c.reqHead).setWidth 32 ∧
      d.status = c.status ||| (BitVec.ofNat 7 (2 ^ 5)) ∧ d.cnt = c.cnt.modify 5 (· + 1) ∧
      d.reqLog2 = c.reqLog2 ∧ d.rplLog2 = c.rplLog2 ∧ d.reqBase = c.reqBase ∧ d.rplBase = c.rplBase ∧ d.path = c.path ∧
      d.irqEn = c.irqEn ∧ d.families = c.families

/-- A WAKE_CONFIG past its gate is refused with BAD_PARAM when it enables CAN selective wake on more than four controllers,
  when WAKE_IN_EDGE is 0 while bit 1 of its sources is set, when CAN_SELECTIVE names a controller with no enabled wake filter,
  or when RTC_ALARM is nonzero and less than 2 s after the module time. A CAN_WAKE_FILTER past its gate that disables the
  filter of a controller named in CAN_SELECTIVE is refused with BAD_PARAM. -/
def Obligations.WakeConfigRefused : Prop :=
  ∀ (r : Request) (s : State), r.ch < 64 →
    (gate opWakeConfig uPower r (s.atTime r.time) = none →
      (4 < bitCount 12 (r.u 6 2) ∨ (r.u 2 1 = 0 ∧ bit (r.u 0 2) 1 = true) ∨
        (∃ m < 12, bit (r.u 6 2) m = true ∧ s.power.filters.find m = none) ∨
        (r.u 8 8 ≠ 0 ∧ r.u 8 8 < (s.atTime r.time).time + 2000000000)) →
      exec (.wakeConfig r) s = .next (refuse opWakeConfig uPower r .badParam (s.atTime r.time))) ∧
    (gate opCanWakeFilter uPower r (s.atTime r.time) = none → r.u 1 1 = 0xFF →
      bit s.power.wake.canSelective (r.u 0 1) = true →
      exec (.canWakeFilter r) s = .next (refuse opCanWakeFilter uPower r .badParam (s.atTime r.time)))

/-- MODE_COMMIT and FORCED_SAFE_HOLD at the tick at which the prepared change commits reach a state in the target mode of the
  change, with the epoch one higher and no change in progress, from which the requests deferred until then go on; BOOT_COMMIT,
  where the module may commit, answers a state in the boot mode, committed, with the epoch one higher (R136, R142, R145). -/
def Obligations.CommitsTakeTheMode : Prop :=
  ∀ (t : Nat) (missed : List Nat) (s : State), missed.all isUnit = true →
    (∀ c, s.mode.change = some c → whenModeCommit t missed (s.atTime t) = true →
      ∃ u : State, exec (.modeCommit t missed) s = .next u.settleDeferred ∧ u.deferred = s.deferred ∧ u.mode.change = none ∧
        u.mode.mode = c.target ∧ u.mode.epoch = s.mode.epoch + 1 ∧ u.mode.commitTick = (s.atTime t).time) ∧
    (∀ c, s.mode.change = some c → whenForcedSafeHold t missed (s.atTime t) = true →
      ∃ u : State, exec (.forcedSafeHold t missed) s = .next u.settleDeferred ∧ u.deferred = s.deferred ∧ u.mode.change = none ∧
        u.mode.mode = c.target ∧ u.mode.epoch = s.mode.epoch + 1 ∧ u.mode.commitTick = (s.atTime t).time) ∧
    (whenBootCommit t (s.atTime t) = true →
      ∃ u, exec (.bootCommit t) s = .next u ∧ u.mode.mode = (s.atTime t).bootMode.1 ∧ u.mode.booted = true ∧
        u.mode.epoch = s.mode.epoch + 1)

/-- While a mode change is in progress, a RUNG_REQUEST that is taken is held after the requests already held; while one that is
  not forced is in progress, so is a MODE_REQUEST for a mode other than SAFE_HOLD, of a length its OP defines; where the island
  of a unit has answered ready to the change, so are TUNE, SELFTEST, IMAGE_INSTALL, IMAGE_REVERT and RECOVERY_ENTER, and a
  FUNCTION_START that would put a working function in DEMAND under a change into ROAD. Nothing else changes but the module time
  (R121, R138, R143). -/
def Obligations.DeferredRequestsWait : Prop :=
  ∀ (r : Request) (s : State), let v := s.atTime r.time
    let held := fun (o : DeferredOp) => ({ v with deferred := s.deferred ++ [(o, r)] } : State)
    (Taken opRungRequest uPower r s (checksRungRequest r) → s.mode.change.isSome = true →
      exec (.rungRequest r) s = .next (held .rungRequest)) ∧
    (r.ch < 64 → opModeRequest.lenOk r.len = true → s.mode.booted = true → s.mode.change.any (fun c => !c.forced) = true →
      r.u 4 1 ≠ Mode.safeHold.code → exec (.modeRequest r) s = .next (held .modeRequest)) ∧
    (Taken opTune ((s.loop (r.u 4 1)).unit) r s (checksLoopTune r) → s.answeredReady islCtl = true →
      exec (.loopTune r) s = .next (held .tune)) ∧
    (Taken opSelftest (if isUnit (r.u 4 2) = true then r.u 4 2 else uMaluf) r s (checksSelftest r) →
      s.answeredReady (islandOf (r.u 4 2)) = true → exec (.selftest r) s = .next (held .selftest)) ∧
    (Taken opImageInstall uSecurity r s (checksImageInstall r) → s.answeredReady islSup = true →
      exec (.imageInstall r) s = .next (held .imageInstall)) ∧
    (Taken opImageRevert uSecurity r s (checksImageRevert r) → s.answeredReady (classIsland (r.u 4 1)) = true →
      exec (.imageRevert r) s = .next (held .imageRevert)) ∧
    (Taken opRecoveryEnter uSecurity r s (checksRecoveryEnter r) → s.answeredReady islSup = true →
      exec (.recoveryEnter r) s = .next (held .recoveryEnter)) ∧
    (Taken opFunctionStart ((s.inst (r.u 4 1)).unit) r s (checksFunctionStart r) → (s.inst (r.u 4 1)).running = false →
      s.startDeferred (r.u 4 1) = true → exec (.functionStart r) s = .next (held .functionStart))

/-- For every command i and state s: if exec answers next t, the epoch of t is that of s, or i is BOOT_COMMIT, MODE_COMMIT or
  FORCED_SAFE_HOLD and the epoch of t is one higher (R136). -/
def Obligations.EpochRisesOnlyAtCommits : Prop :=
  ∀ (i : Instr) (s t : State), exec i s = .next t →
    t.mode.epoch = s.mode.epoch ∨
    (t.mode.epoch = s.mode.epoch + 1 ∧
      ((∃ k, i = .bootCommit k) ∨ (∃ k m, i = .modeCommit k m) ∨ ∃ k m, i = .forcedSafeHold k m))

/-- For every request (a MODE_REQUEST where no request waits for the end of a mode change) that is not CONFIG_COMMIT, SELFTEST,
  IMAGE_ACTIVATE, IMAGE_REVERT, RECOVERY_ENTER or OFF_REQUEST: if exec answers next t, the safety island's inputs, outputs,
  functions, state and faults are those of s; only its kept record (active and staged configuration, password, change log) may
  differ (R737). -/
def Obligations.SafetyLeftAlone : Prop :=
  ∀ (i : Instr) (s t : State), ((i.asked s).isSome = true ∨ (s.deferred = [] ∧ ∃ r, i = .modeRequest r)) → exec i s = .next t →
    (∀ r, i ≠ .configCommit r ∧ i ≠ .selftest r ∧ i ≠ .imageActivate r ∧ i ≠ .imageRevert r ∧ i ≠ .recoveryEnter r ∧
      i ≠ .offRequest r) →
    Part.same s t .safety

/-- A PLACE that is taken and finds a home tier answers a state in which the next handle names a placement of the requesting
  channel, of the size asked for rounded up to the granule of its home tier, whose every byte reads 0; the handle is used up. A
  PLACE past its gate with SIZE 0 is refused with BAD_PARAM. -/
def Obligations.PlacementGranted : Prop :=
  ∀ (r : Request) (s : State),
    (Taken opPlace uPlacement r s (checksPlace r) → ∀ t, (placeReq r).home (s.atTime r.time) = some t →
      ∃ u p, exec (.place r) s = .next u ∧ u.placement s.place.nextHandle = some p ∧
        u.place.nextHandle = s.place.nextHandle + 1 ∧ p.owner = r.ch ∧ p.home = t ∧
        p.size = (r.u 4 8 + tierGranule t - 1) / tierGranule t * tierGranule t ∧
        ∀ off n, u.readPlace s.place.nextHandle off n = List.replicate n 0) ∧
    (r.ch < 64 → gate opPlace uPlacement r (s.atTime r.time) = none → r.u 4 8 = 0 →
      exec (.place r) s = .next (refuse opPlace uPlacement r .badParam (s.atTime r.time)))

/-- PROMOTION_WINDOW with one access within an existing placement, where the content of placements is canonical: the bytes
  stored read back, and every byte of that placement outside them, and every byte of every other placement, reads as before. -/
def Obligations.AccessStoresItsBytes : Prop :=
  ∀ (t : Nat) (a : Access) (p : Placement) (s : State), PlacesSound s.place → s.placement a.handle = some p →
    a.offset + max 1 a.data.length ≤ p.size →
    ∃ u, exec (.promotionWindow t [a]) s = .next u ∧
      u.readPlace a.handle a.offset a.data.length = a.data ∧
      ∀ h off, (h ≠ a.handle ∨ off < a.offset ∨ a.offset + a.data.length ≤ off) →
        u.readPlace h off 1 = s.readPlace h off 1

/-- CREDIT_RETURN, where a consumer that is present has freed slots: the counter of the consumer becomes the sum, clamped to
  CREDITS, with nothing left to return; every other consumer is as before, and CREDIT_OVF has grown by 1 exactly where the sum
  lies above CREDITS; then the stream sends what the credits allow (R285 within one module). -/
def Obligations.CreditsClamped : Prop :=
  ∀ (t no idx : Nat) (x : Stream) (c : Consumer) (s : State), s.stream no = some x →
    x.consumers.find idx = some c → c.freed ≠ 0 → c.absent = none →
    ∃ (v : State) (y : Stream), exec (.creditReturn t no idx) s = .next (v.pump no) ∧ v.stream no = some y ∧
      y.consumers.find idx = some { c with credits := min x.credits (c.credits + c.freed), freed := 0 } ∧
      (∀ k, k ≠ idx → y.consumers.find k = x.consumers.find k) ∧
      v.fabric.link.creditOvf = s.fabric.link.creditOvf + (if x.credits < c.credits + c.freed then 1 else 0)

/-- A CALIBRATE that is taken: ACTION begin leaves the instance with an integral of 0; ACTION cancel leaves it with no run;
  ACTION end leaves it with no run, and with CAL_Q16 the rounded product CAL_Q16 x WEIGHED_G / measured where the measured mass
  is at least 500,000 g and the new factor lies in 32,768-131,072, and is refused with BAD_PARAM with the parameters unchanged
  where it does not (R398). -/
def Obligations.CalibrationRuns : Prop :=
  ∀ (r : Request) (s : State), Taken opCalibrate ((s.inst (r.u 4 1)).unit) r s (checksCalibrate r) →
    let n := r.u 4 1
    let x := s.inst n
    let g := x.calSum.getD 0 / 1000
    let new := divNear (x.pu 12 4 * r.u 8 8) g
    ∃ u, exec (.calibrate r) s = .next u ∧ (∀ k, k ≠ n → u.inst k = s.inst k) ∧
      (r.u 5 1 = 1 → u.inst n = { x with calSum := some 0 }) ∧
      (r.u 5 1 = 3 → u.inst n = { x with calSum := none }) ∧
      (r.u 5 1 = 2 → 500000 ≤ g → 32768 ≤ new → new ≤ 131072 →
        (u.inst n).calSum = none ∧ (u.inst n).params = patch x.params 12 (le 4 new)) ∧
      (r.u 5 1 = 2 → (g < 500000 ∨ new < 32768 ∨ 131072 < new) →
        u = refuse opCalibrate ((s.inst n).unit) r .badParam ((s.atTime r.time).modInst n fun x => { x with calSum := none }) ∧
        u.inst n = { x with calSum := none })

/-- A LOOP_CLEAR that is taken answers a state in which the loop it names is not defined and every other loop is as before. -/
def Obligations.LoopsCleared : Prop :=
  ∀ (r : Request) (s : State), Taken opLoopClear ((s.loop (r.u 4 1)).unit) r s (checksLoopClear r) →
    ∃ u, exec (.loopClear r) s = .next u ∧ u.control.loops.find (r.u 4 1) = none ∧
      ∀ k, k ≠ r.u 4 1 → u.control.loops.find k = s.control.loops.find k

/-- JUNCTION_OVERTEMP of a load-switch channel with no fault, while CTL runs, answers a state in which the channel is off with
  OVERTEMP latched; and a CLEAR_FAULT that is taken, of a channel that latches OVERTEMP and is not yet at or below 150 degrees,
  is refused with HW_FAULT and leaves every channel as it is (R438). -/
def Obligations.OvertempLatches : Prop :=
  (∀ (t ch : Nat) (s : State), ch < 48 → s.ctlRuns = true → (s.sw ch).fault = 0 →
    ∃ u, exec (.junctionOvertemp t ch) s = .next u ∧ (u.sw ch).phase = .off ∧ (u.sw ch).fault = 4 ∧
      (u.sw ch).cmdOn = false) ∧
  ∀ (r : Request) (s : State), Taken opClearFault (swUnitOf (r.u 4 1)) r s (checksClearFault r) →
    (s.sw (r.u 4 1)).fault = 4 → (s.sw (r.u 4 1)).cool = false →
    ∃ body v, exec (.clearFault r) s = .next (refuseWith opClearFault (swUnitOf (r.u 4 1)) r .hwFault body v) ∧
      (refuseWith opClearFault (swUnitOf (r.u 4 1)) r .hwFault body v).stage = s.stage

/-- HARD_CURRENT_LIMIT of a conducting channel whose peak current reaches the hard limit of its class: with no retry left it is
  off with SHORT latched; with retries left it waits RETRY_MS with one retry fewer, not conducting (R425, R426). -/
def Obligations.HardLimitSwitchesOff : Prop :=
  ∀ (t ch peak : Nat) (s : State), ch < 48 → (s.sw ch).phase.conducting = true → hardLimit ch ≤ peak →
    ∃ u, exec (.hardCurrentLimit t ch peak) s = .next u ∧ (u.sw ch).phase.conducting = false ∧
      (s.swLeft ch = 0 → (u.sw ch).phase = .off ∧ (u.sw ch).fault = 1) ∧
      (s.swLeft ch ≠ 0 → (u.sw ch).phase = .retryWait ((s.atTime t).time + s.swCfg ch 12 2 * ms) ∧
        (u.sw ch).retriesLeft = some (s.swLeft ch - 1))

/-- A SECTIONS command that is taken answers a state in which every section outside its range is as before, and every section
  of the range that its entry gives a width is defined; one that passes its gate while the section engine is not stopped, and
  has no other fault, is refused with BUSY_ID. -/
def Obligations.SectionsSetByEntry : Prop :=
  (∀ (r : Request) (s : State), Taken opSectionsSet uSection r s (checksSectionsSet r) →
    ∃ u, exec (.sectionsSet r) s = .next u ∧
      (∀ k, (k < r.u 4 1 ∨ r.u 4 1 + r.u 5 1 ≤ k) → u.sections.secs.find k = s.sections.secs.find k) ∧
      ∀ i < r.u 5 1, u.sections.secs.find (r.u 4 1 + i) =
        if r.u (20 + 20 * i) 2 = 0 then none else some (sectionEntry r i)) ∧
  ∀ (r : Request) (s : State), r.ch < 64 → gate opSectionsSet uSection r (s.atTime r.time) = none →
    s.sections.state ≠ .stopped → ((checksSectionsSet r (s.atTime r.time)).drop 1).all (fun c => !c.1) = true →
    exec (.sectionsSet r) s = .next (refuse opSectionsSet uSection r .busyId (s.atTime r.time))

/-- TRACK_LOSS of a channel in TRACK, while the baseband is in service, answers a state in which the channel is in ACQ with no
  lock time and no locks, searches, and keeps all else it holds, its last code phase and Doppler among it, and every other
  channel is as before (R485); for a channel in another state, or with the baseband out of service, only the module time
  changes. -/
def Obligations.TrackLossSearchesAgain : Prop :=
  ∀ (t ch : Nat) (s : State), ch < 320 →
    (s.unitUp uBaseband = true → (s.navChan ch).state = .track →
      ∃ u w, exec (.trackLoss t ch) s = .next u ∧
        u.navChan ch = { s.navChan ch with state := .acq, locks := 0, lockMs := 0, mpSince := none, lowSince := none,
                                           search := some w } ∧
        ∀ k, k ≠ ch → u.navChan k = s.navChan k) ∧
    (s.unitUp uBaseband = false ∨ (s.navChan ch).state ≠ .track → exec (.trackLoss t ch) s = .next (s.atTime t))

/-- HOLDOVER_START, where the time unit is in service, the source is GNSS or a peer and the last good time is at least 1 s old
  or there was none, answers a state in holdover since that time at that temperature; where the last time is newer, the source
  is another or the unit is out of service, only the module time changes. -/
def Obligations.HoldoverStarts : Prop :=
  ∀ (t : Nat) (temp : Int) (s : State),
    let live := s.unitUp uTime = true ∧ (s.nav.time.source = .gnss ∨ s.nav.time.source = .peer)
    let old := ∀ l, s.nav.time.lastTime = some l → l + 1000000000 ≤ t
    (live → old → ∃ u, exec (.holdoverStart t temp) s = .next u ∧ u.nav.time.source = .holdover ∧
      u.nav.time.holdSince = some t ∧ u.nav.time.holdTemp = temp) ∧
    (¬(live ∧ old) → exec (.holdoverStart t temp) s = .next (s.atTime t))

/-- A STAGE_SET that is taken answers a state in which the stage of the camera holds the parameters sent, PARAM_SEQ of the
  camera is one higher, the camera's other stages and everything else it holds are as before, and every other camera is as
  before (R571). -/
def Obligations.StageSetCounts : Prop :=
  ∀ (r : Request) (s : State), Taken opStageSet (s.pipeUnit r) r s (checksStageSet r) →
    let n := r.u 0 1
    ∃ u, exec (.stageSet r) s = .next u ∧ (u.cam n).paramSeq = (s.cam n).paramSeq + 1 ∧
      (u.cam n).stages.find (r.u 1 1) = some { bypass := bit (r.u 2 1) 0, block := r.payload.drop 4 } ∧
      (∀ k, k ≠ r.u 1 1 → (u.cam n).stages.find k = (s.cam n).stages.find k) ∧
      u.cam n = { s.cam n with stages := (u.cam n).stages, paramSeq := (u.cam n).paramSeq } ∧
      ∀ k, k ≠ n → u.cam k = s.cam k

/-- A CAMERA PORT_CONFIG past its gate, with no fault in its own layout, for a camera that has any output enabled is refused
  with BUSY_ID, and no camera changes. -/
def Obligations.PortConfigBusy : Prop :=
  ∀ (r : Request) (s : State), r.ch < 64 → gate opCameraPortConfig (camUnit r) r (s.atTime r.time) = none →
    camConfigBad r = false → (s.cam (r.u 0 1)).hasOutput = true →
    ∃ u, exec (.cameraPortConfig r) s = .next u ∧
      u = refuse opCameraPortConfig (camUnit r) r .busyId (s.atTime r.time) ∧ u.vision = s.vision

/-- A JOB_CLEAR that is taken answers a state in which its job is not defined and every other job is as before; one past its
  gate for a defined job that is running, with no other fault, is refused with BUSY_ID. -/
def Obligations.JobsCleared : Prop :=
  (∀ (r : Request) (s : State), Taken opJobClear (homeCluster (min 63 (r.u 0 1))) r s (checksJobClear r) →
    ∃ u, exec (.jobClear r) s = .next u ∧ u.infer.jobs.find (r.u 0 1) = none ∧
      ∀ k, k ≠ r.u 0 1 → u.infer.jobs.find k = s.infer.jobs.find k) ∧
  ∀ (r : Request) (s : State), r.ch < 64 → gate opJobClear (homeCluster (min 63 (r.u 0 1))) r (s.atTime r.time) = none →
    jobChecks r false (s.atTime r.time) = false → r.u 0 1 ≤ 63 → (s.job (r.u 0 1)).running = true →
    exec (.jobClear r) s = .next (refuse opJobClear (homeCluster (min 63 (r.u 0 1))) r .busyId (s.atTime r.time))

/-- A FILTER_SET that is taken answers a state in which the generation of each element written is one higher modulo 256, every
  other element is as before, the DEFAULT generation is one higher modulo 256 exactly where DEFAULT is written, and every other
  bus is as before (R625). -/
def Obligations.FilterGenerationsRise : Prop :=
  ∀ (r : Request) (s : State), Taken opFilterSet (busUnit r) r s (checksFilterSet r) →
    let n := r.u 0 1
    let gen := fun (v : State) k => ((v.bus n).filters.rd k FilterElement.reset).gen
    ∃ u, exec (.filterSet r) s = .next u ∧
      (∀ i < r.u 4 2, gen u (r.u 2 2 + i) = (gen s (r.u 2 2 + i) + 1) % 256) ∧
      (∀ k, (k < r.u 2 2 ∨ r.u 2 2 + r.u 4 2 ≤ k) → (u.bus n).filters.find k = (s.bus n).filters.find k) ∧
      (u.bus n).dfltGen = (if r.u 1 1 = 0xFF then (s.bus n).dfltGen else ((s.bus n).dfltGen + 1) % 256) ∧
      ∀ k, k ≠ n → u.bus k = s.bus k

/-- RECOVERY_COMPLETE of a controller in recovery answers a state in which it is ERROR_ACTIVE with TEC and REC 0; for a
  controller not in recovery only the module time changes. -/
def Obligations.RecoveryRestores : Prop :=
  ∀ (t mb : Nat) (s : State), mb < 12 →
    ((s.bus mb).state = .recovering → ∃ u, exec (.recoveryComplete t mb) s = .next u ∧ (u.bus mb).state = .errorActive ∧
      (u.bus mb).tec = 0 ∧ (u.bus mb).rec_ = 0) ∧
    ((s.bus mb).state ≠ .recovering → exec (.recoveryComplete t mb) s = .next (s.atTime t))

/-- ADDRESS_AGEING of an address answers a state in which an entry of the table is kept exactly where its address is another,
  or where it was last seen less than the ageing time ago; nothing else of the switch changes. -/
def Obligations.AddressesAge : Prop :=
  ∀ (t mac : Nat) (s : State),
    ∃ u, exec (.addressAgeing t mac) s = .next u ∧ Only [.time, .eth] s u ∧
      u.eth = { s.eth with learned := u.eth.learned } ∧
      ∀ x, x ∈ u.eth.learned ↔ x ∈ s.eth.learned ∧ (x.1 ≠ mac ∨ t < x.2.2 + 300000000000)

/-- An FO_CLEAR that is taken answers a state in which its output has no latched fault and is otherwise as before, as is every
  other output; one past its gate, of an output that is hot, with its reserved field 0, is refused with HW_FAULT and changes no
  output. -/
def Obligations.FieldFaultsClear : Prop :=
  (∀ (r : Request) (s : State), Taken opFoClear uFo r s (checksFoClear r) →
    ∃ u, exec (.foClear r) s = .next u ∧ u.fo (r.u 0 1) = { s.fo (r.u 0 1) with fault := 0 } ∧
      ∀ k, k ≠ r.u 0 1 → u.fo k = s.fo k) ∧
  ∀ (r : Request) (s : State), r.ch < 64 → gate opFoClear uFo r (s.atTime r.time) = none → r.u 0 1 ≤ 15 →
    r.zero 1 3 = true → (s.fo (r.u 0 1)).hot = true →
    ∃ u, exec (.foClear r) s = .next u ∧ u = refuse opFoClear uFo r .hwFault (s.atTime r.time) ∧ u.fieldIo = s.fieldIo

/-- A FRONT_LIGHT that is taken answers a state in which, where the panel holds known content, the light has the level asked
  for and is on exactly where the level is above 0; where it is not, the level asked for is held and the light stays as it is.
  One past its gate for a panel with no front light, with its fields in range, is refused with HW_FAULT. -/
def Obligations.FrontLightLevel : Prop :=
  (∀ (r : Request) (s : State), Taken opFrontLight uDisplayPower r s (checksFrontLight r) →
    ∃ u, exec (.frontLight r) s = .next u ∧
      (s.display.known = true → u.display = { s.display with flLevel := r.u 0 2, flOn := decide (0 < r.u 0 2), flHeld := none
        }) ∧
      (s.display.known = false → u.display = { s.display with flHeld := some (r.u 0 2) })) ∧
  ∀ (r : Request) (s : State), r.ch < 64 → gate opFrontLight uDisplayPower r (s.atTime r.time) = none → r.u 0 2 ≤ 1000 →
    r.zero 2 2 = true → (∀ p, s.display.panel = some p → p.hasLight = false) →
    exec (.frontLight r) s = .next (refuse opFrontLight uDisplayPower r .hwFault (s.atTime r.time))

/-- RAM_MARCH with a failing result, while the safety island runs, answers a state in SAFE_FAULT with fault code 2, the common
  cut-off open and all four safe outputs off; a passing one, or one while the island does not run, changes only the module
  time. -/
def Obligations.FailedMarchIsSafeFault : Prop :=
  ∀ (t : Nat) (s : State),
    ((s.atTime t).safRuns = true → ∃ u, exec (.ramMarch t false) s = .next u ∧ u.safety.state = .safeFault ∧
      u.safety.fault = 2 ∧ u.safety.cutOpen = true ∧ ∀ n < 4, (u.safety.out n).on = false) ∧
    ((s.atTime t).safRuns = false → exec (.ramMarch t false) s = .next (s.atTime t)) ∧
    exec (.ramMarch t true) s = .next (s.atTime t)

/-- An IMAGE_CONFIRM that is taken answers a state in which the current slot of its class is ACTIVE, its other slot is as
  before, its counter is the greater of its old value and the SVN of the slot, the vendor keys that the slot names are revoked
  beside those that were, and every other class is as before (R782, R785). -/
def Obligations.ConfirmRaisesCounter : Prop :=
  ∀ (r : Request) (s : State), Taken opImageConfirm uSecurity r s (checksImageConfirm r) →
    let c := r.u 0 1
    let x := s.cls c
    let y := x.slot x.current
    ∃ u, exec (.imageConfirm r) s = .next u ∧ ((u.cls c).slot x.current).state = .active ∧
      (u.cls c).slot (1 - x.current) = x.slot (1 - x.current) ∧ (u.cls c).counter = max x.counter y.svn ∧
      u.update.revoked = s.update.revoked ||| y.revoke ∧ ∀ k, k ≠ c → u.cls k = s.cls k

/-- In the reset state every channel block but for PATH and the subscription of channel 0 holds the values of its table:
  disabled, ring sizes 2^4, every flag, base, pointer, coalescing field and counter 0; the module is not committed, its epoch
  is 0, and the queue is empty (R156, R157; R127, R136 for a module in its first life, log entry 5). -/
def Obligations.ResetRegisters : Prop :=
  (∀ ch < 64, let c := State.reset.chan ch
    c.enable = false ∧ c.reqLog2 = 4 ∧ c.rplLog2 = 4 ∧ c.status = 0 ∧ c.irqEn = 0 ∧ c.reqBase = 0 ∧ c.rplBase = 0 ∧
    c.reqTail = 0 ∧ c.reqHead = 0 ∧ c.rplTail = 0 ∧ c.rplHead = 0 ∧ c.coalCount = 0 ∧ c.coalTime = 0 ∧
    c.cnt = List.replicate 7 0 ∧ c.cntDiscard = 0) ∧
  State.reset.mode.booted = false ∧ State.reset.mode.epoch = 0 ∧ State.reset.pending = []

/-- Sound holds of the reset state: record IDs start at 1, rise and lie below the next one, and the content of every placement
  has its canonical form (R317). -/
def Obligations.SoundAtReset : Prop :=
  Sound State.reset

/-- For every state s that is sound, if step answers next t, then t is sound: record IDs start at 1, rise, and lie below the
  next one, so none is given twice (R317); and the content of every placement, as readers see it and as it stands in its
  durable home, keeps its canonical form. -/
def Obligations.SoundKept : Prop :=
  ∀ s t : State, Sound s → step s = .next t → Sound t

/-- For every state s, if step answers next t: record IDs only rise, and each record of t is new, or was a record of s of the
  same kind and is in the same state or one that R318 lets it move to (R317, R318); no anti-rollback counter is lower and no
  revoked vendor key is back (R782); the next placement handle is no lower, so no handle is issued twice (R251). -/
def Obligations.StepMovesForward : Prop :=
  ∀ s t : State, step s = .next t →
    LedgerMoved s.ledger t.ledger ∧ FusesMoved s.update t.update ∧ s.place.nextHandle ≤ t.place.nextHandle
end

