-- ==== Sys2Proof/Laws/Bank.lean ====
section
/-! SUPPORT. Reading a bank after it has changed. -/

namespace Sys2Proof.Bank

variable {α : Type}

theorem findIn_putIn (k : Nat) (a : α) (l : List (Nat × α)) : findIn k (putIn k a l) = some a := by
  induction l with
  | nil => simp [putIn, findIn]
  | cons e l ih =>
    obtain ⟨i, x⟩ := e
    simp only [putIn]
    split
    · simp [findIn]
    · split
      · simp [findIn]
      · rename_i h
        simp [findIn, h, ih]

theorem findIn_putIn_other {j k : Nat} (h : j ≠ k) (a : α) (l : List (Nat × α)) :
    findIn j (putIn k a l) = findIn j l := by
  induction l with
  | nil => simp [putIn, findIn, Ne.symm h]
  | cons e l ih =>
    obtain ⟨i, x⟩ := e
    simp only [putIn]
    split
    · simp [findIn, Ne.symm h]
    · split
      · rename_i e; subst e
        simp [findIn, Ne.symm h]
      · simp [findIn, ih]

@[simp] theorem find_put (b : Bank α) (k : Nat) (a : α) : (b.put k a).find k = some a := findIn_putIn ..

theorem find_put_other (b : Bank α) {j k : Nat} (h : j ≠ k) (a : α) : (b.put k a).find j = b.find j := findIn_putIn_other h ..

@[simp] theorem rd_put (b : Bank α) (k : Nat) (a d : α) : (b.put k a).rd k d = a := by simp [rd]

theorem rd_put_other (b : Bank α) {j k : Nat} (h : j ≠ k) (a d : α) : (b.put k a).rd j d = b.rd j d := by
  simp [rd, find_put_other b h]

@[simp] theorem rd_upd (b : Bank α) (k : Nat) (d : α) (f : α → α) : (b.upd k d f).rd k d = f (b.rd k d) := by simp [upd]

theorem rd_upd_other (b : Bank α) {j k : Nat} (h : j ≠ k) (d : α) (f : α → α) : (b.upd k d f).rd j d = b.rd j d :=
  rd_put_other b h ..

@[simp] theorem rd_empty (k : Nat) (d : α) : (empty : Bank α).rd k d = d := rfl

end Sys2Proof.Bank
end

