-- ==== Sys2Proof/Laws/Memory.lean ====
section
/-! SUPPORT. The canonical form of a placement's bytes: every operation keeps it, and a write is read back. -/

namespace Sys2Proof.Machine

/-- The canonical form as a proposition. -/
theorem risingCells_iff (l : List Host.Cell) : risingCells l = true ↔ l.Pairwise fun x y => x.1 < y.1 := by
  induction l with
  | nil => simp [risingCells]
  | cons c l ih =>
    obtain ⟨i, b⟩ := c
    cases l with
    | nil => simp [risingCells]
    | cons d l =>
      obtain ⟨j, y⟩ := d
      simp only [risingCells, Bool.and_eq_true, decide_eq_true_eq, ih, List.pairwise_cons]
      constructor
      · rintro ⟨h, k, p⟩
        refine ⟨?_, k, p⟩
        intro z hz
        rcases List.mem_cons.mp hz with rfl | hz
        · exact h
        · exact lt_trans h (k z hz)
      · rintro ⟨h, k, p⟩
        exact ⟨h (j, y) (List.mem_cons_self ..), k, p⟩

theorem Memory.wf_iff (m : Memory) :
    m.wf = true ↔ (m.cells.Pairwise fun x y => x.1 < y.1) ∧ ∀ c ∈ m.cells, c.2 ≠ 0 := by
  simp [Memory.wf, risingCells_iff]

theorem Memory.empty_wf : Memory.empty.wf = true := rfl

/-- The entries of a written list: the old ones, and the new one where its byte is not 0. -/
theorem mem_writeCells {a : Nat} {v : Byte} {l : List Host.Cell} {c : Host.Cell} (h : c ∈ writeCells a v l) :
    c ∈ l ∨ (c = (a, v) ∧ v ≠ 0) := by
  induction l with
  | nil => by_cases hv : v = 0 <;> simp_all [writeCells]
  | cons d l ih =>
    obtain ⟨i, b⟩ := d
    simp only [writeCells] at h
    split at h
    · split at h
      · exact .inl h
      · rcases List.mem_cons.mp h with rfl | h
        · exact .inr ⟨rfl, ‹_›⟩
        · exact .inl h
    · split at h
      · split at h
        · exact .inl (List.mem_cons_of_mem _ h)
        · rcases List.mem_cons.mp h with rfl | h
          · exact .inr ⟨rfl, ‹_›⟩
          · exact .inl (List.mem_cons_of_mem _ h)
      · rcases List.mem_cons.mp h with rfl | h
        · exact .inl (by simp)
        · rcases ih h with h | h
          · exact .inl (List.mem_cons_of_mem _ h)
          · exact .inr h

theorem writeCells_rising {a : Nat} {v : Byte} {l : List Host.Cell} (h : l.Pairwise fun x y => x.1 < y.1) :
    (writeCells a v l).Pairwise fun x y => x.1 < y.1 := by
  induction l with
  | nil => simp only [writeCells]; split <;> simp
  | cons d l ih =>
    obtain ⟨i, b⟩ := d
    have h' := List.pairwise_cons.mp h
    simp only [writeCells]
    split
    · split
      · exact h
      · refine List.pairwise_cons.mpr ⟨?_, h⟩
        intro z hz
        rcases List.mem_cons.mp hz with rfl | hz
        · assumption
        · exact lt_trans ‹a < i› (h'.1 z hz)
    · split
      · rename_i e
        subst e
        split
        · exact h'.2
        · exact List.pairwise_cons.mpr ⟨h'.1, h'.2⟩
      · refine List.pairwise_cons.mpr ⟨?_, ih h'.2⟩
        intro z hz
        rcases mem_writeCells hz with hz | ⟨rfl, -⟩
        · exact h'.1 z hz
        · show i < a
          omega

/-- A write keeps the canonical form. -/
theorem Memory.write_wf {m : Memory} (h : m.wf = true) (a : Nat) (v : Byte) : (m.write a v).wf = true := by
  rw [Memory.wf_iff] at *
  refine ⟨writeCells_rising h.1, ?_⟩
  intro c hc
  rcases mem_writeCells hc with hc | ⟨rfl, hv⟩
  · exact h.2 c hc
  · exact hv

/-- A run of writes keeps the canonical form. -/
theorem Memory.writes_wf {m : Memory} (h : m.wf = true) (a : Nat) (l : List Byte) : (m.writes a l).wf = true := by
  induction l generalizing m a with
  | nil => exact h
  | cons v l ih => exact ih (Memory.write_wf h a v) (a + 1)

/-- A copy keeps the canonical form. -/
theorem Memory.copyFrom_wf {m : Memory} (h : m.wf = true) (src : Memory) (a n : Nat) : (m.copyFrom src a n).wf = true := by
  unfold Memory.copyFrom
  have start : Memory.wf ⟨m.cells.filter fun c => !(a ≤ c.1 && c.1 < a + n)⟩ = true := by
    rw [Memory.wf_iff] at *
    exact ⟨h.1.sublist List.filter_sublist, fun c hc => h.2 c (List.mem_of_mem_filter hc)⟩
  generalize (src.cells.filter fun c => a ≤ c.1 && c.1 < a + n) = l
  generalize (⟨m.cells.filter fun c => !(a ≤ c.1 && c.1 < a + n)⟩ : Memory) = k at start
  induction l generalizing k with
  | nil => exact start
  | cons c l ih => exact ih _ (Memory.write_wf start _ _)

/-- Nothing is read below the first entry. -/
theorem readCells_below {a : Nat} {l : List Host.Cell} (h : ∀ c ∈ l, a < c.1) : readCells a l = 0 := by
  induction l with
  | nil => rfl
  | cons d l ih =>
    have hd := h d (by simp)
    simp only [readCells]
    rw [if_neg (by omega)]
    exact ih fun c hc => h c (List.mem_cons_of_mem _ hc)

/-- A byte written is read back. -/
theorem Memory.read_write {m : Memory} (h : m.wf = true) (a : Nat) (v : Byte) : (m.write a v).read a = v := by
  rw [Memory.wf_iff] at h
  obtain ⟨h, -⟩ := h
  simp only [Memory.read, Memory.write]
  generalize m.cells = cells at h
  induction cells with
  | nil =>
    simp only [writeCells]
    split
    · rename_i e; subst e; rfl
    · simp [readCells]
  | cons d l ih =>
    obtain ⟨i, b⟩ := d
    have h' := List.pairwise_cons.mp h
    simp only [writeCells]
    split
    · split
      · rename_i e; subst e
        simp only [readCells]
        rw [if_neg (by omega)]
        exact readCells_below fun c hc => lt_trans ‹a < i› (h'.1 c hc)
      · simp [readCells]
    · split
      · rename_i e; subst e
        split
        · rename_i e; subst e
          exact readCells_below fun c hc => h'.1 c hc
        · simp [readCells]
      · simp only [readCells]
        rw [if_neg (by assumption)]
        exact ih h'.2

/-- Every other byte reads as before. -/
theorem Memory.read_write_other (m : Memory) {a c : Nat} (v : Byte) (h : c ≠ a) : (m.write a v).read c = m.read c := by
  simp only [Memory.read, Memory.write]
  induction m.cells with
  | nil => simp only [writeCells]; split <;> simp [readCells, Ne.symm h]
  | cons d l ih =>
    obtain ⟨i, b⟩ := d
    simp only [writeCells]
    split
    · split
      · rfl
      · simp [readCells, Ne.symm h]
    · split
      · rename_i e; subst e
        split <;> simp [readCells, Ne.symm h]
      · simp only [readCells]
        rw [ih]

/-- Bytes outside a run of writes read as before. -/
theorem Memory.read_writes_other (m : Memory) {a c : Nat} (l : List Byte) (h : c < a ∨ a + l.length ≤ c) :
    (m.writes a l).read c = m.read c := by
  induction l generalizing m a with
  | nil => rfl
  | cons v l ih =>
    simp only [List.length_cons] at h
    simp only [Memory.writes]
    rw [ih _ (by omega), Memory.read_write_other m v (by omega)]

/-- A run of bytes written is read back. -/
theorem Memory.reads_writes {m : Memory} (h : m.wf = true) (a : Nat) (l : List Byte) : (m.writes a l).reads a l.length = l := by
  induction l generalizing m a with
  | nil => rfl
  | cons v l ih =>
    have k := ih (Memory.write_wf h a v) (a + 1)
    simp only [Memory.reads, Memory.writes, List.length_cons, List.range_succ_eq_map, List.map_cons, List.map_map] at k ⊢
    rw [Memory.read_writes_other _ _ (by omega), Nat.add_zero, Memory.read_write h]
    congr 1
    convert k using 2
    funext i
    simp [Function.comp, Nat.add_assoc, Nat.add_comm 1]

end Sys2Proof.Machine
end

