-- ==== Sys2Proof/Laws/Moved.lean ====
section
/-! SUPPORT. What an operation may do to the state: leave parts of it alone, and move the ledger, the fuses and the placements only
forward. Composition, branches, folds, and the updates of one field. -/

namespace Sys2Proof

open Machine

/-- The ledger has moved, and is sound if it was. -/
structure LedgerStep (l m : Ledger) : Prop where
  moved : LedgerMoved l m
  sound : LedgerSound l → LedgerSound m

/-- No placement handle is issued again (R251), and the content of every placement is canonical if it was. -/
structure PlaceStep (q r : Puppeteer) : Prop where
  handles : q.nextHandle ≤ r.nextHandle
  sound : PlacesSound q → PlacesSound r

/-- The ledger, the fuses and the placements have moved forward. -/
structure Later (s t : State) : Prop where
  ledger : LedgerStep s.ledger t.ledger
  fuses : FusesMoved s.update t.update
  place : PlaceStep s.place t.place

/-- Nothing but the parts named has changed, and the state has moved forward. -/
structure Moved (ps : List Part) (s t : State) : Prop where
  only : Only ps s t
  later : Later s t

/-! ### Nothing changes -/

theorem LedgerStep.same {l m : Ledger} (hr : m.records = l.records) (hn : m.nextId = l.nextId) : LedgerStep l m where
  moved := ⟨Nat.le_of_eq hn.symm, fun y hy => .inr ⟨y, hr ▸ hy, rfl, rfl, .inl rfl⟩⟩
  sound h := ⟨hn ▸ h.first, fun x hx => hn ▸ h.bounds x (hr ▸ hx), hr ▸ h.rising⟩

theorem FusesMoved.refl (u : Update) : FusesMoved u u := ⟨fun _ => Nat.le_refl _, fun _ h => h⟩

theorem PlaceStep.same {q r : Puppeteer} (hp : r.places = q.places) (hh : r.nextHandle = q.nextHandle) : PlaceStep q r where
  handles := Nat.le_of_eq hh.symm
  sound h e he := h e (hp ▸ he)

theorem Later.refl (s : State) : Later s s := ⟨.same rfl rfl, .refl _, .same rfl rfl⟩

theorem Only.refl (ps : List Part) (s : State) : Only ps s s := by
  constructor; intro p _; cases p <;> rfl

theorem Moved.refl (ps : List Part) (s : State) : Moved ps s s := ⟨.refl .., .refl _⟩

/-! ### One change after another -/

theorem RecState.mayMove_trans {a b c : RecState} (h : a = b ∨ a.mayMove b = true) (k : b = c ∨ b.mayMove c = true) :
    a = c ∨ a.mayMove c = true := by
  revert h k; cases a <;> cases b <;> cases c <;> decide

theorem LedgerMoved.trans {l m n : Ledger} (h : LedgerMoved l m) (k : LedgerMoved m n) : LedgerMoved l n where
  ids := Nat.le_trans h.ids k.ids
  records z hz := by
    obtain hz | ⟨y, hy, e, f, g⟩ := k.records z hz
    · exact .inl (Nat.le_trans h.ids hz)
    · obtain hy | ⟨x, hx, e', f', g'⟩ := h.records y hy
      · exact .inl (e ▸ hy)
      · exact .inr ⟨x, hx, e'.trans e, f'.trans f, RecState.mayMove_trans g' g⟩

theorem LedgerStep.trans {l m n : Ledger} (h : LedgerStep l m) (k : LedgerStep m n) : LedgerStep l n :=
  ⟨h.moved.trans k.moved, fun x => k.sound (h.sound x)⟩

theorem FusesMoved.trans {u v w : Update} (h : FusesMoved u v) (k : FusesMoved v w) : FusesMoved u w :=
  ⟨fun c => Nat.le_trans (h.counters c) (k.counters c), fun i x => k.revoked i (h.revoked i x)⟩

theorem PlaceStep.trans {q r z : Puppeteer} (h : PlaceStep q r) (k : PlaceStep r z) : PlaceStep q z :=
  ⟨Nat.le_trans h.handles k.handles, fun x => k.sound (h.sound x)⟩

theorem Later.trans {s t u : State} (h : Later s t) (k : Later t u) : Later s u :=
  ⟨h.ledger.trans k.ledger, h.fuses.trans k.fuses, h.place.trans k.place⟩

theorem Part.samePower_trans {x y z : Power} (h : Part.samePower x y .power) (k : Part.samePower y z .power) :
    Part.samePower x z .power := by
  simp only [Part.samePower] at *; rw [← h, ← k]

theorem Part.sameSafety_trans {x y z : Safety} (h : Part.sameSafety x y .safety) (k : Part.sameSafety y z .safety) :
    Part.sameSafety x z .safety := by
  simp only [Part.sameSafety] at *; rw [← h, ← k]

theorem Part.same_trans {p : Part} {s t u : State} (h : p.same s t) (k : p.same t u) : p.same s u := by
  cases p
  case power => exact Part.samePower_trans h k
  case safety => exact Part.sameSafety_trans h k
  all_goals exact Eq.trans k h

theorem Only.via {ps qs : List Part} {s t u : State} (k : Only qs t u) (h : Only ps s t)
    (sub : qs.all ps.contains = true) : Only ps s u := by
  constructor; intro p hp
  refine Part.same_trans (h.same p hp) (k.same p ?_)
  cases e : qs.contains p
  · rfl
  · have := List.all_eq_true.mp sub p (by simpa using e)
    simp_all

theorem Moved.via {ps qs : List Part} {s t u : State} (k : Moved qs t u) (h : Moved ps s t)
    (sub : qs.all ps.contains = true) : Moved ps s u := ⟨k.only.via h.only sub, h.later.trans k.later⟩

theorem Moved.ite {ps : List Part} {s t u : State} {c : Prop} [Decidable c] (h : Moved ps s t) (k : Moved ps s u) :
    Moved ps s (if c then t else u) := by split <;> assumption

theorem Moved.fold {α : Type} {ps : List Part} {s t : State} {f : State → α → State} {l : List α} (h : Moved ps s t)
    (k : ∀ t a, Moved ps t (f t a)) : Moved ps s (l.foldl f t) := by
  induction l generalizing t with
  | nil => exact h
  | cons a l ih => exact ih (Moved.via (k t a) h (by simp))

theorem Moved.fold_fst {α β : Type} {ps : List Part} {s : State} {p : State × β} {f : State × β → α → State × β} {l : List α}
    (h : Moved ps s p.1) (k : ∀ q a, Moved ps q.1 (f q a).1) : Moved ps s (l.foldl f p).1 := by
  induction l generalizing p with
  | nil => exact h
  | cons a l ih => exact ih (Moved.via (k p a) h (by simp))

theorem Moved.snd {α : Type} {ps : List Part} {s t : State} {p : α × State} {a : α} (e : p = (a, t)) (h : Moved ps s p.2) :
    Moved ps s t := by rw [e] at h; exact h

theorem Moved.fst {α : Type} {ps : List Part} {s t : State} {p : State × α} {a : α} (e : p = (t, a)) (h : Moved ps s p.1) :
    Moved ps s t := by rw [e] at h; exact h

/-! ### The ledger -/

/-- Records of the ledger change in place: their IDs and kinds stay, and their states move as R318 allows. -/
theorem LedgerStep.mapIf {l m : Ledger} {p : Record → Bool} {f : Record → Record}
    (hf : ∀ x, p x = true → (f x).id = x.id ∧ (f x).kind = x.kind ∧ (x.state = (f x).state ∨ x.state.mayMove (f x).state = true))
    (hr : m.records = Sys2Proof.mapIf p f l.records) (hn : m.nextId = l.nextId) : LedgerStep l m := by
  have same : ∀ x, (if p x then f x else x).id = x.id := fun x => by
    split
    · exact (hf x ‹_›).1
    · rfl
  refine ⟨⟨Nat.le_of_eq hn.symm, fun y hy => ?_⟩, fun h => ⟨hn ▸ h.first, fun y hy => ?_, ?_⟩⟩
  · obtain ⟨x, hx, rfl⟩ := List.mem_map.mp (hr ▸ hy)
    refine .inr ⟨x, hx, (same x).symm, ?_, ?_⟩ <;> split
    · exact (hf x ‹_›).2.1.symm
    · rfl
    · exact (hf x ‹_›).2.2
    · exact .inl rfl
  · obtain ⟨x, hx, rfl⟩ := List.mem_map.mp (hr ▸ hy)
    rw [same, hn]; exact h.bounds x hx
  · rw [hr]
    refine List.pairwise_map.mpr (h.rising.imp fun {a b} hab => ?_)
    rw [same, same]; exact hab

/-- Some records are reclaimed, and a new one takes the next ID (R317, R318). -/
theorem LedgerStep.append {l m : Ledger} {r : List Record} {x : Record} (hr : m.records = r ++ [x]) (sub : r.Sublist l.records)
    (hx : x.id = l.nextId) (hn : m.nextId = l.nextId + 1) : LedgerStep l m := by
  refine ⟨⟨by omega, fun y hy => ?_⟩, fun h => ⟨by omega, fun y hy => ?_, ?_⟩⟩
  · rw [hr, List.mem_append, List.mem_singleton] at hy
    obtain hy | rfl := hy
    · exact .inr ⟨y, sub.subset hy, rfl, rfl, .inl rfl⟩
    · exact .inl (Nat.le_of_eq hx.symm)
  · rw [hr, List.mem_append, List.mem_singleton] at hy
    obtain hy | rfl := hy
    · have := h.bounds y (sub.subset hy); omega
    · have := h.first; omega
  · rw [hr, List.pairwise_append]
    refine ⟨h.rising.sublist sub, List.pairwise_singleton .., fun a ha b hb => ?_⟩
    rw [List.mem_singleton] at hb
    have := h.bounds a (sub.subset ha); rw [hb, hx]; exact this.2

theorem takeFirst_sublist {α : Type} {p : α → Bool} {l r : List α} {a : α} (h : takeFirst p l = some (a, r)) : r.Sublist l := by
  induction l generalizing a r with
  | nil => exact absurd h (by simp [takeFirst])
  | cons x l ih =>
    simp only [takeFirst] at h
    split at h
    · obtain ⟨rfl, rfl⟩ := Prod.mk.inj (Option.some.inj h); exact List.sublist_cons_self ..
    · split at h
      · rename_i e
        obtain ⟨rfl, rfl⟩ := Prod.mk.inj (Option.some.inj h); exact (ih e).cons_cons _
      · cases h

theorem reclaimOne_sublist (l : List Record) : (reclaimOne l).Sublist l := by
  unfold reclaimOne
  split
  · exact takeFirst_sublist ‹_›
  · exact List.Sublist.refl _

theorem reclaim_sublist (n need : Nat) (l : List Record) : (reclaim n need l).Sublist l := by
  induction n generalizing l with
  | zero => exact List.Sublist.refl _
  | succ n ih =>
    unfold reclaim
    split
    · exact List.Sublist.refl _
    · exact (ih _).trans (reclaimOne_sublist l)

theorem LedgerStep.unitsReset (l : Ledger) (i : Nat) : LedgerStep l (l.unitsReset i) := by
  unfold Ledger.unitsReset
  refine LedgerStep.mapIf ?_ rfl rfl
  exact fun _ _ => ⟨rfl, rfl, .inl rfl⟩

theorem Ledger.afterStop_step (l : Ledger) : LedgerStep l l.afterStop := by
  unfold Ledger.afterStop
  generalize (List.range 12).filter (· != islAon) = is
  have h : LedgerStep l { l with replaying := false, passed := false, redispatched := [], waiting := [] } := .same rfl rfl
  revert h
  generalize { l with replaying := false, passed := false, redispatched := [], waiting := [] } = m
  intro h
  induction is generalizing m with
  | nil => exact h
  | cons i is ih => exact ih _ (h.trans (LedgerStep.unitsReset m i))

/-! ### The placements -/

theorem Bank.mem_putIn {α : Type} {k : Nat} {a : α} {l : List (Nat × α)} {e : Nat × α} (h : e ∈ Bank.putIn k a l) :
    e = (k, a) ∨ e ∈ l := by
  induction l with
  | nil => exact .inl (List.mem_singleton.mp h)
  | cons x l ih =>
    simp only [Bank.putIn] at h
    split at h
    · obtain h | h := List.mem_cons.mp h
      · exact .inl h
      · exact .inr h
    · split at h
      · obtain h | h := List.mem_cons.mp h
        · exact .inl h
        · exact .inr (List.mem_cons_of_mem _ h)
      · obtain h | h := List.mem_cons.mp h
        · exact .inr (h ▸ List.mem_cons_self ..)
        · obtain h | h := ih h
          · exact .inl h
          · exact .inr (List.mem_cons_of_mem _ h)

theorem Bank.mem_of_find {α : Type} {b : Bank α} {k : Nat} {a : α} (h : b.find k = some a) : ∃ e ∈ b.entries, e.2 = a := by
  obtain ⟨l⟩ := b
  change Bank.findIn k l = some a at h
  induction l with
  | nil => exact absurd h (by simp [Bank.findIn])
  | cons x l ih =>
    obtain ⟨i, y⟩ := x
    simp only [Bank.findIn] at h
    split at h
    · exact ⟨_, List.mem_cons_self .., Option.some.inj h⟩
    · obtain ⟨e, he, x⟩ := ih h
      exact ⟨e, List.mem_cons_of_mem _ he, x⟩

/-- One placement is put in place, its content canonical. -/
theorem PlacesSound.put {q : Puppeteer} (h : PlacesSound q) {k : Nat} {p : Placement}
    (hp : p.mem.wf = true ∧ p.synced.wf = true) {r : Puppeteer} (hr : r.places = q.places.put k p) : PlacesSound r := by
  intro e he
  rw [hr] at he
  obtain rfl | he := Bank.mem_putIn he
  · exact hp
  · exact h e he

/-- Every placement changes, its content canonical if it was. -/
theorem PlacesSound.mapAll {q : Puppeteer} (h : PlacesSound q) {f : Nat → Placement → Placement}
    (hf : ∀ k p, (p.mem.wf = true ∧ p.synced.wf = true) → ((f k p).mem.wf = true ∧ (f k p).synced.wf = true)) {r : Puppeteer}
    (hr : r.places = q.places.mapAll f) : PlacesSound r := by
  intro e he
  rw [hr] at he
  obtain ⟨x, hx, rfl⟩ := List.mem_map.mp he
  exact hf _ _ (h x hx)

/-- Some placements go. -/
theorem PlacesSound.sub {q r : Puppeteer} (h : PlacesSound q) (hr : r.places.entries.Sublist q.places.entries) : PlacesSound r :=
  fun e he => h e (hr.subset he)

/-! ### The fuses -/

theorem FusesMoved.same {u v : Update} (hc : v.classes = u.classes) (hr : v.revoked = u.revoked) : FusesMoved u v :=
  ⟨fun _ => Nat.le_of_eq (by rw [hc]), fun _ h => hr ▸ h⟩

/-- Vendor keys are revoked. -/
theorem FusesMoved.revoke {u v : Update} {n : Nat} (hc : v.classes = u.classes) (hr : v.revoked = u.revoked ||| n) :
    FusesMoved u v :=
  ⟨fun _ => Nat.le_of_eq (by rw [hc]), fun i h => by
    have h : u.revoked.testBit i = true := h
    rw [hr, bit, Nat.testBit_or, h]; rfl⟩

/-- One class changes, its counter not falling. -/
theorem FusesMoved.upd {u v : Update} {c : Nat} {f : ImageClass → ImageClass} (hf : ∀ x, x.counter ≤ (f x).counter)
    (hc : v.classes = u.classes.upd c ImageClass.reset f) (hr : v.revoked = u.revoked) : FusesMoved u v := by
  refine ⟨fun k => ?_, fun _ h => hr ▸ h⟩
  rw [hc]
  by_cases e : k = c
  · subst e; rw [Bank.rd_upd]; exact hf _
  · rw [Bank.rd_upd_other _ e]

theorem Bank.find_mapAll {α : Type} (b : Bank α) (f : Nat → α → α) (k : Nat) : (b.mapAll f).find k = (b.find k).map (f k) := by
  unfold Bank.find Bank.mapAll
  induction b.entries with
  | nil => rfl
  | cons x l ih =>
    obtain ⟨i, y⟩ := x
    simp only [List.map_cons, Bank.findIn]
    split
    · rename_i h; subst h; rfl
    · exact ih

/-- Every class changes, its counter staying. -/
theorem FusesMoved.mapAll {u v : Update} {f : Nat → ImageClass → ImageClass} (hf : ∀ k x, (f k x).counter = x.counter)
    (hc : v.classes = u.classes.mapAll f) (hr : v.revoked = u.revoked) : FusesMoved u v := by
  refine ⟨fun k => ?_, fun _ h => hr ▸ h⟩
  rw [hc]
  unfold Bank.rd
  rw [Bank.find_mapAll]
  cases u.classes.find k
  · exact Nat.le_refl _
  · exact Nat.le_of_eq (hf ..).symm

namespace Machine

/-! ### The updates of one field -/

theorem set_time (s : State) (x : _) : Moved [.time] s { s with time := x } := by
  refine ⟨?_, ⟨.same rfl rfl, .refl _, .same rfl rfl⟩⟩
  constructor; intro p hp; cases p <;> first | rfl | cases hp

theorem set_tick (s : State) (x : _) : Moved [.tick] s { s with tick := x } := by
  refine ⟨?_, ⟨.same rfl rfl, .refl _, .same rfl rfl⟩⟩
  constructor; intro p hp; cases p <;> first | rfl | cases hp

theorem set_hub (s : State) (x : _) : Moved [.hub] s { s with hub := x } := by
  refine ⟨?_, ⟨.same rfl rfl, .refl _, .same rfl rfl⟩⟩
  constructor; intro p hp; cases p <;> first | rfl | cases hp

theorem set_control (s : State) (x : _) : Moved [.control] s { s with control := x } := by
  refine ⟨?_, ⟨.same rfl rfl, .refl _, .same rfl rfl⟩⟩
  constructor; intro p hp; cases p <;> first | rfl | cases hp

theorem set_stage (s : State) (x : _) : Moved [.stage] s { s with stage := x } := by
  refine ⟨?_, ⟨.same rfl rfl, .refl _, .same rfl rfl⟩⟩
  constructor; intro p hp; cases p <;> first | rfl | cases hp

theorem set_functions (s : State) (x : _) : Moved [.functions] s { s with functions := x } := by
  refine ⟨?_, ⟨.same rfl rfl, .refl _, .same rfl rfl⟩⟩
  constructor; intro p hp; cases p <;> first | rfl | cases hp

theorem set_fieldIo (s : State) (x : _) : Moved [.fieldIo] s { s with fieldIo := x } := by
  refine ⟨?_, ⟨.same rfl rfl, .refl _, .same rfl rfl⟩⟩
  constructor; intro p hp; cases p <;> first | rfl | cases hp

theorem set_fabric (s : State) (x : _) : Moved [.fabric] s { s with fabric := x } := by
  refine ⟨?_, ⟨.same rfl rfl, .refl _, .same rfl rfl⟩⟩
  constructor; intro p hp; cases p <;> first | rfl | cases hp

theorem set_nav (s : State) (x : _) : Moved [.nav] s { s with nav := x } := by
  refine ⟨?_, ⟨.same rfl rfl, .refl _, .same rfl rfl⟩⟩
  constructor; intro p hp; cases p <;> first | rfl | cases hp

theorem set_vision (s : State) (x : _) : Moved [.vision] s { s with vision := x } := by
  refine ⟨?_, ⟨.same rfl rfl, .refl _, .same rfl rfl⟩⟩
  constructor; intro p hp; cases p <;> first | rfl | cases hp

theorem set_infer (s : State) (x : _) : Moved [.infer] s { s with infer := x } := by
  refine ⟨?_, ⟨.same rfl rfl, .refl _, .same rfl rfl⟩⟩
  constructor; intro p hp; cases p <;> first | rfl | cases hp

theorem set_buses (s : State) (x : _) : Moved [.buses] s { s with buses := x } := by
  refine ⟨?_, ⟨.same rfl rfl, .refl _, .same rfl rfl⟩⟩
  constructor; intro p hp; cases p <;> first | rfl | cases hp

theorem set_eth (s : State) (x : _) : Moved [.eth] s { s with eth := x } := by
  refine ⟨?_, ⟨.same rfl rfl, .refl _, .same rfl rfl⟩⟩
  constructor; intro p hp; cases p <;> first | rfl | cases hp

theorem set_fleet (s : State) (x : _) : Moved [.fleet] s { s with fleet := x } := by
  refine ⟨?_, ⟨.same rfl rfl, .refl _, .same rfl rfl⟩⟩
  constructor; intro p hp; cases p <;> first | rfl | cases hp

theorem set_display (s : State) (x : _) : Moved [.display] s { s with display := x } := by
  refine ⟨?_, ⟨.same rfl rfl, .refl _, .same rfl rfl⟩⟩
  constructor; intro p hp; cases p <;> first | rfl | cases hp

theorem set_sections (s : State) (x : _) : Moved [.sections] s { s with sections := x } := by
  refine ⟨?_, ⟨.same rfl rfl, .refl _, .same rfl rfl⟩⟩
  constructor; intro p hp; cases p <;> first | rfl | cases hp

theorem set_freeCount (s : State) (x : _) : Moved [.freeCount] s { s with freeCount := x } := by
  refine ⟨?_, ⟨.same rfl rfl, .refl _, .same rfl rfl⟩⟩
  constructor; intro p hp; cases p <;> first | rfl | cases hp

theorem set_deferred (s : State) (x : _) : Moved [.deferred] s { s with deferred := x } := by
  refine ⟨?_, ⟨.same rfl rfl, .refl _, .same rfl rfl⟩⟩
  constructor; intro p hp; cases p <;> first | rfl | cases hp

theorem set_copies (s : State) (x : _) : Moved [.copies] s { s with copies := x } := by
  refine ⟨?_, ⟨.same rfl rfl, .refl _, .same rfl rfl⟩⟩
  constructor; intro p hp; cases p <;> first | rfl | cases hp

theorem set_pending (s : State) (x : _) : Moved [.pending] s { s with pending := x } := by
  refine ⟨?_, ⟨.same rfl rfl, .refl _, .same rfl rfl⟩⟩
  constructor; intro p hp; cases p <;> first | rfl | cases hp

theorem set_ledger (s : State) {x : Ledger} (h : LedgerStep s.ledger x) : Moved [.ledger] s { s with ledger := x } := by
  refine ⟨?_, ⟨h, .refl _, .same rfl rfl⟩⟩
  constructor; intro p hp; cases p <;> first | rfl | cases hp

theorem set_update (s : State) {x : Update} (h : FusesMoved s.update x) : Moved [.update] s { s with update := x } := by
  refine ⟨?_, ⟨.same rfl rfl, h, .same rfl rfl⟩⟩
  constructor; intro p hp; cases p <;> first | rfl | cases hp

theorem set_place (s : State) {x : Puppeteer} (h : PlaceStep s.place x) : Moved [.place] s { s with place := x } := by
  refine ⟨?_, ⟨.same rfl rfl, .refl _, h⟩⟩
  constructor; intro p hp; cases p <;> first | rfl | cases hp

/-- A change of the mode state that leaves its parts alone but those named. -/
theorem modMode_moved {qs : List Part} {f : ModeState → ModeState} (h : ∀ m p, qs.contains p = false → Part.sameMode m (f m) p) (s : State) :
    Moved qs s (s.modMode f) := by
  refine ⟨?_, ⟨.same rfl rfl, .refl _, .same rfl rfl⟩⟩
  constructor; intro p hp; cases p <;> first | rfl | exact h _ _ hp

/-- A change of the power state that leaves its parts alone but those named. -/
theorem modPower_moved {qs : List Part} {f : Power → Power} (h : ∀ m p, qs.contains p = false → Part.samePower m (f m) p) (s : State) :
    Moved qs s (s.modPower f) := by
  refine ⟨?_, ⟨.same rfl rfl, .refl _, .same rfl rfl⟩⟩
  constructor; intro p hp; cases p <;> first | rfl | exact h _ _ hp

/-- A change of the safety state that leaves its parts alone but those named. -/
theorem modSafety_moved {qs : List Part} {f : Safety → Safety} (h : ∀ m p, qs.contains p = false → Part.sameSafety m (f m) p) (s : State) :
    Moved qs s (s.modSafety f) := by
  refine ⟨?_, ⟨.same rfl rfl, .refl _, .same rfl rfl⟩⟩
  constructor; intro p hp; cases p <;> first | rfl | exact h _ _ hp

theorem State.count_moved (s : State) (u i : Nat) : Moved [.diag] s (s.count u i) := by
  unfold State.count
  refine modMode_moved ?_ s
  intro m p hp; cases p <;> first | exact absurd hp (by decide) | exact trivial | rfl

theorem State.countN_moved (s : State) (u i n : Nat) : Moved [.diag] s (s.countN u i n) := by
  unfold State.countN
  refine Moved.ite (.refl ..) ?_
  refine modMode_moved ?_ s
  intro m p hp; cases p <;> first | exact absurd hp (by decide) | exact trivial | rfl

theorem modLedger_moved {f : Ledger → Ledger} (h : ∀ l, LedgerStep l (f l)) (s : State) : Moved [.ledger] s (s.modLedger f) :=
  set_ledger s (h _)

/-- A record changes, its ID and kind staying, and its state moving as R318 allows. -/
theorem modRecord_moved {f : Record → Record}
    (h : ∀ x, (f x).id = x.id ∧ (f x).kind = x.kind ∧ (x.state = (f x).state ∨ x.state.mayMove (f x).state = true)) (s : State)
    (id : Nat) : Moved [.ledger] s (s.modRecord id f) :=
  modLedger_moved (f := fun l => { l with records := Sys2Proof.mapIf (fun x => x.id == id) f l.records })
    (fun _ => LedgerStep.mapIf (fun x _ => h x) rfl rfl) s

theorem modPlace_moved {f : Puppeteer → Puppeteer} (h : ∀ q, PlaceStep q (f q)) (s : State) : Moved [.place] s (s.modPlace f) :=
  set_place s (h _)

/-- A placement changes, its content canonical if it was. -/
theorem modPlacement_moved {f : Placement → Placement}
    (h : ∀ p, (p.mem.wf = true ∧ p.synced.wf = true) → ((f p).mem.wf = true ∧ (f p).synced.wf = true)) (s : State) (k : Nat) :
    Moved [.place] s (s.modPlacement k f) := by
  unfold State.modPlacement
  split
  · rename_i p e
    refine set_place s ⟨Nat.le_refl _, fun hq => hq.put (h p ?_) rfl⟩
    obtain ⟨x, hx, rfl⟩ := Bank.mem_of_find e
    exact hq x hx
  · exact Moved.refl ..

theorem modUpdate_moved {f : Update → Update} (h : ∀ u, FusesMoved u (f u)) (s : State) : Moved [.update] s (s.modUpdate f) :=
  set_update s (h _)

/-- An image class changes, its counter not falling. -/
theorem modCls_moved {f : ImageClass → ImageClass} (h : ∀ x, x.counter ≤ (f x).counter) (s : State) (c : Nat) :
    Moved [.update] s (s.modCls c f) :=
  modUpdate_moved (f := fun u => { u with classes := u.classes.upd c ImageClass.reset f }) (fun _ => FusesMoved.upd h rfl rfl) s

end Machine

end Sys2Proof
end

