-- ==== Sys2Proof/Laws/MovedOps.lean ====
section
/-! SUPPORT. What each operation of Machine/Ops.lean may change: nothing but the parts named. -/

namespace Sys2Proof.Machine

set_option maxRecDepth 4000

theorem State.modHub_moved (s : State) (a1 : _) :
    Moved [.hub] s (State.modHub s a1) := by
  unfold State.modHub
  try dsimp only
  repeat' (first
    | (with_reducible apply Moved.refl)
    | (with_reducible assumption)
    | (with_reducible apply Moved.fold)
    | (with_reducible apply Moved.fold_fst)
    | ((with_reducible apply Moved.via); (case k => with_reducible apply set_hub); (case sub => decide))
    | (intro _ _)
    | (with_reducible apply Moved.ite)
    | split
    | dsimp only)

theorem State.post_moved (s : State) (a1 : _) :
    Moved [.hub, .diag] s (State.post s a1) := by
  unfold State.post
  try dsimp only
  repeat' (first
    | (with_reducible apply Moved.refl)
    | (with_reducible assumption)
    | (with_reducible apply Moved.fold)
    | (with_reducible apply Moved.fold_fst)
    | ((with_reducible apply Moved.via); (case k => with_reducible apply State.modHub_moved); (case sub => decide))
    | ((with_reducible apply Moved.via); (case k => with_reducible apply State.count_moved); (case sub => decide))
    | (intro _ _)
    | (with_reducible apply Moved.ite)
    | split
    | dsimp only)

theorem State.raise_moved (s : State) (a1 : _) (a2 : _) (a3 : _) :
    Moved [.hub, .diag] s (State.raise s a1 a2 a3) := by
  unfold State.raise
  try dsimp only
  repeat' (first
    | (with_reducible apply Moved.refl)
    | (with_reducible assumption)
    | (with_reducible apply Moved.fold)
    | (with_reducible apply Moved.fold_fst)
    | ((with_reducible apply Moved.via); (case k => with_reducible apply State.post_moved); (case sub => decide))
    | (intro _ _)
    | (with_reducible apply Moved.ite)
    | split
    | dsimp only)

theorem State.complete_moved (s : State) (a1 : _) (a2 : _) (a3 : _) (a4 : _) (a5 : _) (a6 : _) :
    Moved [.hub, .diag] s (State.complete s a1 a2 a3 a4 a5 a6) := by
  unfold State.complete
  try dsimp only
  repeat' (first
    | (with_reducible apply Moved.refl)
    | (with_reducible assumption)
    | (with_reducible apply Moved.fold)
    | (with_reducible apply Moved.fold_fst)
    | ((with_reducible apply Moved.via); (case k => with_reducible apply State.post_moved); (case sub => decide))
    | (intro _ _)
    | (with_reducible apply Moved.ite)
    | split
    | dsimp only)

theorem State.modStage_moved (s : State) (a1 : _) :
    Moved [.stage] s (State.modStage s a1) := by
  unfold State.modStage
  try dsimp only
  repeat' (first
    | (with_reducible apply Moved.refl)
    | (with_reducible assumption)
    | (with_reducible apply Moved.fold)
    | (with_reducible apply Moved.fold_fst)
    | ((with_reducible apply Moved.via); (case k => with_reducible apply set_stage); (case sub => decide))
    | (intro _ _)
    | (with_reducible apply Moved.ite)
    | split
    | dsimp only)

theorem State.losePath_moved (s : State) (a1 : _) (a2 : _) :
    Moved [.stage] s (State.losePath s a1 a2) := by
  unfold State.losePath
  try dsimp only
  repeat' (first
    | (with_reducible apply Moved.refl)
    | (with_reducible assumption)
    | (with_reducible apply Moved.fold)
    | (with_reducible apply Moved.fold_fst)
    | ((with_reducible apply Moved.via); (case k => with_reducible apply State.modStage_moved); (case sub => decide))
    | (intro _ _)
    | (with_reducible apply Moved.ite)
    | split
    | dsimp only)

theorem State.setChan_moved (s : State) (a1 : _) (a2 : _) :
    Moved [.hub] s (State.setChan s a1 a2) := by
  unfold State.setChan
  try dsimp only
  repeat' (first
    | (with_reducible apply Moved.refl)
    | (with_reducible assumption)
    | (with_reducible apply Moved.fold)
    | (with_reducible apply Moved.fold_fst)
    | ((with_reducible apply Moved.via); (case k => with_reducible apply set_hub); (case sub => decide))
    | (intro _ _)
    | (with_reducible apply Moved.ite)
    | split
    | dsimp only)

theorem State.modChan_moved (s : State) (a1 : _) (a2 : _) :
    Moved [.hub] s (State.modChan s a1 a2) := by
  unfold State.modChan
  try dsimp only
  repeat' (first
    | (with_reducible apply Moved.refl)
    | (with_reducible assumption)
    | (with_reducible apply Moved.fold)
    | (with_reducible apply Moved.fold_fst)
    | ((with_reducible apply Moved.via); (case k => with_reducible apply State.setChan_moved); (case sub => decide))
    | (intro _ _)
    | (with_reducible apply Moved.ite)
    | split
    | dsimp only)

theorem State.modCompat_moved (s : State) (a1 : _) :
    Moved [.hub] s (State.modCompat s a1) := by
  unfold State.modCompat
  try dsimp only
  repeat' (first
    | (with_reducible apply Moved.refl)
    | (with_reducible assumption)
    | (with_reducible apply Moved.fold)
    | (with_reducible apply Moved.fold_fst)
    | ((with_reducible apply Moved.via); (case k => with_reducible apply State.modHub_moved); (case sub => decide))
    | (intro _ _)
    | (with_reducible apply Moved.ite)
    | split
    | dsimp only)

theorem State.noteSent_moved (s : State) (s' : State) :
    Moved [.hub, .fabric] s (State.noteSent s s') := by
  unfold State.noteSent
  try dsimp only
  repeat' (first
    | (with_reducible apply Moved.refl)
    | (with_reducible assumption)
    | (with_reducible apply Moved.fold)
    | (with_reducible apply Moved.fold_fst)
    | ((with_reducible apply Moved.via); (case k => with_reducible apply State.modHub_moved); (case sub => decide))
    | ((with_reducible apply Moved.via); (case k => with_reducible apply set_fabric); (case sub => decide))
    | (intro _ _)
    | (with_reducible apply Moved.ite)
    | split
    | dsimp only)

theorem State.pressure_moved (s : State) (a1 : _) :
    Moved [.hub, .diag, .ledger] s (State.pressure s a1) := by
  unfold State.pressure
  try dsimp only
  repeat' (first
    | (with_reducible apply Moved.refl)
    | (with_reducible assumption)
    | (with_reducible apply Moved.fold)
    | (with_reducible apply Moved.fold_fst)
    | ((with_reducible apply Moved.via); (case k => (with_reducible apply modLedger_moved); intro _; first | exact LedgerStep.same rfl rfl | exact LedgerStep.unitsReset .. | (split <;> exact LedgerStep.same rfl rfl) | (refine LedgerStep.mapIf ?_ rfl rfl; exact fun _ _ => ⟨rfl, rfl, .inl rfl⟩) | (refine LedgerStep.mapIf ?_ rfl rfl; exact fun _ h => ⟨rfl, rfl, .inr (by simp_all [RecState.mayMove])⟩)); (case sub => decide))
    | ((with_reducible apply Moved.via); (case k => with_reducible apply State.raise_moved); (case sub => decide))
    | (intro _ _)
    | (with_reducible apply Moved.ite)
    | split
    | dsimp only)

theorem State.ledgerPressure_moved (s : State) :
    Moved [.hub, .diag, .ledger] s (State.ledgerPressure s) := by
  unfold State.ledgerPressure
  try dsimp only
  repeat' (first
    | (with_reducible apply Moved.refl)
    | (with_reducible assumption)
    | (with_reducible apply Moved.fold)
    | (with_reducible apply Moved.fold_fst)
    | ((with_reducible apply Moved.via); (case k => with_reducible apply State.pressure_moved); (case sub => decide))
    | (intro _ _)
    | (with_reducible apply Moved.ite)
    | split
    | dsimp only)

theorem State.spend_moved (s : State) (a1 : _) :
    Moved [.freeCount] s (State.spend s a1) := by
  unfold State.spend
  try dsimp only
  repeat' (first
    | (with_reducible apply Moved.refl)
    | (with_reducible assumption)
    | (with_reducible apply Moved.fold)
    | (with_reducible apply Moved.fold_fst)
    | ((with_reducible apply Moved.via); (case k => with_reducible apply set_freeCount); (case sub => decide))
    | (intro _ _)
    | (with_reducible apply Moved.ite)
    | split
    | dsimp only)

theorem State.setRecord_moved (s : State) (a1 : _) (a2 : _) (a3 : _) :
    Moved [.hub, .diag, .ledger] s (State.setRecord s a1 a2 a3) := by
  unfold State.setRecord
  refine Moved.via (State.ledgerPressure_moved ..) (Moved.via (modRecord_moved (fun x => ?_) s a1) (Moved.refl ..) (by decide)) (by decide)
  split
  · rename_i h; exact ⟨rfl, rfl, .inr h⟩
  · exact ⟨rfl, rfl, .inl rfl⟩

theorem State.applyWindow_moved (s : State) (a1 : _) (a2 : _) (a3 : _) :
    Moved [.ledger] s (State.applyWindow s a1 a2 a3) := by
  unfold State.applyWindow
  try dsimp only
  repeat' (first
    | (with_reducible apply Moved.refl)
    | (with_reducible assumption)
    | (with_reducible apply Moved.fold)
    | (with_reducible apply Moved.fold_fst)
    | ((with_reducible apply Moved.via); (case k => (with_reducible apply modLedger_moved); intro _; first | exact LedgerStep.same rfl rfl | exact LedgerStep.unitsReset .. | (split <;> exact LedgerStep.same rfl rfl) | (refine LedgerStep.mapIf ?_ rfl rfl; exact fun _ _ => ⟨rfl, rfl, .inl rfl⟩) | (refine LedgerStep.mapIf ?_ rfl rfl; exact fun _ h => ⟨rfl, rfl, .inr (by simp_all [RecState.mayMove])⟩)); (case sub => decide))
    | (intro _ _)
    | (with_reducible apply Moved.ite)
    | split
    | dsimp only)

theorem State.endRedispatch_moved (s : State) (a1 : _) :
    Moved [.ledger] s (State.endRedispatch s a1) := by
  unfold State.endRedispatch
  try dsimp only
  repeat' (first
    | (with_reducible apply Moved.refl)
    | (with_reducible assumption)
    | (with_reducible apply Moved.fold)
    | (with_reducible apply Moved.fold_fst)
    | ((with_reducible apply Moved.via); (case k => (with_reducible apply modLedger_moved); intro _; first | exact LedgerStep.same rfl rfl | exact LedgerStep.unitsReset .. | (split <;> exact LedgerStep.same rfl rfl) | (refine LedgerStep.mapIf ?_ rfl rfl; exact fun _ _ => ⟨rfl, rfl, .inl rfl⟩) | (refine LedgerStep.mapIf ?_ rfl rfl; exact fun _ h => ⟨rfl, rfl, .inr (by simp_all [RecState.mayMove])⟩)); (case sub => decide))
    | (intro _ _)
    | (with_reducible apply Moved.ite)
    | split
    | dsimp only)

theorem State.bumpSerial_moved (s : State) :
    Moved [.hub] s (State.bumpSerial s) := by
  unfold State.bumpSerial
  try dsimp only
  repeat' (first
    | (with_reducible apply Moved.refl)
    | (with_reducible assumption)
    | (with_reducible apply Moved.fold)
    | (with_reducible apply Moved.fold_fst)
    | ((with_reducible apply Moved.via); (case k => with_reducible apply State.modHub_moved); (case sub => decide))
    | (intro _ _)
    | (with_reducible apply Moved.ite)
    | split
    | dsimp only)

theorem State.hold_moved (s : State) (a1 : _) :
    Moved [.hub] s (State.hold s a1) := by
  unfold State.hold
  try dsimp only
  repeat' (first
    | (with_reducible apply Moved.refl)
    | (with_reducible assumption)
    | (with_reducible apply Moved.fold)
    | (with_reducible apply Moved.fold_fst)
    | ((with_reducible apply Moved.via); (case k => with_reducible apply State.modChan_moved); (case sub => decide))
    | (intro _ _)
    | (with_reducible apply Moved.ite)
    | split
    | dsimp only)

theorem State.outcome_moved (s : State) (a1 : _) (a2 : _) (a3 : _) (a4 : _) :
    Moved [.hub, .diag] s (State.outcome s a1 a2 a3 a4) := by
  unfold State.outcome
  try dsimp only
  repeat' (first
    | (with_reducible apply Moved.refl)
    | (with_reducible assumption)
    | (with_reducible apply Moved.fold)
    | (with_reducible apply Moved.fold_fst)
    | ((with_reducible apply Moved.via); (case k => with_reducible apply State.hold_moved); (case sub => decide))
    | ((with_reducible apply Moved.via); (case k => with_reducible apply State.bumpSerial_moved); (case sub => decide))
    | ((with_reducible apply Moved.via); (case k => with_reducible apply State.complete_moved); (case sub => decide))
    | (intro _ _)
    | (with_reducible apply Moved.ite)
    | split
    | dsimp only)

theorem State.markWake_moved (s : State) (a1 : _) (a2 : _) :
    Moved [.hub] s (State.markWake s a1 a2) := by
  unfold State.markWake
  try dsimp only
  repeat' (first
    | (with_reducible apply Moved.refl)
    | (with_reducible assumption)
    | (with_reducible apply Moved.fold)
    | (with_reducible apply Moved.fold_fst)
    | ((with_reducible apply Moved.via); (case k => with_reducible apply State.modHub_moved); (case sub => decide))
    | (intro _ _)
    | (with_reducible apply Moved.ite)
    | split
    | dsimp only)

theorem State.writeReply_moved (s : State) (a1 : _) (a2 : _) (a3 : _) (a4 : _) :
    Moved [.hub, .fabric] s (State.writeReply s a1 a2 a3 a4) := by
  unfold State.writeReply
  try dsimp only
  repeat' (first
    | (with_reducible apply Moved.refl)
    | (with_reducible assumption)
    | (with_reducible apply Moved.fold)
    | (with_reducible apply Moved.fold_fst)
    | ((with_reducible apply Moved.via); (case k => with_reducible apply State.markWake_moved); (case sub => decide))
    | ((with_reducible apply Moved.via); (case k => with_reducible apply State.noteSent_moved); (case sub => decide))
    | ((with_reducible apply Moved.via); (case k => with_reducible apply State.modCompat_moved); (case sub => decide))
    | ((with_reducible apply Moved.via); (case k => with_reducible apply State.setChan_moved); (case sub => decide))
    | (intro _ _)
    | (with_reducible apply Moved.ite)
    | split
    | dsimp only)

theorem State.answered_moved (s : State) (a1 : _) (a2 : _) (a3 : _) (a4 : _) (a5 : _) :
    Moved [.hub, .diag, .ledger, .fabric] s (State.answered s a1 a2 a3 a4 a5) := by
  unfold State.answered
  try dsimp only
  repeat' (first
    | (with_reducible apply Moved.refl)
    | (with_reducible assumption)
    | (with_reducible apply Moved.fold)
    | (with_reducible apply Moved.fold_fst)
    | ((with_reducible apply Moved.via); (case k => with_reducible apply State.writeReply_moved); (case sub => decide))
    | ((with_reducible apply Moved.via); (case k => with_reducible apply State.outcome_moved); (case sub => decide))
    | ((with_reducible apply Moved.via); (case k => with_reducible apply State.endRedispatch_moved); (case sub => decide))
    | ((with_reducible apply Moved.via); (case k => with_reducible apply State.applyWindow_moved); (case sub => decide))
    | ((with_reducible apply Moved.via); (case k => (with_reducible apply modRecord_moved); intro _; exact ⟨rfl, rfl, .inl rfl⟩); (case sub => decide))
    | ((with_reducible apply Moved.via); (case k => with_reducible apply State.count_moved); (case sub => decide))
    | (intro _ _)
    | (with_reducible apply Moved.ite)
    | split
    | dsimp only)

theorem answer_moved (a0 : _) (a1 : _) (a2 : _) (a3 : _) (s : State) :
    Moved [.hub, .diag, .ledger, .fabric] s (answer a0 a1 a2 a3 s) := by
  unfold answer
  try dsimp only
  repeat' (first
    | (with_reducible apply Moved.refl)
    | (with_reducible assumption)
    | (with_reducible apply Moved.fold)
    | (with_reducible apply Moved.fold_fst)
    | ((with_reducible apply Moved.via); (case k => with_reducible apply State.answered_moved); (case sub => decide))
    | (intro _ _)
    | (with_reducible apply Moved.ite)
    | split
    | dsimp only)

theorem State.accepted_moved (s : State) (a1 : _) (a2 : _) (a3 : _) (a4 : _) :
    Moved [.hub, .diag, .ledger, .fabric] s (State.accepted s a1 a2 a3 a4) := by
  unfold State.accepted
  try dsimp only
  repeat' (first
    | (with_reducible apply Moved.refl)
    | (with_reducible assumption)
    | (with_reducible apply Moved.fold)
    | (with_reducible apply Moved.fold_fst)
    | ((with_reducible apply Moved.via); (case k => with_reducible apply State.answered_moved); (case sub => decide))
    | ((with_reducible apply Moved.via); (case k => with_reducible apply State.hold_moved); (case sub => decide))
    | ((with_reducible apply Moved.via); (case k => with_reducible apply State.bumpSerial_moved); (case sub => decide))
    | ((with_reducible apply Moved.via); (case k => (with_reducible apply modRecord_moved); intro _; exact ⟨rfl, rfl, .inl rfl⟩); (case sub => decide))
    | (intro _ _)
    | (with_reducible apply Moved.ite)
    | split
    | dsimp only)

theorem State.noteReplay_moved (s : State) (a1 : _) (a2 : _) (a3 : _) :
    Moved [.ledger] s (State.noteReplay s a1 a2 a3) := by
  unfold State.noteReplay
  refine modLedger_moved (fun l => ?_) s
  split <;> exact LedgerStep.same rfl rfl

theorem refuseWith_moved (a0 : _) (a1 : _) (a2 : _) (a3 : _) (a4 : _) (s : State) :
    Moved [.hub, .diag, .ledger, .fabric] s (refuseWith a0 a1 a2 a3 a4 s) := by
  unfold refuseWith
  try dsimp only
  repeat' (first
    | (with_reducible apply Moved.refl)
    | (with_reducible assumption)
    | (with_reducible apply Moved.fold)
    | (with_reducible apply Moved.fold_fst)
    | ((with_reducible apply Moved.via); (case k => with_reducible apply State.noteReplay_moved); (case sub => decide))
    | ((with_reducible apply Moved.via); (case k => with_reducible apply State.writeReply_moved); (case sub => decide))
    | ((with_reducible apply Moved.via); (case k => with_reducible apply State.outcome_moved); (case sub => decide))
    | ((with_reducible apply Moved.via); (case k => with_reducible apply State.endRedispatch_moved); (case sub => decide))
    | ((with_reducible apply Moved.via); (case k => with_reducible apply State.setRecord_moved); (case sub => decide))
    | ((with_reducible apply Moved.via); (case k => with_reducible apply State.count_moved); (case sub => decide))
    | (intro _ _)
    | (with_reducible apply Moved.ite)
    | split
    | dsimp only)

theorem refuse_moved (a0 : _) (a1 : _) (a2 : _) (a3 : _) (s : State) :
    Moved [.hub, .diag, .ledger, .fabric] s (refuse a0 a1 a2 a3 s) := by
  unfold refuse
  try dsimp only
  repeat' (first
    | (with_reducible apply Moved.refl)
    | (with_reducible assumption)
    | (with_reducible apply Moved.fold)
    | (with_reducible apply Moved.fold_fst)
    | ((with_reducible apply Moved.via); (case k => with_reducible apply refuseWith_moved); (case sub => decide))
    | (intro _ _)
    | (with_reducible apply Moved.ite)
    | split
    | dsimp only)

theorem State.defer_moved (s : State) (a1 : _) (a2 : _) :
    Moved [.deferred] s (State.defer s a1 a2) := by
  unfold State.defer
  try dsimp only
  repeat' (first
    | (with_reducible apply Moved.refl)
    | (with_reducible assumption)
    | (with_reducible apply Moved.fold)
    | (with_reducible apply Moved.fold_fst)
    | ((with_reducible apply Moved.via); (case k => with_reducible apply set_deferred); (case sub => decide))
    | (intro _ _)
    | (with_reducible apply Moved.ite)
    | split
    | dsimp only)

theorem State.modIsland_moved (s : State) (a1 : _) (a2 : _) :
    Moved [.islands] s (State.modIsland s a1 a2) := by
  unfold State.modIsland
  try dsimp only
  repeat' (first
    | (with_reducible apply Moved.refl)
    | (with_reducible assumption)
    | (with_reducible apply Moved.fold)
    | (with_reducible apply Moved.fold_fst)
    | ((with_reducible apply Moved.via); (case k => (with_reducible apply modMode_moved (qs := [.islands])); intro m p hp; cases p <;> first | exact absurd hp (by decide) | exact trivial | rfl | (split <;> rfl) | (unfold ModeState.supLost; split <;> rfl)); (case sub => decide))
    | (intro _ _)
    | (with_reducible apply Moved.ite)
    | split
    | dsimp only)

theorem State.settle_moved (s : State) (a1 : _) (a2 : _) (a3 : _) (a4 : _) (a5 : _) (a6 : _) :
    Moved [.hub, .diag] s (State.settle s a1 a2 a3 a4 a5 a6) := by
  unfold State.settle
  try dsimp only
  repeat' (first
    | (with_reducible apply Moved.refl)
    | (with_reducible assumption)
    | (with_reducible apply Moved.fold)
    | (with_reducible apply Moved.fold_fst)
    | ((with_reducible apply Moved.via); (case k => with_reducible apply State.complete_moved); (case sub => decide))
    | ((with_reducible apply Moved.via); (case k => with_reducible apply State.raise_moved); (case sub => decide))
    | (intro _ _)
    | (with_reducible apply Moved.ite)
    | split
    | dsimp only)

theorem State.free_moved (s : State) (a1 : _) :
    Moved [.freeCount] s (State.free s a1).2 := by
  unfold State.free
  try dsimp only
  repeat' (first
    | (with_reducible apply Moved.refl)
    | (with_reducible assumption)
    | (with_reducible apply Moved.fold)
    | (with_reducible apply Moved.fold_fst)
    | ((with_reducible apply Moved.via); (case k => with_reducible apply State.spend_moved); (case sub => decide))
    | (intro _ _)
    | (with_reducible apply Moved.ite)
    | split
    | dsimp only)

theorem State.raiseHeld_moved (s : State) (a1 : _) (a2 : _) (a3 : _) (a4 : _) :
    Moved [.hub, .diag] s (State.raiseHeld s a1 a2 a3 a4) := by
  unfold State.raiseHeld
  try dsimp only
  repeat' (first
    | (with_reducible apply Moved.refl)
    | (with_reducible assumption)
    | (with_reducible apply Moved.fold)
    | (with_reducible apply Moved.fold_fst)
    | ((with_reducible apply Moved.via); (case k => with_reducible apply State.post_moved); (case sub => decide))
    | (intro _ _)
    | (with_reducible apply Moved.ite)
    | split
    | dsimp only)

theorem State.atTick_moved (s : State) (a1 : _) :
    Moved [.tick] s (State.atTick s a1) := by
  unfold State.atTick
  try dsimp only
  repeat' (first
    | (with_reducible apply Moved.refl)
    | (with_reducible assumption)
    | (with_reducible apply Moved.fold)
    | (with_reducible apply Moved.fold_fst)
    | ((with_reducible apply Moved.via); (case k => with_reducible apply set_tick); (case sub => decide))
    | (intro _ _)
    | (with_reducible apply Moved.ite)
    | split
    | dsimp only)

theorem State.setCopies_moved (s : State) :
    Moved [.copies, .freeCount] s (State.setCopies s) := by
  unfold State.setCopies
  try dsimp only
  repeat' (first
    | (with_reducible apply Moved.refl)
    | (with_reducible assumption)
    | (with_reducible apply Moved.fold)
    | (with_reducible apply Moved.fold_fst)
    | ((with_reducible apply Moved.via); (case k => with_reducible apply State.spend_moved); (case sub => decide))
    | ((with_reducible apply Moved.via); (case k => with_reducible apply set_copies); (case sub => decide))
    | (intro _ _)
    | (with_reducible apply Moved.ite)
    | split
    | dsimp only)

theorem State.atTime_moved (s : State) (a1 : _) :
    Moved [.time] s (State.atTime s a1) := by
  unfold State.atTime
  try dsimp only
  repeat' (first
    | (with_reducible apply Moved.refl)
    | (with_reducible assumption)
    | (with_reducible apply Moved.fold)
    | (with_reducible apply Moved.fold_fst)
    | ((with_reducible apply Moved.via); (case k => with_reducible apply set_time); (case sub => decide))
    | (intro _ _)
    | (with_reducible apply Moved.ite)
    | split
    | dsimp only)

end Sys2Proof.Machine
end

