-- ==== Sys2Proof/Laws/MovedLedgerOps.lean ====
section
/-! SUPPORT. What each operation of Machine/LedgerOps.lean may change: nothing but the parts named. -/

namespace Sys2Proof.Machine

set_option maxRecDepth 4000

theorem State.expireOther_moved (s : State) (a1 : _) (a2 : _) (a3 : _) :
    Moved [.hub, .diag, .ledger] s (State.expireOther s a1 a2 a3) := by
  unfold State.expireOther
  try dsimp only
  repeat' (first
    | (with_reducible apply Moved.refl)
    | (with_reducible assumption)
    | (with_reducible apply Moved.fold)
    | (with_reducible apply Moved.fold_fst)
    | ((with_reducible apply Moved.via); (case k => with_reducible apply State.setRecord_moved); (case sub => decide))
    | ((with_reducible apply Moved.via); (case k => with_reducible apply State.raise_moved); (case sub => decide))
    | (intro _ _)
    | (with_reducible apply Moved.ite)
    | split
    | dsimp only)

theorem State.newRecord_moved (s : State) (a1 : _) (a2 : _) (a3 : _) (a4 : _) (a5 : _) (a6 : _) (a7 : _) (a8 : _) :
    Moved [.hub, .diag, .ledger] s (State.newRecord s a1 a2 a3 a4 a5 a6 a7 a8) := by
  unfold State.newRecord
  dsimp only
  refine Moved.via (State.ledgerPressure_moved ..) ?_ (by decide)
  refine Moved.via (set_ledger s ?_) (Moved.refl ..) (by decide)
  exact LedgerStep.append rfl (reclaim_sublist ..) rfl rfl

theorem State.journal_moved (s : State) (a1 : _) (a2 : _) (a3 : _) (a4 : _) :
    Moved [.hub, .diag, .ledger] s (State.journal s a1 a2 a3 a4) := by
  unfold State.journal
  try dsimp only
  repeat' (first
    | (with_reducible apply Moved.refl)
    | (with_reducible assumption)
    | (with_reducible apply Moved.fold)
    | (with_reducible apply Moved.fold_fst)
    | ((with_reducible apply Moved.via); (case k => with_reducible apply State.newRecord_moved); (case sub => decide))
    | (intro _ _)
    | (with_reducible apply Moved.ite)
    | split
    | dsimp only)

theorem State.expireCommand_moved (s : State) (a1 : _) (a2 : _) (a3 : _) :
    Moved [.hub, .diag, .ledger] s (State.expireCommand s a1 a2 a3) := by
  unfold State.expireCommand
  try dsimp only
  repeat' (first
    | (with_reducible apply Moved.refl)
    | (with_reducible assumption)
    | (with_reducible apply Moved.fold)
    | (with_reducible apply Moved.fold_fst)
    | ((with_reducible apply Moved.via); (case k => with_reducible apply State.outcome_moved); (case sub => decide))
    | ((with_reducible apply Moved.via); (case k => with_reducible apply State.setRecord_moved); (case sub => decide))
    | (intro _ _)
    | (with_reducible apply Moved.ite)
    | split
    | dsimp only)

end Sys2Proof.Machine
end

