-- ==== Sys2Proof/Laws/MovedHubOps.lean ====
section
/-! SUPPORT. What each operation of Machine/HubOps.lean may change: nothing but the parts named. -/

namespace Sys2Proof.Machine

set_option maxRecDepth 4000

theorem State.resetChannel_moved (s : State) (a1 : _) (a2 : _) :
    Moved [.hub] s (State.resetChannel s a1 a2) := by
  unfold State.resetChannel
  try dsimp only
  repeat' (first
    | (with_reducible apply Moved.refl)
    | (with_reducible assumption)
    | (with_reducible apply Moved.fold)
    | (with_reducible apply Moved.fold_fst)
    | ((with_reducible apply Moved.via); (case k => with_reducible apply State.modChan_moved); (case sub => decide))
    | (intro _ _)
    | (with_reducible apply Moved.ite)
    | split
    | dsimp only)

theorem State.recordDelivered_moved (s : State) (a1 : _) :
    Moved [.hub, .diag, .ledger] s (State.recordDelivered s a1) := by
  unfold State.recordDelivered
  refine Moved.via (State.ledgerPressure_moved ..) (Moved.via (modRecord_moved (fun x => ?_) s a1) (Moved.refl ..) (by decide)) (by decide)
  refine ⟨rfl, rfl, ?_⟩
  dsimp only
  split
  · rename_i h; rw [eq_of_beq h]; exact .inr rfl
  · exact .inl rfl

theorem State.retireDisplay_moved (s : State) (a1 : _) :
    Moved [.hub, .diag, .ledger] s (State.retireDisplay s a1) := by
  unfold State.retireDisplay
  try dsimp only
  repeat' (first
    | (with_reducible apply Moved.refl)
    | (with_reducible assumption)
    | (with_reducible apply Moved.fold)
    | (with_reducible apply Moved.fold_fst)
    | ((with_reducible apply Moved.via); (case k => with_reducible apply State.ledgerPressure_moved); (case sub => decide))
    | ((with_reducible apply Moved.via); (case k => (with_reducible apply modLedger_moved); intro _; first | exact LedgerStep.same rfl rfl | exact LedgerStep.unitsReset .. | (split <;> exact LedgerStep.same rfl rfl) | (refine LedgerStep.mapIf ?_ rfl rfl; exact fun _ _ => ⟨rfl, rfl, .inl rfl⟩) | (refine LedgerStep.mapIf ?_ rfl rfl; exact fun _ h => ⟨rfl, rfl, .inr (by simp_all [RecState.mayMove])⟩)); (case sub => decide))
    | (intro _ _)
    | (with_reducible apply Moved.ite)
    | split
    | dsimp only)

theorem State.completionRecord_moved (s : State) (a1 : _) (a2 : _) :
    Moved [.hub, .diag, .ledger] s (State.completionRecord s a1 a2) := by
  unfold State.completionRecord
  try dsimp only
  repeat' (first
    | (with_reducible apply Moved.refl)
    | (with_reducible assumption)
    | (with_reducible apply Moved.fold)
    | (with_reducible apply Moved.fold_fst)
    | ((with_reducible apply Moved.via); (case k => with_reducible apply State.retireDisplay_moved); (case sub => decide))
    | ((with_reducible apply Moved.via); (case k => with_reducible apply State.recordDelivered_moved); (case sub => decide))
    | ((with_reducible apply Moved.via); (case k => (with_reducible apply modRecord_moved); intro _; exact ⟨rfl, rfl, .inl rfl⟩); (case sub => decide))
    | (intro _ _)
    | (with_reducible apply Moved.ite)
    | split
    | dsimp only)

theorem State.toRequester_moved (s : State) (a1 : _) (a2 : _) :
    Moved [.hub, .diag, .ledger] s (State.toRequester s a1 a2) := by
  unfold State.toRequester
  try dsimp only
  repeat' (first
    | (with_reducible apply Moved.refl)
    | (with_reducible assumption)
    | (with_reducible apply Moved.fold)
    | (with_reducible apply Moved.fold_fst)
    | ((with_reducible apply Moved.via); (case k => with_reducible apply State.completionRecord_moved); (case sub => decide))
    | ((with_reducible apply Moved.via); (case k => with_reducible apply State.modCompat_moved); (case sub => decide))
    | ((with_reducible apply Moved.via); (case k => with_reducible apply State.setChan_moved); (case sub => decide))
    | (intro _ _)
    | (with_reducible apply Moved.ite)
    | split
    | dsimp only)

theorem State.releaseItem_moved (s : State) (a1 : _) (a2 : _) :
    Moved [.hub, .diag, .ledger] s (State.releaseItem s a1 a2) := by
  unfold State.releaseItem
  try dsimp only
  repeat' (first
    | (with_reducible apply Moved.refl)
    | (with_reducible assumption)
    | (with_reducible apply Moved.fold)
    | (with_reducible apply Moved.fold_fst)
    | ((with_reducible apply Moved.via); (case k => with_reducible apply State.toRequester_moved); (case sub => decide))
    | ((with_reducible apply Moved.via); (case k => with_reducible apply State.modChan_moved); (case sub => decide))
    | ((with_reducible apply Moved.via); (case k => with_reducible apply State.modHub_moved); (case sub => decide))
    | (intro _ _)
    | (with_reducible apply Moved.ite)
    | split
    | dsimp only)

theorem State.enableChannel_moved (s : State) (a1 : _) :
    Moved [.hub, .diag, .ledger] s (State.enableChannel s a1) := by
  unfold State.enableChannel
  try dsimp only
  repeat' (first
    | (with_reducible apply Moved.refl)
    | (with_reducible assumption)
    | (with_reducible apply Moved.fold)
    | (with_reducible apply Moved.fold_fst)
    | ((with_reducible apply Moved.via); (case k => with_reducible apply State.releaseItem_moved); (case sub => decide))
    | ((with_reducible apply Moved.via); (case k => with_reducible apply State.setChan_moved); (case sub => decide))
    | (intro _ _)
    | (with_reducible apply Moved.ite)
    | split
    | dsimp only)

theorem State.askHold_moved (s : State) (a1 : _) (a2 : _) (a3 : _) :
    Moved [.change] s (State.askHold s a1 a2 a3) := by
  unfold State.askHold
  try dsimp only
  repeat' (first
    | (with_reducible apply Moved.refl)
    | (with_reducible assumption)
    | (with_reducible apply Moved.fold)
    | (with_reducible apply Moved.fold_fst)
    | ((with_reducible apply Moved.via); (case k => (with_reducible apply modMode_moved (qs := [.change])); intro m p hp; cases p <;> first | exact absurd hp (by decide) | exact trivial | rfl | (split <;> rfl) | (unfold ModeState.supLost; split <;> rfl)); (case sub => decide))
    | (intro _ _)
    | (with_reducible apply Moved.ite)
    | split
    | dsimp only)

theorem State.placeRings_moved (s : State) (a1 : _) :
    Moved [.hub, .freeCount] s (State.placeRings s a1) := by
  unfold State.placeRings
  try dsimp only
  repeat' (first
    | (with_reducible apply Moved.refl)
    | (with_reducible assumption)
    | (with_reducible apply Moved.fold)
    | (with_reducible apply Moved.fold_fst)
    | ((with_reducible apply Moved.via); (case k => with_reducible apply State.spend_moved); (case sub => decide))
    | ((with_reducible apply Moved.via); (case k => with_reducible apply State.modChan_moved); (case sub => decide))
    | (intro _ _)
    | (with_reducible apply Moved.ite)
    | split
    | dsimp only)

theorem State.enableChannel0_moved (s : State) (a1 : _) :
    Moved [.hub, .diag, .ledger, .freeCount] s (State.enableChannel0 s a1) := by
  unfold State.enableChannel0
  try dsimp only
  repeat' (first
    | (with_reducible apply Moved.refl)
    | (with_reducible assumption)
    | (with_reducible apply Moved.fold)
    | (with_reducible apply Moved.fold_fst)
    | ((with_reducible apply Moved.via); (case k => with_reducible apply State.placeRings_moved); (case sub => decide))
    | ((with_reducible apply Moved.via); (case k => with_reducible apply State.enableChannel_moved); (case sub => decide))
    | ((with_reducible apply Moved.via); (case k => with_reducible apply State.modChan_moved); (case sub => decide))
    | (intro _ _)
    | (with_reducible apply Moved.ite)
    | split
    | dsimp only)

theorem State.takeHeld_moved (s : State) :
    Moved [.hub] s (State.takeHeld s) := by
  unfold State.takeHeld
  try dsimp only
  repeat' (first
    | (with_reducible apply Moved.refl)
    | (with_reducible assumption)
    | (with_reducible apply Moved.fold)
    | (with_reducible apply Moved.fold_fst)
    | ((with_reducible apply Moved.via); (case k => with_reducible apply State.modHub_moved); (case sub => decide))
    | (intro _ _)
    | (with_reducible apply Moved.ite)
    | split
    | dsimp only)

theorem State.dropOutcomes_moved (s : State) (a1 : _) :
    Moved [.hub, .diag, .ledger] s (State.dropOutcomes s a1) := by
  unfold State.dropOutcomes
  try dsimp only
  repeat' (first
    | (with_reducible apply Moved.refl)
    | (with_reducible assumption)
    | (with_reducible apply Moved.fold)
    | (with_reducible apply Moved.fold_fst)
    | ((with_reducible apply Moved.via); (case k => with_reducible apply State.ledgerPressure_moved); (case sub => decide))
    | ((with_reducible apply Moved.via); (case k => (with_reducible apply modLedger_moved); intro _; first | exact LedgerStep.same rfl rfl | exact LedgerStep.unitsReset .. | (split <;> exact LedgerStep.same rfl rfl) | (refine LedgerStep.mapIf ?_ rfl rfl; exact fun _ _ => ⟨rfl, rfl, .inl rfl⟩) | (refine LedgerStep.mapIf ?_ rfl rfl; exact fun _ h => ⟨rfl, rfl, .inr (by simp_all [RecState.mayMove])⟩)); (case sub => decide))
    | ((with_reducible apply Moved.via); (case k => with_reducible apply State.modChan_moved); (case sub => decide))
    | (intro _ _)
    | (with_reducible apply Moved.ite)
    | split
    | dsimp only)

theorem State.beat_moved (s : State) (a1 : _) :
    Moved [.hub, .diag] s (State.beat s a1) := by
  unfold State.beat
  try dsimp only
  repeat' (first
    | (with_reducible apply Moved.refl)
    | (with_reducible assumption)
    | (with_reducible apply Moved.fold)
    | (with_reducible apply Moved.fold_fst)
    | ((with_reducible apply Moved.via); (case k => with_reducible apply State.setChan_moved); (case sub => decide))
    | ((with_reducible apply Moved.via); (case k => with_reducible apply State.raise_moved); (case sub => decide))
    | (intro _ _)
    | (with_reducible apply Moved.ite)
    | split
    | dsimp only)

theorem State.holdOrDeliver_moved (s : State) (a1 : _) (a2 : _) :
    Moved [.hub] s (State.holdOrDeliver s a1 a2) := by
  unfold State.holdOrDeliver
  try dsimp only
  repeat' (first
    | (with_reducible apply Moved.refl)
    | (with_reducible assumption)
    | (with_reducible apply Moved.fold)
    | (with_reducible apply Moved.fold_fst)
    | ((with_reducible apply Moved.via); (case k => with_reducible apply State.modHub_moved); (case sub => decide))
    | (intro _ _)
    | (with_reducible apply Moved.ite)
    | split
    | dsimp only)

theorem State.toSubscribers_moved (s : State) (a1 : _) (a2 : _) :
    Moved [.hub] s (State.toSubscribers s a1 a2) := by
  unfold State.toSubscribers
  try dsimp only
  repeat' (first
    | (with_reducible apply Moved.refl)
    | (with_reducible assumption)
    | (with_reducible apply Moved.fold)
    | (with_reducible apply Moved.fold_fst)
    | ((with_reducible apply Moved.via); (case k => with_reducible apply State.modHub_moved); (case sub => decide))
    | (intro _ _)
    | (with_reducible apply Moved.ite)
    | split
    | dsimp only)

theorem State.publish_moved (s : State) (a1 : _) (a2 : _) :
    Moved [.hub] s (State.publish s a1 a2) := by
  unfold State.publish
  try dsimp only
  repeat' (first
    | (with_reducible apply Moved.refl)
    | (with_reducible assumption)
    | (with_reducible apply Moved.fold)
    | (with_reducible apply Moved.fold_fst)
    | ((with_reducible apply Moved.via); (case k => with_reducible apply State.toSubscribers_moved); (case sub => decide))
    | ((with_reducible apply Moved.via); (case k => with_reducible apply State.holdOrDeliver_moved); (case sub => decide))
    | (intro _ _)
    | (with_reducible apply Moved.ite)
    | split
    | dsimp only)

theorem State.deliver_moved (s : State) (a1 : _) :
    Moved [.hub, .diag, .ledger, .fabric] s (State.deliver s a1) := by
  unfold State.deliver
  try dsimp only
  repeat' (first
    | (with_reducible apply Moved.refl)
    | (with_reducible assumption)
    | (with_reducible apply Moved.fold)
    | (with_reducible apply Moved.fold_fst)
    | ((with_reducible apply Moved.via); (case k => with_reducible apply State.publish_moved); (case sub => decide))
    | ((with_reducible apply Moved.via); (case k => with_reducible apply State.toRequester_moved); (case sub => decide))
    | ((with_reducible apply Moved.via); (case k => with_reducible apply State.noteSent_moved); (case sub => decide))
    | (intro _ _)
    | (with_reducible apply Moved.ite)
    | split
    | dsimp only)

theorem State.keepBindings_moved (s : State) :
    Moved [.hub] s (State.keepBindings s) := by
  unfold State.keepBindings
  try dsimp only
  repeat' (first
    | (with_reducible apply Moved.refl)
    | (with_reducible assumption)
    | (with_reducible apply Moved.fold)
    | (with_reducible apply Moved.fold_fst)
    | ((with_reducible apply Moved.via); (case k => with_reducible apply State.modHub_moved); (case sub => decide))
    | (intro _ _)
    | (with_reducible apply Moved.ite)
    | split
    | dsimp only)

end Sys2Proof.Machine
end

