-- ==== Sys2Proof/Laws/MovedPlacementOps.lean ====
section
/-! SUPPORT. What each operation of Machine/PlacementOps.lean may change: nothing but the parts named. -/

namespace Sys2Proof.Machine

set_option maxRecDepth 4000

theorem State.noteCells_moved (s : State) (a1 : _) (a2 : _) (a3 : _) :
    Moved [.fleet] s (State.noteCells s a1 a2 a3) := by
  unfold State.noteCells
  dsimp only
  refine Moved.ite ?_ ?_
  · exact set_fleet _ _
  · exact Moved.refl _ _

theorem State.shadowed_moved (s : State) (a1 : _) (a2 : _) :
    Moved [.place] s (State.shadowed s a1 a2) := by
  unfold State.shadowed
  try dsimp only
  repeat' (first
    | (with_reducible apply Moved.refl)
    | (with_reducible assumption)
    | (with_reducible apply Moved.fold)
    | (with_reducible apply Moved.fold_fst)
    | ((with_reducible apply Moved.via); (case k => (with_reducible apply modPlacement_moved); intro _ h; first | exact h | (split <;> exact h) | exact ⟨h.1, Memory.copyFrom_wf h.2 ..⟩ | exact ⟨h.1, by dsimp only; split <;> first | exact h.1 | exact h.2⟩); (case sub => decide))
    | (intro _ _)
    | (with_reducible apply Moved.ite)
    | split
    | dsimp only)

theorem State.trimShadows_moved (a0 : _) (s : State) :
    Moved [.place] s (State.trimShadows a0 s) := by
  induction a0 generalizing s with
  | zero => exact Moved.refl _ _
  | succ n ih =>
    unfold State.trimShadows
    try dsimp only
    repeat' (first
      | (with_reducible apply Moved.refl)
      | (with_reducible assumption)
      | ((with_reducible apply Moved.via); (case k => with_reducible apply ih); (case sub => decide))
      | (with_reducible apply Moved.fold)
      | (with_reducible apply Moved.fold_fst)
      | ((with_reducible apply Moved.via); (case k => with_reducible apply State.shadowed_moved); (case sub => decide))
      | (intro _ _)
      | (with_reducible apply Moved.ite)
      | split
      | dsimp only)

theorem State.writePlace_moved (s : State) (a1 : _) (a2 : _) (a3 : _) :
    Moved [.place, .fleet] s (State.writePlace s a1 a2 a3) := by
  unfold State.writePlace
  refine Moved.via (State.trimShadows_moved ..) ?_ (by decide)
  refine Moved.via (modPlacement_moved (fun p h => ?_) ..) (Moved.via (State.noteCells_moved ..) (Moved.refl ..) (by decide)) (by decide)
  unfold Placement.fetched Placement.soil
  dsimp only
  split <;> exact ⟨Memory.writes_wf h.1 .., h.2⟩

theorem State.finishSyncs_moved (s : State) (a1 : _) :
    Moved [.hub, .diag, .place] s (State.finishSyncs s a1) := by
  unfold State.finishSyncs
  try dsimp only
  repeat' (first
    | (with_reducible apply Moved.refl)
    | (with_reducible assumption)
    | (with_reducible apply Moved.fold)
    | (with_reducible apply Moved.fold_fst)
    | ((with_reducible apply Moved.via); (case k => (with_reducible apply modPlacement_moved); intro _ h; first | exact h | (split <;> exact h) | exact ⟨h.1, Memory.copyFrom_wf h.2 ..⟩ | exact ⟨h.1, by dsimp only; split <;> first | exact h.1 | exact h.2⟩); (case sub => decide))
    | ((with_reducible apply Moved.via); (case k => with_reducible apply State.complete_moved); (case sub => decide))
    | (intro _ _)
    | (with_reducible apply Moved.ite)
    | split
    | dsimp only)

theorem State.wroteBack_moved (s : State) (a1 : _) (a2 : _) :
    Moved [.hub, .diag, .ledger, .place] s (State.wroteBack s a1 a2) := by
  unfold State.wroteBack
  try dsimp only
  repeat' (first
    | (with_reducible apply Moved.refl)
    | (with_reducible assumption)
    | (with_reducible apply Moved.fold)
    | (with_reducible apply Moved.fold_fst)
    | ((with_reducible apply Moved.via); (case k => with_reducible apply State.finishSyncs_moved); (case sub => decide))
    | ((with_reducible apply Moved.via); (case k => with_reducible apply State.setRecord_moved); (case sub => decide))
    | ((with_reducible apply Moved.via); (case k => (with_reducible apply modPlacement_moved); intro _ h; first | exact h | (split <;> exact h) | exact ⟨h.1, Memory.copyFrom_wf h.2 ..⟩ | exact ⟨h.1, by dsimp only; split <;> first | exact h.1 | exact h.2⟩); (case sub => decide))
    | (intro _ _)
    | (with_reducible apply Moved.ite)
    | split
    | dsimp only)

theorem State.finishUnits_moved (s : State) (a1 : _) :
    Moved [.hub, .diag, .ledger, .place] s (State.finishUnits s a1) := by
  unfold State.finishUnits
  try dsimp only
  repeat' (first
    | (with_reducible apply Moved.refl)
    | (with_reducible assumption)
    | (with_reducible apply Moved.fold)
    | (with_reducible apply Moved.fold_fst)
    | ((with_reducible apply Moved.via); (case k => with_reducible apply State.wroteBack_moved); (case sub => decide))
    | (intro _ _)
    | (with_reducible apply Moved.ite)
    | split
    | dsimp only)

theorem State.startUnit_moved (s : State) (a1 : _) (a2 : _) (a3 : _) :
    Moved [.hub, .diag, .ledger, .place] s (State.startUnit s a1 a2 a3) := by
  unfold State.startUnit
  try dsimp only
  repeat' (first
    | (with_reducible apply Moved.refl)
    | (with_reducible assumption)
    | (with_reducible apply Moved.fold)
    | (with_reducible apply Moved.fold_fst)
    | ((with_reducible apply Moved.via); (case k => with_reducible apply State.newRecord_moved); (case sub => decide))
    | ((with_reducible apply Moved.via); (case k => (with_reducible apply modPlacement_moved); intro _ h; first | exact h | (split <;> exact h) | exact ⟨h.1, Memory.copyFrom_wf h.2 ..⟩ | exact ⟨h.1, by dsimp only; split <;> first | exact h.1 | exact h.2⟩); (case sub => decide))
    | (intro _ _)
    | (with_reducible apply Moved.ite)
    | split
    | dsimp only)

theorem State.cleanChunk_moved (s : State) (a1 : _) (a2 : _) :
    Moved [.hub, .diag, .ledger, .place] s (State.cleanChunk s a1 a2) := by
  unfold State.cleanChunk
  try dsimp only
  repeat' (first
    | (with_reducible apply Moved.refl)
    | (with_reducible assumption)
    | (with_reducible apply Moved.fold)
    | (with_reducible apply Moved.fold_fst)
    | ((with_reducible apply Moved.via); (case k => with_reducible apply State.startUnit_moved); (case sub => decide))
    | ((with_reducible apply Moved.via); (case k => with_reducible apply State.finishUnits_moved); (case sub => decide))
    | (intro _ _)
    | (with_reducible apply Moved.ite)
    | split
    | dsimp only)

theorem State.dropCopy_moved (s : State) (a1 : _) (a2 : _) :
    Moved [.hub, .diag, .ledger, .place] s (State.dropCopy s a1 a2) := by
  unfold State.dropCopy
  try dsimp only
  repeat' (first
    | (with_reducible apply Moved.refl)
    | (with_reducible assumption)
    | (with_reducible apply Moved.fold)
    | (with_reducible apply Moved.fold_fst)
    | ((with_reducible apply Moved.via); (case k => with_reducible apply State.cleanChunk_moved); (case sub => decide))
    | ((with_reducible apply Moved.via); (case k => (with_reducible apply modPlacement_moved); intro _ h; first | exact h | (split <;> exact h) | exact ⟨h.1, Memory.copyFrom_wf h.2 ..⟩ | exact ⟨h.1, by dsimp only; split <;> first | exact h.1 | exact h.2⟩); (case sub => decide))
    | (intro _ _)
    | (with_reducible apply Moved.ite)
    | split
    | dsimp only)

theorem State.reclaimCopies_moved (a0 : _) (a1 : _) (a2 : _) (s : State) :
    Moved [.hub, .diag, .ledger, .place] s (State.reclaimCopies a0 a1 a2 s) := by
  induction a0 generalizing a1 a2 s with
  | zero => exact Moved.refl _ _
  | succ n ih =>
    unfold State.reclaimCopies
    try dsimp only
    repeat' (first
      | (with_reducible apply Moved.refl)
      | (with_reducible assumption)
      | ((with_reducible apply Moved.via); (case k => with_reducible apply ih); (case sub => decide))
      | (with_reducible apply Moved.fold)
      | (with_reducible apply Moved.fold_fst)
      | ((with_reducible apply Moved.via); (case k => with_reducible apply State.dropCopy_moved); (case sub => decide))
      | (intro _ _)
      | (with_reducible apply Moved.ite)
      | split
      | dsimp only)

theorem State.makeRoom_moved (s : State) (a1 : _) (a2 : _) :
    Moved [.hub, .diag, .ledger, .place] s (State.makeRoom s a1 a2) := by
  unfold State.makeRoom
  try dsimp only
  repeat' (first
    | (with_reducible apply Moved.refl)
    | (with_reducible assumption)
    | (with_reducible apply Moved.fold)
    | (with_reducible apply Moved.fold_fst)
    | ((with_reducible apply Moved.via); (case k => with_reducible apply State.reclaimCopies_moved); (case sub => decide))
    | (intro _ _)
    | (with_reducible apply Moved.ite)
    | split
    | dsimp only)

theorem State.admitRoom_moved (s : State) (a1 : _) (a2 : _) :
    Moved [.hub, .diag, .ledger, .place] s (State.admitRoom s a1 a2) := by
  unfold State.admitRoom
  try dsimp only
  repeat' (first
    | (with_reducible apply Moved.refl)
    | (with_reducible assumption)
    | (with_reducible apply Moved.fold)
    | (with_reducible apply Moved.fold_fst)
    | ((with_reducible apply Moved.via); (case k => with_reducible apply State.makeRoom_moved); (case sub => decide))
    | ((with_reducible apply Moved.via); (case k => (with_reducible apply modPlace_moved); intro _; first | exact PlaceStep.same rfl rfl | exact ⟨Nat.le_succ _, fun h => h⟩ | exact ⟨Nat.le_refl _, fun h => h.sub (List.filter_sublist ..)⟩ | (refine ⟨Nat.le_refl _, fun h => ?_⟩; refine h.mapAll ?_ (by dsimp only); intro _ _ h; first | exact h | (split <;> exact h) | (unfold Placement.window; exact h))); (case sub => decide))
    | (intro _ _)
    | (with_reducible apply Moved.ite)
    | split
    | dsimp only)

theorem State.lodge_moved (s : State) (p : Placement) (h : p.mem.wf = true ∧ p.synced.wf = true) :
    Moved [.hub, .diag, .ledger, .place] s (State.lodge s p).2 := by
  unfold State.lodge
  exact Moved.via (set_place _ ⟨Nat.le_succ _, fun k => k.put h rfl⟩)
    (Moved.via (State.admitRoom_moved ..) (Moved.refl ..) (by decide)) (by decide)

theorem State.createBootView_moved (s : State) :
    Moved [.hub, .diag, .ledger, .place] s (State.createBootView s) := by
  have h : ∀ n, (bootPlacement n).mem.wf = true ∧ (bootPlacement n).synced.wf = true := by
    intro n
    unfold bootPlacement newPlacement
    dsimp only
    exact ⟨Memory.empty_wf, Memory.empty_wf⟩
  unfold State.createBootView
  dsimp only
  refine Moved.via (modPlace_moved ?_ _) (State.lodge_moved s _ (h _)) ?_
  · exact fun _ => PlaceStep.same rfl rfl
  · decide

theorem State.tierPressure_moved (s : State) (a1 : _) :
    Moved [.hub, .diag, .place] s (State.tierPressure s a1) := by
  unfold State.tierPressure
  try dsimp only
  repeat' (first
    | (with_reducible apply Moved.refl)
    | (with_reducible assumption)
    | (with_reducible apply Moved.fold)
    | (with_reducible apply Moved.fold_fst)
    | ((with_reducible apply Moved.via); (case k => (with_reducible apply modPlace_moved); intro _; first | exact PlaceStep.same rfl rfl | exact ⟨Nat.le_succ _, fun h => h⟩ | exact ⟨Nat.le_refl _, fun h => h.sub (List.filter_sublist ..)⟩ | (refine ⟨Nat.le_refl _, fun h => ?_⟩; refine h.mapAll ?_ (by dsimp only); intro _ _ h; first | exact h | (split <;> exact h) | (unfold Placement.window; exact h))); (case sub => decide))
    | ((with_reducible apply Moved.via); (case k => with_reducible apply State.raise_moved); (case sub => decide))
    | (intro _ _)
    | (with_reducible apply Moved.ite)
    | split
    | dsimp only)

theorem State.pressures_moved (s : State) :
    Moved [.hub, .diag, .place] s (State.pressures s) := by
  unfold State.pressures
  try dsimp only
  repeat' (first
    | (with_reducible apply Moved.refl)
    | (with_reducible assumption)
    | (with_reducible apply Moved.fold)
    | (with_reducible apply Moved.fold_fst)
    | ((with_reducible apply Moved.via); (case k => with_reducible apply State.tierPressure_moved); (case sub => decide))
    | (intro _ _)
    | (with_reducible apply Moved.ite)
    | split
    | dsimp only)

theorem State.completePins_moved (s : State) (a1 : _) :
    Moved [.hub, .diag, .place] s (State.completePins s a1) := by
  unfold State.completePins
  try dsimp only
  repeat' (first
    | (with_reducible apply Moved.refl)
    | (with_reducible assumption)
    | (with_reducible apply Moved.fold)
    | (with_reducible apply Moved.fold_fst)
    | ((with_reducible apply Moved.via); (case k => (with_reducible apply modPlacement_moved); intro _ h; first | exact h | (split <;> exact h) | exact ⟨h.1, Memory.copyFrom_wf h.2 ..⟩ | exact ⟨h.1, by dsimp only; split <;> first | exact h.1 | exact h.2⟩); (case sub => decide))
    | ((with_reducible apply Moved.via); (case k => with_reducible apply State.complete_moved); (case sub => decide))
    | (intro _ _)
    | (with_reducible apply Moved.ite)
    | split
    | dsimp only)

theorem State.startMoves_moved (s : State) (a1 : _) (a2 : _) (a3 : _) :
    Moved [.place] s (State.startMoves s a1 a2 a3) := by
  unfold State.startMoves
  try dsimp only
  repeat' (first
    | (with_reducible apply Moved.refl)
    | (with_reducible assumption)
    | (with_reducible apply Moved.fold)
    | (with_reducible apply Moved.fold_fst)
    | ((with_reducible apply Moved.via); (case k => (with_reducible apply modPlace_moved); intro _; first | exact PlaceStep.same rfl rfl | exact ⟨Nat.le_succ _, fun h => h⟩ | exact ⟨Nat.le_refl _, fun h => h.sub (List.filter_sublist ..)⟩ | (refine ⟨Nat.le_refl _, fun h => ?_⟩; refine h.mapAll ?_ (by dsimp only); intro _ _ h; first | exact h | (split <;> exact h) | (unfold Placement.window; exact h))); (case sub => decide))
    | (intro _ _)
    | (with_reducible apply Moved.ite)
    | split
    | dsimp only)

theorem State.settlePin_moved (s : State) (a1 : _) :
    Moved [.hub, .diag, .ledger, .place] s (State.settlePin s a1) := by
  unfold State.settlePin
  try dsimp only
  repeat' (first
    | (with_reducible apply Moved.refl)
    | (with_reducible assumption)
    | (with_reducible apply Moved.fold)
    | (with_reducible apply Moved.fold_fst)
    | ((with_reducible apply Moved.via); (case k => with_reducible apply State.startMoves_moved); (case sub => decide))
    | ((with_reducible apply Moved.via); (case k => with_reducible apply State.completePins_moved); (case sub => decide))
    | ((with_reducible apply Moved.via); (case k => with_reducible apply State.dropCopy_moved); (case sub => decide))
    | (intro _ _)
    | (with_reducible apply Moved.ite)
    | split
    | dsimp only)

theorem State.dropPlacement_moved (s : State) (a1 : _) :
    Moved [.place] s (State.dropPlacement s a1) := by
  unfold State.dropPlacement
  try dsimp only
  repeat' (first
    | (with_reducible apply Moved.refl)
    | (with_reducible assumption)
    | (with_reducible apply Moved.fold)
    | (with_reducible apply Moved.fold_fst)
    | ((with_reducible apply Moved.via); (case k => (with_reducible apply modPlace_moved); intro _; first | exact PlaceStep.same rfl rfl | exact ⟨Nat.le_succ _, fun h => h⟩ | exact ⟨Nat.le_refl _, fun h => h.sub (List.filter_sublist ..)⟩ | (refine ⟨Nat.le_refl _, fun h => ?_⟩; refine h.mapAll ?_ (by dsimp only); intro _ _ h; first | exact h | (split <;> exact h) | (unfold Placement.window; exact h))); (case sub => decide))
    | (intro _ _)
    | (with_reducible apply Moved.ite)
    | split
    | dsimp only)

theorem State.finishViews_moved (s : State) (a1 : _) :
    Moved [.hub, .diag, .place] s (State.finishViews s a1) := by
  unfold State.finishViews
  try dsimp only
  repeat' (first
    | (with_reducible apply Moved.refl)
    | (with_reducible assumption)
    | (with_reducible apply Moved.fold)
    | (with_reducible apply Moved.fold_fst)
    | ((with_reducible apply Moved.via); (case k => (with_reducible apply modPlacement_moved); intro _ h; first | exact h | (split <;> exact h) | exact ⟨h.1, Memory.copyFrom_wf h.2 ..⟩ | exact ⟨h.1, by dsimp only; split <;> first | exact h.1 | exact h.2⟩); (case sub => decide))
    | ((with_reducible apply Moved.via); (case k => with_reducible apply State.complete_moved); (case sub => decide))
    | (intro _ _)
    | (with_reducible apply Moved.ite)
    | split
    | dsimp only)

theorem State.flushPlacement_moved (s : State) (a1 : _) :
    Moved [.hub, .diag, .ledger, .place] s (State.flushPlacement s a1) := by
  unfold State.flushPlacement
  try dsimp only
  repeat' (first
    | (with_reducible apply Moved.refl)
    | (with_reducible assumption)
    | (with_reducible apply Moved.fold)
    | (with_reducible apply Moved.fold_fst)
    | ((with_reducible apply Moved.via); (case k => with_reducible apply State.startUnit_moved); (case sub => decide))
    | ((with_reducible apply Moved.via); (case k => with_reducible apply State.finishUnits_moved); (case sub => decide))
    | (intro _ _)
    | (with_reducible apply Moved.ite)
    | split
    | dsimp only)

end Sys2Proof.Machine
end

