-- ==== Sys2Proof/Laws/MovedStreamOps.lean ====
section
/-! SUPPORT. What each operation of Machine/StreamOps.lean may change: nothing but the parts named. -/

namespace Sys2Proof.Machine

set_option maxRecDepth 4000

theorem State.modFabric_moved (s : State) (a1 : _) :
    Moved [.fabric] s (State.modFabric s a1) := by
  unfold State.modFabric
  try dsimp only
  repeat' (first
    | (with_reducible apply Moved.refl)
    | (with_reducible assumption)
    | (with_reducible apply Moved.fold)
    | (with_reducible apply Moved.fold_fst)
    | ((with_reducible apply Moved.via); (case k => with_reducible apply set_fabric); (case sub => decide))
    | (intro _ _)
    | (with_reducible apply Moved.ite)
    | split
    | dsimp only)

theorem State.setStream_moved (s : State) (a1 : _) (a2 : _) :
    Moved [.fabric] s (State.setStream s a1 a2) := by
  unfold State.setStream
  try dsimp only
  repeat' (first
    | (with_reducible apply Moved.refl)
    | (with_reducible assumption)
    | (with_reducible apply Moved.fold)
    | (with_reducible apply Moved.fold_fst)
    | ((with_reducible apply Moved.via); (case k => with_reducible apply State.modFabric_moved); (case sub => decide))
    | (intro _ _)
    | (with_reducible apply Moved.ite)
    | split
    | dsimp only)

theorem State.tellDrops_moved (s : State) (a1 : _) (a2 : _) (a3 : _) :
    Moved [.hub, .diag, .fabric] s (State.tellDrops s a1 a2 a3) := by
  unfold State.tellDrops
  try dsimp only
  repeat' (first
    | (with_reducible apply Moved.refl)
    | (with_reducible assumption)
    | (with_reducible apply Moved.fold)
    | (with_reducible apply Moved.fold_fst)
    | ((with_reducible apply Moved.via); (case k => with_reducible apply State.setStream_moved); (case sub => decide))
    | ((with_reducible apply Moved.via); (case k => with_reducible apply State.raise_moved); (case sub => decide))
    | (intro _ _)
    | (with_reducible apply Moved.ite)
    | split
    | dsimp only)

theorem State.tellLosses_moved (s : State) (a1 : _) (a2 : _) :
    Moved [.hub, .diag, .fabric] s (State.tellLosses s a1 a2) := by
  unfold State.tellLosses
  try dsimp only
  repeat' (first
    | (with_reducible apply Moved.refl)
    | (with_reducible assumption)
    | (with_reducible apply Moved.fold)
    | (with_reducible apply Moved.fold_fst)
    | ((with_reducible apply Moved.via); (case k => with_reducible apply State.tellDrops_moved); (case sub => decide))
    | (intro _ _)
    | (with_reducible apply Moved.ite)
    | split
    | dsimp only)

theorem State.setLosing_moved (s : State) (a1 : _) (a2 : _) (a3 : _) :
    Moved [.hub, .diag, .fabric] s (State.setLosing s a1 a2 a3) := by
  unfold State.setLosing
  try dsimp only
  repeat' (first
    | (with_reducible apply Moved.refl)
    | (with_reducible assumption)
    | (with_reducible apply Moved.fold)
    | (with_reducible apply Moved.fold_fst)
    | ((with_reducible apply Moved.via); (case k => with_reducible apply State.tellLosses_moved); (case sub => decide))
    | ((with_reducible apply Moved.via); (case k => with_reducible apply State.setStream_moved); (case sub => decide))
    | (intro _ _)
    | (with_reducible apply Moved.ite)
    | split
    | dsimp only)

theorem State.claim_moved (s : State) (a1 : _) (a2 : _) (a3 : _) (a4 : _) :
    Moved [.hub, .diag, .fabric] s (State.claim s a1 a2 a3 a4) := by
  unfold State.claim
  try dsimp only
  repeat' (first
    | (with_reducible apply Moved.refl)
    | (with_reducible assumption)
    | (with_reducible apply Moved.fold)
    | (with_reducible apply Moved.fold_fst)
    | ((with_reducible apply Moved.via); (case k => with_reducible apply State.setLosing_moved); (case sub => decide))
    | (intro _ _)
    | (with_reducible apply Moved.ite)
    | split
    | dsimp only)

theorem State.modStream_moved (s : State) (a1 : _) (a2 : _) :
    Moved [.fabric] s (State.modStream s a1 a2) := by
  unfold State.modStream
  try dsimp only
  repeat' (first
    | (with_reducible apply Moved.refl)
    | (with_reducible assumption)
    | (with_reducible apply Moved.fold)
    | (with_reducible apply Moved.fold_fst)
    | ((with_reducible apply Moved.via); (case k => with_reducible apply State.setStream_moved); (case sub => decide))
    | (intro _ _)
    | (with_reducible apply Moved.ite)
    | split
    | dsimp only)

theorem State.dropAll_moved (s : State) (a1 : _) :
    Moved [.hub, .diag, .fabric] s (State.dropAll s a1) := by
  unfold State.dropAll
  try dsimp only
  repeat' (first
    | (with_reducible apply Moved.refl)
    | (with_reducible assumption)
    | (with_reducible apply Moved.fold)
    | (with_reducible apply Moved.fold_fst)
    | ((with_reducible apply Moved.via); (case k => with_reducible apply State.modStream_moved); (case sub => decide))
    | ((with_reducible apply Moved.via); (case k => with_reducible apply State.tellDrops_moved); (case sub => decide))
    | (intro _ _)
    | (with_reducible apply Moved.ite)
    | split
    | dsimp only)

theorem State.dropFor_moved (s : State) (a1 : _) (a2 : _) :
    Moved [.hub, .diag, .fabric] s (State.dropFor s a1 a2) := by
  unfold State.dropFor
  try dsimp only
  repeat' (first
    | (with_reducible apply Moved.refl)
    | (with_reducible assumption)
    | (with_reducible apply Moved.fold)
    | (with_reducible apply Moved.fold_fst)
    | ((with_reducible apply Moved.via); (case k => with_reducible apply State.modStream_moved); (case sub => decide))
    | ((with_reducible apply Moved.via); (case k => with_reducible apply State.tellDrops_moved); (case sub => decide))
    | (intro _ _)
    | (with_reducible apply Moved.ite)
    | split
    | dsimp only)

theorem State.evict_moved (s : State) (a1 : _) (a2 : _) :
    Moved [.hub, .diag, .fabric] s (State.evict s a1 a2) := by
  unfold State.evict
  try dsimp only
  repeat' (first
    | (with_reducible apply Moved.refl)
    | (with_reducible assumption)
    | (with_reducible apply Moved.fold)
    | (with_reducible apply Moved.fold_fst)
    | ((with_reducible apply Moved.via); (case k => with_reducible apply State.dropFor_moved); (case sub => decide))
    | ((with_reducible apply Moved.via); (case k => with_reducible apply State.setStream_moved); (case sub => decide))
    | (intro _ _)
    | (with_reducible apply Moved.ite)
    | split
    | dsimp only)

theorem State.offerDirect_moved (s : State) (a1 : _) (a2 : _) (a3 : _) (a4 : _) :
    Moved [.hub, .diag, .fabric] s (State.offerDirect s a1 a2 a3 a4) := by
  unfold State.offerDirect
  try dsimp only
  repeat' (first
    | (with_reducible apply Moved.refl)
    | (with_reducible assumption)
    | (with_reducible apply Moved.fold)
    | (with_reducible apply Moved.fold_fst)
    | ((with_reducible apply Moved.via); (case k => with_reducible apply State.dropFor_moved); (case sub => decide))
    | ((with_reducible apply Moved.via); (case k => with_reducible apply State.setStream_moved); (case sub => decide))
    | (intro _ _)
    | (with_reducible apply Moved.ite)
    | split
    | dsimp only)

theorem State.claimWaiting_moved (a0 : _) (a1 : _) (s : State) :
    Moved [.hub, .diag, .fabric] s (State.claimWaiting a0 a1 s) := by
  induction a0 generalizing a1 s with
  | zero => exact Moved.refl _ _
  | succ n ih =>
    unfold State.claimWaiting
    try dsimp only
    repeat' (first
      | (with_reducible apply Moved.refl)
      | (with_reducible assumption)
      | ((with_reducible apply Moved.via); (case k => with_reducible apply ih); (case sub => decide))
      | (with_reducible apply Moved.fold)
      | (with_reducible apply Moved.fold_fst)
      | ((with_reducible apply Moved.via); (case k => with_reducible apply State.claim_moved); (case sub => decide))
      | ((with_reducible apply Moved.via); (case k => with_reducible apply State.setStream_moved); (case sub => decide))
      | (intro _ _)
      | (with_reducible apply Moved.ite)
      | split
      | dsimp only)

theorem State.pumpConsumer_moved (s : State) (a1 : _) (a2 : _) :
    Moved [.fabric] s (State.pumpConsumer s a1 a2) := by
  unfold State.pumpConsumer
  try dsimp only
  repeat' (first
    | (with_reducible apply Moved.refl)
    | (with_reducible assumption)
    | (with_reducible apply Moved.fold)
    | (with_reducible apply Moved.fold_fst)
    | ((with_reducible apply Moved.via); (case k => with_reducible apply State.setStream_moved); (case sub => decide))
    | (intro _ _)
    | (with_reducible apply Moved.ite)
    | split
    | dsimp only)

theorem State.modLink_moved (s : State) (a1 : _) :
    Moved [.fabric] s (State.modLink s a1) := by
  unfold State.modLink
  try dsimp only
  repeat' (first
    | (with_reducible apply Moved.refl)
    | (with_reducible assumption)
    | (with_reducible apply Moved.fold)
    | (with_reducible apply Moved.fold_fst)
    | ((with_reducible apply Moved.via); (case k => with_reducible apply State.modFabric_moved); (case sub => decide))
    | (intro _ _)
    | (with_reducible apply Moved.ite)
    | split
    | dsimp only)

theorem State.pumpPeers_moved (a0 : _) (a1 : _) (s : State) :
    Moved [.fabric] s (State.pumpPeers a0 a1 s) := by
  induction a0 generalizing a1 s with
  | zero => exact Moved.refl _ _
  | succ n ih =>
    unfold State.pumpPeers
    try dsimp only
    repeat' (first
      | (with_reducible apply Moved.refl)
      | (with_reducible assumption)
      | ((with_reducible apply Moved.via); (case k => with_reducible apply ih); (case sub => decide))
      | (with_reducible apply Moved.fold)
      | (with_reducible apply Moved.fold_fst)
      | ((with_reducible apply Moved.via); (case k => with_reducible apply State.modLink_moved); (case sub => decide))
      | ((with_reducible apply Moved.via); (case k => with_reducible apply State.setStream_moved); (case sub => decide))
      | (intro _ _)
      | (with_reducible apply Moved.ite)
      | split
      | dsimp only)

theorem State.pumpAll_moved (s : State) (a1 : _) :
    Moved [.fabric] s (State.pumpAll s a1) := by
  unfold State.pumpAll
  try dsimp only
  repeat' (first
    | (with_reducible apply Moved.refl)
    | (with_reducible assumption)
    | (with_reducible apply Moved.fold)
    | (with_reducible apply Moved.fold_fst)
    | ((with_reducible apply Moved.via); (case k => with_reducible apply State.pumpPeers_moved); (case sub => decide))
    | ((with_reducible apply Moved.via); (case k => with_reducible apply State.pumpConsumer_moved); (case sub => decide))
    | (intro _ _)
    | (with_reducible apply Moved.ite)
    | split
    | dsimp only)

theorem State.pumpDirect_moved (a0 : _) (a1 : _) (s : State) :
    Moved [.hub, .diag, .fabric] s (State.pumpDirect a0 a1 s) := by
  induction a0 generalizing a1 s with
  | zero => exact Moved.refl _ _
  | succ n ih =>
    unfold State.pumpDirect
    try dsimp only
    repeat' (first
      | (with_reducible apply Moved.refl)
      | (with_reducible assumption)
      | ((with_reducible apply Moved.via); (case k => with_reducible apply ih); (case sub => decide))
      | (with_reducible apply Moved.fold)
      | (with_reducible apply Moved.fold_fst)
      | ((with_reducible apply Moved.via); (case k => with_reducible apply State.modLink_moved); (case sub => decide))
      | ((with_reducible apply Moved.via); (case k => with_reducible apply State.setLosing_moved); (case sub => decide))
      | ((with_reducible apply Moved.via); (case k => with_reducible apply State.setStream_moved); (case sub => decide))
      | (intro _ _)
      | (with_reducible apply Moved.ite)
      | split
      | dsimp only)

theorem State.pump_moved (s : State) (a1 : _) :
    Moved [.hub, .diag, .fabric] s (State.pump s a1) := by
  unfold State.pump
  try dsimp only
  repeat' (first
    | (with_reducible apply Moved.refl)
    | (with_reducible assumption)
    | (with_reducible apply Moved.fold)
    | (with_reducible apply Moved.fold_fst)
    | ((with_reducible apply Moved.via); (case k => with_reducible apply State.pumpDirect_moved); (case sub => decide))
    | ((with_reducible apply Moved.via); (case k => with_reducible apply State.pumpAll_moved); (case sub => decide))
    | ((with_reducible apply Moved.via); (case k => with_reducible apply State.pumpPeers_moved); (case sub => decide))
    | ((with_reducible apply Moved.via); (case k => with_reducible apply State.claimWaiting_moved); (case sub => decide))
    | ((with_reducible apply Moved.via); (case k => with_reducible apply State.modStream_moved); (case sub => decide))
    | (intro _ _)
    | (with_reducible apply Moved.ite)
    | split
    | dsimp only)

theorem State.presentOn_moved (s : State) (a1 : _) (a2 : _) :
    Moved [.hub, .diag, .fabric] s (State.presentOn s a1 a2) := by
  unfold State.presentOn
  try dsimp only
  repeat' (first
    | (with_reducible apply Moved.refl)
    | (with_reducible assumption)
    | (with_reducible apply Moved.fold)
    | (with_reducible apply Moved.fold_fst)
    | ((with_reducible apply Moved.via); (case k => with_reducible apply State.pump_moved); (case sub => decide))
    | ((with_reducible apply Moved.via); (case k => with_reducible apply State.pumpAll_moved); (case sub => decide))
    | ((with_reducible apply Moved.via); (case k => with_reducible apply State.offerDirect_moved); (case sub => decide))
    | ((with_reducible apply Moved.via); (case k => with_reducible apply State.evict_moved); (case sub => decide))
    | ((with_reducible apply Moved.via); (case k => with_reducible apply State.dropAll_moved); (case sub => decide))
    | ((with_reducible apply Moved.via); (case k => with_reducible apply State.modStream_moved); (case sub => decide))
    | ((with_reducible apply Moved.via); (case k => with_reducible apply State.claim_moved); (case sub => decide))
    | ((with_reducible apply Moved.via); (case k => with_reducible apply State.setStream_moved); (case sub => decide))
    | (intro _ _)
    | (with_reducible apply Moved.ite)
    | split
    | dsimp only)

theorem State.present_moved (s : State) (a1 : _) (a2 : _) (a3 : _) :
    Moved [.hub, .diag, .fabric] s (State.present s a1 a2 a3) := by
  unfold State.present
  try dsimp only
  repeat' (first
    | (with_reducible apply Moved.refl)
    | (with_reducible assumption)
    | (with_reducible apply Moved.fold)
    | (with_reducible apply Moved.fold_fst)
    | ((with_reducible apply Moved.via); (case k => with_reducible apply State.presentOn_moved); (case sub => decide))
    | (intro _ _)
    | (with_reducible apply Moved.ite)
    | split
    | dsimp only)

theorem State.tellStream_moved (s : State) (a1 : _) (a2 : _) (a3 : _) (a4 : _) (a5 : _) :
    Moved [.hub, .diag] s (State.tellStream s a1 a2 a3 a4 a5) := by
  unfold State.tellStream
  try dsimp only
  repeat' (first
    | (with_reducible apply Moved.refl)
    | (with_reducible assumption)
    | (with_reducible apply Moved.fold)
    | (with_reducible apply Moved.fold_fst)
    | ((with_reducible apply Moved.via); (case k => with_reducible apply State.raise_moved); (case sub => decide))
    | (intro _ _)
    | (with_reducible apply Moved.ite)
    | split
    | dsimp only)

theorem State.endpointsReturn_moved (s : State) (a1 : _) :
    Moved [.hub, .diag, .fabric] s (State.endpointsReturn s a1) := by
  unfold State.endpointsReturn
  try dsimp only
  repeat' (first
    | (with_reducible apply Moved.refl)
    | (with_reducible assumption)
    | (with_reducible apply Moved.fold)
    | (with_reducible apply Moved.fold_fst)
    | ((with_reducible apply Moved.via); (case k => with_reducible apply State.tellStream_moved); (case sub => decide))
    | ((with_reducible apply Moved.via); (case k => with_reducible apply State.pump_moved); (case sub => decide))
    | ((with_reducible apply Moved.via); (case k => with_reducible apply State.modStream_moved); (case sub => decide))
    | ((with_reducible apply Moved.via); (case k => with_reducible apply State.setLosing_moved); (case sub => decide))
    | (intro _ _)
    | (with_reducible apply Moved.ite)
    | split
    | dsimp only)

theorem State.finishDetach_moved (s : State) (a1 : _) (a2 : _) :
    Moved [.fabric] s (State.finishDetach s a1 a2) := by
  unfold State.finishDetach
  try dsimp only
  repeat' (first
    | (with_reducible apply Moved.refl)
    | (with_reducible assumption)
    | (with_reducible apply Moved.fold)
    | (with_reducible apply Moved.fold_fst)
    | ((with_reducible apply Moved.via); (case k => with_reducible apply State.modStream_moved); (case sub => decide))
    | (intro _ _)
    | (with_reducible apply Moved.ite)
    | split
    | dsimp only)

theorem State.closeStream_moved (s : State) (a1 : _) (a2 : _) :
    Moved [.hub, .diag, .fabric] s (State.closeStream s a1 a2) := by
  unfold State.closeStream
  try dsimp only
  repeat' (first
    | (with_reducible apply Moved.refl)
    | (with_reducible assumption)
    | (with_reducible apply Moved.fold)
    | (with_reducible apply Moved.fold_fst)
    | ((with_reducible apply Moved.via); (case k => with_reducible apply State.complete_moved); (case sub => decide))
    | ((with_reducible apply Moved.via); (case k => with_reducible apply State.modFabric_moved); (case sub => decide))
    | (intro _ _)
    | (with_reducible apply Moved.ite)
    | split
    | dsimp only)

theorem State.finishDrain_moved (s : State) (a1 : _) :
    Moved [.hub, .diag, .fabric] s (State.finishDrain s a1) := by
  unfold State.finishDrain
  try dsimp only
  repeat' (first
    | (with_reducible apply Moved.refl)
    | (with_reducible assumption)
    | (with_reducible apply Moved.fold)
    | (with_reducible apply Moved.fold_fst)
    | ((with_reducible apply Moved.via); (case k => with_reducible apply State.closeStream_moved); (case sub => decide))
    | (intro _ _)
    | (with_reducible apply Moved.ite)
    | split
    | dsimp only)

theorem State.consumerAbsent_moved (s : State) (a1 : _) (a2 : _) (a3 : _) :
    Moved [.hub, .diag, .fabric] s (State.consumerAbsent s a1 a2 a3) := by
  unfold State.consumerAbsent
  try dsimp only
  repeat' (first
    | (with_reducible apply Moved.refl)
    | (with_reducible assumption)
    | (with_reducible apply Moved.fold)
    | (with_reducible apply Moved.fold_fst)
    | ((with_reducible apply Moved.via); (case k => with_reducible apply State.finishDrain_moved); (case sub => decide))
    | ((with_reducible apply Moved.via); (case k => with_reducible apply State.finishDetach_moved); (case sub => decide))
    | ((with_reducible apply Moved.via); (case k => with_reducible apply State.tellStream_moved); (case sub => decide))
    | ((with_reducible apply Moved.via); (case k => with_reducible apply State.pump_moved); (case sub => decide))
    | ((with_reducible apply Moved.via); (case k => with_reducible apply State.setLosing_moved); (case sub => decide))
    | (intro _ _)
    | (with_reducible apply Moved.ite)
    | split
    | dsimp only)

theorem State.producerAbsent_moved (s : State) (a1 : _) (a2 : _) :
    Moved [.hub, .diag, .fabric] s (State.producerAbsent s a1 a2) := by
  unfold State.producerAbsent
  try dsimp only
  repeat' (first
    | (with_reducible apply Moved.refl)
    | (with_reducible assumption)
    | (with_reducible apply Moved.fold)
    | (with_reducible apply Moved.fold_fst)
    | ((with_reducible apply Moved.via); (case k => with_reducible apply State.tellStream_moved); (case sub => decide))
    | ((with_reducible apply Moved.via); (case k => with_reducible apply State.modLink_moved); (case sub => decide))
    | ((with_reducible apply Moved.via); (case k => with_reducible apply State.setLosing_moved); (case sub => decide))
    | (intro _ _)
    | (with_reducible apply Moved.ite)
    | split
    | dsimp only)

theorem State.endpointsAbsent_moved (s : State) (a1 : _) (a2 : _) :
    Moved [.hub, .diag, .fabric] s (State.endpointsAbsent s a1 a2) := by
  unfold State.endpointsAbsent
  try dsimp only
  repeat' (first
    | (with_reducible apply Moved.refl)
    | (with_reducible assumption)
    | (with_reducible apply Moved.fold)
    | (with_reducible apply Moved.fold_fst)
    | ((with_reducible apply Moved.via); (case k => with_reducible apply State.producerAbsent_moved); (case sub => decide))
    | ((with_reducible apply Moved.via); (case k => with_reducible apply State.consumerAbsent_moved); (case sub => decide))
    | (intro _ _)
    | (with_reducible apply Moved.ite)
    | split
    | dsimp only)

theorem State.dropPartials_moved (s : State) :
    Moved [.hub, .diag, .fabric] s (State.dropPartials s) := by
  unfold State.dropPartials
  try dsimp only
  repeat' (first
    | (with_reducible apply Moved.refl)
    | (with_reducible assumption)
    | (with_reducible apply Moved.fold)
    | (with_reducible apply Moved.fold_fst)
    | ((with_reducible apply Moved.via); (case k => with_reducible apply State.modLink_moved); (case sub => decide))
    | ((with_reducible apply Moved.via); (case k => with_reducible apply State.dropAll_moved); (case sub => decide))
    | (intro _ _)
    | (with_reducible apply Moved.ite)
    | split
    | dsimp only)

theorem State.linkPhase_moved (s : State) (a1 : _) (a2 : _) :
    Moved [.hub, .diag, .fabric] s (State.linkPhase s a1 a2) := by
  unfold State.linkPhase
  try dsimp only
  repeat' (first
    | (with_reducible apply Moved.refl)
    | (with_reducible assumption)
    | (with_reducible apply Moved.fold)
    | (with_reducible apply Moved.fold_fst)
    | ((with_reducible apply Moved.via); (case k => with_reducible apply State.modLink_moved); (case sub => decide))
    | ((with_reducible apply Moved.via); (case k => with_reducible apply State.raise_moved); (case sub => decide))
    | (intro _ _)
    | (with_reducible apply Moved.ite)
    | split
    | dsimp only)

theorem State.resetCascade_moved (s : State) :
    Moved [.hub] s (State.resetCascade s) := by
  unfold State.resetCascade
  try dsimp only
  repeat' (first
    | (with_reducible apply Moved.refl)
    | (with_reducible assumption)
    | (with_reducible apply Moved.fold)
    | (with_reducible apply Moved.fold_fst)
    | ((with_reducible apply Moved.via); (case k => with_reducible apply State.resetChannel_moved); (case sub => decide))
    | (intro _ _)
    | (with_reducible apply Moved.ite)
    | split
    | dsimp only)

theorem State.linkDown_moved (s : State) (a1 : _) (a2 : _) :
    Moved [.hub, .diag, .stage, .fabric] s (State.linkDown s a1 a2) := by
  unfold State.linkDown
  try dsimp only
  repeat' (first
    | (with_reducible apply Moved.refl)
    | (with_reducible assumption)
    | (with_reducible apply Moved.fold)
    | (with_reducible apply Moved.fold_fst)
    | ((with_reducible apply Moved.via); (case k => with_reducible apply State.resetCascade_moved); (case sub => decide))
    | ((with_reducible apply Moved.via); (case k => with_reducible apply State.linkPhase_moved); (case sub => decide))
    | ((with_reducible apply Moved.via); (case k => with_reducible apply State.dropPartials_moved); (case sub => decide))
    | ((with_reducible apply Moved.via); (case k => with_reducible apply State.endpointsAbsent_moved); (case sub => decide))
    | ((with_reducible apply Moved.via); (case k => with_reducible apply State.losePath_moved); (case sub => decide))
    | ((with_reducible apply Moved.via); (case k => with_reducible apply State.complete_moved); (case sub => decide))
    | ((with_reducible apply Moved.via); (case k => with_reducible apply State.modLink_moved); (case sub => decide))
    | (intro _ _)
    | (with_reducible apply Moved.ite)
    | split
    | dsimp only)

theorem State.train_moved (s : State) (a1 : _) :
    Moved [.hub, .diag, .fabric] s (State.train s a1) := by
  unfold State.train
  try dsimp only
  repeat' (first
    | (with_reducible apply Moved.refl)
    | (with_reducible assumption)
    | (with_reducible apply Moved.fold)
    | (with_reducible apply Moved.fold_fst)
    | ((with_reducible apply Moved.via); (case k => with_reducible apply State.linkPhase_moved); (case sub => decide))
    | ((with_reducible apply Moved.via); (case k => with_reducible apply State.modLink_moved); (case sub => decide))
    | (intro _ _)
    | (with_reducible apply Moved.ite)
    | split
    | dsimp only)

theorem State.enableLink_moved (s : State) (a1 : _) :
    Moved [.hub, .diag, .stage, .fabric] s (State.enableLink s a1) := by
  unfold State.enableLink
  try dsimp only
  repeat' (first
    | (with_reducible apply Moved.refl)
    | (with_reducible assumption)
    | (with_reducible apply Moved.fold)
    | (with_reducible apply Moved.fold_fst)
    | ((with_reducible apply Moved.via); (case k => with_reducible apply State.train_moved); (case sub => decide))
    | ((with_reducible apply Moved.via); (case k => with_reducible apply State.linkDown_moved); (case sub => decide))
    | ((with_reducible apply Moved.via); (case k => with_reducible apply State.modLink_moved); (case sub => decide))
    | (intro _ _)
    | (with_reducible apply Moved.ite)
    | split
    | dsimp only)

theorem State.restStream_moved (s : State) (a1 : _) :
    Moved [.hub, .diag, .fabric] s (State.restStream s a1) := by
  unfold State.restStream
  try dsimp only
  repeat' (first
    | (with_reducible apply Moved.refl)
    | (with_reducible assumption)
    | (with_reducible apply Moved.fold)
    | (with_reducible apply Moved.fold_fst)
    | ((with_reducible apply Moved.via); (case k => with_reducible apply State.setLosing_moved); (case sub => decide))
    | (intro _ _)
    | (with_reducible apply Moved.ite)
    | split
    | dsimp only)

theorem State.restStreams_moved (s : State) :
    Moved [.hub, .diag, .fabric] s (State.restStreams s) := by
  unfold State.restStreams
  try dsimp only
  repeat' (first
    | (with_reducible apply Moved.refl)
    | (with_reducible assumption)
    | (with_reducible apply Moved.fold)
    | (with_reducible apply Moved.fold_fst)
    | ((with_reducible apply Moved.via); (case k => with_reducible apply State.restStream_moved); (case sub => decide))
    | (intro _ _)
    | (with_reducible apply Moved.ite)
    | split
    | dsimp only)

theorem State.retrain_moved (s : State) (a1 : _) :
    Moved [.hub, .diag, .fabric] s (State.retrain s a1) := by
  unfold State.retrain
  try dsimp only
  repeat' (first
    | (with_reducible apply Moved.refl)
    | (with_reducible assumption)
    | (with_reducible apply Moved.fold)
    | (with_reducible apply Moved.fold_fst)
    | ((with_reducible apply Moved.via); (case k => with_reducible apply State.linkPhase_moved); (case sub => decide))
    | ((with_reducible apply Moved.via); (case k => with_reducible apply State.modLink_moved); (case sub => decide))
    | (intro _ _)
    | (with_reducible apply Moved.ite)
    | split
    | dsimp only)

theorem State.modRing_moved (s : State) (a1 : _) (a2 : _) (a3 : _) :
    Moved [.fabric] s (State.modRing s a1 a2 a3) := by
  unfold State.modRing
  try dsimp only
  repeat' (first
    | (with_reducible apply Moved.refl)
    | (with_reducible assumption)
    | (with_reducible apply Moved.fold)
    | (with_reducible apply Moved.fold_fst)
    | ((with_reducible apply Moved.via); (case k => with_reducible apply State.modStream_moved); (case sub => decide))
    | (intro _ _)
    | (with_reducible apply Moved.ite)
    | split
    | dsimp only)

theorem State.notifyRing_moved (s : State) (a1 : _) (a2 : _) (a3 : _) :
    Moved [.hub, .diag, .fabric] s (State.notifyRing s a1 a2 a3) := by
  unfold State.notifyRing
  try dsimp only
  repeat' (first
    | (with_reducible apply Moved.refl)
    | (with_reducible assumption)
    | (with_reducible apply Moved.fold)
    | (with_reducible apply Moved.fold_fst)
    | ((with_reducible apply Moved.via); (case k => with_reducible apply State.modRing_moved); (case sub => decide))
    | ((with_reducible apply Moved.via); (case k => with_reducible apply State.raise_moved); (case sub => decide))
    | (intro _ _)
    | (with_reducible apply Moved.ite)
    | split
    | dsimp only)

theorem State.completeDescriptor_moved (s : State) (a1 : _) (a2 : _) (a3 : _) (a4 : _) (a5 : _) :
    Moved [.hub, .diag, .place, .fabric, .fleet] s (State.completeDescriptor s a1 a2 a3 a4 a5) := by
  unfold State.completeDescriptor
  try dsimp only
  repeat' (first
    | (with_reducible apply Moved.refl)
    | (with_reducible assumption)
    | (with_reducible apply Moved.fold)
    | (with_reducible apply Moved.fold_fst)
    | ((with_reducible apply Moved.via); (case k => with_reducible apply State.notifyRing_moved); (case sub => decide))
    | ((with_reducible apply Moved.via); (case k => with_reducible apply State.modRing_moved); (case sub => decide))
    | ((with_reducible apply Moved.via); (case k => with_reducible apply State.writePlace_moved); (case sub => decide))
    | (intro _ _)
    | (with_reducible apply Moved.ite)
    | split
    | dsimp only)

theorem State.sendAck_moved (s : State) :
    Moved [.fabric] s (State.sendAck s) := by
  unfold State.sendAck
  try dsimp only
  repeat' (first
    | (with_reducible apply Moved.refl)
    | (with_reducible assumption)
    | (with_reducible apply Moved.fold)
    | (with_reducible apply Moved.fold_fst)
    | ((with_reducible apply Moved.via); (case k => with_reducible apply State.modLink_moved); (case sub => decide))
    | (intro _ _)
    | (with_reducible apply Moved.ite)
    | split
    | dsimp only)

theorem State.sendNak_moved (s : State) :
    Moved [.fabric] s (State.sendNak s) := by
  unfold State.sendNak
  try dsimp only
  repeat' (first
    | (with_reducible apply Moved.refl)
    | (with_reducible assumption)
    | (with_reducible apply Moved.fold)
    | (with_reducible apply Moved.fold_fst)
    | ((with_reducible apply Moved.via); (case k => with_reducible apply State.modLink_moved); (case sub => decide))
    | (intro _ _)
    | (with_reducible apply Moved.ite)
    | split
    | dsimp only)

theorem State.ackFlit_moved (s : State) (a1 : _) :
    Moved [.hub, .diag, .fabric] s (State.ackFlit s a1) := by
  unfold State.ackFlit
  try dsimp only
  repeat' (first
    | (with_reducible apply Moved.refl)
    | (with_reducible assumption)
    | (with_reducible apply Moved.fold)
    | (with_reducible apply Moved.fold_fst)
    | ((with_reducible apply Moved.via); (case k => with_reducible apply State.finishDrain_moved); (case sub => decide))
    | ((with_reducible apply Moved.via); (case k => with_reducible apply State.finishDetach_moved); (case sub => decide))
    | ((with_reducible apply Moved.via); (case k => with_reducible apply State.modStream_moved); (case sub => decide))
    | (intro _ _)
    | (with_reducible apply Moved.ite)
    | split
    | dsimp only)

theorem State.acknowledge_moved (s : State) (a1 : _) :
    Moved [.hub, .diag, .fabric] s (State.acknowledge s a1) := by
  unfold State.acknowledge
  try dsimp only
  repeat' (first
    | (with_reducible apply Moved.refl)
    | (with_reducible assumption)
    | (with_reducible apply Moved.fold)
    | (with_reducible apply Moved.fold_fst)
    | ((with_reducible apply Moved.via); (case k => with_reducible apply State.ackFlit_moved); (case sub => decide))
    | ((with_reducible apply Moved.via); (case k => with_reducible apply State.pump_moved); (case sub => decide))
    | ((with_reducible apply Moved.via); (case k => with_reducible apply State.modLink_moved); (case sub => decide))
    | (intro _ _)
    | (with_reducible apply Moved.ite)
    | split
    | dsimp only)

theorem State.goBack_moved (s : State) (a1 : _) :
    Moved [.hub, .diag, .fabric] s (State.goBack s a1) := by
  unfold State.goBack
  try dsimp only
  repeat' (first
    | (with_reducible apply Moved.refl)
    | (with_reducible assumption)
    | (with_reducible apply Moved.fold)
    | (with_reducible apply Moved.fold_fst)
    | ((with_reducible apply Moved.via); (case k => with_reducible apply State.acknowledge_moved); (case sub => decide))
    | ((with_reducible apply Moved.via); (case k => with_reducible apply State.retrain_moved); (case sub => decide))
    | ((with_reducible apply Moved.via); (case k => with_reducible apply State.modLink_moved); (case sub => decide))
    | (intro _ _)
    | (with_reducible apply Moved.ite)
    | split
    | dsimp only)

end Sys2Proof.Machine
end

