-- ==== Sys2Proof/Laws/MovedBusOps.lean ====
section
/-! SUPPORT. What each operation of Machine/BusOps.lean may change: nothing but the parts named. -/

namespace Sys2Proof.Machine

set_option maxRecDepth 4000

theorem State.modBus_moved (s : State) (a1 : _) (a2 : _) :
    Moved [.buses] s (State.modBus s a1 a2) := by
  unfold State.modBus
  try dsimp only
  repeat' (first
    | (with_reducible apply Moved.refl)
    | (with_reducible assumption)
    | (with_reducible apply Moved.fold)
    | (with_reducible apply Moved.fold_fst)
    | ((with_reducible apply Moved.via); (case k => with_reducible apply set_buses); (case sub => decide))
    | (intro _ _)
    | (with_reducible apply Moved.ite)
    | split
    | dsimp only)

theorem State.busEvent_moved (s : State) (a1 : _) (a2 : _) (a3 : _) :
    Moved [.hub, .diag] s (State.busEvent s a1 a2 a3) := by
  unfold State.busEvent
  try dsimp only
  repeat' (first
    | (with_reducible apply Moved.refl)
    | (with_reducible assumption)
    | (with_reducible apply Moved.fold)
    | (with_reducible apply Moved.fold_fst)
    | ((with_reducible apply Moved.via); (case k => with_reducible apply State.raise_moved); (case sub => decide))
    | (intro _ _)
    | (with_reducible apply Moved.ite)
    | split
    | dsimp only)

theorem State.busTo_moved (s : State) (a1 : _) (a2 : _) (a3 : _) :
    Moved [.hub, .diag, .buses] s (State.busTo s a1 a2 a3) := by
  unfold State.busTo
  try dsimp only
  repeat' (first
    | (with_reducible apply Moved.refl)
    | (with_reducible assumption)
    | (with_reducible apply Moved.fold)
    | (with_reducible apply Moved.fold_fst)
    | ((with_reducible apply Moved.via); (case k => with_reducible apply State.busEvent_moved); (case sub => decide))
    | ((with_reducible apply Moved.via); (case k => with_reducible apply State.modBus_moved); (case sub => decide))
    | (intro _ _)
    | (with_reducible apply Moved.ite)
    | split
    | dsimp only)

theorem State.modQueue_moved (s : State) (a1 : _) (a2 : _) (a3 : _) :
    Moved [.buses] s (State.modQueue s a1 a2 a3) := by
  unfold State.modQueue
  try dsimp only
  repeat' (first
    | (with_reducible apply Moved.refl)
    | (with_reducible assumption)
    | (with_reducible apply Moved.fold)
    | (with_reducible apply Moved.fold_fst)
    | ((with_reducible apply Moved.via); (case k => with_reducible apply State.modBus_moved); (case sub => decide))
    | (intro _ _)
    | (with_reducible apply Moved.ite)
    | split
    | dsimp only)

theorem State.presentBatch_moved (s : State) (a1 : _) (a2 : _) (a3 : _) :
    Moved [.hub, .diag, .fabric, .buses] s (State.presentBatch s a1 a2 a3) := by
  unfold State.presentBatch
  try dsimp only
  repeat' (first
    | (with_reducible apply Moved.refl)
    | (with_reducible assumption)
    | (with_reducible apply Moved.fold)
    | (with_reducible apply Moved.fold_fst)
    | ((with_reducible apply Moved.via); (case k => with_reducible apply State.present_moved); (case sub => decide))
    | ((with_reducible apply Moved.via); (case k => with_reducible apply State.modQueue_moved); (case sub => decide))
    | (intro _ _)
    | (with_reducible apply Moved.ite)
    | split
    | dsimp only)

theorem State.batch_moved (s : State) (a1 : _) (a2 : _) :
    Moved [.hub, .diag, .fabric, .buses] s (State.batch s a1 a2) := by
  unfold State.batch
  try dsimp only
  repeat' (first
    | (with_reducible apply Moved.refl)
    | (with_reducible assumption)
    | (with_reducible apply Moved.fold)
    | (with_reducible apply Moved.fold_fst)
    | ((with_reducible apply Moved.via); (case k => with_reducible apply State.presentBatch_moved); (case sub => decide))
    | (intro _ _)
    | (with_reducible apply Moved.ite)
    | split
    | dsimp only)

theorem State.overflow_moved (s : State) (a1 : _) (a2 : _) :
    Moved [.hub, .diag, .buses] s (State.overflow s a1 a2) := by
  unfold State.overflow
  try dsimp only
  repeat' (first
    | (with_reducible apply Moved.refl)
    | (with_reducible assumption)
    | (with_reducible apply Moved.fold)
    | (with_reducible apply Moved.fold_fst)
    | ((with_reducible apply Moved.via); (case k => with_reducible apply State.modQueue_moved); (case sub => decide))
    | ((with_reducible apply Moved.via); (case k => with_reducible apply State.raise_moved); (case sub => decide))
    | ((with_reducible apply Moved.via); (case k => with_reducible apply State.count_moved); (case sub => decide))
    | (intro _ _)
    | (with_reducible apply Moved.ite)
    | split
    | dsimp only)

theorem State.store_moved (s : State) (a1 : _) (a2 : _) (a3 : _) (a4 : _) (a5 : _) :
    Moved [.hub, .diag, .fabric, .buses] s (State.store s a1 a2 a3 a4 a5) := by
  unfold State.store
  try dsimp only
  repeat' (first
    | (with_reducible apply Moved.refl)
    | (with_reducible assumption)
    | (with_reducible apply Moved.fold)
    | (with_reducible apply Moved.fold_fst)
    | ((with_reducible apply Moved.via); (case k => with_reducible apply State.overflow_moved); (case sub => decide))
    | ((with_reducible apply Moved.via); (case k => with_reducible apply State.batch_moved); (case sub => decide))
    | ((with_reducible apply Moved.via); (case k => with_reducible apply State.modQueue_moved); (case sub => decide))
    | ((with_reducible apply Moved.via); (case k => with_reducible apply State.count_moved); (case sub => decide))
    | (intro _ _)
    | (with_reducible apply Moved.ite)
    | split
    | dsimp only)

theorem State.filterFrame_moved (s : State) (a1 : _) (a2 : _) (a3 : _) :
    Moved [.hub, .diag, .fabric, .buses] s (State.filterFrame s a1 a2 a3) := by
  unfold State.filterFrame
  try dsimp only
  repeat' (first
    | (with_reducible apply Moved.refl)
    | (with_reducible assumption)
    | (with_reducible apply Moved.fold)
    | (with_reducible apply Moved.fold_fst)
    | ((with_reducible apply Moved.via); (case k => with_reducible apply State.store_moved); (case sub => decide))
    | ((with_reducible apply Moved.via); (case k => with_reducible apply State.count_moved); (case sub => decide))
    | (intro _ _)
    | (with_reducible apply Moved.ite)
    | split
    | dsimp only)

theorem State.setObject_moved (s : State) (a1 : _) (a2 : _) (a3 : _) :
    Moved [.buses] s (State.setObject s a1 a2 a3) := by
  unfold State.setObject
  try dsimp only
  repeat' (first
    | (with_reducible apply Moved.refl)
    | (with_reducible assumption)
    | (with_reducible apply Moved.fold)
    | (with_reducible apply Moved.fold_fst)
    | ((with_reducible apply Moved.via); (case k => with_reducible apply State.modBus_moved); (case sub => decide))
    | (intro _ _)
    | (with_reducible apply Moved.ite)
    | split
    | dsimp only)

theorem State.txResult_moved (s : State) (a1 : _) (a2 : _) (a3 : _) (a4 : _) (a5 : _) :
    Moved [.hub, .diag] s (State.txResult s a1 a2 a3 a4 a5) := by
  unfold State.txResult
  try dsimp only
  repeat' (first
    | (with_reducible apply Moved.refl)
    | (with_reducible assumption)
    | (with_reducible apply Moved.fold)
    | (with_reducible apply Moved.fold_fst)
    | ((with_reducible apply Moved.via); (case k => with_reducible apply State.raise_moved); (case sub => decide))
    | ((with_reducible apply Moved.via); (case k => with_reducible apply State.count_moved); (case sub => decide))
    | (intro _ _)
    | (with_reducible apply Moved.ite)
    | split
    | dsimp only)

theorem State.fillService_moved (s : State) (a1 : _) :
    Moved [.buses] s (State.fillService s a1) := by
  unfold State.fillService
  try dsimp only
  repeat' (first
    | (with_reducible apply Moved.refl)
    | (with_reducible assumption)
    | (with_reducible apply Moved.fold)
    | (with_reducible apply Moved.fold_fst)
    | ((with_reducible apply Moved.via); (case k => with_reducible apply State.setObject_moved); (case sub => decide))
    | ((with_reducible apply Moved.via); (case k => with_reducible apply State.modBus_moved); (case sub => decide))
    | (intro _ _)
    | (with_reducible apply Moved.ite)
    | split
    | dsimp only)

theorem State.contend_moved (s : State) (a1 : _) :
    Moved [.buses] s (State.contend s a1) := by
  unfold State.contend
  try dsimp only
  repeat' (first
    | (with_reducible apply Moved.refl)
    | (with_reducible assumption)
    | (with_reducible apply Moved.fold)
    | (with_reducible apply Moved.fold_fst)
    | ((with_reducible apply Moved.via); (case k => with_reducible apply State.fillService_moved); (case sub => decide))
    | ((with_reducible apply Moved.via); (case k => with_reducible apply State.modBus_moved); (case sub => decide))
    | (intro _ _)
    | (with_reducible apply Moved.ite)
    | split
    | dsimp only)

theorem State.busSendId_moved (s : State) (a1 : _) (a2 : _) (a3 : _) (a4 : _) (a5 : _) :
    Moved [.buses] s (State.busSendId s a1 a2 a3 a4 a5) := by
  unfold State.busSendId
  try dsimp only
  repeat' (first
    | (with_reducible apply Moved.refl)
    | (with_reducible assumption)
    | (with_reducible apply Moved.fold)
    | (with_reducible apply Moved.fold_fst)
    | ((with_reducible apply Moved.via); (case k => with_reducible apply State.contend_moved); (case sub => decide))
    | ((with_reducible apply Moved.via); (case k => with_reducible apply State.modBus_moved); (case sub => decide))
    | (intro _ _)
    | (with_reducible apply Moved.ite)
    | split
    | dsimp only)

theorem State.busSend_moved (s : State) (a1 : _) (a2 : _) (a3 : _) (a4 : _) (a5 : _) :
    Moved [.buses] s (State.busSend s a1 a2 a3 a4 a5) := by
  unfold State.busSend
  try dsimp only
  repeat' (first
    | (with_reducible apply Moved.refl)
    | (with_reducible assumption)
    | (with_reducible apply Moved.fold)
    | (with_reducible apply Moved.fold_fst)
    | ((with_reducible apply Moved.via); (case k => with_reducible apply State.busSendId_moved); (case sub => decide))
    | (intro _ _)
    | (with_reducible apply Moved.ite)
    | split
    | dsimp only)

theorem State.abandonAll_moved (s : State) (a1 : _) (a2 : _) :
    Moved [.hub, .diag, .buses] s (State.abandonAll s a1 a2) := by
  unfold State.abandonAll
  try dsimp only
  repeat' (first
    | (with_reducible apply Moved.refl)
    | (with_reducible assumption)
    | (with_reducible apply Moved.fold)
    | (with_reducible apply Moved.fold_fst)
    | ((with_reducible apply Moved.via); (case k => with_reducible apply State.txResult_moved); (case sub => decide))
    | ((with_reducible apply Moved.via); (case k => with_reducible apply State.setObject_moved); (case sub => decide))
    | (intro _ _)
    | (with_reducible apply Moved.ite)
    | split
    | dsimp only)

theorem State.busStop_moved (s : State) (a1 : _) (a2 : _) :
    Moved [.hub, .diag, .buses] s (State.busStop s a1 a2) := by
  unfold State.busStop
  try dsimp only
  repeat' (first
    | (with_reducible apply Moved.refl)
    | (with_reducible assumption)
    | (with_reducible apply Moved.fold)
    | (with_reducible apply Moved.fold_fst)
    | ((with_reducible apply Moved.via); (case k => with_reducible apply State.abandonAll_moved); (case sub => decide))
    | ((with_reducible apply Moved.via); (case k => with_reducible apply State.busTo_moved); (case sub => decide))
    | ((with_reducible apply Moved.via); (case k => with_reducible apply State.modBus_moved); (case sub => decide))
    | (intro _ _)
    | (with_reducible apply Moved.ite)
    | split
    | dsimp only)

theorem State.busHalt_moved (s : State) (a1 : _) (a2 : _) :
    Moved [.hub, .diag, .buses] s (State.busHalt s a1 a2) := by
  unfold State.busHalt
  try dsimp only
  repeat' (first
    | (with_reducible apply Moved.refl)
    | (with_reducible assumption)
    | (with_reducible apply Moved.fold)
    | (with_reducible apply Moved.fold_fst)
    | ((with_reducible apply Moved.via); (case k => with_reducible apply State.busStop_moved); (case sub => decide))
    | ((with_reducible apply Moved.via); (case k => with_reducible apply State.modBus_moved); (case sub => decide))
    | (intro _ _)
    | (with_reducible apply Moved.ite)
    | split
    | dsimp only)

theorem State.busStart_moved (s : State) (a1 : _) (a2 : _) :
    Moved [.hub, .diag, .buses] s (State.busStart s a1 a2) := by
  unfold State.busStart
  try dsimp only
  repeat' (first
    | (with_reducible apply Moved.refl)
    | (with_reducible assumption)
    | (with_reducible apply Moved.fold)
    | (with_reducible apply Moved.fold_fst)
    | ((with_reducible apply Moved.via); (case k => with_reducible apply State.busTo_moved); (case sub => decide))
    | (intro _ _)
    | (with_reducible apply Moved.ite)
    | split
    | dsimp only)

theorem State.modCf_moved (s : State) (a1 : _) (a2 : _) (a3 : _) :
    Moved [.buses] s (State.modCf s a1 a2 a3) := by
  unfold State.modCf
  try dsimp only
  repeat' (first
    | (with_reducible apply Moved.refl)
    | (with_reducible assumption)
    | (with_reducible apply Moved.fold)
    | (with_reducible apply Moved.fold_fst)
    | ((with_reducible apply Moved.via); (case k => with_reducible apply State.modBus_moved); (case sub => decide))
    | (intro _ _)
    | (with_reducible apply Moved.ite)
    | split
    | dsimp only)

theorem State.addressEvent_moved (s : State) (a1 : _) (a2 : _) (a3 : _) :
    Moved [.hub, .diag, .buses] s (State.addressEvent s a1 a2 a3) := by
  unfold State.addressEvent
  try dsimp only
  repeat' (first
    | (with_reducible apply Moved.refl)
    | (with_reducible assumption)
    | (with_reducible apply Moved.fold)
    | (with_reducible apply Moved.fold_fst)
    | ((with_reducible apply Moved.via); (case k => with_reducible apply State.complete_moved); (case sub => decide))
    | ((with_reducible apply Moved.via); (case k => with_reducible apply State.modCf_moved); (case sub => decide))
    | ((with_reducible apply Moved.via); (case k => with_reducible apply State.raise_moved); (case sub => decide))
    | (intro _ _)
    | (with_reducible apply Moved.ite)
    | split
    | dsimp only)

theorem State.sendClaim_moved (s : State) (a1 : _) (a2 : _) :
    Moved [.buses] s (State.sendClaim s a1 a2) := by
  unfold State.sendClaim
  try dsimp only
  repeat' (first
    | (with_reducible apply Moved.refl)
    | (with_reducible assumption)
    | (with_reducible apply Moved.fold)
    | (with_reducible apply Moved.fold_fst)
    | ((with_reducible apply Moved.via); (case k => with_reducible apply State.busSend_moved); (case sub => decide))
    | (intro _ _)
    | (with_reducible apply Moved.ite)
    | split
    | dsimp only)

theorem State.claimAddress_moved (s : State) (a1 : _) (a2 : _) (a3 : _) :
    Moved [.hub, .diag, .buses] s (State.claimAddress s a1 a2 a3) := by
  unfold State.claimAddress
  try dsimp only
  repeat' (first
    | (with_reducible apply Moved.refl)
    | (with_reducible assumption)
    | (with_reducible apply Moved.fold)
    | (with_reducible apply Moved.fold_fst)
    | ((with_reducible apply Moved.via); (case k => with_reducible apply State.sendClaim_moved); (case sub => decide))
    | ((with_reducible apply Moved.via); (case k => with_reducible apply State.addressEvent_moved); (case sub => decide))
    | ((with_reducible apply Moved.via); (case k => with_reducible apply State.modCf_moved); (case sub => decide))
    | (intro _ _)
    | (with_reducible apply Moved.ite)
    | split
    | dsimp only)

theorem State.loseAddress_moved (s : State) (a1 : _) (a2 : _) (a3 : _) :
    Moved [.hub, .diag, .buses] s (State.loseAddress s a1 a2 a3) := by
  unfold State.loseAddress
  try dsimp only
  repeat' (first
    | (with_reducible apply Moved.refl)
    | (with_reducible assumption)
    | (with_reducible apply Moved.fold)
    | (with_reducible apply Moved.fold_fst)
    | ((with_reducible apply Moved.via); (case k => with_reducible apply State.claimAddress_moved); (case sub => decide))
    | ((with_reducible apply Moved.via); (case k => with_reducible apply State.sendClaim_moved); (case sub => decide))
    | ((with_reducible apply Moved.via); (case k => with_reducible apply State.addressEvent_moved); (case sub => decide))
    | ((with_reducible apply Moved.via); (case k => with_reducible apply State.modCf_moved); (case sub => decide))
    | (intro _ _)
    | (with_reducible apply Moved.ite)
    | split
    | dsimp only)

theorem State.heardClaim_moved (s : State) (a1 : _) (a2 : _) (a3 : _) :
    Moved [.hub, .diag, .buses] s (State.heardClaim s a1 a2 a3) := by
  unfold State.heardClaim
  try dsimp only
  repeat' (first
    | (with_reducible apply Moved.refl)
    | (with_reducible assumption)
    | (with_reducible apply Moved.fold)
    | (with_reducible apply Moved.fold_fst)
    | ((with_reducible apply Moved.via); (case k => with_reducible apply State.loseAddress_moved); (case sub => decide))
    | ((with_reducible apply Moved.via); (case k => with_reducible apply State.sendClaim_moved); (case sub => decide))
    | ((with_reducible apply Moved.via); (case k => with_reducible apply State.modCf_moved); (case sub => decide))
    | ((with_reducible apply Moved.via); (case k => with_reducible apply State.modBus_moved); (case sub => decide))
    | (intro _ _)
    | (with_reducible apply Moved.ite)
    | split
    | dsimp only)

theorem State.heardRequest_moved (s : State) (a1 : _) (a2 : _) :
    Moved [.buses] s (State.heardRequest s a1 a2) := by
  unfold State.heardRequest
  try dsimp only
  repeat' (first
    | (with_reducible apply Moved.refl)
    | (with_reducible assumption)
    | (with_reducible apply Moved.fold)
    | (with_reducible apply Moved.fold_fst)
    | ((with_reducible apply Moved.via); (case k => with_reducible apply State.sendClaim_moved); (case sub => decide))
    | (intro _ _)
    | (with_reducible apply Moved.ite)
    | split
    | dsimp only)

theorem State.claimAgain_moved (s : State) (a1 : _) :
    Moved [.hub, .diag, .buses] s (State.claimAgain s a1) := by
  unfold State.claimAgain
  try dsimp only
  repeat' (first
    | (with_reducible apply Moved.refl)
    | (with_reducible assumption)
    | (with_reducible apply Moved.fold)
    | (with_reducible apply Moved.fold_fst)
    | ((with_reducible apply Moved.via); (case k => with_reducible apply State.claimAddress_moved); (case sub => decide))
    | (intro _ _)
    | (with_reducible apply Moved.ite)
    | split
    | dsimp only)

theorem State.serviceFrame_moved (s : State) (a1 : _) (a2 : _) :
    Moved [.hub, .diag, .buses] s (State.serviceFrame s a1 a2) := by
  unfold State.serviceFrame
  try dsimp only
  repeat' (first
    | (with_reducible apply Moved.refl)
    | (with_reducible assumption)
    | (with_reducible apply Moved.fold)
    | (with_reducible apply Moved.fold_fst)
    | ((with_reducible apply Moved.via); (case k => with_reducible apply State.heardRequest_moved); (case sub => decide))
    | ((with_reducible apply Moved.via); (case k => with_reducible apply State.heardClaim_moved); (case sub => decide))
    | (intro _ _)
    | (with_reducible apply Moved.ite)
    | split
    | dsimp only)

theorem State.transportDone_moved (s : State) (a1 : _) (a2 : _) (a3 : _) (a4 : _) (a5 : _) :
    Moved [.hub, .diag, .buses] s (State.transportDone s a1 a2 a3 a4 a5) := by
  unfold State.transportDone
  try dsimp only
  repeat' (first
    | (with_reducible apply Moved.refl)
    | (with_reducible assumption)
    | (with_reducible apply Moved.fold)
    | (with_reducible apply Moved.fold_fst)
    | ((with_reducible apply Moved.via); (case k => with_reducible apply State.complete_moved); (case sub => decide))
    | ((with_reducible apply Moved.via); (case k => with_reducible apply State.modBus_moved); (case sub => decide))
    | (intro _ _)
    | (with_reducible apply Moved.ite)
    | split
    | dsimp only)

theorem State.sendCm_moved (s : State) (a1 : _) (a2 : _) (a3 : _) (a4 : _) (a5 : _) :
    Moved [.buses] s (State.sendCm s a1 a2 a3 a4 a5) := by
  unfold State.sendCm
  try dsimp only
  repeat' (first
    | (with_reducible apply Moved.refl)
    | (with_reducible assumption)
    | (with_reducible apply Moved.fold)
    | (with_reducible apply Moved.fold_fst)
    | ((with_reducible apply Moved.via); (case k => with_reducible apply State.busSend_moved); (case sub => decide))
    | (intro _ _)
    | (with_reducible apply Moved.ite)
    | split
    | dsimp only)

theorem State.sendDt_moved (s : State) (a1 : _) (a2 : _) (a3 : _) (a4 : _) (a5 : _) (a6 : _) :
    Moved [.buses] s (State.sendDt s a1 a2 a3 a4 a5 a6) := by
  unfold State.sendDt
  try dsimp only
  repeat' (first
    | (with_reducible apply Moved.refl)
    | (with_reducible assumption)
    | (with_reducible apply Moved.fold)
    | (with_reducible apply Moved.fold_fst)
    | ((with_reducible apply Moved.via); (case k => with_reducible apply State.busSend_moved); (case sub => decide))
    | (intro _ _)
    | (with_reducible apply Moved.ite)
    | split
    | dsimp only)

theorem State.modOutgoing_moved (s : State) (a1 : _) (a2 : _) (a3 : _) :
    Moved [.buses] s (State.modOutgoing s a1 a2 a3) := by
  unfold State.modOutgoing
  try dsimp only
  repeat' (first
    | (with_reducible apply Moved.refl)
    | (with_reducible assumption)
    | (with_reducible apply Moved.fold)
    | (with_reducible apply Moved.fold_fst)
    | ((with_reducible apply Moved.via); (case k => with_reducible apply State.modBus_moved); (case sub => decide))
    | (intro _ _)
    | (with_reducible apply Moved.ite)
    | split
    | dsimp only)

theorem State.serviceSent_moved (s : State) (a1 : _) (a2 : _) :
    Moved [.hub, .diag, .buses] s (State.serviceSent s a1 a2) := by
  unfold State.serviceSent
  try dsimp only
  repeat' (first
    | (with_reducible apply Moved.refl)
    | (with_reducible assumption)
    | (with_reducible apply Moved.fold)
    | (with_reducible apply Moved.fold_fst)
    | ((with_reducible apply Moved.via); (case k => with_reducible apply State.transportDone_moved); (case sub => decide))
    | ((with_reducible apply Moved.via); (case k => with_reducible apply State.busSendId_moved); (case sub => decide))
    | (intro _ _)
    | (with_reducible apply Moved.ite)
    | split
    | dsimp only)

theorem State.sendPackets_moved (s : State) (a1 : _) (a2 : _) (a3 : _) (a4 : _) :
    Moved [.buses] s (State.sendPackets s a1 a2 a3 a4) := by
  unfold State.sendPackets
  try dsimp only
  repeat' (first
    | (with_reducible apply Moved.refl)
    | (with_reducible assumption)
    | (with_reducible apply Moved.fold)
    | (with_reducible apply Moved.fold_fst)
    | ((with_reducible apply Moved.via); (case k => with_reducible apply State.modOutgoing_moved); (case sub => decide))
    | ((with_reducible apply Moved.via); (case k => with_reducible apply State.sendDt_moved); (case sub => decide))
    | (intro _ _)
    | (with_reducible apply Moved.ite)
    | split
    | dsimp only)

theorem State.dropIncoming_moved (s : State) (a1 : _) (a2 : _) :
    Moved [.buses] s (State.dropIncoming s a1 a2) := by
  unfold State.dropIncoming
  try dsimp only
  repeat' (first
    | (with_reducible apply Moved.refl)
    | (with_reducible assumption)
    | (with_reducible apply Moved.fold)
    | (with_reducible apply Moved.fold_fst)
    | ((with_reducible apply Moved.via); (case k => with_reducible apply State.modBus_moved); (case sub => decide))
    | (intro _ _)
    | (with_reducible apply Moved.ite)
    | split
    | dsimp only)

theorem State.modIncoming_moved (s : State) (a1 : _) (a2 : _) (a3 : _) :
    Moved [.buses] s (State.modIncoming s a1 a2 a3) := by
  unfold State.modIncoming
  try dsimp only
  repeat' (first
    | (with_reducible apply Moved.refl)
    | (with_reducible assumption)
    | (with_reducible apply Moved.fold)
    | (with_reducible apply Moved.fold_fst)
    | ((with_reducible apply Moved.via); (case k => with_reducible apply State.modBus_moved); (case sub => decide))
    | (intro _ _)
    | (with_reducible apply Moved.ite)
    | split
    | dsimp only)

theorem State.sendCts_moved (s : State) (a1 : _) (a2 : _) :
    Moved [.buses] s (State.sendCts s a1 a2) := by
  unfold State.sendCts
  try dsimp only
  repeat' (first
    | (with_reducible apply Moved.refl)
    | (with_reducible assumption)
    | (with_reducible apply Moved.fold)
    | (with_reducible apply Moved.fold_fst)
    | ((with_reducible apply Moved.via); (case k => with_reducible apply State.modIncoming_moved); (case sub => decide))
    | ((with_reducible apply Moved.via); (case k => with_reducible apply State.sendCm_moved); (case sub => decide))
    | (intro _ _)
    | (with_reducible apply Moved.ite)
    | split
    | dsimp only)

theorem State.announce_moved (s : State) (a1 : _) (a2 : _) (a3 : _) (a4 : _) (a5 : _) (a6 : _) :
    Moved [.diag, .buses] s (State.announce s a1 a2 a3 a4 a5 a6) := by
  unfold State.announce
  try dsimp only
  repeat' (first
    | (with_reducible apply Moved.refl)
    | (with_reducible assumption)
    | (with_reducible apply Moved.fold)
    | (with_reducible apply Moved.fold_fst)
    | ((with_reducible apply Moved.via); (case k => with_reducible apply State.sendCts_moved); (case sub => decide))
    | ((with_reducible apply Moved.via); (case k => with_reducible apply State.sendCm_moved); (case sub => decide))
    | ((with_reducible apply Moved.via); (case k => with_reducible apply State.count_moved); (case sub => decide))
    | ((with_reducible apply Moved.via); (case k => with_reducible apply State.modBus_moved); (case sub => decide))
    | (intro _ _)
    | (with_reducible apply Moved.ite)
    | split
    | dsimp only)

theorem State.storeMessage_moved (s : State) (a1 : _) (a2 : _) (a3 : _) (a4 : _) :
    Moved [.hub, .diag, .fabric, .buses] s (State.storeMessage s a1 a2 a3 a4) := by
  unfold State.storeMessage
  try dsimp only
  repeat' (first
    | (with_reducible apply Moved.refl)
    | (with_reducible assumption)
    | (with_reducible apply Moved.fold)
    | (with_reducible apply Moved.fold_fst)
    | ((with_reducible apply Moved.via); (case k => with_reducible apply State.store_moved); (case sub => decide))
    | (intro _ _)
    | (with_reducible apply Moved.ite)
    | split
    | dsimp only)

theorem State.takePacket_moved (s : State) (a1 : _) (a2 : _) (a3 : _) (a4 : _) (a5 : _) :
    Moved [.hub, .diag, .fabric, .buses] s (State.takePacket s a1 a2 a3 a4 a5) := by
  unfold State.takePacket
  try dsimp only
  repeat' (first
    | (with_reducible apply Moved.refl)
    | (with_reducible assumption)
    | (with_reducible apply Moved.fold)
    | (with_reducible apply Moved.fold_fst)
    | ((with_reducible apply Moved.via); (case k => with_reducible apply State.storeMessage_moved); (case sub => decide))
    | ((with_reducible apply Moved.via); (case k => with_reducible apply State.sendCts_moved); (case sub => decide))
    | ((with_reducible apply Moved.via); (case k => with_reducible apply State.modIncoming_moved); (case sub => decide))
    | ((with_reducible apply Moved.via); (case k => with_reducible apply State.dropIncoming_moved); (case sub => decide))
    | ((with_reducible apply Moved.via); (case k => with_reducible apply State.sendCm_moved); (case sub => decide))
    | ((with_reducible apply Moved.via); (case k => with_reducible apply State.count_moved); (case sub => decide))
    | (intro _ _)
    | (with_reducible apply Moved.ite)
    | split
    | dsimp only)

theorem State.takeAnswer_moved (s : State) (a1 : _) (a2 : _) (a3 : _) (a4 : _) (a5 : _) :
    Moved [.hub, .diag, .buses] s (State.takeAnswer s a1 a2 a3 a4 a5) := by
  unfold State.takeAnswer
  try dsimp only
  repeat' (first
    | (with_reducible apply Moved.refl)
    | (with_reducible assumption)
    | (with_reducible apply Moved.fold)
    | (with_reducible apply Moved.fold_fst)
    | ((with_reducible apply Moved.via); (case k => with_reducible apply State.sendPackets_moved); (case sub => decide))
    | ((with_reducible apply Moved.via); (case k => with_reducible apply State.modOutgoing_moved); (case sub => decide))
    | ((with_reducible apply Moved.via); (case k => with_reducible apply State.sendCm_moved); (case sub => decide))
    | ((with_reducible apply Moved.via); (case k => with_reducible apply State.transportDone_moved); (case sub => decide))
    | (intro _ _)
    | (with_reducible apply Moved.ite)
    | split
    | dsimp only)

theorem State.transportFrame_moved (s : State) (a1 : _) (a2 : _) :
    Moved [.hub, .diag, .fabric, .buses] s (State.transportFrame s a1 a2) := by
  unfold State.transportFrame
  try dsimp only
  repeat' (first
    | (with_reducible apply Moved.refl)
    | (with_reducible assumption)
    | (with_reducible apply Moved.fold)
    | (with_reducible apply Moved.fold_fst)
    | ((with_reducible apply Moved.via); (case k => with_reducible apply State.takeAnswer_moved); (case sub => decide))
    | ((with_reducible apply Moved.via); (case k => with_reducible apply State.takePacket_moved); (case sub => decide))
    | ((with_reducible apply Moved.via); (case k => with_reducible apply State.announce_moved); (case sub => decide))
    | ((with_reducible apply Moved.via); (case k => with_reducible apply State.modBus_moved); (case sub => decide))
    | (intro _ _)
    | (with_reducible apply Moved.ite)
    | split
    | dsimp only)

theorem State.busReset_moved (s : State) (a1 : _) :
    Moved [.hub, .diag, .buses] s (State.busReset s a1) := by
  unfold State.busReset
  try dsimp only
  repeat' (first
    | (with_reducible apply Moved.refl)
    | (with_reducible assumption)
    | (with_reducible apply Moved.fold)
    | (with_reducible apply Moved.fold_fst)
    | ((with_reducible apply Moved.via); (case k => with_reducible apply State.transportDone_moved); (case sub => decide))
    | ((with_reducible apply Moved.via); (case k => with_reducible apply State.addressEvent_moved); (case sub => decide))
    | ((with_reducible apply Moved.via); (case k => with_reducible apply State.modCf_moved); (case sub => decide))
    | ((with_reducible apply Moved.via); (case k => with_reducible apply State.modBus_moved); (case sub => decide))
    | (intro _ _)
    | (with_reducible apply Moved.ite)
    | split
    | dsimp only)

theorem State.busesStart_moved (s : State) (a1 : _) :
    Moved [.hub, .diag, .buses] s (State.busesStart s a1) := by
  unfold State.busesStart
  try dsimp only
  repeat' (first
    | (with_reducible apply Moved.refl)
    | (with_reducible assumption)
    | (with_reducible apply Moved.fold)
    | (with_reducible apply Moved.fold_fst)
    | ((with_reducible apply Moved.via); (case k => with_reducible apply State.busStart_moved); (case sub => decide))
    | (intro _ _)
    | (with_reducible apply Moved.ite)
    | split
    | dsimp only)

end Sys2Proof.Machine
end

