-- ==== Sys2Proof/Laws/MovedDisplayOps.lean ====
section
/-! SUPPORT. What each operation of Machine/DisplayOps.lean may change: nothing but the parts named. -/

namespace Sys2Proof.Machine

set_option maxRecDepth 4000

theorem State.modDisplay_moved (s : State) (a1 : _) :
    Moved [.display] s (State.modDisplay s a1) := by
  unfold State.modDisplay
  try dsimp only
  repeat' (first
    | (with_reducible apply Moved.refl)
    | (with_reducible assumption)
    | (with_reducible apply Moved.fold)
    | (with_reducible apply Moved.fold_fst)
    | ((with_reducible apply Moved.via); (case k => with_reducible apply set_display); (case sub => decide))
    | (intro _ _)
    | (with_reducible apply Moved.ite)
    | split
    | dsimp only)

theorem State.tellPanel_moved (s : State) (a1 : _) (a2 : _) :
    Moved [.hub, .diag] s (State.tellPanel s a1 a2) := by
  unfold State.tellPanel
  try dsimp only
  repeat' (first
    | (with_reducible apply Moved.refl)
    | (with_reducible assumption)
    | (with_reducible apply Moved.fold)
    | (with_reducible apply Moved.fold_fst)
    | ((with_reducible apply Moved.via); (case k => with_reducible apply State.raise_moved); (case sub => decide))
    | (intro _ _)
    | (with_reducible apply Moved.ite)
    | split
    | dsimp only)

theorem State.writeHeader_moved (s : State) (a1 : _) :
    Moved [.place, .fleet] s (State.writeHeader s a1) := by
  unfold State.writeHeader
  try dsimp only
  repeat' (first
    | (with_reducible apply Moved.refl)
    | (with_reducible assumption)
    | (with_reducible apply Moved.fold)
    | (with_reducible apply Moved.fold_fst)
    | ((with_reducible apply Moved.via); (case k => with_reducible apply State.writePlace_moved); (case sub => decide))
    | (intro _ _)
    | (with_reducible apply Moved.ite)
    | split
    | dsimp only)

theorem State.updateRow_moved (s : State) (a1 : _) (a2 : _) :
    Moved [.freeCount] s (State.updateRow s a1 a2).2 := by
  unfold State.updateRow
  try dsimp only
  repeat' (first
    | (with_reducible apply Moved.refl)
    | (with_reducible assumption)
    | (with_reducible apply Moved.fold)
    | (with_reducible apply Moved.fold_fst)
    | ((with_reducible apply Moved.via); (case k => with_reducible apply State.spend_moved); (case sub => decide))
    | (intro _ _)
    | (with_reducible apply Moved.ite)
    | split
    | dsimp only)

theorem State.storeUpdate_moved (s : State) (a1 : _) :
    Moved [.place, .fleet, .freeCount] s (State.storeUpdate s a1) := by
  unfold State.storeUpdate
  try dsimp only
  repeat' (first
    | (with_reducible apply Moved.refl)
    | (with_reducible assumption)
    | (with_reducible apply Moved.fold)
    | (with_reducible apply Moved.fold_fst)
    | ((with_reducible apply Moved.via); (case k => with_reducible apply State.updateRow_moved); (case sub => decide))
    | ((with_reducible apply Moved.via); (case k => with_reducible apply State.writePlace_moved); (case sub => decide))
    | (intro _ _)
    | (with_reducible apply Moved.ite)
    | split
    | (refine Moved.snd (by assumption) ?_)
    | dsimp only)

theorem State.displayDone_moved (s : State) (a1 : _) (a2 : _) (a3 : _) (a4 : _) (a5 : _) :
    Moved [.hub, .diag] s (State.displayDone s a1 a2 a3 a4 a5) := by
  unfold State.displayDone
  try dsimp only
  repeat' (first
    | (with_reducible apply Moved.refl)
    | (with_reducible assumption)
    | (with_reducible apply Moved.fold)
    | (with_reducible apply Moved.fold_fst)
    | ((with_reducible apply Moved.via); (case k => with_reducible apply State.complete_moved); (case sub => decide))
    | (intro _ _)
    | (with_reducible apply Moved.ite)
    | split
    | dsimp only)

theorem State.checkContent_moved (s : State) :
    Moved [.display] s (State.checkContent s) := by
  unfold State.checkContent
  try dsimp only
  repeat' (first
    | (with_reducible apply Moved.refl)
    | (with_reducible assumption)
    | (with_reducible apply Moved.fold)
    | (with_reducible apply Moved.fold_fst)
    | ((with_reducible apply Moved.via); (case k => with_reducible apply State.modDisplay_moved); (case sub => decide))
    | (intro _ _)
    | (with_reducible apply Moved.ite)
    | split
    | dsimp only)

theorem State.startDischarge_moved (s : State) :
    Moved [.display] s (State.startDischarge s) := by
  unfold State.startDischarge
  try dsimp only
  repeat' (first
    | (with_reducible apply Moved.refl)
    | (with_reducible assumption)
    | (with_reducible apply Moved.fold)
    | (with_reducible apply Moved.fold_fst)
    | ((with_reducible apply Moved.via); (case k => with_reducible apply State.modDisplay_moved); (case sub => decide))
    | (intro _ _)
    | (with_reducible apply Moved.ite)
    | split
    | dsimp only)

theorem State.discharge_moved (s : State) :
    Moved [.diag, .display] s (State.discharge s) := by
  unfold State.discharge
  try dsimp only
  repeat' (first
    | (with_reducible apply Moved.refl)
    | (with_reducible assumption)
    | (with_reducible apply Moved.fold)
    | (with_reducible apply Moved.fold_fst)
    | ((with_reducible apply Moved.via); (case k => with_reducible apply State.modDisplay_moved); (case sub => decide))
    | ((with_reducible apply Moved.via); (case k => with_reducible apply State.count_moved); (case sub => decide))
    | (intro _ _)
    | (with_reducible apply Moved.ite)
    | split
    | dsimp only)

theorem State.failQueued_moved (s : State) :
    Moved [.hub, .diag, .display] s (State.failQueued s) := by
  unfold State.failQueued
  try dsimp only
  repeat' (first
    | (with_reducible apply Moved.refl)
    | (with_reducible assumption)
    | (with_reducible apply Moved.fold)
    | (with_reducible apply Moved.fold_fst)
    | ((with_reducible apply Moved.via); (case k => with_reducible apply State.displayDone_moved); (case sub => decide))
    | ((with_reducible apply Moved.via); (case k => with_reducible apply State.modDisplay_moved); (case sub => decide))
    | (intro _ _)
    | (with_reducible apply Moved.ite)
    | split
    | dsimp only)

theorem State.stopUpdates_moved (s : State) (a1 : _) :
    Moved [.hub, .diag, .ledger, .display] s (State.stopUpdates s a1) := by
  unfold State.stopUpdates
  try dsimp only
  repeat' (first
    | (with_reducible apply Moved.refl)
    | (with_reducible assumption)
    | (with_reducible apply Moved.fold)
    | (with_reducible apply Moved.fold_fst)
    | ((with_reducible apply Moved.via); (case k => with_reducible apply State.failQueued_moved); (case sub => decide))
    | ((with_reducible apply Moved.via); (case k => with_reducible apply State.displayDone_moved); (case sub => decide))
    | ((with_reducible apply Moved.via); (case k => with_reducible apply State.modDisplay_moved); (case sub => decide))
    | ((with_reducible apply Moved.via); (case k => (with_reducible apply modRecord_moved); intro _; exact ⟨rfl, rfl, .inl rfl⟩); (case sub => decide))
    | (intro _ _)
    | (with_reducible apply Moved.ite)
    | split
    | dsimp only)

theorem State.displayOff_moved (s : State) :
    Moved [.hub, .diag, .ledger, .display] s (State.displayOff s) := by
  unfold State.displayOff
  try dsimp only
  repeat' (first
    | (with_reducible apply Moved.refl)
    | (with_reducible assumption)
    | (with_reducible apply Moved.fold)
    | (with_reducible apply Moved.fold_fst)
    | ((with_reducible apply Moved.via); (case k => with_reducible apply State.stopUpdates_moved); (case sub => decide))
    | ((with_reducible apply Moved.via); (case k => with_reducible apply State.discharge_moved); (case sub => decide))
    | ((with_reducible apply Moved.via); (case k => with_reducible apply State.tellPanel_moved); (case sub => decide))
    | ((with_reducible apply Moved.via); (case k => with_reducible apply State.modDisplay_moved); (case sub => decide))
    | (intro _ _)
    | (with_reducible apply Moved.ite)
    | split
    | dsimp only)

theorem State.finishUpdate_moved (s : State) (a1 : _) :
    Moved [.hub, .diag, .ledger, .display] s (State.finishUpdate s a1) := by
  unfold State.finishUpdate
  try dsimp only
  repeat' (first
    | (with_reducible apply Moved.refl)
    | (with_reducible assumption)
    | (with_reducible apply Moved.fold)
    | (with_reducible apply Moved.fold_fst)
    | ((with_reducible apply Moved.via); (case k => with_reducible apply State.setRecord_moved); (case sub => decide))
    | ((with_reducible apply Moved.via); (case k => with_reducible apply State.displayDone_moved); (case sub => decide))
    | ((with_reducible apply Moved.via); (case k => with_reducible apply State.modDisplay_moved); (case sub => decide))
    | ((with_reducible apply Moved.via); (case k => with_reducible apply State.count_moved); (case sub => decide))
    | (intro _ _)
    | (with_reducible apply Moved.ite)
    | split
    | dsimp only)

theorem State.restored_moved (s : State) (a1 : _) (a2 : _) (a3 : _) :
    Moved [.hub, .diag, .ledger, .display] s (State.restored s a1 a2 a3) := by
  unfold State.restored
  try dsimp only
  repeat' (first
    | (with_reducible apply Moved.refl)
    | (with_reducible assumption)
    | (with_reducible apply Moved.fold)
    | (with_reducible apply Moved.fold_fst)
    | ((with_reducible apply Moved.via); (case k => with_reducible apply State.setRecord_moved); (case sub => decide))
    | ((with_reducible apply Moved.via); (case k => with_reducible apply State.modDisplay_moved); (case sub => decide))
    | ((with_reducible apply Moved.via); (case k => with_reducible apply State.raise_moved); (case sub => decide))
    | ((with_reducible apply Moved.via); (case k => with_reducible apply State.count_moved); (case sub => decide))
    | (intro _ _)
    | (with_reducible apply Moved.ite)
    | split
    | dsimp only)

theorem State.endReadyWork_moved (s : State) :
    Moved [.hub, .diag, .display] s (State.endReadyWork s) := by
  unfold State.endReadyWork
  try dsimp only
  repeat' (first
    | (with_reducible apply Moved.refl)
    | (with_reducible assumption)
    | (with_reducible apply Moved.fold)
    | (with_reducible apply Moved.fold_fst)
    | ((with_reducible apply Moved.via); (case k => with_reducible apply State.startDischarge_moved); (case sub => decide))
    | ((with_reducible apply Moved.via); (case k => with_reducible apply State.tellPanel_moved); (case sub => decide))
    | (intro _ _)
    | (with_reducible apply Moved.ite)
    | split
    | dsimp only)

theorem State.frameEnd_moved (s : State) :
    Moved [.hub, .diag, .ledger, .display] s (State.frameEnd s) := by
  unfold State.frameEnd
  try dsimp only
  repeat' (first
    | (with_reducible apply Moved.refl)
    | (with_reducible assumption)
    | (with_reducible apply Moved.fold)
    | (with_reducible apply Moved.fold_fst)
    | ((with_reducible apply Moved.via); (case k => with_reducible apply State.endReadyWork_moved); (case sub => decide))
    | ((with_reducible apply Moved.via); (case k => with_reducible apply State.restored_moved); (case sub => decide))
    | ((with_reducible apply Moved.via); (case k => with_reducible apply State.finishUpdate_moved); (case sub => decide))
    | ((with_reducible apply Moved.via); (case k => with_reducible apply State.checkContent_moved); (case sub => decide))
    | ((with_reducible apply Moved.via); (case k => with_reducible apply State.modDisplay_moved); (case sub => decide))
    | ((with_reducible apply Moved.via); (case k => with_reducible apply State.count_moved); (case sub => decide))
    | (intro _ _)
    | (with_reducible apply Moved.ite)
    | split
    | dsimp only)

theorem State.displayPowerFail_moved (s : State) :
    Moved [.hub, .diag, .ledger, .display] s (State.displayPowerFail s) := by
  unfold State.displayPowerFail
  try dsimp only
  repeat' (first
    | (with_reducible apply Moved.refl)
    | (with_reducible assumption)
    | (with_reducible apply Moved.fold)
    | (with_reducible apply Moved.fold_fst)
    | ((with_reducible apply Moved.via); (case k => with_reducible apply State.frameEnd_moved); (case sub => decide))
    | ((with_reducible apply Moved.via); (case k => with_reducible apply State.discharge_moved); (case sub => decide))
    | ((with_reducible apply Moved.via); (case k => with_reducible apply State.tellPanel_moved); (case sub => decide))
    | ((with_reducible apply Moved.via); (case k => with_reducible apply State.modDisplay_moved); (case sub => decide))
    | ((with_reducible apply Moved.via); (case k => (with_reducible apply modRecord_moved); intro _; exact ⟨rfl, rfl, .inl rfl⟩); (case sub => decide))
    | (intro _ _)
    | (with_reducible apply Moved.ite)
    | split
    | dsimp only)

theorem State.samplePanel_moved (s : State) :
    Moved [.hub, .diag, .ledger, .display] s (State.samplePanel s) := by
  unfold State.samplePanel
  try dsimp only
  repeat' (first
    | (with_reducible apply Moved.refl)
    | (with_reducible assumption)
    | (with_reducible apply Moved.fold)
    | (with_reducible apply Moved.fold_fst)
    | ((with_reducible apply Moved.via); (case k => with_reducible apply State.stopUpdates_moved); (case sub => decide))
    | ((with_reducible apply Moved.via); (case k => with_reducible apply State.discharge_moved); (case sub => decide))
    | ((with_reducible apply Moved.via); (case k => with_reducible apply State.checkContent_moved); (case sub => decide))
    | ((with_reducible apply Moved.via); (case k => with_reducible apply State.tellPanel_moved); (case sub => decide))
    | ((with_reducible apply Moved.via); (case k => with_reducible apply State.modDisplay_moved); (case sub => decide))
    | (intro _ _)
    | (with_reducible apply Moved.ite)
    | split
    | dsimp only)

theorem State.panelAtRelease_moved (s : State) :
    Moved [.hub, .diag, .ledger, .display] s (State.panelAtRelease s) := by
  unfold State.panelAtRelease
  try dsimp only
  repeat' (first
    | (with_reducible apply Moved.refl)
    | (with_reducible assumption)
    | (with_reducible apply Moved.fold)
    | (with_reducible apply Moved.fold_fst)
    | ((with_reducible apply Moved.via); (case k => with_reducible apply State.samplePanel_moved); (case sub => decide))
    | ((with_reducible apply Moved.via); (case k => with_reducible apply State.checkContent_moved); (case sub => decide))
    | ((with_reducible apply Moved.via); (case k => with_reducible apply State.modDisplay_moved); (case sub => decide))
    | (intro _ _)
    | (with_reducible apply Moved.ite)
    | split
    | dsimp only)

theorem State.drawStrip_moved (s : State) :
    Moved [.display] s (State.drawStrip s) := by
  unfold State.drawStrip
  try dsimp only
  repeat' (first
    | (with_reducible apply Moved.refl)
    | (with_reducible assumption)
    | (with_reducible apply Moved.fold)
    | (with_reducible apply Moved.fold_fst)
    | ((with_reducible apply Moved.via); (case k => with_reducible apply State.modDisplay_moved); (case sub => decide))
    | (intro _ _)
    | (with_reducible apply Moved.ite)
    | split
    | dsimp only)

end Sys2Proof.Machine
end

