-- ==== Sys2Proof/Laws/MovedEdgeOps.lean ====
section
/-! SUPPORT. What each operation of Machine/EdgeOps.lean may change: nothing but the parts named. -/

namespace Sys2Proof.Machine

set_option maxRecDepth 4000

theorem State.modEdges_moved (s : State) (a1 : _) (a2 : _) :
    Moved [.sections] s (State.modEdges s a1 a2) := by
  unfold State.modEdges
  try dsimp only
  repeat' (first
    | (with_reducible apply Moved.refl)
    | (with_reducible assumption)
    | (with_reducible apply Moved.fold)
    | (with_reducible apply Moved.fold_fst)
    | ((with_reducible apply Moved.via); (case k => with_reducible apply State.modSections_moved); (case sub => decide))
    | (intro _ _)
    | (with_reducible apply Moved.ite)
    | split
    | dsimp only)

theorem State.modEdge_moved (s : State) (a1 : _) (a2 : _) :
    Moved [.sections] s (State.modEdge s a1 a2) := by
  unfold State.modEdge
  try dsimp only
  repeat' (first
    | (with_reducible apply Moved.refl)
    | (with_reducible assumption)
    | (with_reducible apply Moved.fold)
    | (with_reducible apply Moved.fold_fst)
    | ((with_reducible apply Moved.via); (case k => with_reducible apply State.modEdges_moved); (case sub => decide))
    | (intro _ _)
    | (with_reducible apply Moved.ite)
    | split
    | dsimp only)

theorem State.endScheduleEntry_moved (s : State) (a1 : _) (a2 : _) (a3 : _) (a4 : _) :
    Moved [.hub, .diag, .sections] s (State.endScheduleEntry s a1 a2 a3 a4) := by
  unfold State.endScheduleEntry
  try dsimp only
  repeat' (first
    | (with_reducible apply Moved.refl)
    | (with_reducible assumption)
    | (with_reducible apply Moved.fold)
    | (with_reducible apply Moved.fold_fst)
    | ((with_reducible apply Moved.via); (case k => with_reducible apply State.modSections_moved); (case sub => decide))
    | ((with_reducible apply Moved.via); (case k => with_reducible apply State.complete_moved); (case sub => decide))
    | (intro _ _)
    | (with_reducible apply Moved.ite)
    | split
    | dsimp only)

theorem State.tellSectionEdge_moved (s : State) (a1 : _) (a2 : _) (a3 : _) :
    Moved [.hub, .diag] s (State.tellSectionEdge s a1 a2 a3) := by
  unfold State.tellSectionEdge
  try dsimp only
  repeat' (first
    | (with_reducible apply Moved.refl)
    | (with_reducible assumption)
    | (with_reducible apply Moved.fold)
    | (with_reducible apply Moved.fold_fst)
    | ((with_reducible apply Moved.via); (case k => with_reducible apply State.raise_moved); (case sub => decide))
    | (intro _ _)
    | (with_reducible apply Moved.ite)
    | split
    | dsimp only)

theorem State.endEdge_moved (s : State) (a1 : _) (a2 : _) (a3 : _) (a4 : _) (a5 : _) :
    Moved [.hub, .diag, .ledger, .sections] s (State.endEdge s a1 a2 a3 a4 a5) := by
  unfold State.endEdge
  try dsimp only
  repeat' (first
    | (with_reducible apply Moved.refl)
    | (with_reducible assumption)
    | (with_reducible apply Moved.fold)
    | (with_reducible apply Moved.fold_fst)
    | ((with_reducible apply Moved.via); (case k => with_reducible apply State.expireOther_moved); (case sub => decide))
    | ((with_reducible apply Moved.via); (case k => with_reducible apply State.tellSectionEdge_moved); (case sub => decide))
    | ((with_reducible apply Moved.via); (case k => with_reducible apply State.endScheduleEntry_moved); (case sub => decide))
    | ((with_reducible apply Moved.via); (case k => with_reducible apply State.setRecord_moved); (case sub => decide))
    | ((with_reducible apply Moved.via); (case k => with_reducible apply State.modSections_moved); (case sub => decide))
    | ((with_reducible apply Moved.via); (case k => with_reducible apply State.count_moved); (case sub => decide))
    | (intro _ _)
    | (with_reducible apply Moved.ite)
    | split
    | dsimp only)

theorem State.removeEdges_moved (s : State) (a1 : _) (a2 : _) :
    Moved [.hub, .diag, .ledger, .sections] s (State.removeEdges s a1 a2) := by
  unfold State.removeEdges
  try dsimp only
  repeat' (first
    | (with_reducible apply Moved.refl)
    | (with_reducible assumption)
    | (with_reducible apply Moved.fold)
    | (with_reducible apply Moved.fold_fst)
    | ((with_reducible apply Moved.via); (case k => with_reducible apply State.endEdge_moved); (case sub => decide))
    | (intro _ _)
    | (with_reducible apply Moved.ite)
    | split
    | dsimp only)

theorem State.queueEdge_moved (s : State) (a1 : _) :
    Moved [.hub, .diag, .ledger, .sections] s (State.queueEdge s a1) := by
  unfold State.queueEdge
  try dsimp only
  repeat' (first
    | (with_reducible apply Moved.refl)
    | (with_reducible assumption)
    | (with_reducible apply Moved.fold)
    | (with_reducible apply Moved.fold_fst)
    | ((with_reducible apply Moved.via); (case k => with_reducible apply State.newRecord_moved); (case sub => decide))
    | ((with_reducible apply Moved.via); (case k => with_reducible apply State.removeEdges_moved); (case sub => decide))
    | ((with_reducible apply Moved.via); (case k => with_reducible apply State.modSections_moved); (case sub => decide))
    | (intro _ _)
    | (with_reducible apply Moved.ite)
    | split
    | dsimp only)

theorem State.queueEngine_moved (s : State) (a1 : _) (a2 : _) (a3 : _) (a4 : _) (a5 : _) :
    Moved [.hub, .diag, .ledger, .sections] s (State.queueEngine s a1 a2 a3 a4 a5) := by
  unfold State.queueEngine
  try dsimp only
  repeat' (first
    | (with_reducible apply Moved.refl)
    | (with_reducible assumption)
    | (with_reducible apply Moved.fold)
    | (with_reducible apply Moved.fold_fst)
    | ((with_reducible apply Moved.via); (case k => with_reducible apply State.queueEdge_moved); (case sub => decide))
    | ((with_reducible apply Moved.via); (case k => with_reducible apply State.count_moved); (case sub => decide))
    | (intro _ _)
    | (with_reducible apply Moved.ite)
    | split
    | dsimp only)

theorem State.queueOffs_moved (s : State) (a1 : _) :
    Moved [.hub, .diag, .ledger, .sections] s (State.queueOffs s a1) := by
  unfold State.queueOffs
  try dsimp only
  repeat' (first
    | (with_reducible apply Moved.refl)
    | (with_reducible assumption)
    | (with_reducible apply Moved.fold)
    | (with_reducible apply Moved.fold_fst)
    | ((with_reducible apply Moved.via); (case k => with_reducible apply State.queueEngine_moved); (case sub => decide))
    | (intro _ _)
    | (with_reducible apply Moved.ite)
    | split
    | dsimp only)

theorem State.setEngine_moved (s : State) (a1 : _) (a2 : _) :
    Moved [.hub, .diag, .sections] s (State.setEngine s a1 a2) := by
  unfold State.setEngine
  try dsimp only
  repeat' (first
    | (with_reducible apply Moved.refl)
    | (with_reducible assumption)
    | (with_reducible apply Moved.fold)
    | (with_reducible apply Moved.fold_fst)
    | ((with_reducible apply Moved.via); (case k => with_reducible apply State.modSections_moved); (case sub => decide))
    | ((with_reducible apply Moved.via); (case k => with_reducible apply State.raise_moved); (case sub => decide))
    | (intro _ _)
    | (with_reducible apply Moved.ite)
    | split
    | dsimp only)

theorem State.stopEngine_moved (s : State) (a1 : _) (a2 : _) (a3 : _) :
    Moved [.hub, .diag, .ledger, .sections] s (State.stopEngine s a1 a2 a3) := by
  unfold State.stopEngine
  try dsimp only
  repeat' (first
    | (with_reducible apply Moved.refl)
    | (with_reducible assumption)
    | (with_reducible apply Moved.fold)
    | (with_reducible apply Moved.fold_fst)
    | ((with_reducible apply Moved.via); (case k => with_reducible apply State.setEngine_moved); (case sub => decide))
    | ((with_reducible apply Moved.via); (case k => with_reducible apply State.queueOffs_moved); (case sub => decide))
    | ((with_reducible apply Moved.via); (case k => with_reducible apply State.removeEdges_moved); (case sub => decide))
    | (intro _ _)
    | (with_reducible apply Moved.ite)
    | split
    | dsimp only)

theorem State.endBegun_moved (s : State) (a1 : _) (a2 : _) :
    Moved [.hub, .diag, .ledger, .sections] s (State.endBegun s a1 a2) := by
  unfold State.endBegun
  try dsimp only
  repeat' (first
    | (with_reducible apply Moved.refl)
    | (with_reducible assumption)
    | (with_reducible apply Moved.fold)
    | (with_reducible apply Moved.fold_fst)
    | ((with_reducible apply Moved.via); (case k => with_reducible apply State.endEdge_moved); (case sub => decide))
    | (intro _ _)
    | (with_reducible apply Moved.ite)
    | split
    | dsimp only)

theorem State.safeEdges_moved (s : State) (a1 : _) :
    Moved [.hub, .diag, .ledger, .sections] s (State.safeEdges s a1) := by
  unfold State.safeEdges
  try dsimp only
  repeat' (first
    | (with_reducible apply Moved.refl)
    | (with_reducible assumption)
    | (with_reducible apply Moved.fold)
    | (with_reducible apply Moved.fold_fst)
    | ((with_reducible apply Moved.via); (case k => with_reducible apply State.endBegun_moved); (case sub => decide))
    | ((with_reducible apply Moved.via); (case k => with_reducible apply State.stopEngine_moved); (case sub => decide))
    | ((with_reducible apply Moved.via); (case k => with_reducible apply State.removeEdges_moved); (case sub => decide))
    | ((with_reducible apply Moved.via); (case k => with_reducible apply State.modSections_moved); (case sub => decide))
    | (intro _ _)
    | (with_reducible apply Moved.ite)
    | split
    | dsimp only)

end Sys2Proof.Machine
end

