-- ==== Sys2Proof/Laws/MovedLoopOps.lean ====
section
/-! SUPPORT. What each operation of Machine/LoopOps.lean may change: nothing but the parts named. -/

namespace Sys2Proof.Machine

set_option maxRecDepth 4000

theorem State.setValue_moved (s : State) (a1 : _) (a2 : _) :
    Moved [.stage] s (State.setValue s a1 a2) := by
  unfold State.setValue
  try dsimp only
  repeat' (first
    | (with_reducible apply Moved.refl)
    | (with_reducible assumption)
    | (with_reducible apply Moved.fold)
    | (with_reducible apply Moved.fold_fst)
    | ((with_reducible apply Moved.via); (case k => with_reducible apply State.modSw_moved); (case sub => decide))
    | (intro _ _)
    | (with_reducible apply Moved.ite)
    | split
    | dsimp only)

theorem State.drive_moved (s : State) (a1 : _) (a2 : _) :
    Moved [.control, .stage] s (State.drive s a1 a2) := by
  unfold State.drive
  try dsimp only
  repeat' (first
    | (with_reducible apply Moved.refl)
    | (with_reducible assumption)
    | (with_reducible apply Moved.fold)
    | (with_reducible apply Moved.fold_fst)
    | ((with_reducible apply Moved.via); (case k => with_reducible apply State.setValue_moved); (case sub => decide))
    | ((with_reducible apply Moved.via); (case k => with_reducible apply State.modLoop_moved); (case sub => decide))
    | (intro _ _)
    | (with_reducible apply Moved.ite)
    | split
    | dsimp only)

theorem State.putOut_moved (s : State) (a1 : _) (a2 : _) (a3 : _) :
    Moved [.control, .stage] s (State.putOut s a1 a2 a3) := by
  unfold State.putOut
  try dsimp only
  repeat' (first
    | (with_reducible apply Moved.refl)
    | (with_reducible assumption)
    | (with_reducible apply Moved.fold)
    | (with_reducible apply Moved.fold_fst)
    | ((with_reducible apply Moved.via); (case k => with_reducible apply State.drive_moved); (case sub => decide))
    | ((with_reducible apply Moved.via); (case k => with_reducible apply State.modLoop_moved); (case sub => decide))
    | (intro _ _)
    | (with_reducible apply Moved.ite)
    | split
    | dsimp only)

theorem State.tellLoop_moved (s : State) (a1 : _) (a2 : _) (a3 : _) (a4 : _) (a5 : _) (a6 : _) (a7 : _) (a8 : _) :
    Moved [.hub, .diag] s (State.tellLoop s a1 a2 a3 a4 a5 a6 a7 a8) := by
  unfold State.tellLoop
  try dsimp only
  repeat' (first
    | (with_reducible apply Moved.refl)
    | (with_reducible assumption)
    | (with_reducible apply Moved.fold)
    | (with_reducible apply Moved.fold_fst)
    | ((with_reducible apply Moved.via); (case k => with_reducible apply State.complete_moved); (case sub => decide))
    | ((with_reducible apply Moved.via); (case k => with_reducible apply State.raise_moved); (case sub => decide))
    | (intro _ _)
    | (with_reducible apply Moved.ite)
    | split
    | dsimp only)

theorem State.abortTune_moved (s : State) (a1 : _) (a2 : _) (a3 : _) :
    Moved [.hub, .diag, .control, .stage] s (State.abortTune s a1 a2 a3) := by
  unfold State.abortTune
  try dsimp only
  repeat' (first
    | (with_reducible apply Moved.refl)
    | (with_reducible assumption)
    | (with_reducible apply Moved.fold)
    | (with_reducible apply Moved.fold_fst)
    | ((with_reducible apply Moved.via); (case k => with_reducible apply State.tellLoop_moved); (case sub => decide))
    | ((with_reducible apply Moved.via); (case k => with_reducible apply State.putOut_moved); (case sub => decide))
    | ((with_reducible apply Moved.via); (case k => with_reducible apply State.modLoop_moved); (case sub => decide))
    | ((with_reducible apply Moved.via); (case k => with_reducible apply State.complete_moved); (case sub => decide))
    | (intro _ _)
    | (with_reducible apply Moved.ite)
    | split
    | dsimp only)

theorem State.dropClosing_moved (s : State) (a1 : _) (a2 : _) :
    Moved [.hub, .diag, .control] s (State.dropClosing s a1 a2) := by
  unfold State.dropClosing
  try dsimp only
  repeat' (first
    | (with_reducible apply Moved.refl)
    | (with_reducible assumption)
    | (with_reducible apply Moved.fold)
    | (with_reducible apply Moved.fold_fst)
    | ((with_reducible apply Moved.via); (case k => with_reducible apply State.tellLoop_moved); (case sub => decide))
    | ((with_reducible apply Moved.via); (case k => with_reducible apply State.modLoop_moved); (case sub => decide))
    | (intro _ _)
    | (with_reducible apply Moved.ite)
    | split
    | dsimp only)

theorem State.openLoop_moved (s : State) (a1 : _) (a2 : _) (a3 : _) (a4 : _) :
    Moved [.hub, .diag, .control, .stage] s (State.openLoop s a1 a2 a3 a4) := by
  unfold State.openLoop
  try dsimp only
  repeat' (first
    | (with_reducible apply Moved.refl)
    | (with_reducible assumption)
    | (with_reducible apply Moved.fold)
    | (with_reducible apply Moved.fold_fst)
    | ((with_reducible apply Moved.via); (case k => with_reducible apply State.dropClosing_moved); (case sub => decide))
    | ((with_reducible apply Moved.via); (case k => with_reducible apply State.abortTune_moved); (case sub => decide))
    | ((with_reducible apply Moved.via); (case k => with_reducible apply State.tellLoop_moved); (case sub => decide))
    | ((with_reducible apply Moved.via); (case k => with_reducible apply State.putOut_moved); (case sub => decide))
    | ((with_reducible apply Moved.via); (case k => with_reducible apply State.modLoop_moved); (case sub => decide))
    | (intro _ _)
    | (with_reducible apply Moved.ite)
    | split
    | dsimp only)

theorem State.loopsSafe_moved (s : State) (a1 : _) :
    Moved [.hub, .diag, .control, .stage] s (State.loopsSafe s a1) := by
  unfold State.loopsSafe
  try dsimp only
  repeat' (first
    | (with_reducible apply Moved.refl)
    | (with_reducible assumption)
    | (with_reducible apply Moved.fold)
    | (with_reducible apply Moved.fold_fst)
    | ((with_reducible apply Moved.via); (case k => with_reducible apply State.openLoop_moved); (case sub => decide))
    | (intro _ _)
    | (with_reducible apply Moved.ite)
    | split
    | dsimp only)

end Sys2Proof.Machine
end

