-- ==== Sys2Proof/Laws/MovedSwitchOps.lean ====
section
/-! SUPPORT. What each operation of Machine/SwitchOps.lean may change: nothing but the parts named. -/

namespace Sys2Proof.Machine

set_option maxRecDepth 4000

theorem State.endEntries_moved (s : State) (a1 : _) (a2 : _) :
    Moved [.stage] s (State.endEntries s a1 a2) := by
  unfold State.endEntries
  try dsimp only
  repeat' (first
    | (with_reducible apply Moved.refl)
    | (with_reducible assumption)
    | (with_reducible apply Moved.fold)
    | (with_reducible apply Moved.fold_fst)
    | ((with_reducible apply Moved.via); (case k => with_reducible apply State.modStage_moved); (case sub => decide))
    | (intro _ _)
    | (with_reducible apply Moved.ite)
    | split
    | dsimp only)

theorem State.endWaiting_moved (s : State) (a1 : _) (a2 : _) :
    Moved [.hub, .diag, .ledger, .stage, .sections] s (State.endWaiting s a1 a2) := by
  unfold State.endWaiting
  try dsimp only
  repeat' (first
    | (with_reducible apply Moved.refl)
    | (with_reducible assumption)
    | (with_reducible apply Moved.fold)
    | (with_reducible apply Moved.fold_fst)
    | ((with_reducible apply Moved.via); (case k => with_reducible apply State.endEntries_moved); (case sub => decide))
    | ((with_reducible apply Moved.via); (case k => with_reducible apply State.endBegun_moved); (case sub => decide))
    | (intro _ _)
    | (with_reducible apply Moved.ite)
    | split
    | dsimp only)

theorem State.tellChannel_moved (s : State) (a1 : _) (a2 : _) (a3 : _) (a4 : _) :
    Moved [.hub, .diag] s (State.tellChannel s a1 a2 a3 a4) := by
  unfold State.tellChannel
  try dsimp only
  repeat' (first
    | (with_reducible apply Moved.refl)
    | (with_reducible assumption)
    | (with_reducible apply Moved.fold)
    | (with_reducible apply Moved.fold_fst)
    | ((with_reducible apply Moved.via); (case k => with_reducible apply State.raise_moved); (case sub => decide))
    | (intro _ _)
    | (with_reducible apply Moved.ite)
    | split
    | dsimp only)

theorem State.setDiag_moved (s : State) (a1 : _) (a2 : _) (a3 : _) :
    Moved [.hub, .diag, .stage] s (State.setDiag s a1 a2 a3) := by
  unfold State.setDiag
  try dsimp only
  repeat' (first
    | (with_reducible apply Moved.refl)
    | (with_reducible assumption)
    | (with_reducible apply Moved.fold)
    | (with_reducible apply Moved.fold_fst)
    | ((with_reducible apply Moved.via); (case k => with_reducible apply State.tellChannel_moved); (case sub => decide))
    | ((with_reducible apply Moved.via); (case k => with_reducible apply State.modSw_moved); (case sub => decide))
    | (intro _ _)
    | (with_reducible apply Moved.ite)
    | split
    | dsimp only)

theorem State.turnOff_moved (s : State) (a1 : _) :
    Moved [.hub, .diag, .stage] s (State.turnOff s a1) := by
  unfold State.turnOff
  try dsimp only
  repeat' (first
    | (with_reducible apply Moved.refl)
    | (with_reducible assumption)
    | (with_reducible apply Moved.fold)
    | (with_reducible apply Moved.fold_fst)
    | ((with_reducible apply Moved.via); (case k => with_reducible apply State.setDiag_moved); (case sub => decide))
    | ((with_reducible apply Moved.via); (case k => with_reducible apply State.modSw_moved); (case sub => decide))
    | (intro _ _)
    | (with_reducible apply Moved.ite)
    | split
    | dsimp only)

theorem State.commandOff_moved (s : State) (a1 : _) :
    Moved [.hub, .diag, .ledger, .stage, .sections] s (State.commandOff s a1) := by
  unfold State.commandOff
  try dsimp only
  repeat' (first
    | (with_reducible apply Moved.refl)
    | (with_reducible assumption)
    | (with_reducible apply Moved.fold)
    | (with_reducible apply Moved.fold_fst)
    | ((with_reducible apply Moved.via); (case k => with_reducible apply State.turnOff_moved); (case sub => decide))
    | ((with_reducible apply Moved.via); (case k => with_reducible apply State.endWaiting_moved); (case sub => decide))
    | ((with_reducible apply Moved.via); (case k => with_reducible apply State.modSw_moved); (case sub => decide))
    | ((with_reducible apply Moved.via); (case k => with_reducible apply State.count_moved); (case sub => decide))
    | (intro _ _)
    | (with_reducible apply Moved.ite)
    | split
    | dsimp only)

theorem State.noteDeferred_moved (s : State) (a1 : _) :
    Moved [.stage, .sections] s (State.noteDeferred s a1) := by
  unfold State.noteDeferred
  try dsimp only
  repeat' (first
    | (with_reducible apply Moved.refl)
    | (with_reducible assumption)
    | (with_reducible apply Moved.fold)
    | (with_reducible apply Moved.fold_fst)
    | ((with_reducible apply Moved.via); (case k => with_reducible apply State.modEdges_moved); (case sub => decide))
    | ((with_reducible apply Moved.via); (case k => with_reducible apply State.modStage_moved); (case sub => decide))
    | (intro _ _)
    | (with_reducible apply Moved.ite)
    | split
    | dsimp only)

theorem State.startTurnOn_moved (s : State) (a1 : _) (a2 : _) :
    Moved [.diag, .stage] s (State.startTurnOn s a1 a2) := by
  unfold State.startTurnOn
  try dsimp only
  repeat' (first
    | (with_reducible apply Moved.refl)
    | (with_reducible assumption)
    | (with_reducible apply Moved.fold)
    | (with_reducible apply Moved.fold_fst)
    | ((with_reducible apply Moved.via); (case k => with_reducible apply State.modSw_moved); (case sub => decide))
    | ((with_reducible apply Moved.via); (case k => with_reducible apply State.count_moved); (case sub => decide))
    | (intro _ _)
    | (with_reducible apply Moved.ite)
    | split
    | dsimp only)

theorem State.beginTurnOn_moved (s : State) (a1 : _) (a2 : _) :
    Moved [.hub, .diag, .stage] s (State.beginTurnOn s a1 a2) := by
  unfold State.beginTurnOn
  try dsimp only
  repeat' (first
    | (with_reducible apply Moved.refl)
    | (with_reducible assumption)
    | (with_reducible apply Moved.fold)
    | (with_reducible apply Moved.fold_fst)
    | ((with_reducible apply Moved.via); (case k => with_reducible apply State.startTurnOn_moved); (case sub => decide))
    | ((with_reducible apply Moved.via); (case k => with_reducible apply State.tellChannel_moved); (case sub => decide))
    | ((with_reducible apply Moved.via); (case k => with_reducible apply State.count_moved); (case sub => decide))
    | (intro _ _)
    | (with_reducible apply Moved.ite)
    | split
    | dsimp only)

theorem State.turnOn_moved (s : State) (a1 : _) (a2 : _) :
    Moved [.hub, .power, .diag, .ledger, .stage, .sections] s (State.turnOn s a1 a2) := by
  unfold State.turnOn
  try dsimp only
  repeat' (first
    | (with_reducible apply Moved.refl)
    | (with_reducible assumption)
    | (with_reducible apply Moved.fold)
    | (with_reducible apply Moved.fold_fst)
    | ((with_reducible apply Moved.via); (case k => (with_reducible apply modPower_moved (qs := [.power])); intro m p hp; cases p <;> first | exact absurd hp (by decide) | exact trivial | rfl | (split <;> rfl) | (unfold ModeState.supLost; split <;> rfl)); (case sub => decide))
    | ((with_reducible apply Moved.via); (case k => with_reducible apply State.beginTurnOn_moved); (case sub => decide))
    | ((with_reducible apply Moved.via); (case k => with_reducible apply State.noteDeferred_moved); (case sub => decide))
    | ((with_reducible apply Moved.via); (case k => with_reducible apply State.endWaiting_moved); (case sub => decide))
    | ((with_reducible apply Moved.via); (case k => with_reducible apply State.modSw_moved); (case sub => decide))
    | (intro _ _)
    | (with_reducible apply Moved.ite)
    | split
    | dsimp only)

theorem State.commandOn_moved (s : State) (a1 : _) :
    Moved [.hub, .power, .diag, .ledger, .stage, .sections] s (State.commandOn s a1) := by
  unfold State.commandOn
  try dsimp only
  repeat' (first
    | (with_reducible apply Moved.refl)
    | (with_reducible assumption)
    | (with_reducible apply Moved.fold)
    | (with_reducible apply Moved.fold_fst)
    | ((with_reducible apply Moved.via); (case k => with_reducible apply State.turnOn_moved); (case sub => decide))
    | ((with_reducible apply Moved.via); (case k => with_reducible apply State.noteDeferred_moved); (case sub => decide))
    | ((with_reducible apply Moved.via); (case k => with_reducible apply State.endWaiting_moved); (case sub => decide))
    | ((with_reducible apply Moved.via); (case k => with_reducible apply State.modSw_moved); (case sub => decide))
    | (intro _ _)
    | (with_reducible apply Moved.ite)
    | split
    | dsimp only)

theorem State.finishRequests_moved (s : State) :
    Moved [.hub, .diag, .stage] s (State.finishRequests s) := by
  unfold State.finishRequests
  try dsimp only
  repeat' (first
    | (with_reducible apply Moved.refl)
    | (with_reducible assumption)
    | (with_reducible apply Moved.fold)
    | (with_reducible apply Moved.fold_fst)
    | ((with_reducible apply Moved.via); (case k => with_reducible apply State.modStage_moved); (case sub => decide))
    | ((with_reducible apply Moved.via); (case k => with_reducible apply State.complete_moved); (case sub => decide))
    | (intro _ _)
    | (with_reducible apply Moved.ite)
    | split
    | dsimp only)

theorem State.applySafe_moved (s : State) (a1 : _) (a2 : _) :
    Moved [.hub, .power, .diag, .ledger, .control, .stage, .sections] s (State.applySafe s a1 a2) := by
  unfold State.applySafe
  try dsimp only
  repeat' (first
    | (with_reducible apply Moved.refl)
    | (with_reducible assumption)
    | (with_reducible apply Moved.fold)
    | (with_reducible apply Moved.fold_fst)
    | ((with_reducible apply Moved.via); (case k => with_reducible apply State.loopsSafe_moved); (case sub => decide))
    | ((with_reducible apply Moved.via); (case k => with_reducible apply State.setValue_moved); (case sub => decide))
    | ((with_reducible apply Moved.via); (case k => with_reducible apply State.finishRequests_moved); (case sub => decide))
    | ((with_reducible apply Moved.via); (case k => with_reducible apply State.commandOn_moved); (case sub => decide))
    | ((with_reducible apply Moved.via); (case k => with_reducible apply State.commandOff_moved); (case sub => decide))
    | ((with_reducible apply Moved.via); (case k => with_reducible apply State.endEntries_moved); (case sub => decide))
    | ((with_reducible apply Moved.via); (case k => with_reducible apply State.safeEdges_moved); (case sub => decide))
    | ((with_reducible apply Moved.via); (case k => with_reducible apply State.modSw_moved); (case sub => decide))
    | ((with_reducible apply Moved.via); (case k => with_reducible apply State.modStage_moved); (case sub => decide))
    | (intro _ _)
    | (with_reducible apply Moved.ite)
    | split
    | dsimp only)

theorem State.holdChannel_moved (s : State) (a1 : _) :
    Moved [.hub, .power, .diag, .ledger, .control, .stage, .sections] s (State.holdChannel s a1) := by
  unfold State.holdChannel
  try dsimp only
  repeat' (first
    | (with_reducible apply Moved.refl)
    | (with_reducible assumption)
    | (with_reducible apply Moved.fold)
    | (with_reducible apply Moved.fold_fst)
    | ((with_reducible apply Moved.via); (case k => with_reducible apply State.applySafe_moved); (case sub => decide))
    | ((with_reducible apply Moved.via); (case k => with_reducible apply State.modSw_moved); (case sub => decide))
    | (intro _ _)
    | (with_reducible apply Moved.ite)
    | split
    | dsimp only)

theorem State.applySafeAll_moved (s : State) (a1 : _) (a2 : _) :
    Moved [.hub, .power, .diag, .ledger, .control, .stage, .sections] s (State.applySafeAll s a1 a2) := by
  unfold State.applySafeAll
  try dsimp only
  repeat' (first
    | (with_reducible apply Moved.refl)
    | (with_reducible assumption)
    | (with_reducible apply Moved.fold)
    | (with_reducible apply Moved.fold_fst)
    | ((with_reducible apply Moved.via); (case k => with_reducible apply State.applySafe_moved); (case sub => decide))
    | (intro _ _)
    | (with_reducible apply Moved.ite)
    | split
    | dsimp only)

theorem State.named_moved (s : State) (a1 : _) (a2 : _) :
    Moved [.stage] s (State.named s a1 a2) := by
  unfold State.named
  try dsimp only
  repeat' (first
    | (with_reducible apply Moved.refl)
    | (with_reducible assumption)
    | (with_reducible apply Moved.fold)
    | (with_reducible apply Moved.fold_fst)
    | ((with_reducible apply Moved.via); (case k => with_reducible apply State.modSw_moved); (case sub => decide))
    | (intro _ _)
    | (with_reducible apply Moved.ite)
    | split
    | dsimp only)

theorem State.allOff_moved (s : State) :
    Moved [.stage] s (State.allOff s) := by
  unfold State.allOff
  try dsimp only
  repeat' (first
    | (with_reducible apply Moved.refl)
    | (with_reducible assumption)
    | (with_reducible apply Moved.fold)
    | (with_reducible apply Moved.fold_fst)
    | ((with_reducible apply Moved.via); (case k => with_reducible apply State.modSw_moved); (case sub => decide))
    | (intro _ _)
    | (with_reducible apply Moved.ite)
    | split
    | dsimp only)

theorem State.runEntry_moved (s : State) (a1 : _) (a2 : _) :
    Moved [.hub, .power, .diag, .ledger, .stage, .sections] s (State.runEntry s a1 a2) := by
  unfold State.runEntry
  try dsimp only
  repeat' (first
    | (with_reducible apply Moved.refl)
    | (with_reducible assumption)
    | (with_reducible apply Moved.fold)
    | (with_reducible apply Moved.fold_fst)
    | ((with_reducible apply Moved.via); (case k => with_reducible apply State.named_moved); (case sub => decide))
    | ((with_reducible apply Moved.via); (case k => with_reducible apply State.setValue_moved); (case sub => decide))
    | ((with_reducible apply Moved.via); (case k => with_reducible apply State.commandOn_moved); (case sub => decide))
    | ((with_reducible apply Moved.via); (case k => with_reducible apply State.commandOff_moved); (case sub => decide))
    | ((with_reducible apply Moved.via); (case k => with_reducible apply State.endEntries_moved); (case sub => decide))
    | ((with_reducible apply Moved.via); (case k => with_reducible apply State.modStage_moved); (case sub => decide))
    | (intro _ _)
    | (with_reducible apply Moved.ite)
    | split
    | dsimp only)

theorem State.startRequest_moved (s : State) (a1 : _) (a2 : _) :
    Moved [.hub, .power, .diag, .ledger, .stage, .sections] s (State.startRequest s a1 a2) := by
  unfold State.startRequest
  try dsimp only
  repeat' (first
    | (with_reducible apply Moved.refl)
    | (with_reducible assumption)
    | (with_reducible apply Moved.fold)
    | (with_reducible apply Moved.fold_fst)
    | ((with_reducible apply Moved.via); (case k => with_reducible apply State.runEntry_moved); (case sub => decide))
    | ((with_reducible apply Moved.via); (case k => with_reducible apply State.endEntries_moved); (case sub => decide))
    | ((with_reducible apply Moved.via); (case k => with_reducible apply State.endBegun_moved); (case sub => decide))
    | ((with_reducible apply Moved.via); (case k => with_reducible apply State.modStage_moved); (case sub => decide))
    | (intro _ _)
    | (with_reducible apply Moved.ite)
    | split
    | dsimp only)

theorem State.startRequests_moved (s : State) :
    Moved [.hub, .power, .diag, .ledger, .stage, .sections] s (State.startRequests s) := by
  unfold State.startRequests
  try dsimp only
  repeat' (first
    | (with_reducible apply Moved.refl)
    | (with_reducible assumption)
    | (with_reducible apply Moved.fold)
    | (with_reducible apply Moved.fold_fst)
    | ((with_reducible apply Moved.via); (case k => with_reducible apply State.startRequest_moved); (case sub => decide))
    | ((with_reducible apply Moved.via); (case k => with_reducible apply State.finishRequests_moved); (case sub => decide))
    | (intro _ _)
    | (with_reducible apply Moved.ite)
    | split
    | dsimp only)

theorem State.tellOutputs_moved (s : State) (a1 : _) :
    Moved [.hub, .diag] s (State.tellOutputs s a1) := by
  unfold State.tellOutputs
  try dsimp only
  repeat' (first
    | (with_reducible apply Moved.refl)
    | (with_reducible assumption)
    | (with_reducible apply Moved.fold)
    | (with_reducible apply Moved.fold_fst)
    | ((with_reducible apply Moved.via); (case k => with_reducible apply State.raiseHeld_moved); (case sub => decide))
    | (intro _ _)
    | (with_reducible apply Moved.ite)
    | split
    | dsimp only)

theorem State.releaseDeferred_moved (s : State) :
    Moved [.hub, .power, .diag, .ledger, .stage, .sections] s (State.releaseDeferred s) := by
  unfold State.releaseDeferred
  try dsimp only
  repeat' (first
    | (with_reducible apply Moved.refl)
    | (with_reducible assumption)
    | (with_reducible apply Moved.fold)
    | (with_reducible apply Moved.fold_fst)
    | ((with_reducible apply Moved.via); (case k => with_reducible apply State.turnOn_moved); (case sub => decide))
    | ((with_reducible apply Moved.via); (case k => with_reducible apply State.beginTurnOn_moved); (case sub => decide))
    | (intro _ _)
    | (with_reducible apply Moved.ite)
    | split
    | dsimp only)

theorem State.supplyGone_moved (s : State) (a1 : _) :
    Moved [.hub, .diag, .ledger, .stage, .sections] s (State.supplyGone s a1) := by
  unfold State.supplyGone
  try dsimp only
  repeat' (first
    | (with_reducible apply Moved.refl)
    | (with_reducible assumption)
    | (with_reducible apply Moved.fold)
    | (with_reducible apply Moved.fold_fst)
    | ((with_reducible apply Moved.via); (case k => with_reducible apply State.finishRequests_moved); (case sub => decide))
    | ((with_reducible apply Moved.via); (case k => with_reducible apply State.endWaiting_moved); (case sub => decide))
    | ((with_reducible apply Moved.via); (case k => with_reducible apply State.modSw_moved); (case sub => decide))
    | (intro _ _)
    | (with_reducible apply Moved.ite)
    | split
    | dsimp only)

theorem State.supplyBack_moved (s : State) (a1 : _) (a2 : _) :
    Moved [.hub, .power, .diag, .ledger, .stage, .sections] s (State.supplyBack s a1 a2) := by
  unfold State.supplyBack
  try dsimp only
  repeat' (first
    | (with_reducible apply Moved.refl)
    | (with_reducible assumption)
    | (with_reducible apply Moved.fold)
    | (with_reducible apply Moved.fold_fst)
    | ((with_reducible apply Moved.via); (case k => with_reducible apply State.turnOn_moved); (case sub => decide))
    | ((with_reducible apply Moved.via); (case k => with_reducible apply State.tellChannel_moved); (case sub => decide))
    | (intro _ _)
    | (with_reducible apply Moved.ite)
    | split
    | dsimp only)

theorem State.latchFault_moved (s : State) (a1 : _) (a2 : _) (a3 : _) :
    Moved [.hub, .diag, .ledger, .stage, .sections] s (State.latchFault s a1 a2 a3) := by
  unfold State.latchFault
  try dsimp only
  repeat' (first
    | (with_reducible apply Moved.refl)
    | (with_reducible assumption)
    | (with_reducible apply Moved.fold)
    | (with_reducible apply Moved.fold_fst)
    | ((with_reducible apply Moved.via); (case k => with_reducible apply State.turnOff_moved); (case sub => decide))
    | ((with_reducible apply Moved.via); (case k => with_reducible apply State.tellChannel_moved); (case sub => decide))
    | ((with_reducible apply Moved.via); (case k => with_reducible apply State.endWaiting_moved); (case sub => decide))
    | ((with_reducible apply Moved.via); (case k => with_reducible apply State.modSw_moved); (case sub => decide))
    | ((with_reducible apply Moved.via); (case k => with_reducible apply State.modStage_moved); (case sub => decide))
    | (intro _ _)
    | (with_reducible apply Moved.ite)
    | split
    | dsimp only)

theorem State.tellGroup_moved (s : State) (a1 : _) (a2 : _) (a3 : _) (a4 : _) (a5 : _) (a6 : _) :
    Moved [.hub, .diag] s (State.tellGroup s a1 a2 a3 a4 a5 a6) := by
  unfold State.tellGroup
  try dsimp only
  repeat' (first
    | (with_reducible apply Moved.refl)
    | (with_reducible assumption)
    | (with_reducible apply Moved.fold)
    | (with_reducible apply Moved.fold_fst)
    | ((with_reducible apply Moved.via); (case k => with_reducible apply State.raise_moved); (case sub => decide))
    | (intro _ _)
    | (with_reducible apply Moved.ite)
    | split
    | dsimp only)

theorem State.finishTurnOn_moved (s : State) (a1 : _) :
    Moved [.hub, .diag, .ledger, .stage, .sections] s (State.finishTurnOn s a1) := by
  unfold State.finishTurnOn
  try dsimp only
  repeat' (first
    | (with_reducible apply Moved.refl)
    | (with_reducible assumption)
    | (with_reducible apply Moved.fold)
    | (with_reducible apply Moved.fold_fst)
    | ((with_reducible apply Moved.via); (case k => with_reducible apply State.endWaiting_moved); (case sub => decide))
    | ((with_reducible apply Moved.via); (case k => with_reducible apply State.modSw_moved); (case sub => decide))
    | ((with_reducible apply Moved.via); (case k => with_reducible apply State.count_moved); (case sub => decide))
    | (intro _ _)
    | (with_reducible apply Moved.ite)
    | split
    | dsimp only)

theorem State.trip_moved (s : State) (a1 : _) (a2 : _) (a3 : _) :
    Moved [.hub, .diag, .ledger, .stage, .sections] s (State.trip s a1 a2 a3) := by
  unfold State.trip
  try dsimp only
  repeat' (first
    | (with_reducible apply Moved.refl)
    | (with_reducible assumption)
    | (with_reducible apply Moved.fold)
    | (with_reducible apply Moved.fold_fst)
    | ((with_reducible apply Moved.via); (case k => with_reducible apply State.latchFault_moved); (case sub => decide))
    | ((with_reducible apply Moved.via); (case k => with_reducible apply State.turnOff_moved); (case sub => decide))
    | ((with_reducible apply Moved.via); (case k => with_reducible apply State.modSw_moved); (case sub => decide))
    | (intro _ _)
    | (with_reducible apply Moved.ite)
    | split
    | dsimp only)

end Sys2Proof.Machine
end

