-- ==== Sys2Proof/Laws/MovedFieldOps.lean ====
section
/-! SUPPORT. What each operation of Machine/FieldOps.lean may change: nothing but the parts named. -/

namespace Sys2Proof.Machine

set_option maxRecDepth 4000

theorem State.modField_moved (s : State) (a1 : _) :
    Moved [.fieldIo] s (State.modField s a1) := by
  unfold State.modField
  try dsimp only
  repeat' (first
    | (with_reducible apply Moved.refl)
    | (with_reducible assumption)
    | (with_reducible apply Moved.fold)
    | (with_reducible apply Moved.fold_fst)
    | ((with_reducible apply Moved.via); (case k => with_reducible apply set_fieldIo); (case sub => decide))
    | (intro _ _)
    | (with_reducible apply Moved.ite)
    | split
    | dsimp only)

theorem State.modFo_moved (s : State) (a1 : _) (a2 : _) :
    Moved [.fieldIo] s (State.modFo s a1 a2) := by
  unfold State.modFo
  try dsimp only
  repeat' (first
    | (with_reducible apply Moved.refl)
    | (with_reducible assumption)
    | (with_reducible apply Moved.fold)
    | (with_reducible apply Moved.fold_fst)
    | ((with_reducible apply Moved.via); (case k => with_reducible apply State.modField_moved); (case sub => decide))
    | (intro _ _)
    | (with_reducible apply Moved.ite)
    | split
    | dsimp only)

theorem State.foCut_moved (s : State) (a1 : _) :
    Moved [.fieldIo] s (State.foCut s a1) := by
  unfold State.foCut
  try dsimp only
  repeat' (first
    | (with_reducible apply Moved.refl)
    | (with_reducible assumption)
    | (with_reducible apply Moved.fold)
    | (with_reducible apply Moved.fold_fst)
    | ((with_reducible apply Moved.via); (case k => with_reducible apply State.modFo_moved); (case sub => decide))
    | (intro _ _)
    | (with_reducible apply Moved.ite)
    | split
    | dsimp only)

theorem State.foOff_moved (s : State) (a1 : _) :
    Moved [.fieldIo] s (State.foOff s a1) := by
  unfold State.foOff
  try dsimp only
  repeat' (first
    | (with_reducible apply Moved.refl)
    | (with_reducible assumption)
    | (with_reducible apply Moved.fold)
    | (with_reducible apply Moved.fold_fst)
    | ((with_reducible apply Moved.via); (case k => with_reducible apply State.foCut_moved); (case sub => decide))
    | ((with_reducible apply Moved.via); (case k => with_reducible apply State.modFo_moved); (case sub => decide))
    | (intro _ _)
    | (with_reducible apply Moved.ite)
    | split
    | dsimp only)

theorem State.foAllOff_moved (s : State) :
    Moved [.fieldIo] s (State.foAllOff s) := by
  unfold State.foAllOff
  try dsimp only
  repeat' (first
    | (with_reducible apply Moved.refl)
    | (with_reducible assumption)
    | (with_reducible apply Moved.fold)
    | (with_reducible apply Moved.fold_fst)
    | ((with_reducible apply Moved.via); (case k => with_reducible apply State.foOff_moved); (case sub => decide))
    | (intro _ _)
    | (with_reducible apply Moved.ite)
    | split
    | dsimp only)

theorem State.foLost_moved (s : State) :
    Moved [.diag, .fieldIo] s (State.foLost s) := by
  unfold State.foLost
  try dsimp only
  repeat' (first
    | (with_reducible apply Moved.refl)
    | (with_reducible assumption)
    | (with_reducible apply Moved.fold)
    | (with_reducible apply Moved.fold_fst)
    | ((with_reducible apply Moved.via); (case k => with_reducible apply State.foCut_moved); (case sub => decide))
    | ((with_reducible apply Moved.via); (case k => with_reducible apply State.count_moved); (case sub => decide))
    | (intro _ _)
    | (with_reducible apply Moved.ite)
    | split
    | dsimp only)

theorem State.fieldUnpowered_moved (s : State) :
    Moved [.diag, .fieldIo] s (State.fieldUnpowered s) := by
  unfold State.fieldUnpowered
  try dsimp only
  repeat' (first
    | (with_reducible apply Moved.refl)
    | (with_reducible assumption)
    | (with_reducible apply Moved.fold)
    | (with_reducible apply Moved.fold_fst)
    | ((with_reducible apply Moved.via); (case k => with_reducible apply State.foLost_moved); (case sub => decide))
    | ((with_reducible apply Moved.via); (case k => with_reducible apply State.modField_moved); (case sub => decide))
    | (intro _ _)
    | (with_reducible apply Moved.ite)
    | split
    | dsimp only)

theorem State.tellFsup_moved (s : State) (a1 : _) (a2 : _) :
    Moved [.hub, .diag] s (State.tellFsup s a1 a2) := by
  unfold State.tellFsup
  try dsimp only
  repeat' (first
    | (with_reducible apply Moved.refl)
    | (with_reducible assumption)
    | (with_reducible apply Moved.fold)
    | (with_reducible apply Moved.fold_fst)
    | ((with_reducible apply Moved.via); (case k => with_reducible apply State.raise_moved); (case sub => decide))
    | (intro _ _)
    | (with_reducible apply Moved.ite)
    | split
    | dsimp only)

theorem State.fieldLow_moved (s : State) :
    Moved [.hub, .diag, .fieldIo] s (State.fieldLow s) := by
  unfold State.fieldLow
  try dsimp only
  repeat' (first
    | (with_reducible apply Moved.refl)
    | (with_reducible assumption)
    | (with_reducible apply Moved.fold)
    | (with_reducible apply Moved.fold_fst)
    | ((with_reducible apply Moved.via); (case k => with_reducible apply State.tellFsup_moved); (case sub => decide))
    | ((with_reducible apply Moved.via); (case k => with_reducible apply State.modField_moved); (case sub => decide))
    | ((with_reducible apply Moved.via); (case k => with_reducible apply State.count_moved); (case sub => decide))
    | (intro _ _)
    | (with_reducible apply Moved.ite)
    | split
    | dsimp only)

theorem State.noteFi_moved (s : State) (a1 : _) (a2 : _) :
    Moved [.fieldIo] s (State.noteFi s a1 a2) := by
  unfold State.noteFi
  try dsimp only
  repeat' (first
    | (with_reducible apply Moved.refl)
    | (with_reducible assumption)
    | (with_reducible apply Moved.fold)
    | (with_reducible apply Moved.fold_fst)
    | ((with_reducible apply Moved.via); (case k => with_reducible apply State.modField_moved); (case sub => decide))
    | (intro _ _)
    | (with_reducible apply Moved.ite)
    | split
    | dsimp only)

theorem State.noteInvalid_moved (s : State) (s' : State) :
    Moved [.fieldIo] s (State.noteInvalid s s') := by
  unfold State.noteInvalid
  try dsimp only
  repeat' (first
    | (with_reducible apply Moved.refl)
    | (with_reducible assumption)
    | (with_reducible apply Moved.fold)
    | (with_reducible apply Moved.fold_fst)
    | ((with_reducible apply Moved.via); (case k => with_reducible apply State.noteFi_moved); (case sub => decide))
    | (intro _ _)
    | (with_reducible apply Moved.ite)
    | split
    | dsimp only)

theorem State.foConduct_moved (s : State) (a1 : _) :
    Moved [.diag, .fieldIo] s (State.foConduct s a1) := by
  unfold State.foConduct
  try dsimp only
  repeat' (first
    | (with_reducible apply Moved.refl)
    | (with_reducible assumption)
    | (with_reducible apply Moved.fold)
    | (with_reducible apply Moved.fold_fst)
    | ((with_reducible apply Moved.via); (case k => with_reducible apply State.modFo_moved); (case sub => decide))
    | ((with_reducible apply Moved.via); (case k => with_reducible apply State.count_moved); (case sub => decide))
    | (intro _ _)
    | (with_reducible apply Moved.ite)
    | split
    | dsimp only)

theorem State.foOn_moved (s : State) (a1 : _) :
    Moved [.power, .diag, .fieldIo] s (State.foOn s a1) := by
  unfold State.foOn
  try dsimp only
  repeat' (first
    | (with_reducible apply Moved.refl)
    | (with_reducible assumption)
    | (with_reducible apply Moved.fold)
    | (with_reducible apply Moved.fold_fst)
    | ((with_reducible apply Moved.via); (case k => with_reducible apply State.foConduct_moved); (case sub => decide))
    | ((with_reducible apply Moved.via); (case k => with_reducible apply State.modFo_moved); (case sub => decide))
    | ((with_reducible apply Moved.via); (case k => (with_reducible apply modPower_moved (qs := [.power])); intro m p hp; cases p <;> first | exact absurd hp (by decide) | exact trivial | rfl | (split <;> rfl) | (unfold ModeState.supLost; split <;> rfl)); (case sub => decide))
    | (intro _ _)
    | (with_reducible apply Moved.ite)
    | split
    | dsimp only)

theorem State.tellFo_moved (s : State) (a1 : _) (a2 : _) (a3 : _) :
    Moved [.hub, .diag] s (State.tellFo s a1 a2 a3) := by
  unfold State.tellFo
  try dsimp only
  repeat' (first
    | (with_reducible apply Moved.refl)
    | (with_reducible assumption)
    | (with_reducible apply Moved.fold)
    | (with_reducible apply Moved.fold_fst)
    | ((with_reducible apply Moved.via); (case k => with_reducible apply State.raise_moved); (case sub => decide))
    | (intro _ _)
    | (with_reducible apply Moved.ite)
    | split
    | dsimp only)

theorem State.foRestore_moved (s : State) :
    Moved [.hub, .power, .diag, .fieldIo] s (State.foRestore s) := by
  unfold State.foRestore
  try dsimp only
  repeat' (first
    | (with_reducible apply Moved.refl)
    | (with_reducible assumption)
    | (with_reducible apply Moved.fold)
    | (with_reducible apply Moved.fold_fst)
    | ((with_reducible apply Moved.via); (case k => with_reducible apply State.tellFo_moved); (case sub => decide))
    | ((with_reducible apply Moved.via); (case k => with_reducible apply State.foOn_moved); (case sub => decide))
    | ((with_reducible apply Moved.via); (case k => with_reducible apply State.foOff_moved); (case sub => decide))
    | (intro _ _)
    | (with_reducible apply Moved.ite)
    | split
    | dsimp only)

theorem State.modFi_moved (s : State) (a1 : _) (a2 : _) :
    Moved [.fieldIo] s (State.modFi s a1 a2) := by
  unfold State.modFi
  try dsimp only
  repeat' (first
    | (with_reducible apply Moved.refl)
    | (with_reducible assumption)
    | (with_reducible apply Moved.fold)
    | (with_reducible apply Moved.fold_fst)
    | ((with_reducible apply Moved.via); (case k => with_reducible apply State.modField_moved); (case sub => decide))
    | (intro _ _)
    | (with_reducible apply Moved.ite)
    | split
    | dsimp only)

theorem State.setFiLevel_moved (s : State) (a1 : _) (a2 : _) (a3 : _) :
    Moved [.diag, .fieldIo] s (State.setFiLevel s a1 a2 a3) := by
  unfold State.setFiLevel
  try dsimp only
  repeat' (first
    | (with_reducible apply Moved.refl)
    | (with_reducible assumption)
    | (with_reducible apply Moved.fold)
    | (with_reducible apply Moved.fold_fst)
    | ((with_reducible apply Moved.via); (case k => with_reducible apply State.modFi_moved); (case sub => decide))
    | ((with_reducible apply Moved.via); (case k => with_reducible apply State.noteFi_moved); (case sub => decide))
    | ((with_reducible apply Moved.via); (case k => with_reducible apply State.count_moved); (case sub => decide))
    | (intro _ _)
    | (with_reducible apply Moved.ite)
    | split
    | dsimp only)

theorem State.setBreak_moved (s : State) (a1 : _) (a2 : _) (a3 : _) :
    Moved [.hub, .diag, .fieldIo] s (State.setBreak s a1 a2 a3) := by
  unfold State.setBreak
  try dsimp only
  repeat' (first
    | (with_reducible apply Moved.refl)
    | (with_reducible assumption)
    | (with_reducible apply Moved.fold)
    | (with_reducible apply Moved.fold_fst)
    | ((with_reducible apply Moved.via); (case k => with_reducible apply State.modFi_moved); (case sub => decide))
    | ((with_reducible apply Moved.via); (case k => with_reducible apply State.noteFi_moved); (case sub => decide))
    | ((with_reducible apply Moved.via); (case k => with_reducible apply State.raise_moved); (case sub => decide))
    | ((with_reducible apply Moved.via); (case k => with_reducible apply State.count_moved); (case sub => decide))
    | (intro _ _)
    | (with_reducible apply Moved.ite)
    | split
    | dsimp only)

theorem State.foLatch_moved (s : State) (a1 : _) (a2 : _) (a3 : _) :
    Moved [.hub, .diag, .fieldIo] s (State.foLatch s a1 a2 a3) := by
  unfold State.foLatch
  try dsimp only
  repeat' (first
    | (with_reducible apply Moved.refl)
    | (with_reducible assumption)
    | (with_reducible apply Moved.fold)
    | (with_reducible apply Moved.fold_fst)
    | ((with_reducible apply Moved.via); (case k => with_reducible apply State.tellFo_moved); (case sub => decide))
    | ((with_reducible apply Moved.via); (case k => with_reducible apply State.foOff_moved); (case sub => decide))
    | ((with_reducible apply Moved.via); (case k => with_reducible apply State.modFo_moved); (case sub => decide))
    | ((with_reducible apply Moved.via); (case k => with_reducible apply State.count_moved); (case sub => decide))
    | (intro _ _)
    | (with_reducible apply Moved.ite)
    | split
    | dsimp only)

theorem State.modSi_moved (s : State) (a1 : _) (a2 : _) :
    Moved [.fieldIo] s (State.modSi s a1 a2) := by
  unfold State.modSi
  try dsimp only
  repeat' (first
    | (with_reducible apply Moved.refl)
    | (with_reducible assumption)
    | (with_reducible apply Moved.fold)
    | (with_reducible apply Moved.fold_fst)
    | ((with_reducible apply Moved.via); (case k => with_reducible apply State.modField_moved); (case sub => decide))
    | (intro _ _)
    | (with_reducible apply Moved.ite)
    | split
    | dsimp only)

theorem State.modSup5_moved (s : State) (a1 : _) (a2 : _) :
    Moved [.fieldIo] s (State.modSup5 s a1 a2) := by
  unfold State.modSup5
  try dsimp only
  repeat' (first
    | (with_reducible apply Moved.refl)
    | (with_reducible assumption)
    | (with_reducible apply Moved.fold)
    | (with_reducible apply Moved.fold_fst)
    | ((with_reducible apply Moved.via); (case k => with_reducible apply State.modField_moved); (case sub => decide))
    | (intro _ _)
    | (with_reducible apply Moved.ite)
    | split
    | dsimp only)

theorem State.tellSi_moved (s : State) (a1 : _) (a2 : _) (a3 : _) :
    Moved [.hub, .diag] s (State.tellSi s a1 a2 a3) := by
  unfold State.tellSi
  try dsimp only
  repeat' (first
    | (with_reducible apply Moved.refl)
    | (with_reducible assumption)
    | (with_reducible apply Moved.fold)
    | (with_reducible apply Moved.fold_fst)
    | ((with_reducible apply Moved.via); (case k => with_reducible apply State.raise_moved); (case sub => decide))
    | (intro _ _)
    | (with_reducible apply Moved.ite)
    | split
    | dsimp only)

theorem State.setSiFlag_moved (s : State) (a1 : _) (a2 : _) (a3 : _) (a4 : _) :
    Moved [.hub, .diag] s (State.setSiFlag s a1 a2 a3 a4) := by
  unfold State.setSiFlag
  try dsimp only
  repeat' (first
    | (with_reducible apply Moved.refl)
    | (with_reducible assumption)
    | (with_reducible apply Moved.fold)
    | (with_reducible apply Moved.fold_fst)
    | ((with_reducible apply Moved.via); (case k => with_reducible apply State.tellSi_moved); (case sub => decide))
    | ((with_reducible apply Moved.via); (case k => with_reducible apply State.count_moved); (case sub => decide))
    | (intro _ _)
    | (with_reducible apply Moved.ite)
    | split
    | dsimp only)

theorem State.setSiFlags_moved (s : State) (a1 : _) (a2 : _) (a3 : _) :
    Moved [.hub, .diag, .fieldIo] s (State.setSiFlags s a1 a2 a3) := by
  unfold State.setSiFlags
  try dsimp only
  repeat' (first
    | (with_reducible apply Moved.refl)
    | (with_reducible assumption)
    | (with_reducible apply Moved.fold)
    | (with_reducible apply Moved.fold_fst)
    | ((with_reducible apply Moved.via); (case k => with_reducible apply State.setSiFlag_moved); (case sub => decide))
    | ((with_reducible apply Moved.via); (case k => with_reducible apply State.modSi_moved); (case sub => decide))
    | (intro _ _)
    | (with_reducible apply Moved.ite)
    | split
    | dsimp only)

theorem State.fieldRejoined_moved (s : State) :
    Moved [.fieldIo] s (State.fieldRejoined s) := by
  unfold State.fieldRejoined
  try dsimp only
  repeat' (first
    | (with_reducible apply Moved.refl)
    | (with_reducible assumption)
    | (with_reducible apply Moved.fold)
    | (with_reducible apply Moved.fold_fst)
    | ((with_reducible apply Moved.via); (case k => with_reducible apply State.modField_moved); (case sub => decide))
    | (intro _ _)
    | (with_reducible apply Moved.ite)
    | split
    | dsimp only)

theorem State.foRelease_moved (s : State) :
    Moved [.diag, .fieldIo] s (State.foRelease s) := by
  unfold State.foRelease
  try dsimp only
  repeat' (first
    | (with_reducible apply Moved.refl)
    | (with_reducible assumption)
    | (with_reducible apply Moved.fold)
    | (with_reducible apply Moved.fold_fst)
    | ((with_reducible apply Moved.via); (case k => with_reducible apply State.foConduct_moved); (case sub => decide))
    | (intro _ _)
    | (with_reducible apply Moved.ite)
    | split
    | dsimp only)

end Sys2Proof.Machine
end

