-- ==== Sys2Proof/Laws/MovedTuneOps.lean ====
section
/-! SUPPORT. What each operation of Machine/TuneOps.lean may change: nothing but the parts named. -/

namespace Sys2Proof.Machine

set_option maxRecDepth 4000

theorem State.finishTune_moved (s : State) (a1 : _) :
    Moved [.hub, .diag, .control, .stage] s (State.finishTune s a1) := by
  unfold State.finishTune
  try dsimp only
  repeat' (first
    | (with_reducible apply Moved.refl)
    | (with_reducible assumption)
    | (with_reducible apply Moved.fold)
    | (with_reducible apply Moved.fold_fst)
    | ((with_reducible apply Moved.via); (case k => with_reducible apply State.abortTune_moved); (case sub => decide))
    | ((with_reducible apply Moved.via); (case k => with_reducible apply State.tellLoop_moved); (case sub => decide))
    | ((with_reducible apply Moved.via); (case k => with_reducible apply State.putOut_moved); (case sub => decide))
    | ((with_reducible apply Moved.via); (case k => with_reducible apply State.modLoop_moved); (case sub => decide))
    | ((with_reducible apply Moved.via); (case k => with_reducible apply State.complete_moved); (case sub => decide))
    | (intro _ _)
    | (with_reducible apply Moved.ite)
    | split
    | dsimp only)

end Sys2Proof.Machine
end

