-- ==== Sys2Proof/Laws/MovedExecControl.lean ====
section
/-! SUPPORT. What each operation of Machine/ExecControl.lean may change: nothing but the parts named. -/

namespace Sys2Proof.Machine

set_option maxRecDepth 4000

theorem State.faultLoop_moved (s : State) (a1 : _) (a2 : _) :
    Moved [.hub, .diag, .control, .stage] s (State.faultLoop s a1 a2) := by
  unfold State.faultLoop
  try dsimp only
  repeat' (first
    | (with_reducible apply Moved.refl)
    | (with_reducible assumption)
    | (with_reducible apply Moved.fold)
    | (with_reducible apply Moved.fold_fst)
    | ((with_reducible apply Moved.via); (case k => with_reducible apply State.tellLoop_moved); (case sub => decide))
    | ((with_reducible apply Moved.via); (case k => with_reducible apply State.putOut_moved); (case sub => decide))
    | ((with_reducible apply Moved.via); (case k => with_reducible apply State.modLoop_moved); (case sub => decide))
    | ((with_reducible apply Moved.via); (case k => with_reducible apply State.count_moved); (case sub => decide))
    | (intro _ _)
    | (with_reducible apply Moved.ite)
    | split
    | dsimp only)

theorem State.countLimits_moved (s : State) (a1 : _) :
    Moved [.diag] s (State.countLimits s a1) := by
  unfold State.countLimits
  try dsimp only
  repeat' (first
    | (with_reducible apply Moved.refl)
    | (with_reducible assumption)
    | (with_reducible apply Moved.fold)
    | (with_reducible apply Moved.fold_fst)
    | ((with_reducible apply Moved.via); (case k => with_reducible apply State.count_moved); (case sub => decide))
    | (intro _ _)
    | (with_reducible apply Moved.ite)
    | split
    | dsimp only)

theorem State.closeNow_moved (s' : State) (s : State) (a2 : _) (a3 : _) (a4 : _) :
    Moved [.hub, .diag, .control] s (State.closeNow s' s a2 a3 a4) := by
  unfold State.closeNow
  try dsimp only
  repeat' (first
    | (with_reducible apply Moved.refl)
    | (with_reducible assumption)
    | (with_reducible apply Moved.fold)
    | (with_reducible apply Moved.fold_fst)
    | ((with_reducible apply Moved.via); (case k => with_reducible apply State.countLimits_moved); (case sub => decide))
    | ((with_reducible apply Moved.via); (case k => with_reducible apply State.tellLoop_moved); (case sub => decide))
    | ((with_reducible apply Moved.via); (case k => with_reducible apply State.modLoop_moved); (case sub => decide))
    | (intro _ _)
    | (with_reducible apply Moved.ite)
    | split
    | dsimp only)

theorem State.tuneNow_moved (s' : State) (s : State) (a2 : _) (a3 : _) (a4 : _) (a5 : _) :
    Moved [.hub, .diag, .control, .stage] s (State.tuneNow s' s a2 a3 a4 a5) := by
  unfold State.tuneNow
  try dsimp only
  repeat' (first
    | (with_reducible apply Moved.refl)
    | (with_reducible assumption)
    | (with_reducible apply Moved.fold)
    | (with_reducible apply Moved.fold_fst)
    | ((with_reducible apply Moved.via); (case k => with_reducible apply State.finishTune_moved); (case sub => decide))
    | ((with_reducible apply Moved.via); (case k => with_reducible apply State.countLimits_moved); (case sub => decide))
    | ((with_reducible apply Moved.via); (case k => with_reducible apply State.abortTune_moved); (case sub => decide))
    | ((with_reducible apply Moved.via); (case k => with_reducible apply State.modLoop_moved); (case sub => decide))
    | (intro _ _)
    | (with_reducible apply Moved.ite)
    | split
    | dsimp only)

theorem State.modLane_moved (s : State) (a1 : _) (a2 : _) :
    Moved [.control] s (State.modLane s a1 a2) := by
  unfold State.modLane
  try dsimp only
  repeat' (first
    | (with_reducible apply Moved.refl)
    | (with_reducible assumption)
    | (with_reducible apply Moved.fold)
    | (with_reducible apply Moved.fold_fst)
    | ((with_reducible apply Moved.via); (case k => with_reducible apply State.modControl_moved); (case sub => decide))
    | (intro _ _)
    | (with_reducible apply Moved.ite)
    | split
    | dsimp only)

theorem State.execLoop_moved (s' : State) (s : State) (a2 : _) :
    Moved [.hub, .diag, .control, .stage] s (State.execLoop s' s a2) := by
  unfold State.execLoop
  try dsimp only
  repeat' (first
    | (with_reducible apply Moved.refl)
    | (with_reducible assumption)
    | (with_reducible apply Moved.fold)
    | (with_reducible apply Moved.fold_fst)
    | ((with_reducible apply Moved.via); (case k => with_reducible apply State.modLane_moved); (case sub => decide))
    | ((with_reducible apply Moved.via); (case k => with_reducible apply State.tuneNow_moved); (case sub => decide))
    | ((with_reducible apply Moved.via); (case k => with_reducible apply State.closeNow_moved); (case sub => decide))
    | ((with_reducible apply Moved.via); (case k => with_reducible apply State.countLimits_moved); (case sub => decide))
    | ((with_reducible apply Moved.via); (case k => with_reducible apply State.faultLoop_moved); (case sub => decide))
    | ((with_reducible apply Moved.via); (case k => with_reducible apply State.tellLoop_moved); (case sub => decide))
    | ((with_reducible apply Moved.via); (case k => with_reducible apply State.modLoop_moved); (case sub => decide))
    | ((with_reducible apply Moved.via); (case k => with_reducible apply State.count_moved); (case sub => decide))
    | (intro _ _)
    | (with_reducible apply Moved.ite)
    | split
    | dsimp only)

theorem State.alignOuter_moved (s : State) (a1 : _) (a2 : _) :
    Moved [.control] s (State.alignOuter s a1 a2) := by
  unfold State.alignOuter
  try dsimp only
  repeat' (first
    | (with_reducible apply Moved.refl)
    | (with_reducible assumption)
    | (with_reducible apply Moved.fold)
    | (with_reducible apply Moved.fold_fst)
    | ((with_reducible apply Moved.via); (case k => with_reducible apply State.modLoop_moved); (case sub => decide))
    | (intro _ _)
    | (with_reducible apply Moved.ite)
    | split
    | dsimp only)

theorem State.flushTrace_moved (s : State) :
    Moved [.hub, .diag, .control, .fabric] s (State.flushTrace s) := by
  unfold State.flushTrace
  try dsimp only
  repeat' (first
    | (with_reducible apply Moved.refl)
    | (with_reducible assumption)
    | (with_reducible apply Moved.fold)
    | (with_reducible apply Moved.fold_fst)
    | ((with_reducible apply Moved.via); (case k => with_reducible apply State.modLane_moved); (case sub => decide))
    | ((with_reducible apply Moved.via); (case k => with_reducible apply State.countN_moved); (case sub => decide))
    | ((with_reducible apply Moved.via); (case k => with_reducible apply State.present_moved); (case sub => decide))
    | (intro _ _)
    | (with_reducible apply Moved.ite)
    | split
    | dsimp only)

theorem State.applyPending_moved (s : State) :
    Moved [.control] s (State.applyPending s) := by
  unfold State.applyPending
  try dsimp only
  repeat' (first
    | (with_reducible apply Moved.refl)
    | (with_reducible assumption)
    | (with_reducible apply Moved.fold)
    | (with_reducible apply Moved.fold_fst)
    | ((with_reducible apply Moved.via); (case k => with_reducible apply State.modControl_moved); (case sub => decide))
    | (intro _ _)
    | (with_reducible apply Moved.ite)
    | split
    | dsimp only)

theorem State.handOver_moved (s : State) :
    Moved [.hub, .diag, .control, .stage] s (State.handOver s) := by
  unfold State.handOver
  try dsimp only
  repeat' (first
    | (with_reducible apply Moved.refl)
    | (with_reducible assumption)
    | (with_reducible apply Moved.fold)
    | (with_reducible apply Moved.fold_fst)
    | ((with_reducible apply Moved.via); (case k => with_reducible apply State.openLoop_moved); (case sub => decide))
    | ((with_reducible apply Moved.via); (case k => with_reducible apply State.drive_moved); (case sub => decide))
    | ((with_reducible apply Moved.via); (case k => with_reducible apply State.modLoop_moved); (case sub => decide))
    | (intro _ _)
    | (with_reducible apply Moved.ite)
    | split
    | dsimp only)

theorem doneLoopTick_moved (a0 : _) (s : State) :
    Moved [.hub, .power, .diag, .ledger, .control, .stage, .fabric, .sections] s (doneLoopTick a0 s) := by
  unfold doneLoopTick
  try dsimp only
  repeat' (first
    | (with_reducible apply Moved.refl)
    | (with_reducible assumption)
    | (with_reducible apply Moved.fold)
    | (with_reducible apply Moved.fold_fst)
    | ((with_reducible apply Moved.via); (case k => with_reducible apply State.startRequests_moved); (case sub => decide))
    | ((with_reducible apply Moved.via); (case k => with_reducible apply State.handOver_moved); (case sub => decide))
    | ((with_reducible apply Moved.via); (case k => with_reducible apply State.applyPending_moved); (case sub => decide))
    | ((with_reducible apply Moved.via); (case k => with_reducible apply State.flushTrace_moved); (case sub => decide))
    | ((with_reducible apply Moved.via); (case k => with_reducible apply State.alignOuter_moved); (case sub => decide))
    | ((with_reducible apply Moved.via); (case k => with_reducible apply State.execLoop_moved); (case sub => decide))
    | ((with_reducible apply Moved.via); (case k => with_reducible apply State.modControl_moved); (case sub => decide))
    | (intro _ _)
    | (with_reducible apply Moved.ite)
    | split
    | dsimp only)

theorem doneLoopDefine_moved (a0 : _) (s : State) :
    Moved [.hub, .diag, .ledger, .control, .fabric] s (doneLoopDefine a0 s) := by
  unfold doneLoopDefine
  try dsimp only
  repeat' (first
    | (with_reducible apply Moved.refl)
    | (with_reducible assumption)
    | (with_reducible apply Moved.fold)
    | (with_reducible apply Moved.fold_fst)
    | ((with_reducible apply Moved.via); (case k => with_reducible apply State.modLane_moved); (case sub => decide))
    | ((with_reducible apply Moved.via); (case k => with_reducible apply State.dropClosing_moved); (case sub => decide))
    | ((with_reducible apply Moved.via); (case k => with_reducible apply refuse_moved); (case sub => decide))
    | ((with_reducible apply Moved.via); (case k => with_reducible apply answer_moved); (case sub => decide))
    | ((with_reducible apply Moved.via); (case k => with_reducible apply State.modLoop_moved); (case sub => decide))
    | (intro _ _)
    | (with_reducible apply Moved.ite)
    | split
    | dsimp only)

theorem doneLoopClear_moved (a0 : _) (s : State) :
    Moved [.hub, .diag, .ledger, .control, .fabric] s (doneLoopClear a0 s) := by
  unfold doneLoopClear
  try dsimp only
  repeat' (first
    | (with_reducible apply Moved.refl)
    | (with_reducible assumption)
    | (with_reducible apply Moved.fold)
    | (with_reducible apply Moved.fold_fst)
    | ((with_reducible apply Moved.via); (case k => with_reducible apply State.modLane_moved); (case sub => decide))
    | ((with_reducible apply Moved.via); (case k => with_reducible apply State.dropClosing_moved); (case sub => decide))
    | ((with_reducible apply Moved.via); (case k => with_reducible apply answer_moved); (case sub => decide))
    | ((with_reducible apply Moved.via); (case k => with_reducible apply State.modControl_moved); (case sub => decide))
    | (intro _ _)
    | (with_reducible apply Moved.ite)
    | split
    | dsimp only)

theorem doneLoopCoeff_moved (a0 : _) (s : State) :
    Moved [.hub, .diag, .ledger, .control, .fabric] s (doneLoopCoeff a0 s) := by
  unfold doneLoopCoeff
  try dsimp only
  repeat' (first
    | (with_reducible apply Moved.refl)
    | (with_reducible assumption)
    | (with_reducible apply Moved.fold)
    | (with_reducible apply Moved.fold_fst)
    | ((with_reducible apply Moved.via); (case k => with_reducible apply answer_moved); (case sub => decide))
    | ((with_reducible apply Moved.via); (case k => with_reducible apply State.modLoop_moved); (case sub => decide))
    | (intro _ _)
    | (with_reducible apply Moved.ite)
    | split
    | dsimp only)

theorem doneLoopLimits_moved (a0 : _) (s : State) :
    Moved [.hub, .diag, .ledger, .control, .fabric] s (doneLoopLimits a0 s) := by
  unfold doneLoopLimits
  try dsimp only
  repeat' (first
    | (with_reducible apply Moved.refl)
    | (with_reducible assumption)
    | (with_reducible apply Moved.fold)
    | (with_reducible apply Moved.fold_fst)
    | ((with_reducible apply Moved.via); (case k => with_reducible apply answer_moved); (case sub => decide))
    | ((with_reducible apply Moved.via); (case k => with_reducible apply State.modLoop_moved); (case sub => decide))
    | (intro _ _)
    | (with_reducible apply Moved.ite)
    | split
    | dsimp only)

theorem doneLoopClose_moved (a0 : _) (s : State) :
    Moved [.hub, .diag, .ledger, .control, .fabric] s (doneLoopClose a0 s) := by
  unfold doneLoopClose
  try dsimp only
  repeat' (first
    | (with_reducible apply Moved.refl)
    | (with_reducible assumption)
    | (with_reducible apply Moved.fold)
    | (with_reducible apply Moved.fold_fst)
    | ((with_reducible apply Moved.via); (case k => with_reducible apply State.accepted_moved); (case sub => decide))
    | ((with_reducible apply Moved.via); (case k => with_reducible apply answer_moved); (case sub => decide))
    | ((with_reducible apply Moved.via); (case k => with_reducible apply State.modLoop_moved); (case sub => decide))
    | (intro _ _)
    | (with_reducible apply Moved.ite)
    | split
    | dsimp only)

theorem doneLoopOpen_moved (a0 : _) (s : State) :
    Moved [.hub, .diag, .ledger, .control, .fabric] s (doneLoopOpen a0 s) := by
  unfold doneLoopOpen
  try dsimp only
  repeat' (first
    | (with_reducible apply Moved.refl)
    | (with_reducible assumption)
    | (with_reducible apply Moved.fold)
    | (with_reducible apply Moved.fold_fst)
    | ((with_reducible apply Moved.via); (case k => with_reducible apply answer_moved); (case sub => decide))
    | ((with_reducible apply Moved.via); (case k => with_reducible apply State.modLoop_moved); (case sub => decide))
    | (intro _ _)
    | (with_reducible apply Moved.ite)
    | split
    | dsimp only)

theorem doneValueWrite_moved (a0 : _) (s : State) :
    Moved [.hub, .diag, .ledger, .control, .fabric] s (doneValueWrite a0 s) := by
  unfold doneValueWrite
  try dsimp only
  repeat' (first
    | (with_reducible apply Moved.refl)
    | (with_reducible assumption)
    | (with_reducible apply Moved.fold)
    | (with_reducible apply Moved.fold_fst)
    | ((with_reducible apply Moved.via); (case k => with_reducible apply answer_moved); (case sub => decide))
    | ((with_reducible apply Moved.via); (case k => with_reducible apply State.modControl_moved); (case sub => decide))
    | (intro _ _)
    | (with_reducible apply Moved.ite)
    | split
    | dsimp only)

theorem doneLoopStatus_moved (a0 : _) (s : State) :
    Moved [.hub, .diag, .ledger, .fabric] s (doneLoopStatus a0 s) := by
  unfold doneLoopStatus
  try dsimp only
  repeat' (first
    | (with_reducible apply Moved.refl)
    | (with_reducible assumption)
    | (with_reducible apply Moved.fold)
    | (with_reducible apply Moved.fold_fst)
    | ((with_reducible apply Moved.via); (case k => with_reducible apply answer_moved); (case sub => decide))
    | (intro _ _)
    | (with_reducible apply Moved.ite)
    | split
    | dsimp only)

theorem doneLoopRead_moved (a0 : _) (s : State) :
    Moved [.hub, .diag, .ledger, .fabric] s (doneLoopRead a0 s) := by
  unfold doneLoopRead
  try dsimp only
  repeat' (first
    | (with_reducible apply Moved.refl)
    | (with_reducible assumption)
    | (with_reducible apply Moved.fold)
    | (with_reducible apply Moved.fold_fst)
    | ((with_reducible apply Moved.via); (case k => with_reducible apply answer_moved); (case sub => decide))
    | (intro _ _)
    | (with_reducible apply Moved.ite)
    | split
    | dsimp only)

theorem doneLoopLanes_moved (a0 : _) (s : State) :
    Moved [.hub, .diag, .ledger, .fabric] s (doneLoopLanes a0 s) := by
  unfold doneLoopLanes
  try dsimp only
  repeat' (first
    | (with_reducible apply Moved.refl)
    | (with_reducible assumption)
    | (with_reducible apply Moved.fold)
    | (with_reducible apply Moved.fold_fst)
    | ((with_reducible apply Moved.via); (case k => with_reducible apply answer_moved); (case sub => decide))
    | (intro _ _)
    | (with_reducible apply Moved.ite)
    | split
    | dsimp only)

theorem doneLoopTrace_moved (a0 : _) (s : State) :
    Moved [.hub, .diag, .ledger, .control, .fabric] s (doneLoopTrace a0 s) := by
  unfold doneLoopTrace
  try dsimp only
  repeat' (first
    | (with_reducible apply Moved.refl)
    | (with_reducible assumption)
    | (with_reducible apply Moved.fold)
    | (with_reducible apply Moved.fold_fst)
    | ((with_reducible apply Moved.via); (case k => with_reducible apply State.modLane_moved); (case sub => decide))
    | ((with_reducible apply Moved.via); (case k => with_reducible apply answer_moved); (case sub => decide))
    | (intro _ _)
    | (with_reducible apply Moved.ite)
    | split
    | dsimp only)

theorem doneLoopTune_moved (a0 : _) (s : State) :
    Moved [.hub, .diag, .ledger, .control, .fabric, .deferred] s (doneLoopTune a0 s) := by
  unfold doneLoopTune
  try dsimp only
  repeat' (first
    | (with_reducible apply Moved.refl)
    | (with_reducible assumption)
    | (with_reducible apply Moved.fold)
    | (with_reducible apply Moved.fold_fst)
    | ((with_reducible apply Moved.via); (case k => with_reducible apply State.dropClosing_moved); (case sub => decide))
    | ((with_reducible apply Moved.via); (case k => with_reducible apply State.tellLoop_moved); (case sub => decide))
    | ((with_reducible apply Moved.via); (case k => with_reducible apply State.defer_moved); (case sub => decide))
    | ((with_reducible apply Moved.via); (case k => with_reducible apply State.accepted_moved); (case sub => decide))
    | ((with_reducible apply Moved.via); (case k => with_reducible apply State.modLoop_moved); (case sub => decide))
    | (intro _ _)
    | (with_reducible apply Moved.ite)
    | split
    | dsimp only)

theorem doneTuneAbort_moved (a0 : _) (s : State) :
    Moved [.hub, .diag, .ledger, .control, .stage, .fabric] s (doneTuneAbort a0 s) := by
  unfold doneTuneAbort
  try dsimp only
  repeat' (first
    | (with_reducible apply Moved.refl)
    | (with_reducible assumption)
    | (with_reducible apply Moved.fold)
    | (with_reducible apply Moved.fold_fst)
    | ((with_reducible apply Moved.via); (case k => with_reducible apply State.abortTune_moved); (case sub => decide))
    | ((with_reducible apply Moved.via); (case k => with_reducible apply answer_moved); (case sub => decide))
    | (intro _ _)
    | (with_reducible apply Moved.ite)
    | split
    | dsimp only)

theorem doneTuneCommit_moved (a0 : _) (s : State) :
    Moved [.hub, .diag, .ledger, .control, .fabric] s (doneTuneCommit a0 s) := by
  unfold doneTuneCommit
  try dsimp only
  repeat' (first
    | (with_reducible apply Moved.refl)
    | (with_reducible assumption)
    | (with_reducible apply Moved.fold)
    | (with_reducible apply Moved.fold_fst)
    | ((with_reducible apply Moved.via); (case k => with_reducible apply answer_moved); (case sub => decide))
    | ((with_reducible apply Moved.via); (case k => with_reducible apply State.modLoop_moved); (case sub => decide))
    | (intro _ _)
    | (with_reducible apply Moved.ite)
    | split
    | dsimp only)

theorem doneTuneSettleEnd_moved (a0 : _) (a1 : _) (s : State) :
    Moved [.hub, .diag, .control, .stage] s (doneTuneSettleEnd a0 a1 s) := by
  unfold doneTuneSettleEnd
  try dsimp only
  repeat' (first
    | (with_reducible apply Moved.refl)
    | (with_reducible assumption)
    | (with_reducible apply Moved.fold)
    | (with_reducible apply Moved.fold_fst)
    | ((with_reducible apply Moved.via); (case k => with_reducible apply State.abortTune_moved); (case sub => decide))
    | ((with_reducible apply Moved.via); (case k => with_reducible apply State.modLoop_moved); (case sub => decide))
    | (intro _ _)
    | (with_reducible apply Moved.ite)
    | split
    | dsimp only)

theorem doneTuneHalfCycleTimeout_moved (a0 : _) (a1 : _) (s : State) :
    Moved [.hub, .diag, .control, .stage] s (doneTuneHalfCycleTimeout a0 a1 s) := by
  unfold doneTuneHalfCycleTimeout
  try dsimp only
  repeat' (first
    | (with_reducible apply Moved.refl)
    | (with_reducible assumption)
    | (with_reducible apply Moved.fold)
    | (with_reducible apply Moved.fold_fst)
    | ((with_reducible apply Moved.via); (case k => with_reducible apply State.abortTune_moved); (case sub => decide))
    | (intro _ _)
    | (with_reducible apply Moved.ite)
    | split
    | dsimp only)

theorem doneTuneTimeLimit_moved (a0 : _) (a1 : _) (s : State) :
    Moved [.hub, .diag, .control, .stage] s (doneTuneTimeLimit a0 a1 s) := by
  unfold doneTuneTimeLimit
  try dsimp only
  repeat' (first
    | (with_reducible apply Moved.refl)
    | (with_reducible assumption)
    | (with_reducible apply Moved.fold)
    | (with_reducible apply Moved.fold_fst)
    | ((with_reducible apply Moved.via); (case k => with_reducible apply State.abortTune_moved); (case sub => decide))
    | (intro _ _)
    | (with_reducible apply Moved.ite)
    | split
    | dsimp only)

theorem doneSignalMessage_moved (a0 : _) (a1 : _) (a2 : _) (a3 : _) (s : State) :
    Moved [.diag, .control] s (doneSignalMessage a0 a1 a2 a3 s) := by
  unfold doneSignalMessage
  try dsimp only
  repeat' (first
    | (with_reducible apply Moved.refl)
    | (with_reducible assumption)
    | (with_reducible apply Moved.fold)
    | (with_reducible apply Moved.fold_fst)
    | ((with_reducible apply Moved.via); (case k => with_reducible apply State.modControl_moved); (case sub => decide))
    | ((with_reducible apply Moved.via); (case k => with_reducible apply State.count_moved); (case sub => decide))
    | (intro _ _)
    | (with_reducible apply Moved.ite)
    | split
    | dsimp only)

end Sys2Proof.Machine
end

