-- ==== Sys2Proof/Laws/MovedNavOps.lean ====
section
/-! SUPPORT. What each operation of Machine/NavOps.lean may change: nothing but the parts named. -/

namespace Sys2Proof.Machine

set_option maxRecDepth 4000

theorem State.modBase_moved (s : State) (a1 : _) :
    Moved [.nav] s (State.modBase s a1) := by
  unfold State.modBase
  try dsimp only
  repeat' (first
    | (with_reducible apply Moved.refl)
    | (with_reducible assumption)
    | (with_reducible apply Moved.fold)
    | (with_reducible apply Moved.fold_fst)
    | ((with_reducible apply Moved.via); (case k => with_reducible apply set_nav); (case sub => decide))
    | (intro _ _)
    | (with_reducible apply Moved.ite)
    | split
    | dsimp only)

theorem State.modAntenna_moved (s : State) (a1 : _) (a2 : _) :
    Moved [.nav] s (State.modAntenna s a1 a2) := by
  unfold State.modAntenna
  try dsimp only
  repeat' (first
    | (with_reducible apply Moved.refl)
    | (with_reducible assumption)
    | (with_reducible apply Moved.fold)
    | (with_reducible apply Moved.fold_fst)
    | ((with_reducible apply Moved.via); (case k => with_reducible apply State.modBase_moved); (case sub => decide))
    | (intro _ _)
    | (with_reducible apply Moved.ite)
    | split
    | dsimp only)

theorem State.setBias_moved (s : State) (a1 : _) (a2 : _) (a3 : _) :
    Moved [.hub, .diag, .nav] s (State.setBias s a1 a2 a3) := by
  unfold State.setBias
  try dsimp only
  repeat' (first
    | (with_reducible apply Moved.refl)
    | (with_reducible assumption)
    | (with_reducible apply Moved.fold)
    | (with_reducible apply Moved.fold_fst)
    | ((with_reducible apply Moved.via); (case k => with_reducible apply State.modAntenna_moved); (case sub => decide))
    | ((with_reducible apply Moved.via); (case k => with_reducible apply State.raise_moved); (case sub => decide))
    | (intro _ _)
    | (with_reducible apply Moved.ite)
    | split
    | dsimp only)

theorem State.setNavChan_moved (s : State) (a1 : _) (a2 : _) :
    Moved [.nav] s (State.setNavChan s a1 a2) := by
  unfold State.setNavChan
  try dsimp only
  repeat' (first
    | (with_reducible apply Moved.refl)
    | (with_reducible assumption)
    | (with_reducible apply Moved.fold)
    | (with_reducible apply Moved.fold_fst)
    | ((with_reducible apply Moved.via); (case k => with_reducible apply State.modBase_moved); (case sub => decide))
    | (intro _ _)
    | (with_reducible apply Moved.ite)
    | split
    | dsimp only)

theorem State.startAcq_moved (s : State) (a1 : _) :
    Moved [.diag, .nav] s (State.startAcq s a1) := by
  unfold State.startAcq
  try dsimp only
  repeat' (first
    | (with_reducible apply Moved.refl)
    | (with_reducible assumption)
    | (with_reducible apply Moved.fold)
    | (with_reducible apply Moved.fold_fst)
    | ((with_reducible apply Moved.via); (case k => with_reducible apply State.setNavChan_moved); (case sub => decide))
    | ((with_reducible apply Moved.via); (case k => with_reducible apply State.count_moved); (case sub => decide))
    | (intro _ _)
    | (with_reducible apply Moved.ite)
    | split
    | dsimp only)

theorem State.navStart_moved (s : State) (a1 : _) (a2 : _) (a3 : _) (a4 : _) :
    Moved [.hub, .diag, .nav] s (State.navStart s a1 a2 a3 a4) := by
  unfold State.navStart
  try dsimp only
  repeat' (first
    | (with_reducible apply Moved.refl)
    | (with_reducible assumption)
    | (with_reducible apply Moved.fold)
    | (with_reducible apply Moved.fold_fst)
    | ((with_reducible apply Moved.via); (case k => with_reducible apply State.startAcq_moved); (case sub => decide))
    | ((with_reducible apply Moved.via); (case k => with_reducible apply State.setBias_moved); (case sub => decide))
    | ((with_reducible apply Moved.via); (case k => with_reducible apply State.modBase_moved); (case sub => decide))
    | ((with_reducible apply Moved.via); (case k => with_reducible apply State.modTimekeeper_moved); (case sub => decide))
    | (intro _ _)
    | (with_reducible apply Moved.ite)
    | split
    | dsimp only)

theorem State.assignView_moved (s : State) (a1 : _) :
    Moved [.diag, .nav] s (State.assignView s a1) := by
  unfold State.assignView
  try dsimp only
  repeat' (first
    | (with_reducible apply Moved.refl)
    | (with_reducible assumption)
    | (with_reducible apply Moved.fold)
    | (with_reducible apply Moved.fold_fst)
    | ((with_reducible apply Moved.via); (case k => with_reducible apply State.startAcq_moved); (case sub => decide))
    | ((with_reducible apply Moved.via); (case k => with_reducible apply State.setNavChan_moved); (case sub => decide))
    | (intro _ _)
    | (with_reducible apply Moved.ite)
    | split
    | dsimp only)

theorem State.reallocate_moved (s : State) (a1 : _) :
    Moved [.diag, .nav] s (State.reallocate s a1) := by
  unfold State.reallocate
  try dsimp only
  repeat' (first
    | (with_reducible apply Moved.refl)
    | (with_reducible assumption)
    | (with_reducible apply Moved.fold)
    | (with_reducible apply Moved.fold_fst)
    | ((with_reducible apply Moved.via); (case k => with_reducible apply State.assignView_moved); (case sub => decide))
    | ((with_reducible apply Moved.via); (case k => with_reducible apply State.modBase_moved); (case sub => decide))
    | (intro _ _)
    | (with_reducible apply Moved.ite)
    | split
    | dsimp only)

theorem State.raiseClass_moved (s : State) :
    Moved [.nav] s (State.raiseClass s) := by
  unfold State.raiseClass
  try dsimp only
  repeat' (first
    | (with_reducible apply Moved.refl)
    | (with_reducible assumption)
    | (with_reducible apply Moved.fold)
    | (with_reducible apply Moved.fold_fst)
    | ((with_reducible apply Moved.via); (case k => with_reducible apply State.modBase_moved); (case sub => decide))
    | (intro _ _)
    | (with_reducible apply Moved.ite)
    | split
    | dsimp only)

theorem State.modNavChan_moved (s : State) (a1 : _) (a2 : _) :
    Moved [.nav] s (State.modNavChan s a1 a2) := by
  unfold State.modNavChan
  try dsimp only
  repeat' (first
    | (with_reducible apply Moved.refl)
    | (with_reducible assumption)
    | (with_reducible apply Moved.fold)
    | (with_reducible apply Moved.fold_fst)
    | ((with_reducible apply Moved.via); (case k => with_reducible apply State.modBase_moved); (case sub => decide))
    | (intro _ _)
    | (with_reducible apply Moved.ite)
    | split
    | dsimp only)

theorem State.modBand_moved (s : State) (a1 : _) (a2 : _) (a3 : _) :
    Moved [.nav] s (State.modBand s a1 a2 a3) := by
  unfold State.modBand
  try dsimp only
  repeat' (first
    | (with_reducible apply Moved.refl)
    | (with_reducible assumption)
    | (with_reducible apply Moved.fold)
    | (with_reducible apply Moved.fold_fst)
    | ((with_reducible apply Moved.via); (case k => with_reducible apply State.modAntenna_moved); (case sub => decide))
    | (intro _ _)
    | (with_reducible apply Moved.ite)
    | split
    | dsimp only)

theorem State.modRtk_moved (s : State) (a1 : _) :
    Moved [.nav] s (State.modRtk s a1) := by
  unfold State.modRtk
  try dsimp only
  repeat' (first
    | (with_reducible apply Moved.refl)
    | (with_reducible assumption)
    | (with_reducible apply Moved.fold)
    | (with_reducible apply Moved.fold_fst)
    | ((with_reducible apply Moved.via); (case k => with_reducible apply set_nav); (case sub => decide))
    | (intro _ _)
    | (with_reducible apply Moved.ite)
    | split
    | dsimp only)

theorem State.takeFrame_moved (s : State) (a1 : _) :
    Moved [.diag, .nav] s (State.takeFrame s a1) := by
  unfold State.takeFrame
  try dsimp only
  repeat' (first
    | (with_reducible apply Moved.refl)
    | (with_reducible assumption)
    | (with_reducible apply Moved.fold)
    | (with_reducible apply Moved.fold_fst)
    | ((with_reducible apply Moved.via); (case k => with_reducible apply State.modRtk_moved); (case sub => decide))
    | ((with_reducible apply Moved.via); (case k => with_reducible apply State.count_moved); (case sub => decide))
    | (intro _ _)
    | (with_reducible apply Moved.ite)
    | split
    | dsimp only)

theorem State.parseRtcm_moved (a0 : _) (s : State) :
    Moved [.diag, .nav] s (State.parseRtcm a0 s) := by
  induction a0 generalizing s with
  | zero => exact Moved.refl _ _
  | succ n ih =>
    unfold State.parseRtcm
    try dsimp only
    repeat' (first
      | (with_reducible apply Moved.refl)
      | (with_reducible assumption)
      | ((with_reducible apply Moved.via); (case k => with_reducible apply ih); (case sub => decide))
      | (with_reducible apply Moved.fold)
      | (with_reducible apply Moved.fold_fst)
      | ((with_reducible apply Moved.via); (case k => with_reducible apply State.takeFrame_moved); (case sub => decide))
      | ((with_reducible apply Moved.via); (case k => with_reducible apply State.modRtk_moved); (case sub => decide))
      | ((with_reducible apply Moved.via); (case k => with_reducible apply State.count_moved); (case sub => decide))
      | (intro _ _)
      | (with_reducible apply Moved.ite)
      | split
      | dsimp only)

theorem State.trackReady_moved (s : State) :
    Moved [.nav] s (State.trackReady s) := by
  unfold State.trackReady
  try dsimp only
  repeat' (first
    | (with_reducible apply Moved.refl)
    | (with_reducible assumption)
    | (with_reducible apply Moved.fold)
    | (with_reducible apply Moved.fold_fst)
    | ((with_reducible apply Moved.via); (case k => with_reducible apply State.modBase_moved); (case sub => decide))
    | (intro _ _)
    | (with_reducible apply Moved.ite)
    | split
    | dsimp only)

end Sys2Proof.Machine
end

