-- ==== Sys2Proof/Laws/MovedGuideOps.lean ====
section
/-! SUPPORT. What each operation of Machine/GuideOps.lean may change: nothing but the parts named. -/

namespace Sys2Proof.Machine

set_option maxRecDepth 4000

theorem State.modFusion_moved (s : State) (a1 : _) :
    Moved [.nav] s (State.modFusion s a1) := by
  unfold State.modFusion
  try dsimp only
  repeat' (first
    | (with_reducible apply Moved.refl)
    | (with_reducible assumption)
    | (with_reducible apply Moved.fold)
    | (with_reducible apply Moved.fold_fst)
    | ((with_reducible apply Moved.via); (case k => with_reducible apply set_nav); (case sub => decide))
    | (intro _ _)
    | (with_reducible apply Moved.ite)
    | split
    | dsimp only)

theorem State.putSignal_moved (s : State) (a1 : _) (a2 : _) (a3 : _) :
    Moved [.control] s (State.putSignal s a1 a2 a3) := by
  unfold State.putSignal
  try dsimp only
  repeat' (first
    | (with_reducible apply Moved.refl)
    | (with_reducible assumption)
    | (with_reducible apply Moved.fold)
    | (with_reducible apply Moved.fold_fst)
    | ((with_reducible apply Moved.via); (case k => with_reducible apply State.modControl_moved); (case sub => decide))
    | (intro _ _)
    | (with_reducible apply Moved.ite)
    | split
    | dsimp only)

theorem State.writeSteer_moved (s : State) (a1 : _) :
    Moved [.control] s (State.writeSteer s a1) := by
  unfold State.writeSteer
  try dsimp only
  repeat' (first
    | (with_reducible apply Moved.refl)
    | (with_reducible assumption)
    | (with_reducible apply Moved.fold)
    | (with_reducible apply Moved.fold_fst)
    | ((with_reducible apply Moved.via); (case k => with_reducible apply State.putSignal_moved); (case sub => decide))
    | (intro _ _)
    | (with_reducible apply Moved.ite)
    | split
    | dsimp only)

theorem State.disengage_moved (s : State) (a1 : _) :
    Moved [.hub, .diag, .control, .nav] s (State.disengage s a1) := by
  unfold State.disengage
  try dsimp only
  repeat' (first
    | (with_reducible apply Moved.refl)
    | (with_reducible assumption)
    | (with_reducible apply Moved.fold)
    | (with_reducible apply Moved.fold_fst)
    | ((with_reducible apply Moved.via); (case k => with_reducible apply State.writeSteer_moved); (case sub => decide))
    | ((with_reducible apply Moved.via); (case k => with_reducible apply State.modFusion_moved); (case sub => decide))
    | ((with_reducible apply Moved.via); (case k => with_reducible apply State.raise_moved); (case sub => decide))
    | ((with_reducible apply Moved.via); (case k => with_reducible apply State.count_moved); (case sub => decide))
    | (intro _ _)
    | (with_reducible apply Moved.ite)
    | split
    | dsimp only)

theorem State.guidance_moved (s : State) (a1 : _) :
    Moved [.hub, .diag, .control, .nav] s (State.guidance s a1) := by
  unfold State.guidance
  try dsimp only
  repeat' (first
    | (with_reducible apply Moved.refl)
    | (with_reducible assumption)
    | (with_reducible apply Moved.fold)
    | (with_reducible apply Moved.fold_fst)
    | ((with_reducible apply Moved.via); (case k => with_reducible apply State.disengage_moved); (case sub => decide))
    | ((with_reducible apply Moved.via); (case k => with_reducible apply State.writeSteer_moved); (case sub => decide))
    | ((with_reducible apply Moved.via); (case k => with_reducible apply State.modFusion_moved); (case sub => decide))
    | (intro _ _)
    | (with_reducible apply Moved.ite)
    | split
    | dsimp only)

theorem State.keepTrack_moved (s : State) (a1 : _) :
    Moved [.functions] s (State.keepTrack s a1) := by
  unfold State.keepTrack
  try dsimp only
  repeat' (first
    | (with_reducible apply Moved.refl)
    | (with_reducible assumption)
    | (with_reducible apply Moved.fold)
    | (with_reducible apply Moved.fold_fst)
    | ((with_reducible apply Moved.via); (case k => with_reducible apply State.modFunctions_moved); (case sub => decide))
    | (intro _ _)
    | (with_reducible apply Moved.ite)
    | split
    | dsimp only)

theorem State.steerStale_moved (s : State) :
    Moved [.hub, .diag, .control, .nav] s (State.steerStale s) := by
  unfold State.steerStale
  try dsimp only
  repeat' (first
    | (with_reducible apply Moved.refl)
    | (with_reducible assumption)
    | (with_reducible apply Moved.fold)
    | (with_reducible apply Moved.fold_fst)
    | ((with_reducible apply Moved.via); (case k => with_reducible apply State.disengage_moved); (case sub => decide))
    | (intro _ _)
    | (with_reducible apply Moved.ite)
    | split
    | dsimp only)

end Sys2Proof.Machine
end

