-- ==== Sys2Proof/Laws/MovedFunctionOps.lean ====
section
/-! SUPPORT. What each operation of Machine/FunctionOps.lean may change: nothing but the parts named. -/

namespace Sys2Proof.Machine

set_option maxRecDepth 4000

theorem State.release_moved (s : State) (a1 : _) :
    Moved [.hub, .diag, .ledger, .control, .stage, .sections] s (State.release s a1) := by
  unfold State.release
  try dsimp only
  repeat' (first
    | (with_reducible apply Moved.refl)
    | (with_reducible assumption)
    | (with_reducible apply Moved.fold)
    | (with_reducible apply Moved.fold_fst)
    | ((with_reducible apply Moved.via); (case k => with_reducible apply State.named_moved); (case sub => decide))
    | ((with_reducible apply Moved.via); (case k => with_reducible apply State.openLoop_moved); (case sub => decide))
    | ((with_reducible apply Moved.via); (case k => with_reducible apply State.finishRequests_moved); (case sub => decide))
    | ((with_reducible apply Moved.via); (case k => with_reducible apply State.commandOff_moved); (case sub => decide))
    | (intro _ _)
    | (with_reducible apply Moved.ite)
    | split
    | dsimp only)

theorem State.haltInst_moved (s : State) (a1 : _) (a2 : _) (a3 : _) (a4 : _) :
    Moved [.hub, .diag, .ledger, .control, .stage, .functions, .sections] s (State.haltInst s a1 a2 a3 a4) := by
  unfold State.haltInst
  try dsimp only
  repeat' (first
    | (with_reducible apply Moved.refl)
    | (with_reducible assumption)
    | (with_reducible apply Moved.fold)
    | (with_reducible apply Moved.fold_fst)
    | ((with_reducible apply Moved.via); (case k => with_reducible apply State.settle_moved); (case sub => decide))
    | ((with_reducible apply Moved.via); (case k => with_reducible apply State.release_moved); (case sub => decide))
    | ((with_reducible apply Moved.via); (case k => with_reducible apply State.modInst_moved); (case sub => decide))
    | ((with_reducible apply Moved.via); (case k => with_reducible apply State.raise_moved); (case sub => decide))
    | ((with_reducible apply Moved.via); (case k => with_reducible apply State.count_moved); (case sub => decide))
    | (intro _ _)
    | (with_reducible apply Moved.ite)
    | split
    | dsimp only)

theorem State.instOn_moved (s : State) (a1 : _) :
    Moved [.hub, .power, .diag, .ledger, .stage, .sections] s (State.instOn s a1) := by
  unfold State.instOn
  try dsimp only
  repeat' (first
    | (with_reducible apply Moved.refl)
    | (with_reducible assumption)
    | (with_reducible apply Moved.fold)
    | (with_reducible apply Moved.fold_fst)
    | ((with_reducible apply Moved.via); (case k => with_reducible apply State.named_moved); (case sub => decide))
    | ((with_reducible apply Moved.via); (case k => with_reducible apply State.finishRequests_moved); (case sub => decide))
    | ((with_reducible apply Moved.via); (case k => with_reducible apply State.commandOn_moved); (case sub => decide))
    | ((with_reducible apply Moved.via); (case k => with_reducible apply State.endEntries_moved); (case sub => decide))
    | ((with_reducible apply Moved.via); (case k => with_reducible apply State.endBegun_moved); (case sub => decide))
    | (intro _ _)
    | (with_reducible apply Moved.ite)
    | split
    | dsimp only)

theorem State.askClose_moved (s : State) (a1 : _) (a2 : _) :
    Moved [.control, .functions] s (State.askClose s a1 a2) := by
  unfold State.askClose
  try dsimp only
  repeat' (first
    | (with_reducible apply Moved.refl)
    | (with_reducible assumption)
    | (with_reducible apply Moved.fold)
    | (with_reducible apply Moved.fold_fst)
    | ((with_reducible apply Moved.via); (case k => with_reducible apply State.modInst_moved); (case sub => decide))
    | ((with_reducible apply Moved.via); (case k => with_reducible apply State.modLoop_moved); (case sub => decide))
    | (intro _ _)
    | (with_reducible apply Moved.ite)
    | split
    | dsimp only)

theorem State.progress_moved (s : State) (a1 : _) :
    Moved [.hub, .power, .diag, .ledger, .control, .stage, .functions, .sections] s (State.progress s a1) := by
  unfold State.progress
  try dsimp only
  repeat' (first
    | (with_reducible apply Moved.refl)
    | (with_reducible assumption)
    | (with_reducible apply Moved.fold)
    | (with_reducible apply Moved.fold_fst)
    | ((with_reducible apply Moved.via); (case k => with_reducible apply State.askClose_moved); (case sub => decide))
    | ((with_reducible apply Moved.via); (case k => with_reducible apply State.instOn_moved); (case sub => decide))
    | ((with_reducible apply Moved.via); (case k => with_reducible apply State.haltInst_moved); (case sub => decide))
    | ((with_reducible apply Moved.via); (case k => with_reducible apply State.settle_moved); (case sub => decide))
    | ((with_reducible apply Moved.via); (case k => with_reducible apply State.modInst_moved); (case sub => decide))
    | (intro _ _)
    | (with_reducible apply Moved.ite)
    | split
    | dsimp only)

theorem State.nextChannel_moved (s : State) (a1 : _) :
    Moved [.hub, .power, .diag, .ledger, .control, .stage, .functions, .sections] s (State.nextChannel s a1) := by
  unfold State.nextChannel
  try dsimp only
  repeat' (first
    | (with_reducible apply Moved.refl)
    | (with_reducible assumption)
    | (with_reducible apply Moved.fold)
    | (with_reducible apply Moved.fold_fst)
    | ((with_reducible apply Moved.via); (case k => with_reducible apply State.progress_moved); (case sub => decide))
    | ((with_reducible apply Moved.via); (case k => with_reducible apply State.instOn_moved); (case sub => decide))
    | ((with_reducible apply Moved.via); (case k => with_reducible apply State.haltInst_moved); (case sub => decide))
    | ((with_reducible apply Moved.via); (case k => with_reducible apply State.modInst_moved); (case sub => decide))
    | (intro _ _)
    | (with_reducible apply Moved.ite)
    | split
    | dsimp only)

theorem State.startInst_moved (s : State) (a1 : _) (a2 : _) (a3 : _) (a4 : _) :
    Moved [.hub, .power, .diag, .ledger, .control, .stage, .functions, .sections] s (State.startInst s a1 a2 a3 a4) := by
  unfold State.startInst
  try dsimp only
  repeat' (first
    | (with_reducible apply Moved.refl)
    | (with_reducible assumption)
    | (with_reducible apply Moved.fold)
    | (with_reducible apply Moved.fold_fst)
    | ((with_reducible apply Moved.via); (case k => with_reducible apply State.nextChannel_moved); (case sub => decide))
    | ((with_reducible apply Moved.via); (case k => with_reducible apply State.progress_moved); (case sub => decide))
    | ((with_reducible apply Moved.via); (case k => with_reducible apply State.modInst_moved); (case sub => decide))
    | (intro _ _)
    | (with_reducible apply Moved.ite)
    | split
    | dsimp only)

theorem State.writeSpOut_moved (s : State) (a1 : _) (a2 : _) :
    Moved [.control] s (State.writeSpOut s a1 a2) := by
  unfold State.writeSpOut
  try dsimp only
  repeat' (first
    | (with_reducible apply Moved.refl)
    | (with_reducible assumption)
    | (with_reducible apply Moved.fold)
    | (with_reducible apply Moved.fold_fst)
    | ((with_reducible apply Moved.via); (case k => with_reducible apply State.putSignal_moved); (case sub => decide))
    | (intro _ _)
    | (with_reducible apply Moved.ite)
    | split
    | dsimp only)

theorem State.runCtrl_moved (s : State) (a1 : _) :
    Moved [.control, .functions] s (State.runCtrl s a1) := by
  unfold State.runCtrl
  try dsimp only
  repeat' (first
    | (with_reducible apply Moved.refl)
    | (with_reducible assumption)
    | (with_reducible apply Moved.fold)
    | (with_reducible apply Moved.fold_fst)
    | ((with_reducible apply Moved.via); (case k => with_reducible apply State.writeSpOut_moved); (case sub => decide))
    | ((with_reducible apply Moved.via); (case k => with_reducible apply State.modInst_moved); (case sub => decide))
    | (intro _ _)
    | (with_reducible apply Moved.ite)
    | split
    | dsimp only)

theorem State.runFlow_moved (s : State) (a1 : _) :
    Moved [.control, .functions] s (State.runFlow s a1) := by
  unfold State.runFlow
  try dsimp only
  repeat' (first
    | (with_reducible apply Moved.refl)
    | (with_reducible assumption)
    | (with_reducible apply Moved.fold)
    | (with_reducible apply Moved.fold_fst)
    | ((with_reducible apply Moved.via); (case k => with_reducible apply State.writeSpOut_moved); (case sub => decide))
    | ((with_reducible apply Moved.via); (case k => with_reducible apply State.modInst_moved); (case sub => decide))
    | (intro _ _)
    | (with_reducible apply Moved.ite)
    | split
    | dsimp only)

theorem State.runLoss_moved (s : State) (a1 : _) :
    Moved [.control, .functions] s (State.runLoss s a1) := by
  unfold State.runLoss
  try dsimp only
  repeat' (first
    | (with_reducible apply Moved.refl)
    | (with_reducible assumption)
    | (with_reducible apply Moved.fold)
    | (with_reducible apply Moved.fold_fst)
    | ((with_reducible apply Moved.via); (case k => with_reducible apply State.writeSpOut_moved); (case sub => decide))
    | ((with_reducible apply Moved.via); (case k => with_reducible apply State.modInst_moved); (case sub => decide))
    | ((with_reducible apply Moved.via); (case k => with_reducible apply State.modFunctions_moved); (case sub => decide))
    | (intro _ _)
    | (with_reducible apply Moved.ite)
    | split
    | dsimp only)

theorem State.runScale_moved (s : State) (a1 : _) :
    Moved [.control, .functions] s (State.runScale s a1) := by
  unfold State.runScale
  try dsimp only
  repeat' (first
    | (with_reducible apply Moved.refl)
    | (with_reducible assumption)
    | (with_reducible apply Moved.fold)
    | (with_reducible apply Moved.fold_fst)
    | ((with_reducible apply Moved.via); (case k => with_reducible apply State.writeSpOut_moved); (case sub => decide))
    | ((with_reducible apply Moved.via); (case k => with_reducible apply State.modInst_moved); (case sub => decide))
    | (intro _ _)
    | (with_reducible apply Moved.ite)
    | split
    | dsimp only)

theorem State.runInst_moved (s : State) (a1 : _) :
    Moved [.hub, .power, .diag, .ledger, .control, .stage, .functions, .sections] s (State.runInst s a1) := by
  unfold State.runInst
  try dsimp only
  repeat' (first
    | (with_reducible apply Moved.refl)
    | (with_reducible assumption)
    | (with_reducible apply Moved.fold)
    | (with_reducible apply Moved.fold_fst)
    | ((with_reducible apply Moved.via); (case k => with_reducible apply State.runScale_moved); (case sub => decide))
    | ((with_reducible apply Moved.via); (case k => with_reducible apply State.runLoss_moved); (case sub => decide))
    | ((with_reducible apply Moved.via); (case k => with_reducible apply State.runFlow_moved); (case sub => decide))
    | ((with_reducible apply Moved.via); (case k => with_reducible apply State.runCtrl_moved); (case sub => decide))
    | ((with_reducible apply Moved.via); (case k => with_reducible apply State.progress_moved); (case sub => decide))
    | ((with_reducible apply Moved.via); (case k => with_reducible apply State.haltInst_moved); (case sub => decide))
    | ((with_reducible apply Moved.via); (case k => with_reducible apply State.modInst_moved); (case sub => decide))
    | ((with_reducible apply Moved.via); (case k => with_reducible apply State.raise_moved); (case sub => decide))
    | ((with_reducible apply Moved.via); (case k => with_reducible apply State.count_moved); (case sub => decide))
    | (intro _ _)
    | (with_reducible apply Moved.ite)
    | split
    | dsimp only)

theorem State.govern_moved (s : State) (a1 : _) (a2 : _) (a3 : _) (a4 : _) :
    Moved [.hub, .diag, .control, .functions] s (State.govern s a1 a2 a3 a4) := by
  unfold State.govern
  try dsimp only
  repeat' (first
    | (with_reducible apply Moved.refl)
    | (with_reducible assumption)
    | (with_reducible apply Moved.fold)
    | (with_reducible apply Moved.fold_fst)
    | ((with_reducible apply Moved.via); (case k => with_reducible apply State.writeSpOut_moved); (case sub => decide))
    | ((with_reducible apply Moved.via); (case k => with_reducible apply State.modInst_moved); (case sub => decide))
    | ((with_reducible apply Moved.via); (case k => with_reducible apply State.raise_moved); (case sub => decide))
    | (intro _ _)
    | (with_reducible apply Moved.ite)
    | split
    | dsimp only)

theorem State.runGovernor_moved (s : State) (a1 : _) :
    Moved [.hub, .diag, .control, .functions] s (State.runGovernor s a1) := by
  unfold State.runGovernor
  try dsimp only
  repeat' (first
    | (with_reducible apply Moved.refl)
    | (with_reducible assumption)
    | (with_reducible apply Moved.fold)
    | (with_reducible apply Moved.fold_fst)
    | ((with_reducible apply Moved.via); (case k => with_reducible apply State.govern_moved); (case sub => decide))
    | ((with_reducible apply Moved.via); (case k => with_reducible apply State.writeSpOut_moved); (case sub => decide))
    | ((with_reducible apply Moved.via); (case k => with_reducible apply State.modInst_moved); (case sub => decide))
    | (intro _ _)
    | (with_reducible apply Moved.ite)
    | split
    | dsimp only)

theorem State.unmapped_moved (s : State) (a1 : _) (a2 : _) :
    Moved [.functions] s (State.unmapped s a1 a2) := by
  unfold State.unmapped
  try dsimp only
  repeat' (first
    | (with_reducible apply Moved.refl)
    | (with_reducible assumption)
    | (with_reducible apply Moved.fold)
    | (with_reducible apply Moved.fold_fst)
    | ((with_reducible apply Moved.via); (case k => with_reducible apply State.modInst_moved); (case sub => decide))
    | (intro _ _)
    | (with_reducible apply Moved.ite)
    | split
    | dsimp only)

theorem State.yieldCell_moved (s : State) (a1 : _) (a2 : _) (a3 : _) (a4 : _) (a5 : _) (a6 : _) (a7 : _) (a8 : _) :
    Moved [.hub, .diag, .functions, .place, .fleet] s (State.yieldCell s a1 a2 a3 a4 a5 a6 a7 a8) := by
  unfold State.yieldCell
  dsimp only
  split
  · rename_i t e
    have h : Moved [.place, .fleet] s t := by
      split at e
      · cases e; exact Moved.refl ..
      · obtain ⟨i, -, e⟩ := Option.map_eq_some_iff.mp e
        cases e
        exact State.writePlace_moved ..
    refine Moved.via (State.count_moved ..) ?_ (by decide)
    refine Moved.via (State.modInst_moved ..) ?_ (by decide)
    exact Moved.via (State.writeCell_moved ..) (Moved.via h (Moved.refl ..) (by decide)) (by decide)
  · with_reducible apply Moved.ite
    · exact Moved.via (State.unmapped_moved ..) (Moved.refl ..) (by decide)
    · refine Moved.via (State.raise_moved ..) ?_ (by decide)
      refine Moved.via (State.modInst_moved ..) ?_ (by decide)
      exact Moved.via (State.unmapped_moved ..) (Moved.refl ..) (by decide)

theorem State.runYield_moved (s : State) (a1 : _) :
    Moved [.hub, .diag, .functions, .place, .fleet] s (State.runYield s a1) := by
  unfold State.runYield
  try dsimp only
  repeat' (first
    | (with_reducible apply Moved.refl)
    | (with_reducible assumption)
    | (with_reducible apply Moved.fold)
    | (with_reducible apply Moved.fold_fst)
    | ((with_reducible apply Moved.via); (case k => with_reducible apply State.yieldCell_moved); (case sub => decide))
    | ((with_reducible apply Moved.via); (case k => with_reducible apply State.unmapped_moved); (case sub => decide))
    | ((with_reducible apply Moved.via); (case k => with_reducible apply State.modInst_moved); (case sub => decide))
    | ((with_reducible apply Moved.via); (case k => with_reducible apply State.count_moved); (case sub => decide))
    | (intro _ _)
    | (with_reducible apply Moved.ite)
    | split
    | dsimp only)

theorem State.commitInst_moved (s : State) (a1 : _) (a2 : _) :
    Moved [.hub, .power, .diag, .ledger, .control, .stage, .functions, .sections] s (State.commitInst s a1 a2) := by
  unfold State.commitInst
  try dsimp only
  repeat' (first
    | (with_reducible apply Moved.refl)
    | (with_reducible assumption)
    | (with_reducible apply Moved.fold)
    | (with_reducible apply Moved.fold_fst)
    | ((with_reducible apply Moved.via); (case k => with_reducible apply State.startInst_moved); (case sub => decide))
    | ((with_reducible apply Moved.via); (case k => with_reducible apply State.haltInst_moved); (case sub => decide))
    | ((with_reducible apply Moved.via); (case k => with_reducible apply State.modInst_moved); (case sub => decide))
    | ((with_reducible apply Moved.via); (case k => with_reducible apply State.raise_moved); (case sub => decide))
    | (intro _ _)
    | (with_reducible apply Moved.ite)
    | split
    | dsimp only)

theorem State.commitInsts_moved (s : State) (a1 : _) :
    Moved [.hub, .power, .diag, .ledger, .control, .stage, .functions, .sections] s (State.commitInsts s a1) := by
  unfold State.commitInsts
  try dsimp only
  repeat' (first
    | (with_reducible apply Moved.refl)
    | (with_reducible assumption)
    | (with_reducible apply Moved.fold)
    | (with_reducible apply Moved.fold_fst)
    | ((with_reducible apply Moved.via); (case k => with_reducible apply State.commitInst_moved); (case sub => decide))
    | (intro _ _)
    | (with_reducible apply Moved.ite)
    | split
    | dsimp only)

end Sys2Proof.Machine
end

