-- ==== Sys2Proof/Laws/MovedInferenceOps.lean ====
section
/-! SUPPORT. What each operation of Machine/InferenceOps.lean may change: nothing but the parts named. -/

namespace Sys2Proof.Machine

set_option maxRecDepth 4000

theorem State.modInfer_moved (s : State) (a1 : _) :
    Moved [.infer] s (State.modInfer s a1) := by
  unfold State.modInfer
  try dsimp only
  repeat' (first
    | (with_reducible apply Moved.refl)
    | (with_reducible assumption)
    | (with_reducible apply Moved.fold)
    | (with_reducible apply Moved.fold_fst)
    | ((with_reducible apply Moved.via); (case k => with_reducible apply set_infer); (case sub => decide))
    | (intro _ _)
    | (with_reducible apply Moved.ite)
    | split
    | dsimp only)

theorem State.modJob_moved (s : State) (a1 : _) (a2 : _) :
    Moved [.infer] s (State.modJob s a1 a2) := by
  unfold State.modJob
  try dsimp only
  repeat' (first
    | (with_reducible apply Moved.refl)
    | (with_reducible assumption)
    | (with_reducible apply Moved.fold)
    | (with_reducible apply Moved.fold_fst)
    | ((with_reducible apply Moved.via); (case k => with_reducible apply State.modInfer_moved); (case sub => decide))
    | (intro _ _)
    | (with_reducible apply Moved.ite)
    | split
    | dsimp only)

theorem State.dropInput_moved (s : State) (a1 : _) (a2 : _) :
    Moved [.infer] s (State.dropInput s a1 a2) := by
  unfold State.dropInput
  try dsimp only
  repeat' (first
    | (with_reducible apply Moved.refl)
    | (with_reducible assumption)
    | (with_reducible apply Moved.fold)
    | (with_reducible apply Moved.fold_fst)
    | ((with_reducible apply Moved.via); (case k => with_reducible apply State.modJob_moved); (case sub => decide))
    | (intro _ _)
    | (with_reducible apply Moved.ite)
    | split
    | dsimp only)

theorem State.tellLate_moved (s : State) (a1 : _) :
    Moved [.hub, .diag, .infer] s (State.tellLate s a1) := by
  unfold State.tellLate
  try dsimp only
  repeat' (first
    | (with_reducible apply Moved.refl)
    | (with_reducible assumption)
    | (with_reducible apply Moved.fold)
    | (with_reducible apply Moved.fold_fst)
    | ((with_reducible apply Moved.via); (case k => with_reducible apply State.modJob_moved); (case sub => decide))
    | ((with_reducible apply Moved.via); (case k => with_reducible apply State.raise_moved); (case sub => decide))
    | (intro _ _)
    | (with_reducible apply Moved.ite)
    | split
    | dsimp only)

theorem State.result_moved (s : State) (a1 : _) (a2 : _) (a3 : _) (a4 : _) (a5 : _) (a6 : _) :
    Moved [.hub, .diag, .fabric, .infer] s (State.result s a1 a2 a3 a4 a5 a6) := by
  unfold State.result
  try dsimp only
  repeat' (first
    | (with_reducible apply Moved.refl)
    | (with_reducible assumption)
    | (with_reducible apply Moved.fold)
    | (with_reducible apply Moved.fold_fst)
    | ((with_reducible apply Moved.via); (case k => with_reducible apply State.tellLate_moved); (case sub => decide))
    | ((with_reducible apply Moved.via); (case k => with_reducible apply State.dropInput_moved); (case sub => decide))
    | ((with_reducible apply Moved.via); (case k => with_reducible apply State.modJob_moved); (case sub => decide))
    | ((with_reducible apply Moved.via); (case k => with_reducible apply State.present_moved); (case sub => decide))
    | (intro _ _)
    | (with_reducible apply Moved.ite)
    | split
    | dsimp only)

theorem State.poolLost_moved (s : State) :
    Moved [.hub, .diag, .place, .fabric, .infer] s (State.poolLost s) := by
  unfold State.poolLost
  try dsimp only
  repeat' (first
    | (with_reducible apply Moved.refl)
    | (with_reducible assumption)
    | (with_reducible apply Moved.fold)
    | (with_reducible apply Moved.fold_fst)
    | ((with_reducible apply Moved.via); (case k => with_reducible apply State.result_moved); (case sub => decide))
    | ((with_reducible apply Moved.via); (case k => with_reducible apply State.modInfer_moved); (case sub => decide))
    | ((with_reducible apply Moved.via); (case k => (with_reducible apply modPlace_moved); intro _; first | exact PlaceStep.same rfl rfl | exact ⟨Nat.le_succ _, fun h => h⟩ | exact ⟨Nat.le_refl _, fun h => h.sub (List.filter_sublist ..)⟩ | (refine ⟨Nat.le_refl _, fun h => ?_⟩; refine h.mapAll ?_ (by dsimp only); intro _ _ h; first | exact h | (split <;> exact h) | (unfold Placement.window; exact h))); (case sub => decide))
    | (intro _ _)
    | (with_reducible apply Moved.ite)
    | split
    | dsimp only)

theorem State.countAbandoned_moved (s : State) (a1 : _) :
    Moved [.diag] s (State.countAbandoned s a1) := by
  unfold State.countAbandoned
  try dsimp only
  repeat' (first
    | (with_reducible apply Moved.refl)
    | (with_reducible assumption)
    | (with_reducible apply Moved.fold)
    | (with_reducible apply Moved.fold_fst)
    | ((with_reducible apply Moved.via); (case k => with_reducible apply State.count_moved); (case sub => decide))
    | (intro _ _)
    | (with_reducible apply Moved.ite)
    | split
    | dsimp only)

theorem State.abandonOn_moved (s : State) (a1 : _) :
    Moved [.diag, .infer] s (State.abandonOn s a1) := by
  unfold State.abandonOn
  try dsimp only
  repeat' (first
    | (with_reducible apply Moved.refl)
    | (with_reducible assumption)
    | (with_reducible apply Moved.fold)
    | (with_reducible apply Moved.fold_fst)
    | ((with_reducible apply Moved.via); (case k => with_reducible apply State.countAbandoned_moved); (case sub => decide))
    | ((with_reducible apply Moved.via); (case k => with_reducible apply State.modJob_moved); (case sub => decide))
    | (intro _ _)
    | (with_reducible apply Moved.ite)
    | split
    | dsimp only)

theorem State.stageModel_moved (s : State) (a1 : _) :
    Moved [.hub, .diag, .ledger, .place] s (State.stageModel s a1) := by
  unfold State.stageModel
  try dsimp only
  repeat' (first
    | (with_reducible apply Moved.refl)
    | (with_reducible assumption)
    | (with_reducible apply Moved.fold)
    | (with_reducible apply Moved.fold_fst)
    | ((with_reducible apply Moved.via); (case k => with_reducible apply State.startMoves_moved); (case sub => decide))
    | ((with_reducible apply Moved.via); (case k => with_reducible apply State.makeRoom_moved); (case sub => decide))
    | (intro _ _)
    | (with_reducible apply Moved.ite)
    | split
    | dsimp only)

theorem State.stopJob_moved (s : State) (a1 : _) (a2 : _) :
    Moved [.diag, .infer] s (State.stopJob s a1 a2) := by
  unfold State.stopJob
  try dsimp only
  repeat' (first
    | (with_reducible apply Moved.refl)
    | (with_reducible assumption)
    | (with_reducible apply Moved.fold)
    | (with_reducible apply Moved.fold_fst)
    | ((with_reducible apply Moved.via); (case k => with_reducible apply State.countAbandoned_moved); (case sub => decide))
    | ((with_reducible apply Moved.via); (case k => with_reducible apply State.modJob_moved); (case sub => decide))
    | (intro _ _)
    | (with_reducible apply Moved.ite)
    | split
    | dsimp only)

theorem State.modInput_moved (s : State) (a1 : _) (a2 : _) (a3 : _) :
    Moved [.infer] s (State.modInput s a1 a2 a3) := by
  unfold State.modInput
  try dsimp only
  repeat' (first
    | (with_reducible apply Moved.refl)
    | (with_reducible assumption)
    | (with_reducible apply Moved.fold)
    | (with_reducible apply Moved.fold_fst)
    | ((with_reducible apply Moved.via); (case k => with_reducible apply State.modJob_moved); (case sub => decide))
    | (intro _ _)
    | (with_reducible apply Moved.ite)
    | split
    | dsimp only)

theorem State.endJob_moved (s : State) (a1 : _) (a2 : _) :
    Moved [.hub, .diag, .infer] s (State.endJob s a1 a2) := by
  unfold State.endJob
  try dsimp only
  repeat' (first
    | (with_reducible apply Moved.refl)
    | (with_reducible assumption)
    | (with_reducible apply Moved.fold)
    | (with_reducible apply Moved.fold_fst)
    | ((with_reducible apply Moved.via); (case k => with_reducible apply State.stopJob_moved); (case sub => decide))
    | ((with_reducible apply Moved.via); (case k => with_reducible apply State.raise_moved); (case sub => decide))
    | (intro _ _)
    | (with_reducible apply Moved.ite)
    | split
    | dsimp only)

theorem State.modelGone_moved (s : State) (a1 : _) :
    Moved [.hub, .diag, .infer] s (State.modelGone s a1) := by
  unfold State.modelGone
  try dsimp only
  repeat' (first
    | (with_reducible apply Moved.refl)
    | (with_reducible assumption)
    | (with_reducible apply Moved.fold)
    | (with_reducible apply Moved.fold_fst)
    | ((with_reducible apply Moved.via); (case k => with_reducible apply State.endJob_moved); (case sub => decide))
    | ((with_reducible apply Moved.via); (case k => with_reducible apply State.modInfer_moved); (case sub => decide))
    | ((with_reducible apply Moved.via); (case k => with_reducible apply State.raise_moved); (case sub => decide))
    | (intro _ _)
    | (with_reducible apply Moved.ite)
    | split
    | dsimp only)

theorem State.poolWithdrawn_moved (s : State) (a1 : _) :
    Moved [.infer, .fleet] s (State.poolWithdrawn s a1) := by
  unfold State.poolWithdrawn
  try dsimp only
  repeat' (first
    | (with_reducible apply Moved.refl)
    | (with_reducible assumption)
    | (with_reducible apply Moved.fold)
    | (with_reducible apply Moved.fold_fst)
    | ((with_reducible apply Moved.via); (case k => with_reducible apply State.modJob_moved); (case sub => decide))
    | ((with_reducible apply Moved.via); (case k => with_reducible apply set_fleet); (case sub => decide))
    | (intro _ _)
    | (with_reducible apply Moved.ite)
    | split
    | dsimp only)

theorem State.endJobs_moved (s : State) (a1 : _) :
    Moved [.hub, .diag, .infer] s (State.endJobs s a1) := by
  unfold State.endJobs
  try dsimp only
  repeat' (first
    | (with_reducible apply Moved.refl)
    | (with_reducible assumption)
    | (with_reducible apply Moved.fold)
    | (with_reducible apply Moved.fold_fst)
    | ((with_reducible apply Moved.via); (case k => with_reducible apply State.endJob_moved); (case sub => decide))
    | (intro _ _)
    | (with_reducible apply Moved.ite)
    | split
    | dsimp only)

theorem State.forgetInference_moved (s : State) :
    Moved [.infer] s (State.forgetInference s) := by
  unfold State.forgetInference
  try dsimp only
  repeat' (first
    | (with_reducible apply Moved.refl)
    | (with_reducible assumption)
    | (with_reducible apply Moved.fold)
    | (with_reducible apply Moved.fold_fst)
    | ((with_reducible apply Moved.via); (case k => with_reducible apply set_infer); (case sub => decide))
    | (intro _ _)
    | (with_reducible apply Moved.ite)
    | split
    | dsimp only)

end Sys2Proof.Machine
end

