-- ==== Sys2Proof/Laws/MovedNetOps.lean ====
section
/-! SUPPORT. What each operation of Machine/NetOps.lean may change: nothing but the parts named. -/

namespace Sys2Proof.Machine

set_option maxRecDepth 4000

theorem State.modEth_moved (s : State) (a1 : _) :
    Moved [.eth] s (State.modEth s a1) := by
  unfold State.modEth
  try dsimp only
  repeat' (first
    | (with_reducible apply Moved.refl)
    | (with_reducible assumption)
    | (with_reducible apply Moved.fold)
    | (with_reducible apply Moved.fold_fst)
    | ((with_reducible apply Moved.via); (case k => with_reducible apply set_eth); (case sub => decide))
    | (intro _ _)
    | (with_reducible apply Moved.ite)
    | split
    | dsimp only)

theorem State.modEthPort_moved (s : State) (a1 : _) (a2 : _) :
    Moved [.eth] s (State.modEthPort s a1 a2) := by
  unfold State.modEthPort
  try dsimp only
  repeat' (first
    | (with_reducible apply Moved.refl)
    | (with_reducible assumption)
    | (with_reducible apply Moved.fold)
    | (with_reducible apply Moved.fold_fst)
    | ((with_reducible apply Moved.via); (case k => with_reducible apply State.modEth_moved); (case sub => decide))
    | (intro _ _)
    | (with_reducible apply Moved.ite)
    | split
    | dsimp only)

theorem State.setLink_moved (s : State) (a1 : _) (a2 : _) (a3 : _) (a4 : _) :
    Moved [.hub, .diag, .eth] s (State.setLink s a1 a2 a3 a4) := by
  unfold State.setLink
  try dsimp only
  repeat' (first
    | (with_reducible apply Moved.refl)
    | (with_reducible assumption)
    | (with_reducible apply Moved.fold)
    | (with_reducible apply Moved.fold_fst)
    | ((with_reducible apply Moved.via); (case k => with_reducible apply State.modEthPort_moved); (case sub => decide))
    | ((with_reducible apply Moved.via); (case k => with_reducible apply State.raise_moved); (case sub => decide))
    | (intro _ _)
    | (with_reducible apply Moved.ite)
    | split
    | dsimp only)

theorem State.modFleet_moved (s : State) (a1 : _) :
    Moved [.fleet] s (State.modFleet s a1) := by
  unfold State.modFleet
  try dsimp only
  repeat' (first
    | (with_reducible apply Moved.refl)
    | (with_reducible assumption)
    | (with_reducible apply Moved.fold)
    | (with_reducible apply Moved.fold_fst)
    | ((with_reducible apply Moved.via); (case k => with_reducible apply set_fleet); (case sub => decide))
    | (intro _ _)
    | (with_reducible apply Moved.ite)
    | split
    | dsimp only)

theorem State.fleetEval_moved (s : State) :
    Moved [.hub, .diag, .fleet] s (State.fleetEval s) := by
  unfold State.fleetEval
  try dsimp only
  repeat' (first
    | (with_reducible apply Moved.refl)
    | (with_reducible assumption)
    | (with_reducible apply Moved.fold)
    | (with_reducible apply Moved.fold_fst)
    | ((with_reducible apply Moved.via); (case k => with_reducible apply State.modFleet_moved); (case sub => decide))
    | ((with_reducible apply Moved.via); (case k => with_reducible apply State.raise_moved); (case sub => decide))
    | (intro _ _)
    | (with_reducible apply Moved.ite)
    | split
    | dsimp only)

theorem State.dropEthFrame_moved (s : State) (a1 : _) :
    Moved [.eth] s (State.dropEthFrame s a1) := by
  unfold State.dropEthFrame
  try dsimp only
  repeat' (first
    | (with_reducible apply Moved.refl)
    | (with_reducible assumption)
    | (with_reducible apply Moved.fold)
    | (with_reducible apply Moved.fold_fst)
    | ((with_reducible apply Moved.via); (case k => with_reducible apply State.modEthPort_moved); (case sub => decide))
    | (intro _ _)
    | (with_reducible apply Moved.ite)
    | split
    | dsimp only)

theorem State.refuseDatagram_moved (s : State) (a1 : _) :
    Moved [.diag, .eth] s (State.refuseDatagram s a1) := by
  unfold State.refuseDatagram
  try dsimp only
  repeat' (first
    | (with_reducible apply Moved.refl)
    | (with_reducible assumption)
    | (with_reducible apply Moved.fold)
    | (with_reducible apply Moved.fold_fst)
    | ((with_reducible apply Moved.via); (case k => with_reducible apply State.dropEthFrame_moved); (case sub => decide))
    | ((with_reducible apply Moved.via); (case k => with_reducible apply State.count_moved); (case sub => decide))
    | (intro _ _)
    | (with_reducible apply Moved.ite)
    | split
    | dsimp only)

theorem State.egress_moved (s : State) (a1 : _) (a2 : _) (a3 : _) :
    Moved [.diag, .eth] s (State.egress s a1 a2 a3) := by
  unfold State.egress
  try dsimp only
  repeat' (first
    | (with_reducible apply Moved.refl)
    | (with_reducible assumption)
    | (with_reducible apply Moved.fold)
    | (with_reducible apply Moved.fold_fst)
    | ((with_reducible apply Moved.via); (case k => with_reducible apply State.dropEthFrame_moved); (case sub => decide))
    | ((with_reducible apply Moved.via); (case k => with_reducible apply State.modEthPort_moved); (case sub => decide))
    | ((with_reducible apply Moved.via); (case k => with_reducible apply State.countN_moved); (case sub => decide))
    | ((with_reducible apply Moved.via); (case k => with_reducible apply State.count_moved); (case sub => decide))
    | (intro _ _)
    | (with_reducible apply Moved.ite)
    | split
    | dsimp only)

theorem State.learn_moved (s : State) (a1 : _) (a2 : _) :
    Moved [.eth] s (State.learn s a1 a2) := by
  unfold State.learn
  try dsimp only
  repeat' (first
    | (with_reducible apply Moved.refl)
    | (with_reducible assumption)
    | (with_reducible apply Moved.fold)
    | (with_reducible apply Moved.fold_fst)
    | ((with_reducible apply Moved.via); (case k => with_reducible apply State.modEth_moved); (case sub => decide))
    | (intro _ _)
    | (with_reducible apply Moved.ite)
    | split
    | dsimp only)

theorem State.forward_moved (s : State) (a1 : _) (a2 : _) :
    Moved [.diag, .eth] s (State.forward s a1 a2).1 := by
  unfold State.forward
  try dsimp only
  repeat' (first
    | (with_reducible apply Moved.refl)
    | (with_reducible assumption)
    | (with_reducible apply Moved.fold)
    | (with_reducible apply Moved.fold_fst)
    | ((with_reducible apply Moved.via); (case k => with_reducible apply State.learn_moved); (case sub => decide))
    | ((with_reducible apply Moved.via); (case k => with_reducible apply State.egress_moved); (case sub => decide))
    | ((with_reducible apply Moved.via); (case k => with_reducible apply State.modEthPort_moved); (case sub => decide))
    | ((with_reducible apply Moved.via); (case k => with_reducible apply State.count_moved); (case sub => decide))
    | (intro _ _)
    | (with_reducible apply Moved.ite)
    | split
    | dsimp only)

theorem State.endpointFrame_moved (s : State) (a1 : _) (a2 : _) (a3 : _) :
    Moved [.diag, .eth] s (State.endpointFrame s a1 a2 a3) := by
  unfold State.endpointFrame
  try dsimp only
  repeat' (first
    | (with_reducible apply Moved.refl)
    | (with_reducible assumption)
    | (with_reducible apply Moved.fold)
    | (with_reducible apply Moved.fold_fst)
    | ((with_reducible apply Moved.via); (case k => with_reducible apply State.forward_moved); (case sub => decide))
    | ((with_reducible apply Moved.via); (case k => with_reducible apply State.modEthPort_moved); (case sub => decide))
    | (intro _ _)
    | (with_reducible apply Moved.ite)
    | split
    | (refine Moved.fst (by assumption) ?_)
    | dsimp only)

theorem State.arp_moved (s : State) (a1 : _) (a2 : _) (a3 : _) :
    Moved [.diag, .eth] s (State.arp s a1 a2 a3) := by
  unfold State.arp
  try dsimp only
  repeat' (first
    | (with_reducible apply Moved.refl)
    | (with_reducible assumption)
    | (with_reducible apply Moved.fold)
    | (with_reducible apply Moved.fold_fst)
    | ((with_reducible apply Moved.via); (case k => with_reducible apply State.endpointFrame_moved); (case sub => decide))
    | (intro _ _)
    | (with_reducible apply Moved.ite)
    | split
    | dsimp only)

theorem State.takeArp_moved (s : State) (a1 : _) :
    Moved [.diag, .eth] s (State.takeArp s a1) := by
  unfold State.takeArp
  try dsimp only
  repeat' (first
    | (with_reducible apply Moved.refl)
    | (with_reducible assumption)
    | (with_reducible apply Moved.fold)
    | (with_reducible apply Moved.fold_fst)
    | ((with_reducible apply Moved.via); (case k => with_reducible apply State.arp_moved); (case sub => decide))
    | ((with_reducible apply Moved.via); (case k => with_reducible apply State.modEth_moved); (case sub => decide))
    | (intro _ _)
    | (with_reducible apply Moved.ite)
    | split
    | dsimp only)

theorem State.takeIcmp_moved (s : State) (a1 : _) (a2 : _) :
    Moved [.diag, .eth] s (State.takeIcmp s a1 a2) := by
  unfold State.takeIcmp
  try dsimp only
  repeat' (first
    | (with_reducible apply Moved.refl)
    | (with_reducible assumption)
    | (with_reducible apply Moved.fold)
    | (with_reducible apply Moved.fold_fst)
    | ((with_reducible apply Moved.via); (case k => with_reducible apply State.endpointFrame_moved); (case sub => decide))
    | (intro _ _)
    | (with_reducible apply Moved.ite)
    | split
    | dsimp only)

theorem State.endpointTakes_moved (s : State) (a1 : _) (a2 : _) :
    Moved [.diag, .eth] s (State.endpointTakes s a1 a2) := by
  unfold State.endpointTakes
  try dsimp only
  repeat' (first
    | (with_reducible apply Moved.refl)
    | (with_reducible assumption)
    | (with_reducible apply Moved.fold)
    | (with_reducible apply Moved.fold_fst)
    | ((with_reducible apply Moved.via); (case k => with_reducible apply State.takeIcmp_moved); (case sub => decide))
    | ((with_reducible apply Moved.via); (case k => with_reducible apply State.takeArp_moved); (case sub => decide))
    | ((with_reducible apply Moved.via); (case k => with_reducible apply State.dropEthFrame_moved); (case sub => decide))
    | (intro _ _)
    | (with_reducible apply Moved.ite)
    | split
    | dsimp only)

theorem State.drainPort_moved (s : State) (a1 : _) :
    Moved [.eth] s (State.drainPort s a1) := by
  unfold State.drainPort
  try dsimp only
  repeat' (first
    | (with_reducible apply Moved.refl)
    | (with_reducible assumption)
    | (with_reducible apply Moved.fold)
    | (with_reducible apply Moved.fold_fst)
    | ((with_reducible apply Moved.via); (case k => with_reducible apply State.modEthPort_moved); (case sub => decide))
    | (intro _ _)
    | (with_reducible apply Moved.ite)
    | split
    | dsimp only)

/-- The state with a claimed tile differs in the coverage placement only. -/
theorem State.claimed_moved {s t : State} {h i fieldId cellDm : Nat} {x y lat lon : Int} {new : Bool}
    (e : s.claimTile h x y fieldId cellDm lat lon = some (i, new, t)) : Moved [.place, .fleet] s t := by
  unfold State.claimTile at e
  split at e
  · cases e; exact Moved.refl ..
  · obtain ⟨i, -, e⟩ := Option.map_eq_some_iff.mp e
    cases e
    exact State.writePlace_moved ..

theorem State.mergeInto_moved (s : State) (h : _) (x : _) (y : _) (fieldId : _) (cellDm : _) (lat : _) (lon : _) (col : _) (row : _)
    (bits : _) (time : _) (machine : _) (remote : _) :
    Moved [.place, .fleet] s (State.mergeInto s h x y fieldId cellDm lat lon col row bits time machine remote).1 := by
  unfold State.mergeInto
  split
  · exact Moved.refl ..
  · rename_i e
    exact Moved.via (State.mergeAt_moved ..) (State.claimed_moved e) (by decide)

theorem State.tilesFull_moved (s : State) (a1 : _) :
    Moved [.hub, .diag, .fleet] s (State.tilesFull s a1) := by
  unfold State.tilesFull
  try dsimp only
  repeat' (first
    | (with_reducible apply Moved.refl)
    | (with_reducible assumption)
    | (with_reducible apply Moved.fold)
    | (with_reducible apply Moved.fold_fst)
    | ((with_reducible apply Moved.via); (case k => with_reducible apply State.modFleet_moved); (case sub => decide))
    | ((with_reducible apply Moved.via); (case k => with_reducible apply State.raise_moved); (case sub => decide))
    | (intro _ _)
    | (with_reducible apply Moved.ite)
    | split
    | dsimp only)

theorem State.countFleet_moved (s : State) (a1 : _) (a2 : _) :
    Moved [.diag, .fleet] s (State.countFleet s a1 a2) := by
  unfold State.countFleet
  try dsimp only
  repeat' (first
    | (with_reducible apply Moved.refl)
    | (with_reducible assumption)
    | (with_reducible apply Moved.fold)
    | (with_reducible apply Moved.fold_fst)
    | ((with_reducible apply Moved.via); (case k => with_reducible apply State.modFleet_moved); (case sub => decide))
    | ((with_reducible apply Moved.via); (case k => with_reducible apply State.countN_moved); (case sub => decide))
    | (intro _ _)
    | (with_reducible apply Moved.ite)
    | split
    | dsimp only)

theorem State.sendUdp_moved (s : State) (a1 : _) (a2 : _) (a3 : _) (a4 : _) :
    Moved [.diag, .eth] s (State.sendUdp s a1 a2 a3 a4) := by
  unfold State.sendUdp
  try dsimp only
  repeat' (first
    | (with_reducible apply Moved.refl)
    | (with_reducible assumption)
    | (with_reducible apply Moved.fold)
    | (with_reducible apply Moved.fold_fst)
    | ((with_reducible apply Moved.via); (case k => with_reducible apply State.arp_moved); (case sub => decide))
    | ((with_reducible apply Moved.via); (case k => with_reducible apply State.endpointFrame_moved); (case sub => decide))
    | (intro _ _)
    | (with_reducible apply Moved.ite)
    | split
    | dsimp only)

theorem State.sendCells_moved (s : State) (a1 : _) :
    Moved [.diag, .eth, .fleet] s (State.sendCells s a1) := by
  unfold State.sendCells
  try dsimp only
  repeat' (first
    | (with_reducible apply Moved.refl)
    | (with_reducible assumption)
    | (with_reducible apply Moved.fold)
    | (with_reducible apply Moved.fold_fst)
    | ((with_reducible apply Moved.via); (case k => with_reducible apply State.sendUdp_moved); (case sub => decide))
    | ((with_reducible apply Moved.via); (case k => with_reducible apply State.countFleet_moved); (case sub => decide))
    | ((with_reducible apply Moved.via); (case k => with_reducible apply State.modFleet_moved); (case sub => decide))
    | (intro _ _)
    | (with_reducible apply Moved.ite)
    | split
    | dsimp only)

theorem State.sendDue_moved (a0 : _) (a1 : _) (s : State) :
    Moved [.diag, .eth, .fleet] s (State.sendDue a0 a1 s) := by
  induction a0 generalizing a1 s with
  | zero => exact Moved.refl _ _
  | succ n ih =>
    unfold State.sendDue
    try dsimp only
    repeat' (first
      | (with_reducible apply Moved.refl)
      | (with_reducible assumption)
      | ((with_reducible apply Moved.via); (case k => with_reducible apply ih); (case sub => decide))
      | (with_reducible apply Moved.fold)
      | (with_reducible apply Moved.fold_fst)
      | ((with_reducible apply Moved.via); (case k => with_reducible apply State.sendCells_moved); (case sub => decide))
      | (intro _ _)
      | (with_reducible apply Moved.ite)
      | split
      | dsimp only)

theorem State.exchange_moved (s : State) :
    Moved [.diag, .eth, .fleet] s (State.exchange s) := by
  unfold State.exchange
  try dsimp only
  repeat' (first
    | (with_reducible apply Moved.refl)
    | (with_reducible assumption)
    | (with_reducible apply Moved.fold)
    | (with_reducible apply Moved.fold_fst)
    | ((with_reducible apply Moved.via); (case k => with_reducible apply State.sendDue_moved); (case sub => decide))
    | ((with_reducible apply Moved.via); (case k => with_reducible apply State.modFleet_moved); (case sub => decide))
    | (intro _ _)
    | (with_reducible apply Moved.ite)
    | split
    | dsimp only)

theorem State.hear_moved (s : State) (a1 : _) (a2 : _) :
    Moved [.fleet] s (State.hear s a1 a2) := by
  unfold State.hear
  try dsimp only
  repeat' (first
    | (with_reducible apply Moved.refl)
    | (with_reducible assumption)
    | (with_reducible apply Moved.fold)
    | (with_reducible apply Moved.fold_fst)
    | ((with_reducible apply Moved.via); (case k => with_reducible apply State.modFleet_moved); (case sub => decide))
    | (intro _ _)
    | (with_reducible apply Moved.ite)
    | split
    | dsimp only)

theorem State.mergeDatagram_moved (s : State) (a1 : _) :
    Moved [.hub, .diag, .place, .fleet] s (State.mergeDatagram s a1) := by
  unfold State.mergeDatagram
  try dsimp only
  repeat' (first
    | (with_reducible apply Moved.refl)
    | (with_reducible assumption)
    | (with_reducible apply Moved.fold)
    | (with_reducible apply Moved.fold_fst)
    | ((with_reducible apply Moved.via); (case k => with_reducible apply State.countFleet_moved); (case sub => decide))
    | ((with_reducible apply Moved.via); (case k => with_reducible apply State.tilesFull_moved); (case sub => decide))
    | ((with_reducible apply Moved.via); (case k => with_reducible apply State.mergeInto_moved); (case sub => decide))
    | ((with_reducible apply Moved.via); (case k => with_reducible apply State.countN_moved); (case sub => decide))
    | (intro _ _)
    | (with_reducible apply Moved.ite)
    | split
    | (refine Moved.fst (by assumption) ?_)
    | dsimp only)

end Sys2Proof.Machine
end

