-- ==== Sys2Proof/Laws/MovedSectionOps.lean ====
section
/-! SUPPORT. What each operation of Machine/SectionOps.lean may change: nothing but the parts named. -/

namespace Sys2Proof.Machine

set_option maxRecDepth 4000

theorem State.commitSections_moved (s : State) (a1 : _) :
    Moved [.hub, .diag, .ledger, .sections] s (State.commitSections s a1) := by
  unfold State.commitSections
  try dsimp only
  repeat' (first
    | (with_reducible apply Moved.refl)
    | (with_reducible assumption)
    | (with_reducible apply Moved.fold)
    | (with_reducible apply Moved.fold_fst)
    | ((with_reducible apply Moved.via); (case k => with_reducible apply State.stopEngine_moved); (case sub => decide))
    | ((with_reducible apply Moved.via); (case k => with_reducible apply State.queueEdge_moved); (case sub => decide))
    | ((with_reducible apply Moved.via); (case k => with_reducible apply State.removeEdges_moved); (case sub => decide))
    | (intro _ _)
    | (with_reducible apply Moved.ite)
    | split
    | dsimp only)

theorem State.modSection_moved (s : State) (a1 : _) (a2 : _) :
    Moved [.sections] s (State.modSection s a1 a2) := by
  unfold State.modSection
  try dsimp only
  repeat' (first
    | (with_reducible apply Moved.refl)
    | (with_reducible assumption)
    | (with_reducible apply Moved.fold)
    | (with_reducible apply Moved.fold_fst)
    | ((with_reducible apply Moved.via); (case k => with_reducible apply State.modSections_moved); (case sub => decide))
    | (intro _ _)
    | (with_reducible apply Moved.ite)
    | split
    | dsimp only)

theorem State.sectionEdge_moved (s : State) (a1 : _) (a2 : _) :
    Moved [.sections] s (State.sectionEdge s a1 a2) := by
  unfold State.sectionEdge
  try dsimp only
  repeat' (first
    | (with_reducible apply Moved.refl)
    | (with_reducible assumption)
    | (with_reducible apply Moved.fold)
    | (with_reducible apply Moved.fold_fst)
    | ((with_reducible apply Moved.via); (case k => with_reducible apply State.modSection_moved); (case sub => decide))
    | (intro _ _)
    | (with_reducible apply Moved.ite)
    | split
    | dsimp only)

theorem State.runEdge_moved (s : State) (a1 : _) (a2 : _) :
    Moved [.hub, .power, .diag, .ledger, .stage, .sections] s (State.runEdge s a1 a2) := by
  unfold State.runEdge
  try dsimp only
  repeat' (first
    | (with_reducible apply Moved.refl)
    | (with_reducible assumption)
    | (with_reducible apply Moved.fold)
    | (with_reducible apply Moved.fold_fst)
    | ((with_reducible apply Moved.via); (case k => with_reducible apply State.sectionEdge_moved); (case sub => decide))
    | ((with_reducible apply Moved.via); (case k => with_reducible apply State.named_moved); (case sub => decide))
    | ((with_reducible apply Moved.via); (case k => with_reducible apply State.setValue_moved); (case sub => decide))
    | ((with_reducible apply Moved.via); (case k => with_reducible apply State.finishRequests_moved); (case sub => decide))
    | ((with_reducible apply Moved.via); (case k => with_reducible apply State.commandOn_moved); (case sub => decide))
    | ((with_reducible apply Moved.via); (case k => with_reducible apply State.commandOff_moved); (case sub => decide))
    | ((with_reducible apply Moved.via); (case k => with_reducible apply State.endEntries_moved); (case sub => decide))
    | ((with_reducible apply Moved.via); (case k => with_reducible apply State.endBegun_moved); (case sub => decide))
    | ((with_reducible apply Moved.via); (case k => with_reducible apply State.endEdge_moved); (case sub => decide))
    | ((with_reducible apply Moved.via); (case k => with_reducible apply State.modEdge_moved); (case sub => decide))
    | (intro _ _)
    | (with_reducible apply Moved.ite)
    | split
    | dsimp only)

theorem State.sendEdge_moved (s : State) (a1 : _) :
    Moved [.diag, .buses, .eth, .sections] s (State.sendEdge s a1) := by
  unfold State.sendEdge
  try dsimp only
  repeat' (first
    | (with_reducible apply Moved.refl)
    | (with_reducible assumption)
    | (with_reducible apply Moved.fold)
    | (with_reducible apply Moved.fold_fst)
    | ((with_reducible apply Moved.via); (case k => with_reducible apply State.sendUdp_moved); (case sub => decide))
    | ((with_reducible apply Moved.via); (case k => with_reducible apply State.modSections_moved); (case sub => decide))
    | ((with_reducible apply Moved.via); (case k => with_reducible apply State.busSendId_moved); (case sub => decide))
    | (intro _ _)
    | (with_reducible apply Moved.ite)
    | split
    | dsimp only)

theorem State.commandNode_moved (s : State) (a1 : _) :
    Moved [.diag, .ledger, .buses, .eth, .sections] s (State.commandNode s a1) := by
  unfold State.commandNode
  try dsimp only
  repeat' (first
    | (with_reducible apply Moved.refl)
    | (with_reducible assumption)
    | (with_reducible apply Moved.fold)
    | (with_reducible apply Moved.fold_fst)
    | ((with_reducible apply Moved.via); (case k => with_reducible apply State.sendEdge_moved); (case sub => decide))
    | ((with_reducible apply Moved.via); (case k => with_reducible apply State.modEdge_moved); (case sub => decide))
    | ((with_reducible apply Moved.via); (case k => with_reducible apply State.modSections_moved); (case sub => decide))
    | ((with_reducible apply Moved.via); (case k => (with_reducible apply modRecord_moved); intro _; exact ⟨rfl, rfl, .inl rfl⟩); (case sub => decide))
    | (intro _ _)
    | (with_reducible apply Moved.ite)
    | split
    | dsimp only)

theorem State.markPoint_moved (s : State) (a1 : _) (a2 : _) :
    Moved [.place, .fleet] s (State.markPoint s a1 a2) := by
  unfold State.markPoint
  dsimp only
  split
  · rename_i e
    have h := State.claimed_moved e
    with_reducible apply Moved.ite
    · exact h
    · exact Moved.via (State.mergeAt_moved ..) h (by decide)
  · exact Moved.refl ..

theorem State.markSection_moved (s : State) (a1 : _) (a2 : _) (a3 : _) :
    Moved [.place, .fleet, .sections] s (State.markSection s a1 a2 a3) := by
  unfold State.markSection
  try dsimp only
  repeat' (first
    | (with_reducible apply Moved.refl)
    | (with_reducible assumption)
    | (with_reducible apply Moved.fold)
    | (with_reducible apply Moved.fold_fst)
    | ((with_reducible apply Moved.via); (case k => with_reducible apply State.markPoint_moved); (case sub => decide))
    | ((with_reducible apply Moved.via); (case k => with_reducible apply State.modSection_moved); (case sub => decide))
    | (intro _ _)
    | (with_reducible apply Moved.ite)
    | split
    | dsimp only)

theorem State.moveEdge_moved (s : State) (a1 : _) (a2 : _) (a3 : _) :
    Moved [.hub, .diag, .ledger, .sections] s (State.moveEdge s a1 a2 a3) := by
  unfold State.moveEdge
  try dsimp only
  repeat' (first
    | (with_reducible apply Moved.refl)
    | (with_reducible assumption)
    | (with_reducible apply Moved.fold)
    | (with_reducible apply Moved.fold_fst)
    | ((with_reducible apply Moved.via); (case k => with_reducible apply State.queueEdge_moved); (case sub => decide))
    | ((with_reducible apply Moved.via); (case k => with_reducible apply State.expireOther_moved); (case sub => decide))
    | ((with_reducible apply Moved.via); (case k => with_reducible apply State.modSections_moved); (case sub => decide))
    | ((with_reducible apply Moved.via); (case k => with_reducible apply State.count_moved); (case sub => decide))
    | (intro _ _)
    | (with_reducible apply Moved.ite)
    | split
    | dsimp only)

theorem State.adjustEdges_moved (s : State) (z : _) (x : _) (es : _) (trs : _) :
    Moved [.hub, .diag, .ledger, .sections] s (State.adjustEdges s z x es trs).1 := by
  induction es generalizing s trs with
  | nil => unfold State.adjustEdges; exact Moved.refl ..
  | cons e es ih =>
    cases trs with
    | nil => unfold State.adjustEdges; exact Moved.via (ih ..) (State.endEdge_moved ..) (by decide)
    | cons tr trs =>
      unfold State.adjustEdges
      dsimp only
      split
      · refine Moved.via (ih ..) ?_ (by decide)
        with_reducible apply Moved.ite
        · exact Moved.via (State.moveEdge_moved ..) (Moved.refl ..) (by decide)
        · exact Moved.refl ..
      · exact Moved.via (ih ..) (State.endEdge_moved ..) (by decide)

theorem State.predictSection_moved (s : State) (a1 : _) (a2 : _) (a3 : _) :
    Moved [.hub, .diag, .ledger, .sections] s (State.predictSection s a1 a2 a3) := by
  unfold State.predictSection
  try dsimp only
  repeat' (first
    | (with_reducible apply Moved.refl)
    | (with_reducible assumption)
    | (with_reducible apply Moved.fold)
    | (with_reducible apply Moved.fold_fst)
    | ((with_reducible apply Moved.via); (case k => with_reducible apply State.adjustEdges_moved); (case sub => decide))
    | ((with_reducible apply Moved.via); (case k => with_reducible apply State.queueEngine_moved); (case sub => decide))
    | (intro _ _)
    | (with_reducible apply Moved.ite)
    | split
    | (refine Moved.fst (by assumption) ?_)
    | dsimp only)

theorem State.gateOff_moved (s : State) (a1 : _) :
    Moved [.hub, .diag, .ledger, .sections] s (State.gateOff s a1) := by
  unfold State.gateOff
  try dsimp only
  repeat' (first
    | (with_reducible apply Moved.refl)
    | (with_reducible assumption)
    | (with_reducible apply Moved.fold)
    | (with_reducible apply Moved.fold_fst)
    | ((with_reducible apply Moved.via); (case k => with_reducible apply State.queueOffs_moved); (case sub => decide))
    | ((with_reducible apply Moved.via); (case k => with_reducible apply State.removeEdges_moved); (case sub => decide))
    | (intro _ _)
    | (with_reducible apply Moved.ite)
    | split
    | dsimp only)

theorem State.speedGate_moved (s : State) (a1 : _) :
    Moved [.hub, .diag, .ledger, .sections] s (State.speedGate s a1) := by
  unfold State.speedGate
  try dsimp only
  repeat' (first
    | (with_reducible apply Moved.refl)
    | (with_reducible assumption)
    | (with_reducible apply Moved.fold)
    | (with_reducible apply Moved.fold_fst)
    | ((with_reducible apply Moved.via); (case k => with_reducible apply State.gateOff_moved); (case sub => decide))
    | ((with_reducible apply Moved.via); (case k => with_reducible apply State.modSections_moved); (case sub => decide))
    | (intro _ _)
    | (with_reducible apply Moved.ite)
    | split
    | dsimp only)

theorem State.takeSolution_moved (s : State) (a1 : _) :
    Moved [.hub, .diag, .ledger, .place, .fleet, .sections] s (State.takeSolution s a1) := by
  unfold State.takeSolution
  try dsimp only
  repeat' (first
    | (with_reducible apply Moved.refl)
    | (with_reducible assumption)
    | (with_reducible apply Moved.fold)
    | (with_reducible apply Moved.fold_fst)
    | ((with_reducible apply Moved.via); (case k => with_reducible apply State.speedGate_moved); (case sub => decide))
    | ((with_reducible apply Moved.via); (case k => with_reducible apply State.predictSection_moved); (case sub => decide))
    | ((with_reducible apply Moved.via); (case k => with_reducible apply State.markSection_moved); (case sub => decide))
    | ((with_reducible apply Moved.via); (case k => with_reducible apply State.modSections_moved); (case sub => decide))
    | (intro _ _)
    | (with_reducible apply Moved.ite)
    | split
    | dsimp only)

end Sys2Proof.Machine
end

