-- ==== Sys2Proof/Laws/MovedSafetyOps.lean ====
section
/-! SUPPORT. What each operation of Machine/SafetyOps.lean may change: nothing but the parts named. -/

namespace Sys2Proof.Machine

set_option maxRecDepth 4000

theorem State.modSafeOut_moved (s : State) (a1 : _) (a2 : _) :
    Moved [.safety] s (State.modSafeOut s a1 a2) := by
  unfold State.modSafeOut
  try dsimp only
  repeat' (first
    | (with_reducible apply Moved.refl)
    | (with_reducible assumption)
    | (with_reducible apply Moved.fold)
    | (with_reducible apply Moved.fold_fst)
    | ((with_reducible apply Moved.via); (case k => (with_reducible apply modSafety_moved (qs := [.safety])); intro m p hp; cases p <;> first | exact absurd hp (by decide) | exact trivial | rfl | (split <;> rfl) | (unfold ModeState.supLost; split <;> rfl)); (case sub => decide))
    | (intro _ _)
    | (with_reducible apply Moved.ite)
    | split
    | dsimp only)

theorem State.safeOff_moved (s : State) (a1 : _) :
    Moved [.diag, .safety] s (State.safeOff s a1) := by
  unfold State.safeOff
  try dsimp only
  repeat' (first
    | (with_reducible apply Moved.refl)
    | (with_reducible assumption)
    | (with_reducible apply Moved.fold)
    | (with_reducible apply Moved.fold_fst)
    | ((with_reducible apply Moved.via); (case k => with_reducible apply State.modSafeOut_moved); (case sub => decide))
    | ((with_reducible apply Moved.via); (case k => with_reducible apply State.count_moved); (case sub => decide))
    | (intro _ _)
    | (with_reducible apply Moved.ite)
    | split
    | dsimp only)

theorem State.safeAllOff_moved (s : State) :
    Moved [.diag, .safety] s (State.safeAllOff s) := by
  unfold State.safeAllOff
  try dsimp only
  repeat' (first
    | (with_reducible apply Moved.refl)
    | (with_reducible assumption)
    | (with_reducible apply Moved.fold)
    | (with_reducible apply Moved.fold_fst)
    | ((with_reducible apply Moved.via); (case k => with_reducible apply State.safeOff_moved); (case sub => decide))
    | (intro _ _)
    | (with_reducible apply Moved.ite)
    | split
    | dsimp only)

theorem State.safReset_moved (s : State) :
    Moved [.change, .diag, .safety] s (State.safReset s) := by
  unfold State.safReset
  try dsimp only
  repeat' (first
    | (with_reducible apply Moved.refl)
    | (with_reducible assumption)
    | (with_reducible apply Moved.fold)
    | (with_reducible apply Moved.fold_fst)
    | ((with_reducible apply Moved.via); (case k => with_reducible apply State.safeAllOff_moved); (case sub => decide))
    | ((with_reducible apply Moved.via); (case k => (with_reducible apply modSafety_moved (qs := [.safety])); intro m p hp; cases p <;> first | exact absurd hp (by decide) | exact trivial | rfl | (split <;> rfl) | (unfold ModeState.supLost; split <;> rfl)); (case sub => decide))
    | ((with_reducible apply Moved.via); (case k => (with_reducible apply modMode_moved (qs := [.change])); intro m p hp; cases p <;> first | exact absurd hp (by decide) | exact trivial | rfl | (split <;> rfl) | (unfold ModeState.supLost; split <;> rfl)); (case sub => decide))
    | (intro _ _)
    | (with_reducible apply Moved.ite)
    | split
    | dsimp only)

theorem State.writeLog_moved (s : State) (a1 : _) :
    Moved [.hub, .diag, .safetyRecord] s (State.writeLog s a1) := by
  unfold State.writeLog
  try dsimp only
  repeat' (first
    | (with_reducible apply Moved.refl)
    | (with_reducible assumption)
    | (with_reducible apply Moved.fold)
    | (with_reducible apply Moved.fold_fst)
    | ((with_reducible apply Moved.via); (case k => (with_reducible apply modSafety_moved (qs := [.safetyRecord])); intro m p hp; cases p <;> first | exact absurd hp (by decide) | exact trivial | rfl | (split <;> rfl) | (unfold ModeState.supLost; split <;> rfl)); (case sub => decide))
    | ((with_reducible apply Moved.via); (case k => with_reducible apply State.raise_moved); (case sub => decide))
    | (intro _ _)
    | (with_reducible apply Moved.ite)
    | split
    | dsimp only)

theorem State.genesis_moved (s : State) :
    Moved [.hub, .diag, .safetyRecord] s (State.genesis s) := by
  unfold State.genesis
  try dsimp only
  repeat' (first
    | (with_reducible apply Moved.refl)
    | (with_reducible assumption)
    | (with_reducible apply Moved.fold)
    | (with_reducible apply Moved.fold_fst)
    | ((with_reducible apply Moved.via); (case k => with_reducible apply State.writeLog_moved); (case sub => decide))
    | (intro _ _)
    | (with_reducible apply Moved.ite)
    | split
    | dsimp only)

theorem State.appendLog_moved (s : State) (a1 : _) (a2 : _) (a3 : _) :
    Moved [.hub, .diag, .safetyRecord] s (State.appendLog s a1 a2 a3) := by
  unfold State.appendLog
  try dsimp only
  repeat' (first
    | (with_reducible apply Moved.refl)
    | (with_reducible assumption)
    | (with_reducible apply Moved.fold)
    | (with_reducible apply Moved.fold_fst)
    | ((with_reducible apply Moved.via); (case k => with_reducible apply State.genesis_moved); (case sub => decide))
    | ((with_reducible apply Moved.via); (case k => with_reducible apply State.writeLog_moved); (case sub => decide))
    | (intro _ _)
    | (with_reducible apply Moved.ite)
    | split
    | dsimp only)

theorem State.modSafeFn_moved (s : State) (a1 : _) (a2 : _) :
    Moved [.safety] s (State.modSafeFn s a1 a2) := by
  unfold State.modSafeFn
  try dsimp only
  repeat' (first
    | (with_reducible apply Moved.refl)
    | (with_reducible assumption)
    | (with_reducible apply Moved.fold)
    | (with_reducible apply Moved.fold_fst)
    | ((with_reducible apply Moved.via); (case k => (with_reducible apply modSafety_moved (qs := [.safety])); intro m p hp; cases p <;> first | exact absurd hp (by decide) | exact trivial | rfl | (split <;> rfl) | (unfold ModeState.supLost; split <;> rfl)); (case sub => decide))
    | (intro _ _)
    | (with_reducible apply Moved.ite)
    | split
    | dsimp only)

theorem State.tellFn_moved (s : State) (a1 : _) (a2 : _) (a3 : _) (a4 : _) :
    Moved [.hub, .diag] s (State.tellFn s a1 a2 a3 a4) := by
  unfold State.tellFn
  try dsimp only
  repeat' (first
    | (with_reducible apply Moved.refl)
    | (with_reducible assumption)
    | (with_reducible apply Moved.fold)
    | (with_reducible apply Moved.fold_fst)
    | ((with_reducible apply Moved.via); (case k => with_reducible apply State.raise_moved); (case sub => decide))
    | (intro _ _)
    | (with_reducible apply Moved.ite)
    | split
    | dsimp only)

theorem State.restartFns_moved (s : State) (a1 : _) :
    Moved [.hub, .diag, .safety] s (State.restartFns s a1) := by
  unfold State.restartFns
  try dsimp only
  repeat' (first
    | (with_reducible apply Moved.refl)
    | (with_reducible assumption)
    | (with_reducible apply Moved.fold)
    | (with_reducible apply Moved.fold_fst)
    | ((with_reducible apply Moved.via); (case k => with_reducible apply State.tellFn_moved); (case sub => decide))
    | ((with_reducible apply Moved.via); (case k => with_reducible apply State.modSafeFn_moved); (case sub => decide))
    | (intro _ _)
    | (with_reducible apply Moved.ite)
    | split
    | dsimp only)

theorem State.setOutputs_moved (s : State) :
    Moved [.diag, .safety] s (State.setOutputs s) := by
  unfold State.setOutputs
  try dsimp only
  repeat' (first
    | (with_reducible apply Moved.refl)
    | (with_reducible assumption)
    | (with_reducible apply Moved.fold)
    | (with_reducible apply Moved.fold_fst)
    | ((with_reducible apply Moved.via); (case k => with_reducible apply State.safeOff_moved); (case sub => decide))
    | ((with_reducible apply Moved.via); (case k => with_reducible apply State.modSafeOut_moved); (case sub => decide))
    | (intro _ _)
    | (with_reducible apply Moved.ite)
    | split
    | dsimp only)

theorem State.safStart_moved (s : State) :
    Moved [.hub, .diag, .safety] s (State.safStart s) := by
  unfold State.safStart
  try dsimp only
  repeat' (first
    | (with_reducible apply Moved.refl)
    | (with_reducible assumption)
    | (with_reducible apply Moved.fold)
    | (with_reducible apply Moved.fold_fst)
    | ((with_reducible apply Moved.via); (case k => with_reducible apply State.setOutputs_moved); (case sub => decide))
    | ((with_reducible apply Moved.via); (case k => with_reducible apply State.restartFns_moved); (case sub => decide))
    | ((with_reducible apply Moved.via); (case k => with_reducible apply State.safeAllOff_moved); (case sub => decide))
    | ((with_reducible apply Moved.via); (case k => (with_reducible apply modSafety_moved (qs := [.safety])); intro m p hp; cases p <;> first | exact absurd hp (by decide) | exact trivial | rfl | (split <;> rfl) | (unfold ModeState.supLost; split <;> rfl)); (case sub => decide))
    | (intro _ _)
    | (with_reducible apply Moved.ite)
    | split
    | dsimp only)

theorem State.safMode_moved (s : State) (a1 : _) :
    Moved [.hub, .diag, .safety] s (State.safMode s a1) := by
  unfold State.safMode
  try dsimp only
  repeat' (first
    | (with_reducible apply Moved.refl)
    | (with_reducible assumption)
    | (with_reducible apply Moved.fold)
    | (with_reducible apply Moved.fold_fst)
    | ((with_reducible apply Moved.via); (case k => with_reducible apply State.safStart_moved); (case sub => decide))
    | ((with_reducible apply Moved.via); (case k => with_reducible apply State.safeAllOff_moved); (case sub => decide))
    | ((with_reducible apply Moved.via); (case k => (with_reducible apply modSafety_moved (qs := [.safety])); intro m p hp; cases p <;> first | exact absurd hp (by decide) | exact trivial | rfl | (split <;> rfl) | (unfold ModeState.supLost; split <;> rfl)); (case sub => decide))
    | (intro _ _)
    | (with_reducible apply Moved.ite)
    | split
    | dsimp only)

theorem State.safRelease_moved (s : State) :
    Moved [.safety] s (State.safRelease s) := by
  unfold State.safRelease
  try dsimp only
  repeat' (first
    | (with_reducible apply Moved.refl)
    | (with_reducible assumption)
    | (with_reducible apply Moved.fold)
    | (with_reducible apply Moved.fold_fst)
    | ((with_reducible apply Moved.via); (case k => (with_reducible apply modSafety_moved (qs := [.safety])); intro m p hp; cases p <;> first | exact absurd hp (by decide) | exact trivial | rfl | (split <;> rfl) | (unfold ModeState.supLost; split <;> rfl)); (case sub => decide))
    | (intro _ _)
    | (with_reducible apply Moved.ite)
    | split
    | dsimp only)

theorem State.openCut_moved (s : State) :
    Moved [.diag, .safety] s (State.openCut s) := by
  unfold State.openCut
  try dsimp only
  repeat' (first
    | (with_reducible apply Moved.refl)
    | (with_reducible assumption)
    | (with_reducible apply Moved.fold)
    | (with_reducible apply Moved.fold_fst)
    | ((with_reducible apply Moved.via); (case k => with_reducible apply State.safeAllOff_moved); (case sub => decide))
    | ((with_reducible apply Moved.via); (case k => (with_reducible apply modSafety_moved (qs := [.safety])); intro m p hp; cases p <;> first | exact absurd hp (by decide) | exact trivial | rfl | (split <;> rfl) | (unfold ModeState.supLost; split <;> rfl)); (case sub => decide))
    | ((with_reducible apply Moved.via); (case k => with_reducible apply State.count_moved); (case sub => decide))
    | (intro _ _)
    | (with_reducible apply Moved.ite)
    | split
    | dsimp only)

theorem State.tellSafeFault_moved (s : State) (a1 : _) (a2 : _) (a3 : _) :
    Moved [.hub, .diag] s (State.tellSafeFault s a1 a2 a3) := by
  unfold State.tellSafeFault
  try dsimp only
  repeat' (first
    | (with_reducible apply Moved.refl)
    | (with_reducible assumption)
    | (with_reducible apply Moved.fold)
    | (with_reducible apply Moved.fold_fst)
    | ((with_reducible apply Moved.via); (case k => with_reducible apply State.raise_moved); (case sub => decide))
    | (intro _ _)
    | (with_reducible apply Moved.ite)
    | split
    | dsimp only)

theorem State.modSafeIn_moved (s : State) (a1 : _) (a2 : _) :
    Moved [.safety] s (State.modSafeIn s a1 a2) := by
  unfold State.modSafeIn
  try dsimp only
  repeat' (first
    | (with_reducible apply Moved.refl)
    | (with_reducible assumption)
    | (with_reducible apply Moved.fold)
    | (with_reducible apply Moved.fold_fst)
    | ((with_reducible apply Moved.via); (case k => (with_reducible apply modSafety_moved (qs := [.safety])); intro m p hp; cases p <;> first | exact absurd hp (by decide) | exact trivial | rfl | (split <;> rfl) | (unfold ModeState.supLost; split <;> rfl)); (case sub => decide))
    | (intro _ _)
    | (with_reducible apply Moved.ite)
    | split
    | dsimp only)

theorem State.safeFault_moved (s : State) (a1 : _) (a2 : _) (a3 : _) :
    Moved [.hub, .change, .diag, .safety] s (State.safeFault s a1 a2 a3) := by
  unfold State.safeFault
  try dsimp only
  repeat' (first
    | (with_reducible apply Moved.refl)
    | (with_reducible assumption)
    | (with_reducible apply Moved.fold)
    | (with_reducible apply Moved.fold_fst)
    | ((with_reducible apply Moved.via); (case k => with_reducible apply State.tellSafeFault_moved); (case sub => decide))
    | ((with_reducible apply Moved.via); (case k => with_reducible apply State.openCut_moved); (case sub => decide))
    | ((with_reducible apply Moved.via); (case k => (with_reducible apply modSafety_moved (qs := [.safety])); intro m p hp; cases p <;> first | exact absurd hp (by decide) | exact trivial | rfl | (split <;> rfl) | (unfold ModeState.supLost; split <;> rfl)); (case sub => decide))
    | ((with_reducible apply Moved.via); (case k => with_reducible apply State.askHold_moved); (case sub => decide))
    | (intro _ _)
    | (with_reducible apply Moved.ite)
    | split
    | dsimp only)

theorem State.latchOut_moved (s : State) (a1 : _) (a2 : _) :
    Moved [.hub, .diag, .safety] s (State.latchOut s a1 a2) := by
  unfold State.latchOut
  try dsimp only
  repeat' (first
    | (with_reducible apply Moved.refl)
    | (with_reducible assumption)
    | (with_reducible apply Moved.fold)
    | (with_reducible apply Moved.fold_fst)
    | ((with_reducible apply Moved.via); (case k => with_reducible apply State.tellSafeFault_moved); (case sub => decide))
    | ((with_reducible apply Moved.via); (case k => with_reducible apply State.openCut_moved); (case sub => decide))
    | ((with_reducible apply Moved.via); (case k => with_reducible apply State.safeOff_moved); (case sub => decide))
    | ((with_reducible apply Moved.via); (case k => with_reducible apply State.modSafeOut_moved); (case sub => decide))
    | ((with_reducible apply Moved.via); (case k => with_reducible apply State.count_moved); (case sub => decide))
    | (intro _ _)
    | (with_reducible apply Moved.ite)
    | split
    | dsimp only)

end Sys2Proof.Machine
end

