-- ==== Sys2Proof/Laws/MovedUpdateOps.lean ====
section
/-! SUPPORT. What each operation of Machine/UpdateOps.lean may change: nothing but the parts named. -/

namespace Sys2Proof.Machine

set_option maxRecDepth 4000

theorem State.emptyTarget_moved (s : State) (a1 : _) :
    Moved [.update] s (State.emptyTarget s a1) := by
  unfold State.emptyTarget
  try dsimp only
  repeat' (first
    | (with_reducible apply Moved.refl)
    | (with_reducible assumption)
    | (with_reducible apply Moved.fold)
    | (with_reducible apply Moved.fold_fst)
    | ((with_reducible apply Moved.via); (case k => (with_reducible apply modCls_moved); intro _; first | exact Nat.le_refl _ | exact Nat.le_max_left .. | (simp only [ImageClass.setState, ImageClass.modSlot, ImageClass.withPolicy, ImageClass.switchTo]; repeat' split) <;> exact Nat.le_refl _); (case sub => decide))
    | (intro _ _)
    | (with_reducible apply Moved.ite)
    | split
    | dsimp only)

theorem State.cutInstall_moved (s : State) :
    Moved [.update] s (State.cutInstall s) := by
  unfold State.cutInstall
  try dsimp only
  repeat' (first
    | (with_reducible apply Moved.refl)
    | (with_reducible assumption)
    | (with_reducible apply Moved.fold)
    | (with_reducible apply Moved.fold_fst)
    | ((with_reducible apply Moved.via); (case k => with_reducible apply State.emptyTarget_moved); (case sub => decide))
    | ((with_reducible apply Moved.via); (case k => (with_reducible apply modUpdate_moved); intro _; first | exact FusesMoved.same rfl rfl | exact FusesMoved.revoke rfl rfl); (case sub => decide))
    | (intro _ _)
    | (with_reducible apply Moved.ite)
    | split
    | dsimp only)

theorem State.tellImage_moved (s : State) (a1 : _) (a2 : _) (a3 : _) (a4 : _) (a5 : _) (a6 : _) (a7 : _) :
    Moved [.hub, .diag] s (State.tellImage s a1 a2 a3 a4 a5 a6 a7) := by
  unfold State.tellImage
  try dsimp only
  repeat' (first
    | (with_reducible apply Moved.refl)
    | (with_reducible assumption)
    | (with_reducible apply Moved.fold)
    | (with_reducible apply Moved.fold_fst)
    | ((with_reducible apply Moved.via); (case k => with_reducible apply State.settle_moved); (case sub => decide))
    | (intro _ _)
    | (with_reducible apply Moved.ite)
    | split
    | dsimp only)

theorem State.finishAct_moved (s : State) (a1 : _) :
    Moved [.hub, .diag, .update] s (State.finishAct s a1) := by
  unfold State.finishAct
  try dsimp only
  repeat' (first
    | (with_reducible apply Moved.refl)
    | (with_reducible assumption)
    | (with_reducible apply Moved.fold)
    | (with_reducible apply Moved.fold_fst)
    | ((with_reducible apply Moved.via); (case k => with_reducible apply State.tellImage_moved); (case sub => decide))
    | ((with_reducible apply Moved.via); (case k => (with_reducible apply modCls_moved); intro _; first | exact Nat.le_refl _ | exact Nat.le_max_left .. | (simp only [ImageClass.setState, ImageClass.modSlot, ImageClass.withPolicy, ImageClass.switchTo]; repeat' split) <;> exact Nat.le_refl _); (case sub => decide))
    | ((with_reducible apply Moved.via); (case k => with_reducible apply State.count_moved); (case sub => decide))
    | (intro _ _)
    | (with_reducible apply Moved.ite)
    | split
    | dsimp only)

theorem State.restartClass_moved (s : State) (a1 : _) (a2 : _) (a3 : _) :
    Moved [.hub, .diag, .update] s (State.restartClass s a1 a2 a3) := by
  unfold State.restartClass
  try dsimp only
  repeat' (first
    | (with_reducible apply Moved.refl)
    | (with_reducible assumption)
    | (with_reducible apply Moved.fold)
    | (with_reducible apply Moved.fold_fst)
    | ((with_reducible apply Moved.via); (case k => with_reducible apply State.tellImage_moved); (case sub => decide))
    | ((with_reducible apply Moved.via); (case k => (with_reducible apply modCls_moved); intro _; first | exact Nat.le_refl _ | exact Nat.le_max_left .. | (simp only [ImageClass.setState, ImageClass.modSlot, ImageClass.withPolicy, ImageClass.switchTo]; repeat' split) <;> exact Nat.le_refl _); (case sub => decide))
    | (intro _ _)
    | (with_reducible apply Moved.ite)
    | split
    | dsimp only)

theorem State.restartImage_moved (s : State) (a1 : _) (a2 : _) (a3 : _) :
    Moved [.hub, .diag, .update] s (State.restartImage s a1 a2 a3) := by
  unfold State.restartImage
  try dsimp only
  repeat' (first
    | (with_reducible apply Moved.refl)
    | (with_reducible assumption)
    | (with_reducible apply Moved.fold)
    | (with_reducible apply Moved.fold_fst)
    | ((with_reducible apply Moved.via); (case k => with_reducible apply State.restartClass_moved); (case sub => decide))
    | ((with_reducible apply Moved.via); (case k => with_reducible apply State.finishAct_moved); (case sub => decide))
    | (intro _ _)
    | (with_reducible apply Moved.ite)
    | split
    | dsimp only)

theorem State.restartImages_moved (s : State) (a1 : _) (a2 : _) (a3 : _) :
    Moved [.hub, .diag, .update] s (State.restartImages s a1 a2 a3) := by
  unfold State.restartImages
  try dsimp only
  repeat' (first
    | (with_reducible apply Moved.refl)
    | (with_reducible assumption)
    | (with_reducible apply Moved.fold)
    | (with_reducible apply Moved.fold_fst)
    | ((with_reducible apply Moved.via); (case k => with_reducible apply State.restartImage_moved); (case sub => decide))
    | (intro _ _)
    | (with_reducible apply Moved.ite)
    | split
    | dsimp only)

theorem State.loadFailed_moved (s : State) (a1 : _) :
    Moved [.hub, .diag] s (State.loadFailed s a1) := by
  unfold State.loadFailed
  try dsimp only
  repeat' (first
    | (with_reducible apply Moved.refl)
    | (with_reducible assumption)
    | (with_reducible apply Moved.fold)
    | (with_reducible apply Moved.fold_fst)
    | ((with_reducible apply Moved.via); (case k => with_reducible apply State.tellImage_moved); (case sub => decide))
    | ((with_reducible apply Moved.via); (case k => with_reducible apply State.count_moved); (case sub => decide))
    | (intro _ _)
    | (with_reducible apply Moved.ite)
    | split
    | dsimp only)

theorem State.bootMaluf_moved (s : State) :
    Moved [.hub, .diag, .update] s (State.bootMaluf s) := by
  unfold State.bootMaluf
  try dsimp only
  repeat' (first
    | (with_reducible apply Moved.refl)
    | (with_reducible assumption)
    | (with_reducible apply Moved.fold)
    | (with_reducible apply Moved.fold_fst)
    | ((with_reducible apply Moved.via); (case k => with_reducible apply State.loadFailed_moved); (case sub => decide))
    | ((with_reducible apply Moved.via); (case k => (with_reducible apply modCls_moved); intro _; first | exact Nat.le_refl _ | exact Nat.le_max_left .. | (simp only [ImageClass.setState, ImageClass.modSlot, ImageClass.withPolicy, ImageClass.switchTo]; repeat' split) <;> exact Nat.le_refl _); (case sub => decide))
    | ((with_reducible apply Moved.via); (case k => with_reducible apply State.count_moved); (case sub => decide))
    | (intro _ _)
    | (with_reducible apply Moved.ite)
    | split
    | dsimp only)

theorem State.eraseIdentity_moved (s : State) :
    Moved [.hub, .auth, .diag, .fleet, .safetyRecord, .update] s (State.eraseIdentity s) := by
  unfold State.eraseIdentity
  try dsimp only
  repeat' (first
    | (with_reducible apply Moved.refl)
    | (with_reducible assumption)
    | (with_reducible apply Moved.fold)
    | (with_reducible apply Moved.fold_fst)
    | ((with_reducible apply Moved.via); (case k => (with_reducible apply modSafety_moved (qs := [.safetyRecord])); intro m p hp; cases p <;> first | exact absurd hp (by decide) | exact trivial | rfl | (split <;> rfl) | (unfold ModeState.supLost; split <;> rfl)); (case sub => decide))
    | ((with_reducible apply Moved.via); (case k => with_reducible apply State.fleetEval_moved); (case sub => decide))
    | ((with_reducible apply Moved.via); (case k => (with_reducible apply modUpdate_moved); intro _; first | exact FusesMoved.same rfl rfl | exact FusesMoved.revoke rfl rfl); (case sub => decide))
    | ((with_reducible apply Moved.via); (case k => (with_reducible apply modMode_moved (qs := [.auth])); intro m p hp; cases p <;> first | exact absurd hp (by decide) | exact trivial | rfl | (split <;> rfl) | (unfold ModeState.supLost; split <;> rfl)); (case sub => decide))
    | (intro _ _)
    | (with_reducible apply Moved.ite)
    | split
    | dsimp only)

theorem State.finishActs_moved (s : State) (a1 : _) :
    Moved [.hub, .diag, .update] s (State.finishActs s a1) := by
  unfold State.finishActs
  try dsimp only
  repeat' (first
    | (with_reducible apply Moved.refl)
    | (with_reducible assumption)
    | (with_reducible apply Moved.fold)
    | (with_reducible apply Moved.fold_fst)
    | ((with_reducible apply Moved.via); (case k => with_reducible apply State.finishAct_moved); (case sub => decide))
    | (intro _ _)
    | (with_reducible apply Moved.ite)
    | split
    | dsimp only)

theorem State.tellInterrupted_moved (s : State) :
    Moved [.hub, .diag, .update] s (State.tellInterrupted s) := by
  unfold State.tellInterrupted
  try dsimp only
  repeat' (first
    | (with_reducible apply Moved.refl)
    | (with_reducible assumption)
    | (with_reducible apply Moved.fold)
    | (with_reducible apply Moved.fold_fst)
    | ((with_reducible apply Moved.via); (case k => with_reducible apply State.tellImage_moved); (case sub => decide))
    | ((with_reducible apply Moved.via); (case k => (with_reducible apply modUpdate_moved); intro _; first | exact FusesMoved.same rfl rfl | exact FusesMoved.revoke rfl rfl); (case sub => decide))
    | (intro _ _)
    | (with_reducible apply Moved.ite)
    | split
    | dsimp only)

theorem State.fuse_moved (s : State) (a1 : _) (a2 : _) :
    Moved [.update] s (State.fuse s a1 a2) := by
  unfold State.fuse
  try dsimp only
  repeat' (first
    | (with_reducible apply Moved.refl)
    | (with_reducible assumption)
    | (with_reducible apply Moved.fold)
    | (with_reducible apply Moved.fold_fst)
    | ((with_reducible apply Moved.via); (case k => (with_reducible apply modCls_moved); intro _; first | exact Nat.le_refl _ | exact Nat.le_max_left .. | (simp only [ImageClass.setState, ImageClass.modSlot, ImageClass.withPolicy, ImageClass.switchTo]; repeat' split) <;> exact Nat.le_refl _); (case sub => decide))
    | ((with_reducible apply Moved.via); (case k => (with_reducible apply modUpdate_moved); intro _; first | exact FusesMoved.same rfl rfl | exact FusesMoved.revoke rfl rfl); (case sub => decide))
    | (intro _ _)
    | (with_reducible apply Moved.ite)
    | split
    | dsimp only)

theorem State.copied_moved (s : State) (a1 : _) :
    Moved [.update] s (State.copied s a1) := by
  unfold State.copied
  try dsimp only
  repeat' (first
    | (with_reducible apply Moved.refl)
    | (with_reducible assumption)
    | (with_reducible apply Moved.fold)
    | (with_reducible apply Moved.fold_fst)
    | ((with_reducible apply Moved.via); (case k => with_reducible apply State.fuse_moved); (case sub => decide))
    | ((with_reducible apply Moved.via); (case k => (with_reducible apply modCls_moved); intro _; first | exact Nat.le_refl _ | exact Nat.le_max_left .. | (simp only [ImageClass.setState, ImageClass.modSlot, ImageClass.withPolicy, ImageClass.switchTo]; repeat' split) <;> exact Nat.le_refl _); (case sub => decide))
    | (intro _ _)
    | (with_reducible apply Moved.ite)
    | split
    | dsimp only)

theorem State.failInstall_moved (s : State) (a1 : _) (a2 : _) (a3 : _) :
    Moved [.hub, .diag, .update] s (State.failInstall s a1 a2 a3) := by
  unfold State.failInstall
  try dsimp only
  repeat' (first
    | (with_reducible apply Moved.refl)
    | (with_reducible assumption)
    | (with_reducible apply Moved.fold)
    | (with_reducible apply Moved.fold_fst)
    | ((with_reducible apply Moved.via); (case k => with_reducible apply State.emptyTarget_moved); (case sub => decide))
    | ((with_reducible apply Moved.via); (case k => (with_reducible apply modUpdate_moved); intro _; first | exact FusesMoved.same rfl rfl | exact FusesMoved.revoke rfl rfl); (case sub => decide))
    | ((with_reducible apply Moved.via); (case k => with_reducible apply State.complete_moved); (case sub => decide))
    | (intro _ _)
    | (with_reducible apply Moved.ite)
    | split
    | dsimp only)

theorem State.stallInstall_moved (s : State) (a1 : _) :
    Moved [.hub, .diag, .update, .freeCount] s (State.stallInstall s a1) := by
  unfold State.stallInstall
  try dsimp only
  repeat' (first
    | (with_reducible apply Moved.refl)
    | (with_reducible assumption)
    | (with_reducible apply Moved.fold)
    | (with_reducible apply Moved.fold_fst)
    | ((with_reducible apply Moved.via); (case k => with_reducible apply State.free_moved); (case sub => decide))
    | ((with_reducible apply Moved.via); (case k => with_reducible apply State.emptyTarget_moved); (case sub => decide))
    | ((with_reducible apply Moved.via); (case k => (with_reducible apply modUpdate_moved); intro _; first | exact FusesMoved.same rfl rfl | exact FusesMoved.revoke rfl rfl); (case sub => decide))
    | ((with_reducible apply Moved.via); (case k => with_reducible apply State.complete_moved); (case sub => decide))
    | (intro _ _)
    | (with_reducible apply Moved.ite)
    | split
    | (refine Moved.snd (by assumption) ?_)
    | dsimp only)

theorem State.provision_moved (s : State) :
    Moved [.auth] s (State.provision s) := by
  unfold State.provision
  try dsimp only
  repeat' (first
    | (with_reducible apply Moved.refl)
    | (with_reducible assumption)
    | (with_reducible apply Moved.fold)
    | (with_reducible apply Moved.fold_fst)
    | ((with_reducible apply Moved.via); (case k => (with_reducible apply modMode_moved (qs := [.auth])); intro m p hp; cases p <;> first | exact absurd hp (by decide) | exact trivial | rfl | (split <;> rfl) | (unfold ModeState.supLost; split <;> rfl)); (case sub => decide))
    | (intro _ _)
    | (with_reducible apply Moved.ite)
    | split
    | dsimp only)

theorem State.keyChanged_moved (s : State) (a1 : _) (a2 : _) :
    Moved [.hub, .diag] s (State.keyChanged s a1 a2) := by
  unfold State.keyChanged
  try dsimp only
  repeat' (first
    | (with_reducible apply Moved.refl)
    | (with_reducible assumption)
    | (with_reducible apply Moved.fold)
    | (with_reducible apply Moved.fold_fst)
    | ((with_reducible apply Moved.via); (case k => with_reducible apply State.raise_moved); (case sub => decide))
    | (intro _ _)
    | (with_reducible apply Moved.ite)
    | split
    | dsimp only)

end Sys2Proof.Machine
end

