-- ==== Sys2Proof/Laws/MovedVisionOps.lean ====
section
/-! SUPPORT. What each operation of Machine/VisionOps.lean may change: nothing but the parts named. -/

namespace Sys2Proof.Machine

set_option maxRecDepth 4000

theorem State.modVision_moved (s : State) (a1 : _) :
    Moved [.vision] s (State.modVision s a1) := by
  unfold State.modVision
  try dsimp only
  repeat' (first
    | (with_reducible apply Moved.refl)
    | (with_reducible assumption)
    | (with_reducible apply Moved.fold)
    | (with_reducible apply Moved.fold_fst)
    | ((with_reducible apply Moved.via); (case k => with_reducible apply set_vision); (case sub => decide))
    | (intro _ _)
    | (with_reducible apply Moved.ite)
    | split
    | dsimp only)

theorem State.modCam_moved (s : State) (a1 : _) (a2 : _) :
    Moved [.vision] s (State.modCam s a1 a2) := by
  unfold State.modCam
  try dsimp only
  repeat' (first
    | (with_reducible apply Moved.refl)
    | (with_reducible assumption)
    | (with_reducible apply Moved.fold)
    | (with_reducible apply Moved.fold_fst)
    | ((with_reducible apply Moved.via); (case k => with_reducible apply State.modVision_moved); (case sub => decide))
    | (intro _ _)
    | (with_reducible apply Moved.ite)
    | split
    | dsimp only)

theorem State.camState_moved (s : State) (a1 : _) (a2 : _) (a3 : _) :
    Moved [.hub, .diag, .vision] s (State.camState s a1 a2 a3) := by
  unfold State.camState
  try dsimp only
  repeat' (first
    | (with_reducible apply Moved.refl)
    | (with_reducible assumption)
    | (with_reducible apply Moved.fold)
    | (with_reducible apply Moved.fold_fst)
    | ((with_reducible apply Moved.via); (case k => with_reducible apply State.modCam_moved); (case sub => decide))
    | ((with_reducible apply Moved.via); (case k => with_reducible apply State.complete_moved); (case sub => decide))
    | ((with_reducible apply Moved.via); (case k => with_reducible apply State.raise_moved); (case sub => decide))
    | (intro _ _)
    | (with_reducible apply Moved.ite)
    | split
    | dsimp only)

theorem State.forgetFrames_moved (s : State) (a1 : _) :
    Moved [.vision] s (State.forgetFrames s a1) := by
  unfold State.forgetFrames
  try dsimp only
  repeat' (first
    | (with_reducible apply Moved.refl)
    | (with_reducible assumption)
    | (with_reducible apply Moved.fold)
    | (with_reducible apply Moved.fold_fst)
    | ((with_reducible apply Moved.via); (case k => with_reducible apply State.modCam_moved); (case sub => decide))
    | (intro _ _)
    | (with_reducible apply Moved.ite)
    | split
    | dsimp only)

theorem State.modFrame_moved (s : State) (a1 : _) (a2 : _) (a3 : _) :
    Moved [.vision] s (State.modFrame s a1 a2 a3) := by
  unfold State.modFrame
  try dsimp only
  repeat' (first
    | (with_reducible apply Moved.refl)
    | (with_reducible assumption)
    | (with_reducible apply Moved.fold)
    | (with_reducible apply Moved.fold_fst)
    | ((with_reducible apply Moved.via); (case k => with_reducible apply State.modCam_moved); (case sub => decide))
    | (intro _ _)
    | (with_reducible apply Moved.ite)
    | split
    | dsimp only)

theorem State.modPipe_moved (s : State) (a1 : _) (a2 : _) :
    Moved [.vision] s (State.modPipe s a1 a2) := by
  unfold State.modPipe
  try dsimp only
  repeat' (first
    | (with_reducible apply Moved.refl)
    | (with_reducible assumption)
    | (with_reducible apply Moved.fold)
    | (with_reducible apply Moved.fold_fst)
    | ((with_reducible apply Moved.via); (case k => with_reducible apply State.modVision_moved); (case sub => decide))
    | (intro _ _)
    | (with_reducible apply Moved.ite)
    | split
    | dsimp only)

theorem State.recordFrame_moved (s : State) (a1 : _) (a2 : _) :
    Moved [.hub, .diag, .fabric, .vision] s (State.recordFrame s a1 a2) := by
  unfold State.recordFrame
  try dsimp only
  repeat' (first
    | (with_reducible apply Moved.refl)
    | (with_reducible assumption)
    | (with_reducible apply Moved.fold)
    | (with_reducible apply Moved.fold_fst)
    | ((with_reducible apply Moved.via); (case k => with_reducible apply State.modFrame_moved); (case sub => decide))
    | ((with_reducible apply Moved.via); (case k => with_reducible apply State.forgetFrames_moved); (case sub => decide))
    | ((with_reducible apply Moved.via); (case k => with_reducible apply State.modCam_moved); (case sub => decide))
    | ((with_reducible apply Moved.via); (case k => with_reducible apply State.present_moved); (case sub => decide))
    | ((with_reducible apply Moved.via); (case k => with_reducible apply State.count_moved); (case sub => decide))
    | (intro _ _)
    | (with_reducible apply Moved.ite)
    | split
    | dsimp only)

theorem State.tellFrameDrops_moved (s : State) (a1 : _) (a2 : _) :
    Moved [.hub, .diag, .vision] s (State.tellFrameDrops s a1 a2) := by
  unfold State.tellFrameDrops
  try dsimp only
  repeat' (first
    | (with_reducible apply Moved.refl)
    | (with_reducible assumption)
    | (with_reducible apply Moved.fold)
    | (with_reducible apply Moved.fold_fst)
    | ((with_reducible apply Moved.via); (case k => with_reducible apply State.modCam_moved); (case sub => decide))
    | ((with_reducible apply Moved.via); (case k => with_reducible apply State.raise_moved); (case sub => decide))
    | (intro _ _)
    | (with_reducible apply Moved.ite)
    | split
    | dsimp only)

theorem State.abortFrames_moved (s : State) (a1 : _) :
    Moved [.hub, .diag, .fabric, .vision] s (State.abortFrames s a1) := by
  unfold State.abortFrames
  try dsimp only
  repeat' (first
    | (with_reducible apply Moved.refl)
    | (with_reducible assumption)
    | (with_reducible apply Moved.fold)
    | (with_reducible apply Moved.fold_fst)
    | ((with_reducible apply Moved.via); (case k => with_reducible apply State.tellFrameDrops_moved); (case sub => decide))
    | ((with_reducible apply Moved.via); (case k => with_reducible apply State.recordFrame_moved); (case sub => decide))
    | ((with_reducible apply Moved.via); (case k => with_reducible apply State.modPipe_moved); (case sub => decide))
    | ((with_reducible apply Moved.via); (case k => with_reducible apply State.modFrame_moved); (case sub => decide))
    | ((with_reducible apply Moved.via); (case k => with_reducible apply State.forgetFrames_moved); (case sub => decide))
    | ((with_reducible apply Moved.via); (case k => with_reducible apply State.modCam_moved); (case sub => decide))
    | ((with_reducible apply Moved.via); (case k => with_reducible apply State.count_moved); (case sub => decide))
    | (intro _ _)
    | (with_reducible apply Moved.ite)
    | split
    | dsimp only)

theorem State.bridgeCheck_moved (s : State) :
    Moved [.vision] s (State.bridgeCheck s) := by
  unfold State.bridgeCheck
  try dsimp only
  repeat' (first
    | (with_reducible apply Moved.refl)
    | (with_reducible assumption)
    | (with_reducible apply Moved.fold)
    | (with_reducible apply Moved.fold_fst)
    | ((with_reducible apply Moved.via); (case k => with_reducible apply State.modVision_moved); (case sub => decide))
    | (intro _ _)
    | (with_reducible apply Moved.ite)
    | split
    | dsimp only)

theorem State.camOff_moved (s : State) (a1 : _) (a2 : _) :
    Moved [.hub, .diag, .fabric, .vision] s (State.camOff s a1 a2) := by
  unfold State.camOff
  try dsimp only
  repeat' (first
    | (with_reducible apply Moved.refl)
    | (with_reducible assumption)
    | (with_reducible apply Moved.fold)
    | (with_reducible apply Moved.fold_fst)
    | ((with_reducible apply Moved.via); (case k => with_reducible apply State.bridgeCheck_moved); (case sub => decide))
    | ((with_reducible apply Moved.via); (case k => with_reducible apply State.abortFrames_moved); (case sub => decide))
    | ((with_reducible apply Moved.via); (case k => with_reducible apply State.camState_moved); (case sub => decide))
    | ((with_reducible apply Moved.via); (case k => with_reducible apply State.modCam_moved); (case sub => decide))
    | (intro _ _)
    | (with_reducible apply Moved.ite)
    | split
    | dsimp only)

theorem State.endFrame_moved (s : State) (a1 : _) (a2 : _) :
    Moved [.diag, .vision] s (State.endFrame s a1 a2) := by
  unfold State.endFrame
  try dsimp only
  repeat' (first
    | (with_reducible apply Moved.refl)
    | (with_reducible assumption)
    | (with_reducible apply Moved.fold)
    | (with_reducible apply Moved.fold_fst)
    | ((with_reducible apply Moved.via); (case k => with_reducible apply State.modFrame_moved); (case sub => decide))
    | ((with_reducible apply Moved.via); (case k => with_reducible apply State.count_moved); (case sub => decide))
    | (intro _ _)
    | (with_reducible apply Moved.ite)
    | split
    | dsimp only)

theorem State.camFault_moved (s : State) (a1 : _) (a2 : _) :
    Moved [.hub, .diag, .fabric, .vision] s (State.camFault s a1 a2) := by
  unfold State.camFault
  try dsimp only
  repeat' (first
    | (with_reducible apply Moved.refl)
    | (with_reducible assumption)
    | (with_reducible apply Moved.fold)
    | (with_reducible apply Moved.fold_fst)
    | ((with_reducible apply Moved.via); (case k => with_reducible apply State.abortFrames_moved); (case sub => decide))
    | ((with_reducible apply Moved.via); (case k => with_reducible apply State.camState_moved); (case sub => decide))
    | ((with_reducible apply Moved.via); (case k => with_reducible apply State.modCam_moved); (case sub => decide))
    | (intro _ _)
    | (with_reducible apply Moved.ite)
    | split
    | dsimp only)

theorem State.dropFrame_moved (s : State) (a1 : _) (a2 : _) (a3 : _) :
    Moved [.hub, .diag, .vision] s (State.dropFrame s a1 a2 a3) := by
  unfold State.dropFrame
  try dsimp only
  repeat' (first
    | (with_reducible apply Moved.refl)
    | (with_reducible assumption)
    | (with_reducible apply Moved.fold)
    | (with_reducible apply Moved.fold_fst)
    | ((with_reducible apply Moved.via); (case k => with_reducible apply State.tellFrameDrops_moved); (case sub => decide))
    | ((with_reducible apply Moved.via); (case k => with_reducible apply State.modPipe_moved); (case sub => decide))
    | ((with_reducible apply Moved.via); (case k => with_reducible apply State.modFrame_moved); (case sub => decide))
    | ((with_reducible apply Moved.via); (case k => with_reducible apply State.modCam_moved); (case sub => decide))
    | ((with_reducible apply Moved.via); (case k => with_reducible apply State.count_moved); (case sub => decide))
    | (intro _ _)
    | (with_reducible apply Moved.ite)
    | split
    | dsimp only)

theorem State.admitLine_moved (a0 : _) (a1 : _) (a2 : _) (a3 : _) (s : State) :
    Moved [.hub, .diag, .vision] s (State.admitLine a0 a1 a2 a3 s) := by
  induction a0 generalizing a1 a2 a3 s with
  | zero => exact Moved.refl _ _
  | succ n ih =>
    unfold State.admitLine
    try dsimp only
    repeat' (first
      | (with_reducible apply Moved.refl)
      | (with_reducible assumption)
      | ((with_reducible apply Moved.via); (case k => with_reducible apply ih); (case sub => decide))
      | (with_reducible apply Moved.fold)
      | (with_reducible apply Moved.fold_fst)
      | ((with_reducible apply Moved.via); (case k => with_reducible apply State.dropFrame_moved); (case sub => decide))
      | ((with_reducible apply Moved.via); (case k => with_reducible apply State.modFrame_moved); (case sub => decide))
      | ((with_reducible apply Moved.via); (case k => with_reducible apply State.modCam_moved); (case sub => decide))
      | (intro _ _)
      | (with_reducible apply Moved.ite)
      | split
      | dsimp only)

theorem State.markFrame_moved (s : State) (a1 : _) (a2 : _) (a3 : _) :
    Moved [.diag, .vision] s (State.markFrame s a1 a2 a3) := by
  unfold State.markFrame
  try dsimp only
  repeat' (first
    | (with_reducible apply Moved.refl)
    | (with_reducible assumption)
    | (with_reducible apply Moved.fold)
    | (with_reducible apply Moved.fold_fst)
    | ((with_reducible apply Moved.via); (case k => with_reducible apply State.modCam_moved); (case sub => decide))
    | ((with_reducible apply Moved.via); (case k => with_reducible apply State.count_moved); (case sub => decide))
    | (intro _ _)
    | (with_reducible apply Moved.ite)
    | split
    | dsimp only)

theorem State.abortPipe_moved (s : State) (a1 : _) :
    Moved [.hub, .diag, .vision] s (State.abortPipe s a1) := by
  unfold State.abortPipe
  try dsimp only
  repeat' (first
    | (with_reducible apply Moved.refl)
    | (with_reducible assumption)
    | (with_reducible apply Moved.fold)
    | (with_reducible apply Moved.fold_fst)
    | ((with_reducible apply Moved.via); (case k => with_reducible apply State.tellFrameDrops_moved); (case sub => decide))
    | ((with_reducible apply Moved.via); (case k => with_reducible apply State.modPipe_moved); (case sub => decide))
    | ((with_reducible apply Moved.via); (case k => with_reducible apply State.modFrame_moved); (case sub => decide))
    | ((with_reducible apply Moved.via); (case k => with_reducible apply State.forgetFrames_moved); (case sub => decide))
    | ((with_reducible apply Moved.via); (case k => with_reducible apply State.modCam_moved); (case sub => decide))
    | ((with_reducible apply Moved.via); (case k => with_reducible apply State.count_moved); (case sub => decide))
    | (intro _ _)
    | (with_reducible apply Moved.ite)
    | split
    | dsimp only)

end Sys2Proof.Machine
end

