-- ==== Sys2Proof/Laws/MovedFenceOps.lean ====
section
/-! SUPPORT. What each operation of Machine/FenceOps.lean may change: nothing but the parts named. -/

namespace Sys2Proof.Machine

set_option maxRecDepth 4000

theorem State.countReset_moved (s : State) (a1 : _) :
    Moved [.islands, .diag, .ledger] s (State.countReset s a1) := by
  unfold State.countReset
  try dsimp only
  repeat' (first
    | (with_reducible apply Moved.refl)
    | (with_reducible assumption)
    | (with_reducible apply Moved.fold)
    | (with_reducible apply Moved.fold_fst)
    | ((with_reducible apply Moved.via); (case k => with_reducible apply State.modIsland_moved); (case sub => decide))
    | ((with_reducible apply Moved.via); (case k => (with_reducible apply modLedger_moved); intro _; first | exact LedgerStep.same rfl rfl | exact LedgerStep.unitsReset .. | (split <;> exact LedgerStep.same rfl rfl) | (refine LedgerStep.mapIf ?_ rfl rfl; exact fun _ _ => ⟨rfl, rfl, .inl rfl⟩) | (refine LedgerStep.mapIf ?_ rfl rfl; exact fun _ h => ⟨rfl, rfl, .inr (by simp_all [RecState.mayMove])⟩)); (case sub => decide))
    | ((with_reducible apply Moved.via); (case k => (with_reducible apply modMode_moved (qs := [.diag])); intro m p hp; cases p <;> first | exact absurd hp (by decide) | exact trivial | rfl | (split <;> rfl) | (unfold ModeState.supLost; split <;> rfl)); (case sub => decide))
    | (intro _ _)
    | (with_reducible apply Moved.ite)
    | split
    | dsimp only)

theorem State.disReset_moved (s : State) :
    Moved [.display] s (State.disReset s) := by
  unfold State.disReset
  try dsimp only
  repeat' (first
    | (with_reducible apply Moved.refl)
    | (with_reducible assumption)
    | (with_reducible apply Moved.fold)
    | (with_reducible apply Moved.fold_fst)
    | ((with_reducible apply Moved.via); (case k => with_reducible apply State.modDisplay_moved); (case sub => decide))
    | (intro _ _)
    | (with_reducible apply Moved.ite)
    | split
    | dsimp only)

theorem State.converge_moved (s : State) :
    Moved [.hub, .change, .diag] s (State.converge s) := by
  unfold State.converge
  try dsimp only
  repeat' (first
    | (with_reducible apply Moved.refl)
    | (with_reducible assumption)
    | (with_reducible apply Moved.fold)
    | (with_reducible apply Moved.fold_fst)
    | ((with_reducible apply Moved.via); (case k => with_reducible apply State.raise_moved); (case sub => decide))
    | ((with_reducible apply Moved.via); (case k => (with_reducible apply modMode_moved (qs := [.change])); intro m p hp; cases p <;> first | exact absurd hp (by decide) | exact trivial | rfl | (split <;> rfl) | (unfold ModeState.supLost; split <;> rfl)); (case sub => decide))
    | (intro _ _)
    | (with_reducible apply Moved.ite)
    | split
    | dsimp only)

theorem State.portUp_moved (s : State) (a1 : _) (a2 : _) :
    Moved [.hub, .diag, .eth] s (State.portUp s a1 a2) := by
  unfold State.portUp
  try dsimp only
  repeat' (first
    | (with_reducible apply Moved.refl)
    | (with_reducible assumption)
    | (with_reducible apply Moved.fold)
    | (with_reducible apply Moved.fold_fst)
    | ((with_reducible apply Moved.via); (case k => with_reducible apply State.setLink_moved); (case sub => decide))
    | ((with_reducible apply Moved.via); (case k => with_reducible apply State.modEthPort_moved); (case sub => decide))
    | (intro _ _)
    | (with_reducible apply Moved.ite)
    | split
    | dsimp only)

theorem State.portsUp_moved (s : State) (a1 : _) :
    Moved [.hub, .diag, .eth] s (State.portsUp s a1) := by
  unfold State.portsUp
  try dsimp only
  repeat' (first
    | (with_reducible apply Moved.refl)
    | (with_reducible assumption)
    | (with_reducible apply Moved.fold)
    | (with_reducible apply Moved.fold_fst)
    | ((with_reducible apply Moved.via); (case k => with_reducible apply State.portUp_moved); (case sub => decide))
    | ((with_reducible apply Moved.via); (case k => with_reducible apply State.modEth_moved); (case sub => decide))
    | (intro _ _)
    | (with_reducible apply Moved.ite)
    | split
    | dsimp only)

theorem State.wake_moved (s : State) (a1 : _) :
    Moved [.hub, .diag, .vision, .buses, .eth, .fleet, .display] s (State.wake s a1) := by
  unfold State.wake
  try dsimp only
  repeat' (first
    | (with_reducible apply Moved.refl)
    | (with_reducible assumption)
    | (with_reducible apply Moved.fold)
    | (with_reducible apply Moved.fold_fst)
    | ((with_reducible apply Moved.via); (case k => with_reducible apply State.portsUp_moved); (case sub => decide))
    | ((with_reducible apply Moved.via); (case k => with_reducible apply State.fleetEval_moved); (case sub => decide))
    | ((with_reducible apply Moved.via); (case k => with_reducible apply State.camState_moved); (case sub => decide))
    | ((with_reducible apply Moved.via); (case k => with_reducible apply State.checkContent_moved); (case sub => decide))
    | ((with_reducible apply Moved.via); (case k => with_reducible apply State.busStart_moved); (case sub => decide))
    | (intro _ _)
    | (with_reducible apply Moved.ite)
    | split
    | dsimp only)

theorem State.unfence_moved (s : State) (a1 : _) :
    Moved [.hub, .change, .fences, .diag, .fabric, .vision, .buses, .eth, .fleet, .display] s (State.unfence s a1) := by
  unfold State.unfence
  try dsimp only
  repeat' (first
    | (with_reducible apply Moved.refl)
    | (with_reducible assumption)
    | (with_reducible apply Moved.fold)
    | (with_reducible apply Moved.fold_fst)
    | ((with_reducible apply Moved.via); (case k => with_reducible apply State.wake_moved); (case sub => decide))
    | ((with_reducible apply Moved.via); (case k => with_reducible apply State.endpointsReturn_moved); (case sub => decide))
    | ((with_reducible apply Moved.via); (case k => with_reducible apply State.converge_moved); (case sub => decide))
    | ((with_reducible apply Moved.via); (case k => with_reducible apply State.raise_moved); (case sub => decide))
    | ((with_reducible apply Moved.via); (case k => (with_reducible apply modMode_moved (qs := [.fences])); intro m p hp; cases p <;> first | exact absurd hp (by decide) | exact trivial | rfl | (split <;> rfl) | (unfold ModeState.supLost; split <;> rfl)); (case sub => decide))
    | (intro _ _)
    | (with_reducible apply Moved.ite)
    | split
    | dsimp only)

theorem State.quietCtl_moved (s : State) (a1 : _) :
    Moved [.hub, .power, .diag, .ledger, .control, .stage, .functions, .sections] s (State.quietCtl s a1) := by
  unfold State.quietCtl
  try dsimp only
  repeat' (first
    | (with_reducible apply Moved.refl)
    | (with_reducible assumption)
    | (with_reducible apply Moved.fold)
    | (with_reducible apply Moved.fold_fst)
    | ((with_reducible apply Moved.via); (case k => with_reducible apply State.haltInst_moved); (case sub => decide))
    | ((with_reducible apply Moved.via); (case k => with_reducible apply State.applySafeAll_moved); (case sub => decide))
    | ((with_reducible apply Moved.via); (case k => with_reducible apply State.openLoop_moved); (case sub => decide))
    | ((with_reducible apply Moved.via); (case k => with_reducible apply State.stopEngine_moved); (case sub => decide))
    | (intro _ _)
    | (with_reducible apply Moved.ite)
    | split
    | dsimp only)

theorem State.quietNet_moved (s : State) (a1 : _) :
    Moved [.hub, .diag, .buses, .eth] s (State.quietNet s a1) := by
  unfold State.quietNet
  try dsimp only
  repeat' (first
    | (with_reducible apply Moved.refl)
    | (with_reducible assumption)
    | (with_reducible apply Moved.fold)
    | (with_reducible apply Moved.fold_fst)
    | ((with_reducible apply Moved.via); (case k => with_reducible apply State.setLink_moved); (case sub => decide))
    | ((with_reducible apply Moved.via); (case k => with_reducible apply State.busStop_moved); (case sub => decide))
    | (intro _ _)
    | (with_reducible apply Moved.ite)
    | split
    | dsimp only)

theorem State.quietVis_moved (s : State) (a1 : _) :
    Moved [.hub, .diag, .fabric, .vision] s (State.quietVis s a1) := by
  unfold State.quietVis
  try dsimp only
  repeat' (first
    | (with_reducible apply Moved.refl)
    | (with_reducible assumption)
    | (with_reducible apply Moved.fold)
    | (with_reducible apply Moved.fold_fst)
    | ((with_reducible apply Moved.via); (case k => with_reducible apply State.abortPipe_moved); (case sub => decide))
    | ((with_reducible apply Moved.via); (case k => with_reducible apply State.abortFrames_moved); (case sub => decide))
    | ((with_reducible apply Moved.via); (case k => with_reducible apply State.modCam_moved); (case sub => decide))
    | (intro _ _)
    | (with_reducible apply Moved.ite)
    | split
    | dsimp only)

theorem State.quiet_moved (s : State) (a1 : _) :
    Moved [.hub, .power, .diag, .ledger, .control, .stage, .functions, .fieldIo, .fabric, .nav, .vision, .infer, .buses, .eth, .display, .safety, .sections] s (State.quiet s a1) := by
  unfold State.quiet
  try dsimp only
  repeat' (first
    | (with_reducible apply Moved.refl)
    | (with_reducible assumption)
    | (with_reducible apply Moved.fold)
    | (with_reducible apply Moved.fold_fst)
    | ((with_reducible apply Moved.via); (case k => with_reducible apply State.safeAllOff_moved); (case sub => decide))
    | ((with_reducible apply Moved.via); (case k => with_reducible apply State.quietVis_moved); (case sub => decide))
    | ((with_reducible apply Moved.via); (case k => with_reducible apply State.quietNet_moved); (case sub => decide))
    | ((with_reducible apply Moved.via); (case k => with_reducible apply State.quietCtl_moved); (case sub => decide))
    | ((with_reducible apply Moved.via); (case k => with_reducible apply State.linkDown_moved); (case sub => decide))
    | ((with_reducible apply Moved.via); (case k => with_reducible apply State.foAllOff_moved); (case sub => decide))
    | ((with_reducible apply Moved.via); (case k => with_reducible apply State.disengage_moved); (case sub => decide))
    | ((with_reducible apply Moved.via); (case k => with_reducible apply State.abandonOn_moved); (case sub => decide))
    | ((with_reducible apply Moved.via); (case k => with_reducible apply State.displayOff_moved); (case sub => decide))
    | (intro _ _)
    | (with_reducible apply Moved.ite)
    | split
    | dsimp only)

theorem State.fence_moved (s : State) (a1 : _) (a2 : _) (a3 : _) (a4 : _) :
    Moved [.hub, .power, .fences, .diag, .ledger, .control, .stage, .functions, .fieldIo, .fabric, .nav, .vision, .infer, .buses, .eth, .display, .safety, .sections] s (State.fence s a1 a2 a3 a4) := by
  unfold State.fence
  try dsimp only
  repeat' (first
    | (with_reducible apply Moved.refl)
    | (with_reducible assumption)
    | (with_reducible apply Moved.fold)
    | (with_reducible apply Moved.fold_fst)
    | ((with_reducible apply Moved.via); (case k => with_reducible apply State.quiet_moved); (case sub => decide))
    | ((with_reducible apply Moved.via); (case k => with_reducible apply State.endpointsAbsent_moved); (case sub => decide))
    | ((with_reducible apply Moved.via); (case k => with_reducible apply State.raise_moved); (case sub => decide))
    | ((with_reducible apply Moved.via); (case k => with_reducible apply State.count_moved); (case sub => decide))
    | ((with_reducible apply Moved.via); (case k => (with_reducible apply modMode_moved (qs := [.fences])); intro m p hp; cases p <;> first | exact absurd hp (by decide) | exact trivial | rfl | (split <;> rfl) | (unfold ModeState.supLost; split <;> rfl)); (case sub => decide))
    | (intro _ _)
    | (with_reducible apply Moved.ite)
    | split
    | dsimp only)

theorem State.fenceAll_moved (s : State) (a1 : _) (a2 : _) (a3 : _) (a4 : _) :
    Moved [.hub, .power, .fences, .diag, .ledger, .control, .stage, .functions, .fieldIo, .fabric, .nav, .vision, .infer, .buses, .eth, .display, .safety, .sections] s (State.fenceAll s a1 a2 a3 a4) := by
  unfold State.fenceAll
  try dsimp only
  repeat' (first
    | (with_reducible apply Moved.refl)
    | (with_reducible assumption)
    | (with_reducible apply Moved.fold)
    | (with_reducible apply Moved.fold_fst)
    | ((with_reducible apply Moved.via); (case k => with_reducible apply State.fence_moved); (case sub => decide))
    | (intro _ _)
    | (with_reducible apply Moved.ite)
    | split
    | dsimp only)

theorem State.infReset_moved (s : State) :
    Moved [.infer] s (State.infReset s) := by
  unfold State.infReset
  try dsimp only
  repeat' (first
    | (with_reducible apply Moved.refl)
    | (with_reducible assumption)
    | (with_reducible apply Moved.fold)
    | (with_reducible apply Moved.fold_fst)
    | ((with_reducible apply Moved.via); (case k => with_reducible apply State.modInfer_moved); (case sub => decide))
    | (intro _ _)
    | (with_reducible apply Moved.ite)
    | split
    | dsimp only)

theorem State.navReset_moved (s : State) :
    Moved [.hub, .diag, .control, .nav] s (State.navReset s) := by
  unfold State.navReset
  try dsimp only
  repeat' (first
    | (with_reducible apply Moved.refl)
    | (with_reducible assumption)
    | (with_reducible apply Moved.fold)
    | (with_reducible apply Moved.fold_fst)
    | ((with_reducible apply Moved.via); (case k => with_reducible apply State.setTime_moved); (case sub => decide))
    | ((with_reducible apply Moved.via); (case k => with_reducible apply State.disengage_moved); (case sub => decide))
    | ((with_reducible apply Moved.via); (case k => with_reducible apply set_nav); (case sub => decide))
    | (intro _ _)
    | (with_reducible apply Moved.ite)
    | split
    | dsimp only)

theorem State.mergesLost_moved (s : State) (a1 : _) :
    Moved [.hub, .diag, .fleet] s (State.mergesLost s a1) := by
  unfold State.mergesLost
  try dsimp only
  repeat' (first
    | (with_reducible apply Moved.refl)
    | (with_reducible assumption)
    | (with_reducible apply Moved.fold)
    | (with_reducible apply Moved.fold_fst)
    | ((with_reducible apply Moved.via); (case k => with_reducible apply State.modFleet_moved); (case sub => decide))
    | ((with_reducible apply Moved.via); (case k => with_reducible apply State.complete_moved); (case sub => decide))
    | (intro _ _)
    | (with_reducible apply Moved.ite)
    | split
    | dsimp only)

theorem State.netReset_moved (s : State) :
    Moved [.hub, .diag, .buses, .eth, .fleet] s (State.netReset s) := by
  unfold State.netReset
  try dsimp only
  repeat' (first
    | (with_reducible apply Moved.refl)
    | (with_reducible assumption)
    | (with_reducible apply Moved.fold)
    | (with_reducible apply Moved.fold_fst)
    | ((with_reducible apply Moved.via); (case k => with_reducible apply State.mergesLost_moved); (case sub => decide))
    | ((with_reducible apply Moved.via); (case k => with_reducible apply State.modFleet_moved); (case sub => decide))
    | ((with_reducible apply Moved.via); (case k => with_reducible apply State.modEth_moved); (case sub => decide))
    | ((with_reducible apply Moved.via); (case k => with_reducible apply State.busReset_moved); (case sub => decide))
    | (intro _ _)
    | (with_reducible apply Moved.ite)
    | split
    | dsimp only)

theorem State.visReset_moved (s : State) :
    Moved [.vision] s (State.visReset s) := by
  unfold State.visReset
  try dsimp only
  repeat' (first
    | (with_reducible apply Moved.refl)
    | (with_reducible assumption)
    | (with_reducible apply Moved.fold)
    | (with_reducible apply Moved.fold_fst)
    | ((with_reducible apply Moved.via); (case k => with_reducible apply State.modVision_moved); (case sub => decide))
    | (intro _ _)
    | (with_reducible apply Moved.ite)
    | split
    | dsimp only)

theorem State.releaseIsland_moved (s : State) (a1 : _) (a2 : _) :
    Moved [.hub, .islands, .diag, .jack, .ledger, .fieldIo, .nav, .buses, .eth, .display, .safety] s (State.releaseIsland s a1 a2) := by
  unfold State.releaseIsland
  try dsimp only
  repeat' (first
    | (with_reducible apply Moved.refl)
    | (with_reducible assumption)
    | (with_reducible apply Moved.fold)
    | (with_reducible apply Moved.fold_fst)
    | ((with_reducible apply Moved.via); (case k => with_reducible apply State.safRelease_moved); (case sub => decide))
    | ((with_reducible apply Moved.via); (case k => with_reducible apply State.fieldRejoined_moved); (case sub => decide))
    | ((with_reducible apply Moved.via); (case k => with_reducible apply State.tellOutputs_moved); (case sub => decide))
    | ((with_reducible apply Moved.via); (case k => with_reducible apply State.navStart_moved); (case sub => decide))
    | ((with_reducible apply Moved.via); (case k => with_reducible apply State.portsUp_moved); (case sub => decide))
    | ((with_reducible apply Moved.via); (case k => with_reducible apply State.modIsland_moved); (case sub => decide))
    | ((with_reducible apply Moved.via); (case k => with_reducible apply State.setLink_moved); (case sub => decide))
    | ((with_reducible apply Moved.via); (case k => with_reducible apply State.panelAtRelease_moved); (case sub => decide))
    | ((with_reducible apply Moved.via); (case k => with_reducible apply State.busesStart_moved); (case sub => decide))
    | ((with_reducible apply Moved.via); (case k => (with_reducible apply modMode_moved (qs := [.jack])); intro m p hp; cases p <;> first | exact absurd hp (by decide) | exact trivial | rfl | (split <;> rfl) | (unfold ModeState.supLost; split <;> rfl)); (case sub => decide))
    | (intro _ _)
    | (with_reducible apply Moved.ite)
    | split
    | dsimp only)

end Sys2Proof.Machine
end

