-- ==== Sys2Proof/Laws/MovedModeOps.lean ====
section
/-! SUPPORT. What each operation of Machine/ModeOps.lean may change: nothing but the parts named. -/

namespace Sys2Proof.Machine

set_option maxRecDepth 4000

theorem State.endSelfTest_moved (s : State) (a1 : _) (a2 : _) (a3 : _) :
    Moved [.hub, .change, .fences, .diag, .fabric, .vision, .buses, .eth, .fleet, .display] s (State.endSelfTest s a1 a2 a3) := by
  unfold State.endSelfTest
  try dsimp only
  repeat' (first
    | (with_reducible apply Moved.refl)
    | (with_reducible assumption)
    | (with_reducible apply Moved.fold)
    | (with_reducible apply Moved.fold_fst)
    | ((with_reducible apply Moved.via); (case k => with_reducible apply State.unfence_moved); (case sub => decide))
    | ((with_reducible apply Moved.via); (case k => with_reducible apply State.complete_moved); (case sub => decide))
    | ((with_reducible apply Moved.via); (case k => (with_reducible apply modMode_moved (qs := [.fences])); intro m p hp; cases p <;> first | exact absurd hp (by decide) | exact trivial | rfl | (split <;> rfl) | (unfold ModeState.supLost; split <;> rfl)); (case sub => decide))
    | (intro _ _)
    | (with_reducible apply Moved.ite)
    | split
    | dsimp only)

theorem State.abortChange_moved (s : State) (a1 : _) (a2 : _) :
    Moved [.hub, .change, .diag, .ledger] s (State.abortChange s a1 a2) := by
  unfold State.abortChange
  try dsimp only
  repeat' (first
    | (with_reducible apply Moved.refl)
    | (with_reducible assumption)
    | (with_reducible apply Moved.fold)
    | (with_reducible apply Moved.fold_fst)
    | ((with_reducible apply Moved.via); (case k => with_reducible apply State.settle_moved); (case sub => decide))
    | ((with_reducible apply Moved.via); (case k => with_reducible apply State.expireOther_moved); (case sub => decide))
    | ((with_reducible apply Moved.via); (case k => (with_reducible apply modMode_moved (qs := [.change])); intro m p hp; cases p <;> first | exact absurd hp (by decide) | exact trivial | rfl | (split <;> rfl) | (unfold ModeState.supLost; split <;> rfl)); (case sub => decide))
    | (intro _ _)
    | (with_reducible apply Moved.ite)
    | split
    | dsimp only)

theorem State.resetInVote_moved (s : State) (a1 : _) :
    Moved [.hub, .change, .diag, .ledger] s (State.resetInVote s a1) := by
  unfold State.resetInVote
  try dsimp only
  repeat' (first
    | (with_reducible apply Moved.refl)
    | (with_reducible assumption)
    | (with_reducible apply Moved.fold)
    | (with_reducible apply Moved.fold_fst)
    | ((with_reducible apply Moved.via); (case k => with_reducible apply State.abortChange_moved); (case sub => decide))
    | (intro _ _)
    | (with_reducible apply Moved.ite)
    | split
    | dsimp only)

theorem State.proofFailed_moved (s : State) (a1 : _) :
    Moved [.hub, .auth, .diag, .safetyRecord] s (State.proofFailed s a1) := by
  unfold State.proofFailed
  try dsimp only
  repeat' (first
    | (with_reducible apply Moved.refl)
    | (with_reducible assumption)
    | (with_reducible apply Moved.fold)
    | (with_reducible apply Moved.fold_fst)
    | ((with_reducible apply Moved.via); (case k => with_reducible apply State.appendLog_moved); (case sub => decide))
    | ((with_reducible apply Moved.via); (case k => (with_reducible apply modMode_moved (qs := [.auth])); intro m p hp; cases p <;> first | exact absurd hp (by decide) | exact trivial | rfl | (split <;> rfl) | (unfold ModeState.supLost; split <;> rfl)); (case sub => decide))
    | (intro _ _)
    | (with_reducible apply Moved.ite)
    | split
    | dsimp only)

theorem State.proofPassed_moved (s : State) (a1 : _) :
    Moved [.auth] s (State.proofPassed s a1) := by
  unfold State.proofPassed
  try dsimp only
  repeat' (first
    | (with_reducible apply Moved.refl)
    | (with_reducible assumption)
    | (with_reducible apply Moved.fold)
    | (with_reducible apply Moved.fold_fst)
    | ((with_reducible apply Moved.via); (case k => (with_reducible apply modMode_moved (qs := [.auth])); intro m p hp; cases p <;> first | exact absurd hp (by decide) | exact trivial | rfl | (split <;> rfl) | (unfold ModeState.supLost; split <;> rfl)); (case sub => decide))
    | (intro _ _)
    | (with_reducible apply Moved.ite)
    | split
    | dsimp only)

theorem State.setChallenge_moved (s : State) (a1 : _) (a2 : _) :
    Moved [.auth] s (State.setChallenge s a1 a2) := by
  unfold State.setChallenge
  try dsimp only
  repeat' (first
    | (with_reducible apply Moved.refl)
    | (with_reducible assumption)
    | (with_reducible apply Moved.fold)
    | (with_reducible apply Moved.fold_fst)
    | ((with_reducible apply Moved.via); (case k => (with_reducible apply modMode_moved (qs := [.auth])); intro m p hp; cases p <;> first | exact absurd hp (by decide) | exact trivial | rfl | (split <;> rfl) | (unfold ModeState.supLost; split <;> rfl)); (case sub => decide))
    | (intro _ _)
    | (with_reducible apply Moved.ite)
    | split
    | dsimp only)

theorem State.authorize_moved (s : State) (a1 : _) (a2 : _) (a3 : _) (a4 : _) :
    Moved [.hub, .auth, .diag, .safetyRecord] s (State.authorize s a1 a2 a3 a4).2 := by
  unfold State.authorize
  try dsimp only
  repeat' (first
    | (with_reducible apply Moved.refl)
    | (with_reducible assumption)
    | (with_reducible apply Moved.fold)
    | (with_reducible apply Moved.fold_fst)
    | ((with_reducible apply Moved.via); (case k => with_reducible apply State.setChallenge_moved); (case sub => decide))
    | ((with_reducible apply Moved.via); (case k => with_reducible apply State.proofPassed_moved); (case sub => decide))
    | ((with_reducible apply Moved.via); (case k => with_reducible apply State.proofFailed_moved); (case sub => decide))
    | (intro _ _)
    | (with_reducible apply Moved.ite)
    | split
    | dsimp only)

theorem State.openModeRecord_moved (s : State) (a1 : _) :
    Moved [.hub, .change, .diag, .ledger] s (State.openModeRecord s a1) := by
  unfold State.openModeRecord
  try dsimp only
  repeat' (first
    | (with_reducible apply Moved.refl)
    | (with_reducible assumption)
    | (with_reducible apply Moved.fold)
    | (with_reducible apply Moved.fold_fst)
    | ((with_reducible apply Moved.via); (case k => with_reducible apply State.newRecord_moved); (case sub => decide))
    | ((with_reducible apply Moved.via); (case k => (with_reducible apply modMode_moved (qs := [.change])); intro m p hp; cases p <;> first | exact absurd hp (by decide) | exact trivial | rfl | (split <;> rfl) | (unfold ModeState.supLost; split <;> rfl)); (case sub => decide))
    | (intro _ _)
    | (with_reducible apply Moved.ite)
    | split
    | dsimp only)

theorem State.prepare_moved (s : State) (a1 : _) (a2 : _) (a3 : _) (a4 : _) (a5 : _) (a6 : _) :
    Moved [.change] s (State.prepare s a1 a2 a3 a4 a5 a6) := by
  unfold State.prepare
  try dsimp only
  repeat' (first
    | (with_reducible apply Moved.refl)
    | (with_reducible assumption)
    | (with_reducible apply Moved.fold)
    | (with_reducible apply Moved.fold_fst)
    | ((with_reducible apply Moved.via); (case k => (with_reducible apply modMode_moved (qs := [.change])); intro m p hp; cases p <;> first | exact absurd hp (by decide) | exact trivial | rfl | (split <;> rfl) | (unfold ModeState.supLost; split <;> rfl)); (case sub => decide))
    | (intro _ _)
    | (with_reducible apply Moved.ite)
    | split
    | dsimp only)

theorem State.forceHold_moved (s : State) (a1 : _) (a2 : _) (a3 : _) (a4 : _) :
    Moved [.hub, .change, .fences, .diag, .ledger, .fabric, .vision, .buses, .eth, .fleet, .display] s (State.forceHold s a1 a2 a3 a4) := by
  unfold State.forceHold
  try dsimp only
  repeat' (first
    | (with_reducible apply Moved.refl)
    | (with_reducible assumption)
    | (with_reducible apply Moved.fold)
    | (with_reducible apply Moved.fold_fst)
    | ((with_reducible apply Moved.via); (case k => with_reducible apply State.prepare_moved); (case sub => decide))
    | ((with_reducible apply Moved.via); (case k => with_reducible apply State.openModeRecord_moved); (case sub => decide))
    | ((with_reducible apply Moved.via); (case k => with_reducible apply State.abortChange_moved); (case sub => decide))
    | ((with_reducible apply Moved.via); (case k => with_reducible apply State.endSelfTest_moved); (case sub => decide))
    | ((with_reducible apply Moved.via); (case k => (with_reducible apply modMode_moved (qs := [.change])); intro m p hp; cases p <;> first | exact absurd hp (by decide) | exact trivial | rfl | (split <;> rfl) | (unfold ModeState.supLost; split <;> rfl)); (case sub => decide))
    | (intro _ _)
    | (with_reducible apply Moved.ite)
    | split
    | dsimp only)

theorem State.commitChannels_moved (s : State) (a1 : _) :
    Moved [.hub, .power, .diag, .ledger, .control, .stage, .sections] s (State.commitChannels s a1) := by
  unfold State.commitChannels
  try dsimp only
  repeat' (first
    | (with_reducible apply Moved.refl)
    | (with_reducible assumption)
    | (with_reducible apply Moved.fold)
    | (with_reducible apply Moved.fold_fst)
    | ((with_reducible apply Moved.via); (case k => with_reducible apply State.applySafe_moved); (case sub => decide))
    | ((with_reducible apply Moved.via); (case k => with_reducible apply State.finishRequests_moved); (case sub => decide))
    | ((with_reducible apply Moved.via); (case k => with_reducible apply State.commandOff_moved); (case sub => decide))
    | ((with_reducible apply Moved.via); (case k => with_reducible apply State.modStage_moved); (case sub => decide))
    | (intro _ _)
    | (with_reducible apply Moved.ite)
    | split
    | dsimp only)

theorem State.commitLoops_moved (s : State) (a1 : _) :
    Moved [.hub, .diag, .control, .stage] s (State.commitLoops s a1) := by
  unfold State.commitLoops
  try dsimp only
  repeat' (first
    | (with_reducible apply Moved.refl)
    | (with_reducible assumption)
    | (with_reducible apply Moved.fold)
    | (with_reducible apply Moved.fold_fst)
    | ((with_reducible apply Moved.via); (case k => with_reducible apply State.openLoop_moved); (case sub => decide))
    | ((with_reducible apply Moved.via); (case k => with_reducible apply State.dropClosing_moved); (case sub => decide))
    | (intro _ _)
    | (with_reducible apply Moved.ite)
    | split
    | dsimp only)

theorem State.applyMode_moved (s : State) (a1 : _) :
    Moved [.hub, .power, .diag, .ledger, .control, .stage, .functions, .fieldIo, .nav, .safety, .safetyRecord, .sections] s (State.applyMode s a1) := by
  unfold State.applyMode
  try dsimp only
  repeat' (first
    | (with_reducible apply Moved.refl)
    | (with_reducible assumption)
    | (with_reducible apply Moved.fold)
    | (with_reducible apply Moved.fold_fst)
    | ((with_reducible apply Moved.via); (case k => with_reducible apply State.safMode_moved); (case sub => decide))
    | ((with_reducible apply Moved.via); (case k => with_reducible apply State.commitSections_moved); (case sub => decide))
    | ((with_reducible apply Moved.via); (case k => with_reducible apply State.commitLoops_moved); (case sub => decide))
    | ((with_reducible apply Moved.via); (case k => with_reducible apply State.commitInsts_moved); (case sub => decide))
    | ((with_reducible apply Moved.via); (case k => with_reducible apply State.commitChannels_moved); (case sub => decide))
    | ((with_reducible apply Moved.via); (case k => with_reducible apply State.genesis_moved); (case sub => decide))
    | ((with_reducible apply Moved.via); (case k => with_reducible apply State.foAllOff_moved); (case sub => decide))
    | ((with_reducible apply Moved.via); (case k => with_reducible apply State.disengage_moved); (case sub => decide))
    | (intro _ _)
    | (with_reducible apply Moved.ite)
    | split
    | dsimp only)

theorem State.releaseAssigned_moved (s : State) (a1 : _) (a2 : _) :
    Moved [.nav] s (State.releaseAssigned s a1 a2) := by
  unfold State.releaseAssigned
  try dsimp only
  repeat' (first
    | (with_reducible apply Moved.refl)
    | (with_reducible assumption)
    | (with_reducible apply Moved.fold)
    | (with_reducible apply Moved.fold_fst)
    | ((with_reducible apply Moved.via); (case k => with_reducible apply State.modBase_moved); (case sub => decide))
    | (intro _ _)
    | (with_reducible apply Moved.ite)
    | split
    | dsimp only)

theorem State.enterMode_moved (s : State) (a1 : _) :
    Moved [.hub, .power, .rung, .epoch, .mode, .auth, .diag, .ledger, .control, .stage, .functions, .fieldIo, .nav, .display, .safety, .safetyRecord, .sections] s (State.enterMode s a1) := by
  unfold State.enterMode
  try dsimp only
  repeat' (first
    | (with_reducible apply Moved.refl)
    | (with_reducible assumption)
    | (with_reducible apply Moved.fold)
    | (with_reducible apply Moved.fold_fst)
    | ((with_reducible apply Moved.via); (case k => with_reducible apply State.releaseAssigned_moved); (case sub => decide))
    | ((with_reducible apply Moved.via); (case k => with_reducible apply State.applyMode_moved); (case sub => decide))
    | ((with_reducible apply Moved.via); (case k => (with_reducible apply modPower_moved (qs := [.power, .rung])); intro m p hp; cases p <;> first | exact absurd hp (by decide) | exact trivial | rfl | (split <;> rfl) | (unfold ModeState.supLost; split <;> rfl)); (case sub => decide))
    | ((with_reducible apply Moved.via); (case k => with_reducible apply State.drawStrip_moved); (case sub => decide))
    | ((with_reducible apply Moved.via); (case k => with_reducible apply State.modHub_moved); (case sub => decide))
    | ((with_reducible apply Moved.via); (case k => (with_reducible apply modMode_moved (qs := [.epoch, .mode, .auth])); intro m p hp; cases p <;> first | exact absurd hp (by decide) | exact trivial | rfl | (split <;> rfl) | (unfold ModeState.supLost; split <;> rfl)); (case sub => decide))
    | (intro _ _)
    | (with_reducible apply Moved.ite)
    | split
    | dsimp only)

theorem State.commitChange_moved (s : State) (a1 : _) :
    Moved [.hub, .power, .rung, .epoch, .mode, .change, .fences, .auth, .diag, .ledger, .control, .stage, .functions, .fieldIo, .fabric, .nav, .vision, .infer, .buses, .eth, .fleet, .display, .safety, .safetyRecord, .update, .sections] s (State.commitChange s a1) := by
  unfold State.commitChange
  try dsimp only
  repeat' (first
    | (with_reducible apply Moved.refl)
    | (with_reducible assumption)
    | (with_reducible apply Moved.fold)
    | (with_reducible apply Moved.fold_fst)
    | ((with_reducible apply Moved.via); (case k => with_reducible apply State.eraseIdentity_moved); (case sub => decide))
    | ((with_reducible apply Moved.via); (case k => with_reducible apply State.enterMode_moved); (case sub => decide))
    | ((with_reducible apply Moved.via); (case k => with_reducible apply State.fenceAll_moved); (case sub => decide))
    | ((with_reducible apply Moved.via); (case k => with_reducible apply State.settle_moved); (case sub => decide))
    | ((with_reducible apply Moved.via); (case k => with_reducible apply State.setRecord_moved); (case sub => decide))
    | ((with_reducible apply Moved.via); (case k => (with_reducible apply modMode_moved (qs := [.change, .fences, .auth])); intro m p hp; cases p <;> first | exact absurd hp (by decide) | exact trivial | rfl | (split <;> rfl) | (unfold ModeState.supLost; split <;> rfl)); (case sub => decide))
    | (intro _ _)
    | (with_reducible apply Moved.ite)
    | split
    | dsimp only)

end Sys2Proof.Machine
end

