-- ==== Sys2Proof/Laws/MovedResetOps.lean ====
section
/-! SUPPORT. What each operation of Machine/ResetOps.lean may change: nothing but the parts named. -/

namespace Sys2Proof.Machine

set_option maxRecDepth 4000

theorem State.endSession_moved (s : State) (a1 : _) :
    Moved [.hub, .stage] s (State.endSession s a1) := by
  unfold State.endSession
  try dsimp only
  repeat' (first
    | (with_reducible apply Moved.refl)
    | (with_reducible assumption)
    | (with_reducible apply Moved.fold)
    | (with_reducible apply Moved.fold_fst)
    | ((with_reducible apply Moved.via); (case k => with_reducible apply State.resetChannel_moved); (case sub => decide))
    | ((with_reducible apply Moved.via); (case k => with_reducible apply State.losePath_moved); (case sub => decide))
    | ((with_reducible apply Moved.via); (case k => with_reducible apply State.modHub_moved); (case sub => decide))
    | (intro _ _)
    | (with_reducible apply Moved.ite)
    | split
    | dsimp only)

theorem State.appLost_moved (s : State) :
    Moved [.hub, .power, .diag, .ledger, .control, .stage, .place, .fabric, .infer, .eth, .sections] s (State.appLost s) := by
  unfold State.appLost
  try dsimp only
  repeat' (first
    | (with_reducible apply Moved.refl)
    | (with_reducible assumption)
    | (with_reducible apply Moved.fold)
    | (with_reducible apply Moved.fold_fst)
    | ((with_reducible apply Moved.via); (case k => with_reducible apply State.setLink_moved); (case sub => decide))
    | ((with_reducible apply Moved.via); (case k => with_reducible apply State.poolLost_moved); (case sub => decide))
    | ((with_reducible apply Moved.via); (case k => with_reducible apply State.modEth_moved); (case sub => decide))
    | ((with_reducible apply Moved.via); (case k => with_reducible apply State.holdChannel_moved); (case sub => decide))
    | ((with_reducible apply Moved.via); (case k => (with_reducible apply modPlace_moved); intro _; first | exact PlaceStep.same rfl rfl | exact ⟨Nat.le_succ _, fun h => h⟩ | exact ⟨Nat.le_refl _, fun h => h.sub (List.filter_sublist ..)⟩ | (refine ⟨Nat.le_refl _, fun h => ?_⟩; refine h.mapAll ?_ (by dsimp only); intro _ _ h; first | exact h | (split <;> exact h) | (unfold Placement.window; exact h))); (case sub => decide))
    | (intro _ _)
    | (with_reducible apply Moved.ite)
    | split
    | dsimp only)

theorem State.endIslandTests_moved (s : State) (a1 : _) :
    Moved [.hub, .change, .fences, .diag, .fabric, .vision, .buses, .eth, .fleet, .display] s (State.endIslandTests s a1) := by
  unfold State.endIslandTests
  try dsimp only
  repeat' (first
    | (with_reducible apply Moved.refl)
    | (with_reducible assumption)
    | (with_reducible apply Moved.fold)
    | (with_reducible apply Moved.fold_fst)
    | ((with_reducible apply Moved.via); (case k => with_reducible apply State.endSelfTest_moved); (case sub => decide))
    | (intro _ _)
    | (with_reducible apply Moved.ite)
    | split
    | dsimp only)

theorem State.tearUnit_moved (s : State) (a1 : _) (a2 : _) :
    Moved [.place, .freeCount] s (State.tearUnit s a1 a2) := by
  unfold State.tearUnit
  try dsimp only
  repeat' (first
    | (with_reducible apply Moved.refl)
    | (with_reducible assumption)
    | (with_reducible apply Moved.fold)
    | (with_reducible apply Moved.fold_fst)
    | ((with_reducible apply Moved.via); (case k => with_reducible apply State.free_moved); (case sub => decide))
    | ((with_reducible apply Moved.via); (case k => (with_reducible apply modPlacement_moved); intro _ h; first | exact h | (split <;> exact h) | exact ⟨h.1, Memory.copyFrom_wf h.2 ..⟩ | exact ⟨h.1, by dsimp only; split <;> first | exact h.1 | exact h.2⟩); (case sub => decide))
    | (intro _ _)
    | (with_reducible apply Moved.ite)
    | split
    | (refine Moved.snd (by assumption) ?_)
    | dsimp only)

theorem State.placesAfterStop_moved (s : State) (a1 : _) :
    Moved [.place, .freeCount] s (State.placesAfterStop s a1) := by
  unfold State.placesAfterStop
  dsimp only
  have h : Moved [.place, .freeCount] s (s.place.places.entries.foldl (fun s e =>
      if e.2.dur == 2 then e.2.writing.foldl (fun s w => s.tearUnit e.1 w) s else s) s) := by
    refine Moved.fold (Moved.refl ..) fun t e => Moved.ite ?_ (Moved.refl ..)
    exact Moved.fold (Moved.refl ..) fun t w => Moved.via (State.tearUnit_moved ..) (Moved.refl ..) (by decide)
  revert h
  generalize s.place.places.entries.foldl (fun s e =>
      if e.2.dur == 2 then e.2.writing.foldl (fun s w => s.tearUnit e.1 w) s else s) s = t
  intro h
  refine Moved.via (set_place t ?_) h (by decide)
  refine ⟨Nat.le_refl _, fun k => ?_⟩
  refine PlacesSound.mapAll (q := { t.place with places := t.place.places.keep fun _ p => p.dur == 2 })
    (k.sub (List.filter_sublist ..)) ?_ (by dsimp only)
  exact fun _ _ x => ⟨x.2, x.2⟩

theorem State.forgetAll_moved (s : State) (a1 : _) (a2 : _) :
    Moved [.hub, .power, .rung, .mode, .change, .fences, .islands, .auth, .diag, .jack, .ledger, .control, .stage, .functions, .fieldIo, .place, .fabric, .nav, .vision, .infer, .buses, .eth, .fleet, .display, .safety, .update, .sections, .freeCount, .deferred] s (State.forgetAll s a1 a2) := by
  have h : Moved [.hub, .power, .rung, .mode, .change, .fences, .islands, .auth, .diag, .jack, .ledger, .control, .stage, .functions, .fieldIo, .place, .fabric, .nav, .vision, .infer, .buses, .eth, .fleet, .display, .safety, .update, .sections, .freeCount, .deferred] s (s.cutInstall.placesAfterStop a2).safReset :=
    Moved.via (State.safReset_moved ..) (Moved.via (State.placesAfterStop_moved ..)
      (Moved.via (State.cutInstall_moved ..) (Moved.refl ..) (by decide)) (by decide)) (by decide)
  have k : Moved [.hub, .power, .rung, .mode, .change, .fences, .islands, .auth, .diag, .jack, .ledger, .control, .stage, .functions, .fieldIo, .place, .fabric, .nav, .vision, .infer, .buses, .eth, .fleet, .display, .safety, .update, .sections, .freeCount, .deferred] s (s.cutInstall.placesAfterStop a2) :=
    Moved.via (State.placesAfterStop_moved ..) (Moved.via (State.cutInstall_moved ..) (Moved.refl ..) (by decide)) (by decide)
  refine ⟨?_, ?_, ?_, ?_⟩
  · constructor
    intro p hp
    cases p
    case time =>
      have e : (s.forgetAll a1 a2).time = (s.cutInstall.placesAfterStop a2).safReset.time := by unfold State.forgetAll; dsimp only
      have j := h.only.same .time rfl
      dsimp only [Part.same] at j ⊢; exact Eq.trans e j
    case tick =>
      have e : (s.forgetAll a1 a2).tick = (s.cutInstall.placesAfterStop a2).safReset.tick := by unfold State.forgetAll; dsimp only
      have j := h.only.same .tick rfl
      dsimp only [Part.same] at j ⊢; exact Eq.trans e j
    case copies =>
      have e : (s.forgetAll a1 a2).copies = (s.cutInstall.placesAfterStop a2).safReset.copies := by unfold State.forgetAll; dsimp only
      have j := h.only.same .copies rfl
      dsimp only [Part.same] at j ⊢; exact Eq.trans e j
    case pending =>
      have e : (s.forgetAll a1 a2).pending = (s.cutInstall.placesAfterStop a2).safReset.pending := by
        unfold State.forgetAll; dsimp only
      have j := h.only.same .pending rfl
      dsimp only [Part.same] at j ⊢; exact Eq.trans e j
    case epoch =>
      have e : (s.forgetAll a1 a2).mode.epoch = (s.cutInstall.placesAfterStop a2).mode.epoch := by
        unfold State.forgetAll; dsimp only [ModeState.afterStop]
      have j := k.only.same .epoch rfl
      dsimp only [Part.same, Part.sameMode] at j ⊢; exact Eq.trans e j
    case safetyRecord =>
      have e : (s.forgetAll a1 a2).safety = (s.cutInstall.placesAfterStop a2).safReset.safety := by
        unfold State.forgetAll; dsimp only
      have j := h.only.same .safetyRecord rfl
      dsimp only [Part.same] at j ⊢; rw [e]; exact j
    all_goals exact absurd hp (by decide)
  · have e : (s.forgetAll a1 a2).ledger = (s.cutInstall.placesAfterStop a2).ledger.afterStop := by unfold State.forgetAll; dsimp only
    rw [e]; exact k.later.ledger.trans (Ledger.afterStop_step _)
  · have e : (s.forgetAll a1 a2).update = (s.cutInstall.placesAfterStop a2).update.afterStop := by unfold State.forgetAll; dsimp only
    rw [e]
    refine k.later.fuses.trans (FusesMoved.mapAll ?_ (by unfold Update.afterStop; dsimp only) rfl)
    exact fun _ _ => rfl
  · have e : (s.forgetAll a1 a2).place = (s.cutInstall.placesAfterStop a2).safReset.place := by unfold State.forgetAll; dsimp only
    rw [e]; exact h.later.place

theorem State.moduleReset_moved (s : State) (a1 : _) :
    Moved [.hub, .power, .rung, .mode, .change, .fences, .islands, .auth, .diag, .jack, .ledger, .control, .stage, .functions, .fieldIo, .place, .fabric, .nav, .vision, .infer, .buses, .eth, .fleet, .display, .safety, .update, .sections, .freeCount, .deferred] s (State.moduleReset s a1) := by
  unfold State.moduleReset
  try dsimp only
  repeat' (first
    | (with_reducible apply Moved.refl)
    | (with_reducible assumption)
    | (with_reducible apply Moved.fold)
    | (with_reducible apply Moved.fold_fst)
    | ((with_reducible apply Moved.via); (case k => with_reducible apply State.forgetAll_moved); (case sub => decide))
    | ((with_reducible apply Moved.via); (case k => with_reducible apply State.allOff_moved); (case sub => decide))
    | ((with_reducible apply Moved.via); (case k => with_reducible apply State.foAllOff_moved); (case sub => decide))
    | ((with_reducible apply Moved.via); (case k => (with_reducible apply modPower_moved (qs := [.power])); intro m p hp; cases p <;> first | exact absurd hp (by decide) | exact trivial | rfl | (split <;> rfl) | (unfold ModeState.supLost; split <;> rfl)); (case sub => decide))
    | ((with_reducible apply Moved.via); (case k => with_reducible apply State.displayOff_moved); (case sub => decide))
    | (intro _ _)
    | (with_reducible apply Moved.ite)
    | split
    | dsimp only)

theorem State.dropDeferred_moved (s : State) :
    Moved [.deferred] s (State.dropDeferred s) := by
  unfold State.dropDeferred
  try dsimp only
  repeat' (first
    | (with_reducible apply Moved.refl)
    | (with_reducible assumption)
    | (with_reducible apply Moved.fold)
    | (with_reducible apply Moved.fold_fst)
    | ((with_reducible apply Moved.via); (case k => with_reducible apply set_deferred); (case sub => decide))
    | (intro _ _)
    | (with_reducible apply Moved.ite)
    | split
    | dsimp only)

theorem State.supReset_moved (s : State) :
    Moved [.hub, .rung, .change, .islands, .diag, .ledger, .update, .deferred] s (State.supReset s) := by
  unfold State.supReset
  try dsimp only
  repeat' (first
    | (with_reducible apply Moved.refl)
    | (with_reducible assumption)
    | (with_reducible apply Moved.fold)
    | (with_reducible apply Moved.fold_fst)
    | ((with_reducible apply Moved.via); (case k => with_reducible apply State.dropDeferred_moved); (case sub => decide))
    | ((with_reducible apply Moved.via); (case k => with_reducible apply State.restartImages_moved); (case sub => decide))
    | ((with_reducible apply Moved.via); (case k => with_reducible apply State.cutInstall_moved); (case sub => decide))
    | ((with_reducible apply Moved.via); (case k => with_reducible apply State.countReset_moved); (case sub => decide))
    | ((with_reducible apply Moved.via); (case k => (with_reducible apply modPower_moved (qs := [.rung])); intro m p hp; cases p <;> first | exact absurd hp (by decide) | exact trivial | rfl | (split <;> rfl) | (unfold ModeState.supLost; split <;> rfl)); (case sub => decide))
    | ((with_reducible apply Moved.via); (case k => with_reducible apply State.modHub_moved); (case sub => decide))
    | ((with_reducible apply Moved.via); (case k => (with_reducible apply modMode_moved (qs := [.change])); intro m p hp; cases p <;> first | exact absurd hp (by decide) | exact trivial | rfl | (split <;> rfl) | (unfold ModeState.supLost; split <;> rfl)); (case sub => decide))
    | (intro _ _)
    | (with_reducible apply Moved.ite)
    | split
    | dsimp only)

theorem State.islandReset_moved (s : State) (a1 : _) :
    Moved [.hub, .power, .rung, .mode, .change, .fences, .islands, .auth, .diag, .jack, .ledger, .control, .stage, .functions, .fieldIo, .place, .fabric, .nav, .vision, .infer, .buses, .eth, .fleet, .display, .safety, .update, .sections, .freeCount, .deferred] s (State.islandReset s a1) := by
  unfold State.islandReset
  try dsimp only
  repeat' (first
    | (with_reducible apply Moved.refl)
    | (with_reducible assumption)
    | (with_reducible apply Moved.fold)
    | (with_reducible apply Moved.fold_fst)
    | ((with_reducible apply Moved.via); (case k => with_reducible apply State.visReset_moved); (case sub => decide))
    | ((with_reducible apply Moved.via); (case k => with_reducible apply State.supReset_moved); (case sub => decide))
    | ((with_reducible apply Moved.via); (case k => with_reducible apply State.restartImages_moved); (case sub => decide))
    | ((with_reducible apply Moved.via); (case k => with_reducible apply State.resetInVote_moved); (case sub => decide))
    | ((with_reducible apply Moved.via); (case k => with_reducible apply State.netReset_moved); (case sub => decide))
    | ((with_reducible apply Moved.via); (case k => with_reducible apply State.navReset_moved); (case sub => decide))
    | ((with_reducible apply Moved.via); (case k => with_reducible apply State.moduleReset_moved); (case sub => decide))
    | ((with_reducible apply Moved.via); (case k => with_reducible apply State.safReset_moved); (case sub => decide))
    | ((with_reducible apply Moved.via); (case k => with_reducible apply State.infReset_moved); (case sub => decide))
    | ((with_reducible apply Moved.via); (case k => with_reducible apply State.fenceAll_moved); (case sub => decide))
    | ((with_reducible apply Moved.via); (case k => with_reducible apply State.endIslandTests_moved); (case sub => decide))
    | ((with_reducible apply Moved.via); (case k => with_reducible apply State.disReset_moved); (case sub => decide))
    | ((with_reducible apply Moved.via); (case k => with_reducible apply State.countReset_moved); (case sub => decide))
    | ((with_reducible apply Moved.via); (case k => with_reducible apply State.askHold_moved); (case sub => decide))
    | ((with_reducible apply Moved.via); (case k => with_reducible apply State.appLost_moved); (case sub => decide))
    | ((with_reducible apply Moved.via); (case k => with_reducible apply State.endSession_moved); (case sub => decide))
    | ((with_reducible apply Moved.via); (case k => (with_reducible apply modMode_moved (qs := [.diag])); intro m p hp; cases p <;> first | exact absurd hp (by decide) | exact trivial | rfl | (split <;> rfl) | (unfold ModeState.supLost; split <;> rfl)); (case sub => decide))
    | (intro _ _)
    | (with_reducible apply Moved.ite)
    | split
    | dsimp only)

theorem State.snapshot_moved (s : State) :
    Moved [.hub, .diag, .ledger] s (State.snapshot s) := by
  unfold State.snapshot
  try dsimp only
  repeat' (first
    | (with_reducible apply Moved.refl)
    | (with_reducible assumption)
    | (with_reducible apply Moved.fold)
    | (with_reducible apply Moved.fold_fst)
    | ((with_reducible apply Moved.via); (case k => with_reducible apply State.newRecord_moved); (case sub => decide))
    | ((with_reducible apply Moved.via); (case k => (with_reducible apply modLedger_moved); intro _; first | exact LedgerStep.same rfl rfl | exact LedgerStep.unitsReset .. | (split <;> exact LedgerStep.same rfl rfl) | (refine LedgerStep.mapIf ?_ rfl rfl; exact fun _ _ => ⟨rfl, rfl, .inl rfl⟩) | (refine LedgerStep.mapIf ?_ rfl rfl; exact fun _ h => ⟨rfl, rfl, .inr (by simp_all [RecState.mayMove])⟩)); (case sub => decide))
    | (intro _ _)
    | (with_reducible apply Moved.ite)
    | split
    | dsimp only)

theorem State.copyTheta_moved (s : State) :
    Moved [.stage] s (State.copyTheta s) := by
  unfold State.copyTheta
  try dsimp only
  repeat' (first
    | (with_reducible apply Moved.refl)
    | (with_reducible assumption)
    | (with_reducible apply Moved.fold)
    | (with_reducible apply Moved.fold_fst)
    | ((with_reducible apply Moved.via); (case k => with_reducible apply State.modStage_moved); (case sub => decide))
    | (intro _ _)
    | (with_reducible apply Moved.ite)
    | split
    | dsimp only)

theorem State.writesAtFail_moved (s : State) :
    Moved [.hub, .diag, .ledger, .place, .freeCount] s (State.writesAtFail s) := by
  unfold State.writesAtFail
  try dsimp only
  repeat' (first
    | (with_reducible apply Moved.refl)
    | (with_reducible assumption)
    | (with_reducible apply Moved.fold)
    | (with_reducible apply Moved.fold_fst)
    | ((with_reducible apply Moved.via); (case k => with_reducible apply State.wroteBack_moved); (case sub => decide))
    | ((with_reducible apply Moved.via); (case k => with_reducible apply State.free_moved); (case sub => decide))
    | (intro _ _)
    | (with_reducible apply Moved.ite)
    | split
    | (refine Moved.snd (by assumption) ?_)
    | dsimp only)

theorem State.powerFail_moved (s : State) (a1 : _) (a2 : _) :
    Moved [.hub, .power, .rung, .mode, .change, .fences, .islands, .auth, .diag, .jack, .ledger, .control, .stage, .functions, .fieldIo, .place, .fabric, .nav, .vision, .infer, .buses, .eth, .fleet, .display, .safety, .update, .sections, .freeCount, .deferred] s (State.powerFail s a1 a2) := by
  unfold State.powerFail
  try dsimp only
  repeat' (first
    | (with_reducible apply Moved.refl)
    | (with_reducible assumption)
    | (with_reducible apply Moved.fold)
    | (with_reducible apply Moved.fold_fst)
    | ((with_reducible apply Moved.via); (case k => with_reducible apply State.writesAtFail_moved); (case sub => decide))
    | ((with_reducible apply Moved.via); (case k => with_reducible apply State.copyTheta_moved); (case sub => decide))
    | ((with_reducible apply Moved.via); (case k => with_reducible apply State.snapshot_moved); (case sub => decide))
    | ((with_reducible apply Moved.via); (case k => with_reducible apply State.abortChange_moved); (case sub => decide))
    | ((with_reducible apply Moved.via); (case k => with_reducible apply State.forgetAll_moved); (case sub => decide))
    | ((with_reducible apply Moved.via); (case k => with_reducible apply State.allOff_moved); (case sub => decide))
    | ((with_reducible apply Moved.via); (case k => with_reducible apply State.safeAllOff_moved); (case sub => decide))
    | ((with_reducible apply Moved.via); (case k => with_reducible apply State.foAllOff_moved); (case sub => decide))
    | ((with_reducible apply Moved.via); (case k => (with_reducible apply modPower_moved (qs := [.power])); intro m p hp; cases p <;> first | exact absurd hp (by decide) | exact trivial | rfl | (split <;> rfl) | (unfold ModeState.supLost; split <;> rfl)); (case sub => decide))
    | ((with_reducible apply Moved.via); (case k => with_reducible apply State.newRecord_moved); (case sub => decide))
    | ((with_reducible apply Moved.via); (case k => with_reducible apply State.displayPowerFail_moved); (case sub => decide))
    | ((with_reducible apply Moved.via); (case k => with_reducible apply State.displayOff_moved); (case sub => decide))
    | (intro _ _)
    | (with_reducible apply Moved.ite)
    | split
    | dsimp only)

end Sys2Proof.Machine
end

