-- ==== Sys2Proof/Laws/MovedRungOps.lean ====
section
/-! SUPPORT. What each operation of Machine/RungOps.lean may change: nothing but the parts named. -/

namespace Sys2Proof.Machine

set_option maxRecDepth 4000

theorem State.joinExit_moved (s : State) (a1 : _) (a2 : _) (a3 : _) :
    Moved [.hub] s (State.joinExit s a1 a2 a3) := by
  unfold State.joinExit
  try dsimp only
  repeat' (first
    | (with_reducible apply Moved.refl)
    | (with_reducible assumption)
    | (with_reducible apply Moved.fold)
    | (with_reducible apply Moved.fold_fst)
    | ((with_reducible apply Moved.via); (case k => with_reducible apply State.modHub_moved); (case sub => decide))
    | (intro _ _)
    | (with_reducible apply Moved.ite)
    | split
    | dsimp only)

theorem State.countDescent_moved (s : State) :
    Moved [.power] s (State.countDescent s) := by
  unfold State.countDescent
  try dsimp only
  repeat' (first
    | (with_reducible apply Moved.refl)
    | (with_reducible assumption)
    | (with_reducible apply Moved.fold)
    | (with_reducible apply Moved.fold_fst)
    | ((with_reducible apply Moved.via); (case k => (with_reducible apply modPower_moved (qs := [.power])); intro m p hp; cases p <;> first | exact absurd hp (by decide) | exact trivial | rfl | (split <;> rfl) | (unfold ModeState.supLost; split <;> rfl)); (case sub => decide))
    | (intro _ _)
    | (with_reducible apply Moved.ite)
    | split
    | dsimp only)

theorem State.placesAtExit_moved (s : State) :
    Moved [.hub, .diag, .ledger, .place] s (State.placesAtExit s) := by
  unfold State.placesAtExit
  try dsimp only
  repeat' (first
    | (with_reducible apply Moved.refl)
    | (with_reducible assumption)
    | (with_reducible apply Moved.fold)
    | (with_reducible apply Moved.fold_fst)
    | ((with_reducible apply Moved.via); (case k => with_reducible apply State.settlePin_moved); (case sub => decide))
    | ((with_reducible apply Moved.via); (case k => with_reducible apply State.pressures_moved); (case sub => decide))
    | ((with_reducible apply Moved.via); (case k => (with_reducible apply modPlace_moved); intro _; first | exact PlaceStep.same rfl rfl | exact ⟨Nat.le_succ _, fun h => h⟩ | exact ⟨Nat.le_refl _, fun h => h.sub (List.filter_sublist ..)⟩ | (refine ⟨Nat.le_refl _, fun h => ?_⟩; refine h.mapAll ?_ (by dsimp only); intro _ _ h; first | exact h | (split <;> exact h) | (unfold Placement.window; exact h))); (case sub => decide))
    | ((with_reducible apply Moved.via); (case k => with_reducible apply State.raise_moved); (case sub => decide))
    | (intro _ _)
    | (with_reducible apply Moved.ite)
    | split
    | dsimp only)

theorem State.portsWoke_moved (s : State) (a1 : _) :
    Moved [.eth] s (State.portsWoke s a1) := by
  unfold State.portsWoke
  try dsimp only
  repeat' (first
    | (with_reducible apply Moved.refl)
    | (with_reducible assumption)
    | (with_reducible apply Moved.fold)
    | (with_reducible apply Moved.fold_fst)
    | ((with_reducible apply Moved.via); (case k => with_reducible apply State.modEthPort_moved); (case sub => decide))
    | (intro _ _)
    | (with_reducible apply Moved.ite)
    | split
    | dsimp only)

theorem State.redeliverRung_moved (s : State) (a1 : _) :
    Moved [.hub, .diag, .ledger] s (State.redeliverRung s a1) := by
  unfold State.redeliverRung
  try dsimp only
  repeat' (first
    | (with_reducible apply Moved.refl)
    | (with_reducible assumption)
    | (with_reducible apply Moved.fold)
    | (with_reducible apply Moved.fold_fst)
    | ((with_reducible apply Moved.via); (case k => with_reducible apply State.hold_moved); (case sub => decide))
    | ((with_reducible apply Moved.via); (case k => with_reducible apply State.bumpSerial_moved); (case sub => decide))
    | ((with_reducible apply Moved.via); (case k => with_reducible apply State.setRecord_moved); (case sub => decide))
    | ((with_reducible apply Moved.via); (case k => with_reducible apply State.post_moved); (case sub => decide))
    | (intro _ _)
    | (with_reducible apply Moved.ite)
    | split
    | dsimp only)

theorem State.restoreTheta_moved (s : State) :
    Moved [.stage] s (State.restoreTheta s) := by
  unfold State.restoreTheta
  try dsimp only
  repeat' (first
    | (with_reducible apply Moved.refl)
    | (with_reducible assumption)
    | (with_reducible apply Moved.fold)
    | (with_reducible apply Moved.fold_fst)
    | ((with_reducible apply Moved.via); (case k => with_reducible apply State.modStage_moved); (case sub => decide))
    | (intro _ _)
    | (with_reducible apply Moved.ite)
    | split
    | dsimp only)

theorem State.timeLost_moved (s : State) :
    Moved [.nav] s (State.timeLost s) := by
  unfold State.timeLost
  try dsimp only
  repeat' (first
    | (with_reducible apply Moved.refl)
    | (with_reducible assumption)
    | (with_reducible apply Moved.fold)
    | (with_reducible apply Moved.fold_fst)
    | ((with_reducible apply Moved.via); (case k => with_reducible apply State.modBase_moved); (case sub => decide))
    | ((with_reducible apply Moved.via); (case k => with_reducible apply State.modTimekeeper_moved); (case sub => decide))
    | (intro _ _)
    | (with_reducible apply Moved.ite)
    | split
    | dsimp only)

theorem State.leaveDeep_moved (s : State) (a1 : _) (a2 : _) (a3 : _) (a4 : _) :
    Moved [.hub, .rung, .islands, .diag, .ledger, .stage, .place, .fabric, .nav, .eth, .freeCount] s (State.leaveDeep s a1 a2 a3 a4) := by
  unfold State.leaveDeep
  try dsimp only
  repeat' (first
    | (with_reducible apply Moved.refl)
    | (with_reducible assumption)
    | (with_reducible apply Moved.fold)
    | (with_reducible apply Moved.fold_fst)
    | ((with_reducible apply Moved.via); (case k => with_reducible apply State.timeLost_moved); (case sub => decide))
    | ((with_reducible apply Moved.via); (case k => with_reducible apply State.takeHeld_moved); (case sub => decide))
    | ((with_reducible apply Moved.via); (case k => with_reducible apply State.restoreTheta_moved); (case sub => decide))
    | ((with_reducible apply Moved.via); (case k => with_reducible apply State.redeliverRung_moved); (case sub => decide))
    | ((with_reducible apply Moved.via); (case k => with_reducible apply State.raiseHeld_moved); (case sub => decide))
    | ((with_reducible apply Moved.via); (case k => with_reducible apply State.portsWoke_moved); (case sub => decide))
    | ((with_reducible apply Moved.via); (case k => with_reducible apply State.placesAtExit_moved); (case sub => decide))
    | ((with_reducible apply Moved.via); (case k => with_reducible apply State.enableChannel0_moved); (case sub => decide))
    | ((with_reducible apply Moved.via); (case k => with_reducible apply State.createBootView_moved); (case sub => decide))
    | ((with_reducible apply Moved.via); (case k => with_reducible apply State.endpointsReturn_moved); (case sub => decide))
    | ((with_reducible apply Moved.via); (case k => with_reducible apply State.modIsland_moved); (case sub => decide))
    | ((with_reducible apply Moved.via); (case k => (with_reducible apply modPower_moved (qs := [.rung])); intro m p hp; cases p <;> first | exact absurd hp (by decide) | exact trivial | rfl | (split <;> rfl) | (unfold ModeState.supLost; split <;> rfl)); (case sub => decide))
    | ((with_reducible apply Moved.via); (case k => with_reducible apply State.modHub_moved); (case sub => decide))
    | (intro _ _)
    | (with_reducible apply Moved.ite)
    | split
    | dsimp only)

theorem State.leaveShallow_moved (s : State) (a1 : _) (a2 : _) (a3 : _) (a4 : _) :
    Moved [.hub, .rung, .diag, .jack, .control, .nav, .buses, .eth] s (State.leaveShallow s a1 a2 a3 a4) := by
  unfold State.leaveShallow
  try dsimp only
  repeat' (first
    | (with_reducible apply Moved.refl)
    | (with_reducible assumption)
    | (with_reducible apply Moved.fold)
    | (with_reducible apply Moved.fold_fst)
    | ((with_reducible apply Moved.via); (case k => with_reducible apply State.navStart_moved); (case sub => decide))
    | ((with_reducible apply Moved.via); (case k => with_reducible apply State.setBias_moved); (case sub => decide))
    | ((with_reducible apply Moved.via); (case k => with_reducible apply State.portsWoke_moved); (case sub => decide))
    | ((with_reducible apply Moved.via); (case k => with_reducible apply State.navReset_moved); (case sub => decide))
    | ((with_reducible apply Moved.via); (case k => with_reducible apply State.portsUp_moved); (case sub => decide))
    | ((with_reducible apply Moved.via); (case k => (with_reducible apply modPower_moved (qs := [.rung])); intro m p hp; cases p <;> first | exact absurd hp (by decide) | exact trivial | rfl | (split <;> rfl) | (unfold ModeState.supLost; split <;> rfl)); (case sub => decide))
    | ((with_reducible apply Moved.via); (case k => with_reducible apply State.busesStart_moved); (case sub => decide))
    | ((with_reducible apply Moved.via); (case k => with_reducible apply State.raise_moved); (case sub => decide))
    | ((with_reducible apply Moved.via); (case k => (with_reducible apply modMode_moved (qs := [.jack])); intro m p hp; cases p <;> first | exact absurd hp (by decide) | exact trivial | rfl | (split <;> rfl) | (unfold ModeState.supLost; split <;> rfl)); (case sub => decide))
    | (intro _ _)
    | (with_reducible apply Moved.ite)
    | split
    | dsimp only)

theorem State.restartWatches_moved (s : State) :
    Moved [.hub] s (State.restartWatches s) := by
  unfold State.restartWatches
  try dsimp only
  repeat' (first
    | (with_reducible apply Moved.refl)
    | (with_reducible assumption)
    | (with_reducible apply Moved.fold)
    | (with_reducible apply Moved.fold_fst)
    | ((with_reducible apply Moved.via); (case k => with_reducible apply State.modHub_moved); (case sub => decide))
    | (intro _ _)
    | (with_reducible apply Moved.ite)
    | split
    | dsimp only)

theorem State.leaveRung_moved (s : State) (a1 : _) (a2 : _) (a3 : _) :
    Moved [.hub, .power, .rung, .islands, .diag, .jack, .ledger, .control, .stage, .place, .fabric, .nav, .buses, .eth, .freeCount] s (State.leaveRung s a1 a2 a3) := by
  unfold State.leaveRung
  try dsimp only
  repeat' (first
    | (with_reducible apply Moved.refl)
    | (with_reducible assumption)
    | (with_reducible apply Moved.fold)
    | (with_reducible apply Moved.fold_fst)
    | ((with_reducible apply Moved.via); (case k => with_reducible apply State.restartWatches_moved); (case sub => decide))
    | ((with_reducible apply Moved.via); (case k => with_reducible apply State.leaveShallow_moved); (case sub => decide))
    | ((with_reducible apply Moved.via); (case k => with_reducible apply State.leaveDeep_moved); (case sub => decide))
    | ((with_reducible apply Moved.via); (case k => with_reducible apply State.countDescent_moved); (case sub => decide))
    | ((with_reducible apply Moved.via); (case k => (with_reducible apply modPower_moved (qs := [.power])); intro m p hp; cases p <;> first | exact absurd hp (by decide) | exact trivial | rfl | (split <;> rfl) | (unfold ModeState.supLost; split <;> rfl)); (case sub => decide))
    | ((with_reducible apply Moved.via); (case k => with_reducible apply State.modHub_moved); (case sub => decide))
    | (intro _ _)
    | (with_reducible apply Moved.ite)
    | split
    | dsimp only)

theorem State.rungRefused_moved (s : State) (a1 : _) (a2 : _) :
    Moved [.hub, .diag] s (State.rungRefused s a1 a2) := by
  unfold State.rungRefused
  try dsimp only
  repeat' (first
    | (with_reducible apply Moved.refl)
    | (with_reducible assumption)
    | (with_reducible apply Moved.fold)
    | (with_reducible apply Moved.fold_fst)
    | ((with_reducible apply Moved.via); (case k => with_reducible apply State.complete_moved); (case sub => decide))
    | (intro _ _)
    | (with_reducible apply Moved.ite)
    | split
    | dsimp only)

theorem State.rungWake_moved (s : State) (a1 : _) (a2 : _) (a3 : _) :
    Moved [.hub, .power, .rung, .islands, .diag, .jack, .ledger, .control, .stage, .place, .fabric, .nav, .buses, .eth, .freeCount] s (State.rungWake s a1 a2 a3) := by
  unfold State.rungWake
  try dsimp only
  repeat' (first
    | (with_reducible apply Moved.refl)
    | (with_reducible assumption)
    | (with_reducible apply Moved.fold)
    | (with_reducible apply Moved.fold_fst)
    | ((with_reducible apply Moved.via); (case k => with_reducible apply State.rungRefused_moved); (case sub => decide))
    | ((with_reducible apply Moved.via); (case k => with_reducible apply State.leaveRung_moved); (case sub => decide))
    | ((with_reducible apply Moved.via); (case k => with_reducible apply State.joinExit_moved); (case sub => decide))
    | ((with_reducible apply Moved.via); (case k => (with_reducible apply modPower_moved (qs := [.rung])); intro m p hp; cases p <;> first | exact absurd hp (by decide) | exact trivial | rfl | (split <;> rfl) | (unfold ModeState.supLost; split <;> rfl)); (case sub => decide))
    | (intro _ _)
    | (with_reducible apply Moved.ite)
    | split
    | dsimp only)

theorem State.flagWake_moved (s : State) (s' : State) :
    Moved [.hub, .power, .rung, .islands, .diag, .jack, .ledger, .control, .stage, .place, .fabric, .nav, .buses, .eth, .freeCount] s (State.flagWake s s') := by
  unfold State.flagWake
  try dsimp only
  repeat' (first
    | (with_reducible apply Moved.refl)
    | (with_reducible assumption)
    | (with_reducible apply Moved.fold)
    | (with_reducible apply Moved.fold_fst)
    | ((with_reducible apply Moved.via); (case k => with_reducible apply State.rungWake_moved); (case sub => decide))
    | (intro _ _)
    | (with_reducible apply Moved.ite)
    | split
    | dsimp only)

theorem State.startReplay_moved (s : State) (a1 : _) :
    Moved [.ledger] s (State.startReplay s a1) := by
  unfold State.startReplay
  try dsimp only
  repeat' (first
    | (with_reducible apply Moved.refl)
    | (with_reducible assumption)
    | (with_reducible apply Moved.fold)
    | (with_reducible apply Moved.fold_fst)
    | ((with_reducible apply Moved.via); (case k => (with_reducible apply modLedger_moved); intro _; first | exact LedgerStep.same rfl rfl | exact LedgerStep.unitsReset .. | (split <;> exact LedgerStep.same rfl rfl) | (refine LedgerStep.mapIf ?_ rfl rfl; exact fun _ _ => ⟨rfl, rfl, .inl rfl⟩) | (refine LedgerStep.mapIf ?_ rfl rfl; exact fun _ h => ⟨rfl, rfl, .inr (by simp_all [RecState.mayMove])⟩)); (case sub => decide))
    | (intro _ _)
    | (with_reducible apply Moved.ite)
    | split
    | dsimp only)

theorem State.flushAtRung_moved (s : State) (a1 : _) :
    Moved [.hub, .diag, .ledger, .place] s (State.flushAtRung s a1) := by
  unfold State.flushAtRung
  try dsimp only
  repeat' (first
    | (with_reducible apply Moved.refl)
    | (with_reducible assumption)
    | (with_reducible apply Moved.fold)
    | (with_reducible apply Moved.fold_fst)
    | ((with_reducible apply Moved.via); (case k => with_reducible apply State.flushPlacement_moved); (case sub => decide))
    | ((with_reducible apply Moved.via); (case k => (with_reducible apply modPlace_moved); intro _; first | exact PlaceStep.same rfl rfl | exact ⟨Nat.le_succ _, fun h => h⟩ | exact ⟨Nat.le_refl _, fun h => h.sub (List.filter_sublist ..)⟩ | (refine ⟨Nat.le_refl _, fun h => ?_⟩; refine h.mapAll ?_ (by dsimp only); intro _ _ h; first | exact h | (split <;> exact h) | (unfold Placement.window; exact h))); (case sub => decide))
    | (intro _ _)
    | (with_reducible apply Moved.ite)
    | split
    | dsimp only)

theorem State.holdUnder_moved (s : State) (a1 : _) (a2 : _) :
    Moved [.hub] s (State.holdUnder s a1 a2) := by
  unfold State.holdUnder
  try dsimp only
  repeat' (first
    | (with_reducible apply Moved.refl)
    | (with_reducible assumption)
    | (with_reducible apply Moved.fold)
    | (with_reducible apply Moved.fold_fst)
    | ((with_reducible apply Moved.via); (case k => with_reducible apply State.modChan_moved); (case sub => decide))
    | (intro _ _)
    | (with_reducible apply Moved.ite)
    | split
    | dsimp only)

theorem State.loseContent_moved (s : State) :
    Moved [.hub, .change, .diag, .ledger, .control, .stage, .functions, .fieldIo, .place, .fabric, .nav, .vision, .infer, .buses, .eth, .fleet, .display, .safety, .sections] s (State.loseContent s) := by
  unfold State.loseContent
  try dsimp only
  repeat' (first
    | (with_reducible apply Moved.refl)
    | (with_reducible assumption)
    | (with_reducible apply Moved.fold)
    | (with_reducible apply Moved.fold_fst)
    | ((with_reducible apply Moved.via); (case k => with_reducible apply State.netReset_moved); (case sub => decide))
    | ((with_reducible apply Moved.via); (case k => with_reducible apply State.navReset_moved); (case sub => decide))
    | ((with_reducible apply Moved.via); (case k => with_reducible apply State.safReset_moved); (case sub => decide))
    | ((with_reducible apply Moved.via); (case k => with_reducible apply State.infReset_moved); (case sub => decide))
    | ((with_reducible apply Moved.via); (case k => with_reducible apply State.linkDown_moved); (case sub => decide))
    | ((with_reducible apply Moved.via); (case k => with_reducible apply State.modField_moved); (case sub => decide))
    | ((with_reducible apply Moved.via); (case k => with_reducible apply State.endpointsAbsent_moved); (case sub => decide))
    | ((with_reducible apply Moved.via); (case k => with_reducible apply State.disReset_moved); (case sub => decide))
    | ((with_reducible apply Moved.via); (case k => with_reducible apply State.poolLost_moved); (case sub => decide))
    | ((with_reducible apply Moved.via); (case k => with_reducible apply State.modVision_moved); (case sub => decide))
    | ((with_reducible apply Moved.via); (case k => with_reducible apply State.displayOff_moved); (case sub => decide))
    | ((with_reducible apply Moved.via); (case k => with_reducible apply State.modSections_moved); (case sub => decide))
    | ((with_reducible apply Moved.via); (case k => with_reducible apply State.modFunctions_moved); (case sub => decide))
    | ((with_reducible apply Moved.via); (case k => with_reducible apply State.modControl_moved); (case sub => decide))
    | ((with_reducible apply Moved.via); (case k => with_reducible apply State.modStage_moved); (case sub => decide))
    | ((with_reducible apply Moved.via); (case k => with_reducible apply State.modHub_moved); (case sub => decide))
    | (intro _ _)
    | (with_reducible apply Moved.ite)
    | split
    | dsimp only)

theorem State.placesAtRung_moved (s : State) (a1 : _) (a2 : _) :
    Moved [.hub, .diag, .place, .infer] s (State.placesAtRung s a1 a2) := by
  unfold State.placesAtRung
  try dsimp only
  repeat' (first
    | (with_reducible apply Moved.refl)
    | (with_reducible assumption)
    | (with_reducible apply Moved.fold)
    | (with_reducible apply Moved.fold_fst)
    | ((with_reducible apply Moved.via); (case k => with_reducible apply State.modelGone_moved); (case sub => decide))
    | ((with_reducible apply Moved.via); (case k => with_reducible apply State.dropPlacement_moved); (case sub => decide))
    | ((with_reducible apply Moved.via); (case k => (with_reducible apply modPlace_moved); intro _; first | exact PlaceStep.same rfl rfl | exact ⟨Nat.le_succ _, fun h => h⟩ | exact ⟨Nat.le_refl _, fun h => h.sub (List.filter_sublist ..)⟩ | (refine ⟨Nat.le_refl _, fun h => ?_⟩; refine h.mapAll ?_ (by dsimp only); intro _ _ h; first | exact h | (split <;> exact h) | (unfold Placement.window; exact h))); (case sub => decide))
    | (intro _ _)
    | (with_reducible apply Moved.ite)
    | split
    | dsimp only)

theorem State.portsOff_moved (s : State) :
    Moved [.eth] s (State.portsOff s) := by
  unfold State.portsOff
  try dsimp only
  repeat' (first
    | (with_reducible apply Moved.refl)
    | (with_reducible assumption)
    | (with_reducible apply Moved.fold)
    | (with_reducible apply Moved.fold_fst)
    | ((with_reducible apply Moved.via); (case k => with_reducible apply State.modEth_moved); (case sub => decide))
    | (intro _ _)
    | (with_reducible apply Moved.ite)
    | split
    | dsimp only)

theorem State.powerDown_moved (s : State) (a1 : _) :
    Moved [.hub, .fences, .islands, .diag, .ledger] s (State.powerDown s a1) := by
  unfold State.powerDown
  try dsimp only
  repeat' (first
    | (with_reducible apply Moved.refl)
    | (with_reducible assumption)
    | (with_reducible apply Moved.fold)
    | (with_reducible apply Moved.fold_fst)
    | ((with_reducible apply Moved.via); (case k => with_reducible apply State.modIsland_moved); (case sub => decide))
    | ((with_reducible apply Moved.via); (case k => (with_reducible apply modLedger_moved); intro _; first | exact LedgerStep.same rfl rfl | exact LedgerStep.unitsReset .. | (split <;> exact LedgerStep.same rfl rfl) | (refine LedgerStep.mapIf ?_ rfl rfl; exact fun _ _ => ⟨rfl, rfl, .inl rfl⟩) | (refine LedgerStep.mapIf ?_ rfl rfl; exact fun _ h => ⟨rfl, rfl, .inr (by simp_all [RecState.mayMove])⟩)); (case sub => decide))
    | ((with_reducible apply Moved.via); (case k => with_reducible apply State.raise_moved); (case sub => decide))
    | ((with_reducible apply Moved.via); (case k => (with_reducible apply modMode_moved (qs := [.fences, .diag])); intro m p hp; cases p <;> first | exact absurd hp (by decide) | exact trivial | rfl | (split <;> rfl) | (unfold ModeState.supLost; split <;> rfl)); (case sub => decide))
    | (intro _ _)
    | (with_reducible apply Moved.ite)
    | split
    | dsimp only)

theorem State.enterDeep_moved (s : State) (a1 : _) :
    Moved [.hub, .rung, .change, .fences, .islands, .diag, .ledger, .control, .stage, .functions, .fieldIo, .place, .fabric, .nav, .vision, .infer, .buses, .eth, .fleet, .display, .safety, .sections] s (State.enterDeep s a1) := by
  unfold State.enterDeep
  try dsimp only
  repeat' (first
    | (with_reducible apply Moved.refl)
    | (with_reducible assumption)
    | (with_reducible apply Moved.fold)
    | (with_reducible apply Moved.fold_fst)
    | ((with_reducible apply Moved.via); (case k => with_reducible apply State.restStreams_moved); (case sub => decide))
    | ((with_reducible apply Moved.via); (case k => with_reducible apply State.powerDown_moved); (case sub => decide))
    | ((with_reducible apply Moved.via); (case k => with_reducible apply State.portsOff_moved); (case sub => decide))
    | ((with_reducible apply Moved.via); (case k => with_reducible apply State.placesAtRung_moved); (case sub => decide))
    | ((with_reducible apply Moved.via); (case k => with_reducible apply State.loseContent_moved); (case sub => decide))
    | ((with_reducible apply Moved.via); (case k => with_reducible apply State.holdUnder_moved); (case sub => decide))
    | ((with_reducible apply Moved.via); (case k => with_reducible apply State.flushAtRung_moved); (case sub => decide))
    | ((with_reducible apply Moved.via); (case k => with_reducible apply State.copyTheta_moved); (case sub => decide))
    | ((with_reducible apply Moved.via); (case k => (with_reducible apply modPower_moved (qs := [.rung])); intro m p hp; cases p <;> first | exact absurd hp (by decide) | exact trivial | rfl | (split <;> rfl) | (unfold ModeState.supLost; split <;> rfl)); (case sub => decide))
    | ((with_reducible apply Moved.via); (case k => with_reducible apply State.newRecord_moved); (case sub => decide))
    | ((with_reducible apply Moved.via); (case k => (with_reducible apply modRecord_moved); intro _; exact ⟨rfl, rfl, .inl rfl⟩); (case sub => decide))
    | ((with_reducible apply Moved.via); (case k => with_reducible apply State.modHub_moved); (case sub => decide))
    | (intro _ _)
    | (with_reducible apply Moved.ite)
    | split
    | dsimp only)

theorem State.portsSleep_moved (s : State) (a1 : _) :
    Moved [.hub, .diag, .eth] s (State.portsSleep s a1) := by
  unfold State.portsSleep
  try dsimp only
  repeat' (first
    | (with_reducible apply Moved.refl)
    | (with_reducible assumption)
    | (with_reducible apply Moved.fold)
    | (with_reducible apply Moved.fold_fst)
    | ((with_reducible apply Moved.via); (case k => with_reducible apply State.setLink_moved); (case sub => decide))
    | ((with_reducible apply Moved.via); (case k => with_reducible apply State.modEthPort_moved); (case sub => decide))
    | (intro _ _)
    | (with_reducible apply Moved.ite)
    | split
    | dsimp only)

theorem State.quietPoised_moved (s : State) (a1 : _) :
    Moved [.hub, .diag, .jack, .nav, .buses, .eth, .display] s (State.quietPoised s a1) := by
  unfold State.quietPoised
  try dsimp only
  repeat' (first
    | (with_reducible apply Moved.refl)
    | (with_reducible assumption)
    | (with_reducible apply Moved.fold)
    | (with_reducible apply Moved.fold_fst)
    | ((with_reducible apply Moved.via); (case k => with_reducible apply State.portsSleep_moved); (case sub => decide))
    | ((with_reducible apply Moved.via); (case k => with_reducible apply State.setBias_moved); (case sub => decide))
    | ((with_reducible apply Moved.via); (case k => with_reducible apply State.modDisplay_moved); (case sub => decide))
    | ((with_reducible apply Moved.via); (case k => with_reducible apply State.busHalt_moved); (case sub => decide))
    | ((with_reducible apply Moved.via); (case k => (with_reducible apply modMode_moved (qs := [.jack])); intro m p hp; cases p <;> first | exact absurd hp (by decide) | exact trivial | rfl | (split <;> rfl) | (unfold ModeState.supLost; split <;> rfl)); (case sub => decide))
    | (intro _ _)
    | (with_reducible apply Moved.ite)
    | split
    | dsimp only)

theorem State.quietRung_moved (s : State) :
    Moved [.hub, .diag, .place, .nav, .infer, .fleet, .display] s (State.quietRung s) := by
  unfold State.quietRung
  try dsimp only
  repeat' (first
    | (with_reducible apply Moved.refl)
    | (with_reducible assumption)
    | (with_reducible apply Moved.fold)
    | (with_reducible apply Moved.fold_fst)
    | ((with_reducible apply Moved.via); (case k => with_reducible apply State.endJobs_moved); (case sub => decide))
    | ((with_reducible apply Moved.via); (case k => with_reducible apply State.setBias_moved); (case sub => decide))
    | ((with_reducible apply Moved.via); (case k => with_reducible apply State.pressures_moved); (case sub => decide))
    | ((with_reducible apply Moved.via); (case k => with_reducible apply State.mergesLost_moved); (case sub => decide))
    | ((with_reducible apply Moved.via); (case k => with_reducible apply State.startDischarge_moved); (case sub => decide))
    | ((with_reducible apply Moved.via); (case k => with_reducible apply State.tellPanel_moved); (case sub => decide))
    | (intro _ _)
    | (with_reducible apply Moved.ite)
    | split
    | dsimp only)

theorem State.enterRung_moved (s : State) (a1 : _) :
    Moved [.hub, .rung, .change, .fences, .islands, .diag, .jack, .ledger, .control, .stage, .functions, .fieldIo, .place, .fabric, .nav, .vision, .infer, .buses, .eth, .fleet, .display, .safety, .sections] s (State.enterRung s a1) := by
  unfold State.enterRung
  try dsimp only
  repeat' (first
    | (with_reducible apply Moved.refl)
    | (with_reducible assumption)
    | (with_reducible apply Moved.fold)
    | (with_reducible apply Moved.fold_fst)
    | ((with_reducible apply Moved.via); (case k => with_reducible apply State.trackReady_moved); (case sub => decide))
    | ((with_reducible apply Moved.via); (case k => with_reducible apply State.quietRung_moved); (case sub => decide))
    | ((with_reducible apply Moved.via); (case k => with_reducible apply State.quietPoised_moved); (case sub => decide))
    | ((with_reducible apply Moved.via); (case k => with_reducible apply State.enterDeep_moved); (case sub => decide))
    | ((with_reducible apply Moved.via); (case k => with_reducible apply State.settle_moved); (case sub => decide))
    | ((with_reducible apply Moved.via); (case k => (with_reducible apply modPower_moved (qs := [.rung])); intro m p hp; cases p <;> first | exact absurd hp (by decide) | exact trivial | rfl | (split <;> rfl) | (unfold ModeState.supLost; split <;> rfl)); (case sub => decide))
    | (intro _ _)
    | (with_reducible apply Moved.ite)
    | split
    | dsimp only)

end Sys2Proof.Machine
end

