-- ==== Sys2Proof/Laws/MovedRegOps.lean ====
section
/-! SUPPORT. What each operation of Machine/RegOps.lean may change: nothing but the parts named. -/

namespace Sys2Proof.Machine

set_option maxRecDepth 4000

theorem State.failSlot_moved (s : State) (a1 : _) (a2 : _) (a3 : _) :
    Moved [.hub, .diag, .fabric] s (State.failSlot s a1 a2 a3) := by
  unfold State.failSlot
  try dsimp only
  repeat' (first
    | (with_reducible apply Moved.refl)
    | (with_reducible assumption)
    | (with_reducible apply Moved.fold)
    | (with_reducible apply Moved.fold_fst)
    | ((with_reducible apply Moved.via); (case k => with_reducible apply State.noteSent_moved); (case sub => decide))
    | ((with_reducible apply Moved.via); (case k => with_reducible apply State.modCompat_moved); (case sub => decide))
    | ((with_reducible apply Moved.via); (case k => with_reducible apply State.modChan_moved); (case sub => decide))
    | ((with_reducible apply Moved.via); (case k => with_reducible apply State.setChan_moved); (case sub => decide))
    | ((with_reducible apply Moved.via); (case k => with_reducible apply State.count_moved); (case sub => decide))
    | (intro _ _)
    | (with_reducible apply Moved.ite)
    | split
    | dsimp only)

theorem State.doorbellWrite_moved (s : State) (a1 : _) (a2 : _) :
    Moved [.hub] s (State.doorbellWrite s a1 a2) := by
  unfold State.doorbellWrite
  try dsimp only
  repeat' (first
    | (with_reducible apply Moved.refl)
    | (with_reducible assumption)
    | (with_reducible apply Moved.fold)
    | (with_reducible apply Moved.fold_fst)
    | ((with_reducible apply Moved.via); (case k => with_reducible apply State.modChan_moved); (case sub => decide))
    | ((with_reducible apply Moved.via); (case k => with_reducible apply State.setChan_moved); (case sub => decide))
    | (intro _ _)
    | (with_reducible apply Moved.ite)
    | split
    | dsimp only)

theorem State.tryEnable_moved (s : State) (a1 : _) :
    Moved [.hub, .diag, .ledger, .freeCount] s (State.tryEnable s a1) := by
  unfold State.tryEnable
  try dsimp only
  repeat' (first
    | (with_reducible apply Moved.refl)
    | (with_reducible assumption)
    | (with_reducible apply Moved.fold)
    | (with_reducible apply Moved.fold_fst)
    | ((with_reducible apply Moved.via); (case k => with_reducible apply State.placeRings_moved); (case sub => decide))
    | ((with_reducible apply Moved.via); (case k => with_reducible apply State.enableChannel_moved); (case sub => decide))
    | ((with_reducible apply Moved.via); (case k => with_reducible apply State.modChan_moved); (case sub => decide))
    | (intro _ _)
    | (with_reducible apply Moved.ite)
    | split
    | dsimp only)

theorem State.ctrlWrite_moved (s : State) (a1 : _) (a2 : _) :
    Moved [.hub, .diag, .ledger, .freeCount] s (State.ctrlWrite s a1 a2) := by
  unfold State.ctrlWrite
  try dsimp only
  repeat' (first
    | (with_reducible apply Moved.refl)
    | (with_reducible assumption)
    | (with_reducible apply Moved.fold)
    | (with_reducible apply Moved.fold_fst)
    | ((with_reducible apply Moved.via); (case k => with_reducible apply State.tryEnable_moved); (case sub => decide))
    | ((with_reducible apply Moved.via); (case k => with_reducible apply State.dropOutcomes_moved); (case sub => decide))
    | ((with_reducible apply Moved.via); (case k => with_reducible apply State.resetChannel_moved); (case sub => decide))
    | ((with_reducible apply Moved.via); (case k => with_reducible apply State.setChan_moved); (case sub => decide))
    | (intro _ _)
    | (with_reducible apply Moved.ite)
    | split
    | dsimp only)

theorem State.w1cWrite_moved (s : State) (a1 : _) (a2 : _) (a3 : _) (a4 : _) :
    Moved [.hub] s (State.w1cWrite s a1 a2 a3 a4) := by
  unfold State.w1cWrite
  try dsimp only
  repeat' (first
    | (with_reducible apply Moved.refl)
    | (with_reducible assumption)
    | (with_reducible apply Moved.fold)
    | (with_reducible apply Moved.fold_fst)
    | ((with_reducible apply Moved.via); (case k => with_reducible apply State.modCompat_moved); (case sub => decide))
    | ((with_reducible apply Moved.via); (case k => with_reducible apply State.modChan_moved); (case sub => decide))
    | ((with_reducible apply Moved.via); (case k => with_reducible apply State.modHub_moved); (case sub => decide))
    | (intro _ _)
    | (with_reducible apply Moved.ite)
    | split
    | dsimp only)

theorem State.blockWrite_moved (s : State) (a1 : _) (a2 : _) (a3 : _) :
    Moved [.hub, .diag, .ledger, .freeCount] s (State.blockWrite s a1 a2 a3) := by
  unfold State.blockWrite
  try dsimp only
  repeat' (first
    | (with_reducible apply Moved.refl)
    | (with_reducible assumption)
    | (with_reducible apply Moved.fold)
    | (with_reducible apply Moved.fold_fst)
    | ((with_reducible apply Moved.via); (case k => with_reducible apply State.ctrlWrite_moved); (case sub => decide))
    | ((with_reducible apply Moved.via); (case k => with_reducible apply State.doorbellWrite_moved); (case sub => decide))
    | ((with_reducible apply Moved.via); (case k => with_reducible apply State.setChan_moved); (case sub => decide))
    | (intro _ _)
    | (with_reducible apply Moved.ite)
    | split
    | dsimp only)

theorem State.compatGo_moved (s : State) :
    Moved [.hub, .diag, .ledger] s (State.compatGo s) := by
  unfold State.compatGo
  try dsimp only
  repeat' (first
    | (with_reducible apply Moved.refl)
    | (with_reducible assumption)
    | (with_reducible apply Moved.fold)
    | (with_reducible apply Moved.fold_fst)
    | ((with_reducible apply Moved.via); (case k => with_reducible apply State.enableChannel_moved); (case sub => decide))
    | ((with_reducible apply Moved.via); (case k => with_reducible apply State.modCompat_moved); (case sub => decide))
    | ((with_reducible apply Moved.via); (case k => with_reducible apply State.modChan_moved); (case sub => decide))
    | (intro _ _)
    | (with_reducible apply Moved.ite)
    | split
    | dsimp only)

theorem State.compatCommand_moved (s : State) (a1 : _) :
    Moved [.hub, .diag, .ledger] s (State.compatCommand s a1) := by
  unfold State.compatCommand
  try dsimp only
  repeat' (first
    | (with_reducible apply Moved.refl)
    | (with_reducible assumption)
    | (with_reducible apply Moved.fold)
    | (with_reducible apply Moved.fold_fst)
    | ((with_reducible apply Moved.via); (case k => with_reducible apply State.compatGo_moved); (case sub => decide))
    | ((with_reducible apply Moved.via); (case k => with_reducible apply State.modCompat_moved); (case sub => decide))
    | (intro _ _)
    | (with_reducible apply Moved.ite)
    | split
    | dsimp only)

theorem State.compatWrite_moved (s : State) (a1 : _) (a2 : _) :
    Moved [.hub, .diag, .ledger] s (State.compatWrite s a1 a2) := by
  unfold State.compatWrite
  try dsimp only
  repeat' (first
    | (with_reducible apply Moved.refl)
    | (with_reducible assumption)
    | (with_reducible apply Moved.fold)
    | (with_reducible apply Moved.fold_fst)
    | ((with_reducible apply Moved.via); (case k => with_reducible apply State.compatCommand_moved); (case sub => decide))
    | ((with_reducible apply Moved.via); (case k => with_reducible apply State.modCompat_moved); (case sub => decide))
    | (intro _ _)
    | (with_reducible apply Moved.ite)
    | split
    | dsimp only)

theorem State.msixWrite_moved (s : State) (a1 : _) (a2 : _) :
    Moved [.hub] s (State.msixWrite s a1 a2) := by
  unfold State.msixWrite
  try dsimp only
  repeat' (first
    | (with_reducible apply Moved.refl)
    | (with_reducible assumption)
    | (with_reducible apply Moved.fold)
    | (with_reducible apply Moved.fold_fst)
    | ((with_reducible apply Moved.via); (case k => with_reducible apply State.modChan_moved); (case sub => decide))
    | ((with_reducible apply Moved.via); (case k => with_reducible apply State.modHub_moved); (case sub => decide))
    | (intro _ _)
    | (with_reducible apply Moved.ite)
    | split
    | dsimp only)

theorem State.windowWrite_moved (s : State) (a1 : _) (a2 : _) (a3 : _) :
    Moved [.hub, .diag, .ledger, .freeCount] s (State.windowWrite s a1 a2 a3) := by
  unfold State.windowWrite
  try dsimp only
  repeat' (first
    | (with_reducible apply Moved.refl)
    | (with_reducible assumption)
    | (with_reducible apply Moved.fold)
    | (with_reducible apply Moved.fold_fst)
    | ((with_reducible apply Moved.via); (case k => with_reducible apply State.msixWrite_moved); (case sub => decide))
    | ((with_reducible apply Moved.via); (case k => with_reducible apply State.compatWrite_moved); (case sub => decide))
    | ((with_reducible apply Moved.via); (case k => with_reducible apply State.blockWrite_moved); (case sub => decide))
    | ((with_reducible apply Moved.via); (case k => with_reducible apply State.modHub_moved); (case sub => decide))
    | (intro _ _)
    | (with_reducible apply Moved.ite)
    | split
    | dsimp only)

theorem State.discardHeld_moved (s : State) (a1 : _) :
    Moved [.hub, .diag] s (State.discardHeld s a1) := by
  unfold State.discardHeld
  try dsimp only
  repeat' (first
    | (with_reducible apply Moved.refl)
    | (with_reducible assumption)
    | (with_reducible apply Moved.fold)
    | (with_reducible apply Moved.fold_fst)
    | ((with_reducible apply Moved.via); (case k => with_reducible apply State.countN_moved); (case sub => decide))
    | ((with_reducible apply Moved.via); (case k => with_reducible apply State.setChan_moved); (case sub => decide))
    | (intro _ _)
    | (with_reducible apply Moved.ite)
    | split
    | dsimp only)

theorem State.restartHeld_moved (s : State) :
    Moved [.hub] s (State.restartHeld s) := by
  unfold State.restartHeld
  try dsimp only
  repeat' (first
    | (with_reducible apply Moved.refl)
    | (with_reducible assumption)
    | (with_reducible apply Moved.fold)
    | (with_reducible apply Moved.fold_fst)
    | ((with_reducible apply Moved.via); (case k => with_reducible apply State.modHub_moved); (case sub => decide))
    | (intro _ _)
    | (with_reducible apply Moved.ite)
    | split
    | dsimp only)

end Sys2Proof.Machine
end

