-- ==== Sys2Proof/Laws/MovedCascadeOps.lean ====
section
/-! SUPPORT. What each operation of Machine/CascadeOps.lean may change: nothing but the parts named. -/

namespace Sys2Proof.Machine

set_option maxRecDepth 4000

theorem State.takeMessage_moved (s : State) (a1 : _) (a2 : _) (a3 : _) :
    Moved [.hub, .diag, .stage, .fabric] s (State.takeMessage s a1 a2 a3) := by
  unfold State.takeMessage
  try dsimp only
  repeat' (first
    | (with_reducible apply Moved.refl)
    | (with_reducible assumption)
    | (with_reducible apply Moved.fold)
    | (with_reducible apply Moved.fold_fst)
    | ((with_reducible apply Moved.via); (case k => with_reducible apply State.failSlot_moved); (case sub => decide))
    | ((with_reducible apply Moved.via); (case k => with_reducible apply State.endSession_moved); (case sub => decide))
    | ((with_reducible apply Moved.via); (case k => with_reducible apply State.resetChannel_moved); (case sub => decide))
    | ((with_reducible apply Moved.via); (case k => with_reducible apply State.modChan_moved); (case sub => decide))
    | (intro _ _)
    | (with_reducible apply Moved.ite)
    | split
    | dsimp only)

theorem State.takeCascade_moved (s : State) (a1 : _) (a2 : _) :
    Moved [.hub, .diag, .ledger, .stage, .fabric] s (State.takeCascade s a1 a2) := by
  unfold State.takeCascade
  try dsimp only
  repeat' (first
    | (with_reducible apply Moved.refl)
    | (with_reducible assumption)
    | (with_reducible apply Moved.fold)
    | (with_reducible apply Moved.fold_fst)
    | ((with_reducible apply Moved.via); (case k => with_reducible apply State.enableChannel_moved); (case sub => decide))
    | ((with_reducible apply Moved.via); (case k => with_reducible apply State.takeMessage_moved); (case sub => decide))
    | (intro _ _)
    | (with_reducible apply Moved.ite)
    | split
    | dsimp only)

theorem State.readControl_moved (s : State) :
    Moved [.hub, .diag, .ledger, .stage, .fabric, .freeCount] s (State.readControl s) := by
  unfold State.readControl
  try dsimp only
  repeat' (first
    | (with_reducible apply Moved.refl)
    | (with_reducible assumption)
    | (with_reducible apply Moved.fold)
    | (with_reducible apply Moved.fold_fst)
    | ((with_reducible apply Moved.via); (case k => with_reducible apply State.spend_moved); (case sub => decide))
    | ((with_reducible apply Moved.via); (case k => with_reducible apply State.takeCascade_moved); (case sub => decide))
    | ((with_reducible apply Moved.via); (case k => with_reducible apply State.modLink_moved); (case sub => decide))
    | (intro _ _)
    | (with_reducible apply Moved.ite)
    | split
    | dsimp only)

theorem State.takeControl_moved (s : State) (a1 : _) :
    Moved [.hub, .diag, .ledger, .stage, .fabric, .freeCount] s (State.takeControl s a1) := by
  unfold State.takeControl
  try dsimp only
  repeat' (first
    | (with_reducible apply Moved.refl)
    | (with_reducible assumption)
    | (with_reducible apply Moved.fold)
    | (with_reducible apply Moved.fold_fst)
    | ((with_reducible apply Moved.via); (case k => with_reducible apply State.readControl_moved); (case sub => decide))
    | ((with_reducible apply Moved.via); (case k => with_reducible apply State.modLink_moved); (case sub => decide))
    | (intro _ _)
    | (with_reducible apply Moved.ite)
    | split
    | dsimp only)

end Sys2Proof.Machine
end

