-- ==== Sys2Proof/Laws/MovedExecBus.lean ====
section
/-! SUPPORT. What each operation of Machine/ExecBus.lean may change: nothing but the parts named. -/

namespace Sys2Proof.Machine

set_option maxRecDepth 4000

theorem doneBusConfig_moved (a0 : _) (s : State) :
    Moved [.hub, .diag, .ledger, .fabric, .buses] s (doneBusConfig a0 s) := by
  unfold doneBusConfig
  try dsimp only
  repeat' (first
    | (with_reducible apply Moved.refl)
    | (with_reducible assumption)
    | (with_reducible apply Moved.fold)
    | (with_reducible apply Moved.fold_fst)
    | ((with_reducible apply Moved.via); (case k => with_reducible apply answer_moved); (case sub => decide))
    | ((with_reducible apply Moved.via); (case k => with_reducible apply State.modBus_moved); (case sub => decide))
    | (intro _ _)
    | (with_reducible apply Moved.ite)
    | split
    | dsimp only)

theorem State.busRecover_moved (s : State) (a1 : _) (a2 : _) :
    Moved [.hub, .diag, .buses] s (State.busRecover s a1 a2) := by
  unfold State.busRecover
  try dsimp only
  repeat' (first
    | (with_reducible apply Moved.refl)
    | (with_reducible assumption)
    | (with_reducible apply Moved.fold)
    | (with_reducible apply Moved.fold_fst)
    | ((with_reducible apply Moved.via); (case k => with_reducible apply State.busTo_moved); (case sub => decide))
    | (intro _ _)
    | (with_reducible apply Moved.ite)
    | split
    | dsimp only)

theorem doneBusControl_moved (a0 : _) (s : State) :
    Moved [.hub, .diag, .ledger, .fabric, .buses] s (doneBusControl a0 s) := by
  unfold doneBusControl
  try dsimp only
  repeat' (first
    | (with_reducible apply Moved.refl)
    | (with_reducible assumption)
    | (with_reducible apply Moved.fold)
    | (with_reducible apply Moved.fold_fst)
    | ((with_reducible apply Moved.via); (case k => with_reducible apply State.busRecover_moved); (case sub => decide))
    | ((with_reducible apply Moved.via); (case k => with_reducible apply answer_moved); (case sub => decide))
    | ((with_reducible apply Moved.via); (case k => with_reducible apply State.busStart_moved); (case sub => decide))
    | ((with_reducible apply Moved.via); (case k => with_reducible apply State.busHalt_moved); (case sub => decide))
    | ((with_reducible apply Moved.via); (case k => with_reducible apply State.modBus_moved); (case sub => decide))
    | (intro _ _)
    | (with_reducible apply Moved.ite)
    | split
    | dsimp only)

theorem doneFilterSet_moved (a0 : _) (s : State) :
    Moved [.hub, .diag, .ledger, .fabric, .buses] s (doneFilterSet a0 s) := by
  unfold doneFilterSet
  try dsimp only
  repeat' (first
    | (with_reducible apply Moved.refl)
    | (with_reducible assumption)
    | (with_reducible apply Moved.fold)
    | (with_reducible apply Moved.fold_fst)
    | ((with_reducible apply Moved.via); (case k => with_reducible apply answer_moved); (case sub => decide))
    | ((with_reducible apply Moved.via); (case k => with_reducible apply State.modBus_moved); (case sub => decide))
    | (intro _ _)
    | (with_reducible apply Moved.ite)
    | split
    | dsimp only)

theorem doneCompatSet_moved (a0 : _) (s : State) :
    Moved [.hub, .diag, .ledger, .fabric, .buses] s (doneCompatSet a0 s) := by
  unfold doneCompatSet
  try dsimp only
  repeat' (first
    | (with_reducible apply Moved.refl)
    | (with_reducible assumption)
    | (with_reducible apply Moved.fold)
    | (with_reducible apply Moved.fold_fst)
    | ((with_reducible apply Moved.via); (case k => with_reducible apply answer_moved); (case sub => decide))
    | ((with_reducible apply Moved.via); (case k => with_reducible apply State.modBus_moved); (case sub => decide))
    | (intro _ _)
    | (with_reducible apply Moved.ite)
    | split
    | dsimp only)

theorem doneQueueConfig_moved (a0 : _) (s : State) :
    Moved [.hub, .diag, .ledger, .fabric, .buses] s (doneQueueConfig a0 s) := by
  unfold doneQueueConfig
  try dsimp only
  repeat' (first
    | (with_reducible apply Moved.refl)
    | (with_reducible assumption)
    | (with_reducible apply Moved.fold)
    | (with_reducible apply Moved.fold_fst)
    | ((with_reducible apply Moved.via); (case k => with_reducible apply answer_moved); (case sub => decide))
    | ((with_reducible apply Moved.via); (case k => with_reducible apply State.modQueue_moved); (case sub => decide))
    | (intro _ _)
    | (with_reducible apply Moved.ite)
    | split
    | dsimp only)

theorem doneRxRead_moved (a0 : _) (s : State) :
    Moved [.hub, .diag, .ledger, .fabric, .buses] s (doneRxRead a0 s) := by
  unfold doneRxRead
  try dsimp only
  repeat' (first
    | (with_reducible apply Moved.refl)
    | (with_reducible assumption)
    | (with_reducible apply Moved.fold)
    | (with_reducible apply Moved.fold_fst)
    | ((with_reducible apply Moved.via); (case k => with_reducible apply answer_moved); (case sub => decide))
    | ((with_reducible apply Moved.via); (case k => with_reducible apply State.modQueue_moved); (case sub => decide))
    | (intro _ _)
    | (with_reducible apply Moved.ite)
    | split
    | dsimp only)

theorem State.txWrite_moved (s : State) (a1 : _) (a2 : _) (a3 : _) :
    Moved [.hub, .diag, .buses] s (State.txWrite s a1 a2 a3) := by
  unfold State.txWrite
  try dsimp only
  repeat' (first
    | (with_reducible apply Moved.refl)
    | (with_reducible assumption)
    | (with_reducible apply Moved.fold)
    | (with_reducible apply Moved.fold_fst)
    | ((with_reducible apply Moved.via); (case k => with_reducible apply State.contend_moved); (case sub => decide))
    | ((with_reducible apply Moved.via); (case k => with_reducible apply State.txResult_moved); (case sub => decide))
    | ((with_reducible apply Moved.via); (case k => with_reducible apply State.setObject_moved); (case sub => decide))
    | (intro _ _)
    | (with_reducible apply Moved.ite)
    | split
    | dsimp only)

theorem doneTxWrite_moved (a0 : _) (s : State) :
    Moved [.hub, .diag, .ledger, .fabric, .buses] s (doneTxWrite a0 s) := by
  unfold doneTxWrite
  try dsimp only
  repeat' (first
    | (with_reducible apply Moved.refl)
    | (with_reducible assumption)
    | (with_reducible apply Moved.fold)
    | (with_reducible apply Moved.fold_fst)
    | ((with_reducible apply Moved.via); (case k => with_reducible apply State.txWrite_moved); (case sub => decide))
    | ((with_reducible apply Moved.via); (case k => with_reducible apply answer_moved); (case sub => decide))
    | (intro _ _)
    | (with_reducible apply Moved.ite)
    | split
    | dsimp only)

theorem State.txAbort_moved (s : State) (a1 : _) (a2 : _) :
    Moved [.hub, .diag, .buses] s (State.txAbort s a1 a2) := by
  unfold State.txAbort
  try dsimp only
  repeat' (first
    | (with_reducible apply Moved.refl)
    | (with_reducible assumption)
    | (with_reducible apply Moved.fold)
    | (with_reducible apply Moved.fold_fst)
    | ((with_reducible apply Moved.via); (case k => with_reducible apply State.txResult_moved); (case sub => decide))
    | ((with_reducible apply Moved.via); (case k => with_reducible apply State.setObject_moved); (case sub => decide))
    | (intro _ _)
    | (with_reducible apply Moved.ite)
    | split
    | dsimp only)

theorem doneTxAbort_moved (a0 : _) (s : State) :
    Moved [.hub, .diag, .ledger, .fabric, .buses] s (doneTxAbort a0 s) := by
  unfold doneTxAbort
  try dsimp only
  repeat' (first
    | (with_reducible apply Moved.refl)
    | (with_reducible assumption)
    | (with_reducible apply Moved.fold)
    | (with_reducible apply Moved.fold_fst)
    | ((with_reducible apply Moved.via); (case k => with_reducible apply State.txAbort_moved); (case sub => decide))
    | ((with_reducible apply Moved.via); (case k => with_reducible apply answer_moved); (case sub => decide))
    | (intro _ _)
    | (with_reducible apply Moved.ite)
    | split
    | dsimp only)

theorem doneBusStatus_moved (a0 : _) (s : State) :
    Moved [.hub, .diag, .ledger, .fabric, .freeCount] s (doneBusStatus a0 s) := by
  unfold doneBusStatus
  try dsimp only
  repeat' (first
    | (with_reducible apply Moved.refl)
    | (with_reducible assumption)
    | (with_reducible apply Moved.fold)
    | (with_reducible apply Moved.fold_fst)
    | ((with_reducible apply Moved.via); (case k => with_reducible apply answer_moved); (case sub => decide))
    | ((with_reducible apply Moved.via); (case k => with_reducible apply State.spend_moved); (case sub => decide))
    | (intro _ _)
    | (with_reducible apply Moved.ite)
    | split
    | dsimp only)

theorem doneCfClaim_moved (a0 : _) (s : State) :
    Moved [.hub, .diag, .ledger, .fabric, .buses] s (doneCfClaim a0 s) := by
  unfold doneCfClaim
  try dsimp only
  repeat' (first
    | (with_reducible apply Moved.refl)
    | (with_reducible assumption)
    | (with_reducible apply Moved.fold)
    | (with_reducible apply Moved.fold_fst)
    | ((with_reducible apply Moved.via); (case k => with_reducible apply State.accepted_moved); (case sub => decide))
    | ((with_reducible apply Moved.via); (case k => with_reducible apply State.claimAddress_moved); (case sub => decide))
    | ((with_reducible apply Moved.via); (case k => with_reducible apply State.addressEvent_moved); (case sub => decide))
    | ((with_reducible apply Moved.via); (case k => with_reducible apply State.modCf_moved); (case sub => decide))
    | (intro _ _)
    | (with_reducible apply Moved.ite)
    | split
    | dsimp only)

theorem State.startSend_moved (s : State) (a1 : _) (a2 : _) :
    Moved [.buses] s (State.startSend s a1 a2) := by
  unfold State.startSend
  try dsimp only
  repeat' (first
    | (with_reducible apply Moved.refl)
    | (with_reducible assumption)
    | (with_reducible apply Moved.fold)
    | (with_reducible apply Moved.fold_fst)
    | ((with_reducible apply Moved.via); (case k => with_reducible apply State.sendCm_moved); (case sub => decide))
    | ((with_reducible apply Moved.via); (case k => with_reducible apply State.busSend_moved); (case sub => decide))
    | ((with_reducible apply Moved.via); (case k => with_reducible apply State.modBus_moved); (case sub => decide))
    | (intro _ _)
    | (with_reducible apply Moved.ite)
    | split
    | dsimp only)

theorem donePgnSend_moved (a0 : _) (s : State) :
    Moved [.hub, .diag, .ledger, .fabric, .buses] s (donePgnSend a0 s) := by
  unfold donePgnSend
  try dsimp only
  repeat' (first
    | (with_reducible apply Moved.refl)
    | (with_reducible assumption)
    | (with_reducible apply Moved.fold)
    | (with_reducible apply Moved.fold_fst)
    | ((with_reducible apply Moved.via); (case k => with_reducible apply State.startSend_moved); (case sub => decide))
    | ((with_reducible apply Moved.via); (case k => with_reducible apply State.accepted_moved); (case sub => decide))
    | ((with_reducible apply Moved.via); (case k => with_reducible apply State.transportDone_moved); (case sub => decide))
    | (intro _ _)
    | (with_reducible apply Moved.ite)
    | split
    | dsimp only)

theorem State.goodRx_moved (s : State) (a1 : _) :
    Moved [.hub, .diag, .buses, .freeCount] s (State.goodRx s a1) := by
  unfold State.goodRx
  try dsimp only
  repeat' (first
    | (with_reducible apply Moved.refl)
    | (with_reducible assumption)
    | (with_reducible apply Moved.fold)
    | (with_reducible apply Moved.fold_fst)
    | ((with_reducible apply Moved.via); (case k => with_reducible apply State.spend_moved); (case sub => decide))
    | ((with_reducible apply Moved.via); (case k => with_reducible apply State.busTo_moved); (case sub => decide))
    | (intro _ _)
    | (with_reducible apply Moved.ite)
    | split
    | dsimp only)

theorem doneCanFrameRx_moved (a0 : _) (a1 : _) (a2 : _) (s : State) :
    Moved [.hub, .diag, .fabric, .buses, .freeCount] s (doneCanFrameRx a0 a1 a2 s) := by
  unfold doneCanFrameRx
  try dsimp only
  repeat' (first
    | (with_reducible apply Moved.refl)
    | (with_reducible assumption)
    | (with_reducible apply Moved.fold)
    | (with_reducible apply Moved.fold_fst)
    | ((with_reducible apply Moved.via); (case k => with_reducible apply State.goodRx_moved); (case sub => decide))
    | ((with_reducible apply Moved.via); (case k => with_reducible apply State.serviceFrame_moved); (case sub => decide))
    | ((with_reducible apply Moved.via); (case k => with_reducible apply State.filterFrame_moved); (case sub => decide))
    | ((with_reducible apply Moved.via); (case k => with_reducible apply State.count_moved); (case sub => decide))
    | (intro _ _)
    | (with_reducible apply Moved.ite)
    | split
    | dsimp only)

theorem doneTxNotBefore_moved (a0 : _) (a1 : _) (a2 : _) (s : State) :
    Moved [.buses] s (doneTxNotBefore a0 a1 a2 s) := by
  unfold doneTxNotBefore
  try dsimp only
  repeat' (first
    | (with_reducible apply Moved.refl)
    | (with_reducible assumption)
    | (with_reducible apply Moved.fold)
    | (with_reducible apply Moved.fold_fst)
    | ((with_reducible apply Moved.via); (case k => with_reducible apply State.contend_moved); (case sub => decide))
    | ((with_reducible apply Moved.via); (case k => with_reducible apply State.setObject_moved); (case sub => decide))
    | (intro _ _)
    | (with_reducible apply Moved.ite)
    | split
    | dsimp only)

theorem State.afterFailure_moved (s : State) (a1 : _) (a2 : _) (a3 : _) (a4 : _) :
    Moved [.hub, .diag, .buses] s (State.afterFailure s a1 a2 a3 a4) := by
  unfold State.afterFailure
  try dsimp only
  repeat' (first
    | (with_reducible apply Moved.refl)
    | (with_reducible assumption)
    | (with_reducible apply Moved.fold)
    | (with_reducible apply Moved.fold_fst)
    | ((with_reducible apply Moved.via); (case k => with_reducible apply State.txResult_moved); (case sub => decide))
    | ((with_reducible apply Moved.via); (case k => with_reducible apply State.setObject_moved); (case sub => decide))
    | (intro _ _)
    | (with_reducible apply Moved.ite)
    | split
    | dsimp only)

theorem doneTxAttemptEnd_moved (a0 : _) (a1 : _) (a2 : _) (a3 : _) (s : State) :
    Moved [.hub, .diag, .fabric, .buses, .freeCount] s (doneTxAttemptEnd a0 a1 a2 a3 s) := by
  unfold doneTxAttemptEnd
  try dsimp only
  repeat' (first
    | (with_reducible apply Moved.refl)
    | (with_reducible assumption)
    | (with_reducible apply Moved.fold)
    | (with_reducible apply Moved.fold_fst)
    | ((with_reducible apply Moved.via); (case k => with_reducible apply State.afterFailure_moved); (case sub => decide))
    | ((with_reducible apply Moved.via); (case k => with_reducible apply State.spend_moved); (case sub => decide))
    | ((with_reducible apply Moved.via); (case k => with_reducible apply State.serviceSent_moved); (case sub => decide))
    | ((with_reducible apply Moved.via); (case k => with_reducible apply State.busStop_moved); (case sub => decide))
    | ((with_reducible apply Moved.via); (case k => with_reducible apply State.contend_moved); (case sub => decide))
    | ((with_reducible apply Moved.via); (case k => with_reducible apply State.txResult_moved); (case sub => decide))
    | ((with_reducible apply Moved.via); (case k => with_reducible apply State.setObject_moved); (case sub => decide))
    | ((with_reducible apply Moved.via); (case k => with_reducible apply State.filterFrame_moved); (case sub => decide))
    | ((with_reducible apply Moved.via); (case k => with_reducible apply State.busTo_moved); (case sub => decide))
    | ((with_reducible apply Moved.via); (case k => with_reducible apply State.count_moved); (case sub => decide))
    | ((with_reducible apply Moved.via); (case k => with_reducible apply State.modBus_moved); (case sub => decide))
    | (intro _ _)
    | (with_reducible apply Moved.ite)
    | split
    | dsimp only)

theorem State.busOffEntry_moved (s : State) (a1 : _) :
    Moved [.hub, .diag, .buses] s (State.busOffEntry s a1) := by
  unfold State.busOffEntry
  try dsimp only
  repeat' (first
    | (with_reducible apply Moved.refl)
    | (with_reducible assumption)
    | (with_reducible apply Moved.fold)
    | (with_reducible apply Moved.fold_fst)
    | ((with_reducible apply Moved.via); (case k => with_reducible apply State.transportDone_moved); (case sub => decide))
    | ((with_reducible apply Moved.via); (case k => with_reducible apply State.abandonAll_moved); (case sub => decide))
    | ((with_reducible apply Moved.via); (case k => with_reducible apply State.count_moved); (case sub => decide))
    | ((with_reducible apply Moved.via); (case k => with_reducible apply State.modBus_moved); (case sub => decide))
    | (intro _ _)
    | (with_reducible apply Moved.ite)
    | split
    | dsimp only)

theorem doneBusError_moved (a0 : _) (a1 : _) (a2 : _) (a3 : _) (a4 : _) (s : State) :
    Moved [.hub, .diag, .buses] s (doneBusError a0 a1 a2 a3 a4 s) := by
  unfold doneBusError
  try dsimp only
  repeat' (first
    | (with_reducible apply Moved.refl)
    | (with_reducible assumption)
    | (with_reducible apply Moved.fold)
    | (with_reducible apply Moved.fold_fst)
    | ((with_reducible apply Moved.via); (case k => with_reducible apply State.busOffEntry_moved); (case sub => decide))
    | ((with_reducible apply Moved.via); (case k => with_reducible apply State.busTo_moved); (case sub => decide))
    | ((with_reducible apply Moved.via); (case k => with_reducible apply State.count_moved); (case sub => decide))
    | (intro _ _)
    | (with_reducible apply Moved.ite)
    | split
    | dsimp only)

theorem doneBusOffDelayExpiry_moved (a0 : _) (a1 : _) (s : State) :
    Moved [.hub, .diag, .buses] s (doneBusOffDelayExpiry a0 a1 s) := by
  unfold doneBusOffDelayExpiry
  try dsimp only
  repeat' (first
    | (with_reducible apply Moved.refl)
    | (with_reducible assumption)
    | (with_reducible apply Moved.fold)
    | (with_reducible apply Moved.fold_fst)
    | ((with_reducible apply Moved.via); (case k => with_reducible apply State.busRecover_moved); (case sub => decide))
    | (intro _ _)
    | (with_reducible apply Moved.ite)
    | split
    | dsimp only)

theorem doneRecoveryComplete_moved (a0 : _) (a1 : _) (s : State) :
    Moved [.hub, .diag, .buses] s (doneRecoveryComplete a0 a1 s) := by
  unfold doneRecoveryComplete
  try dsimp only
  repeat' (first
    | (with_reducible apply Moved.refl)
    | (with_reducible assumption)
    | (with_reducible apply Moved.fold)
    | (with_reducible apply Moved.fold_fst)
    | ((with_reducible apply Moved.via); (case k => with_reducible apply State.contend_moved); (case sub => decide))
    | ((with_reducible apply Moved.via); (case k => with_reducible apply State.busTo_moved); (case sub => decide))
    | (intro _ _)
    | (with_reducible apply Moved.ite)
    | split
    | dsimp only)

theorem doneBusIntegrated_moved (a0 : _) (a1 : _) (s : State) :
    Moved [.hub, .diag, .buses] s (doneBusIntegrated a0 a1 s) := by
  unfold doneBusIntegrated
  try dsimp only
  repeat' (first
    | (with_reducible apply Moved.refl)
    | (with_reducible assumption)
    | (with_reducible apply Moved.fold)
    | (with_reducible apply Moved.fold_fst)
    | ((with_reducible apply Moved.via); (case k => with_reducible apply State.claimAgain_moved); (case sub => decide))
    | ((with_reducible apply Moved.via); (case k => with_reducible apply State.contend_moved); (case sub => decide))
    | ((with_reducible apply Moved.via); (case k => with_reducible apply State.busTo_moved); (case sub => decide))
    | (intro _ _)
    | (with_reducible apply Moved.ite)
    | split
    | dsimp only)

theorem doneQueueBatchTimeout_moved (a0 : _) (a1 : _) (a2 : _) (s : State) :
    Moved [.hub, .diag, .fabric, .buses] s (doneQueueBatchTimeout a0 a1 a2 s) := by
  unfold doneQueueBatchTimeout
  try dsimp only
  repeat' (first
    | (with_reducible apply Moved.refl)
    | (with_reducible assumption)
    | (with_reducible apply Moved.fold)
    | (with_reducible apply Moved.fold_fst)
    | ((with_reducible apply Moved.via); (case k => with_reducible apply State.presentBatch_moved); (case sub => decide))
    | (intro _ _)
    | (with_reducible apply Moved.ite)
    | split
    | dsimp only)

theorem doneAddressClaimTimer_moved (a0 : _) (a1 : _) (a2 : _) (s : State) :
    Moved [.hub, .diag, .buses] s (doneAddressClaimTimer a0 a1 a2 s) := by
  unfold doneAddressClaimTimer
  try dsimp only
  repeat' (first
    | (with_reducible apply Moved.refl)
    | (with_reducible assumption)
    | (with_reducible apply Moved.fold)
    | (with_reducible apply Moved.fold_fst)
    | ((with_reducible apply Moved.via); (case k => with_reducible apply State.addressEvent_moved); (case sub => decide))
    | ((with_reducible apply Moved.via); (case k => with_reducible apply State.modCf_moved); (case sub => decide))
    | (intro _ _)
    | (with_reducible apply Moved.ite)
    | split
    | dsimp only)

theorem doneTransportPacketRx_moved (a0 : _) (a1 : _) (a2 : _) (s : State) :
    Moved [.hub, .diag, .fabric, .buses] s (doneTransportPacketRx a0 a1 a2 s) := by
  unfold doneTransportPacketRx
  try dsimp only
  repeat' (first
    | (with_reducible apply Moved.refl)
    | (with_reducible assumption)
    | (with_reducible apply Moved.fold)
    | (with_reducible apply Moved.fold_fst)
    | ((with_reducible apply Moved.via); (case k => with_reducible apply State.transportFrame_moved); (case sub => decide))
    | (intro _ _)
    | (with_reducible apply Moved.ite)
    | split
    | dsimp only)

theorem doneTransportTimeout_moved (a0 : _) (a1 : _) (a2 : _) (s : State) :
    Moved [.hub, .diag, .buses] s (doneTransportTimeout a0 a1 a2 s) := by
  unfold doneTransportTimeout
  try dsimp only
  repeat' (first
    | (with_reducible apply Moved.refl)
    | (with_reducible assumption)
    | (with_reducible apply Moved.fold)
    | (with_reducible apply Moved.fold_fst)
    | ((with_reducible apply Moved.via); (case k => with_reducible apply State.dropIncoming_moved); (case sub => decide))
    | ((with_reducible apply Moved.via); (case k => with_reducible apply State.sendCm_moved); (case sub => decide))
    | ((with_reducible apply Moved.via); (case k => with_reducible apply State.transportDone_moved); (case sub => decide))
    | (intro _ _)
    | (with_reducible apply Moved.ite)
    | split
    | dsimp only)

theorem doneBamPacketTimer_moved (a0 : _) (a1 : _) (a2 : _) (s : State) :
    Moved [.buses] s (doneBamPacketTimer a0 a1 a2 s) := by
  unfold doneBamPacketTimer
  try dsimp only
  repeat' (first
    | (with_reducible apply Moved.refl)
    | (with_reducible assumption)
    | (with_reducible apply Moved.fold)
    | (with_reducible apply Moved.fold_fst)
    | ((with_reducible apply Moved.via); (case k => with_reducible apply State.modOutgoing_moved); (case sub => decide))
    | ((with_reducible apply Moved.via); (case k => with_reducible apply State.sendDt_moved); (case sub => decide))
    | (intro _ _)
    | (with_reducible apply Moved.ite)
    | split
    | dsimp only)

end Sys2Proof.Machine
end

