-- ==== Sys2Proof/Laws/MovedExecCamera.lean ====
section
/-! SUPPORT. What each operation of Machine/ExecCamera.lean may change: nothing but the parts named. -/

namespace Sys2Proof.Machine

set_option maxRecDepth 4000

theorem doneCameraPortConfig_moved (a0 : _) (s : State) :
    Moved [.hub, .diag, .ledger, .fabric, .vision] s (doneCameraPortConfig a0 s) := by
  unfold doneCameraPortConfig
  try dsimp only
  repeat' (first
    | (with_reducible apply Moved.refl)
    | (with_reducible assumption)
    | (with_reducible apply Moved.fold)
    | (with_reducible apply Moved.fold_fst)
    | ((with_reducible apply Moved.via); (case k => with_reducible apply State.modCam_moved); (case sub => decide))
    | ((with_reducible apply Moved.via); (case k => with_reducible apply answer_moved); (case sub => decide))
    | (intro _ _)
    | (with_reducible apply Moved.ite)
    | split
    | dsimp only)

theorem State.camOn_moved (s : State) (a1 : _) :
    Moved [.hub, .diag, .vision] s (State.camOn s a1) := by
  unfold State.camOn
  try dsimp only
  repeat' (first
    | (with_reducible apply Moved.refl)
    | (with_reducible assumption)
    | (with_reducible apply Moved.fold)
    | (with_reducible apply Moved.fold_fst)
    | ((with_reducible apply Moved.via); (case k => with_reducible apply State.camState_moved); (case sub => decide))
    | ((with_reducible apply Moved.via); (case k => with_reducible apply State.modCam_moved); (case sub => decide))
    | ((with_reducible apply Moved.via); (case k => with_reducible apply State.modVision_moved); (case sub => decide))
    | (intro _ _)
    | (with_reducible apply Moved.ite)
    | split
    | dsimp only)

theorem doneCameraEnable_moved (a0 : _) (s : State) :
    Moved [.hub, .diag, .ledger, .fabric, .vision] s (doneCameraEnable a0 s) := by
  unfold doneCameraEnable
  try dsimp only
  repeat' (first
    | (with_reducible apply Moved.refl)
    | (with_reducible assumption)
    | (with_reducible apply Moved.fold)
    | (with_reducible apply Moved.fold_fst)
    | ((with_reducible apply Moved.via); (case k => with_reducible apply State.camOff_moved); (case sub => decide))
    | ((with_reducible apply Moved.via); (case k => with_reducible apply State.camOn_moved); (case sub => decide))
    | ((with_reducible apply Moved.via); (case k => with_reducible apply State.modCam_moved); (case sub => decide))
    | ((with_reducible apply Moved.via); (case k => with_reducible apply State.accepted_moved); (case sub => decide))
    | ((with_reducible apply Moved.via); (case k => with_reducible apply answer_moved); (case sub => decide))
    | (intro _ _)
    | (with_reducible apply Moved.ite)
    | split
    | dsimp only)

theorem doneFsyncSet_moved (a0 : _) (s : State) :
    Moved [.hub, .diag, .ledger, .fabric, .vision] s (doneFsyncSet a0 s) := by
  unfold doneFsyncSet
  try dsimp only
  repeat' (first
    | (with_reducible apply Moved.refl)
    | (with_reducible assumption)
    | (with_reducible apply Moved.fold)
    | (with_reducible apply Moved.fold_fst)
    | ((with_reducible apply Moved.via); (case k => with_reducible apply State.modCam_moved); (case sub => decide))
    | ((with_reducible apply Moved.via); (case k => with_reducible apply answer_moved); (case sub => decide))
    | (intro _ _)
    | (with_reducible apply Moved.ite)
    | split
    | dsimp only)

theorem doneCtrlXfer_moved (a0 : _) (s : State) :
    Moved [.hub, .diag, .ledger, .fabric, .freeCount] s (doneCtrlXfer a0 s) := by
  unfold doneCtrlXfer
  try dsimp only
  repeat' (first
    | (with_reducible apply Moved.refl)
    | (with_reducible assumption)
    | (with_reducible apply Moved.fold)
    | (with_reducible apply Moved.fold_fst)
    | ((with_reducible apply Moved.via); (case k => with_reducible apply refuse_moved); (case sub => decide))
    | ((with_reducible apply Moved.via); (case k => with_reducible apply refuseWith_moved); (case sub => decide))
    | ((with_reducible apply Moved.via); (case k => with_reducible apply answer_moved); (case sub => decide))
    | ((with_reducible apply Moved.via); (case k => with_reducible apply State.spend_moved); (case sub => decide))
    | (intro _ _)
    | (with_reducible apply Moved.ite)
    | split
    | dsimp only)

theorem doneCameraPortStatus_moved (a0 : _) (s : State) :
    Moved [.hub, .diag, .ledger, .fabric] s (doneCameraPortStatus a0 s) := by
  unfold doneCameraPortStatus
  try dsimp only
  repeat' (first
    | (with_reducible apply Moved.refl)
    | (with_reducible assumption)
    | (with_reducible apply Moved.fold)
    | (with_reducible apply Moved.fold_fst)
    | ((with_reducible apply Moved.via); (case k => with_reducible apply answer_moved); (case sub => decide))
    | (intro _ _)
    | (with_reducible apply Moved.ite)
    | split
    | dsimp only)

theorem doneCameraLinkLock_moved (a0 : _) (a1 : _) (s : State) :
    Moved [.hub, .diag, .vision] s (doneCameraLinkLock a0 a1 s) := by
  unfold doneCameraLinkLock
  try dsimp only
  repeat' (first
    | (with_reducible apply Moved.refl)
    | (with_reducible assumption)
    | (with_reducible apply Moved.fold)
    | (with_reducible apply Moved.fold_fst)
    | ((with_reducible apply Moved.via); (case k => with_reducible apply State.camState_moved); (case sub => decide))
    | ((with_reducible apply Moved.via); (case k => with_reducible apply State.modCam_moved); (case sub => decide))
    | (intro _ _)
    | (with_reducible apply Moved.ite)
    | split
    | dsimp only)

theorem doneCameraLinkLoss_moved (a0 : _) (a1 : _) (s : State) :
    Moved [.hub, .diag, .vision] s (doneCameraLinkLoss a0 a1 s) := by
  unfold doneCameraLinkLoss
  try dsimp only
  repeat' (first
    | (with_reducible apply Moved.refl)
    | (with_reducible assumption)
    | (with_reducible apply Moved.fold)
    | (with_reducible apply Moved.fold_fst)
    | ((with_reducible apply Moved.via); (case k => with_reducible apply State.endFrame_moved); (case sub => decide))
    | ((with_reducible apply Moved.via); (case k => with_reducible apply State.camState_moved); (case sub => decide))
    | ((with_reducible apply Moved.via); (case k => with_reducible apply State.modCam_moved); (case sub => decide))
    | ((with_reducible apply Moved.via); (case k => with_reducible apply State.count_moved); (case sub => decide))
    | (intro _ _)
    | (with_reducible apply Moved.ite)
    | split
    | dsimp only)

theorem donePocOvercurrent_moved (a0 : _) (a1 : _) (a2 : _) (s : State) :
    Moved [.hub, .diag, .fabric, .vision] s (donePocOvercurrent a0 a1 a2 s) := by
  unfold donePocOvercurrent
  try dsimp only
  repeat' (first
    | (with_reducible apply Moved.refl)
    | (with_reducible assumption)
    | (with_reducible apply Moved.fold)
    | (with_reducible apply Moved.fold_fst)
    | ((with_reducible apply Moved.via); (case k => with_reducible apply State.camFault_moved); (case sub => decide))
    | ((with_reducible apply Moved.via); (case k => with_reducible apply State.modCam_moved); (case sub => decide))
    | ((with_reducible apply Moved.via); (case k => with_reducible apply State.count_moved); (case sub => decide))
    | (intro _ _)
    | (with_reducible apply Moved.ite)
    | split
    | dsimp only)

theorem donePocTotalLimit_moved (a0 : _) (a1 : _) (s : State) :
    Moved [.hub, .diag, .fabric, .vision] s (donePocTotalLimit a0 a1 s) := by
  unfold donePocTotalLimit
  try dsimp only
  repeat' (first
    | (with_reducible apply Moved.refl)
    | (with_reducible assumption)
    | (with_reducible apply Moved.fold)
    | (with_reducible apply Moved.fold_fst)
    | ((with_reducible apply Moved.via); (case k => with_reducible apply State.camFault_moved); (case sub => decide))
    | ((with_reducible apply Moved.via); (case k => with_reducible apply State.modCam_moved); (case sub => decide))
    | ((with_reducible apply Moved.via); (case k => with_reducible apply State.count_moved); (case sub => decide))
    | (intro _ _)
    | (with_reducible apply Moved.ite)
    | split
    | dsimp only)

theorem doneBridgeSupplyFault_moved (a0 : _) (s : State) :
    Moved [.hub, .diag, .fabric, .vision] s (doneBridgeSupplyFault a0 s) := by
  unfold doneBridgeSupplyFault
  try dsimp only
  repeat' (first
    | (with_reducible apply Moved.refl)
    | (with_reducible assumption)
    | (with_reducible apply Moved.fold)
    | (with_reducible apply Moved.fold_fst)
    | ((with_reducible apply Moved.via); (case k => with_reducible apply State.camFault_moved); (case sub => decide))
    | ((with_reducible apply Moved.via); (case k => with_reducible apply State.modVision_moved); (case sub => decide))
    | (intro _ _)
    | (with_reducible apply Moved.ite)
    | split
    | dsimp only)

theorem doneBridgeResetRelease_moved (a0 : _) (s : State) :
    Moved [.hub, .diag, .vision] s (doneBridgeResetRelease a0 s) := by
  unfold doneBridgeResetRelease
  try dsimp only
  repeat' (first
    | (with_reducible apply Moved.refl)
    | (with_reducible assumption)
    | (with_reducible apply Moved.fold)
    | (with_reducible apply Moved.fold_fst)
    | ((with_reducible apply Moved.via); (case k => with_reducible apply State.camState_moved); (case sub => decide))
    | ((with_reducible apply Moved.via); (case k => with_reducible apply State.modCam_moved); (case sub => decide))
    | (intro _ _)
    | (with_reducible apply Moved.ite)
    | split
    | dsimp only)

theorem doneFsyncPulse_moved (a0 : _) (a1 : _) (s : State) :
    Moved [.vision] s (doneFsyncPulse a0 a1 s) := by
  unfold doneFsyncPulse
  try dsimp only
  repeat' (first
    | (with_reducible apply Moved.refl)
    | (with_reducible assumption)
    | (with_reducible apply Moved.fold)
    | (with_reducible apply Moved.fold_fst)
    | ((with_reducible apply Moved.via); (case k => with_reducible apply State.modCam_moved); (case sub => decide))
    | (intro _ _)
    | (with_reducible apply Moved.ite)
    | split
    | dsimp only)

theorem State.frameStart_moved (s : State) (a1 : _) :
    Moved [.hub, .diag, .vision] s (State.frameStart s a1) := by
  unfold State.frameStart
  try dsimp only
  repeat' (first
    | (with_reducible apply Moved.refl)
    | (with_reducible assumption)
    | (with_reducible apply Moved.fold)
    | (with_reducible apply Moved.fold_fst)
    | ((with_reducible apply Moved.via); (case k => with_reducible apply State.endFrame_moved); (case sub => decide))
    | ((with_reducible apply Moved.via); (case k => with_reducible apply State.camState_moved); (case sub => decide))
    | ((with_reducible apply Moved.via); (case k => with_reducible apply State.modCam_moved); (case sub => decide))
    | ((with_reducible apply Moved.via); (case k => with_reducible apply State.count_moved); (case sub => decide))
    | (intro _ _)
    | (with_reducible apply Moved.ite)
    | split
    | dsimp only)

theorem State.frameLine_moved (s : State) (a1 : _) (a2 : _) :
    Moved [.hub, .diag, .vision] s (State.frameLine s a1 a2) := by
  unfold State.frameLine
  try dsimp only
  repeat' (first
    | (with_reducible apply Moved.refl)
    | (with_reducible assumption)
    | (with_reducible apply Moved.fold)
    | (with_reducible apply Moved.fold_fst)
    | ((with_reducible apply Moved.via); (case k => with_reducible apply State.markFrame_moved); (case sub => decide))
    | ((with_reducible apply Moved.via); (case k => with_reducible apply State.admitLine_moved); (case sub => decide))
    | ((with_reducible apply Moved.via); (case k => with_reducible apply State.modFrame_moved); (case sub => decide))
    | ((with_reducible apply Moved.via); (case k => with_reducible apply State.modCam_moved); (case sub => decide))
    | ((with_reducible apply Moved.via); (case k => with_reducible apply State.count_moved); (case sub => decide))
    | (intro _ _)
    | (with_reducible apply Moved.ite)
    | split
    | dsimp only)

theorem doneCsiPacket_moved (a0 : _) (a1 : _) (a2 : _) (s : State) :
    Moved [.hub, .diag, .vision] s (doneCsiPacket a0 a1 a2 s) := by
  unfold doneCsiPacket
  try dsimp only
  repeat' (first
    | (with_reducible apply Moved.refl)
    | (with_reducible assumption)
    | (with_reducible apply Moved.fold)
    | (with_reducible apply Moved.fold_fst)
    | ((with_reducible apply Moved.via); (case k => with_reducible apply State.frameLine_moved); (case sub => decide))
    | ((with_reducible apply Moved.via); (case k => with_reducible apply State.markFrame_moved); (case sub => decide))
    | ((with_reducible apply Moved.via); (case k => with_reducible apply State.frameStart_moved); (case sub => decide))
    | ((with_reducible apply Moved.via); (case k => with_reducible apply State.endFrame_moved); (case sub => decide))
    | ((with_reducible apply Moved.via); (case k => with_reducible apply State.modFrame_moved); (case sub => decide))
    | ((with_reducible apply Moved.via); (case k => with_reducible apply State.count_moved); (case sub => decide))
    | (intro _ _)
    | (with_reducible apply Moved.ite)
    | split
    | dsimp only)

theorem doneFrameTimeout_moved (a0 : _) (a1 : _) (s : State) :
    Moved [.diag, .vision] s (doneFrameTimeout a0 a1 s) := by
  unfold doneFrameTimeout
  try dsimp only
  repeat' (first
    | (with_reducible apply Moved.refl)
    | (with_reducible assumption)
    | (with_reducible apply Moved.fold)
    | (with_reducible apply Moved.fold_fst)
    | ((with_reducible apply Moved.via); (case k => with_reducible apply State.endFrame_moved); (case sub => decide))
    | (intro _ _)
    | (with_reducible apply Moved.ite)
    | split
    | dsimp only)

theorem doneNoFramesTimeout_moved (a0 : _) (a1 : _) (s : State) :
    Moved [.hub, .diag, .fabric, .vision] s (doneNoFramesTimeout a0 a1 s) := by
  unfold doneNoFramesTimeout
  try dsimp only
  repeat' (first
    | (with_reducible apply Moved.refl)
    | (with_reducible assumption)
    | (with_reducible apply Moved.fold)
    | (with_reducible apply Moved.fold_fst)
    | ((with_reducible apply Moved.via); (case k => with_reducible apply State.camFault_moved); (case sub => decide))
    | (intro _ _)
    | (with_reducible apply Moved.ite)
    | split
    | dsimp only)

theorem doneFrameEnd_moved (a0 : _) (a1 : _) (s : State) :
    Moved [.hub, .diag, .fabric, .vision] s (doneFrameEnd a0 a1 s) := by
  unfold doneFrameEnd
  try dsimp only
  repeat' (first
    | (with_reducible apply Moved.refl)
    | (with_reducible assumption)
    | (with_reducible apply Moved.fold)
    | (with_reducible apply Moved.fold_fst)
    | ((with_reducible apply Moved.via); (case k => with_reducible apply State.recordFrame_moved); (case sub => decide))
    | (intro _ _)
    | (with_reducible apply Moved.ite)
    | split
    | dsimp only)

theorem State.nextPort_moved (a0 : _) (a1 : _) (s : State) :
    Moved [.vision] s (State.nextPort a0 a1 s) := by
  induction a0 generalizing a1 s with
  | zero => exact Moved.refl _ _
  | succ n ih =>
    unfold State.nextPort
    try dsimp only
    repeat' (first
      | (with_reducible apply Moved.refl)
      | (with_reducible assumption)
      | ((with_reducible apply Moved.via); (case k => with_reducible apply ih); (case sub => decide))
      | (with_reducible apply Moved.fold)
      | (with_reducible apply Moved.fold_fst)
      | ((with_reducible apply Moved.via); (case k => with_reducible apply State.modPipe_moved); (case sub => decide))
      | ((with_reducible apply Moved.via); (case k => with_reducible apply State.modCam_moved); (case sub => decide))
      | (intro _ _)
      | (with_reducible apply Moved.ite)
      | split
      | dsimp only)

theorem State.takeLine_moved (s : State) (a1 : _) :
    Moved [.vision] s (State.takeLine s a1) := by
  unfold State.takeLine
  try dsimp only
  repeat' (first
    | (with_reducible apply Moved.refl)
    | (with_reducible assumption)
    | (with_reducible apply Moved.fold)
    | (with_reducible apply Moved.fold_fst)
    | ((with_reducible apply Moved.via); (case k => with_reducible apply State.modFrame_moved); (case sub => decide))
    | ((with_reducible apply Moved.via); (case k => with_reducible apply State.modCam_moved); (case sub => decide))
    | (intro _ _)
    | (with_reducible apply Moved.ite)
    | split
    | dsimp only)

theorem donePipelineLine_moved (a0 : _) (a1 : _) (s : State) :
    Moved [.vision] s (donePipelineLine a0 a1 s) := by
  unfold donePipelineLine
  try dsimp only
  repeat' (first
    | (with_reducible apply Moved.refl)
    | (with_reducible assumption)
    | (with_reducible apply Moved.fold)
    | (with_reducible apply Moved.fold_fst)
    | ((with_reducible apply Moved.via); (case k => with_reducible apply State.takeLine_moved); (case sub => decide))
    | ((with_reducible apply Moved.via); (case k => with_reducible apply State.nextPort_moved); (case sub => decide))
    | ((with_reducible apply Moved.via); (case k => with_reducible apply State.modPipe_moved); (case sub => decide))
    | (intro _ _)
    | (with_reducible apply Moved.ite)
    | split
    | dsimp only)

theorem State.emitOutput_moved (s : State) (a1 : _) (a2 : _) (a3 : _) (a4 : _) (a5 : _) :
    Moved [.hub, .diag, .fabric, .vision] s (State.emitOutput s a1 a2 a3 a4 a5) := by
  unfold State.emitOutput
  try dsimp only
  repeat' (first
    | (with_reducible apply Moved.refl)
    | (with_reducible assumption)
    | (with_reducible apply Moved.fold)
    | (with_reducible apply Moved.fold_fst)
    | ((with_reducible apply Moved.via); (case k => with_reducible apply State.modCam_moved); (case sub => decide))
    | ((with_reducible apply Moved.via); (case k => with_reducible apply State.present_moved); (case sub => decide))
    | ((with_reducible apply Moved.via); (case k => with_reducible apply State.count_moved); (case sub => decide))
    | (intro _ _)
    | (with_reducible apply Moved.ite)
    | split
    | dsimp only)

theorem State.withhold_moved (s : State) (a1 : _) (a2 : _) (a3 : _) (a4 : _) :
    Moved [.hub, .diag, .vision] s (State.withhold s a1 a2 a3 a4) := by
  unfold State.withhold
  try dsimp only
  repeat' (first
    | (with_reducible apply Moved.refl)
    | (with_reducible assumption)
    | (with_reducible apply Moved.fold)
    | (with_reducible apply Moved.fold_fst)
    | ((with_reducible apply Moved.via); (case k => with_reducible apply State.modCam_moved); (case sub => decide))
    | ((with_reducible apply Moved.via); (case k => with_reducible apply State.raise_moved); (case sub => decide))
    | ((with_reducible apply Moved.via); (case k => with_reducible apply State.count_moved); (case sub => decide))
    | (intro _ _)
    | (with_reducible apply Moved.ite)
    | split
    | dsimp only)

theorem State.frameOutput_moved (s : State) (a1 : _) (a2 : _) (a3 : _) (a4 : _) (a5 : _) (a6 : _) :
    Moved [.hub, .diag, .fabric, .vision] s (State.frameOutput s a1 a2 a3 a4 a5 a6) := by
  unfold State.frameOutput
  try dsimp only
  repeat' (first
    | (with_reducible apply Moved.refl)
    | (with_reducible assumption)
    | (with_reducible apply Moved.fold)
    | (with_reducible apply Moved.fold_fst)
    | ((with_reducible apply Moved.via); (case k => with_reducible apply State.withhold_moved); (case sub => decide))
    | ((with_reducible apply Moved.via); (case k => with_reducible apply State.emitOutput_moved); (case sub => decide))
    | (intro _ _)
    | (with_reducible apply Moved.ite)
    | split
    | dsimp only)

theorem donePipelineFrameOutput_moved (a0 : _) (a1 : _) (s : State) :
    Moved [.hub, .diag, .fabric, .vision] s (donePipelineFrameOutput a0 a1 s) := by
  unfold donePipelineFrameOutput
  try dsimp only
  repeat' (first
    | (with_reducible apply Moved.refl)
    | (with_reducible assumption)
    | (with_reducible apply Moved.fold)
    | (with_reducible apply Moved.fold_fst)
    | ((with_reducible apply Moved.via); (case k => with_reducible apply State.countN_moved); (case sub => decide))
    | ((with_reducible apply Moved.via); (case k => with_reducible apply State.frameOutput_moved); (case sub => decide))
    | ((with_reducible apply Moved.via); (case k => with_reducible apply State.modPipe_moved); (case sub => decide))
    | ((with_reducible apply Moved.via); (case k => with_reducible apply State.modFrame_moved); (case sub => decide))
    | ((with_reducible apply Moved.via); (case k => with_reducible apply State.forgetFrames_moved); (case sub => decide))
    | ((with_reducible apply Moved.via); (case k => with_reducible apply State.count_moved); (case sub => decide))
    | (intro _ _)
    | (with_reducible apply Moved.ite)
    | split
    | dsimp only)

theorem doneStageSet_moved (a0 : _) (s : State) :
    Moved [.hub, .diag, .ledger, .fabric, .vision] s (doneStageSet a0 s) := by
  unfold doneStageSet
  try dsimp only
  repeat' (first
    | (with_reducible apply Moved.refl)
    | (with_reducible assumption)
    | (with_reducible apply Moved.fold)
    | (with_reducible apply Moved.fold_fst)
    | ((with_reducible apply Moved.via); (case k => with_reducible apply State.modCam_moved); (case sub => decide))
    | ((with_reducible apply Moved.via); (case k => with_reducible apply answer_moved); (case sub => decide))
    | (intro _ _)
    | (with_reducible apply Moved.ite)
    | split
    | dsimp only)

theorem doneOutputSet_moved (a0 : _) (s : State) :
    Moved [.hub, .diag, .ledger, .fabric, .vision] s (doneOutputSet a0 s) := by
  unfold doneOutputSet
  try dsimp only
  repeat' (first
    | (with_reducible apply Moved.refl)
    | (with_reducible assumption)
    | (with_reducible apply Moved.fold)
    | (with_reducible apply Moved.fold_fst)
    | ((with_reducible apply Moved.via); (case k => with_reducible apply State.modCam_moved); (case sub => decide))
    | ((with_reducible apply Moved.via); (case k => with_reducible apply answer_moved); (case sub => decide))
    | (intro _ _)
    | (with_reducible apply Moved.ite)
    | split
    | dsimp only)

theorem doneOutputStatus_moved (a0 : _) (s : State) :
    Moved [.hub, .diag, .ledger, .fabric] s (doneOutputStatus a0 s) := by
  unfold doneOutputStatus
  try dsimp only
  repeat' (first
    | (with_reducible apply Moved.refl)
    | (with_reducible assumption)
    | (with_reducible apply Moved.fold)
    | (with_reducible apply Moved.fold_fst)
    | ((with_reducible apply Moved.via); (case k => with_reducible apply answer_moved); (case sub => decide))
    | (intro _ _)
    | (with_reducible apply Moved.ite)
    | split
    | dsimp only)

theorem donePipeStatus_moved (a0 : _) (s : State) :
    Moved [.hub, .diag, .ledger, .fabric] s (donePipeStatus a0 s) := by
  unfold donePipeStatus
  try dsimp only
  repeat' (first
    | (with_reducible apply Moved.refl)
    | (with_reducible assumption)
    | (with_reducible apply Moved.fold)
    | (with_reducible apply Moved.fold_fst)
    | ((with_reducible apply Moved.via); (case k => with_reducible apply answer_moved); (case sub => decide))
    | (intro _ _)
    | (with_reducible apply Moved.ite)
    | split
    | dsimp only)

end Sys2Proof.Machine
end

