-- ==== Sys2Proof/Laws/MovedExecField.lean ====
section
/-! SUPPORT. What each operation of Machine/ExecField.lean may change: nothing but the parts named. -/

namespace Sys2Proof.Machine

set_option maxRecDepth 4000

theorem doneFldConverterFail_moved (a0 : _) (s : State) :
    Moved [.hub, .power, .rung, .mode, .change, .fences, .islands, .auth, .diag, .jack, .ledger, .control, .stage, .functions, .fieldIo, .place, .fabric, .nav, .vision, .infer, .buses, .eth, .fleet, .display, .safety, .update, .sections, .freeCount, .deferred] s (doneFldConverterFail a0 s) := by
  unfold doneFldConverterFail
  try dsimp only
  repeat' (first
    | (with_reducible apply Moved.refl)
    | (with_reducible assumption)
    | (with_reducible apply Moved.fold)
    | (with_reducible apply Moved.fold_fst)
    | ((with_reducible apply Moved.via); (case k => with_reducible apply State.fieldUnpowered_moved); (case sub => decide))
    | ((with_reducible apply Moved.via); (case k => with_reducible apply State.islandReset_moved); (case sub => decide))
    | (intro _ _)
    | (with_reducible apply Moved.ite)
    | split
    | dsimp only)

theorem doneFsupLow_moved (a0 : _) (a1 : _) (s : State) :
    Moved [.hub, .diag, .fieldIo] s (doneFsupLow a0 a1 s) := by
  unfold doneFsupLow
  try dsimp only
  repeat' (first
    | (with_reducible apply Moved.refl)
    | (with_reducible assumption)
    | (with_reducible apply Moved.fold)
    | (with_reducible apply Moved.fold_fst)
    | ((with_reducible apply Moved.via); (case k => with_reducible apply State.fieldLow_moved); (case sub => decide))
    | ((with_reducible apply Moved.via); (case k => with_reducible apply State.modField_moved); (case sub => decide))
    | (intro _ _)
    | (with_reducible apply Moved.ite)
    | split
    | dsimp only)

theorem doneFsupLost_moved (a0 : _) (a1 : _) (s : State) :
    Moved [.hub, .diag, .fieldIo] s (doneFsupLost a0 a1 s) := by
  unfold doneFsupLost
  try dsimp only
  repeat' (first
    | (with_reducible apply Moved.refl)
    | (with_reducible assumption)
    | (with_reducible apply Moved.fold)
    | (with_reducible apply Moved.fold_fst)
    | ((with_reducible apply Moved.via); (case k => with_reducible apply State.noteInvalid_moved); (case sub => decide))
    | ((with_reducible apply Moved.via); (case k => with_reducible apply State.fieldLow_moved); (case sub => decide))
    | ((with_reducible apply Moved.via); (case k => with_reducible apply State.tellFsup_moved); (case sub => decide))
    | ((with_reducible apply Moved.via); (case k => with_reducible apply State.foLost_moved); (case sub => decide))
    | ((with_reducible apply Moved.via); (case k => with_reducible apply State.modField_moved); (case sub => decide))
    | ((with_reducible apply Moved.via); (case k => with_reducible apply State.count_moved); (case sub => decide))
    | (intro _ _)
    | (with_reducible apply Moved.ite)
    | split
    | dsimp only)

theorem doneFsupRestored_moved (a0 : _) (a1 : _) (s : State) :
    Moved [.hub, .power, .diag, .fieldIo] s (doneFsupRestored a0 a1 s) := by
  unfold doneFsupRestored
  try dsimp only
  repeat' (first
    | (with_reducible apply Moved.refl)
    | (with_reducible assumption)
    | (with_reducible apply Moved.fold)
    | (with_reducible apply Moved.fold_fst)
    | ((with_reducible apply Moved.via); (case k => with_reducible apply State.foRestore_moved); (case sub => decide))
    | ((with_reducible apply Moved.via); (case k => with_reducible apply State.noteInvalid_moved); (case sub => decide))
    | ((with_reducible apply Moved.via); (case k => with_reducible apply State.tellFsup_moved); (case sub => decide))
    | ((with_reducible apply Moved.via); (case k => with_reducible apply State.modField_moved); (case sub => decide))
    | (intro _ _)
    | (with_reducible apply Moved.ite)
    | split
    | dsimp only)

theorem doneFiLevelAccept_moved (a0 : _) (a1 : _) (a2 : _) (a3 : _) (s : State) :
    Moved [.diag, .fieldIo] s (doneFiLevelAccept a0 a1 a2 a3 s) := by
  unfold doneFiLevelAccept
  try dsimp only
  repeat' (first
    | (with_reducible apply Moved.refl)
    | (with_reducible assumption)
    | (with_reducible apply Moved.fold)
    | (with_reducible apply Moved.fold_fst)
    | ((with_reducible apply Moved.via); (case k => with_reducible apply State.setFiLevel_moved); (case sub => decide))
    | (intro _ _)
    | (with_reducible apply Moved.ite)
    | split
    | dsimp only)

theorem doneFiChangeMessage_moved (a0 : _) (s : State) :
    Moved [.hub, .diag, .fieldIo, .fabric] s (doneFiChangeMessage a0 s) := by
  unfold doneFiChangeMessage
  try dsimp only
  repeat' (first
    | (with_reducible apply Moved.refl)
    | (with_reducible assumption)
    | (with_reducible apply Moved.fold)
    | (with_reducible apply Moved.fold_fst)
    | ((with_reducible apply Moved.via); (case k => with_reducible apply State.modField_moved); (case sub => decide))
    | ((with_reducible apply Moved.via); (case k => with_reducible apply State.present_moved); (case sub => decide))
    | (intro _ _)
    | (with_reducible apply Moved.ite)
    | split
    | dsimp only)

theorem doneWireBreakDetect_moved (a0 : _) (a1 : _) (a2 : _) (s : State) :
    Moved [.hub, .diag, .fieldIo] s (doneWireBreakDetect a0 a1 a2 s) := by
  unfold doneWireBreakDetect
  try dsimp only
  repeat' (first
    | (with_reducible apply Moved.refl)
    | (with_reducible assumption)
    | (with_reducible apply Moved.fold)
    | (with_reducible apply Moved.fold_fst)
    | ((with_reducible apply Moved.via); (case k => with_reducible apply State.setBreak_moved); (case sub => decide))
    | (intro _ _)
    | (with_reducible apply Moved.ite)
    | split
    | dsimp only)

theorem doneWireBreakClear_moved (a0 : _) (a1 : _) (a2 : _) (s : State) :
    Moved [.hub, .diag, .fieldIo] s (doneWireBreakClear a0 a1 a2 s) := by
  unfold doneWireBreakClear
  try dsimp only
  repeat' (first
    | (with_reducible apply Moved.refl)
    | (with_reducible assumption)
    | (with_reducible apply Moved.fold)
    | (with_reducible apply Moved.fold_fst)
    | ((with_reducible apply Moved.via); (case k => with_reducible apply State.setBreak_moved); (case sub => decide))
    | (intro _ _)
    | (with_reducible apply Moved.ite)
    | split
    | dsimp only)

theorem doneFoShort_moved (a0 : _) (a1 : _) (a2 : _) (s : State) :
    Moved [.hub, .diag, .fieldIo] s (doneFoShort a0 a1 a2 s) := by
  unfold doneFoShort
  try dsimp only
  repeat' (first
    | (with_reducible apply Moved.refl)
    | (with_reducible assumption)
    | (with_reducible apply Moved.fold)
    | (with_reducible apply Moved.fold_fst)
    | ((with_reducible apply Moved.via); (case k => with_reducible apply State.foLatch_moved); (case sub => decide))
    | (intro _ _)
    | (with_reducible apply Moved.ite)
    | split
    | dsimp only)

theorem doneFoOvertemp_moved (a0 : _) (a1 : _) (a2 : _) (a3 : _) (s : State) :
    Moved [.hub, .diag, .fieldIo] s (doneFoOvertemp a0 a1 a2 a3 s) := by
  unfold doneFoOvertemp
  try dsimp only
  repeat' (first
    | (with_reducible apply Moved.refl)
    | (with_reducible assumption)
    | (with_reducible apply Moved.fold)
    | (with_reducible apply Moved.fold_fst)
    | ((with_reducible apply Moved.via); (case k => with_reducible apply State.foLatch_moved); (case sub => decide))
    | ((with_reducible apply Moved.via); (case k => with_reducible apply State.modFo_moved); (case sub => decide))
    | (intro _ _)
    | (with_reducible apply Moved.ite)
    | split
    | dsimp only)

theorem doneFoOpenLoad_moved (a0 : _) (a1 : _) (a2 : _) (s : State) :
    Moved [.hub, .diag, .fieldIo] s (doneFoOpenLoad a0 a1 a2 s) := by
  unfold doneFoOpenLoad
  try dsimp only
  repeat' (first
    | (with_reducible apply Moved.refl)
    | (with_reducible assumption)
    | (with_reducible apply Moved.fold)
    | (with_reducible apply Moved.fold_fst)
    | ((with_reducible apply Moved.via); (case k => with_reducible apply State.tellFo_moved); (case sub => decide))
    | ((with_reducible apply Moved.via); (case k => with_reducible apply State.modFo_moved); (case sub => decide))
    | (intro _ _)
    | (with_reducible apply Moved.ite)
    | split
    | dsimp only)

theorem State.siMean_moved (s : State) (a1 : _) (a2 : _) :
    Moved [.freeCount] s (State.siMean s a1 a2).2 := by
  unfold State.siMean
  try dsimp only
  repeat' (first
    | (with_reducible apply Moved.refl)
    | (with_reducible assumption)
    | (with_reducible apply Moved.fold)
    | (with_reducible apply Moved.fold_fst)
    | ((with_reducible apply Moved.via); (case k => with_reducible apply State.free_moved); (case sub => decide))
    | (intro _ _)
    | (with_reducible apply Moved.ite)
    | split
    | (refine Moved.snd (by assumption) ?_)
    | dsimp only)

theorem doneSiConversion_moved (a0 : _) (a1 : _) (a2 : _) (a3 : _) (s : State) :
    Moved [.hub, .diag, .fieldIo, .freeCount] s (doneSiConversion a0 a1 a2 a3 s) := by
  unfold doneSiConversion
  try dsimp only
  repeat' (first
    | (with_reducible apply Moved.refl)
    | (with_reducible assumption)
    | (with_reducible apply Moved.fold)
    | (with_reducible apply Moved.fold_fst)
    | ((with_reducible apply Moved.via); (case k => with_reducible apply State.setSiFlags_moved); (case sub => decide))
    | ((with_reducible apply Moved.via); (case k => with_reducible apply State.modSup5_moved); (case sub => decide))
    | ((with_reducible apply Moved.via); (case k => with_reducible apply State.modSi_moved); (case sub => decide))
    | ((with_reducible apply Moved.via); (case k => with_reducible apply State.siMean_moved); (case sub => decide))
    | (intro _ _)
    | (with_reducible apply Moved.ite)
    | split
    | (refine Moved.snd (by assumption) ?_)
    | dsimp only)

theorem doneShuntReenable_moved (a0 : _) (a1 : _) (s : State) :
    Moved [.fieldIo] s (doneShuntReenable a0 a1 s) := by
  unfold doneShuntReenable
  try dsimp only
  repeat' (first
    | (with_reducible apply Moved.refl)
    | (with_reducible assumption)
    | (with_reducible apply Moved.fold)
    | (with_reducible apply Moved.fold_fst)
    | ((with_reducible apply Moved.via); (case k => with_reducible apply State.modSi_moved); (case sub => decide))
    | (intro _ _)
    | (with_reducible apply Moved.ite)
    | split
    | dsimp only)

theorem doneAcousticHit_moved (a0 : _) (a1 : _) (s : State) :
    Moved [.fieldIo] s (doneAcousticHit a0 a1 s) := by
  unfold doneAcousticHit
  try dsimp only
  repeat' (first
    | (with_reducible apply Moved.refl)
    | (with_reducible assumption)
    | (with_reducible apply Moved.fold)
    | (with_reducible apply Moved.fold_fst)
    | ((with_reducible apply Moved.via); (case k => with_reducible apply State.modSi_moved); (case sub => decide))
    | (intro _ _)
    | (with_reducible apply Moved.ite)
    | split
    | dsimp only)

theorem doneSup5Fault_moved (a0 : _) (a1 : _) (a2 : _) (s : State) :
    Moved [.hub, .diag, .fieldIo, .freeCount] s (doneSup5Fault a0 a1 a2 s) := by
  unfold doneSup5Fault
  try dsimp only
  repeat' (first
    | (with_reducible apply Moved.refl)
    | (with_reducible assumption)
    | (with_reducible apply Moved.fold)
    | (with_reducible apply Moved.fold_fst)
    | ((with_reducible apply Moved.via); (case k => with_reducible apply State.tellSi_moved); (case sub => decide))
    | ((with_reducible apply Moved.via); (case k => with_reducible apply State.modSup5_moved); (case sub => decide))
    | ((with_reducible apply Moved.via); (case k => with_reducible apply State.free_moved); (case sub => decide))
    | ((with_reducible apply Moved.via); (case k => with_reducible apply State.count_moved); (case sub => decide))
    | (intro _ _)
    | (with_reducible apply Moved.ite)
    | split
    | (refine Moved.snd (by assumption) ?_)
    | dsimp only)

theorem doneSup5Retry_moved (a0 : _) (a1 : _) (a2 : _) (a3 : _) (s : State) :
    Moved [.hub, .diag, .fieldIo, .freeCount] s (doneSup5Retry a0 a1 a2 a3 s) := by
  unfold doneSup5Retry
  try dsimp only
  repeat' (first
    | (with_reducible apply Moved.refl)
    | (with_reducible assumption)
    | (with_reducible apply Moved.fold)
    | (with_reducible apply Moved.fold_fst)
    | ((with_reducible apply Moved.via); (case k => with_reducible apply State.tellSi_moved); (case sub => decide))
    | ((with_reducible apply Moved.via); (case k => with_reducible apply State.modSup5_moved); (case sub => decide))
    | ((with_reducible apply Moved.via); (case k => with_reducible apply State.free_moved); (case sub => decide))
    | (intro _ _)
    | (with_reducible apply Moved.ite)
    | split
    | (refine Moved.snd (by assumption) ?_)
    | dsimp only)

theorem doneFiConfig_moved (a0 : _) (s : State) :
    Moved [.hub, .diag, .ledger, .fieldIo, .fabric, .freeCount] s (doneFiConfig a0 s) := by
  unfold doneFiConfig
  try dsimp only
  repeat' (first
    | (with_reducible apply Moved.refl)
    | (with_reducible assumption)
    | (with_reducible apply Moved.fold)
    | (with_reducible apply Moved.fold_fst)
    | ((with_reducible apply Moved.via); (case k => with_reducible apply State.setBreak_moved); (case sub => decide))
    | ((with_reducible apply Moved.via); (case k => with_reducible apply State.setFiLevel_moved); (case sub => decide))
    | ((with_reducible apply Moved.via); (case k => with_reducible apply State.modFi_moved); (case sub => decide))
    | ((with_reducible apply Moved.via); (case k => with_reducible apply State.free_moved); (case sub => decide))
    | ((with_reducible apply Moved.via); (case k => with_reducible apply answer_moved); (case sub => decide))
    | (intro _ _)
    | (with_reducible apply Moved.ite)
    | split
    | (refine Moved.snd (by assumption) ?_)
    | dsimp only)

theorem doneFoConfig_moved (a0 : _) (s : State) :
    Moved [.hub, .diag, .ledger, .fieldIo, .fabric] s (doneFoConfig a0 s) := by
  unfold doneFoConfig
  try dsimp only
  repeat' (first
    | (with_reducible apply Moved.refl)
    | (with_reducible assumption)
    | (with_reducible apply Moved.fold)
    | (with_reducible apply Moved.fold_fst)
    | ((with_reducible apply Moved.via); (case k => with_reducible apply State.modFo_moved); (case sub => decide))
    | ((with_reducible apply Moved.via); (case k => with_reducible apply answer_moved); (case sub => decide))
    | (intro _ _)
    | (with_reducible apply Moved.ite)
    | split
    | dsimp only)

theorem doneSiConfig_moved (a0 : _) (s : State) :
    Moved [.hub, .diag, .ledger, .fieldIo, .fabric] s (doneSiConfig a0 s) := by
  unfold doneSiConfig
  try dsimp only
  repeat' (first
    | (with_reducible apply Moved.refl)
    | (with_reducible assumption)
    | (with_reducible apply Moved.fold)
    | (with_reducible apply Moved.fold_fst)
    | ((with_reducible apply Moved.via); (case k => with_reducible apply State.setSiFlags_moved); (case sub => decide))
    | ((with_reducible apply Moved.via); (case k => with_reducible apply State.modSi_moved); (case sub => decide))
    | ((with_reducible apply Moved.via); (case k => with_reducible apply answer_moved); (case sub => decide))
    | (intro _ _)
    | (with_reducible apply Moved.ite)
    | split
    | dsimp only)

theorem State.foEntry_moved (s : State) (a1 : _) (a2 : _) :
    Moved [.power, .diag, .fieldIo] s (State.foEntry s a1 a2) := by
  unfold State.foEntry
  try dsimp only
  repeat' (first
    | (with_reducible apply Moved.refl)
    | (with_reducible assumption)
    | (with_reducible apply Moved.fold)
    | (with_reducible apply Moved.fold_fst)
    | ((with_reducible apply Moved.via); (case k => with_reducible apply State.foOn_moved); (case sub => decide))
    | ((with_reducible apply Moved.via); (case k => with_reducible apply State.foOff_moved); (case sub => decide))
    | ((with_reducible apply Moved.via); (case k => with_reducible apply State.modFo_moved); (case sub => decide))
    | (intro _ _)
    | (with_reducible apply Moved.ite)
    | split
    | dsimp only)

theorem doneFoSet_moved (a0 : _) (s : State) :
    Moved [.hub, .power, .diag, .ledger, .fieldIo, .fabric] s (doneFoSet a0 s) := by
  unfold doneFoSet
  try dsimp only
  repeat' (first
    | (with_reducible apply Moved.refl)
    | (with_reducible assumption)
    | (with_reducible apply Moved.fold)
    | (with_reducible apply Moved.fold_fst)
    | ((with_reducible apply Moved.via); (case k => with_reducible apply State.foEntry_moved); (case sub => decide))
    | ((with_reducible apply Moved.via); (case k => with_reducible apply answer_moved); (case sub => decide))
    | (intro _ _)
    | (with_reducible apply Moved.ite)
    | split
    | dsimp only)

theorem doneFoClear_moved (a0 : _) (s : State) :
    Moved [.hub, .diag, .ledger, .fieldIo, .fabric] s (doneFoClear a0 s) := by
  unfold doneFoClear
  try dsimp only
  repeat' (first
    | (with_reducible apply Moved.refl)
    | (with_reducible assumption)
    | (with_reducible apply Moved.fold)
    | (with_reducible apply Moved.fold_fst)
    | ((with_reducible apply Moved.via); (case k => with_reducible apply State.tellFo_moved); (case sub => decide))
    | ((with_reducible apply Moved.via); (case k => with_reducible apply State.modFo_moved); (case sub => decide))
    | ((with_reducible apply Moved.via); (case k => with_reducible apply answer_moved); (case sub => decide))
    | (intro _ _)
    | (with_reducible apply Moved.ite)
    | split
    | dsimp only)

theorem doneFieldStatus_moved (a0 : _) (s : State) :
    Moved [.hub, .diag, .ledger, .fabric] s (doneFieldStatus a0 s) := by
  unfold doneFieldStatus
  try dsimp only
  repeat' (first
    | (with_reducible apply Moved.refl)
    | (with_reducible assumption)
    | (with_reducible apply Moved.fold)
    | (with_reducible apply Moved.fold_fst)
    | ((with_reducible apply Moved.via); (case k => with_reducible apply answer_moved); (case sub => decide))
    | (intro _ _)
    | (with_reducible apply Moved.ite)
    | split
    | dsimp only)

theorem doneSiStatus_moved (a0 : _) (s : State) :
    Moved [.hub, .diag, .ledger, .fabric] s (doneSiStatus a0 s) := by
  unfold doneSiStatus
  try dsimp only
  repeat' (first
    | (with_reducible apply Moved.refl)
    | (with_reducible assumption)
    | (with_reducible apply Moved.fold)
    | (with_reducible apply Moved.fold_fst)
    | ((with_reducible apply Moved.via); (case k => with_reducible apply answer_moved); (case sub => decide))
    | (intro _ _)
    | (with_reducible apply Moved.ite)
    | split
    | dsimp only)

end Sys2Proof.Machine
end

