-- ==== Sys2Proof/Laws/MovedExecFunction.lean ====
section
/-! SUPPORT. What each operation of Machine/ExecFunction.lean may change: nothing but the parts named. -/

namespace Sys2Proof.Machine

set_option maxRecDepth 4000

theorem doneFunctionDefine_moved (a0 : _) (s : State) :
    Moved [.hub, .diag, .ledger, .functions, .fabric] s (doneFunctionDefine a0 s) := by
  unfold doneFunctionDefine
  try dsimp only
  repeat' (first
    | (with_reducible apply Moved.refl)
    | (with_reducible assumption)
    | (with_reducible apply Moved.fold)
    | (with_reducible apply Moved.fold_fst)
    | ((with_reducible apply Moved.via); (case k => with_reducible apply answer_moved); (case sub => decide))
    | ((with_reducible apply Moved.via); (case k => with_reducible apply State.modInst_moved); (case sub => decide))
    | (intro _ _)
    | (with_reducible apply Moved.ite)
    | split
    | dsimp only)

theorem doneFunctionClear_moved (a0 : _) (s : State) :
    Moved [.hub, .diag, .ledger, .functions, .fabric] s (doneFunctionClear a0 s) := by
  unfold doneFunctionClear
  try dsimp only
  repeat' (first
    | (with_reducible apply Moved.refl)
    | (with_reducible assumption)
    | (with_reducible apply Moved.fold)
    | (with_reducible apply Moved.fold_fst)
    | ((with_reducible apply Moved.via); (case k => with_reducible apply answer_moved); (case sub => decide))
    | ((with_reducible apply Moved.via); (case k => with_reducible apply State.modFunctions_moved); (case sub => decide))
    | (intro _ _)
    | (with_reducible apply Moved.ite)
    | split
    | dsimp only)

theorem doneFunctionStart_moved (a0 : _) (s : State) :
    Moved [.hub, .power, .diag, .ledger, .control, .stage, .functions, .fabric, .sections, .deferred] s (doneFunctionStart a0 s) := by
  unfold doneFunctionStart
  try dsimp only
  repeat' (first
    | (with_reducible apply Moved.refl)
    | (with_reducible assumption)
    | (with_reducible apply Moved.fold)
    | (with_reducible apply Moved.fold_fst)
    | ((with_reducible apply Moved.via); (case k => with_reducible apply State.startInst_moved); (case sub => decide))
    | ((with_reducible apply Moved.via); (case k => with_reducible apply State.defer_moved); (case sub => decide))
    | ((with_reducible apply Moved.via); (case k => with_reducible apply State.accepted_moved); (case sub => decide))
    | ((with_reducible apply Moved.via); (case k => with_reducible apply answer_moved); (case sub => decide))
    | (intro _ _)
    | (with_reducible apply Moved.ite)
    | split
    | dsimp only)

theorem doneFunctionStop_moved (a0 : _) (s : State) :
    Moved [.hub, .diag, .ledger, .control, .stage, .functions, .fabric, .sections] s (doneFunctionStop a0 s) := by
  unfold doneFunctionStop
  try dsimp only
  repeat' (first
    | (with_reducible apply Moved.refl)
    | (with_reducible assumption)
    | (with_reducible apply Moved.fold)
    | (with_reducible apply Moved.fold_fst)
    | ((with_reducible apply Moved.via); (case k => with_reducible apply State.haltInst_moved); (case sub => decide))
    | ((with_reducible apply Moved.via); (case k => with_reducible apply answer_moved); (case sub => decide))
    | (intro _ _)
    | (with_reducible apply Moved.ite)
    | split
    | dsimp only)

theorem doneFunctionParams_moved (a0 : _) (s : State) :
    Moved [.hub, .diag, .ledger, .functions, .fabric] s (doneFunctionParams a0 s) := by
  unfold doneFunctionParams
  try dsimp only
  repeat' (first
    | (with_reducible apply Moved.refl)
    | (with_reducible assumption)
    | (with_reducible apply Moved.fold)
    | (with_reducible apply Moved.fold_fst)
    | ((with_reducible apply Moved.via); (case k => with_reducible apply answer_moved); (case sub => decide))
    | ((with_reducible apply Moved.via); (case k => with_reducible apply State.modInst_moved); (case sub => decide))
    | (intro _ _)
    | (with_reducible apply Moved.ite)
    | split
    | dsimp only)

theorem doneFunctionStatus_moved (a0 : _) (s : State) :
    Moved [.hub, .diag, .ledger, .fabric] s (doneFunctionStatus a0 s) := by
  unfold doneFunctionStatus
  try dsimp only
  repeat' (first
    | (with_reducible apply Moved.refl)
    | (with_reducible assumption)
    | (with_reducible apply Moved.fold)
    | (with_reducible apply Moved.fold_fst)
    | ((with_reducible apply Moved.via); (case k => with_reducible apply answer_moved); (case sub => decide))
    | (intro _ _)
    | (with_reducible apply Moved.ite)
    | split
    | dsimp only)

theorem doneCalibrate_moved (a0 : _) (s : State) :
    Moved [.hub, .diag, .ledger, .functions, .fabric] s (doneCalibrate a0 s) := by
  unfold doneCalibrate
  try dsimp only
  repeat' (first
    | (with_reducible apply Moved.refl)
    | (with_reducible assumption)
    | (with_reducible apply Moved.fold)
    | (with_reducible apply Moved.fold_fst)
    | ((with_reducible apply Moved.via); (case k => with_reducible apply refuse_moved); (case sub => decide))
    | ((with_reducible apply Moved.via); (case k => with_reducible apply answer_moved); (case sub => decide))
    | ((with_reducible apply Moved.via); (case k => with_reducible apply State.modInst_moved); (case sub => decide))
    | (intro _ _)
    | (with_reducible apply Moved.ite)
    | split
    | dsimp only)

theorem doneYieldTotals_moved (a0 : _) (s : State) :
    Moved [.hub, .diag, .ledger, .functions, .fabric] s (doneYieldTotals a0 s) := by
  unfold doneYieldTotals
  try dsimp only
  repeat' (first
    | (with_reducible apply Moved.refl)
    | (with_reducible assumption)
    | (with_reducible apply Moved.fold)
    | (with_reducible apply Moved.fold_fst)
    | ((with_reducible apply Moved.via); (case k => with_reducible apply answer_moved); (case sub => decide))
    | ((with_reducible apply Moved.via); (case k => with_reducible apply State.modInst_moved); (case sub => decide))
    | (intro _ _)
    | (with_reducible apply Moved.ite)
    | split
    | dsimp only)

theorem doneInstanceTick_moved (a0 : _) (s : State) :
    Moved [.hub, .power, .diag, .ledger, .control, .stage, .functions, .sections] s (doneInstanceTick a0 s) := by
  unfold doneInstanceTick
  try dsimp only
  repeat' (first
    | (with_reducible apply Moved.refl)
    | (with_reducible assumption)
    | (with_reducible apply Moved.fold)
    | (with_reducible apply Moved.fold_fst)
    | ((with_reducible apply Moved.via); (case k => with_reducible apply State.runInst_moved); (case sub => decide))
    | ((with_reducible apply Moved.via); (case k => with_reducible apply State.modFunctions_moved); (case sub => decide))
    | (intro _ _)
    | (with_reducible apply Moved.ite)
    | split
    | dsimp only)

theorem doneOnDelayExpiry_moved (a0 : _) (a1 : _) (s : State) :
    Moved [.hub, .power, .diag, .ledger, .control, .stage, .functions, .sections] s (doneOnDelayExpiry a0 a1 s) := by
  unfold doneOnDelayExpiry
  try dsimp only
  repeat' (first
    | (with_reducible apply Moved.refl)
    | (with_reducible assumption)
    | (with_reducible apply Moved.fold)
    | (with_reducible apply Moved.fold_fst)
    | ((with_reducible apply Moved.via); (case k => with_reducible apply State.nextChannel_moved); (case sub => decide))
    | (intro _ _)
    | (with_reducible apply Moved.ite)
    | split
    | dsimp only)

theorem doneGovernorPeriod_moved (a0 : _) (a1 : _) (s : State) :
    Moved [.hub, .diag, .control, .functions] s (doneGovernorPeriod a0 a1 s) := by
  unfold doneGovernorPeriod
  try dsimp only
  repeat' (first
    | (with_reducible apply Moved.refl)
    | (with_reducible assumption)
    | (with_reducible apply Moved.fold)
    | (with_reducible apply Moved.fold_fst)
    | ((with_reducible apply Moved.via); (case k => with_reducible apply State.runGovernor_moved); (case sub => decide))
    | (intro _ _)
    | (with_reducible apply Moved.ite)
    | split
    | dsimp only)

theorem doneYieldStep_moved (a0 : _) (a1 : _) (s : State) :
    Moved [.hub, .diag, .functions, .place, .fleet] s (doneYieldStep a0 a1 s) := by
  unfold doneYieldStep
  try dsimp only
  repeat' (first
    | (with_reducible apply Moved.refl)
    | (with_reducible assumption)
    | (with_reducible apply Moved.fold)
    | (with_reducible apply Moved.fold_fst)
    | ((with_reducible apply Moved.via); (case k => with_reducible apply State.runYield_moved); (case sub => decide))
    | (intro _ _)
    | (with_reducible apply Moved.ite)
    | split
    | dsimp only)

theorem doneTotalsSave_moved (a0 : _) (s : State) :
    Moved [.functions] s (doneTotalsSave a0 s) := by
  unfold doneTotalsSave
  try dsimp only
  repeat' (first
    | (with_reducible apply Moved.refl)
    | (with_reducible assumption)
    | (with_reducible apply Moved.fold)
    | (with_reducible apply Moved.fold_fst)
    | ((with_reducible apply Moved.via); (case k => with_reducible apply State.modFunctions_moved); (case sub => decide))
    | (intro _ _)
    | (with_reducible apply Moved.ite)
    | split
    | dsimp only)

end Sys2Proof.Machine
end

