-- ==== Sys2Proof/Laws/MovedExecInference.lean ====
section
/-! SUPPORT. What each operation of Machine/ExecInference.lean may change: nothing but the parts named. -/

namespace Sys2Proof.Machine

set_option maxRecDepth 4000

theorem doneModelLoad_moved (a0 : _) (s : State) :
    Moved [.hub, .diag, .ledger, .fabric, .infer] s (doneModelLoad a0 s) := by
  unfold doneModelLoad
  try dsimp only
  repeat' (first
    | (with_reducible apply Moved.refl)
    | (with_reducible assumption)
    | (with_reducible apply Moved.fold)
    | (with_reducible apply Moved.fold_fst)
    | ((with_reducible apply Moved.via); (case k => with_reducible apply State.modInfer_moved); (case sub => decide))
    | ((with_reducible apply Moved.via); (case k => with_reducible apply State.accepted_moved); (case sub => decide))
    | ((with_reducible apply Moved.via); (case k => with_reducible apply State.complete_moved); (case sub => decide))
    | (intro _ _)
    | (with_reducible apply Moved.ite)
    | split
    | dsimp only)

theorem doneModelUnload_moved (a0 : _) (s : State) :
    Moved [.hub, .diag, .ledger, .fabric, .infer] s (doneModelUnload a0 s) := by
  unfold doneModelUnload
  try dsimp only
  repeat' (first
    | (with_reducible apply Moved.refl)
    | (with_reducible assumption)
    | (with_reducible apply Moved.fold)
    | (with_reducible apply Moved.fold_fst)
    | ((with_reducible apply Moved.via); (case k => with_reducible apply State.modInfer_moved); (case sub => decide))
    | ((with_reducible apply Moved.via); (case k => with_reducible apply answer_moved); (case sub => decide))
    | (intro _ _)
    | (with_reducible apply Moved.ite)
    | split
    | dsimp only)

theorem doneJobDefine_moved (a0 : _) (s : State) :
    Moved [.hub, .diag, .ledger, .fabric, .infer] s (doneJobDefine a0 s) := by
  unfold doneJobDefine
  try dsimp only
  repeat' (first
    | (with_reducible apply Moved.refl)
    | (with_reducible assumption)
    | (with_reducible apply Moved.fold)
    | (with_reducible apply Moved.fold_fst)
    | ((with_reducible apply Moved.via); (case k => with_reducible apply State.modJob_moved); (case sub => decide))
    | ((with_reducible apply Moved.via); (case k => with_reducible apply answer_moved); (case sub => decide))
    | (intro _ _)
    | (with_reducible apply Moved.ite)
    | split
    | dsimp only)

theorem doneJobClear_moved (a0 : _) (s : State) :
    Moved [.hub, .diag, .ledger, .fabric, .infer] s (doneJobClear a0 s) := by
  unfold doneJobClear
  try dsimp only
  repeat' (first
    | (with_reducible apply Moved.refl)
    | (with_reducible assumption)
    | (with_reducible apply Moved.fold)
    | (with_reducible apply Moved.fold_fst)
    | ((with_reducible apply Moved.via); (case k => with_reducible apply State.modInfer_moved); (case sub => decide))
    | ((with_reducible apply Moved.via); (case k => with_reducible apply answer_moved); (case sub => decide))
    | (intro _ _)
    | (with_reducible apply Moved.ite)
    | split
    | dsimp only)

theorem doneJobStart_moved (a0 : _) (s : State) :
    Moved [.hub, .diag, .ledger, .place, .fabric, .infer] s (doneJobStart a0 s) := by
  unfold doneJobStart
  try dsimp only
  repeat' (first
    | (with_reducible apply Moved.refl)
    | (with_reducible assumption)
    | (with_reducible apply Moved.fold)
    | (with_reducible apply Moved.fold_fst)
    | ((with_reducible apply Moved.via); (case k => with_reducible apply State.stageModel_moved); (case sub => decide))
    | ((with_reducible apply Moved.via); (case k => with_reducible apply State.pressures_moved); (case sub => decide))
    | ((with_reducible apply Moved.via); (case k => with_reducible apply State.modJob_moved); (case sub => decide))
    | ((with_reducible apply Moved.via); (case k => with_reducible apply State.accepted_moved); (case sub => decide))
    | ((with_reducible apply Moved.via); (case k => with_reducible apply State.complete_moved); (case sub => decide))
    | (intro _ _)
    | (with_reducible apply Moved.ite)
    | split
    | dsimp only)

theorem doneJobStop_moved (a0 : _) (s : State) :
    Moved [.hub, .diag, .ledger, .place, .fabric, .infer] s (doneJobStop a0 s) := by
  unfold doneJobStop
  try dsimp only
  repeat' (first
    | (with_reducible apply Moved.refl)
    | (with_reducible assumption)
    | (with_reducible apply Moved.fold)
    | (with_reducible apply Moved.fold_fst)
    | ((with_reducible apply Moved.via); (case k => with_reducible apply State.stopJob_moved); (case sub => decide))
    | ((with_reducible apply Moved.via); (case k => with_reducible apply State.pressures_moved); (case sub => decide))
    | ((with_reducible apply Moved.via); (case k => with_reducible apply State.accepted_moved); (case sub => decide))
    | ((with_reducible apply Moved.via); (case k => with_reducible apply State.complete_moved); (case sub => decide))
    | (intro _ _)
    | (with_reducible apply Moved.ite)
    | split
    | dsimp only)

theorem donePoolDone_moved (a0 : _) (s : State) :
    Moved [.hub, .diag, .ledger, .fabric, .infer] s (donePoolDone a0 s) := by
  unfold donePoolDone
  try dsimp only
  repeat' (first
    | (with_reducible apply Moved.refl)
    | (with_reducible assumption)
    | (with_reducible apply Moved.fold)
    | (with_reducible apply Moved.fold_fst)
    | ((with_reducible apply Moved.via); (case k => with_reducible apply State.result_moved); (case sub => decide))
    | ((with_reducible apply Moved.via); (case k => with_reducible apply State.modJob_moved); (case sub => decide))
    | ((with_reducible apply Moved.via); (case k => with_reducible apply State.answered_moved); (case sub => decide))
    | (intro _ _)
    | (with_reducible apply Moved.ite)
    | split
    | dsimp only)

theorem doneJobStatus_moved (a0 : _) (s : State) :
    Moved [.hub, .diag, .ledger, .fabric] s (doneJobStatus a0 s) := by
  unfold doneJobStatus
  try dsimp only
  repeat' (first
    | (with_reducible apply Moved.refl)
    | (with_reducible assumption)
    | (with_reducible apply Moved.fold)
    | (with_reducible apply Moved.fold_fst)
    | ((with_reducible apply Moved.via); (case k => with_reducible apply answer_moved); (case sub => decide))
    | (intro _ _)
    | (with_reducible apply Moved.ite)
    | split
    | dsimp only)

theorem State.takeInput_moved (s : State) (a1 : _) (a2 : _) (a3 : _) (a4 : _) :
    Moved [.place, .infer, .fleet] s (State.takeInput s a1 a2 a3 a4) := by
  unfold State.takeInput
  try dsimp only
  repeat' (first
    | (with_reducible apply Moved.refl)
    | (with_reducible assumption)
    | (with_reducible apply Moved.fold)
    | (with_reducible apply Moved.fold_fst)
    | ((with_reducible apply Moved.via); (case k => with_reducible apply State.modJob_moved); (case sub => decide))
    | ((with_reducible apply Moved.via); (case k => with_reducible apply State.writePlace_moved); (case sub => decide))
    | (intro _ _)
    | (with_reducible apply Moved.ite)
    | split
    | dsimp only)

theorem State.supersede_moved (s : State) (a1 : _) :
    Moved [.hub, .diag, .infer] s (State.supersede s a1) := by
  unfold State.supersede
  try dsimp only
  repeat' (first
    | (with_reducible apply Moved.refl)
    | (with_reducible assumption)
    | (with_reducible apply Moved.fold)
    | (with_reducible apply Moved.fold_fst)
    | ((with_reducible apply Moved.via); (case k => with_reducible apply State.tellLate_moved); (case sub => decide))
    | ((with_reducible apply Moved.via); (case k => with_reducible apply State.modJob_moved); (case sub => decide))
    | (intro _ _)
    | (with_reducible apply Moved.ite)
    | split
    | dsimp only)

theorem doneInferenceInput_moved (a0 : _) (a1 : _) (a2 : _) (a3 : _) (s : State) :
    Moved [.hub, .diag, .place, .infer, .fleet] s (doneInferenceInput a0 a1 a2 a3 s) := by
  unfold doneInferenceInput
  try dsimp only
  repeat' (first
    | (with_reducible apply Moved.refl)
    | (with_reducible assumption)
    | (with_reducible apply Moved.fold)
    | (with_reducible apply Moved.fold_fst)
    | ((with_reducible apply Moved.via); (case k => with_reducible apply State.supersede_moved); (case sub => decide))
    | ((with_reducible apply Moved.via); (case k => with_reducible apply State.takeInput_moved); (case sub => decide))
    | ((with_reducible apply Moved.via); (case k => with_reducible apply State.dropInput_moved); (case sub => decide))
    | (intro _ _)
    | (with_reducible apply Moved.ite)
    | split
    | dsimp only)

theorem State.dropLate_moved (s : State) (a1 : _) (a2 : _) :
    Moved [.hub, .diag, .infer] s (State.dropLate s a1 a2) := by
  unfold State.dropLate
  try dsimp only
  repeat' (first
    | (with_reducible apply Moved.refl)
    | (with_reducible assumption)
    | (with_reducible apply Moved.fold)
    | (with_reducible apply Moved.fold_fst)
    | ((with_reducible apply Moved.via); (case k => with_reducible apply State.tellLate_moved); (case sub => decide))
    | ((with_reducible apply Moved.via); (case k => with_reducible apply State.dropInput_moved); (case sub => decide))
    | ((with_reducible apply Moved.via); (case k => with_reducible apply State.modJob_moved); (case sub => decide))
    | (intro _ _)
    | (with_reducible apply Moved.ite)
    | split
    | dsimp only)

theorem State.sendItem_moved (s : State) (a1 : _) (a2 : _) :
    Moved [.hub, .diag, .fabric, .infer] s (State.sendItem s a1 a2) := by
  unfold State.sendItem
  try dsimp only
  repeat' (first
    | (with_reducible apply Moved.refl)
    | (with_reducible assumption)
    | (with_reducible apply Moved.fold)
    | (with_reducible apply Moved.fold_fst)
    | ((with_reducible apply Moved.via); (case k => with_reducible apply State.modInput_moved); (case sub => decide))
    | ((with_reducible apply Moved.via); (case k => with_reducible apply State.modJob_moved); (case sub => decide))
    | ((with_reducible apply Moved.via); (case k => with_reducible apply State.present_moved); (case sub => decide))
    | (intro _ _)
    | (with_reducible apply Moved.ite)
    | split
    | dsimp only)

theorem doneInputPlacement_moved (a0 : _) (a1 : _) (s : State) :
    Moved [.hub, .diag, .fabric, .infer] s (doneInputPlacement a0 a1 s) := by
  unfold doneInputPlacement
  try dsimp only
  repeat' (first
    | (with_reducible apply Moved.refl)
    | (with_reducible assumption)
    | (with_reducible apply Moved.fold)
    | (with_reducible apply Moved.fold_fst)
    | ((with_reducible apply Moved.via); (case k => with_reducible apply State.sendItem_moved); (case sub => decide))
    | ((with_reducible apply Moved.via); (case k => with_reducible apply State.modInput_moved); (case sub => decide))
    | ((with_reducible apply Moved.via); (case k => with_reducible apply State.dropLate_moved); (case sub => decide))
    | ((with_reducible apply Moved.via); (case k => with_reducible apply State.result_moved); (case sub => decide))
    | ((with_reducible apply Moved.via); (case k => with_reducible apply State.modJob_moved); (case sub => decide))
    | (intro _ _)
    | (with_reducible apply Moved.ite)
    | split
    | dsimp only)

theorem doneRunStart_moved (a0 : _) (s : State) :
    Moved [.hub, .diag, .infer] s (doneRunStart a0 s) := by
  unfold doneRunStart
  try dsimp only
  repeat' (first
    | (with_reducible apply Moved.refl)
    | (with_reducible assumption)
    | (with_reducible apply Moved.fold)
    | (with_reducible apply Moved.fold_fst)
    | ((with_reducible apply Moved.via); (case k => with_reducible apply State.modInput_moved); (case sub => decide))
    | ((with_reducible apply Moved.via); (case k => with_reducible apply State.dropLate_moved); (case sub => decide))
    | (intro _ _)
    | (with_reducible apply Moved.ite)
    | split
    | dsimp only)

theorem doneLayerPreempt_moved (a0 : _) (a1 : _) (s : State) :
    Moved [.diag, .infer] s (doneLayerPreempt a0 a1 s) := by
  unfold doneLayerPreempt
  try dsimp only
  repeat' (first
    | (with_reducible apply Moved.refl)
    | (with_reducible assumption)
    | (with_reducible apply Moved.fold)
    | (with_reducible apply Moved.fold_fst)
    | ((with_reducible apply Moved.via); (case k => with_reducible apply State.modInput_moved); (case sub => decide))
    | ((with_reducible apply Moved.via); (case k => with_reducible apply State.count_moved); (case sub => decide))
    | (intro _ _)
    | (with_reducible apply Moved.ite)
    | split
    | dsimp only)

theorem doneRunEnd_moved (a0 : _) (a1 : _) (a2 : _) (s : State) :
    Moved [.hub, .diag, .fabric, .infer] s (doneRunEnd a0 a1 a2 s) := by
  unfold doneRunEnd
  try dsimp only
  repeat' (first
    | (with_reducible apply Moved.refl)
    | (with_reducible assumption)
    | (with_reducible apply Moved.fold)
    | (with_reducible apply Moved.fold_fst)
    | ((with_reducible apply Moved.via); (case k => with_reducible apply State.result_moved); (case sub => decide))
    | ((with_reducible apply Moved.via); (case k => with_reducible apply State.modJob_moved); (case sub => decide))
    | ((with_reducible apply Moved.via); (case k => with_reducible apply State.countN_moved); (case sub => decide))
    | ((with_reducible apply Moved.via); (case k => with_reducible apply State.count_moved); (case sub => decide))
    | (intro _ _)
    | (with_reducible apply Moved.ite)
    | split
    | dsimp only)

theorem donePoolTimeout_moved (a0 : _) (a1 : _) (a2 : _) (s : State) :
    Moved [.hub, .diag, .fabric, .infer] s (donePoolTimeout a0 a1 a2 s) := by
  unfold donePoolTimeout
  try dsimp only
  repeat' (first
    | (with_reducible apply Moved.refl)
    | (with_reducible assumption)
    | (with_reducible apply Moved.fold)
    | (with_reducible apply Moved.fold_fst)
    | ((with_reducible apply Moved.via); (case k => with_reducible apply State.result_moved); (case sub => decide))
    | (intro _ _)
    | (with_reducible apply Moved.ite)
    | split
    | dsimp only)

end Sys2Proof.Machine
end

