-- ==== Sys2Proof/Laws/MovedExecHub.lean ====
section
/-! SUPPORT. What each operation of Machine/ExecHub.lean may change: nothing but the parts named. -/

namespace Sys2Proof.Machine

set_option maxRecDepth 4000

theorem doneDoorbell_moved (a0 : _) (a1 : _) (a2 : _) (a3 : _) (s : State) :
    Moved [.hub, .power, .rung, .islands, .diag, .jack, .ledger, .control, .stage, .place, .fabric, .nav, .buses, .eth, .freeCount] s (doneDoorbell a0 a1 a2 a3 s) := by
  unfold doneDoorbell
  try dsimp only
  repeat' (first
    | (with_reducible apply Moved.refl)
    | (with_reducible assumption)
    | (with_reducible apply Moved.fold)
    | (with_reducible apply Moved.fold_fst)
    | ((with_reducible apply Moved.via); (case k => with_reducible apply State.flagWake_moved); (case sub => decide))
    | ((with_reducible apply Moved.via); (case k => with_reducible apply State.rungWake_moved); (case sub => decide))
    | ((with_reducible apply Moved.via); (case k => with_reducible apply State.doorbellWrite_moved); (case sub => decide))
    | (intro _ _)
    | (with_reducible apply Moved.ite)
    | split
    | dsimp only)

theorem doneResetCh_moved (a0 : _) (a1 : _) (a2 : _) (a3 : _) (s : State) :
    Moved [.hub, .power, .rung, .islands, .diag, .jack, .ledger, .control, .stage, .place, .fabric, .nav, .buses, .eth, .freeCount] s (doneResetCh a0 a1 a2 a3 s) := by
  unfold doneResetCh
  try dsimp only
  repeat' (first
    | (with_reducible apply Moved.refl)
    | (with_reducible assumption)
    | (with_reducible apply Moved.fold)
    | (with_reducible apply Moved.fold_fst)
    | ((with_reducible apply Moved.via); (case k => with_reducible apply State.ctrlWrite_moved); (case sub => decide))
    | ((with_reducible apply Moved.via); (case k => with_reducible apply State.flagWake_moved); (case sub => decide))
    | (intro _ _)
    | (with_reducible apply Moved.ite)
    | split
    | dsimp only)

theorem doneChEnable_moved (a0 : _) (a1 : _) (a2 : _) (a3 : _) (s : State) :
    Moved [.hub, .power, .rung, .islands, .diag, .jack, .ledger, .control, .stage, .place, .fabric, .nav, .buses, .eth, .freeCount] s (doneChEnable a0 a1 a2 a3 s) := by
  unfold doneChEnable
  try dsimp only
  repeat' (first
    | (with_reducible apply Moved.refl)
    | (with_reducible assumption)
    | (with_reducible apply Moved.fold)
    | (with_reducible apply Moved.fold_fst)
    | ((with_reducible apply Moved.via); (case k => with_reducible apply State.ctrlWrite_moved); (case sub => decide))
    | ((with_reducible apply Moved.via); (case k => with_reducible apply State.flagWake_moved); (case sub => decide))
    | (intro _ _)
    | (with_reducible apply Moved.ite)
    | split
    | dsimp only)

theorem doneW1cClear_moved (a0 : _) (a1 : _) (a2 : _) (a3 : _) (a4 : _) (s : State) :
    Moved [.hub, .power, .rung, .islands, .diag, .jack, .ledger, .control, .stage, .place, .fabric, .nav, .buses, .eth, .freeCount] s (doneW1cClear a0 a1 a2 a3 a4 s) := by
  unfold doneW1cClear
  try dsimp only
  repeat' (first
    | (with_reducible apply Moved.refl)
    | (with_reducible assumption)
    | (with_reducible apply Moved.fold)
    | (with_reducible apply Moved.fold_fst)
    | ((with_reducible apply Moved.via); (case k => with_reducible apply State.w1cWrite_moved); (case sub => decide))
    | ((with_reducible apply Moved.via); (case k => with_reducible apply State.flagWake_moved); (case sub => decide))
    | (intro _ _)
    | (with_reducible apply Moved.ite)
    | split
    | dsimp only)

theorem doneRplHeadWrite_moved (a0 : _) (a1 : _) (a2 : _) (a3 : _) (s : State) :
    Moved [.hub, .power, .rung, .islands, .diag, .jack, .ledger, .control, .stage, .place, .fabric, .nav, .buses, .eth, .freeCount] s (doneRplHeadWrite a0 a1 a2 a3 s) := by
  unfold doneRplHeadWrite
  try dsimp only
  repeat' (first
    | (with_reducible apply Moved.refl)
    | (with_reducible assumption)
    | (with_reducible apply Moved.fold)
    | (with_reducible apply Moved.fold_fst)
    | ((with_reducible apply Moved.via); (case k => with_reducible apply State.flagWake_moved); (case sub => decide))
    | ((with_reducible apply Moved.via); (case k => with_reducible apply State.modChan_moved); (case sub => decide))
    | (intro _ _)
    | (with_reducible apply Moved.ite)
    | split
    | dsimp only)

theorem doneTimeLoRead_moved (a0 : _) (a1 : _) (s : State) :
    Moved [.hub] s (doneTimeLoRead a0 a1 s) := by
  unfold doneTimeLoRead
  try dsimp only
  repeat' (first
    | (with_reducible apply Moved.refl)
    | (with_reducible assumption)
    | (with_reducible apply Moved.fold)
    | (with_reducible apply Moved.fold_fst)
    | ((with_reducible apply Moved.via); (case k => with_reducible apply State.modHub_moved); (case sub => decide))
    | (intro _ _)
    | (with_reducible apply Moved.ite)
    | split
    | dsimp only)

theorem doneRegisterWrite_moved (a0 : _) (a1 : _) (a2 : _) (a3 : _) (s : State) :
    Moved [.hub, .power, .rung, .islands, .diag, .jack, .ledger, .control, .stage, .place, .fabric, .nav, .buses, .eth, .freeCount] s (doneRegisterWrite a0 a1 a2 a3 s) := by
  unfold doneRegisterWrite
  try dsimp only
  repeat' (first
    | (with_reducible apply Moved.refl)
    | (with_reducible assumption)
    | (with_reducible apply Moved.fold)
    | (with_reducible apply Moved.fold_fst)
    | ((with_reducible apply Moved.via); (case k => with_reducible apply State.windowWrite_moved); (case sub => decide))
    | ((with_reducible apply Moved.via); (case k => with_reducible apply State.flagWake_moved); (case sub => decide))
    | ((with_reducible apply Moved.via); (case k => with_reducible apply State.rungWake_moved); (case sub => decide))
    | (intro _ _)
    | (with_reducible apply Moved.ite)
    | split
    | dsimp only)

theorem doneC24Go_moved (a0 : _) (a1 : _) (a2 : _) (s : State) :
    Moved [.hub, .diag, .ledger] s (doneC24Go a0 a1 a2 s) := by
  unfold doneC24Go
  try dsimp only
  repeat' (first
    | (with_reducible apply Moved.refl)
    | (with_reducible assumption)
    | (with_reducible apply Moved.fold)
    | (with_reducible apply Moved.fold_fst)
    | ((with_reducible apply Moved.via); (case k => with_reducible apply State.compatCommand_moved); (case sub => decide))
    | (intro _ _)
    | (with_reducible apply Moved.ite)
    | split
    | dsimp only)

theorem State.fetch_moved (s : State) (a1 : _) (a2 : _) :
    Moved [.hub, .diag, .ledger, .fabric] s (State.fetch s a1 a2) := by
  unfold State.fetch
  try dsimp only
  repeat' (first
    | (with_reducible apply Moved.refl)
    | (with_reducible assumption)
    | (with_reducible apply Moved.fold)
    | (with_reducible apply Moved.fold_fst)
    | ((with_reducible apply Moved.via); (case k => with_reducible apply State.journal_moved); (case sub => decide))
    | ((with_reducible apply Moved.via); (case k => with_reducible apply State.beat_moved); (case sub => decide))
    | ((with_reducible apply Moved.via); (case k => with_reducible apply State.failSlot_moved); (case sub => decide))
    | ((with_reducible apply Moved.via); (case k => with_reducible apply State.modChan_moved); (case sub => decide))
    | ((with_reducible apply Moved.via); (case k => with_reducible apply State.modHub_moved); (case sub => decide))
    | (intro _ _)
    | (with_reducible apply Moved.ite)
    | split
    | dsimp only)

theorem doneRequestFetch_moved (a0 : _) (a1 : _) (a2 : _) (s : State) :
    Moved [.hub, .diag, .ledger, .stage, .fabric, .freeCount] s (doneRequestFetch a0 a1 a2 s) := by
  unfold doneRequestFetch
  try dsimp only
  repeat' (first
    | (with_reducible apply Moved.refl)
    | (with_reducible assumption)
    | (with_reducible apply Moved.fold)
    | (with_reducible apply Moved.fold_fst)
    | ((with_reducible apply Moved.via); (case k => with_reducible apply State.fetch_moved); (case sub => decide))
    | ((with_reducible apply Moved.via); (case k => with_reducible apply State.readControl_moved); (case sub => decide))
    | (intro _ _)
    | (with_reducible apply Moved.ite)
    | split
    | dsimp only)

theorem doneCoalTimeout_moved (a0 : _) (a1 : _) (s : State) :
    Moved [.hub, .power, .rung, .islands, .diag, .jack, .ledger, .control, .stage, .place, .fabric, .nav, .buses, .eth, .freeCount] s (doneCoalTimeout a0 a1 s) := by
  unfold doneCoalTimeout
  try dsimp only
  repeat' (first
    | (with_reducible apply Moved.refl)
    | (with_reducible assumption)
    | (with_reducible apply Moved.fold)
    | (with_reducible apply Moved.fold_fst)
    | ((with_reducible apply Moved.via); (case k => with_reducible apply State.flagWake_moved); (case sub => decide))
    | ((with_reducible apply Moved.via); (case k => with_reducible apply State.modChan_moved); (case sub => decide))
    | (intro _ _)
    | (with_reducible apply Moved.ite)
    | split
    | dsimp only)

theorem doneHeldItemDiscard_moved (a0 : _) (a1 : _) (s : State) :
    Moved [.hub, .diag] s (doneHeldItemDiscard a0 a1 s) := by
  unfold doneHeldItemDiscard
  try dsimp only
  repeat' (first
    | (with_reducible apply Moved.refl)
    | (with_reducible assumption)
    | (with_reducible apply Moved.fold)
    | (with_reducible apply Moved.fold_fst)
    | ((with_reducible apply Moved.via); (case k => with_reducible apply State.discardHeld_moved); (case sub => decide))
    | (intro _ _)
    | (with_reducible apply Moved.ite)
    | split
    | dsimp only)

theorem State.hubBack_moved (s : State) :
    Moved [.hub, .islands, .diag, .ledger, .update, .freeCount] s (State.hubBack s) := by
  unfold State.hubBack
  try dsimp only
  repeat' (first
    | (with_reducible apply Moved.refl)
    | (with_reducible assumption)
    | (with_reducible apply Moved.fold)
    | (with_reducible apply Moved.fold_fst)
    | ((with_reducible apply Moved.via); (case k => with_reducible apply State.tellOutputs_moved); (case sub => decide))
    | ((with_reducible apply Moved.via); (case k => with_reducible apply State.startReplay_moved); (case sub => decide))
    | ((with_reducible apply Moved.via); (case k => with_reducible apply State.restartHeld_moved); (case sub => decide))
    | ((with_reducible apply Moved.via); (case k => with_reducible apply State.bootMaluf_moved); (case sub => decide))
    | ((with_reducible apply Moved.via); (case k => with_reducible apply State.restartWatches_moved); (case sub => decide))
    | ((with_reducible apply Moved.via); (case k => with_reducible apply State.takeHeld_moved); (case sub => decide))
    | ((with_reducible apply Moved.via); (case k => with_reducible apply State.enableChannel0_moved); (case sub => decide))
    | ((with_reducible apply Moved.via); (case k => with_reducible apply State.finishAct_moved); (case sub => decide))
    | ((with_reducible apply Moved.via); (case k => with_reducible apply State.modIsland_moved); (case sub => decide))
    | ((with_reducible apply Moved.via); (case k => (with_reducible apply modUpdate_moved); intro _; first | exact FusesMoved.same rfl rfl | exact FusesMoved.revoke rfl rfl); (case sub => decide))
    | ((with_reducible apply Moved.via); (case k => with_reducible apply State.modHub_moved); (case sub => decide))
    | (intro _ _)
    | (with_reducible apply Moved.ite)
    | split
    | dsimp only)

theorem doneHubRestart_moved (a0 : _) (s : State) :
    Moved [.hub, .islands, .diag, .ledger, .update, .freeCount] s (doneHubRestart a0 s) := by
  unfold doneHubRestart
  try dsimp only
  repeat' (first
    | (with_reducible apply Moved.refl)
    | (with_reducible assumption)
    | (with_reducible apply Moved.fold)
    | (with_reducible apply Moved.fold_fst)
    | ((with_reducible apply Moved.via); (case k => with_reducible apply State.hubBack_moved); (case sub => decide))
    | (intro _ _)
    | (with_reducible apply Moved.ite)
    | split
    | dsimp only)

theorem State.pcieReset_moved (s : State) :
    Moved [.hub, .stage] s (State.pcieReset s) := by
  unfold State.pcieReset
  try dsimp only
  repeat' (first
    | (with_reducible apply Moved.refl)
    | (with_reducible assumption)
    | (with_reducible apply Moved.fold)
    | (with_reducible apply Moved.fold_fst)
    | ((with_reducible apply Moved.via); (case k => with_reducible apply State.losePath_moved); (case sub => decide))
    | ((with_reducible apply Moved.via); (case k => with_reducible apply State.modHub_moved); (case sub => decide))
    | (intro _ _)
    | (with_reducible apply Moved.ite)
    | split
    | dsimp only)

theorem donePcieFunctionReset_moved (a0 : _) (a1 : _) (s : State) :
    Moved [.hub, .power, .rung, .islands, .diag, .jack, .ledger, .control, .stage, .place, .fabric, .nav, .buses, .eth, .freeCount] s (donePcieFunctionReset a0 a1 s) := by
  unfold donePcieFunctionReset
  try dsimp only
  repeat' (first
    | (with_reducible apply Moved.refl)
    | (with_reducible assumption)
    | (with_reducible apply Moved.fold)
    | (with_reducible apply Moved.fold_fst)
    | ((with_reducible apply Moved.via); (case k => with_reducible apply State.pcieReset_moved); (case sub => decide))
    | ((with_reducible apply Moved.via); (case k => with_reducible apply State.flagWake_moved); (case sub => decide))
    | ((with_reducible apply Moved.via); (case k => with_reducible apply State.modHub_moved); (case sub => decide))
    | (intro _ _)
    | (with_reducible apply Moved.ite)
    | split
    | dsimp only)

theorem donePerstNRelease_moved (a0 : _) (s : State) :
    Moved [.hub, .power, .rung, .islands, .diag, .jack, .ledger, .control, .stage, .place, .fabric, .nav, .buses, .eth, .freeCount] s (donePerstNRelease a0 s) := by
  unfold donePerstNRelease
  try dsimp only
  repeat' (first
    | (with_reducible apply Moved.refl)
    | (with_reducible assumption)
    | (with_reducible apply Moved.fold)
    | (with_reducible apply Moved.fold_fst)
    | ((with_reducible apply Moved.via); (case k => with_reducible apply State.rungWake_moved); (case sub => decide))
    | ((with_reducible apply Moved.via); (case k => with_reducible apply State.modHub_moved); (case sub => decide))
    | (intro _ _)
    | (with_reducible apply Moved.ite)
    | split
    | dsimp only)

theorem doneRingDmaFail_moved (a0 : _) (a1 : _) (s : State) :
    Moved [.hub, .power, .rung, .islands, .diag, .jack, .ledger, .control, .stage, .place, .fabric, .nav, .buses, .eth, .freeCount] s (doneRingDmaFail a0 a1 s) := by
  unfold doneRingDmaFail
  try dsimp only
  repeat' (first
    | (with_reducible apply Moved.refl)
    | (with_reducible assumption)
    | (with_reducible apply Moved.fold)
    | (with_reducible apply Moved.fold_fst)
    | ((with_reducible apply Moved.via); (case k => with_reducible apply State.flagWake_moved); (case sub => decide))
    | ((with_reducible apply Moved.via); (case k => with_reducible apply State.resetChannel_moved); (case sub => decide))
    | (intro _ _)
    | (with_reducible apply Moved.ite)
    | split
    | dsimp only)

theorem doneTunnelConnect_moved (a0 : _) (a1 : _) (a2 : _) (a3 : _) (s : State) :
    Moved [.hub, .diag, .eth] s (doneTunnelConnect a0 a1 a2 a3 s) := by
  unfold doneTunnelConnect
  try dsimp only
  repeat' (first
    | (with_reducible apply Moved.refl)
    | (with_reducible assumption)
    | (with_reducible apply Moved.fold)
    | (with_reducible apply Moved.fold_fst)
    | ((with_reducible apply Moved.via); (case k => with_reducible apply State.refuseDatagram_moved); (case sub => decide))
    | ((with_reducible apply Moved.via); (case k => with_reducible apply State.modHub_moved); (case sub => decide))
    | (intro _ _)
    | (with_reducible apply Moved.ite)
    | split
    | dsimp only)

theorem doneTunnelOpenRecord_moved (a0 : _) (a1 : _) (a2 : _) (a3 : _) (s : State) :
    Moved [.hub, .diag, .ledger, .stage] s (doneTunnelOpenRecord a0 a1 a2 a3 s) := by
  unfold doneTunnelOpenRecord
  try dsimp only
  repeat' (first
    | (with_reducible apply Moved.refl)
    | (with_reducible assumption)
    | (with_reducible apply Moved.fold)
    | (with_reducible apply Moved.fold_fst)
    | ((with_reducible apply Moved.via); (case k => with_reducible apply State.enableChannel_moved); (case sub => decide))
    | ((with_reducible apply Moved.via); (case k => with_reducible apply State.endSession_moved); (case sub => decide))
    | ((with_reducible apply Moved.via); (case k => with_reducible apply State.modHub_moved); (case sub => decide))
    | (intro _ _)
    | (with_reducible apply Moved.ite)
    | split
    | dsimp only)

theorem doneTunnelMessage_moved (a0 : _) (a1 : _) (a2 : _) (s : State) :
    Moved [.hub, .diag, .stage, .fabric] s (doneTunnelMessage a0 a1 a2 s) := by
  unfold doneTunnelMessage
  try dsimp only
  repeat' (first
    | (with_reducible apply Moved.refl)
    | (with_reducible assumption)
    | (with_reducible apply Moved.fold)
    | (with_reducible apply Moved.fold_fst)
    | ((with_reducible apply Moved.via); (case k => with_reducible apply State.takeMessage_moved); (case sub => decide))
    | ((with_reducible apply Moved.via); (case k => with_reducible apply State.modHub_moved); (case sub => decide))
    | (intro _ _)
    | (with_reducible apply Moved.ite)
    | split
    | dsimp only)

theorem doneTunnelClose_moved (a0 : _) (a1 : _) (s : State) :
    Moved [.hub, .stage] s (doneTunnelClose a0 a1 s) := by
  unfold doneTunnelClose
  try dsimp only
  repeat' (first
    | (with_reducible apply Moved.refl)
    | (with_reducible assumption)
    | (with_reducible apply Moved.fold)
    | (with_reducible apply Moved.fold_fst)
    | ((with_reducible apply Moved.via); (case k => with_reducible apply State.endSession_moved); (case sub => decide))
    | (intro _ _)
    | (with_reducible apply Moved.ite)
    | split
    | dsimp only)

theorem doneTunnelIdleTimeout_moved (a0 : _) (a1 : _) (s : State) :
    Moved [.hub, .stage] s (doneTunnelIdleTimeout a0 a1 s) := by
  unfold doneTunnelIdleTimeout
  try dsimp only
  repeat' (first
    | (with_reducible apply Moved.refl)
    | (with_reducible assumption)
    | (with_reducible apply Moved.fold)
    | (with_reducible apply Moved.fold_fst)
    | ((with_reducible apply Moved.via); (case k => with_reducible apply State.endSession_moved); (case sub => decide))
    | (intro _ _)
    | (with_reducible apply Moved.ite)
    | split
    | dsimp only)

theorem doneCascadeMessage_moved (a0 : _) (a1 : _) (a2 : _) (s : State) :
    Moved [.hub, .diag, .ledger, .stage, .fabric] s (doneCascadeMessage a0 a1 a2 s) := by
  unfold doneCascadeMessage
  try dsimp only
  repeat' (first
    | (with_reducible apply Moved.refl)
    | (with_reducible assumption)
    | (with_reducible apply Moved.fold)
    | (with_reducible apply Moved.fold_fst)
    | ((with_reducible apply Moved.via); (case k => with_reducible apply State.takeCascade_moved); (case sub => decide))
    | (intro _ _)
    | (with_reducible apply Moved.ite)
    | split
    | dsimp only)

end Sys2Proof.Machine
end

