-- ==== Sys2Proof/Laws/MovedExecMode.lean ====
section
/-! SUPPORT. What each operation of Machine/ExecMode.lean may change: nothing but the parts named. -/

namespace Sys2Proof.Machine

set_option maxRecDepth 4000

theorem State.grantMode_moved (s : State) (a1 : _) (a2 : _) :
    Moved [.hub, .change, .fences, .auth, .diag, .ledger, .fabric, .vision, .buses, .eth, .fleet, .display] s (State.grantMode s a1 a2) := by
  unfold State.grantMode
  try dsimp only
  repeat' (first
    | (with_reducible apply Moved.refl)
    | (with_reducible assumption)
    | (with_reducible apply Moved.fold)
    | (with_reducible apply Moved.fold_fst)
    | ((with_reducible apply Moved.via); (case k => with_reducible apply State.forceHold_moved); (case sub => decide))
    | ((with_reducible apply Moved.via); (case k => with_reducible apply State.prepare_moved); (case sub => decide))
    | ((with_reducible apply Moved.via); (case k => with_reducible apply State.accepted_moved); (case sub => decide))
    | ((with_reducible apply Moved.via); (case k => with_reducible apply answer_moved); (case sub => decide))
    | ((with_reducible apply Moved.via); (case k => (with_reducible apply modMode_moved (qs := [.auth])); intro m p hp; cases p <;> first | exact absurd hp (by decide) | exact trivial | rfl | (split <;> rfl) | (unfold ModeState.supLost; split <;> rfl)); (case sub => decide))
    | (intro _ _)
    | (with_reducible apply Moved.ite)
    | split
    | dsimp only)

theorem State.tryMode_moved (s : State) (a1 : _) (a2 : _) :
    Moved [.hub, .change, .fences, .auth, .diag, .ledger, .fabric, .vision, .buses, .eth, .fleet, .display, .safetyRecord] s (State.tryMode s a1 a2) := by
  unfold State.tryMode
  try dsimp only
  repeat' (first
    | (with_reducible apply Moved.refl)
    | (with_reducible assumption)
    | (with_reducible apply Moved.fold)
    | (with_reducible apply Moved.fold_fst)
    | ((with_reducible apply Moved.via); (case k => with_reducible apply State.grantMode_moved); (case sub => decide))
    | ((with_reducible apply Moved.via); (case k => with_reducible apply State.authorize_moved); (case sub => decide))
    | ((with_reducible apply Moved.via); (case k => with_reducible apply refuse_moved); (case sub => decide))
    | (intro _ _)
    | (with_reducible apply Moved.ite)
    | split
    | (refine Moved.snd (by assumption) ?_)
    | dsimp only)

theorem doneModeRequest_moved (a0 : _) (s : State) :
    Moved [.hub, .change, .fences, .auth, .diag, .ledger, .fabric, .vision, .buses, .eth, .fleet, .display, .safetyRecord, .deferred] s (doneModeRequest a0 s) := by
  unfold doneModeRequest
  try dsimp only
  repeat' (first
    | (with_reducible apply Moved.refl)
    | (with_reducible assumption)
    | (with_reducible apply Moved.fold)
    | (with_reducible apply Moved.fold_fst)
    | ((with_reducible apply Moved.via); (case k => with_reducible apply State.tryMode_moved); (case sub => decide))
    | ((with_reducible apply Moved.via); (case k => with_reducible apply State.defer_moved); (case sub => decide))
    | ((with_reducible apply Moved.via); (case k => with_reducible apply refuse_moved); (case sub => decide))
    | (intro _ _)
    | (with_reducible apply Moved.ite)
    | split
    | dsimp only)

theorem doneIslandReady_moved (a0 : _) (a1 : _) (s : State) :
    Moved [.hub, .change, .diag, .ledger] s (doneIslandReady a0 a1 s) := by
  unfold doneIslandReady
  try dsimp only
  repeat' (first
    | (with_reducible apply Moved.refl)
    | (with_reducible assumption)
    | (with_reducible apply Moved.fold)
    | (with_reducible apply Moved.fold_fst)
    | ((with_reducible apply Moved.via); (case k => with_reducible apply State.openModeRecord_moved); (case sub => decide))
    | ((with_reducible apply Moved.via); (case k => with_reducible apply State.abortChange_moved); (case sub => decide))
    | ((with_reducible apply Moved.via); (case k => (with_reducible apply modMode_moved (qs := [.change])); intro m p hp; cases p <;> first | exact absurd hp (by decide) | exact trivial | rfl | (split <;> rfl) | (unfold ModeState.supLost; split <;> rfl)); (case sub => decide))
    | (intro _ _)
    | (with_reducible apply Moved.ite)
    | split
    | dsimp only)

theorem doneIslandRefusal_moved (a0 : _) (a1 : _) (a2 : _) (s : State) :
    Moved [.hub, .change, .diag, .ledger] s (doneIslandRefusal a0 a1 a2 s) := by
  unfold doneIslandRefusal
  try dsimp only
  repeat' (first
    | (with_reducible apply Moved.refl)
    | (with_reducible assumption)
    | (with_reducible apply Moved.fold)
    | (with_reducible apply Moved.fold_fst)
    | ((with_reducible apply Moved.via); (case k => with_reducible apply State.abortChange_moved); (case sub => decide))
    | (intro _ _)
    | (with_reducible apply Moved.ite)
    | split
    | dsimp only)

theorem donePrepareTimeout_moved (a0 : _) (s : State) :
    Moved [.hub, .change, .diag, .ledger] s (donePrepareTimeout a0 s) := by
  unfold donePrepareTimeout
  try dsimp only
  repeat' (first
    | (with_reducible apply Moved.refl)
    | (with_reducible assumption)
    | (with_reducible apply Moved.fold)
    | (with_reducible apply Moved.fold_fst)
    | ((with_reducible apply Moved.via); (case k => with_reducible apply State.abortChange_moved); (case sub => decide))
    | (intro _ _)
    | (with_reducible apply Moved.ite)
    | split
    | dsimp only)

theorem doneModeCommit_moved (a0 : _) (a1 : _) (s : State) :
    Moved [.hub, .power, .rung, .epoch, .mode, .change, .fences, .auth, .diag, .ledger, .control, .stage, .functions, .fieldIo, .fabric, .nav, .vision, .infer, .buses, .eth, .fleet, .display, .safety, .safetyRecord, .update, .sections] s (doneModeCommit a0 a1 s) := by
  unfold doneModeCommit
  try dsimp only
  repeat' (first
    | (with_reducible apply Moved.refl)
    | (with_reducible assumption)
    | (with_reducible apply Moved.fold)
    | (with_reducible apply Moved.fold_fst)
    | ((with_reducible apply Moved.via); (case k => with_reducible apply State.commitChange_moved); (case sub => decide))
    | (intro _ _)
    | (with_reducible apply Moved.ite)
    | split
    | dsimp only)

theorem doneForcedSafeHold_moved (a0 : _) (a1 : _) (s : State) :
    Moved [.hub, .power, .rung, .epoch, .mode, .change, .fences, .auth, .diag, .ledger, .control, .stage, .functions, .fieldIo, .fabric, .nav, .vision, .infer, .buses, .eth, .fleet, .display, .safety, .safetyRecord, .update, .sections] s (doneForcedSafeHold a0 a1 s) := by
  unfold doneForcedSafeHold
  try dsimp only
  repeat' (first
    | (with_reducible apply Moved.refl)
    | (with_reducible assumption)
    | (with_reducible apply Moved.fold)
    | (with_reducible apply Moved.fold_fst)
    | ((with_reducible apply Moved.via); (case k => with_reducible apply State.commitChange_moved); (case sub => decide))
    | (intro _ _)
    | (with_reducible apply Moved.ite)
    | split
    | dsimp only)

theorem doneAutoLimpEntry_moved (a0 : _) (s : State) :
    Moved [.change] s (doneAutoLimpEntry a0 s) := by
  unfold doneAutoLimpEntry
  try dsimp only
  repeat' (first
    | (with_reducible apply Moved.refl)
    | (with_reducible assumption)
    | (with_reducible apply Moved.fold)
    | (with_reducible apply Moved.fold_fst)
    | ((with_reducible apply Moved.via); (case k => with_reducible apply State.prepare_moved); (case sub => decide))
    | (intro _ _)
    | (with_reducible apply Moved.ite)
    | split
    | dsimp only)

theorem doneAutoSafeHold_moved (a0 : _) (s : State) :
    Moved [.hub, .change, .fences, .diag, .ledger, .fabric, .vision, .buses, .eth, .fleet, .display] s (doneAutoSafeHold a0 s) := by
  unfold doneAutoSafeHold
  try dsimp only
  repeat' (first
    | (with_reducible apply Moved.refl)
    | (with_reducible assumption)
    | (with_reducible apply Moved.fold)
    | (with_reducible apply Moved.fold_fst)
    | ((with_reducible apply Moved.via); (case k => with_reducible apply State.forceHold_moved); (case sub => decide))
    | ((with_reducible apply Moved.via); (case k => (with_reducible apply modMode_moved (qs := [.change])); intro m p hp; cases p <;> first | exact absurd hp (by decide) | exact trivial | rfl | (split <;> rfl) | (unfold ModeState.supLost; split <;> rfl)); (case sub => decide))
    | (intro _ _)
    | (with_reducible apply Moved.ite)
    | split
    | dsimp only)

theorem doneConvergenceDeadline_moved (a0 : _) (a1 : _) (s : State) :
    Moved [.change, .fences] s (doneConvergenceDeadline a0 a1 s) := by
  unfold doneConvergenceDeadline
  try dsimp only
  repeat' (first
    | (with_reducible apply Moved.refl)
    | (with_reducible assumption)
    | (with_reducible apply Moved.fold)
    | (with_reducible apply Moved.fold_fst)
    | ((with_reducible apply Moved.via); (case k => with_reducible apply State.askHold_moved); (case sub => decide))
    | ((with_reducible apply Moved.via); (case k => (with_reducible apply modMode_moved (qs := [.fences])); intro m p hp; cases p <;> first | exact absurd hp (by decide) | exact trivial | rfl | (split <;> rfl) | (unfold ModeState.supLost; split <;> rfl)); (case sub => decide))
    | (intro _ _)
    | (with_reducible apply Moved.ite)
    | split
    | dsimp only)

theorem doneModeQuery_moved (a0 : _) (s : State) :
    Moved [.hub, .diag, .ledger, .fabric] s (doneModeQuery a0 s) := by
  unfold doneModeQuery
  try dsimp only
  repeat' (first
    | (with_reducible apply Moved.refl)
    | (with_reducible assumption)
    | (with_reducible apply Moved.fold)
    | (with_reducible apply Moved.fold_fst)
    | ((with_reducible apply Moved.via); (case k => with_reducible apply answer_moved); (case sub => decide))
    | (intro _ _)
    | (with_reducible apply Moved.ite)
    | split
    | dsimp only)

theorem doneAuthChallenge_moved (a0 : _) (s : State) :
    Moved [.hub, .auth, .diag, .ledger, .fabric, .freeCount] s (doneAuthChallenge a0 s) := by
  unfold doneAuthChallenge
  try dsimp only
  repeat' (first
    | (with_reducible apply Moved.refl)
    | (with_reducible assumption)
    | (with_reducible apply Moved.fold)
    | (with_reducible apply Moved.fold_fst)
    | ((with_reducible apply Moved.via); (case k => with_reducible apply State.setChallenge_moved); (case sub => decide))
    | ((with_reducible apply Moved.via); (case k => with_reducible apply answer_moved); (case sub => decide))
    | ((with_reducible apply Moved.via); (case k => with_reducible apply State.spend_moved); (case sub => decide))
    | (intro _ _)
    | (with_reducible apply Moved.ite)
    | split
    | dsimp only)

theorem doneChallengeExpiry_moved (a0 : _) (a1 : _) (s : State) :
    Moved [.auth] s (doneChallengeExpiry a0 a1 s) := by
  unfold doneChallengeExpiry
  try dsimp only
  repeat' (first
    | (with_reducible apply Moved.refl)
    | (with_reducible assumption)
    | (with_reducible apply Moved.fold)
    | (with_reducible apply Moved.fold_fst)
    | ((with_reducible apply Moved.via); (case k => with_reducible apply State.setChallenge_moved); (case sub => decide))
    | (intro _ _)
    | (with_reducible apply Moved.ite)
    | split
    | dsimp only)

theorem doneAuthLockoutEnd_moved (a0 : _) (a1 : _) (s : State) :
    Moved [.auth] s (doneAuthLockoutEnd a0 a1 s) := by
  unfold doneAuthLockoutEnd
  try dsimp only
  repeat' (first
    | (with_reducible apply Moved.refl)
    | (with_reducible assumption)
    | (with_reducible apply Moved.fold)
    | (with_reducible apply Moved.fold_fst)
    | ((with_reducible apply Moved.via); (case k => (with_reducible apply modMode_moved (qs := [.auth])); intro m p hp; cases p <;> first | exact absurd hp (by decide) | exact trivial | rfl | (split <;> rfl) | (unfold ModeState.supLost; split <;> rfl)); (case sub => decide))
    | (intro _ _)
    | (with_reducible apply Moved.ite)
    | split
    | dsimp only)

theorem doneSelftest_moved (a0 : _) (s : State) :
    Moved [.hub, .power, .change, .fences, .diag, .ledger, .control, .stage, .functions, .fieldIo, .fabric, .nav, .vision, .infer, .buses, .eth, .fleet, .display, .safety, .sections, .deferred] s (doneSelftest a0 s) := by
  unfold doneSelftest
  try dsimp only
  repeat' (first
    | (with_reducible apply Moved.refl)
    | (with_reducible assumption)
    | (with_reducible apply Moved.fold)
    | (with_reducible apply Moved.fold_fst)
    | ((with_reducible apply Moved.via); (case k => with_reducible apply State.fence_moved); (case sub => decide))
    | ((with_reducible apply Moved.via); (case k => with_reducible apply State.endSelfTest_moved); (case sub => decide))
    | ((with_reducible apply Moved.via); (case k => with_reducible apply State.defer_moved); (case sub => decide))
    | ((with_reducible apply Moved.via); (case k => with_reducible apply State.accepted_moved); (case sub => decide))
    | ((with_reducible apply Moved.via); (case k => (with_reducible apply modMode_moved (qs := [.fences])); intro m p hp; cases p <;> first | exact absurd hp (by decide) | exact trivial | rfl | (split <;> rfl) | (unfold ModeState.supLost; split <;> rfl)); (case sub => decide))
    | (intro _ _)
    | (with_reducible apply Moved.ite)
    | split
    | dsimp only)

theorem doneSelftestEnd_moved (a0 : _) (a1 : _) (a2 : _) (a3 : _) (s : State) :
    Moved [.hub, .change, .fences, .diag, .fabric, .vision, .buses, .eth, .fleet, .display] s (doneSelftestEnd a0 a1 a2 a3 s) := by
  unfold doneSelftestEnd
  try dsimp only
  repeat' (first
    | (with_reducible apply Moved.refl)
    | (with_reducible assumption)
    | (with_reducible apply Moved.fold)
    | (with_reducible apply Moved.fold_fst)
    | ((with_reducible apply Moved.via); (case k => with_reducible apply State.endSelfTest_moved); (case sub => decide))
    | (intro _ _)
    | (with_reducible apply Moved.ite)
    | split
    | dsimp only)

theorem doneCounterRead_moved (a0 : _) (s : State) :
    Moved [.hub, .diag, .ledger, .fabric] s (doneCounterRead a0 s) := by
  unfold doneCounterRead
  try dsimp only
  repeat' (first
    | (with_reducible apply Moved.refl)
    | (with_reducible assumption)
    | (with_reducible apply Moved.fold)
    | (with_reducible apply Moved.fold_fst)
    | ((with_reducible apply Moved.via); (case k => with_reducible apply answer_moved); (case sub => decide))
    | (intro _ _)
    | (with_reducible apply Moved.ite)
    | split
    | dsimp only)

theorem doneCounterClear_moved (a0 : _) (s : State) :
    Moved [.hub, .diag, .ledger, .fabric] s (doneCounterClear a0 s) := by
  unfold doneCounterClear
  try dsimp only
  repeat' (first
    | (with_reducible apply Moved.refl)
    | (with_reducible assumption)
    | (with_reducible apply Moved.fold)
    | (with_reducible apply Moved.fold_fst)
    | ((with_reducible apply Moved.via); (case k => with_reducible apply answer_moved); (case sub => decide))
    | ((with_reducible apply Moved.via); (case k => (with_reducible apply modMode_moved (qs := [.diag])); intro m p hp; cases p <;> first | exact absurd hp (by decide) | exact trivial | rfl | (split <;> rfl) | (unfold ModeState.supLost; split <;> rfl)); (case sub => decide))
    | (intro _ _)
    | (with_reducible apply Moved.ite)
    | split
    | dsimp only)

theorem doneThermalRead_moved (a0 : _) (s : State) :
    Moved [.hub, .diag, .ledger, .fabric, .freeCount] s (doneThermalRead a0 s) := by
  unfold doneThermalRead
  try dsimp only
  repeat' (first
    | (with_reducible apply Moved.refl)
    | (with_reducible assumption)
    | (with_reducible apply Moved.fold)
    | (with_reducible apply Moved.fold_fst)
    | ((with_reducible apply Moved.via); (case k => with_reducible apply answer_moved); (case sub => decide))
    | ((with_reducible apply Moved.via); (case k => with_reducible apply State.spend_moved); (case sub => decide))
    | (intro _ _)
    | (with_reducible apply Moved.ite)
    | split
    | dsimp only)

end Sys2Proof.Machine
end

