-- ==== Sys2Proof/Laws/MovedStartOps.lean ====
section
/-! SUPPORT. What each operation of Machine/StartOps.lean may change: nothing but the parts named. -/

namespace Sys2Proof.Machine

set_option maxRecDepth 4000

theorem State.absentStuds_moved (s : State) :
    Moved [.hub, .power, .diag] s (State.absentStuds s) := by
  unfold State.absentStuds
  try dsimp only
  repeat' (first
    | (with_reducible apply Moved.refl)
    | (with_reducible assumption)
    | (with_reducible apply Moved.fold)
    | (with_reducible apply Moved.fold_fst)
    | ((with_reducible apply Moved.via); (case k => (with_reducible apply modPower_moved (qs := [.power])); intro m p hp; cases p <;> first | exact absurd hp (by decide) | exact trivial | rfl | (split <;> rfl) | (unfold ModeState.supLost; split <;> rfl)); (case sub => decide))
    | ((with_reducible apply Moved.via); (case k => with_reducible apply State.raise_moved); (case sub => decide))
    | (intro _ _)
    | (with_reducible apply Moved.ite)
    | split
    | dsimp only)

theorem State.wakeTheta_moved (s : State) :
    Moved [.stage] s (State.wakeTheta s) := by
  unfold State.wakeTheta
  try dsimp only
  repeat' (first
    | (with_reducible apply Moved.refl)
    | (with_reducible assumption)
    | (with_reducible apply Moved.fold)
    | (with_reducible apply Moved.fold_fst)
    | ((with_reducible apply Moved.via); (case k => with_reducible apply State.restoreTheta_moved); (case sub => decide))
    | ((with_reducible apply Moved.via); (case k => with_reducible apply State.modSw_moved); (case sub => decide))
    | (intro _ _)
    | (with_reducible apply Moved.ite)
    | split
    | dsimp only)

theorem State.releaseReset_moved (s : State) :
    Moved [.hub, .power, .rung, .islands, .diag, .stage, .nav] s (State.releaseReset s) := by
  unfold State.releaseReset
  try dsimp only
  repeat' (first
    | (with_reducible apply Moved.refl)
    | (with_reducible assumption)
    | (with_reducible apply Moved.fold)
    | (with_reducible apply Moved.fold_fst)
    | ((with_reducible apply Moved.via); (case k => with_reducible apply State.wakeTheta_moved); (case sub => decide))
    | ((with_reducible apply Moved.via); (case k => with_reducible apply State.absentStuds_moved); (case sub => decide))
    | ((with_reducible apply Moved.via); (case k => with_reducible apply State.timeLost_moved); (case sub => decide))
    | ((with_reducible apply Moved.via); (case k => with_reducible apply State.modIsland_moved); (case sub => decide))
    | ((with_reducible apply Moved.via); (case k => (with_reducible apply modPower_moved (qs := [.power, .rung])); intro m p hp; cases p <;> first | exact absurd hp (by decide) | exact trivial | rfl | (split <;> rfl) | (unfold ModeState.supLost; split <;> rfl)); (case sub => decide))
    | ((with_reducible apply Moved.via); (case k => with_reducible apply State.modHub_moved); (case sub => decide))
    | (intro _ _)
    | (with_reducible apply Moved.ite)
    | split
    | dsimp only)

theorem State.startIslands_moved (s : State) (a1 : _) :
    Moved [.hub, .islands, .diag, .jack, .ledger, .fieldIo, .nav, .buses, .eth, .display, .safety, .update] s (State.startIslands s a1) := by
  induction a1 generalizing s with
  | nil => exact Moved.refl _ _
  | cons i l ih =>
    unfold State.startIslands
    try dsimp only
    repeat' (first
      | (with_reducible apply Moved.refl)
      | (with_reducible assumption)
      | ((with_reducible apply Moved.via); (case k => with_reducible apply ih); (case sub => decide))
      | (with_reducible apply Moved.fold)
      | (with_reducible apply Moved.fold_fst)
      | ((with_reducible apply Moved.via); (case k => with_reducible apply State.releaseIsland_moved); (case sub => decide))
      | ((with_reducible apply Moved.via); (case k => with_reducible apply State.finishActs_moved); (case sub => decide))
      | ((with_reducible apply Moved.via); (case k => with_reducible apply State.loadFailed_moved); (case sub => decide))
      | (intro _ _)
      | (with_reducible apply Moved.ite)
      | split
      | dsimp only)

theorem State.beginStart_moved (s : State) :
    Moved [.hub, .islands, .diag, .jack, .ledger, .stage, .fieldIo, .fabric, .nav, .buses, .eth, .display, .safety, .update] s (State.beginStart s) := by
  unfold State.beginStart
  try dsimp only
  repeat' (first
    | (with_reducible apply Moved.refl)
    | (with_reducible assumption)
    | (with_reducible apply Moved.fold)
    | (with_reducible apply Moved.fold_fst)
    | ((with_reducible apply Moved.via); (case k => with_reducible apply State.tellInterrupted_moved); (case sub => decide))
    | ((with_reducible apply Moved.via); (case k => with_reducible apply State.startIslands_moved); (case sub => decide))
    | ((with_reducible apply Moved.via); (case k => with_reducible apply State.keepBindings_moved); (case sub => decide))
    | ((with_reducible apply Moved.via); (case k => with_reducible apply State.enableLink_moved); (case sub => decide))
    | ((with_reducible apply Moved.via); (case k => with_reducible apply State.bootMaluf_moved); (case sub => decide))
    | ((with_reducible apply Moved.via); (case k => with_reducible apply State.restartImages_moved); (case sub => decide))
    | ((with_reducible apply Moved.via); (case k => with_reducible apply State.modFabric_moved); (case sub => decide))
    | ((with_reducible apply Moved.via); (case k => with_reducible apply State.modHub_moved); (case sub => decide))
    | (intro _ _)
    | (with_reducible apply Moved.ite)
    | split
    | dsimp only)

theorem State.enterRecovery_moved (s : State) :
    Moved [.hub, .mode, .islands] s (State.enterRecovery s) := by
  unfold State.enterRecovery
  try dsimp only
  repeat' (first
    | (with_reducible apply Moved.refl)
    | (with_reducible assumption)
    | (with_reducible apply Moved.fold)
    | (with_reducible apply Moved.fold_fst)
    | ((with_reducible apply Moved.via); (case k => with_reducible apply State.keepBindings_moved); (case sub => decide))
    | ((with_reducible apply Moved.via); (case k => with_reducible apply State.modIsland_moved); (case sub => decide))
    | ((with_reducible apply Moved.via); (case k => with_reducible apply State.modChan_moved); (case sub => decide))
    | ((with_reducible apply Moved.via); (case k => with_reducible apply State.modHub_moved); (case sub => decide))
    | ((with_reducible apply Moved.via); (case k => (with_reducible apply modMode_moved (qs := [.mode])); intro m p hp; cases p <;> first | exact absurd hp (by decide) | exact trivial | rfl | (split <;> rfl) | (unfold ModeState.supLost; split <;> rfl)); (case sub => decide))
    | (intro _ _)
    | (with_reducible apply Moved.ite)
    | split
    | dsimp only)

theorem State.fixStraps_moved (s : State) (a1 : _) (a2 : _) :
    Moved [.hub, .power, .mode, .islands, .diag, .jack, .ledger, .stage, .fieldIo, .fabric, .nav, .buses, .eth, .display, .safety, .update] s (State.fixStraps s a1 a2) := by
  unfold State.fixStraps
  try dsimp only
  repeat' (first
    | (with_reducible apply Moved.refl)
    | (with_reducible assumption)
    | (with_reducible apply Moved.fold)
    | (with_reducible apply Moved.fold_fst)
    | ((with_reducible apply Moved.via); (case k => with_reducible apply State.enterRecovery_moved); (case sub => decide))
    | ((with_reducible apply Moved.via); (case k => with_reducible apply State.beginStart_moved); (case sub => decide))
    | ((with_reducible apply Moved.via); (case k => (with_reducible apply modPower_moved (qs := [.power])); intro m p hp; cases p <;> first | exact absurd hp (by decide) | exact trivial | rfl | (split <;> rfl) | (unfold ModeState.supLost; split <;> rfl)); (case sub => decide))
    | ((with_reducible apply Moved.via); (case k => (with_reducible apply modUpdate_moved); intro _; first | exact FusesMoved.same rfl rfl | exact FusesMoved.revoke rfl rfl); (case sub => decide))
    | ((with_reducible apply Moved.via); (case k => with_reducible apply State.modChan_moved); (case sub => decide))
    | ((with_reducible apply Moved.via); (case k => with_reducible apply State.modHub_moved); (case sub => decide))
    | (intro _ _)
    | (with_reducible apply Moved.ite)
    | split
    | dsimp only)

theorem State.farReady_moved (s : State) :
    Moved [.hub, .islands, .diag, .jack, .ledger, .fieldIo, .place, .nav, .buses, .eth, .display, .safety, .update, .freeCount] s (State.farReady s) := by
  unfold State.farReady
  try dsimp only
  repeat' (first
    | (with_reducible apply Moved.refl)
    | (with_reducible assumption)
    | (with_reducible apply Moved.fold)
    | (with_reducible apply Moved.fold_fst)
    | ((with_reducible apply Moved.via); (case k => with_reducible apply State.startIslands_moved); (case sub => decide))
    | ((with_reducible apply Moved.via); (case k => with_reducible apply State.enableChannel0_moved); (case sub => decide))
    | ((with_reducible apply Moved.via); (case k => with_reducible apply State.createBootView_moved); (case sub => decide))
    | ((with_reducible apply Moved.via); (case k => (with_reducible apply modPlace_moved); intro _; first | exact PlaceStep.same rfl rfl | exact ⟨Nat.le_succ _, fun h => h⟩ | exact ⟨Nat.le_refl _, fun h => h.sub (List.filter_sublist ..)⟩ | (refine ⟨Nat.le_refl _, fun h => ?_⟩; refine h.mapAll ?_ (by dsimp only); intro _ _ h; first | exact h | (split <;> exact h) | (unfold Placement.window; exact h))); (case sub => decide))
    | ((with_reducible apply Moved.via); (case k => with_reducible apply State.modHub_moved); (case sub => decide))
    | (intro _ _)
    | (with_reducible apply Moved.ite)
    | split
    | dsimp only)

theorem State.tellPowerFails_moved (s : State) :
    Moved [.hub, .diag, .ledger] s (State.tellPowerFails s) := by
  unfold State.tellPowerFails
  try dsimp only
  repeat' (first
    | (with_reducible apply Moved.refl)
    | (with_reducible assumption)
    | (with_reducible apply Moved.fold)
    | (with_reducible apply Moved.fold_fst)
    | ((with_reducible apply Moved.via); (case k => with_reducible apply State.setRecord_moved); (case sub => decide))
    | ((with_reducible apply Moved.via); (case k => with_reducible apply State.raise_moved); (case sub => decide))
    | (intro _ _)
    | (with_reducible apply Moved.ite)
    | split
    | dsimp only)

theorem State.tellStartOutputs_moved (s : State) :
    Moved [.hub, .diag] s (State.tellStartOutputs s) := by
  unfold State.tellStartOutputs
  try dsimp only
  repeat' (first
    | (with_reducible apply Moved.refl)
    | (with_reducible assumption)
    | (with_reducible apply Moved.fold)
    | (with_reducible apply Moved.fold_fst)
    | ((with_reducible apply Moved.via); (case k => with_reducible apply State.tellOutputs_moved); (case sub => decide))
    | ((with_reducible apply Moved.via); (case k => with_reducible apply State.raiseHeld_moved); (case sub => decide))
    | (intro _ _)
    | (with_reducible apply Moved.ite)
    | split
    | dsimp only)

theorem State.commitBoot_moved (s : State) :
    Moved [.hub, .power, .rung, .epoch, .mode, .change, .auth, .diag, .ledger, .control, .stage, .functions, .fieldIo, .place, .nav, .display, .safety, .safetyRecord, .update, .sections] s (State.commitBoot s) := by
  unfold State.commitBoot
  try dsimp only
  repeat' (first
    | (with_reducible apply Moved.refl)
    | (with_reducible assumption)
    | (with_reducible apply Moved.fold)
    | (with_reducible apply Moved.fold_fst)
    | ((with_reducible apply Moved.via); (case k => with_reducible apply State.tellStartOutputs_moved); (case sub => decide))
    | ((with_reducible apply Moved.via); (case k => with_reducible apply State.tellPowerFails_moved); (case sub => decide))
    | ((with_reducible apply Moved.via); (case k => with_reducible apply State.enterMode_moved); (case sub => decide))
    | ((with_reducible apply Moved.via); (case k => with_reducible apply State.startReplay_moved); (case sub => decide))
    | ((with_reducible apply Moved.via); (case k => with_reducible apply State.restartHeld_moved); (case sub => decide))
    | ((with_reducible apply Moved.via); (case k => with_reducible apply State.finishAct_moved); (case sub => decide))
    | ((with_reducible apply Moved.via); (case k => with_reducible apply State.newRecord_moved); (case sub => decide))
    | ((with_reducible apply Moved.via); (case k => (with_reducible apply modPlace_moved); intro _; first | exact PlaceStep.same rfl rfl | exact ⟨Nat.le_succ _, fun h => h⟩ | exact ⟨Nat.le_refl _, fun h => h.sub (List.filter_sublist ..)⟩ | (refine ⟨Nat.le_refl _, fun h => ?_⟩; refine h.mapAll ?_ (by dsimp only); intro _ _ h; first | exact h | (split <;> exact h) | (unfold Placement.window; exact h))); (case sub => decide))
    | ((with_reducible apply Moved.via); (case k => with_reducible apply State.raise_moved); (case sub => decide))
    | ((with_reducible apply Moved.via); (case k => with_reducible apply State.modHub_moved); (case sub => decide))
    | ((with_reducible apply Moved.via); (case k => (with_reducible apply modMode_moved (qs := [.mode, .change])); intro m p hp; cases p <;> first | exact absurd hp (by decide) | exact trivial | rfl | (split <;> rfl) | (unfold ModeState.supLost; split <;> rfl)); (case sub => decide))
    | (intro _ _)
    | (with_reducible apply Moved.ite)
    | split
    | dsimp only)

theorem State.tellThrottle_moved (s : State) (a1 : _) (a2 : _) :
    Moved [.hub, .power, .diag] s (State.tellThrottle s a1 a2) := by
  unfold State.tellThrottle
  try dsimp only
  repeat' (first
    | (with_reducible apply Moved.refl)
    | (with_reducible assumption)
    | (with_reducible apply Moved.fold)
    | (with_reducible apply Moved.fold_fst)
    | ((with_reducible apply Moved.via); (case k => (with_reducible apply modPower_moved (qs := [.power])); intro m p hp; cases p <;> first | exact absurd hp (by decide) | exact trivial | rfl | (split <;> rfl) | (unfold ModeState.supLost; split <;> rfl)); (case sub => decide))
    | ((with_reducible apply Moved.via); (case k => with_reducible apply State.raise_moved); (case sub => decide))
    | (intro _ _)
    | (with_reducible apply Moved.ite)
    | split
    | dsimp only)

theorem State.budgetStep_moved (s : State) :
    Moved [.power, .freeCount] s (State.budgetStep s) := by
  unfold State.budgetStep
  try dsimp only
  repeat' (first
    | (with_reducible apply Moved.refl)
    | (with_reducible assumption)
    | (with_reducible apply Moved.fold)
    | (with_reducible apply Moved.fold_fst)
    | ((with_reducible apply Moved.via); (case k => with_reducible apply State.free_moved); (case sub => decide))
    | ((with_reducible apply Moved.via); (case k => (with_reducible apply modPower_moved (qs := [.power])); intro m p hp; cases p <;> first | exact absurd hp (by decide) | exact trivial | rfl | (split <;> rfl) | (unfold ModeState.supLost; split <;> rfl)); (case sub => decide))
    | (intro _ _)
    | (with_reducible apply Moved.ite)
    | split
    | (refine Moved.snd (by assumption) ?_)
    | dsimp only)

end Sys2Proof.Machine
end

