-- ==== Sys2Proof/Laws/MovedExecPower.lean ====
section
/-! SUPPORT. What each operation of Machine/ExecPower.lean may change: nothing but the parts named. -/

namespace Sys2Proof.Machine

set_option maxRecDepth 4000

theorem State.studs_moved (s : State) (a1 : _) (a2 : _) :
    Moved [.power] s (State.studs s a1 a2) := by
  unfold State.studs
  try dsimp only
  repeat' (first
    | (with_reducible apply Moved.refl)
    | (with_reducible assumption)
    | (with_reducible apply Moved.fold)
    | (with_reducible apply Moved.fold_fst)
    | ((with_reducible apply Moved.via); (case k => (with_reducible apply modPower_moved (qs := [.power])); intro m p hp; cases p <;> first | exact absurd hp (by decide) | exact trivial | rfl | (split <;> rfl) | (unfold ModeState.supLost; split <;> rfl)); (case sub => decide))
    | (intro _ _)
    | (with_reducible apply Moved.ite)
    | split
    | dsimp only)

theorem donePowerOnStart_moved (a0 : _) (a1 : _) (a2 : _) (s : State) :
    Moved [.hub, .power, .rung, .islands, .diag, .stage, .nav] s (donePowerOnStart a0 a1 a2 s) := by
  unfold donePowerOnStart
  try dsimp only
  repeat' (first
    | (with_reducible apply Moved.refl)
    | (with_reducible assumption)
    | (with_reducible apply Moved.fold)
    | (with_reducible apply Moved.fold_fst)
    | ((with_reducible apply Moved.via); (case k => with_reducible apply State.releaseReset_moved); (case sub => decide))
    | ((with_reducible apply Moved.via); (case k => with_reducible apply State.studs_moved); (case sub => decide))
    | ((with_reducible apply Moved.via); (case k => (with_reducible apply modPower_moved (qs := [.power])); intro m p hp; cases p <;> first | exact absurd hp (by decide) | exact trivial | rfl | (split <;> rfl) | (unfold ModeState.supLost; split <;> rfl)); (case sub => decide))
    | (intro _ _)
    | (with_reducible apply Moved.ite)
    | split
    | dsimp only)

theorem doneResetNAssert_moved (a0 : _) (a1 : _) (s : State) :
    Moved [.hub, .power, .rung, .mode, .change, .fences, .islands, .auth, .diag, .jack, .ledger, .control, .stage, .functions, .fieldIo, .place, .fabric, .nav, .vision, .infer, .buses, .eth, .fleet, .display, .safety, .update, .sections, .freeCount, .deferred] s (doneResetNAssert a0 a1 s) := by
  unfold doneResetNAssert
  try dsimp only
  repeat' (first
    | (with_reducible apply Moved.refl)
    | (with_reducible assumption)
    | (with_reducible apply Moved.fold)
    | (with_reducible apply Moved.fold_fst)
    | ((with_reducible apply Moved.via); (case k => with_reducible apply State.moduleReset_moved); (case sub => decide))
    | ((with_reducible apply Moved.via); (case k => with_reducible apply State.free_moved); (case sub => decide))
    | ((with_reducible apply Moved.via); (case k => (with_reducible apply modPower_moved (qs := [.power])); intro m p hp; cases p <;> first | exact absurd hp (by decide) | exact trivial | rfl | (split <;> rfl) | (unfold ModeState.supLost; split <;> rfl)); (case sub => decide))
    | (intro _ _)
    | (with_reducible apply Moved.ite)
    | split
    | (refine Moved.snd (by assumption) ?_)
    | dsimp only)

theorem doneResetNRelease_moved (a0 : _) (s : State) :
    Moved [.hub, .power, .rung, .islands, .diag, .stage, .nav] s (doneResetNRelease a0 s) := by
  unfold doneResetNRelease
  try dsimp only
  repeat' (first
    | (with_reducible apply Moved.refl)
    | (with_reducible assumption)
    | (with_reducible apply Moved.fold)
    | (with_reducible apply Moved.fold_fst)
    | ((with_reducible apply Moved.via); (case k => with_reducible apply State.releaseReset_moved); (case sub => decide))
    | ((with_reducible apply Moved.via); (case k => (with_reducible apply modPower_moved (qs := [.power])); intro m p hp; cases p <;> first | exact absurd hp (by decide) | exact trivial | rfl | (split <;> rfl) | (unfold ModeState.supLost; split <;> rfl)); (case sub => decide))
    | (intro _ _)
    | (with_reducible apply Moved.ite)
    | split
    | dsimp only)

theorem doneStrapSamplingDone_moved (a0 : _) (a1 : _) (a2 : _) (s : State) :
    Moved [.hub, .power, .mode, .islands, .diag, .jack, .ledger, .stage, .fieldIo, .fabric, .nav, .buses, .eth, .display, .safety, .update] s (doneStrapSamplingDone a0 a1 a2 s) := by
  unfold doneStrapSamplingDone
  try dsimp only
  repeat' (first
    | (with_reducible apply Moved.refl)
    | (with_reducible assumption)
    | (with_reducible apply Moved.fold)
    | (with_reducible apply Moved.fold_fst)
    | ((with_reducible apply Moved.via); (case k => with_reducible apply State.fixStraps_moved); (case sub => decide))
    | (intro _ _)
    | (with_reducible apply Moved.ite)
    | split
    | dsimp only)

theorem doneFarTrained_moved (a0 : _) (s : State) :
    Moved [.hub, .islands, .diag, .jack, .ledger, .fieldIo, .place, .nav, .buses, .eth, .display, .safety, .update, .freeCount] s (doneFarTrained a0 s) := by
  unfold doneFarTrained
  try dsimp only
  repeat' (first
    | (with_reducible apply Moved.refl)
    | (with_reducible assumption)
    | (with_reducible apply Moved.fold)
    | (with_reducible apply Moved.fold_fst)
    | ((with_reducible apply Moved.via); (case k => with_reducible apply State.farReady_moved); (case sub => decide))
    | (intro _ _)
    | (with_reducible apply Moved.ite)
    | split
    | dsimp only)

theorem State.tellHoldup_moved (s : State) (a1 : _) (a2 : _) :
    Moved [.hub, .power, .diag] s (State.tellHoldup s a1 a2) := by
  unfold State.tellHoldup
  try dsimp only
  repeat' (first
    | (with_reducible apply Moved.refl)
    | (with_reducible assumption)
    | (with_reducible apply Moved.fold)
    | (with_reducible apply Moved.fold_fst)
    | ((with_reducible apply Moved.via); (case k => (with_reducible apply modPower_moved (qs := [.power])); intro m p hp; cases p <;> first | exact absurd hp (by decide) | exact trivial | rfl | (split <;> rfl) | (unfold ModeState.supLost; split <;> rfl)); (case sub => decide))
    | ((with_reducible apply Moved.via); (case k => with_reducible apply State.raise_moved); (case sub => decide))
    | (intro _ _)
    | (with_reducible apply Moved.ite)
    | split
    | dsimp only)

theorem doneHoldupWaitEnd_moved (a0 : _) (a1 : _) (s : State) :
    Moved [.hub, .power, .diag, .ledger, .stage, .fieldIo, .sections] s (doneHoldupWaitEnd a0 a1 s) := by
  unfold doneHoldupWaitEnd
  try dsimp only
  repeat' (first
    | (with_reducible apply Moved.refl)
    | (with_reducible assumption)
    | (with_reducible apply Moved.fold)
    | (with_reducible apply Moved.fold_fst)
    | ((with_reducible apply Moved.via); (case k => with_reducible apply State.releaseDeferred_moved); (case sub => decide))
    | ((with_reducible apply Moved.via); (case k => with_reducible apply State.foRelease_moved); (case sub => decide))
    | ((with_reducible apply Moved.via); (case k => with_reducible apply State.tellHoldup_moved); (case sub => decide))
    | ((with_reducible apply Moved.via); (case k => (with_reducible apply modPower_moved (qs := [.power])); intro m p hp; cases p <;> first | exact absurd hp (by decide) | exact trivial | rfl | (split <;> rfl) | (unfold ModeState.supLost; split <;> rfl)); (case sub => decide))
    | (intro _ _)
    | (with_reducible apply Moved.ite)
    | split
    | dsimp only)

theorem doneHoldupTest_moved (a0 : _) (a1 : _) (s : State) :
    Moved [.hub, .power, .diag] s (doneHoldupTest a0 a1 s) := by
  unfold doneHoldupTest
  try dsimp only
  repeat' (first
    | (with_reducible apply Moved.refl)
    | (with_reducible assumption)
    | (with_reducible apply Moved.fold)
    | (with_reducible apply Moved.fold_fst)
    | ((with_reducible apply Moved.via); (case k => with_reducible apply State.tellHoldup_moved); (case sub => decide))
    | ((with_reducible apply Moved.via); (case k => (with_reducible apply modPower_moved (qs := [.power])); intro m p hp; cases p <;> first | exact absurd hp (by decide) | exact trivial | rfl | (split <;> rfl) | (unfold ModeState.supLost; split <;> rfl)); (case sub => decide))
    | (intro _ _)
    | (with_reducible apply Moved.ite)
    | split
    | dsimp only)

theorem doneBootCommit_moved (a0 : _) (s : State) :
    Moved [.hub, .power, .rung, .epoch, .mode, .change, .auth, .diag, .ledger, .control, .stage, .functions, .fieldIo, .place, .nav, .display, .safety, .safetyRecord, .update, .sections] s (doneBootCommit a0 s) := by
  unfold doneBootCommit
  try dsimp only
  repeat' (first
    | (with_reducible apply Moved.refl)
    | (with_reducible assumption)
    | (with_reducible apply Moved.fold)
    | (with_reducible apply Moved.fold_fst)
    | ((with_reducible apply Moved.via); (case k => with_reducible apply State.commitBoot_moved); (case sub => decide))
    | (intro _ _)
    | (with_reducible apply Moved.ite)
    | split
    | dsimp only)

theorem doneCrankHoldEntry_moved (a0 : _) (a1 : _) (a2 : _) (s : State) :
    Moved [.hub, .power, .diag] s (doneCrankHoldEntry a0 a1 a2 s) := by
  unfold doneCrankHoldEntry
  try dsimp only
  repeat' (first
    | (with_reducible apply Moved.refl)
    | (with_reducible assumption)
    | (with_reducible apply Moved.fold)
    | (with_reducible apply Moved.fold_fst)
    | ((with_reducible apply Moved.via); (case k => with_reducible apply State.studs_moved); (case sub => decide))
    | ((with_reducible apply Moved.via); (case k => (with_reducible apply modPower_moved (qs := [.power])); intro m p hp; cases p <;> first | exact absurd hp (by decide) | exact trivial | rfl | (split <;> rfl) | (unfold ModeState.supLost; split <;> rfl)); (case sub => decide))
    | ((with_reducible apply Moved.via); (case k => with_reducible apply State.raise_moved); (case sub => decide))
    | (intro _ _)
    | (with_reducible apply Moved.ite)
    | split
    | dsimp only)

theorem doneCrankHoldExit_moved (a0 : _) (a1 : _) (a2 : _) (a3 : _) (a4 : _) (s : State) :
    Moved [.hub, .power, .diag, .ledger, .stage, .fieldIo, .sections] s (doneCrankHoldExit a0 a1 a2 a3 a4 s) := by
  unfold doneCrankHoldExit
  try dsimp only
  repeat' (first
    | (with_reducible apply Moved.refl)
    | (with_reducible assumption)
    | (with_reducible apply Moved.fold)
    | (with_reducible apply Moved.fold_fst)
    | ((with_reducible apply Moved.via); (case k => with_reducible apply State.tellThrottle_moved); (case sub => decide))
    | ((with_reducible apply Moved.via); (case k => with_reducible apply State.releaseDeferred_moved); (case sub => decide))
    | ((with_reducible apply Moved.via); (case k => with_reducible apply State.foRelease_moved); (case sub => decide))
    | ((with_reducible apply Moved.via); (case k => with_reducible apply State.studs_moved); (case sub => decide))
    | ((with_reducible apply Moved.via); (case k => with_reducible apply State.restartWatches_moved); (case sub => decide))
    | ((with_reducible apply Moved.via); (case k => (with_reducible apply modPower_moved (qs := [.power])); intro m p hp; cases p <;> first | exact absurd hp (by decide) | exact trivial | rfl | (split <;> rfl) | (unfold ModeState.supLost; split <;> rfl)); (case sub => decide))
    | ((with_reducible apply Moved.via); (case k => with_reducible apply State.raise_moved); (case sub => decide))
    | (intro _ _)
    | (with_reducible apply Moved.ite)
    | split
    | dsimp only)

theorem doneCrankLowTimerReset_moved (a0 : _) (s : State) :
    Moved [.power] s (doneCrankLowTimerReset a0 s) := by
  unfold doneCrankLowTimerReset
  try dsimp only
  repeat' (first
    | (with_reducible apply Moved.refl)
    | (with_reducible assumption)
    | (with_reducible apply Moved.fold)
    | (with_reducible apply Moved.fold_fst)
    | ((with_reducible apply Moved.via); (case k => (with_reducible apply modPower_moved (qs := [.power])); intro m p hp; cases p <;> first | exact absurd hp (by decide) | exact trivial | rfl | (split <;> rfl) | (unfold ModeState.supLost; split <;> rfl)); (case sub => decide))
    | (intro _ _)
    | (with_reducible apply Moved.ite)
    | split
    | dsimp only)

theorem doneCrankLowTimeout_moved (a0 : _) (a1 : _) (a2 : _) (a3 : _) (s : State) :
    Moved [.hub, .power, .rung, .mode, .change, .fences, .islands, .auth, .diag, .jack, .ledger, .control, .stage, .functions, .fieldIo, .place, .fabric, .nav, .vision, .infer, .buses, .eth, .fleet, .display, .safety, .update, .sections, .freeCount, .deferred] s (doneCrankLowTimeout a0 a1 a2 a3 s) := by
  unfold doneCrankLowTimeout
  try dsimp only
  repeat' (first
    | (with_reducible apply Moved.refl)
    | (with_reducible assumption)
    | (with_reducible apply Moved.fold)
    | (with_reducible apply Moved.fold_fst)
    | ((with_reducible apply Moved.via); (case k => with_reducible apply State.powerFail_moved); (case sub => decide))
    | ((with_reducible apply Moved.via); (case k => with_reducible apply State.studs_moved); (case sub => decide))
    | (intro _ _)
    | (with_reducible apply Moved.ite)
    | split
    | dsimp only)

theorem doneSupplyBelow3v_moved (a0 : _) (a1 : _) (a2 : _) (s : State) :
    Moved [.hub, .power, .rung, .mode, .change, .fences, .islands, .auth, .diag, .jack, .ledger, .control, .stage, .functions, .fieldIo, .place, .fabric, .nav, .vision, .infer, .buses, .eth, .fleet, .display, .safety, .update, .sections, .freeCount, .deferred] s (doneSupplyBelow3v a0 a1 a2 s) := by
  unfold doneSupplyBelow3v
  try dsimp only
  repeat' (first
    | (with_reducible apply Moved.refl)
    | (with_reducible assumption)
    | (with_reducible apply Moved.fold)
    | (with_reducible apply Moved.fold_fst)
    | ((with_reducible apply Moved.via); (case k => with_reducible apply State.powerFail_moved); (case sub => decide))
    | ((with_reducible apply Moved.via); (case k => with_reducible apply State.studs_moved); (case sub => decide))
    | ((with_reducible apply Moved.via); (case k => (with_reducible apply modPower_moved (qs := [.power])); intro m p hp; cases p <;> first | exact absurd hp (by decide) | exact trivial | rfl | (split <;> rfl) | (unfold ModeState.supLost; split <;> rfl)); (case sub => decide))
    | (intro _ _)
    | (with_reducible apply Moved.ite)
    | split
    | dsimp only)

theorem doneAonBackupTimeout_moved (a0 : _) (s : State) :
    Moved [.hub, .power, .rung, .mode, .change, .fences, .islands, .auth, .diag, .jack, .ledger, .control, .stage, .functions, .fieldIo, .place, .fabric, .nav, .vision, .infer, .buses, .eth, .fleet, .display, .safety, .update, .sections, .freeCount, .deferred] s (doneAonBackupTimeout a0 s) := by
  unfold doneAonBackupTimeout
  try dsimp only
  repeat' (first
    | (with_reducible apply Moved.refl)
    | (with_reducible assumption)
    | (with_reducible apply Moved.fold)
    | (with_reducible apply Moved.fold_fst)
    | ((with_reducible apply Moved.via); (case k => with_reducible apply State.forgetAll_moved); (case sub => decide))
    | ((with_reducible apply Moved.via); (case k => (with_reducible apply modPower_moved (qs := [.power])); intro m p hp; cases p <;> first | exact absurd hp (by decide) | exact trivial | rfl | (split <;> rfl) | (unfold ModeState.supLost; split <;> rfl)); (case sub => decide))
    | (intro _ _)
    | (with_reducible apply Moved.ite)
    | split
    | dsimp only)

theorem State.stud_moved (s : State) (a1 : _) (a2 : _) :
    Moved [.power] s (State.stud s a1 a2) := by
  unfold State.stud
  try dsimp only
  repeat' (first
    | (with_reducible apply Moved.refl)
    | (with_reducible assumption)
    | (with_reducible apply Moved.fold)
    | (with_reducible apply Moved.fold_fst)
    | ((with_reducible apply Moved.via); (case k => (with_reducible apply modPower_moved (qs := [.power])); intro m p hp; cases p <;> first | exact absurd hp (by decide) | exact trivial | rfl | (split <;> rfl) | (unfold ModeState.supLost; split <;> rfl)); (case sub => decide))
    | (intro _ _)
    | (with_reducible apply Moved.ite)
    | split
    | dsimp only)

theorem State.markCut_moved (s : State) (a1 : _) (a2 : _) :
    Moved [.power] s (State.markCut s a1 a2) := by
  unfold State.markCut
  try dsimp only
  repeat' (first
    | (with_reducible apply Moved.refl)
    | (with_reducible assumption)
    | (with_reducible apply Moved.fold)
    | (with_reducible apply Moved.fold_fst)
    | ((with_reducible apply Moved.via); (case k => (with_reducible apply modPower_moved (qs := [.power])); intro m p hp; cases p <;> first | exact absurd hp (by decide) | exact trivial | rfl | (split <;> rfl) | (unfold ModeState.supLost; split <;> rfl)); (case sub => decide))
    | (intro _ _)
    | (with_reducible apply Moved.ite)
    | split
    | dsimp only)

theorem State.markLost_moved (s : State) (a1 : _) (a2 : _) :
    Moved [.power] s (State.markLost s a1 a2) := by
  unfold State.markLost
  try dsimp only
  repeat' (first
    | (with_reducible apply Moved.refl)
    | (with_reducible assumption)
    | (with_reducible apply Moved.fold)
    | (with_reducible apply Moved.fold_fst)
    | ((with_reducible apply Moved.via); (case k => (with_reducible apply modPower_moved (qs := [.power])); intro m p hp; cases p <;> first | exact absurd hp (by decide) | exact trivial | rfl | (split <;> rfl) | (unfold ModeState.supLost; split <;> rfl)); (case sub => decide))
    | (intro _ _)
    | (with_reducible apply Moved.ite)
    | split
    | dsimp only)

theorem doneOvervoltageCut_moved (a0 : _) (a1 : _) (a2 : _) (s : State) :
    Moved [.hub, .power, .diag, .ledger, .stage, .sections] s (doneOvervoltageCut a0 a1 a2 s) := by
  unfold doneOvervoltageCut
  try dsimp only
  repeat' (first
    | (with_reducible apply Moved.refl)
    | (with_reducible assumption)
    | (with_reducible apply Moved.fold)
    | (with_reducible apply Moved.fold_fst)
    | ((with_reducible apply Moved.via); (case k => with_reducible apply State.supplyGone_moved); (case sub => decide))
    | ((with_reducible apply Moved.via); (case k => with_reducible apply State.markCut_moved); (case sub => decide))
    | ((with_reducible apply Moved.via); (case k => with_reducible apply State.stud_moved); (case sub => decide))
    | ((with_reducible apply Moved.via); (case k => with_reducible apply State.raise_moved); (case sub => decide))
    | (intro _ _)
    | (with_reducible apply Moved.ite)
    | split
    | dsimp only)

theorem doneOvervoltageRestore_moved (a0 : _) (a1 : _) (a2 : _) (s : State) :
    Moved [.hub, .power, .diag, .ledger, .stage, .sections] s (doneOvervoltageRestore a0 a1 a2 s) := by
  unfold doneOvervoltageRestore
  try dsimp only
  repeat' (first
    | (with_reducible apply Moved.refl)
    | (with_reducible assumption)
    | (with_reducible apply Moved.fold)
    | (with_reducible apply Moved.fold_fst)
    | ((with_reducible apply Moved.via); (case k => with_reducible apply State.supplyBack_moved); (case sub => decide))
    | ((with_reducible apply Moved.via); (case k => with_reducible apply State.markCut_moved); (case sub => decide))
    | ((with_reducible apply Moved.via); (case k => with_reducible apply State.stud_moved); (case sub => decide))
    | ((with_reducible apply Moved.via); (case k => with_reducible apply State.raise_moved); (case sub => decide))
    | (intro _ _)
    | (with_reducible apply Moved.ite)
    | split
    | dsimp only)

theorem doneStudLost_moved (a0 : _) (a1 : _) (a2 : _) (s : State) :
    Moved [.hub, .power, .diag, .ledger, .stage, .sections] s (doneStudLost a0 a1 a2 s) := by
  unfold doneStudLost
  try dsimp only
  repeat' (first
    | (with_reducible apply Moved.refl)
    | (with_reducible assumption)
    | (with_reducible apply Moved.fold)
    | (with_reducible apply Moved.fold_fst)
    | ((with_reducible apply Moved.via); (case k => with_reducible apply State.supplyGone_moved); (case sub => decide))
    | ((with_reducible apply Moved.via); (case k => with_reducible apply State.markLost_moved); (case sub => decide))
    | ((with_reducible apply Moved.via); (case k => with_reducible apply State.stud_moved); (case sub => decide))
    | ((with_reducible apply Moved.via); (case k => with_reducible apply State.raise_moved); (case sub => decide))
    | (intro _ _)
    | (with_reducible apply Moved.ite)
    | split
    | dsimp only)

theorem doneStudReturned_moved (a0 : _) (a1 : _) (a2 : _) (s : State) :
    Moved [.hub, .power, .diag, .ledger, .stage, .sections] s (doneStudReturned a0 a1 a2 s) := by
  unfold doneStudReturned
  try dsimp only
  repeat' (first
    | (with_reducible apply Moved.refl)
    | (with_reducible assumption)
    | (with_reducible apply Moved.fold)
    | (with_reducible apply Moved.fold_fst)
    | ((with_reducible apply Moved.via); (case k => with_reducible apply State.supplyBack_moved); (case sub => decide))
    | ((with_reducible apply Moved.via); (case k => with_reducible apply State.markLost_moved); (case sub => decide))
    | ((with_reducible apply Moved.via); (case k => with_reducible apply State.stud_moved); (case sub => decide))
    | ((with_reducible apply Moved.via); (case k => (with_reducible apply modPower_moved (qs := [.power])); intro m p hp; cases p <;> first | exact absurd hp (by decide) | exact trivial | rfl | (split <;> rfl) | (unfold ModeState.supLost; split <;> rfl)); (case sub => decide))
    | ((with_reducible apply Moved.via); (case k => with_reducible apply State.raise_moved); (case sub => decide))
    | (intro _ _)
    | (with_reducible apply Moved.ite)
    | split
    | dsimp only)

theorem doneReverseBattery_moved (a0 : _) (a1 : _) (a2 : _) (s : State) :
    Moved [.hub, .power, .rung, .mode, .change, .fences, .islands, .auth, .diag, .jack, .ledger, .control, .stage, .functions, .fieldIo, .place, .fabric, .nav, .vision, .infer, .buses, .eth, .fleet, .display, .safety, .update, .sections, .freeCount, .deferred] s (doneReverseBattery a0 a1 a2 s) := by
  unfold doneReverseBattery
  try dsimp only
  repeat' (first
    | (with_reducible apply Moved.refl)
    | (with_reducible assumption)
    | (with_reducible apply Moved.fold)
    | (with_reducible apply Moved.fold_fst)
    | ((with_reducible apply Moved.via); (case k => with_reducible apply State.powerFail_moved); (case sub => decide))
    | ((with_reducible apply Moved.via); (case k => with_reducible apply State.studs_moved); (case sub => decide))
    | ((with_reducible apply Moved.via); (case k => (with_reducible apply modPower_moved (qs := [.power])); intro m p hp; cases p <;> first | exact absurd hp (by decide) | exact trivial | rfl | (split <;> rfl) | (unfold ModeState.supLost; split <;> rfl)); (case sub => decide))
    | (intro _ _)
    | (with_reducible apply Moved.ite)
    | split
    | dsimp only)

theorem doneThermalDerateCheck_moved (a0 : _) (a1 : _) (s : State) :
    Moved [.hub, .power, .diag] s (doneThermalDerateCheck a0 a1 s) := by
  unfold doneThermalDerateCheck
  try dsimp only
  repeat' (first
    | (with_reducible apply Moved.refl)
    | (with_reducible assumption)
    | (with_reducible apply Moved.fold)
    | (with_reducible apply Moved.fold_fst)
    | ((with_reducible apply Moved.via); (case k => with_reducible apply State.tellThrottle_moved); (case sub => decide))
    | ((with_reducible apply Moved.via); (case k => (with_reducible apply modPower_moved (qs := [.power])); intro m p hp; cases p <;> first | exact absurd hp (by decide) | exact trivial | rfl | (split <;> rfl) | (unfold ModeState.supLost; split <;> rfl)); (case sub => decide))
    | (intro _ _)
    | (with_reducible apply Moved.ite)
    | split
    | dsimp only)

theorem donePowerBudgetExceeded_moved (a0 : _) (a1 : _) (s : State) :
    Moved [.hub, .power, .diag, .freeCount] s (donePowerBudgetExceeded a0 a1 s) := by
  unfold donePowerBudgetExceeded
  try dsimp only
  repeat' (first
    | (with_reducible apply Moved.refl)
    | (with_reducible assumption)
    | (with_reducible apply Moved.fold)
    | (with_reducible apply Moved.fold_fst)
    | ((with_reducible apply Moved.via); (case k => with_reducible apply State.budgetStep_moved); (case sub => decide))
    | ((with_reducible apply Moved.via); (case k => with_reducible apply State.tellThrottle_moved); (case sub => decide))
    | ((with_reducible apply Moved.via); (case k => (with_reducible apply modPower_moved (qs := [.power])); intro m p hp; cases p <;> first | exact absurd hp (by decide) | exact trivial | rfl | (split <;> rfl) | (unfold ModeState.supLost; split <;> rfl)); (case sub => decide))
    | (intro _ _)
    | (with_reducible apply Moved.ite)
    | split
    | dsimp only)

theorem doneRungRequest_moved (a0 : _) (s : State) :
    Moved [.hub, .rung, .diag, .ledger, .fabric, .deferred] s (doneRungRequest a0 s) := by
  unfold doneRungRequest
  try dsimp only
  repeat' (first
    | (with_reducible apply Moved.refl)
    | (with_reducible assumption)
    | (with_reducible apply Moved.fold)
    | (with_reducible apply Moved.fold_fst)
    | ((with_reducible apply Moved.via); (case k => with_reducible apply State.rungRefused_moved); (case sub => decide))
    | ((with_reducible apply Moved.via); (case k => (with_reducible apply modPower_moved (qs := [.rung])); intro m p hp; cases p <;> first | exact absurd hp (by decide) | exact trivial | rfl | (split <;> rfl) | (unfold ModeState.supLost; split <;> rfl)); (case sub => decide))
    | ((with_reducible apply Moved.via); (case k => with_reducible apply State.defer_moved); (case sub => decide))
    | ((with_reducible apply Moved.via); (case k => with_reducible apply State.accepted_moved); (case sub => decide))
    | (intro _ _)
    | (with_reducible apply Moved.ite)
    | split
    | dsimp only)

theorem State.holdsChanged_moved (s : State) (s' : State) :
    Moved [.power, .rung] s (State.holdsChanged s s') := by
  unfold State.holdsChanged
  try dsimp only
  repeat' (first
    | (with_reducible apply Moved.refl)
    | (with_reducible assumption)
    | (with_reducible apply Moved.fold)
    | (with_reducible apply Moved.fold_fst)
    | ((with_reducible apply Moved.via); (case k => with_reducible apply State.countDescent_moved); (case sub => decide))
    | ((with_reducible apply Moved.via); (case k => (with_reducible apply modPower_moved (qs := [.rung])); intro m p hp; cases p <;> first | exact absurd hp (by decide) | exact trivial | rfl | (split <;> rfl) | (unfold ModeState.supLost; split <;> rfl)); (case sub => decide))
    | (intro _ _)
    | (with_reducible apply Moved.ite)
    | split
    | dsimp only)

theorem doneKeepAwake_moved (a0 : _) (s : State) :
    Moved [.hub, .power, .rung, .diag, .ledger, .fabric] s (doneKeepAwake a0 s) := by
  unfold doneKeepAwake
  try dsimp only
  repeat' (first
    | (with_reducible apply Moved.refl)
    | (with_reducible assumption)
    | (with_reducible apply Moved.fold)
    | (with_reducible apply Moved.fold_fst)
    | ((with_reducible apply Moved.via); (case k => with_reducible apply State.holdsChanged_moved); (case sub => decide))
    | ((with_reducible apply Moved.via); (case k => with_reducible apply answer_moved); (case sub => decide))
    | ((with_reducible apply Moved.via); (case k => with_reducible apply State.modChan_moved); (case sub => decide))
    | (intro _ _)
    | (with_reducible apply Moved.ite)
    | split
    | dsimp only)

theorem doneKeepAwakeExpiry_moved (a0 : _) (a1 : _) (s : State) :
    Moved [.hub, .power] s (doneKeepAwakeExpiry a0 a1 s) := by
  unfold doneKeepAwakeExpiry
  try dsimp only
  repeat' (first
    | (with_reducible apply Moved.refl)
    | (with_reducible assumption)
    | (with_reducible apply Moved.fold)
    | (with_reducible apply Moved.fold_fst)
    | ((with_reducible apply Moved.via); (case k => with_reducible apply State.countDescent_moved); (case sub => decide))
    | ((with_reducible apply Moved.via); (case k => with_reducible apply State.modChan_moved); (case sub => decide))
    | (intro _ _)
    | (with_reducible apply Moved.ite)
    | split
    | dsimp only)

theorem doneWakeConfig_moved (a0 : _) (s : State) :
    Moved [.hub, .power, .diag, .ledger, .fabric] s (doneWakeConfig a0 s) := by
  unfold doneWakeConfig
  try dsimp only
  repeat' (first
    | (with_reducible apply Moved.refl)
    | (with_reducible assumption)
    | (with_reducible apply Moved.fold)
    | (with_reducible apply Moved.fold_fst)
    | ((with_reducible apply Moved.via); (case k => (with_reducible apply modPower_moved (qs := [.power])); intro m p hp; cases p <;> first | exact absurd hp (by decide) | exact trivial | rfl | (split <;> rfl) | (unfold ModeState.supLost; split <;> rfl)); (case sub => decide))
    | ((with_reducible apply Moved.via); (case k => with_reducible apply answer_moved); (case sub => decide))
    | (intro _ _)
    | (with_reducible apply Moved.ite)
    | split
    | dsimp only)

theorem doneCanWakeFilter_moved (a0 : _) (s : State) :
    Moved [.hub, .power, .diag, .ledger, .fabric] s (doneCanWakeFilter a0 s) := by
  unfold doneCanWakeFilter
  try dsimp only
  repeat' (first
    | (with_reducible apply Moved.refl)
    | (with_reducible assumption)
    | (with_reducible apply Moved.fold)
    | (with_reducible apply Moved.fold_fst)
    | ((with_reducible apply Moved.via); (case k => (with_reducible apply modPower_moved (qs := [.power])); intro m p hp; cases p <;> first | exact absurd hp (by decide) | exact trivial | rfl | (split <;> rfl) | (unfold ModeState.supLost; split <;> rfl)); (case sub => decide))
    | ((with_reducible apply Moved.via); (case k => with_reducible apply answer_moved); (case sub => decide))
    | (intro _ _)
    | (with_reducible apply Moved.ite)
    | split
    | dsimp only)

theorem doneDescentSet_moved (a0 : _) (s : State) :
    Moved [.hub, .power, .diag, .ledger, .fabric] s (doneDescentSet a0 s) := by
  unfold doneDescentSet
  try dsimp only
  repeat' (first
    | (with_reducible apply Moved.refl)
    | (with_reducible assumption)
    | (with_reducible apply Moved.fold)
    | (with_reducible apply Moved.fold_fst)
    | ((with_reducible apply Moved.via); (case k => (with_reducible apply modPower_moved (qs := [.power])); intro m p hp; cases p <;> first | exact absurd hp (by decide) | exact trivial | rfl | (split <;> rfl) | (unfold ModeState.supLost; split <;> rfl)); (case sub => decide))
    | ((with_reducible apply Moved.via); (case k => with_reducible apply answer_moved); (case sub => decide))
    | (intro _ _)
    | (with_reducible apply Moved.ite)
    | split
    | dsimp only)

theorem donePowerStatus_moved (a0 : _) (s : State) :
    Moved [.hub, .diag, .ledger, .fabric] s (donePowerStatus a0 s) := by
  unfold donePowerStatus
  try dsimp only
  repeat' (first
    | (with_reducible apply Moved.refl)
    | (with_reducible assumption)
    | (with_reducible apply Moved.fold)
    | (with_reducible apply Moved.fold_fst)
    | ((with_reducible apply Moved.via); (case k => with_reducible apply answer_moved); (case sub => decide))
    | (intro _ _)
    | (with_reducible apply Moved.ite)
    | split
    | dsimp only)

theorem doneRungConditionCheck_moved (a0 : _) (s : State) :
    Moved [.hub, .power, .rung, .change, .fences, .islands, .diag, .jack, .ledger, .control, .stage, .functions, .fieldIo, .place, .fabric, .nav, .vision, .infer, .buses, .eth, .fleet, .display, .safety, .sections, .freeCount] s (doneRungConditionCheck a0 s) := by
  unfold doneRungConditionCheck
  try dsimp only
  repeat' (first
    | (with_reducible apply Moved.refl)
    | (with_reducible assumption)
    | (with_reducible apply Moved.fold)
    | (with_reducible apply Moved.fold_fst)
    | ((with_reducible apply Moved.via); (case k => with_reducible apply State.enterRung_moved); (case sub => decide))
    | ((with_reducible apply Moved.via); (case k => with_reducible apply State.rungWake_moved); (case sub => decide))
    | ((with_reducible apply Moved.via); (case k => (with_reducible apply modPower_moved (qs := [.rung])); intro m p hp; cases p <;> first | exact absurd hp (by decide) | exact trivial | rfl | (split <;> rfl) | (unfold ModeState.supLost; split <;> rfl)); (case sub => decide))
    | ((with_reducible apply Moved.via); (case k => with_reducible apply State.modHub_moved); (case sub => decide))
    | (intro _ _)
    | (with_reducible apply Moved.ite)
    | split
    | dsimp only)

theorem doneRungWaitTimeout_moved (a0 : _) (s : State) :
    Moved [.hub, .rung, .diag] s (doneRungWaitTimeout a0 s) := by
  unfold doneRungWaitTimeout
  try dsimp only
  repeat' (first
    | (with_reducible apply Moved.refl)
    | (with_reducible assumption)
    | (with_reducible apply Moved.fold)
    | (with_reducible apply Moved.fold_fst)
    | ((with_reducible apply Moved.via); (case k => with_reducible apply State.rungRefused_moved); (case sub => decide))
    | ((with_reducible apply Moved.via); (case k => (with_reducible apply modPower_moved (qs := [.rung])); intro m p hp; cases p <;> first | exact absurd hp (by decide) | exact trivial | rfl | (split <;> rfl) | (unfold ModeState.supLost; split <;> rfl)); (case sub => decide))
    | (intro _ _)
    | (with_reducible apply Moved.ite)
    | split
    | dsimp only)

theorem doneAutoDescentExpiry_moved (a0 : _) (a1 : _) (s : State) :
    Moved [.rung] s (doneAutoDescentExpiry a0 a1 s) := by
  unfold doneAutoDescentExpiry
  try dsimp only
  repeat' (first
    | (with_reducible apply Moved.refl)
    | (with_reducible assumption)
    | (with_reducible apply Moved.fold)
    | (with_reducible apply Moved.fold_fst)
    | ((with_reducible apply Moved.via); (case k => (with_reducible apply modPower_moved (qs := [.rung])); intro m p hp; cases p <;> first | exact absurd hp (by decide) | exact trivial | rfl | (split <;> rfl) | (unfold ModeState.supLost; split <;> rfl)); (case sub => decide))
    | (intro _ _)
    | (with_reducible apply Moved.ite)
    | split
    | dsimp only)

theorem doneIgnRise_moved (a0 : _) (s : State) :
    Moved [.hub, .power, .rung, .islands, .diag, .jack, .ledger, .control, .stage, .place, .fabric, .nav, .buses, .eth, .freeCount] s (doneIgnRise a0 s) := by
  unfold doneIgnRise
  try dsimp only
  repeat' (first
    | (with_reducible apply Moved.refl)
    | (with_reducible assumption)
    | (with_reducible apply Moved.fold)
    | (with_reducible apply Moved.fold_fst)
    | ((with_reducible apply Moved.via); (case k => with_reducible apply State.rungWake_moved); (case sub => decide))
    | ((with_reducible apply Moved.via); (case k => (with_reducible apply modPower_moved (qs := [.power, .rung])); intro m p hp; cases p <;> first | exact absurd hp (by decide) | exact trivial | rfl | (split <;> rfl) | (unfold ModeState.supLost; split <;> rfl)); (case sub => decide))
    | (intro _ _)
    | (with_reducible apply Moved.ite)
    | split
    | dsimp only)

theorem doneIgnFall_moved (a0 : _) (s : State) :
    Moved [.power] s (doneIgnFall a0 s) := by
  unfold doneIgnFall
  try dsimp only
  repeat' (first
    | (with_reducible apply Moved.refl)
    | (with_reducible assumption)
    | (with_reducible apply Moved.fold)
    | (with_reducible apply Moved.fold_fst)
    | ((with_reducible apply Moved.via); (case k => with_reducible apply State.countDescent_moved); (case sub => decide))
    | ((with_reducible apply Moved.via); (case k => (with_reducible apply modPower_moved (qs := [.power])); intro m p hp; cases p <;> first | exact absurd hp (by decide) | exact trivial | rfl | (split <;> rfl) | (unfold ModeState.supLost; split <;> rfl)); (case sub => decide))
    | (intro _ _)
    | (with_reducible apply Moved.ite)
    | split
    | dsimp only)

theorem doneWakeInEdge_moved (a0 : _) (a1 : _) (s : State) :
    Moved [.hub, .power, .rung, .islands, .diag, .jack, .ledger, .control, .stage, .place, .fabric, .nav, .buses, .eth, .freeCount] s (doneWakeInEdge a0 a1 s) := by
  unfold doneWakeInEdge
  try dsimp only
  repeat' (first
    | (with_reducible apply Moved.refl)
    | (with_reducible assumption)
    | (with_reducible apply Moved.fold)
    | (with_reducible apply Moved.fold_fst)
    | ((with_reducible apply Moved.via); (case k => with_reducible apply State.rungWake_moved); (case sub => decide))
    | ((with_reducible apply Moved.via); (case k => (with_reducible apply modPower_moved (qs := [.power])); intro m p hp; cases p <;> first | exact absurd hp (by decide) | exact trivial | rfl | (split <;> rfl) | (unfold ModeState.supLost; split <;> rfl)); (case sub => decide))
    | (intro _ _)
    | (with_reducible apply Moved.ite)
    | split
    | dsimp only)

theorem doneCanWakePattern_moved (a0 : _) (a1 : _) (s : State) :
    Moved [.hub, .power, .rung, .islands, .diag, .jack, .ledger, .control, .stage, .place, .fabric, .nav, .buses, .eth, .freeCount] s (doneCanWakePattern a0 a1 s) := by
  unfold doneCanWakePattern
  try dsimp only
  repeat' (first
    | (with_reducible apply Moved.refl)
    | (with_reducible assumption)
    | (with_reducible apply Moved.fold)
    | (with_reducible apply Moved.fold_fst)
    | ((with_reducible apply Moved.via); (case k => with_reducible apply State.rungWake_moved); (case sub => decide))
    | (intro _ _)
    | (with_reducible apply Moved.ite)
    | split
    | dsimp only)

theorem doneCanSelectiveWake_moved (a0 : _) (a1 : _) (a2 : _) (a3 : _) (a4 : _) (s : State) :
    Moved [.hub, .power, .rung, .islands, .diag, .jack, .ledger, .control, .stage, .place, .fabric, .nav, .buses, .eth, .freeCount] s (doneCanSelectiveWake a0 a1 a2 a3 a4 s) := by
  unfold doneCanSelectiveWake
  try dsimp only
  repeat' (first
    | (with_reducible apply Moved.refl)
    | (with_reducible assumption)
    | (with_reducible apply Moved.fold)
    | (with_reducible apply Moved.fold_fst)
    | ((with_reducible apply Moved.via); (case k => with_reducible apply State.rungWake_moved); (case sub => decide))
    | (intro _ _)
    | (with_reducible apply Moved.ite)
    | split
    | dsimp only)

theorem doneTc10Wake_moved (a0 : _) (a1 : _) (s : State) :
    Moved [.hub, .power, .rung, .islands, .diag, .jack, .ledger, .control, .stage, .place, .fabric, .nav, .buses, .eth, .freeCount] s (doneTc10Wake a0 a1 s) := by
  unfold doneTc10Wake
  try dsimp only
  repeat' (first
    | (with_reducible apply Moved.refl)
    | (with_reducible assumption)
    | (with_reducible apply Moved.fold)
    | (with_reducible apply Moved.fold_fst)
    | ((with_reducible apply Moved.via); (case k => with_reducible apply State.rungWake_moved); (case sub => decide))
    | (intro _ _)
    | (with_reducible apply Moved.ite)
    | split
    | dsimp only)

theorem doneRtcAlarm_moved (a0 : _) (s : State) :
    Moved [.hub, .power, .rung, .islands, .diag, .jack, .ledger, .control, .stage, .place, .fabric, .nav, .buses, .eth, .freeCount] s (doneRtcAlarm a0 s) := by
  unfold doneRtcAlarm
  try dsimp only
  repeat' (first
    | (with_reducible apply Moved.refl)
    | (with_reducible assumption)
    | (with_reducible apply Moved.fold)
    | (with_reducible apply Moved.fold_fst)
    | ((with_reducible apply Moved.via); (case k => with_reducible apply State.rungWake_moved); (case sub => decide))
    | (intro _ _)
    | (with_reducible apply Moved.ite)
    | split
    | dsimp only)

theorem doneUsbVbusRise_moved (a0 : _) (s : State) :
    Moved [.hub, .power, .rung, .islands, .diag, .jack, .ledger, .control, .stage, .place, .fabric, .nav, .buses, .eth, .freeCount] s (doneUsbVbusRise a0 s) := by
  unfold doneUsbVbusRise
  try dsimp only
  repeat' (first
    | (with_reducible apply Moved.refl)
    | (with_reducible assumption)
    | (with_reducible apply Moved.fold)
    | (with_reducible apply Moved.fold_fst)
    | ((with_reducible apply Moved.via); (case k => with_reducible apply State.rungWake_moved); (case sub => decide))
    | ((with_reducible apply Moved.via); (case k => (with_reducible apply modPower_moved (qs := [.power])); intro m p hp; cases p <;> first | exact absurd hp (by decide) | exact trivial | rfl | (split <;> rfl) | (unfold ModeState.supLost; split <;> rfl)); (case sub => decide))
    | (intro _ _)
    | (with_reducible apply Moved.ite)
    | split
    | dsimp only)

theorem doneUsbVbusFall_moved (a0 : _) (s : State) :
    Moved [.hub, .power, .update] s (doneUsbVbusFall a0 s) := by
  unfold doneUsbVbusFall
  try dsimp only
  repeat' (first
    | (with_reducible apply Moved.refl)
    | (with_reducible assumption)
    | (with_reducible apply Moved.fold)
    | (with_reducible apply Moved.fold_fst)
    | ((with_reducible apply Moved.via); (case k => (with_reducible apply modPower_moved (qs := [.power])); intro m p hp; cases p <;> first | exact absurd hp (by decide) | exact trivial | rfl | (split <;> rfl) | (unfold ModeState.supLost; split <;> rfl)); (case sub => decide))
    | ((with_reducible apply Moved.via); (case k => (with_reducible apply modUpdate_moved); intro _; first | exact FusesMoved.same rfl rfl | exact FusesMoved.revoke rfl rfl); (case sub => decide))
    | ((with_reducible apply Moved.via); (case k => with_reducible apply State.resetChannel_moved); (case sub => decide))
    | (intro _ _)
    | (with_reducible apply Moved.ite)
    | split
    | dsimp only)

end Sys2Proof.Machine
end

