-- ==== Sys2Proof/Laws/MovedExecSystem.lean ====
section
/-! SUPPORT. What each operation of Machine/ExecSystem.lean may change: nothing but the parts named. -/

namespace Sys2Proof.Machine

set_option maxRecDepth 4000

theorem doneIdentify_moved (a0 : _) (s : State) :
    Moved [.hub, .diag, .ledger, .fabric] s (doneIdentify a0 s) := by
  unfold doneIdentify
  try dsimp only
  repeat' (first
    | (with_reducible apply Moved.refl)
    | (with_reducible assumption)
    | (with_reducible apply Moved.fold)
    | (with_reducible apply Moved.fold_fst)
    | ((with_reducible apply Moved.via); (case k => with_reducible apply answer_moved); (case sub => decide))
    | (intro _ _)
    | (with_reducible apply Moved.ite)
    | split
    | dsimp only)

theorem doneInventory_moved (a0 : _) (s : State) :
    Moved [.hub, .diag, .ledger, .fabric] s (doneInventory a0 s) := by
  unfold doneInventory
  try dsimp only
  repeat' (first
    | (with_reducible apply Moved.refl)
    | (with_reducible assumption)
    | (with_reducible apply Moved.fold)
    | (with_reducible apply Moved.fold_fst)
    | ((with_reducible apply Moved.via); (case k => with_reducible apply answer_moved); (case sub => decide))
    | (intro _ _)
    | (with_reducible apply Moved.ite)
    | split
    | dsimp only)

theorem doneTimeRead_moved (a0 : _) (s : State) :
    Moved [.hub, .diag, .ledger, .fabric, .freeCount] s (doneTimeRead a0 s) := by
  unfold doneTimeRead
  try dsimp only
  repeat' (first
    | (with_reducible apply Moved.refl)
    | (with_reducible assumption)
    | (with_reducible apply Moved.fold)
    | (with_reducible apply Moved.fold_fst)
    | ((with_reducible apply Moved.via); (case k => with_reducible apply State.free_moved); (case sub => decide))
    | ((with_reducible apply Moved.via); (case k => with_reducible apply answer_moved); (case sub => decide))
    | (intro _ _)
    | (with_reducible apply Moved.ite)
    | split
    | (refine Moved.snd (by assumption) ?_)
    | dsimp only)

theorem State.bind_moved (s : State) (a1 : _) (a2 : _) :
    Moved [.hub] s (State.bind s a1 a2) := by
  unfold State.bind
  try dsimp only
  repeat' (first
    | (with_reducible apply Moved.refl)
    | (with_reducible assumption)
    | (with_reducible apply Moved.fold)
    | (with_reducible apply Moved.fold_fst)
    | ((with_reducible apply Moved.via); (case k => with_reducible apply State.resetChannel_moved); (case sub => decide))
    | ((with_reducible apply Moved.via); (case k => with_reducible apply State.modChan_moved); (case sub => decide))
    | ((with_reducible apply Moved.via); (case k => with_reducible apply State.modHub_moved); (case sub => decide))
    | (intro _ _)
    | (with_reducible apply Moved.ite)
    | split
    | dsimp only)

theorem doneChannelBind_moved (a0 : _) (s : State) :
    Moved [.hub, .diag, .ledger, .fabric] s (doneChannelBind a0 s) := by
  unfold doneChannelBind
  try dsimp only
  repeat' (first
    | (with_reducible apply Moved.refl)
    | (with_reducible assumption)
    | (with_reducible apply Moved.fold)
    | (with_reducible apply Moved.fold_fst)
    | ((with_reducible apply Moved.via); (case k => with_reducible apply State.bind_moved); (case sub => decide))
    | ((with_reducible apply Moved.via); (case k => with_reducible apply State.keepBindings_moved); (case sub => decide))
    | ((with_reducible apply Moved.via); (case k => with_reducible apply State.answered_moved); (case sub => decide))
    | (intro _ _)
    | (with_reducible apply Moved.ite)
    | split
    | dsimp only)

theorem doneSubscribe_moved (a0 : _) (s : State) :
    Moved [.hub, .diag, .ledger, .fabric] s (doneSubscribe a0 s) := by
  unfold doneSubscribe
  try dsimp only
  repeat' (first
    | (with_reducible apply Moved.refl)
    | (with_reducible assumption)
    | (with_reducible apply Moved.fold)
    | (with_reducible apply Moved.fold_fst)
    | ((with_reducible apply Moved.via); (case k => with_reducible apply State.keepBindings_moved); (case sub => decide))
    | ((with_reducible apply Moved.via); (case k => with_reducible apply answer_moved); (case sub => decide))
    | ((with_reducible apply Moved.via); (case k => with_reducible apply State.modChan_moved); (case sub => decide))
    | (intro _ _)
    | (with_reducible apply Moved.ite)
    | split
    | dsimp only)

theorem State.setView_moved (s : State) (a1 : _) :
    Moved [.hub, .diag, .ledger] s (State.setView s a1) := by
  unfold State.setView
  try dsimp only
  repeat' (first
    | (with_reducible apply Moved.refl)
    | (with_reducible assumption)
    | (with_reducible apply Moved.fold)
    | (with_reducible apply Moved.fold_fst)
    | ((with_reducible apply Moved.via); (case k => with_reducible apply State.bind_moved); (case sub => decide))
    | ((with_reducible apply Moved.via); (case k => with_reducible apply State.keepBindings_moved); (case sub => decide))
    | ((with_reducible apply Moved.via); (case k => with_reducible apply State.enableChannel_moved); (case sub => decide))
    | ((with_reducible apply Moved.via); (case k => with_reducible apply State.modHub_moved); (case sub => decide))
    | (intro _ _)
    | (with_reducible apply Moved.ite)
    | split
    | dsimp only)

theorem doneCompatView_moved (a0 : _) (s : State) :
    Moved [.hub, .diag, .ledger, .fabric] s (doneCompatView a0 s) := by
  unfold doneCompatView
  try dsimp only
  repeat' (first
    | (with_reducible apply Moved.refl)
    | (with_reducible assumption)
    | (with_reducible apply Moved.fold)
    | (with_reducible apply Moved.fold_fst)
    | ((with_reducible apply Moved.via); (case k => with_reducible apply State.setView_moved); (case sub => decide))
    | ((with_reducible apply Moved.via); (case k => with_reducible apply answer_moved); (case sub => decide))
    | (intro _ _)
    | (with_reducible apply Moved.ite)
    | split
    | dsimp only)

theorem doneWatchdogSet_moved (a0 : _) (s : State) :
    Moved [.hub, .diag, .jack, .ledger, .fabric] s (doneWatchdogSet a0 s) := by
  unfold doneWatchdogSet
  try dsimp only
  repeat' (first
    | (with_reducible apply Moved.refl)
    | (with_reducible assumption)
    | (with_reducible apply Moved.fold)
    | (with_reducible apply Moved.fold_fst)
    | ((with_reducible apply Moved.via); (case k => with_reducible apply answer_moved); (case sub => decide))
    | ((with_reducible apply Moved.via); (case k => (with_reducible apply modMode_moved (qs := [.jack])); intro m p hp; cases p <;> first | exact absurd hp (by decide) | exact trivial | rfl | (split <;> rfl) | (unfold ModeState.supLost; split <;> rfl)); (case sub => decide))
    | (intro _ _)
    | (with_reducible apply Moved.ite)
    | split
    | dsimp only)

theorem doneHostWatch_moved (a0 : _) (s : State) :
    Moved [.hub, .diag, .ledger, .fabric] s (doneHostWatch a0 s) := by
  unfold doneHostWatch
  try dsimp only
  repeat' (first
    | (with_reducible apply Moved.refl)
    | (with_reducible assumption)
    | (with_reducible apply Moved.fold)
    | (with_reducible apply Moved.fold_fst)
    | ((with_reducible apply Moved.via); (case k => with_reducible apply answer_moved); (case sub => decide))
    | ((with_reducible apply Moved.via); (case k => with_reducible apply State.modChan_moved); (case sub => decide))
    | (intro _ _)
    | (with_reducible apply Moved.ite)
    | split
    | dsimp only)

theorem doneHostBeat_moved (a0 : _) (s : State) :
    Moved [.hub, .diag, .ledger, .fabric] s (doneHostBeat a0 s) := by
  unfold doneHostBeat
  try dsimp only
  repeat' (first
    | (with_reducible apply Moved.refl)
    | (with_reducible assumption)
    | (with_reducible apply Moved.fold)
    | (with_reducible apply Moved.fold_fst)
    | ((with_reducible apply Moved.via); (case k => with_reducible apply answer_moved); (case sub => decide))
    | (intro _ _)
    | (with_reducible apply Moved.ite)
    | split
    | dsimp only)

theorem doneHostWatchExpiry_moved (a0 : _) (a1 : _) (s : State) :
    Moved [.hub, .change, .diag] s (doneHostWatchExpiry a0 a1 s) := by
  unfold doneHostWatchExpiry
  try dsimp only
  repeat' (first
    | (with_reducible apply Moved.refl)
    | (with_reducible assumption)
    | (with_reducible apply Moved.fold)
    | (with_reducible apply Moved.fold_fst)
    | ((with_reducible apply Moved.via); (case k => with_reducible apply State.askHold_moved); (case sub => decide))
    | ((with_reducible apply Moved.via); (case k => with_reducible apply State.modChan_moved); (case sub => decide))
    | ((with_reducible apply Moved.via); (case k => with_reducible apply State.raise_moved); (case sub => decide))
    | (intro _ _)
    | (with_reducible apply Moved.ite)
    | split
    | dsimp only)

theorem doneModuleSupervisorBeat_moved (a0 : _) (s : State) :
    Moved [.jack] s (doneModuleSupervisorBeat a0 s) := by
  unfold doneModuleSupervisorBeat
  try dsimp only
  repeat' (first
    | (with_reducible apply Moved.refl)
    | (with_reducible assumption)
    | (with_reducible apply Moved.fold)
    | (with_reducible apply Moved.fold_fst)
    | ((with_reducible apply Moved.via); (case k => (with_reducible apply modMode_moved (qs := [.jack])); intro m p hp; cases p <;> first | exact absurd hp (by decide) | exact trivial | rfl | (split <;> rfl) | (unfold ModeState.supLost; split <;> rfl)); (case sub => decide))
    | (intro _ _)
    | (with_reducible apply Moved.ite)
    | split
    | dsimp only)

theorem doneJackInTheBoxExpiry_moved (a0 : _) (s : State) :
    Moved [.hub, .power, .diag, .jack, .ledger, .control, .stage, .fieldIo, .sections] s (doneJackInTheBoxExpiry a0 s) := by
  unfold doneJackInTheBoxExpiry
  try dsimp only
  repeat' (first
    | (with_reducible apply Moved.refl)
    | (with_reducible assumption)
    | (with_reducible apply Moved.fold)
    | (with_reducible apply Moved.fold_fst)
    | ((with_reducible apply Moved.via); (case k => with_reducible apply State.applySafeAll_moved); (case sub => decide))
    | ((with_reducible apply Moved.via); (case k => with_reducible apply State.foAllOff_moved); (case sub => decide))
    | ((with_reducible apply Moved.via); (case k => with_reducible apply State.raise_moved); (case sub => decide))
    | ((with_reducible apply Moved.via); (case k => (with_reducible apply modMode_moved (qs := [.jack])); intro m p hp; cases p <;> first | exact absurd hp (by decide) | exact trivial | rfl | (split <;> rfl) | (unfold ModeState.supLost; split <;> rfl)); (case sub => decide))
    | (intro _ _)
    | (with_reducible apply Moved.ite)
    | split
    | dsimp only)

theorem doneSupWatchdogExpiry_moved (a0 : _) (s : State) :
    Moved [.hub, .power, .rung, .mode, .change, .fences, .islands, .auth, .diag, .jack, .ledger, .control, .stage, .functions, .fieldIo, .place, .fabric, .nav, .vision, .infer, .buses, .eth, .fleet, .display, .safety, .update, .sections, .freeCount, .deferred] s (doneSupWatchdogExpiry a0 s) := by
  unfold doneSupWatchdogExpiry
  try dsimp only
  repeat' (first
    | (with_reducible apply Moved.refl)
    | (with_reducible assumption)
    | (with_reducible apply Moved.fold)
    | (with_reducible apply Moved.fold_fst)
    | ((with_reducible apply Moved.via); (case k => with_reducible apply State.islandReset_moved); (case sub => decide))
    | (intro _ _)
    | (with_reducible apply Moved.ite)
    | split
    | dsimp only)

theorem doneUnitHeartbeatLoss_moved (a0 : _) (a1 : _) (s : State) :
    Moved [.hub, .power, .change, .fences, .diag, .ledger, .control, .stage, .functions, .fieldIo, .fabric, .nav, .vision, .infer, .buses, .eth, .display, .safety, .sections] s (doneUnitHeartbeatLoss a0 a1 s) := by
  unfold doneUnitHeartbeatLoss
  try dsimp only
  repeat' (first
    | (with_reducible apply Moved.refl)
    | (with_reducible assumption)
    | (with_reducible apply Moved.fold)
    | (with_reducible apply Moved.fold_fst)
    | ((with_reducible apply Moved.via); (case k => with_reducible apply State.resetInVote_moved); (case sub => decide))
    | ((with_reducible apply Moved.via); (case k => with_reducible apply State.fence_moved); (case sub => decide))
    | (intro _ _)
    | (with_reducible apply Moved.ite)
    | split
    | dsimp only)

theorem doneIslandReportTimeout_moved (a0 : _) (a1 : _) (s : State) :
    Moved [.hub, .power, .rung, .mode, .change, .fences, .islands, .auth, .diag, .jack, .ledger, .control, .stage, .functions, .fieldIo, .place, .fabric, .nav, .vision, .infer, .buses, .eth, .fleet, .display, .safety, .update, .sections, .freeCount, .deferred] s (doneIslandReportTimeout a0 a1 s) := by
  unfold doneIslandReportTimeout
  try dsimp only
  repeat' (first
    | (with_reducible apply Moved.refl)
    | (with_reducible assumption)
    | (with_reducible apply Moved.fold)
    | (with_reducible apply Moved.fold_fst)
    | ((with_reducible apply Moved.via); (case k => with_reducible apply State.islandReset_moved); (case sub => decide))
    | (intro _ _)
    | (with_reducible apply Moved.ite)
    | split
    | dsimp only)

theorem doneIslandReset_moved (a0 : _) (a1 : _) (s : State) :
    Moved [.hub, .power, .rung, .mode, .change, .fences, .islands, .auth, .diag, .jack, .ledger, .control, .stage, .functions, .fieldIo, .place, .fabric, .nav, .vision, .infer, .buses, .eth, .fleet, .display, .safety, .update, .sections, .freeCount, .deferred] s (doneIslandReset a0 a1 s) := by
  unfold doneIslandReset
  try dsimp only
  repeat' (first
    | (with_reducible apply Moved.refl)
    | (with_reducible assumption)
    | (with_reducible apply Moved.fold)
    | (with_reducible apply Moved.fold_fst)
    | ((with_reducible apply Moved.via); (case k => with_reducible apply State.islandReset_moved); (case sub => decide))
    | (intro _ _)
    | (with_reducible apply Moved.ite)
    | split
    | dsimp only)

theorem State.rejoin_moved (s : State) (a1 : _) (a2 : _) :
    Moved [.hub, .change, .fences, .islands, .diag, .jack, .ledger, .fieldIo, .fabric, .nav, .vision, .buses, .eth, .fleet, .display, .safety, .update] s (State.rejoin s a1 a2) := by
  unfold State.rejoin
  try dsimp only
  repeat' (first
    | (with_reducible apply Moved.refl)
    | (with_reducible assumption)
    | (with_reducible apply Moved.fold)
    | (with_reducible apply Moved.fold_fst)
    | ((with_reducible apply Moved.via); (case k => with_reducible apply State.releaseIsland_moved); (case sub => decide))
    | ((with_reducible apply Moved.via); (case k => with_reducible apply State.finishActs_moved); (case sub => decide))
    | ((with_reducible apply Moved.via); (case k => with_reducible apply State.loadFailed_moved); (case sub => decide))
    | ((with_reducible apply Moved.via); (case k => with_reducible apply State.unfence_moved); (case sub => decide))
    | (intro _ _)
    | (with_reducible apply Moved.ite)
    | split
    | dsimp only)

theorem doneUnitRejoin_moved (a0 : _) (a1 : _) (s : State) :
    Moved [.hub, .change, .fences, .islands, .diag, .jack, .ledger, .fieldIo, .fabric, .nav, .vision, .buses, .eth, .fleet, .display, .safety, .update] s (doneUnitRejoin a0 a1 s) := by
  unfold doneUnitRejoin
  try dsimp only
  repeat' (first
    | (with_reducible apply Moved.refl)
    | (with_reducible assumption)
    | (with_reducible apply Moved.fold)
    | (with_reducible apply Moved.fold_fst)
    | ((with_reducible apply Moved.via); (case k => with_reducible apply State.rejoin_moved); (case sub => decide))
    | (intro _ _)
    | (with_reducible apply Moved.ite)
    | split
    | dsimp only)

theorem doneFencedUnitTimeout_moved (a0 : _) (a1 : _) (s : State) :
    Moved [.fences] s (doneFencedUnitTimeout a0 a1 s) := by
  unfold doneFencedUnitTimeout
  try dsimp only
  repeat' (first
    | (with_reducible apply Moved.refl)
    | (with_reducible assumption)
    | (with_reducible apply Moved.fold)
    | (with_reducible apply Moved.fold_fst)
    | ((with_reducible apply Moved.via); (case k => (with_reducible apply modMode_moved (qs := [.fences])); intro m p hp; cases p <;> first | exact absurd hp (by decide) | exact trivial | rfl | (split <;> rfl) | (unfold ModeState.supLost; split <;> rfl)); (case sub => decide))
    | (intro _ _)
    | (with_reducible apply Moved.ite)
    | split
    | dsimp only)

end Sys2Proof.Machine
end

