-- ==== Sys2Proof/Laws/MovedExecUpdate.lean ====
section
/-! SUPPORT. What each operation of Machine/ExecUpdate.lean may change: nothing but the parts named. -/

namespace Sys2Proof.Machine

set_option maxRecDepth 4000

theorem State.restartNow_moved (s : State) (a1 : _) :
    Moved [.hub, .power, .rung, .mode, .change, .fences, .islands, .auth, .diag, .jack, .ledger, .control, .stage, .functions, .fieldIo, .place, .fabric, .nav, .vision, .infer, .buses, .eth, .fleet, .display, .safety, .update, .sections, .freeCount, .deferred] s (State.restartNow s a1) := by
  unfold State.restartNow
  try dsimp only
  repeat' (first
    | (with_reducible apply Moved.refl)
    | (with_reducible assumption)
    | (with_reducible apply Moved.fold)
    | (with_reducible apply Moved.fold_fst)
    | ((with_reducible apply Moved.via); (case k => with_reducible apply State.islandReset_moved); (case sub => decide))
    | ((with_reducible apply Moved.via); (case k => with_reducible apply State.restartImage_moved); (case sub => decide))
    | ((with_reducible apply Moved.via); (case k => with_reducible apply State.moduleReset_moved); (case sub => decide))
    | (intro _ _)
    | (with_reducible apply Moved.ite)
    | split
    | dsimp only)

theorem State.revertImage_moved (s : State) (a1 : _) (a2 : _) (a3 : _) :
    Moved [.hub, .power, .rung, .mode, .change, .fences, .islands, .auth, .diag, .jack, .ledger, .control, .stage, .functions, .fieldIo, .place, .fabric, .nav, .vision, .infer, .buses, .eth, .fleet, .display, .safety, .update, .sections, .freeCount, .deferred] s (State.revertImage s a1 a2 a3) := by
  unfold State.revertImage
  try dsimp only
  repeat' (first
    | (with_reducible apply Moved.refl)
    | (with_reducible assumption)
    | (with_reducible apply Moved.fold)
    | (with_reducible apply Moved.fold_fst)
    | ((with_reducible apply Moved.via); (case k => with_reducible apply State.restartNow_moved); (case sub => decide))
    | ((with_reducible apply Moved.via); (case k => with_reducible apply State.tellImage_moved); (case sub => decide))
    | ((with_reducible apply Moved.via); (case k => (with_reducible apply modCls_moved); intro _; first | exact Nat.le_refl _ | exact Nat.le_max_left .. | (simp only [ImageClass.setState, ImageClass.modSlot, ImageClass.withPolicy, ImageClass.switchTo]; repeat' split) <;> exact Nat.le_refl _); (case sub => decide))
    | (intro _ _)
    | (with_reducible apply Moved.ite)
    | split
    | dsimp only)

theorem doneImageRevert_moved (a0 : _) (s : State) :
    Moved [.hub, .power, .rung, .mode, .change, .fences, .islands, .auth, .diag, .jack, .ledger, .control, .stage, .functions, .fieldIo, .place, .fabric, .nav, .vision, .infer, .buses, .eth, .fleet, .display, .safety, .update, .sections, .freeCount, .deferred] s (doneImageRevert a0 s) := by
  unfold doneImageRevert
  try dsimp only
  repeat' (first
    | (with_reducible apply Moved.refl)
    | (with_reducible assumption)
    | (with_reducible apply Moved.fold)
    | (with_reducible apply Moved.fold_fst)
    | ((with_reducible apply Moved.via); (case k => with_reducible apply State.revertImage_moved); (case sub => decide))
    | ((with_reducible apply Moved.via); (case k => with_reducible apply State.tellImage_moved); (case sub => decide))
    | ((with_reducible apply Moved.via); (case k => (with_reducible apply modCls_moved); intro _; first | exact Nat.le_refl _ | exact Nat.le_max_left .. | (simp only [ImageClass.setState, ImageClass.modSlot, ImageClass.withPolicy, ImageClass.switchTo]; repeat' split) <;> exact Nat.le_refl _); (case sub => decide))
    | ((with_reducible apply Moved.via); (case k => with_reducible apply State.defer_moved); (case sub => decide))
    | ((with_reducible apply Moved.via); (case k => with_reducible apply State.accepted_moved); (case sub => decide))
    | (intro _ _)
    | (with_reducible apply Moved.ite)
    | split
    | dsimp only)

theorem doneImageActivate_moved (a0 : _) (s : State) :
    Moved [.hub, .power, .rung, .mode, .change, .fences, .islands, .auth, .diag, .jack, .ledger, .control, .stage, .functions, .fieldIo, .place, .fabric, .nav, .vision, .infer, .buses, .eth, .fleet, .display, .safety, .update, .sections, .freeCount, .deferred] s (doneImageActivate a0 s) := by
  unfold doneImageActivate
  try dsimp only
  repeat' (first
    | (with_reducible apply Moved.refl)
    | (with_reducible assumption)
    | (with_reducible apply Moved.fold)
    | (with_reducible apply Moved.fold_fst)
    | ((with_reducible apply Moved.via); (case k => with_reducible apply State.restartNow_moved); (case sub => decide))
    | ((with_reducible apply Moved.via); (case k => with_reducible apply State.tellImage_moved); (case sub => decide))
    | ((with_reducible apply Moved.via); (case k => (with_reducible apply modCls_moved); intro _; first | exact Nat.le_refl _ | exact Nat.le_max_left .. | (simp only [ImageClass.setState, ImageClass.modSlot, ImageClass.withPolicy, ImageClass.switchTo]; repeat' split) <;> exact Nat.le_refl _); (case sub => decide))
    | ((with_reducible apply Moved.via); (case k => with_reducible apply State.accepted_moved); (case sub => decide))
    | (intro _ _)
    | (with_reducible apply Moved.ite)
    | split
    | dsimp only)

theorem doneImageConfirm_moved (a0 : _) (s : State) :
    Moved [.hub, .diag, .ledger, .fabric, .update] s (doneImageConfirm a0 s) := by
  unfold doneImageConfirm
  try dsimp only
  repeat' (first
    | (with_reducible apply Moved.refl)
    | (with_reducible assumption)
    | (with_reducible apply Moved.fold)
    | (with_reducible apply Moved.fold_fst)
    | ((with_reducible apply Moved.via); (case k => with_reducible apply State.fuse_moved); (case sub => decide))
    | ((with_reducible apply Moved.via); (case k => (with_reducible apply modCls_moved); intro _; first | exact Nat.le_refl _ | exact Nat.le_max_left .. | (simp only [ImageClass.setState, ImageClass.modSlot, ImageClass.withPolicy, ImageClass.switchTo]; repeat' split) <;> exact Nat.le_refl _); (case sub => decide))
    | ((with_reducible apply Moved.via); (case k => with_reducible apply answer_moved); (case sub => decide))
    | (intro _ _)
    | (with_reducible apply Moved.ite)
    | split
    | dsimp only)

theorem doneTrialRejoinTimeout_moved (a0 : _) (a1 : _) (s : State) :
    Moved [.hub, .power, .rung, .mode, .change, .fences, .islands, .auth, .diag, .jack, .ledger, .control, .stage, .functions, .fieldIo, .place, .fabric, .nav, .vision, .infer, .buses, .eth, .fleet, .display, .safety, .update, .sections, .freeCount, .deferred] s (doneTrialRejoinTimeout a0 a1 s) := by
  unfold doneTrialRejoinTimeout
  try dsimp only
  repeat' (first
    | (with_reducible apply Moved.refl)
    | (with_reducible assumption)
    | (with_reducible apply Moved.fold)
    | (with_reducible apply Moved.fold_fst)
    | ((with_reducible apply Moved.via); (case k => with_reducible apply State.revertImage_moved); (case sub => decide))
    | (intro _ _)
    | (with_reducible apply Moved.ite)
    | split
    | dsimp only)

theorem doneConfirmTimeout_moved (a0 : _) (a1 : _) (s : State) :
    Moved [.hub, .power, .rung, .mode, .change, .fences, .islands, .auth, .diag, .jack, .ledger, .control, .stage, .functions, .fieldIo, .place, .fabric, .nav, .vision, .infer, .buses, .eth, .fleet, .display, .safety, .update, .sections, .freeCount, .deferred] s (doneConfirmTimeout a0 a1 s) := by
  unfold doneConfirmTimeout
  try dsimp only
  repeat' (first
    | (with_reducible apply Moved.refl)
    | (with_reducible assumption)
    | (with_reducible apply Moved.fold)
    | (with_reducible apply Moved.fold_fst)
    | ((with_reducible apply Moved.via); (case k => with_reducible apply State.revertImage_moved); (case sub => decide))
    | (intro _ _)
    | (with_reducible apply Moved.ite)
    | split
    | dsimp only)

theorem doneLoaderCopyDone_moved (a0 : _) (a1 : _) (s : State) :
    Moved [.hub, .islands, .diag, .jack, .ledger, .fieldIo, .nav, .buses, .eth, .display, .safety, .update] s (doneLoaderCopyDone a0 a1 s) := by
  unfold doneLoaderCopyDone
  try dsimp only
  repeat' (first
    | (with_reducible apply Moved.refl)
    | (with_reducible assumption)
    | (with_reducible apply Moved.fold)
    | (with_reducible apply Moved.fold_fst)
    | ((with_reducible apply Moved.via); (case k => with_reducible apply State.copied_moved); (case sub => decide))
    | ((with_reducible apply Moved.via); (case k => with_reducible apply State.startIslands_moved); (case sub => decide))
    | ((with_reducible apply Moved.via); (case k => with_reducible apply State.releaseIsland_moved); (case sub => decide))
    | ((with_reducible apply Moved.via); (case k => with_reducible apply State.loadFailed_moved); (case sub => decide))
    | (intro _ _)
    | (with_reducible apply Moved.ite)
    | split
    | dsimp only)

theorem State.startInstall_moved (s : State) (a1 : _) :
    Moved [.update] s (State.startInstall s a1) := by
  unfold State.startInstall
  try dsimp only
  repeat' (first
    | (with_reducible apply Moved.refl)
    | (with_reducible assumption)
    | (with_reducible apply Moved.fold)
    | (with_reducible apply Moved.fold_fst)
    | ((with_reducible apply Moved.via); (case k => (with_reducible apply modCls_moved); intro _; first | exact Nat.le_refl _ | exact Nat.le_max_left .. | (simp only [ImageClass.setState, ImageClass.modSlot, ImageClass.withPolicy, ImageClass.switchTo]; repeat' split) <;> exact Nat.le_refl _); (case sub => decide))
    | ((with_reducible apply Moved.via); (case k => (with_reducible apply modUpdate_moved); intro _; first | exact FusesMoved.same rfl rfl | exact FusesMoved.revoke rfl rfl); (case sub => decide))
    | (intro _ _)
    | (with_reducible apply Moved.ite)
    | split
    | dsimp only)

theorem doneImageInstall_moved (a0 : _) (s : State) :
    Moved [.hub, .diag, .ledger, .fabric, .update, .deferred] s (doneImageInstall a0 s) := by
  unfold doneImageInstall
  try dsimp only
  repeat' (first
    | (with_reducible apply Moved.refl)
    | (with_reducible assumption)
    | (with_reducible apply Moved.fold)
    | (with_reducible apply Moved.fold_fst)
    | ((with_reducible apply Moved.via); (case k => with_reducible apply State.startInstall_moved); (case sub => decide))
    | ((with_reducible apply Moved.via); (case k => with_reducible apply State.defer_moved); (case sub => decide))
    | ((with_reducible apply Moved.via); (case k => with_reducible apply State.accepted_moved); (case sub => decide))
    | (intro _ _)
    | (with_reducible apply Moved.ite)
    | split
    | dsimp only)

theorem State.recoveryLoaded_moved (s : State) (a1 : _) :
    Moved [.diag, .update] s (State.recoveryLoaded s a1) := by
  unfold State.recoveryLoaded
  try dsimp only
  repeat' (first
    | (with_reducible apply Moved.refl)
    | (with_reducible assumption)
    | (with_reducible apply Moved.fold)
    | (with_reducible apply Moved.fold_fst)
    | ((with_reducible apply Moved.via); (case k => (with_reducible apply modCls_moved); intro _; first | exact Nat.le_refl _ | exact Nat.le_max_left .. | (simp only [ImageClass.setState, ImageClass.modSlot, ImageClass.withPolicy, ImageClass.switchTo]; repeat' split) <;> exact Nat.le_refl _); (case sub => decide))
    | ((with_reducible apply Moved.via); (case k => with_reducible apply State.count_moved); (case sub => decide))
    | (intro _ _)
    | (with_reducible apply Moved.ite)
    | split
    | dsimp only)

theorem doneInstallDataComplete_moved (a0 : _) (a1 : _) (s : State) :
    Moved [.hub, .power, .rung, .mode, .change, .fences, .islands, .auth, .diag, .jack, .ledger, .control, .stage, .functions, .fieldIo, .place, .fabric, .nav, .vision, .infer, .buses, .eth, .fleet, .display, .safety, .update, .sections, .freeCount, .deferred] s (doneInstallDataComplete a0 a1 s) := by
  unfold doneInstallDataComplete
  try dsimp only
  repeat' (first
    | (with_reducible apply Moved.refl)
    | (with_reducible assumption)
    | (with_reducible apply Moved.fold)
    | (with_reducible apply Moved.fold_fst)
    | ((with_reducible apply Moved.via); (case k => with_reducible apply State.failInstall_moved); (case sub => decide))
    | ((with_reducible apply Moved.via); (case k => with_reducible apply State.recoveryLoaded_moved); (case sub => decide))
    | ((with_reducible apply Moved.via); (case k => with_reducible apply State.deliver_moved); (case sub => decide))
    | ((with_reducible apply Moved.via); (case k => with_reducible apply State.moduleReset_moved); (case sub => decide))
    | ((with_reducible apply Moved.via); (case k => (with_reducible apply modCls_moved); intro _; first | exact Nat.le_refl _ | exact Nat.le_max_left .. | (simp only [ImageClass.setState, ImageClass.modSlot, ImageClass.withPolicy, ImageClass.switchTo]; repeat' split) <;> exact Nat.le_refl _); (case sub => decide))
    | ((with_reducible apply Moved.via); (case k => (with_reducible apply modUpdate_moved); intro _; first | exact FusesMoved.same rfl rfl | exact FusesMoved.revoke rfl rfl); (case sub => decide))
    | ((with_reducible apply Moved.via); (case k => with_reducible apply State.complete_moved); (case sub => decide))
    | ((with_reducible apply Moved.via); (case k => with_reducible apply State.count_moved); (case sub => decide))
    | (intro _ _)
    | (with_reducible apply Moved.ite)
    | split
    | dsimp only)

theorem doneInstallTimeout_moved (a0 : _) (s : State) :
    Moved [.hub, .diag, .update, .freeCount] s (doneInstallTimeout a0 s) := by
  unfold doneInstallTimeout
  try dsimp only
  repeat' (first
    | (with_reducible apply Moved.refl)
    | (with_reducible assumption)
    | (with_reducible apply Moved.fold)
    | (with_reducible apply Moved.fold_fst)
    | ((with_reducible apply Moved.via); (case k => with_reducible apply State.stallInstall_moved); (case sub => decide))
    | (intro _ _)
    | (with_reducible apply Moved.ite)
    | split
    | dsimp only)

theorem doneInstallAbort_moved (a0 : _) (s : State) :
    Moved [.hub, .diag, .ledger, .fabric, .update, .freeCount] s (doneInstallAbort a0 s) := by
  unfold doneInstallAbort
  try dsimp only
  repeat' (first
    | (with_reducible apply Moved.refl)
    | (with_reducible assumption)
    | (with_reducible apply Moved.fold)
    | (with_reducible apply Moved.fold_fst)
    | ((with_reducible apply Moved.via); (case k => with_reducible apply State.stallInstall_moved); (case sub => decide))
    | ((with_reducible apply Moved.via); (case k => with_reducible apply answer_moved); (case sub => decide))
    | ((with_reducible apply Moved.via); (case k => with_reducible apply State.answered_moved); (case sub => decide))
    | (intro _ _)
    | (with_reducible apply Moved.ite)
    | split
    | dsimp only)

theorem doneImageStatus_moved (a0 : _) (s : State) :
    Moved [.hub, .diag, .ledger, .fabric] s (doneImageStatus a0 s) := by
  unfold doneImageStatus
  try dsimp only
  repeat' (first
    | (with_reducible apply Moved.refl)
    | (with_reducible assumption)
    | (with_reducible apply Moved.fold)
    | (with_reducible apply Moved.fold_fst)
    | ((with_reducible apply Moved.via); (case k => with_reducible apply answer_moved); (case sub => decide))
    | (intro _ _)
    | (with_reducible apply Moved.ite)
    | split
    | dsimp only)

theorem donePolicySet_moved (a0 : _) (s : State) :
    Moved [.hub, .diag, .ledger, .fabric, .update] s (donePolicySet a0 s) := by
  unfold donePolicySet
  try dsimp only
  repeat' (first
    | (with_reducible apply Moved.refl)
    | (with_reducible assumption)
    | (with_reducible apply Moved.fold)
    | (with_reducible apply Moved.fold_fst)
    | ((with_reducible apply Moved.via); (case k => (with_reducible apply modCls_moved); intro _; first | exact Nat.le_refl _ | exact Nat.le_max_left .. | (simp only [ImageClass.setState, ImageClass.modSlot, ImageClass.withPolicy, ImageClass.switchTo]; repeat' split) <;> exact Nat.le_refl _); (case sub => decide))
    | ((with_reducible apply Moved.via); (case k => with_reducible apply answer_moved); (case sub => decide))
    | (intro _ _)
    | (with_reducible apply Moved.ite)
    | split
    | dsimp only)

theorem doneRecoveryEnter_moved (a0 : _) (s : State) :
    Moved [.hub, .power, .rung, .mode, .change, .fences, .islands, .auth, .diag, .jack, .ledger, .control, .stage, .functions, .fieldIo, .place, .fabric, .nav, .vision, .infer, .buses, .eth, .fleet, .display, .safety, .update, .sections, .freeCount, .deferred] s (doneRecoveryEnter a0 s) := by
  unfold doneRecoveryEnter
  try dsimp only
  repeat' (first
    | (with_reducible apply Moved.refl)
    | (with_reducible assumption)
    | (with_reducible apply Moved.fold)
    | (with_reducible apply Moved.fold_fst)
    | ((with_reducible apply Moved.via); (case k => with_reducible apply State.moduleReset_moved); (case sub => decide))
    | ((with_reducible apply Moved.via); (case k => (with_reducible apply modUpdate_moved); intro _; first | exact FusesMoved.same rfl rfl | exact FusesMoved.revoke rfl rfl); (case sub => decide))
    | ((with_reducible apply Moved.via); (case k => with_reducible apply State.defer_moved); (case sub => decide))
    | ((with_reducible apply Moved.via); (case k => with_reducible apply State.answered_moved); (case sub => decide))
    | (intro _ _)
    | (with_reducible apply Moved.ite)
    | split
    | dsimp only)

theorem doneRecoveryLoad_moved (a0 : _) (s : State) :
    Moved [.hub, .diag, .ledger, .fabric, .update] s (doneRecoveryLoad a0 s) := by
  unfold doneRecoveryLoad
  try dsimp only
  repeat' (first
    | (with_reducible apply Moved.refl)
    | (with_reducible assumption)
    | (with_reducible apply Moved.fold)
    | (with_reducible apply Moved.fold_fst)
    | ((with_reducible apply Moved.via); (case k => with_reducible apply State.startInstall_moved); (case sub => decide))
    | ((with_reducible apply Moved.via); (case k => with_reducible apply State.accepted_moved); (case sub => decide))
    | (intro _ _)
    | (with_reducible apply Moved.ite)
    | split
    | dsimp only)

theorem doneRecoverySession_moved (a0 : _) (a1 : _) (s : State) :
    Moved [.hub, .diag, .ledger, .update] s (doneRecoverySession a0 a1 s) := by
  unfold doneRecoverySession
  try dsimp only
  repeat' (first
    | (with_reducible apply Moved.refl)
    | (with_reducible assumption)
    | (with_reducible apply Moved.fold)
    | (with_reducible apply Moved.fold_fst)
    | ((with_reducible apply Moved.via); (case k => (with_reducible apply modUpdate_moved); intro _; first | exact FusesMoved.same rfl rfl | exact FusesMoved.revoke rfl rfl); (case sub => decide))
    | ((with_reducible apply Moved.via); (case k => with_reducible apply State.enableChannel_moved); (case sub => decide))
    | (intro _ _)
    | (with_reducible apply Moved.ite)
    | split
    | dsimp only)

theorem doneRecoverySessionClose_moved (a0 : _) (s : State) :
    Moved [.hub, .update] s (doneRecoverySessionClose a0 s) := by
  unfold doneRecoverySessionClose
  try dsimp only
  repeat' (first
    | (with_reducible apply Moved.refl)
    | (with_reducible assumption)
    | (with_reducible apply Moved.fold)
    | (with_reducible apply Moved.fold_fst)
    | ((with_reducible apply Moved.via); (case k => (with_reducible apply modUpdate_moved); intro _; first | exact FusesMoved.same rfl rfl | exact FusesMoved.revoke rfl rfl); (case sub => decide))
    | ((with_reducible apply Moved.via); (case k => with_reducible apply State.resetChannel_moved); (case sub => decide))
    | (intro _ _)
    | (with_reducible apply Moved.ite)
    | split
    | dsimp only)

theorem doneIdentitySet_moved (a0 : _) (s : State) :
    Moved [.hub, .auth, .diag, .ledger, .fabric, .update, .freeCount] s (doneIdentitySet a0 s) := by
  unfold doneIdentitySet
  try dsimp only
  repeat' (first
    | (with_reducible apply Moved.refl)
    | (with_reducible assumption)
    | (with_reducible apply Moved.fold)
    | (with_reducible apply Moved.fold_fst)
    | ((with_reducible apply Moved.via); (case k => with_reducible apply State.provision_moved); (case sub => decide))
    | ((with_reducible apply Moved.via); (case k => (with_reducible apply modUpdate_moved); intro _; first | exact FusesMoved.same rfl rfl | exact FusesMoved.revoke rfl rfl); (case sub => decide))
    | ((with_reducible apply Moved.via); (case k => with_reducible apply answer_moved); (case sub => decide))
    | ((with_reducible apply Moved.via); (case k => with_reducible apply State.spend_moved); (case sub => decide))
    | (intro _ _)
    | (with_reducible apply Moved.ite)
    | split
    | dsimp only)

theorem doneKeyPublic_moved (a0 : _) (s : State) :
    Moved [.hub, .diag, .ledger, .fabric] s (doneKeyPublic a0 s) := by
  unfold doneKeyPublic
  try dsimp only
  repeat' (first
    | (with_reducible apply Moved.refl)
    | (with_reducible assumption)
    | (with_reducible apply Moved.fold)
    | (with_reducible apply Moved.fold_fst)
    | ((with_reducible apply Moved.via); (case k => with_reducible apply answer_moved); (case sub => decide))
    | (intro _ _)
    | (with_reducible apply Moved.ite)
    | split
    | dsimp only)

theorem doneKeySet_moved (a0 : _) (s : State) :
    Moved [.hub, .auth, .diag, .ledger, .fabric, .fleet, .update] s (doneKeySet a0 s) := by
  unfold doneKeySet
  try dsimp only
  repeat' (first
    | (with_reducible apply Moved.refl)
    | (with_reducible assumption)
    | (with_reducible apply Moved.fold)
    | (with_reducible apply Moved.fold_fst)
    | ((with_reducible apply Moved.via); (case k => with_reducible apply State.keyChanged_moved); (case sub => decide))
    | ((with_reducible apply Moved.via); (case k => with_reducible apply State.provision_moved); (case sub => decide))
    | ((with_reducible apply Moved.via); (case k => with_reducible apply State.fleetEval_moved); (case sub => decide))
    | ((with_reducible apply Moved.via); (case k => (with_reducible apply modUpdate_moved); intro _; first | exact FusesMoved.same rfl rfl | exact FusesMoved.revoke rfl rfl); (case sub => decide))
    | ((with_reducible apply Moved.via); (case k => with_reducible apply State.answered_moved); (case sub => decide))
    | (intro _ _)
    | (with_reducible apply Moved.ite)
    | split
    | dsimp only)

theorem doneKeyClear_moved (a0 : _) (s : State) :
    Moved [.hub, .diag, .ledger, .fabric, .fleet, .update] s (doneKeyClear a0 s) := by
  unfold doneKeyClear
  try dsimp only
  repeat' (first
    | (with_reducible apply Moved.refl)
    | (with_reducible assumption)
    | (with_reducible apply Moved.fold)
    | (with_reducible apply Moved.fold_fst)
    | ((with_reducible apply Moved.via); (case k => with_reducible apply State.keyChanged_moved); (case sub => decide))
    | ((with_reducible apply Moved.via); (case k => with_reducible apply State.fleetEval_moved); (case sub => decide))
    | ((with_reducible apply Moved.via); (case k => (with_reducible apply modUpdate_moved); intro _; first | exact FusesMoved.same rfl rfl | exact FusesMoved.revoke rfl rfl); (case sub => decide))
    | ((with_reducible apply Moved.via); (case k => with_reducible apply State.answered_moved); (case sub => decide))
    | (intro _ _)
    | (with_reducible apply Moved.ite)
    | split
    | dsimp only)

theorem doneKeyStatus_moved (a0 : _) (s : State) :
    Moved [.hub, .diag, .ledger, .fabric] s (doneKeyStatus a0 s) := by
  unfold doneKeyStatus
  try dsimp only
  repeat' (first
    | (with_reducible apply Moved.refl)
    | (with_reducible assumption)
    | (with_reducible apply Moved.fold)
    | (with_reducible apply Moved.fold_fst)
    | ((with_reducible apply Moved.via); (case k => with_reducible apply answer_moved); (case sub => decide))
    | (intro _ _)
    | (with_reducible apply Moved.ite)
    | split
    | dsimp only)

end Sys2Proof.Machine
end

