-- ==== Sys2Proof/Laws/MovedExecChange.lean ====
section
/-! SUPPORT. What each operation of Machine/ExecChange.lean may change: nothing but the parts named. -/

namespace Sys2Proof.Machine

set_option maxRecDepth 4000

/-- A request that is evaluated changes no more than its effect and its refusal do. -/
theorem served_moved {ps qs : List Part} {o : OpSpec} {u : Nat} {r : Request} {s : State} {ck : State → List (Bool × Status)}
    {f : State → State} (he : ∀ v, Moved qs v (f v)) (sub : qs.all ps.contains = true)
    (ht : ([.time, .hub, .diag, .ledger, .fabric] : List Part).all ps.contains = true) :
    Moved ps s (nextOr s (serve o u r s ck f)) := by
  have hq : ps.contains .time = true := by simp at ht ⊢; exact ht.1
  have hs : ([.hub, .diag, .ledger, .fabric] : List Part).all ps.contains = true := by simp at ht ⊢; exact ht.2
  have ha : Moved ps s (s.atTime r.time) :=
    Moved.via (State.atTime_moved s _) (Moved.refl ps s) (by rw [List.all_cons, hq]; rfl)
  unfold serve valid
  split
  · dsimp only [nextOr]
    split
    · exact Moved.via (refuse_moved ..) ha hs
    · exact Moved.via (he _) ha sub
  · exact Moved.refl ..

theorem State.redo_moved (s : State) (a1 : _) :
    Moved [.time, .hub, .power, .rung, .mode, .change, .fences, .islands, .auth, .diag, .jack, .ledger, .control, .stage, .functions, .fieldIo, .place, .fabric, .nav, .vision, .infer, .buses, .eth, .fleet, .display, .safety, .safetyRecord, .update, .sections, .freeCount, .deferred] s (State.redo s a1) := by
  unfold State.redo
  dsimp only
  split
  · exact Moved.via (doneModeRequest_moved ..) (Moved.refl ..) (by decide)
  · exact served_moved (fun _ => doneRungRequest_moved ..) (by decide) (by decide)
  · exact served_moved (fun _ => doneSelftest_moved ..) (by decide) (by decide)
  · exact served_moved (fun _ => doneLoopTune_moved ..) (by decide) (by decide)
  · exact served_moved (fun _ => doneFunctionStart_moved ..) (by decide) (by decide)
  · exact served_moved (fun _ => doneImageInstall_moved ..) (by decide) (by decide)
  · exact served_moved (fun _ => doneImageRevert_moved ..) (by decide) (by decide)
  · exact served_moved (fun _ => doneRecoveryEnter_moved ..) (by decide) (by decide)

theorem State.settleDeferred_moved (s : State) :
    Moved [.time, .hub, .power, .rung, .mode, .change, .fences, .islands, .auth, .diag, .jack, .ledger, .control, .stage, .functions, .fieldIo, .place, .fabric, .nav, .vision, .infer, .buses, .eth, .fleet, .display, .safety, .safetyRecord, .update, .sections, .freeCount, .deferred] s (State.settleDeferred s) := by
  unfold State.settleDeferred
  dsimp only
  refine Moved.ite (Moved.fold ?_ fun t x => ?_) (Moved.refl ..)
  · exact Moved.via (set_deferred ..) (Moved.refl ..) (by decide)
  · exact Moved.via (State.redo_moved ..) (Moved.refl ..) (by decide)

end Sys2Proof.Machine
end

