-- ==== Sys2Proof/Laws/MovedExecDisplay.lean ====
section
/-! SUPPORT. What each operation of Machine/ExecDisplay.lean may change: nothing but the parts named. -/

namespace Sys2Proof.Machine

set_option maxRecDepth 4000

theorem doneDisplayConfig_moved (a0 : _) (s : State) :
    Moved [.hub, .diag, .ledger, .fabric, .display] s (doneDisplayConfig a0 s) := by
  unfold doneDisplayConfig
  try dsimp only
  repeat' (first
    | (with_reducible apply Moved.refl)
    | (with_reducible assumption)
    | (with_reducible apply Moved.fold)
    | (with_reducible apply Moved.fold_fst)
    | ((with_reducible apply Moved.via); (case k => with_reducible apply answer_moved); (case sub => decide))
    | ((with_reducible apply Moved.via); (case k => with_reducible apply State.checkContent_moved); (case sub => decide))
    | ((with_reducible apply Moved.via); (case k => with_reducible apply State.modDisplay_moved); (case sub => decide))
    | (intro _ _)
    | (with_reducible apply Moved.ite)
    | split
    | dsimp only)

theorem doneWaveformLoad_moved (a0 : _) (s : State) :
    Moved [.hub, .diag, .ledger, .fabric, .display] s (doneWaveformLoad a0 s) := by
  unfold doneWaveformLoad
  try dsimp only
  repeat' (first
    | (with_reducible apply Moved.refl)
    | (with_reducible assumption)
    | (with_reducible apply Moved.fold)
    | (with_reducible apply Moved.fold_fst)
    | ((with_reducible apply Moved.via); (case k => with_reducible apply answer_moved); (case sub => decide))
    | ((with_reducible apply Moved.via); (case k => with_reducible apply State.checkContent_moved); (case sub => decide))
    | ((with_reducible apply Moved.via); (case k => with_reducible apply State.modDisplay_moved); (case sub => decide))
    | (intro _ _)
    | (with_reducible apply Moved.ite)
    | split
    | dsimp only)

theorem doneDisplayUpdate_moved (a0 : _) (s : State) :
    Moved [.hub, .diag, .ledger, .fabric, .display] s (doneDisplayUpdate a0 s) := by
  unfold doneDisplayUpdate
  try dsimp only
  repeat' (first
    | (with_reducible apply Moved.refl)
    | (with_reducible assumption)
    | (with_reducible apply Moved.fold)
    | (with_reducible apply Moved.fold_fst)
    | ((with_reducible apply Moved.via); (case k => with_reducible apply State.accepted_moved); (case sub => decide))
    | ((with_reducible apply Moved.via); (case k => with_reducible apply State.modDisplay_moved); (case sub => decide))
    | (intro _ _)
    | (with_reducible apply Moved.ite)
    | split
    | dsimp only)

theorem doneFrontLight_moved (a0 : _) (s : State) :
    Moved [.hub, .diag, .ledger, .fabric, .display] s (doneFrontLight a0 s) := by
  unfold doneFrontLight
  try dsimp only
  repeat' (first
    | (with_reducible apply Moved.refl)
    | (with_reducible assumption)
    | (with_reducible apply Moved.fold)
    | (with_reducible apply Moved.fold_fst)
    | ((with_reducible apply Moved.via); (case k => with_reducible apply answer_moved); (case sub => decide))
    | ((with_reducible apply Moved.via); (case k => with_reducible apply State.modDisplay_moved); (case sub => decide))
    | (intro _ _)
    | (with_reducible apply Moved.ite)
    | split
    | dsimp only)

theorem doneDisplayStatus_moved (a0 : _) (s : State) :
    Moved [.hub, .diag, .ledger, .fabric, .freeCount] s (doneDisplayStatus a0 s) := by
  unfold doneDisplayStatus
  try dsimp only
  repeat' (first
    | (with_reducible apply Moved.refl)
    | (with_reducible assumption)
    | (with_reducible apply Moved.fold)
    | (with_reducible apply Moved.fold_fst)
    | ((with_reducible apply Moved.via); (case k => with_reducible apply State.free_moved); (case sub => decide))
    | ((with_reducible apply Moved.via); (case k => with_reducible apply answer_moved); (case sub => decide))
    | (intro _ _)
    | (with_reducible apply Moved.ite)
    | split
    | (refine Moved.snd (by assumption) ?_)
    | dsimp only)

theorem donePanelDetectChange_moved (a0 : _) (a1 : _) (a2 : _) (a3 : _) (s : State) :
    Moved [.hub, .diag, .ledger, .display] s (donePanelDetectChange a0 a1 a2 a3 s) := by
  unfold donePanelDetectChange
  try dsimp only
  repeat' (first
    | (with_reducible apply Moved.refl)
    | (with_reducible assumption)
    | (with_reducible apply Moved.fold)
    | (with_reducible apply Moved.fold_fst)
    | ((with_reducible apply Moved.via); (case k => with_reducible apply State.samplePanel_moved); (case sub => decide))
    | ((with_reducible apply Moved.via); (case k => with_reducible apply State.modDisplay_moved); (case sub => decide))
    | (intro _ _)
    | (with_reducible apply Moved.ite)
    | split
    | dsimp only)

theorem doneRailPowerUp_moved (a0 : _) (s : State) :
    Moved [.diag, .display] s (doneRailPowerUp a0 s) := by
  unfold doneRailPowerUp
  try dsimp only
  repeat' (first
    | (with_reducible apply Moved.refl)
    | (with_reducible assumption)
    | (with_reducible apply Moved.fold)
    | (with_reducible apply Moved.fold_fst)
    | ((with_reducible apply Moved.via); (case k => with_reducible apply State.modDisplay_moved); (case sub => decide))
    | ((with_reducible apply Moved.via); (case k => with_reducible apply State.count_moved); (case sub => decide))
    | (intro _ _)
    | (with_reducible apply Moved.ite)
    | split
    | dsimp only)

theorem doneRailFault_moved (a0 : _) (a1 : _) (s : State) :
    Moved [.hub, .diag, .display] s (doneRailFault a0 a1 s) := by
  unfold doneRailFault
  try dsimp only
  repeat' (first
    | (with_reducible apply Moved.refl)
    | (with_reducible assumption)
    | (with_reducible apply Moved.fold)
    | (with_reducible apply Moved.fold_fst)
    | ((with_reducible apply Moved.via); (case k => with_reducible apply State.failQueued_moved); (case sub => decide))
    | ((with_reducible apply Moved.via); (case k => with_reducible apply State.startDischarge_moved); (case sub => decide))
    | ((with_reducible apply Moved.via); (case k => with_reducible apply State.tellPanel_moved); (case sub => decide))
    | ((with_reducible apply Moved.via); (case k => with_reducible apply State.modDisplay_moved); (case sub => decide))
    | ((with_reducible apply Moved.via); (case k => with_reducible apply State.count_moved); (case sub => decide))
    | (intro _ _)
    | (with_reducible apply Moved.ite)
    | split
    | dsimp only)

theorem doneRailRetry_moved (a0 : _) (s : State) :
    Moved [.diag, .display] s (doneRailRetry a0 s) := by
  unfold doneRailRetry
  try dsimp only
  repeat' (first
    | (with_reducible apply Moved.refl)
    | (with_reducible assumption)
    | (with_reducible apply Moved.fold)
    | (with_reducible apply Moved.fold_fst)
    | ((with_reducible apply Moved.via); (case k => with_reducible apply State.modDisplay_moved); (case sub => decide))
    | ((with_reducible apply Moved.via); (case k => with_reducible apply State.count_moved); (case sub => decide))
    | (intro _ _)
    | (with_reducible apply Moved.ite)
    | split
    | dsimp only)

theorem doneDischargeSequence_moved (a0 : _) (s : State) :
    Moved [.diag, .display] s (doneDischargeSequence a0 s) := by
  unfold doneDischargeSequence
  try dsimp only
  repeat' (first
    | (with_reducible apply Moved.refl)
    | (with_reducible assumption)
    | (with_reducible apply Moved.fold)
    | (with_reducible apply Moved.fold_fst)
    | ((with_reducible apply Moved.via); (case k => with_reducible apply State.discharge_moved); (case sub => decide))
    | (intro _ _)
    | (with_reducible apply Moved.ite)
    | split
    | dsimp only)

theorem doneDisplayIdleTimeout_moved (a0 : _) (s : State) :
    Moved [.hub, .diag, .display] s (doneDisplayIdleTimeout a0 s) := by
  unfold doneDisplayIdleTimeout
  try dsimp only
  repeat' (first
    | (with_reducible apply Moved.refl)
    | (with_reducible assumption)
    | (with_reducible apply Moved.fold)
    | (with_reducible apply Moved.fold_fst)
    | ((with_reducible apply Moved.via); (case k => with_reducible apply State.startDischarge_moved); (case sub => decide))
    | ((with_reducible apply Moved.via); (case k => with_reducible apply State.tellPanel_moved); (case sub => decide))
    | (intro _ _)
    | (with_reducible apply Moved.ite)
    | split
    | dsimp only)

theorem doneFrontLightFault_moved (a0 : _) (s : State) :
    Moved [.hub, .diag, .display] s (doneFrontLightFault a0 s) := by
  unfold doneFrontLightFault
  try dsimp only
  repeat' (first
    | (with_reducible apply Moved.refl)
    | (with_reducible assumption)
    | (with_reducible apply Moved.fold)
    | (with_reducible apply Moved.fold_fst)
    | ((with_reducible apply Moved.via); (case k => with_reducible apply State.tellPanel_moved); (case sub => decide))
    | ((with_reducible apply Moved.via); (case k => with_reducible apply State.modDisplay_moved); (case sub => decide))
    | ((with_reducible apply Moved.via); (case k => with_reducible apply State.count_moved); (case sub => decide))
    | (intro _ _)
    | (with_reducible apply Moved.ite)
    | split
    | dsimp only)

theorem State.unqueue_moved (s : State) (a1 : _) :
    Moved [.display] s (State.unqueue s a1) := by
  unfold State.unqueue
  try dsimp only
  repeat' (first
    | (with_reducible apply Moved.refl)
    | (with_reducible assumption)
    | (with_reducible apply Moved.fold)
    | (with_reducible apply Moved.fold_fst)
    | ((with_reducible apply Moved.via); (case k => with_reducible apply State.modDisplay_moved); (case sub => decide))
    | (intro _ _)
    | (with_reducible apply Moved.ite)
    | split
    | dsimp only)

theorem State.startUpdate_moved (s : State) (a1 : _) (a2 : _) :
    Moved [.hub, .diag, .ledger, .place, .fleet, .display, .freeCount] s (State.startUpdate s a1 a2) := by
  unfold State.startUpdate
  try dsimp only
  repeat' (first
    | (with_reducible apply Moved.refl)
    | (with_reducible assumption)
    | (with_reducible apply Moved.fold)
    | (with_reducible apply Moved.fold_fst)
    | ((with_reducible apply Moved.via); (case k => with_reducible apply State.unqueue_moved); (case sub => decide))
    | ((with_reducible apply Moved.via); (case k => with_reducible apply State.newRecord_moved); (case sub => decide))
    | ((with_reducible apply Moved.via); (case k => with_reducible apply State.storeUpdate_moved); (case sub => decide))
    | ((with_reducible apply Moved.via); (case k => with_reducible apply State.writeHeader_moved); (case sub => decide))
    | ((with_reducible apply Moved.via); (case k => with_reducible apply State.modDisplay_moved); (case sub => decide))
    | (intro _ _)
    | (with_reducible apply Moved.ite)
    | split
    | dsimp only)

theorem State.latchBand_moved (s : State) (a1 : _) :
    Moved [.display] s (State.latchBand s a1) := by
  unfold State.latchBand
  try dsimp only
  repeat' (first
    | (with_reducible apply Moved.refl)
    | (with_reducible assumption)
    | (with_reducible apply Moved.fold)
    | (with_reducible apply Moved.fold_fst)
    | ((with_reducible apply Moved.via); (case k => with_reducible apply State.modDisplay_moved); (case sub => decide))
    | (intro _ _)
    | (with_reducible apply Moved.ite)
    | split
    | dsimp only)

theorem doneUpdateStart_moved (a0 : _) (a1 : _) (s : State) :
    Moved [.hub, .diag, .ledger, .place, .fleet, .display, .freeCount] s (doneUpdateStart a0 a1 s) := by
  unfold doneUpdateStart
  try dsimp only
  repeat' (first
    | (with_reducible apply Moved.refl)
    | (with_reducible assumption)
    | (with_reducible apply Moved.fold)
    | (with_reducible apply Moved.fold_fst)
    | ((with_reducible apply Moved.via); (case k => with_reducible apply State.latchBand_moved); (case sub => decide))
    | ((with_reducible apply Moved.via); (case k => with_reducible apply State.startUpdate_moved); (case sub => decide))
    | ((with_reducible apply Moved.via); (case k => with_reducible apply State.unqueue_moved); (case sub => decide))
    | ((with_reducible apply Moved.via); (case k => with_reducible apply State.displayDone_moved); (case sub => decide))
    | ((with_reducible apply Moved.via); (case k => with_reducible apply State.modDisplay_moved); (case sub => decide))
    | ((with_reducible apply Moved.via); (case k => with_reducible apply State.count_moved); (case sub => decide))
    | (intro _ _)
    | (with_reducible apply Moved.ite)
    | split
    | dsimp only)

theorem donePanelTempTimeout_moved (a0 : _) (s : State) :
    Moved [.hub, .diag, .display] s (donePanelTempTimeout a0 s) := by
  unfold donePanelTempTimeout
  try dsimp only
  repeat' (first
    | (with_reducible apply Moved.refl)
    | (with_reducible assumption)
    | (with_reducible apply Moved.fold)
    | (with_reducible apply Moved.fold_fst)
    | ((with_reducible apply Moved.via); (case k => with_reducible apply State.unqueue_moved); (case sub => decide))
    | ((with_reducible apply Moved.via); (case k => with_reducible apply State.displayDone_moved); (case sub => decide))
    | (intro _ _)
    | (with_reducible apply Moved.ite)
    | split
    | dsimp only)

theorem doneDisplayFrameEnd_moved (a0 : _) (s : State) :
    Moved [.hub, .diag, .ledger, .display] s (doneDisplayFrameEnd a0 s) := by
  unfold doneDisplayFrameEnd
  try dsimp only
  repeat' (first
    | (with_reducible apply Moved.refl)
    | (with_reducible assumption)
    | (with_reducible apply Moved.fold)
    | (with_reducible apply Moved.fold_fst)
    | ((with_reducible apply Moved.via); (case k => with_reducible apply State.frameEnd_moved); (case sub => decide))
    | (intro _ _)
    | (with_reducible apply Moved.ite)
    | split
    | dsimp only)

theorem State.restoreRecord_moved (s : State) (a1 : _) (a2 : _) (a3 : _) :
    Moved [.hub, .diag, .ledger, .display] s (State.restoreRecord s a1 a2 a3) := by
  unfold State.restoreRecord
  try dsimp only
  repeat' (first
    | (with_reducible apply Moved.refl)
    | (with_reducible assumption)
    | (with_reducible apply Moved.fold)
    | (with_reducible apply Moved.fold_fst)
    | ((with_reducible apply Moved.via); (case k => with_reducible apply State.latchBand_moved); (case sub => decide))
    | ((with_reducible apply Moved.via); (case k => with_reducible apply State.restored_moved); (case sub => decide))
    | ((with_reducible apply Moved.via); (case k => with_reducible apply State.checkContent_moved); (case sub => decide))
    | ((with_reducible apply Moved.via); (case k => with_reducible apply State.modDisplay_moved); (case sub => decide))
    | (intro _ _)
    | (with_reducible apply Moved.ite)
    | split
    | dsimp only)

theorem doneRestoration_moved (a0 : _) (a1 : _) (s : State) :
    Moved [.hub, .diag, .ledger, .display] s (doneRestoration a0 a1 s) := by
  unfold doneRestoration
  try dsimp only
  repeat' (first
    | (with_reducible apply Moved.refl)
    | (with_reducible assumption)
    | (with_reducible apply Moved.fold)
    | (with_reducible apply Moved.fold_fst)
    | ((with_reducible apply Moved.via); (case k => with_reducible apply State.restoreRecord_moved); (case sub => decide))
    | (intro _ _)
    | (with_reducible apply Moved.ite)
    | split
    | dsimp only)

end Sys2Proof.Machine
end

