-- ==== Sys2Proof/Laws/MovedExecNet.lean ====
section
/-! SUPPORT. What each operation of Machine/ExecNet.lean may change: nothing but the parts named. -/

namespace Sys2Proof.Machine

set_option maxRecDepth 4000

theorem doneEthPortConfig_moved (a0 : _) (s : State) :
    Moved [.hub, .diag, .ledger, .fabric, .eth] s (doneEthPortConfig a0 s) := by
  unfold doneEthPortConfig
  try dsimp only
  repeat' (first
    | (with_reducible apply Moved.refl)
    | (with_reducible assumption)
    | (with_reducible apply Moved.fold)
    | (with_reducible apply Moved.fold_fst)
    | ((with_reducible apply Moved.via); (case k => with_reducible apply State.setLink_moved); (case sub => decide))
    | ((with_reducible apply Moved.via); (case k => with_reducible apply State.modEthPort_moved); (case sub => decide))
    | ((with_reducible apply Moved.via); (case k => with_reducible apply State.modEth_moved); (case sub => decide))
    | ((with_reducible apply Moved.via); (case k => with_reducible apply answer_moved); (case sub => decide))
    | (intro _ _)
    | (with_reducible apply Moved.ite)
    | split
    | dsimp only)

theorem doneEthPortStatus_moved (a0 : _) (s : State) :
    Moved [.hub, .diag, .ledger, .fabric] s (doneEthPortStatus a0 s) := by
  unfold doneEthPortStatus
  try dsimp only
  repeat' (first
    | (with_reducible apply Moved.refl)
    | (with_reducible assumption)
    | (with_reducible apply Moved.fold)
    | (with_reducible apply Moved.fold_fst)
    | ((with_reducible apply Moved.via); (case k => with_reducible apply answer_moved); (case sub => decide))
    | (intro _ _)
    | (with_reducible apply Moved.ite)
    | split
    | dsimp only)

theorem doneGateSet_moved (a0 : _) (s : State) :
    Moved [.hub, .diag, .ledger, .fabric, .eth] s (doneGateSet a0 s) := by
  unfold doneGateSet
  try dsimp only
  repeat' (first
    | (with_reducible apply Moved.refl)
    | (with_reducible assumption)
    | (with_reducible apply Moved.fold)
    | (with_reducible apply Moved.fold_fst)
    | ((with_reducible apply Moved.via); (case k => with_reducible apply State.modEthPort_moved); (case sub => decide))
    | ((with_reducible apply Moved.via); (case k => with_reducible apply State.accepted_moved); (case sub => decide))
    | ((with_reducible apply Moved.via); (case k => with_reducible apply State.complete_moved); (case sub => decide))
    | (intro _ _)
    | (with_reducible apply Moved.ite)
    | split
    | dsimp only)

theorem doneSyncConfig_moved (a0 : _) (s : State) :
    Moved [.hub, .diag, .ledger, .fabric, .eth] s (doneSyncConfig a0 s) := by
  unfold doneSyncConfig
  try dsimp only
  repeat' (first
    | (with_reducible apply Moved.refl)
    | (with_reducible assumption)
    | (with_reducible apply Moved.fold)
    | (with_reducible apply Moved.fold_fst)
    | ((with_reducible apply Moved.via); (case k => with_reducible apply State.modEth_moved); (case sub => decide))
    | ((with_reducible apply Moved.via); (case k => with_reducible apply answer_moved); (case sub => decide))
    | (intro _ _)
    | (with_reducible apply Moved.ite)
    | split
    | dsimp only)

theorem doneIpConfig_moved (a0 : _) (s : State) :
    Moved [.hub, .diag, .ledger, .fabric, .eth, .fleet] s (doneIpConfig a0 s) := by
  unfold doneIpConfig
  try dsimp only
  repeat' (first
    | (with_reducible apply Moved.refl)
    | (with_reducible assumption)
    | (with_reducible apply Moved.fold)
    | (with_reducible apply Moved.fold_fst)
    | ((with_reducible apply Moved.via); (case k => with_reducible apply State.fleetEval_moved); (case sub => decide))
    | ((with_reducible apply Moved.via); (case k => with_reducible apply State.modEth_moved); (case sub => decide))
    | ((with_reducible apply Moved.via); (case k => with_reducible apply answer_moved); (case sub => decide))
    | (intro _ _)
    | (with_reducible apply Moved.ite)
    | split
    | dsimp only)

theorem doneNodeSet_moved (a0 : _) (s : State) :
    Moved [.hub, .diag, .ledger, .fabric, .eth] s (doneNodeSet a0 s) := by
  unfold doneNodeSet
  try dsimp only
  repeat' (first
    | (with_reducible apply Moved.refl)
    | (with_reducible assumption)
    | (with_reducible apply Moved.fold)
    | (with_reducible apply Moved.fold_fst)
    | ((with_reducible apply Moved.via); (case k => with_reducible apply State.modEth_moved); (case sub => decide))
    | ((with_reducible apply Moved.via); (case k => with_reducible apply answer_moved); (case sub => decide))
    | (intro _ _)
    | (with_reducible apply Moved.ite)
    | split
    | dsimp only)

theorem doneEthLinkChange_moved (a0 : _) (a1 : _) (a2 : _) (a3 : _) (a4 : _) (s : State) :
    Moved [.hub, .diag, .eth] s (doneEthLinkChange a0 a1 a2 a3 a4 s) := by
  unfold doneEthLinkChange
  try dsimp only
  repeat' (first
    | (with_reducible apply Moved.refl)
    | (with_reducible assumption)
    | (with_reducible apply Moved.fold)
    | (with_reducible apply Moved.fold_fst)
    | ((with_reducible apply Moved.via); (case k => with_reducible apply State.setLink_moved); (case sub => decide))
    | ((with_reducible apply Moved.via); (case k => with_reducible apply State.modEthPort_moved); (case sub => decide))
    | (intro _ _)
    | (with_reducible apply Moved.ite)
    | split
    | dsimp only)

theorem donePlcaFallback_moved (a0 : _) (a1 : _) (s : State) :
    Moved [.eth] s (donePlcaFallback a0 a1 s) := by
  unfold donePlcaFallback
  try dsimp only
  repeat' (first
    | (with_reducible apply Moved.refl)
    | (with_reducible assumption)
    | (with_reducible apply Moved.fold)
    | (with_reducible apply Moved.fold_fst)
    | ((with_reducible apply Moved.via); (case k => with_reducible apply State.modEthPort_moved); (case sub => decide))
    | (intro _ _)
    | (with_reducible apply Moved.ite)
    | split
    | dsimp only)

theorem State.takeGptp_moved (s : State) (a1 : _) (a2 : _) :
    Moved [.diag, .eth] s (State.takeGptp s a1 a2) := by
  unfold State.takeGptp
  try dsimp only
  repeat' (first
    | (with_reducible apply Moved.refl)
    | (with_reducible assumption)
    | (with_reducible apply Moved.fold)
    | (with_reducible apply Moved.fold_fst)
    | ((with_reducible apply Moved.via); (case k => with_reducible apply State.modEthPort_moved); (case sub => decide))
    | ((with_reducible apply Moved.via); (case k => with_reducible apply State.count_moved); (case sub => decide))
    | (intro _ _)
    | (with_reducible apply Moved.ite)
    | split
    | dsimp only)

theorem doneEthFrameRx_moved (a0 : _) (a1 : _) (a2 : _) (s : State) :
    Moved [.hub, .diag, .eth, .fleet] s (doneEthFrameRx a0 a1 a2 s) := by
  unfold doneEthFrameRx
  try dsimp only
  repeat' (first
    | (with_reducible apply Moved.refl)
    | (with_reducible assumption)
    | (with_reducible apply Moved.fold)
    | (with_reducible apply Moved.fold_fst)
    | ((with_reducible apply Moved.via); (case k => with_reducible apply State.endpointTakes_moved); (case sub => decide))
    | ((with_reducible apply Moved.via); (case k => with_reducible apply State.forward_moved); (case sub => decide))
    | ((with_reducible apply Moved.via); (case k => with_reducible apply State.takeGptp_moved); (case sub => decide))
    | ((with_reducible apply Moved.via); (case k => with_reducible apply State.dropEthFrame_moved); (case sub => decide))
    | ((with_reducible apply Moved.via); (case k => with_reducible apply State.fleetEval_moved); (case sub => decide))
    | ((with_reducible apply Moved.via); (case k => with_reducible apply State.modEthPort_moved); (case sub => decide))
    | ((with_reducible apply Moved.via); (case k => with_reducible apply State.count_moved); (case sub => decide))
    | (intro _ _)
    | (with_reducible apply Moved.ite)
    | split
    | (refine Moved.fst (by assumption) ?_)
    | dsimp only)

theorem doneAddressAgeing_moved (a0 : _) (a1 : _) (s : State) :
    Moved [.eth] s (doneAddressAgeing a0 a1 s) := by
  unfold doneAddressAgeing
  try dsimp only
  repeat' (first
    | (with_reducible apply Moved.refl)
    | (with_reducible assumption)
    | (with_reducible apply Moved.fold)
    | (with_reducible apply Moved.fold_fst)
    | ((with_reducible apply Moved.via); (case k => with_reducible apply State.modEth_moved); (case sub => decide))
    | (intro _ _)
    | (with_reducible apply Moved.ite)
    | split
    | dsimp only)

theorem State.gptpSend_moved (s : State) (a1 : _) (a2 : _) (a3 : _) :
    Moved [.eth] s (State.gptpSend s a1 a2 a3) := by
  unfold State.gptpSend
  try dsimp only
  repeat' (first
    | (with_reducible apply Moved.refl)
    | (with_reducible assumption)
    | (with_reducible apply Moved.fold)
    | (with_reducible apply Moved.fold_fst)
    | ((with_reducible apply Moved.via); (case k => with_reducible apply State.modEthPort_moved); (case sub => decide))
    | (intro _ _)
    | (with_reducible apply Moved.ite)
    | split
    | dsimp only)

theorem doneGptpSyncTx_moved (a0 : _) (s : State) :
    Moved [.eth] s (doneGptpSyncTx a0 s) := by
  unfold doneGptpSyncTx
  try dsimp only
  repeat' (first
    | (with_reducible apply Moved.refl)
    | (with_reducible assumption)
    | (with_reducible apply Moved.fold)
    | (with_reducible apply Moved.fold_fst)
    | ((with_reducible apply Moved.via); (case k => with_reducible apply State.gptpSend_moved); (case sub => decide))
    | ((with_reducible apply Moved.via); (case k => with_reducible apply State.modEth_moved); (case sub => decide))
    | (intro _ _)
    | (with_reducible apply Moved.ite)
    | split
    | dsimp only)

theorem doneGptpAnnounceTx_moved (a0 : _) (s : State) :
    Moved [.eth] s (doneGptpAnnounceTx a0 s) := by
  unfold doneGptpAnnounceTx
  try dsimp only
  repeat' (first
    | (with_reducible apply Moved.refl)
    | (with_reducible assumption)
    | (with_reducible apply Moved.fold)
    | (with_reducible apply Moved.fold_fst)
    | ((with_reducible apply Moved.via); (case k => with_reducible apply State.gptpSend_moved); (case sub => decide))
    | ((with_reducible apply Moved.via); (case k => with_reducible apply State.modEth_moved); (case sub => decide))
    | (intro _ _)
    | (with_reducible apply Moved.ite)
    | split
    | dsimp only)

theorem donePdelayTx_moved (a0 : _) (s : State) :
    Moved [.eth] s (donePdelayTx a0 s) := by
  unfold donePdelayTx
  try dsimp only
  repeat' (first
    | (with_reducible apply Moved.refl)
    | (with_reducible assumption)
    | (with_reducible apply Moved.fold)
    | (with_reducible apply Moved.fold_fst)
    | ((with_reducible apply Moved.via); (case k => with_reducible apply State.gptpSend_moved); (case sub => decide))
    | ((with_reducible apply Moved.via); (case k => with_reducible apply State.modEth_moved); (case sub => decide))
    | (intro _ _)
    | (with_reducible apply Moved.ite)
    | split
    | dsimp only)

theorem doneGateEntryStart_moved (a0 : _) (a1 : _) (s : State) :
    Moved [.eth] s (doneGateEntryStart a0 a1 s) := by
  unfold doneGateEntryStart
  try dsimp only
  repeat' (first
    | (with_reducible apply Moved.refl)
    | (with_reducible assumption)
    | (with_reducible apply Moved.fold)
    | (with_reducible apply Moved.fold_fst)
    | ((with_reducible apply Moved.via); (case k => with_reducible apply State.drainPort_moved); (case sub => decide))
    | ((with_reducible apply Moved.via); (case k => with_reducible apply State.modEthPort_moved); (case sub => decide))
    | (intro _ _)
    | (with_reducible apply Moved.ite)
    | split
    | dsimp only)

theorem doneGateListAdopt_moved (a0 : _) (a1 : _) (s : State) :
    Moved [.hub, .diag, .eth] s (doneGateListAdopt a0 a1 s) := by
  unfold doneGateListAdopt
  try dsimp only
  repeat' (first
    | (with_reducible apply Moved.refl)
    | (with_reducible assumption)
    | (with_reducible apply Moved.fold)
    | (with_reducible apply Moved.fold_fst)
    | ((with_reducible apply Moved.via); (case k => with_reducible apply State.drainPort_moved); (case sub => decide))
    | ((with_reducible apply Moved.via); (case k => with_reducible apply State.modEthPort_moved); (case sub => decide))
    | ((with_reducible apply Moved.via); (case k => with_reducible apply State.complete_moved); (case sub => decide))
    | (intro _ _)
    | (with_reducible apply Moved.ite)
    | split
    | dsimp only)

theorem doneFleetConfig_moved (a0 : _) (s : State) :
    Moved [.hub, .diag, .ledger, .fabric, .eth, .fleet] s (doneFleetConfig a0 s) := by
  unfold doneFleetConfig
  try dsimp only
  repeat' (first
    | (with_reducible apply Moved.refl)
    | (with_reducible assumption)
    | (with_reducible apply Moved.fold)
    | (with_reducible apply Moved.fold_fst)
    | ((with_reducible apply Moved.via); (case k => with_reducible apply State.arp_moved); (case sub => decide))
    | ((with_reducible apply Moved.via); (case k => with_reducible apply State.fleetEval_moved); (case sub => decide))
    | ((with_reducible apply Moved.via); (case k => with_reducible apply State.modFleet_moved); (case sub => decide))
    | ((with_reducible apply Moved.via); (case k => with_reducible apply answer_moved); (case sub => decide))
    | (intro _ _)
    | (with_reducible apply Moved.ite)
    | split
    | dsimp only)

theorem doneFleetStatus_moved (a0 : _) (s : State) :
    Moved [.hub, .diag, .ledger, .fabric, .fleet] s (doneFleetStatus a0 s) := by
  unfold doneFleetStatus
  try dsimp only
  repeat' (first
    | (with_reducible apply Moved.refl)
    | (with_reducible assumption)
    | (with_reducible apply Moved.fold)
    | (with_reducible apply Moved.fold_fst)
    | ((with_reducible apply Moved.via); (case k => with_reducible apply State.fleetEval_moved); (case sub => decide))
    | ((with_reducible apply Moved.via); (case k => with_reducible apply answer_moved); (case sub => decide))
    | (intro _ _)
    | (with_reducible apply Moved.ite)
    | split
    | dsimp only)

theorem doneMapMerge_moved (a0 : _) (s : State) :
    Moved [.hub, .diag, .ledger, .place, .fabric, .fleet, .freeCount] s (doneMapMerge a0 s) := by
  unfold doneMapMerge
  try dsimp only
  repeat' (first
    | (with_reducible apply Moved.refl)
    | (with_reducible assumption)
    | (with_reducible apply Moved.fold)
    | (with_reducible apply Moved.fold_fst)
    | ((with_reducible apply Moved.via); (case k => with_reducible apply State.pressures_moved); (case sub => decide))
    | ((with_reducible apply Moved.via); (case k => with_reducible apply State.mergesLost_moved); (case sub => decide))
    | ((with_reducible apply Moved.via); (case k => with_reducible apply State.modFleet_moved); (case sub => decide))
    | ((with_reducible apply Moved.via); (case k => with_reducible apply State.accepted_moved); (case sub => decide))
    | ((with_reducible apply Moved.via); (case k => with_reducible apply State.spend_moved); (case sub => decide))
    | (intro _ _)
    | (with_reducible apply Moved.ite)
    | split
    | dsimp only)

theorem State.mergeSourceCell_moved (s : State) (a1 : _) (a2 : _) (a3 : _) (a4 : _) :
    Moved [.place, .fleet] s (State.mergeSourceCell s a1 a2 a3 a4).1 := by
  unfold State.mergeSourceCell
  try dsimp only
  repeat' (first
    | (with_reducible apply Moved.refl)
    | (with_reducible assumption)
    | (with_reducible apply Moved.fold)
    | (with_reducible apply Moved.fold_fst)
    | ((with_reducible apply Moved.via); (case k => with_reducible apply State.mergeInto_moved); (case sub => decide))
    | (intro _ _)
    | (with_reducible apply Moved.ite)
    | split
    | (refine Moved.fst (by assumption) ?_)
    | dsimp only)

theorem State.mergeTiles_moved (s : State) (a1 : _) :
    Moved [.place, .fleet] s (State.mergeTiles s a1).1 := by
  unfold State.mergeTiles
  try dsimp only
  repeat' (first
    | (with_reducible apply Moved.refl)
    | (with_reducible assumption)
    | (with_reducible apply Moved.fold)
    | (with_reducible apply Moved.fold_fst)
    | ((with_reducible apply Moved.via); (case k => with_reducible apply State.mergeSourceCell_moved); (case sub => decide))
    | (intro _ _)
    | (with_reducible apply Moved.ite)
    | split
    | (refine Moved.fst (by assumption) ?_)
    | dsimp only)

theorem doneMergeJobEnd_moved (a0 : _) (s : State) :
    Moved [.hub, .diag, .place, .fleet] s (doneMergeJobEnd a0 s) := by
  unfold doneMergeJobEnd
  try dsimp only
  repeat' (first
    | (with_reducible apply Moved.refl)
    | (with_reducible assumption)
    | (with_reducible apply Moved.fold)
    | (with_reducible apply Moved.fold_fst)
    | ((with_reducible apply Moved.via); (case k => with_reducible apply State.tilesFull_moved); (case sub => decide))
    | ((with_reducible apply Moved.via); (case k => with_reducible apply State.mergeTiles_moved); (case sub => decide))
    | ((with_reducible apply Moved.via); (case k => with_reducible apply State.pressures_moved); (case sub => decide))
    | ((with_reducible apply Moved.via); (case k => with_reducible apply State.modFleet_moved); (case sub => decide))
    | ((with_reducible apply Moved.via); (case k => with_reducible apply State.countN_moved); (case sub => decide))
    | ((with_reducible apply Moved.via); (case k => with_reducible apply State.complete_moved); (case sub => decide))
    | (intro _ _)
    | (with_reducible apply Moved.ite)
    | split
    | (refine Moved.fst (by assumption) ?_)
    | dsimp only)

theorem doneFleetExchange_moved (a0 : _) (s : State) :
    Moved [.hub, .diag, .eth, .fleet] s (doneFleetExchange a0 s) := by
  unfold doneFleetExchange
  try dsimp only
  repeat' (first
    | (with_reducible apply Moved.refl)
    | (with_reducible assumption)
    | (with_reducible apply Moved.fold)
    | (with_reducible apply Moved.fold_fst)
    | ((with_reducible apply Moved.via); (case k => with_reducible apply State.exchange_moved); (case sub => decide))
    | ((with_reducible apply Moved.via); (case k => with_reducible apply State.arp_moved); (case sub => decide))
    | ((with_reducible apply Moved.via); (case k => with_reducible apply State.fleetEval_moved); (case sub => decide))
    | ((with_reducible apply Moved.via); (case k => with_reducible apply State.modFleet_moved); (case sub => decide))
    | (intro _ _)
    | (with_reducible apply Moved.ite)
    | split
    | dsimp only)

theorem doneFleetDatagramRx_moved (a0 : _) (a1 : _) (a2 : _) (s : State) :
    Moved [.hub, .diag, .place, .fabric, .eth, .fleet] s (doneFleetDatagramRx a0 a1 a2 s) := by
  unfold doneFleetDatagramRx
  try dsimp only
  repeat' (first
    | (with_reducible apply Moved.refl)
    | (with_reducible assumption)
    | (with_reducible apply Moved.fold)
    | (with_reducible apply Moved.fold_fst)
    | ((with_reducible apply Moved.via); (case k => with_reducible apply State.mergeDatagram_moved); (case sub => decide))
    | ((with_reducible apply Moved.via); (case k => with_reducible apply State.hear_moved); (case sub => decide))
    | ((with_reducible apply Moved.via); (case k => with_reducible apply State.countFleet_moved); (case sub => decide))
    | ((with_reducible apply Moved.via); (case k => with_reducible apply State.refuseDatagram_moved); (case sub => decide))
    | ((with_reducible apply Moved.via); (case k => with_reducible apply State.dropEthFrame_moved); (case sub => decide))
    | ((with_reducible apply Moved.via); (case k => with_reducible apply State.fleetEval_moved); (case sub => decide))
    | ((with_reducible apply Moved.via); (case k => with_reducible apply State.present_moved); (case sub => decide))
    | (intro _ _)
    | (with_reducible apply Moved.ite)
    | split
    | dsimp only)

end Sys2Proof.Machine
end

