-- ==== Sys2Proof/Laws/MovedExecPlacement.lean ====
section
/-! SUPPORT. What each operation of Machine/ExecPlacement.lean may change: nothing but the parts named. -/

namespace Sys2Proof.Machine

set_option maxRecDepth 4000

theorem donePlace_moved (a0 : _) (s : State) :
    Moved [.hub, .diag, .ledger, .place, .fabric, .freeCount] s (donePlace a0 s) := by
  unfold donePlace
  try dsimp only
  repeat' (first
    | (with_reducible apply Moved.refl)
    | (with_reducible assumption)
    | (with_reducible apply Moved.fold)
    | (with_reducible apply Moved.fold_fst)
    | ((with_reducible apply Moved.via); (case k => with_reducible apply State.pressures_moved); (case sub => decide))
    | ((with_reducible apply Moved.via); (case k => (with_reducible apply State.lodge_moved); exact ⟨Memory.empty_wf, Memory.empty_wf⟩); (case sub => decide))
    | ((with_reducible apply Moved.via); (case k => with_reducible apply refuseWith_moved); (case sub => decide))
    | ((with_reducible apply Moved.via); (case k => with_reducible apply answer_moved); (case sub => decide))
    | ((with_reducible apply Moved.via); (case k => with_reducible apply State.spend_moved); (case sub => decide))
    | (intro _ _)
    | (with_reducible apply Moved.ite)
    | split
    | (refine Moved.snd (by assumption) ?_)
    | dsimp only)

theorem donePlacementRelease_moved (a0 : _) (s : State) :
    Moved [.hub, .diag, .ledger, .place, .fabric, .infer, .fleet] s (donePlacementRelease a0 s) := by
  unfold donePlacementRelease
  try dsimp only
  repeat' (first
    | (with_reducible apply Moved.refl)
    | (with_reducible assumption)
    | (with_reducible apply Moved.fold)
    | (with_reducible apply Moved.fold_fst)
    | ((with_reducible apply Moved.via); (case k => with_reducible apply State.modelGone_moved); (case sub => decide))
    | ((with_reducible apply Moved.via); (case k => with_reducible apply State.dropPlacement_moved); (case sub => decide))
    | ((with_reducible apply Moved.via); (case k => with_reducible apply State.pressures_moved); (case sub => decide))
    | ((with_reducible apply Moved.via); (case k => with_reducible apply State.fleetEval_moved); (case sub => decide))
    | ((with_reducible apply Moved.via); (case k => with_reducible apply answer_moved); (case sub => decide))
    | (intro _ _)
    | (with_reducible apply Moved.ite)
    | split
    | dsimp only)

theorem State.unpin_moved (s : State) (a1 : _) :
    Moved [.hub, .diag, .ledger, .place] s (State.unpin s a1) := by
  unfold State.unpin
  try dsimp only
  repeat' (first
    | (with_reducible apply Moved.refl)
    | (with_reducible assumption)
    | (with_reducible apply Moved.fold)
    | (with_reducible apply Moved.fold_fst)
    | ((with_reducible apply Moved.via); (case k => with_reducible apply State.completePins_moved); (case sub => decide))
    | ((with_reducible apply Moved.via); (case k => with_reducible apply State.dropCopy_moved); (case sub => decide))
    | ((with_reducible apply Moved.via); (case k => (with_reducible apply modPlacement_moved); intro _ h; first | exact h | (split <;> exact h) | exact ⟨h.1, Memory.copyFrom_wf h.2 ..⟩ | exact ⟨h.1, by dsimp only; split <;> first | exact h.1 | exact h.2⟩); (case sub => decide))
    | ((with_reducible apply Moved.via); (case k => (with_reducible apply modPlace_moved); intro _; first | exact PlaceStep.same rfl rfl | exact ⟨Nat.le_succ _, fun h => h⟩ | exact ⟨Nat.le_refl _, fun h => h.sub (List.filter_sublist ..)⟩ | (refine ⟨Nat.le_refl _, fun h => ?_⟩; refine h.mapAll ?_ (by dsimp only); intro _ _ h; first | exact h | (split <;> exact h) | (unfold Placement.window; exact h))); (case sub => decide))
    | (intro _ _)
    | (with_reducible apply Moved.ite)
    | split
    | dsimp only)

theorem donePlacementPin_moved (a0 : _) (s : State) :
    Moved [.hub, .diag, .ledger, .place, .fabric] s (donePlacementPin a0 s) := by
  unfold donePlacementPin
  try dsimp only
  repeat' (first
    | (with_reducible apply Moved.refl)
    | (with_reducible assumption)
    | (with_reducible apply Moved.fold)
    | (with_reducible apply Moved.fold_fst)
    | ((with_reducible apply Moved.via); (case k => with_reducible apply State.unpin_moved); (case sub => decide))
    | ((with_reducible apply Moved.via); (case k => with_reducible apply State.settlePin_moved); (case sub => decide))
    | ((with_reducible apply Moved.via); (case k => with_reducible apply State.pressures_moved); (case sub => decide))
    | ((with_reducible apply Moved.via); (case k => with_reducible apply State.makeRoom_moved); (case sub => decide))
    | ((with_reducible apply Moved.via); (case k => with_reducible apply State.accepted_moved); (case sub => decide))
    | ((with_reducible apply Moved.via); (case k => (with_reducible apply modPlacement_moved); intro _ h; first | exact h | (split <;> exact h) | exact ⟨h.1, Memory.copyFrom_wf h.2 ..⟩ | exact ⟨h.1, by dsimp only; split <;> first | exact h.1 | exact h.2⟩); (case sub => decide))
    | ((with_reducible apply Moved.via); (case k => with_reducible apply State.complete_moved); (case sub => decide))
    | (intro _ _)
    | (with_reducible apply Moved.ite)
    | split
    | dsimp only)

theorem donePlacementMap_moved (a0 : _) (s : State) :
    Moved [.hub, .diag, .ledger, .place, .fabric, .freeCount] s (donePlacementMap a0 s) := by
  unfold donePlacementMap
  try dsimp only
  repeat' (first
    | (with_reducible apply Moved.refl)
    | (with_reducible assumption)
    | (with_reducible apply Moved.fold)
    | (with_reducible apply Moved.fold_fst)
    | ((with_reducible apply Moved.via); (case k => with_reducible apply State.finishViews_moved); (case sub => decide))
    | ((with_reducible apply Moved.via); (case k => with_reducible apply State.startMoves_moved); (case sub => decide))
    | ((with_reducible apply Moved.via); (case k => with_reducible apply State.pressures_moved); (case sub => decide))
    | ((with_reducible apply Moved.via); (case k => with_reducible apply State.makeRoom_moved); (case sub => decide))
    | ((with_reducible apply Moved.via); (case k => with_reducible apply State.accepted_moved); (case sub => decide))
    | ((with_reducible apply Moved.via); (case k => (with_reducible apply modPlacement_moved); intro _ h; first | exact h | (split <;> exact h) | exact ⟨h.1, Memory.copyFrom_wf h.2 ..⟩ | exact ⟨h.1, by dsimp only; split <;> first | exact h.1 | exact h.2⟩); (case sub => decide))
    | ((with_reducible apply Moved.via); (case k => with_reducible apply State.spend_moved); (case sub => decide))
    | ((with_reducible apply Moved.via); (case k => with_reducible apply State.complete_moved); (case sub => decide))
    | (intro _ _)
    | (with_reducible apply Moved.ite)
    | split
    | dsimp only)

theorem donePlacementUnmap_moved (a0 : _) (s : State) :
    Moved [.hub, .diag, .ledger, .place, .fabric] s (donePlacementUnmap a0 s) := by
  unfold donePlacementUnmap
  try dsimp only
  repeat' (first
    | (with_reducible apply Moved.refl)
    | (with_reducible assumption)
    | (with_reducible apply Moved.fold)
    | (with_reducible apply Moved.fold_fst)
    | ((with_reducible apply Moved.via); (case k => with_reducible apply State.settlePin_moved); (case sub => decide))
    | ((with_reducible apply Moved.via); (case k => with_reducible apply State.pressures_moved); (case sub => decide))
    | ((with_reducible apply Moved.via); (case k => with_reducible apply answer_moved); (case sub => decide))
    | ((with_reducible apply Moved.via); (case k => (with_reducible apply modPlacement_moved); intro _ h; first | exact h | (split <;> exact h) | exact ⟨h.1, Memory.copyFrom_wf h.2 ..⟩ | exact ⟨h.1, by dsimp only; split <;> first | exact h.1 | exact h.2⟩); (case sub => decide))
    | (intro _ _)
    | (with_reducible apply Moved.ite)
    | split
    | dsimp only)

theorem donePlacementSync_moved (a0 : _) (s : State) :
    Moved [.hub, .diag, .ledger, .place, .fabric] s (donePlacementSync a0 s) := by
  unfold donePlacementSync
  try dsimp only
  repeat' (first
    | (with_reducible apply Moved.refl)
    | (with_reducible assumption)
    | (with_reducible apply Moved.fold)
    | (with_reducible apply Moved.fold_fst)
    | ((with_reducible apply Moved.via); (case k => with_reducible apply State.finishSyncs_moved); (case sub => decide))
    | ((with_reducible apply Moved.via); (case k => with_reducible apply State.accepted_moved); (case sub => decide))
    | ((with_reducible apply Moved.via); (case k => (with_reducible apply modPlacement_moved); intro _ h; first | exact h | (split <;> exact h) | exact ⟨h.1, Memory.copyFrom_wf h.2 ..⟩ | exact ⟨h.1, by dsimp only; split <;> first | exact h.1 | exact h.2⟩); (case sub => decide))
    | (intro _ _)
    | (with_reducible apply Moved.ite)
    | split
    | dsimp only)

theorem donePlacementQuery_moved (a0 : _) (s : State) :
    Moved [.hub, .diag, .ledger, .fabric] s (donePlacementQuery a0 s) := by
  unfold donePlacementQuery
  try dsimp only
  repeat' (first
    | (with_reducible apply Moved.refl)
    | (with_reducible assumption)
    | (with_reducible apply Moved.fold)
    | (with_reducible apply Moved.fold_fst)
    | ((with_reducible apply Moved.via); (case k => with_reducible apply answer_moved); (case sub => decide))
    | (intro _ _)
    | (with_reducible apply Moved.ite)
    | split
    | dsimp only)

theorem donePlacementCapacity_moved (a0 : _) (s : State) :
    Moved [.hub, .diag, .ledger, .fabric] s (donePlacementCapacity a0 s) := by
  unfold donePlacementCapacity
  try dsimp only
  repeat' (first
    | (with_reducible apply Moved.refl)
    | (with_reducible assumption)
    | (with_reducible apply Moved.fold)
    | (with_reducible apply Moved.fold_fst)
    | ((with_reducible apply Moved.via); (case k => with_reducible apply answer_moved); (case sub => decide))
    | (intro _ _)
    | (with_reducible apply Moved.ite)
    | split
    | dsimp only)

theorem donePlacementList_moved (a0 : _) (s : State) :
    Moved [.hub, .diag, .ledger, .fabric] s (donePlacementList a0 s) := by
  unfold donePlacementList
  try dsimp only
  repeat' (first
    | (with_reducible apply Moved.refl)
    | (with_reducible assumption)
    | (with_reducible apply Moved.fold)
    | (with_reducible apply Moved.fold_fst)
    | ((with_reducible apply Moved.via); (case k => with_reducible apply answer_moved); (case sub => decide))
    | (intro _ _)
    | (with_reducible apply Moved.ite)
    | split
    | dsimp only)

theorem doneQuotaSet_moved (a0 : _) (s : State) :
    Moved [.hub, .diag, .ledger, .place, .fabric] s (doneQuotaSet a0 s) := by
  unfold doneQuotaSet
  try dsimp only
  repeat' (first
    | (with_reducible apply Moved.refl)
    | (with_reducible assumption)
    | (with_reducible apply Moved.fold)
    | (with_reducible apply Moved.fold_fst)
    | ((with_reducible apply Moved.via); (case k => with_reducible apply answer_moved); (case sub => decide))
    | ((with_reducible apply Moved.via); (case k => (with_reducible apply modPlace_moved); intro _; first | exact PlaceStep.same rfl rfl | exact ⟨Nat.le_succ _, fun h => h⟩ | exact ⟨Nat.le_refl _, fun h => h.sub (List.filter_sublist ..)⟩ | (refine ⟨Nat.le_refl _, fun h => ?_⟩; refine h.mapAll ?_ (by dsimp only); intro _ _ h; first | exact h | (split <;> exact h) | (unfold Placement.window; exact h))); (case sub => decide))
    | (intro _ _)
    | (with_reducible apply Moved.ite)
    | split
    | dsimp only)

theorem doneJobPool_moved (a0 : _) (s : State) :
    Moved [.hub, .diag, .ledger, .place, .fabric, .infer, .fleet] s (doneJobPool a0 s) := by
  unfold doneJobPool
  try dsimp only
  repeat' (first
    | (with_reducible apply Moved.refl)
    | (with_reducible assumption)
    | (with_reducible apply Moved.fold)
    | (with_reducible apply Moved.fold_fst)
    | ((with_reducible apply Moved.via); (case k => with_reducible apply State.poolWithdrawn_moved); (case sub => decide))
    | ((with_reducible apply Moved.via); (case k => with_reducible apply State.modInfer_moved); (case sub => decide))
    | ((with_reducible apply Moved.via); (case k => with_reducible apply answer_moved); (case sub => decide))
    | ((with_reducible apply Moved.via); (case k => (with_reducible apply modPlace_moved); intro _; first | exact PlaceStep.same rfl rfl | exact ⟨Nat.le_succ _, fun h => h⟩ | exact ⟨Nat.le_refl _, fun h => h.sub (List.filter_sublist ..)⟩ | (refine ⟨Nat.le_refl _, fun h => ?_⟩; refine h.mapAll ?_ (by dsimp only); intro _ _ h; first | exact h | (split <;> exact h) | (unfold Placement.window; exact h))); (case sub => decide))
    | (intro _ _)
    | (with_reducible apply Moved.ite)
    | split
    | dsimp only)

theorem doneBootViewSet_moved (a0 : _) (s : State) :
    Moved [.hub, .diag, .ledger, .place, .fabric] s (doneBootViewSet a0 s) := by
  unfold doneBootViewSet
  try dsimp only
  repeat' (first
    | (with_reducible apply Moved.refl)
    | (with_reducible assumption)
    | (with_reducible apply Moved.fold)
    | (with_reducible apply Moved.fold_fst)
    | ((with_reducible apply Moved.via); (case k => with_reducible apply answer_moved); (case sub => decide))
    | ((with_reducible apply Moved.via); (case k => (with_reducible apply modPlace_moved); intro _; first | exact PlaceStep.same rfl rfl | exact ⟨Nat.le_succ _, fun h => h⟩ | exact ⟨Nat.le_refl _, fun h => h.sub (List.filter_sublist ..)⟩ | (refine ⟨Nat.le_refl _, fun h => ?_⟩; refine h.mapAll ?_ (by dsimp only); intro _ _ h; first | exact h | (split <;> exact h) | (unfold Placement.window; exact h))); (case sub => decide))
    | (intro _ _)
    | (with_reducible apply Moved.ite)
    | split
    | dsimp only)

theorem State.access_moved (s : State) (a1 : _) :
    Moved [.hub, .diag, .ledger, .place, .fleet] s (State.access s a1) := by
  unfold State.access
  try dsimp only
  repeat' (first
    | (with_reducible apply Moved.refl)
    | (with_reducible assumption)
    | (with_reducible apply Moved.fold)
    | (with_reducible apply Moved.fold_fst)
    | ((with_reducible apply Moved.via); (case k => with_reducible apply State.settlePin_moved); (case sub => decide))
    | ((with_reducible apply Moved.via); (case k => with_reducible apply State.writePlace_moved); (case sub => decide))
    | ((with_reducible apply Moved.via); (case k => (with_reducible apply modPlacement_moved); intro _ h; first | exact h | (split <;> exact h) | exact ⟨h.1, Memory.copyFrom_wf h.2 ..⟩ | exact ⟨h.1, by dsimp only; split <;> first | exact h.1 | exact h.2⟩); (case sub => decide))
    | (intro _ _)
    | (with_reducible apply Moved.ite)
    | split
    | dsimp only)

theorem State.promote_moved (s : State) (a1 : _) :
    Moved [.hub, .diag, .ledger, .place] s (State.promote s a1) := by
  unfold State.promote
  try dsimp only
  repeat' (first
    | (with_reducible apply Moved.refl)
    | (with_reducible assumption)
    | (with_reducible apply Moved.fold)
    | (with_reducible apply Moved.fold_fst)
    | ((with_reducible apply Moved.via); (case k => with_reducible apply State.startMoves_moved); (case sub => decide))
    | ((with_reducible apply Moved.via); (case k => with_reducible apply State.dropCopy_moved); (case sub => decide))
    | (intro _ _)
    | (with_reducible apply Moved.ite)
    | split
    | dsimp only)

theorem donePromotionWindow_moved (a0 : _) (a1 : _) (s : State) :
    Moved [.hub, .diag, .ledger, .place, .fleet] s (donePromotionWindow a0 a1 s) := by
  unfold donePromotionWindow
  try dsimp only
  repeat' (first
    | (with_reducible apply Moved.refl)
    | (with_reducible assumption)
    | (with_reducible apply Moved.fold)
    | (with_reducible apply Moved.fold_fst)
    | ((with_reducible apply Moved.via); (case k => with_reducible apply State.promote_moved); (case sub => decide))
    | ((with_reducible apply Moved.via); (case k => with_reducible apply State.access_moved); (case sub => decide))
    | ((with_reducible apply Moved.via); (case k => with_reducible apply State.pressures_moved); (case sub => decide))
    | ((with_reducible apply Moved.via); (case k => (with_reducible apply modPlace_moved); intro _; first | exact PlaceStep.same rfl rfl | exact ⟨Nat.le_succ _, fun h => h⟩ | exact ⟨Nat.le_refl _, fun h => h.sub (List.filter_sublist ..)⟩ | (refine ⟨Nat.le_refl _, fun h => ?_⟩; refine h.mapAll ?_ (by dsimp only); intro _ _ h; first | exact h | (split <;> exact h) | (unfold Placement.window; exact h))); (case sub => decide))
    | (intro _ _)
    | (with_reducible apply Moved.ite)
    | split
    | dsimp only)

theorem doneMigrationDone_moved (a0 : _) (a1 : _) (a2 : _) (s : State) :
    Moved [.hub, .diag, .ledger, .place] s (doneMigrationDone a0 a1 a2 s) := by
  unfold doneMigrationDone
  try dsimp only
  repeat' (first
    | (with_reducible apply Moved.refl)
    | (with_reducible assumption)
    | (with_reducible apply Moved.fold)
    | (with_reducible apply Moved.fold_fst)
    | ((with_reducible apply Moved.via); (case k => with_reducible apply State.finishViews_moved); (case sub => decide))
    | ((with_reducible apply Moved.via); (case k => with_reducible apply State.settlePin_moved); (case sub => decide))
    | ((with_reducible apply Moved.via); (case k => with_reducible apply State.startMoves_moved); (case sub => decide))
    | ((with_reducible apply Moved.via); (case k => with_reducible apply State.pressures_moved); (case sub => decide))
    | ((with_reducible apply Moved.via); (case k => (with_reducible apply modPlacement_moved); intro _ h; first | exact h | (split <;> exact h) | exact ⟨h.1, Memory.copyFrom_wf h.2 ..⟩ | exact ⟨h.1, by dsimp only; split <;> first | exact h.1 | exact h.2⟩); (case sub => decide))
    | ((with_reducible apply Moved.via); (case k => (with_reducible apply modPlace_moved); intro _; first | exact PlaceStep.same rfl rfl | exact ⟨Nat.le_succ _, fun h => h⟩ | exact ⟨Nat.le_refl _, fun h => h.sub (List.filter_sublist ..)⟩ | (refine ⟨Nat.le_refl _, fun h => ?_⟩; refine h.mapAll ?_ (by dsimp only); intro _ _ h; first | exact h | (split <;> exact h) | (unfold Placement.window; exact h))); (case sub => decide))
    | (intro _ _)
    | (with_reducible apply Moved.ite)
    | split
    | dsimp only)

theorem doneWriteBackStart_moved (a0 : _) (a1 : _) (a2 : _) (a3 : _) (s : State) :
    Moved [.hub, .diag, .ledger, .place] s (doneWriteBackStart a0 a1 a2 a3 s) := by
  unfold doneWriteBackStart
  try dsimp only
  repeat' (first
    | (with_reducible apply Moved.refl)
    | (with_reducible assumption)
    | (with_reducible apply Moved.fold)
    | (with_reducible apply Moved.fold_fst)
    | ((with_reducible apply Moved.via); (case k => with_reducible apply State.startUnit_moved); (case sub => decide))
    | (intro _ _)
    | (with_reducible apply Moved.ite)
    | split
    | dsimp only)

theorem doneWriteBackDone_moved (a0 : _) (a1 : _) (a2 : _) (s : State) :
    Moved [.hub, .diag, .ledger, .place] s (doneWriteBackDone a0 a1 a2 s) := by
  unfold doneWriteBackDone
  try dsimp only
  repeat' (first
    | (with_reducible apply Moved.refl)
    | (with_reducible assumption)
    | (with_reducible apply Moved.fold)
    | (with_reducible apply Moved.fold_fst)
    | ((with_reducible apply Moved.via); (case k => with_reducible apply State.wroteBack_moved); (case sub => decide))
    | (intro _ _)
    | (with_reducible apply Moved.ite)
    | split
    | dsimp only)

theorem doneShadowWrite_moved (a0 : _) (a1 : _) (a2 : _) (s : State) :
    Moved [.place] s (doneShadowWrite a0 a1 a2 s) := by
  unfold doneShadowWrite
  try dsimp only
  repeat' (first
    | (with_reducible apply Moved.refl)
    | (with_reducible assumption)
    | (with_reducible apply Moved.fold)
    | (with_reducible apply Moved.fold_fst)
    | ((with_reducible apply Moved.via); (case k => with_reducible apply State.shadowed_moved); (case sub => decide))
    | (intro _ _)
    | (with_reducible apply Moved.ite)
    | split
    | dsimp only)

theorem doneTierDegraded_moved (a0 : _) (a1 : _) (a2 : _) (a3 : _) (s : State) :
    Moved [.hub, .diag, .place] s (doneTierDegraded a0 a1 a2 a3 s) := by
  unfold doneTierDegraded
  try dsimp only
  repeat' (first
    | (with_reducible apply Moved.refl)
    | (with_reducible assumption)
    | (with_reducible apply Moved.fold)
    | (with_reducible apply Moved.fold_fst)
    | ((with_reducible apply Moved.via); (case k => (with_reducible apply modPlace_moved); intro _; first | exact PlaceStep.same rfl rfl | exact ⟨Nat.le_succ _, fun h => h⟩ | exact ⟨Nat.le_refl _, fun h => h.sub (List.filter_sublist ..)⟩ | (refine ⟨Nat.le_refl _, fun h => ?_⟩; refine h.mapAll ?_ (by dsimp only); intro _ _ h; first | exact h | (split <;> exact h) | (unfold Placement.window; exact h))); (case sub => decide))
    | ((with_reducible apply Moved.via); (case k => with_reducible apply State.raise_moved); (case sub => decide))
    | (intro _ _)
    | (with_reducible apply Moved.ite)
    | split
    | dsimp only)

theorem doneRestoreChunkDone_moved (a0 : _) (a1 : _) (a2 : _) (s : State) :
    Moved [.hub, .diag, .ledger, .place] s (doneRestoreChunkDone a0 a1 a2 s) := by
  unfold doneRestoreChunkDone
  try dsimp only
  repeat' (first
    | (with_reducible apply Moved.refl)
    | (with_reducible assumption)
    | (with_reducible apply Moved.fold)
    | (with_reducible apply Moved.fold_fst)
    | ((with_reducible apply Moved.via); (case k => with_reducible apply State.finishViews_moved); (case sub => decide))
    | ((with_reducible apply Moved.via); (case k => with_reducible apply State.settlePin_moved); (case sub => decide))
    | ((with_reducible apply Moved.via); (case k => (with_reducible apply modPlacement_moved); intro _ h; first | exact h | (split <;> exact h) | exact ⟨h.1, Memory.copyFrom_wf h.2 ..⟩ | exact ⟨h.1, by dsimp only; split <;> first | exact h.1 | exact h.2⟩); (case sub => decide))
    | (intro _ _)
    | (with_reducible apply Moved.ite)
    | split
    | dsimp only)

end Sys2Proof.Machine
end

