-- ==== Sys2Proof/Laws/MovedShiftOps.lean ====
section
/-! SUPPORT. What each operation of Machine/ShiftOps.lean may change: nothing but the parts named. -/

namespace Sys2Proof.Machine

set_option maxRecDepth 4000

theorem State.shiftTimers_moved (s : State) (a1 : _) :
    Moved [.hub, .power, .rung, .change, .fences, .islands, .auth, .jack, .control, .stage, .functions, .fieldIo, .place, .fabric, .nav, .vision, .infer, .buses, .eth, .fleet, .display, .safety, .update, .sections] s (State.shiftTimers s a1) := by
  have e : (s.shiftTimers a1).update = s.update.moved a1 := by unfold State.shiftTimers; dsimp only
  have f : FusesMoved s.update (s.update.moved a1) := by
    unfold Update.moved
    refine FusesMoved.mapAll ?_ (by dsimp only) rfl
    exact fun _ _ => rfl
  have g : PlaceStep s.place (s.place.moved a1) := by
    unfold Puppeteer.moved
    refine ⟨Nat.le_refl _, fun k => PlacesSound.mapAll k ?_ (by dsimp only)⟩
    exact fun _ _ h => h
  have e' : (s.shiftTimers a1).place = s.place.moved a1 := by unfold State.shiftTimers; dsimp only
  refine ⟨?_, ⟨.same ?_ ?_, e ▸ f, e' ▸ g⟩⟩
  · unfold State.shiftTimers
    constructor; intro p hp; cases p <;> first | exact absurd hp (by decide) | rfl
  all_goals unfold State.shiftTimers; dsimp only

end Sys2Proof.Machine
end

