-- ==== Sys2Proof/Laws/MovedExecPulse.lean ====
section
/-! SUPPORT. What each operation of Machine/ExecPulse.lean may change: nothing but the parts named. -/

namespace Sys2Proof.Machine

set_option maxRecDepth 4000

theorem doneModuleTimeTick_moved (a0 : _) (s : State) :
    Moved [.tick, .copies, .hub, .diag, .control, .fabric, .nav, .freeCount] s (doneModuleTimeTick a0 s) := by
  unfold doneModuleTimeTick
  try dsimp only
  repeat' (first
    | (with_reducible apply Moved.refl)
    | (with_reducible assumption)
    | (with_reducible apply Moved.fold)
    | (with_reducible apply Moved.fold_fst)
    | ((with_reducible apply Moved.via); (case k => with_reducible apply State.steerStale_moved); (case sub => decide))
    | ((with_reducible apply Moved.via); (case k => with_reducible apply State.setCopies_moved); (case sub => decide))
    | ((with_reducible apply Moved.via); (case k => with_reducible apply State.atTick_moved); (case sub => decide))
    | ((with_reducible apply Moved.via); (case k => with_reducible apply State.modLink_moved); (case sub => decide))
    | (intro _ _)
    | (with_reducible apply Moved.ite)
    | split
    | dsimp only)

theorem State.holdGates_moved (s : State) (a1 : _) (a2 : _) (a3 : _) :
    Moved [.eth] s (State.holdGates s a1 a2 a3) := by
  unfold State.holdGates
  try dsimp only
  repeat' (first
    | (with_reducible apply Moved.refl)
    | (with_reducible assumption)
    | (with_reducible apply Moved.fold)
    | (with_reducible apply Moved.fold_fst)
    | ((with_reducible apply Moved.via); (case k => with_reducible apply State.modEth_moved); (case sub => decide))
    | (intro _ _)
    | (with_reducible apply Moved.ite)
    | split
    | dsimp only)

theorem State.stepTime_moved (s : State) (a1 : _) (a2 : _) :
    Moved [.time, .tick, .hub, .power, .rung, .change, .fences, .islands, .auth, .diag, .jack, .control, .stage, .functions, .fieldIo, .place, .fabric, .nav, .vision, .infer, .buses, .eth, .fleet, .display, .safety, .update, .sections] s (State.stepTime s a1 a2) := by
  unfold State.stepTime
  try dsimp only
  repeat' (first
    | (with_reducible apply Moved.refl)
    | (with_reducible assumption)
    | (with_reducible apply Moved.fold)
    | (with_reducible apply Moved.fold_fst)
    | ((with_reducible apply Moved.via); (case k => with_reducible apply State.shiftTimers_moved); (case sub => decide))
    | ((with_reducible apply Moved.via); (case k => with_reducible apply State.atTime_moved); (case sub => decide))
    | ((with_reducible apply Moved.via); (case k => with_reducible apply State.holdGates_moved); (case sub => decide))
    | ((with_reducible apply Moved.via); (case k => with_reducible apply State.atTick_moved); (case sub => decide))
    | ((with_reducible apply Moved.via); (case k => with_reducible apply State.modRtk_moved); (case sub => decide))
    | ((with_reducible apply Moved.via); (case k => with_reducible apply State.setTime_moved); (case sub => decide))
    | ((with_reducible apply Moved.via); (case k => with_reducible apply State.modFusion_moved); (case sub => decide))
    | ((with_reducible apply Moved.via); (case k => with_reducible apply State.modControl_moved); (case sub => decide))
    | ((with_reducible apply Moved.via); (case k => with_reducible apply State.raise_moved); (case sub => decide))
    | ((with_reducible apply Moved.via); (case k => with_reducible apply State.count_moved); (case sub => decide))
    | (intro _ _)
    | (with_reducible apply Moved.ite)
    | split
    | dsimp only)

theorem doneTimePulse_moved (a0 : _) (s : State) :
    Moved [.time, .tick, .hub, .power, .rung, .change, .fences, .islands, .auth, .diag, .jack, .control, .stage, .functions, .fieldIo, .place, .fabric, .nav, .vision, .infer, .buses, .eth, .fleet, .display, .safety, .update, .sections] s (doneTimePulse a0 s) := by
  unfold doneTimePulse
  try dsimp only
  repeat' (first
    | (with_reducible apply Moved.refl)
    | (with_reducible assumption)
    | (with_reducible apply Moved.fold)
    | (with_reducible apply Moved.fold_fst)
    | ((with_reducible apply Moved.via); (case k => with_reducible apply State.emitPulse_moved); (case sub => decide))
    | ((with_reducible apply Moved.via); (case k => with_reducible apply State.stepTime_moved); (case sub => decide))
    | ((with_reducible apply Moved.via); (case k => with_reducible apply State.modTimekeeper_moved); (case sub => decide))
    | (intro _ _)
    | (with_reducible apply Moved.ite)
    | split
    | dsimp only)

end Sys2Proof.Machine
end

