-- ==== Sys2Proof/Laws/MovedExecSafety.lean ====
section
/-! SUPPORT. What each operation of Machine/ExecSafety.lean may change: nothing but the parts named. -/

namespace Sys2Proof.Machine

set_option maxRecDepth 4000

theorem State.sampleGround_moved (s : State) (a1 : _) :
    Moved [.hub, .diag, .safety] s (State.sampleGround s a1) := by
  unfold State.sampleGround
  try dsimp only
  repeat' (first
    | (with_reducible apply Moved.refl)
    | (with_reducible assumption)
    | (with_reducible apply Moved.fold)
    | (with_reducible apply Moved.fold_fst)
    | ((with_reducible apply Moved.via); (case k => with_reducible apply State.tellSafeFault_moved); (case sub => decide))
    | ((with_reducible apply Moved.via); (case k => with_reducible apply State.openCut_moved); (case sub => decide))
    | ((with_reducible apply Moved.via); (case k => (with_reducible apply modSafety_moved (qs := [.safety])); intro m p hp; cases p <;> first | exact absurd hp (by decide) | exact trivial | rfl | (split <;> rfl) | (unfold ModeState.supLost; split <;> rfl)); (case sub => decide))
    | (intro _ _)
    | (with_reducible apply Moved.ite)
    | split
    | dsimp only)

theorem doneSafeInSample_moved (a0 : _) (a1 : _) (s : State) :
    Moved [.hub, .change, .diag, .safety] s (doneSafeInSample a0 a1 s) := by
  unfold doneSafeInSample
  try dsimp only
  repeat' (first
    | (with_reducible apply Moved.refl)
    | (with_reducible assumption)
    | (with_reducible apply Moved.fold)
    | (with_reducible apply Moved.fold_fst)
    | ((with_reducible apply Moved.via); (case k => with_reducible apply State.safeFault_moved); (case sub => decide))
    | ((with_reducible apply Moved.via); (case k => with_reducible apply State.modSafeIn_moved); (case sub => decide))
    | ((with_reducible apply Moved.via); (case k => with_reducible apply State.sampleGround_moved); (case sub => decide))
    | ((with_reducible apply Moved.via); (case k => with_reducible apply State.count_moved); (case sub => decide))
    | (intro _ _)
    | (with_reducible apply Moved.ite)
    | split
    | dsimp only)

theorem doneSafeInAccept_moved (a0 : _) (a1 : _) (s : State) :
    Moved [.hub, .diag, .safety] s (doneSafeInAccept a0 a1 s) := by
  unfold doneSafeInAccept
  try dsimp only
  repeat' (first
    | (with_reducible apply Moved.refl)
    | (with_reducible assumption)
    | (with_reducible apply Moved.fold)
    | (with_reducible apply Moved.fold_fst)
    | ((with_reducible apply Moved.via); (case k => with_reducible apply State.modSafeIn_moved); (case sub => decide))
    | ((with_reducible apply Moved.via); (case k => with_reducible apply State.tellSafeFault_moved); (case sub => decide))
    | ((with_reducible apply Moved.via); (case k => with_reducible apply State.count_moved); (case sub => decide))
    | (intro _ _)
    | (with_reducible apply Moved.ite)
    | split
    | dsimp only)

theorem doneInputPathTest_moved (a0 : _) (a1 : _) (s : State) :
    Moved [.hub, .change, .diag, .safety] s (doneInputPathTest a0 a1 s) := by
  unfold doneInputPathTest
  try dsimp only
  repeat' (first
    | (with_reducible apply Moved.refl)
    | (with_reducible assumption)
    | (with_reducible apply Moved.fold)
    | (with_reducible apply Moved.fold_fst)
    | ((with_reducible apply Moved.via); (case k => with_reducible apply State.safeFault_moved); (case sub => decide))
    | ((with_reducible apply Moved.via); (case k => with_reducible apply State.count_moved); (case sub => decide))
    | (intro _ _)
    | (with_reducible apply Moved.ite)
    | split
    | dsimp only)

theorem State.tellReset_moved (s : State) (a1 : _) (a2 : _) (a3 : _) :
    Moved [.hub, .diag] s (State.tellReset s a1 a2 a3) := by
  unfold State.tellReset
  try dsimp only
  repeat' (first
    | (with_reducible apply Moved.refl)
    | (with_reducible assumption)
    | (with_reducible apply Moved.fold)
    | (with_reducible apply Moved.fold_fst)
    | ((with_reducible apply Moved.via); (case k => with_reducible apply State.raise_moved); (case sub => decide))
    | (intro _ _)
    | (with_reducible apply Moved.ite)
    | split
    | dsimp only)

theorem doneSafeRstEdge_moved (a0 : _) (a1 : _) (s : State) :
    Moved [.hub, .diag, .safety] s (doneSafeRstEdge a0 a1 s) := by
  unfold doneSafeRstEdge
  try dsimp only
  repeat' (first
    | (with_reducible apply Moved.refl)
    | (with_reducible assumption)
    | (with_reducible apply Moved.fold)
    | (with_reducible apply Moved.fold_fst)
    | ((with_reducible apply Moved.via); (case k => with_reducible apply State.tellReset_moved); (case sub => decide))
    | ((with_reducible apply Moved.via); (case k => with_reducible apply State.tellSafeFault_moved); (case sub => decide))
    | ((with_reducible apply Moved.via); (case k => (with_reducible apply modSafety_moved (qs := [.safety])); intro m p hp; cases p <;> first | exact absurd hp (by decide) | exact trivial | rfl | (split <;> rfl) | (unfold ModeState.supLost; split <;> rfl)); (case sub => decide))
    | ((with_reducible apply Moved.via); (case k => with_reducible apply State.count_moved); (case sub => decide))
    | (intro _ _)
    | (with_reducible apply Moved.ite)
    | split
    | dsimp only)

theorem doneSafeRstStuck_moved (a0 : _) (s : State) :
    Moved [.hub, .diag, .safety] s (doneSafeRstStuck a0 s) := by
  unfold doneSafeRstStuck
  try dsimp only
  repeat' (first
    | (with_reducible apply Moved.refl)
    | (with_reducible assumption)
    | (with_reducible apply Moved.fold)
    | (with_reducible apply Moved.fold_fst)
    | ((with_reducible apply Moved.via); (case k => with_reducible apply State.tellSafeFault_moved); (case sub => decide))
    | ((with_reducible apply Moved.via); (case k => (with_reducible apply modSafety_moved (qs := [.safety])); intro m p hp; cases p <;> first | exact absurd hp (by decide) | exact trivial | rfl | (split <;> rfl) | (unfold ModeState.supLost; split <;> rfl)); (case sub => decide))
    | (intro _ _)
    | (with_reducible apply Moved.ite)
    | split
    | dsimp only)

theorem doneSafeTestPulse_moved (a0 : _) (a1 : _) (s : State) :
    Moved [.diag, .safety] s (doneSafeTestPulse a0 a1 s) := by
  unfold doneSafeTestPulse
  try dsimp only
  repeat' (first
    | (with_reducible apply Moved.refl)
    | (with_reducible assumption)
    | (with_reducible apply Moved.fold)
    | (with_reducible apply Moved.fold_fst)
    | ((with_reducible apply Moved.via); (case k => with_reducible apply State.modSafeOut_moved); (case sub => decide))
    | ((with_reducible apply Moved.via); (case k => with_reducible apply State.count_moved); (case sub => decide))
    | (intro _ _)
    | (with_reducible apply Moved.ite)
    | split
    | dsimp only)

theorem doneSafeTestPulseEnd_moved (a0 : _) (a1 : _) (a2 : _) (s : State) :
    Moved [.hub, .diag, .safety] s (doneSafeTestPulseEnd a0 a1 a2 s) := by
  unfold doneSafeTestPulseEnd
  try dsimp only
  repeat' (first
    | (with_reducible apply Moved.refl)
    | (with_reducible assumption)
    | (with_reducible apply Moved.fold)
    | (with_reducible apply Moved.fold_fst)
    | ((with_reducible apply Moved.via); (case k => with_reducible apply State.latchOut_moved); (case sub => decide))
    | ((with_reducible apply Moved.via); (case k => with_reducible apply State.modSafeOut_moved); (case sub => decide))
    | (intro _ _)
    | (with_reducible apply Moved.ite)
    | split
    | dsimp only)

theorem doneSafeOutOvercurrent_moved (a0 : _) (a1 : _) (s : State) :
    Moved [.hub, .diag, .safety] s (doneSafeOutOvercurrent a0 a1 s) := by
  unfold doneSafeOutOvercurrent
  try dsimp only
  repeat' (first
    | (with_reducible apply Moved.refl)
    | (with_reducible assumption)
    | (with_reducible apply Moved.fold)
    | (with_reducible apply Moved.fold_fst)
    | ((with_reducible apply Moved.via); (case k => with_reducible apply State.latchOut_moved); (case sub => decide))
    | (intro _ _)
    | (with_reducible apply Moved.ite)
    | split
    | dsimp only)

theorem doneSafeOpenLoad_moved (a0 : _) (a1 : _) (a2 : _) (s : State) :
    Moved [.safety] s (doneSafeOpenLoad a0 a1 a2 s) := by
  unfold doneSafeOpenLoad
  try dsimp only
  repeat' (first
    | (with_reducible apply Moved.refl)
    | (with_reducible assumption)
    | (with_reducible apply Moved.fold)
    | (with_reducible apply Moved.fold_fst)
    | ((with_reducible apply Moved.via); (case k => with_reducible apply State.modSafeOut_moved); (case sub => decide))
    | (intro _ _)
    | (with_reducible apply Moved.ite)
    | split
    | dsimp only)

theorem State.applyMove_moved (s : State) (a1 : _) :
    Moved [.safety] s (State.applyMove s a1) := by
  unfold State.applyMove
  try dsimp only
  repeat' (first
    | (with_reducible apply Moved.refl)
    | (with_reducible assumption)
    | (with_reducible apply Moved.fold)
    | (with_reducible apply Moved.fold_fst)
    | ((with_reducible apply Moved.via); (case k => with_reducible apply State.modSafeFn_moved); (case sub => decide))
    | (intro _ _)
    | (with_reducible apply Moved.ite)
    | split
    | dsimp only)

theorem State.noteDemand_moved (s : State) (a1 : _) :
    Moved [.change, .diag, .safety] s (State.noteDemand s a1) := by
  unfold State.noteDemand
  try dsimp only
  repeat' (first
    | (with_reducible apply Moved.refl)
    | (with_reducible assumption)
    | (with_reducible apply Moved.fold)
    | (with_reducible apply Moved.fold_fst)
    | ((with_reducible apply Moved.via); (case k => (with_reducible apply modSafety_moved (qs := [.safety])); intro m p hp; cases p <;> first | exact absurd hp (by decide) | exact trivial | rfl | (split <;> rfl) | (unfold ModeState.supLost; split <;> rfl)); (case sub => decide))
    | ((with_reducible apply Moved.via); (case k => with_reducible apply State.askHold_moved); (case sub => decide))
    | ((with_reducible apply Moved.via); (case k => with_reducible apply State.count_moved); (case sub => decide))
    | ((with_reducible apply Moved.via); (case k => (with_reducible apply modMode_moved (qs := [.change])); intro m p hp; cases p <;> first | exact absurd hp (by decide) | exact trivial | rfl | (split <;> rfl) | (unfold ModeState.supLost; split <;> rfl)); (case sub => decide))
    | (intro _ _)
    | (with_reducible apply Moved.ite)
    | split
    | dsimp only)

theorem State.readBack_moved (s : State) (a1 : _) (a2 : _) :
    Moved [.hub, .diag, .safety] s (State.readBack s a1 a2) := by
  unfold State.readBack
  try dsimp only
  repeat' (first
    | (with_reducible apply Moved.refl)
    | (with_reducible assumption)
    | (with_reducible apply Moved.fold)
    | (with_reducible apply Moved.fold_fst)
    | ((with_reducible apply Moved.via); (case k => with_reducible apply State.latchOut_moved); (case sub => decide))
    | ((with_reducible apply Moved.via); (case k => with_reducible apply State.modSafeOut_moved); (case sub => decide))
    | (intro _ _)
    | (with_reducible apply Moved.ite)
    | split
    | dsimp only)

theorem State.clearFaults_moved (s : State) :
    Moved [.hub, .diag, .safety] s (State.clearFaults s).1 := by
  unfold State.clearFaults
  try dsimp only
  repeat' (first
    | (with_reducible apply Moved.refl)
    | (with_reducible assumption)
    | (with_reducible apply Moved.fold)
    | (with_reducible apply Moved.fold_fst)
    | ((with_reducible apply Moved.via); (case k => with_reducible apply State.modSafeIn_moved); (case sub => decide))
    | ((with_reducible apply Moved.via); (case k => with_reducible apply State.tellSafeFault_moved); (case sub => decide))
    | ((with_reducible apply Moved.via); (case k => with_reducible apply State.modSafeOut_moved); (case sub => decide))
    | ((with_reducible apply Moved.via); (case k => (with_reducible apply modSafety_moved (qs := [.safety])); intro m p hp; cases p <;> first | exact absurd hp (by decide) | exact trivial | rfl | (split <;> rfl) | (unfold ModeState.supLost; split <;> rfl)); (case sub => decide))
    | (intro _ _)
    | (with_reducible apply Moved.ite)
    | split
    | dsimp only)

theorem State.resetEdge_moved (s : State) :
    Moved [.hub, .change, .diag, .safety] s (State.resetEdge s).1 := by
  unfold State.resetEdge
  try dsimp only
  repeat' (first
    | (with_reducible apply Moved.refl)
    | (with_reducible assumption)
    | (with_reducible apply Moved.fold)
    | (with_reducible apply Moved.fold_fst)
    | ((with_reducible apply Moved.via); (case k => with_reducible apply State.clearFaults_moved); (case sub => decide))
    | ((with_reducible apply Moved.via); (case k => with_reducible apply State.applyMove_moved); (case sub => decide))
    | ((with_reducible apply Moved.via); (case k => with_reducible apply State.tellReset_moved); (case sub => decide))
    | ((with_reducible apply Moved.via); (case k => (with_reducible apply modSafety_moved (qs := [.safety])); intro m p hp; cases p <;> first | exact absurd hp (by decide) | exact trivial | rfl | (split <;> rfl) | (unfold ModeState.supLost; split <;> rfl)); (case sub => decide))
    | ((with_reducible apply Moved.via); (case k => with_reducible apply State.count_moved); (case sub => decide))
    | ((with_reducible apply Moved.via); (case k => (with_reducible apply modMode_moved (qs := [.change])); intro m p hp; cases p <;> first | exact absurd hp (by decide) | exact trivial | rfl | (split <;> rfl) | (unfold ModeState.supLost; split <;> rfl)); (case sub => decide))
    | (intro _ _)
    | (with_reducible apply Moved.ite)
    | split
    | (refine Moved.fst (by assumption) ?_)
    | dsimp only)

theorem doneRstStuckClear_moved (a0 : _) (s : State) :
    Moved [.hub, .diag, .safety] s (doneRstStuckClear a0 s) := by
  unfold doneRstStuckClear
  try dsimp only
  repeat' (first
    | (with_reducible apply Moved.refl)
    | (with_reducible assumption)
    | (with_reducible apply Moved.fold)
    | (with_reducible apply Moved.fold_fst)
    | ((with_reducible apply Moved.via); (case k => with_reducible apply State.tellSafeFault_moved); (case sub => decide))
    | ((with_reducible apply Moved.via); (case k => (with_reducible apply modSafety_moved (qs := [.safety])); intro m p hp; cases p <;> first | exact absurd hp (by decide) | exact trivial | rfl | (split <;> rfl) | (unfold ModeState.supLost; split <;> rfl)); (case sub => decide))
    | (intro _ _)
    | (with_reducible apply Moved.ite)
    | split
    | dsimp only)

theorem doneSafetyLogicCycle_moved (a0 : _) (a1 : _) (s : State) :
    Moved [.hub, .change, .diag, .safety] s (doneSafetyLogicCycle a0 a1 s) := by
  unfold doneSafetyLogicCycle
  try dsimp only
  repeat' (first
    | (with_reducible apply Moved.refl)
    | (with_reducible assumption)
    | (with_reducible apply Moved.fold)
    | (with_reducible apply Moved.fold_fst)
    | ((with_reducible apply Moved.via); (case k => with_reducible apply State.resetEdge_moved); (case sub => decide))
    | ((with_reducible apply Moved.via); (case k => with_reducible apply State.readBack_moved); (case sub => decide))
    | ((with_reducible apply Moved.via); (case k => with_reducible apply State.noteDemand_moved); (case sub => decide))
    | ((with_reducible apply Moved.via); (case k => with_reducible apply State.applyMove_moved); (case sub => decide))
    | ((with_reducible apply Moved.via); (case k => with_reducible apply State.safeFault_moved); (case sub => decide))
    | ((with_reducible apply Moved.via); (case k => with_reducible apply State.setOutputs_moved); (case sub => decide))
    | ((with_reducible apply Moved.via); (case k => with_reducible apply State.tellFn_moved); (case sub => decide))
    | (intro _ _)
    | (with_reducible apply Moved.ite)
    | split
    | (refine Moved.fst (by assumption) ?_)
    | dsimp only)

theorem doneStopDelayExpiry_moved (a0 : _) (a1 : _) (s : State) :
    Moved [.hub, .diag, .safety] s (doneStopDelayExpiry a0 a1 s) := by
  unfold doneStopDelayExpiry
  try dsimp only
  repeat' (first
    | (with_reducible apply Moved.refl)
    | (with_reducible assumption)
    | (with_reducible apply Moved.fold)
    | (with_reducible apply Moved.fold_fst)
    | ((with_reducible apply Moved.via); (case k => with_reducible apply State.applyMove_moved); (case sub => decide))
    | ((with_reducible apply Moved.via); (case k => with_reducible apply State.setOutputs_moved); (case sub => decide))
    | ((with_reducible apply Moved.via); (case k => with_reducible apply State.tellFn_moved); (case sub => decide))
    | (intro _ _)
    | (with_reducible apply Moved.ite)
    | split
    | dsimp only)

theorem doneRamMarch_moved (a0 : _) (a1 : _) (s : State) :
    Moved [.hub, .change, .diag, .safety] s (doneRamMarch a0 a1 s) := by
  unfold doneRamMarch
  try dsimp only
  repeat' (first
    | (with_reducible apply Moved.refl)
    | (with_reducible assumption)
    | (with_reducible apply Moved.fold)
    | (with_reducible apply Moved.fold_fst)
    | ((with_reducible apply Moved.via); (case k => with_reducible apply State.safeFault_moved); (case sub => decide))
    | (intro _ _)
    | (with_reducible apply Moved.ite)
    | split
    | dsimp only)

theorem doneCodeCrcCheck_moved (a0 : _) (a1 : _) (s : State) :
    Moved [.hub, .change, .diag, .safety] s (doneCodeCrcCheck a0 a1 s) := by
  unfold doneCodeCrcCheck
  try dsimp only
  repeat' (first
    | (with_reducible apply Moved.refl)
    | (with_reducible assumption)
    | (with_reducible apply Moved.fold)
    | (with_reducible apply Moved.fold_fst)
    | ((with_reducible apply Moved.via); (case k => with_reducible apply State.safeFault_moved); (case sub => decide))
    | (intro _ _)
    | (with_reducible apply Moved.ite)
    | split
    | dsimp only)

theorem doneClockCompare_moved (a0 : _) (a1 : _) (s : State) :
    Moved [.hub, .change, .diag, .safety] s (doneClockCompare a0 a1 s) := by
  unfold doneClockCompare
  try dsimp only
  repeat' (first
    | (with_reducible apply Moved.refl)
    | (with_reducible assumption)
    | (with_reducible apply Moved.fold)
    | (with_reducible apply Moved.fold_fst)
    | ((with_reducible apply Moved.via); (case k => with_reducible apply State.safeFault_moved); (case sub => decide))
    | (intro _ _)
    | (with_reducible apply Moved.ite)
    | split
    | dsimp only)

theorem doneSafSelftest_moved (a0 : _) (a1 : _) (s : State) :
    Moved [.hub, .change, .diag, .safety, .update] s (doneSafSelftest a0 a1 s) := by
  unfold doneSafSelftest
  try dsimp only
  repeat' (first
    | (with_reducible apply Moved.refl)
    | (with_reducible assumption)
    | (with_reducible apply Moved.fold)
    | (with_reducible apply Moved.fold_fst)
    | ((with_reducible apply Moved.via); (case k => with_reducible apply State.safeFault_moved); (case sub => decide))
    | ((with_reducible apply Moved.via); (case k => with_reducible apply State.safStart_moved); (case sub => decide))
    | ((with_reducible apply Moved.via); (case k => with_reducible apply State.finishAct_moved); (case sub => decide))
    | (intro _ _)
    | (with_reducible apply Moved.ite)
    | split
    | dsimp only)

theorem doneSafetyStatus_moved (a0 : _) (s : State) :
    Moved [.hub, .diag, .ledger, .fabric] s (doneSafetyStatus a0 s) := by
  unfold doneSafetyStatus
  try dsimp only
  repeat' (first
    | (with_reducible apply Moved.refl)
    | (with_reducible assumption)
    | (with_reducible apply Moved.fold)
    | (with_reducible apply Moved.fold_fst)
    | ((with_reducible apply Moved.via); (case k => with_reducible apply answer_moved); (case sub => decide))
    | (intro _ _)
    | (with_reducible apply Moved.ite)
    | split
    | dsimp only)

theorem doneConfigRead_moved (a0 : _) (s : State) :
    Moved [.hub, .diag, .ledger, .fabric, .freeCount] s (doneConfigRead a0 s) := by
  unfold doneConfigRead
  try dsimp only
  repeat' (first
    | (with_reducible apply Moved.refl)
    | (with_reducible assumption)
    | (with_reducible apply Moved.fold)
    | (with_reducible apply Moved.fold_fst)
    | ((with_reducible apply Moved.via); (case k => with_reducible apply answer_moved); (case sub => decide))
    | ((with_reducible apply Moved.via); (case k => with_reducible apply State.spend_moved); (case sub => decide))
    | (intro _ _)
    | (with_reducible apply Moved.ite)
    | split
    | dsimp only)

theorem doneConfigStage_moved (a0 : _) (s : State) :
    Moved [.hub, .diag, .ledger, .fabric, .safetyRecord] s (doneConfigStage a0 s) := by
  unfold doneConfigStage
  try dsimp only
  repeat' (first
    | (with_reducible apply Moved.refl)
    | (with_reducible assumption)
    | (with_reducible apply Moved.fold)
    | (with_reducible apply Moved.fold_fst)
    | ((with_reducible apply Moved.via); (case k => (with_reducible apply modSafety_moved (qs := [.safetyRecord])); intro m p hp; cases p <;> first | exact absurd hp (by decide) | exact trivial | rfl | (split <;> rfl) | (unfold ModeState.supLost; split <;> rfl)); (case sub => decide))
    | ((with_reducible apply Moved.via); (case k => with_reducible apply answer_moved); (case sub => decide))
    | (intro _ _)
    | (with_reducible apply Moved.ite)
    | split
    | dsimp only)

theorem doneConfigCommit_moved (a0 : _) (s : State) :
    Moved [.hub, .diag, .ledger, .fabric, .safety, .safetyRecord] s (doneConfigCommit a0 s) := by
  unfold doneConfigCommit
  try dsimp only
  repeat' (first
    | (with_reducible apply Moved.refl)
    | (with_reducible assumption)
    | (with_reducible apply Moved.fold)
    | (with_reducible apply Moved.fold_fst)
    | ((with_reducible apply Moved.via); (case k => with_reducible apply State.restartFns_moved); (case sub => decide))
    | ((with_reducible apply Moved.via); (case k => with_reducible apply State.appendLog_moved); (case sub => decide))
    | ((with_reducible apply Moved.via); (case k => with_reducible apply State.safeAllOff_moved); (case sub => decide))
    | ((with_reducible apply Moved.via); (case k => (with_reducible apply modSafety_moved (qs := [.safetyRecord])); intro m p hp; cases p <;> first | exact absurd hp (by decide) | exact trivial | rfl | (split <;> rfl) | (unfold ModeState.supLost; split <;> rfl)); (case sub => decide))
    | ((with_reducible apply Moved.via); (case k => with_reducible apply answer_moved); (case sub => decide))
    | (intro _ _)
    | (with_reducible apply Moved.ite)
    | split
    | dsimp only)

theorem doneSafetyValidate_moved (a0 : _) (s : State) :
    Moved [.hub, .diag, .ledger, .fabric, .safetyRecord] s (doneSafetyValidate a0 s) := by
  unfold doneSafetyValidate
  try dsimp only
  repeat' (first
    | (with_reducible apply Moved.refl)
    | (with_reducible assumption)
    | (with_reducible apply Moved.fold)
    | (with_reducible apply Moved.fold_fst)
    | ((with_reducible apply Moved.via); (case k => with_reducible apply State.appendLog_moved); (case sub => decide))
    | ((with_reducible apply Moved.via); (case k => (with_reducible apply modSafety_moved (qs := [.safetyRecord])); intro m p hp; cases p <;> first | exact absurd hp (by decide) | exact trivial | rfl | (split <;> rfl) | (unfold ModeState.supLost; split <;> rfl)); (case sub => decide))
    | ((with_reducible apply Moved.via); (case k => with_reducible apply answer_moved); (case sub => decide))
    | (intro _ _)
    | (with_reducible apply Moved.ite)
    | split
    | dsimp only)

theorem donePasswordSet_moved (a0 : _) (s : State) :
    Moved [.hub, .diag, .ledger, .fabric, .safetyRecord] s (donePasswordSet a0 s) := by
  unfold donePasswordSet
  try dsimp only
  repeat' (first
    | (with_reducible apply Moved.refl)
    | (with_reducible assumption)
    | (with_reducible apply Moved.fold)
    | (with_reducible apply Moved.fold_fst)
    | ((with_reducible apply Moved.via); (case k => with_reducible apply State.appendLog_moved); (case sub => decide))
    | ((with_reducible apply Moved.via); (case k => (with_reducible apply modSafety_moved (qs := [.safetyRecord])); intro m p hp; cases p <;> first | exact absurd hp (by decide) | exact trivial | rfl | (split <;> rfl) | (unfold ModeState.supLost; split <;> rfl)); (case sub => decide))
    | ((with_reducible apply Moved.via); (case k => with_reducible apply answer_moved); (case sub => decide))
    | (intro _ _)
    | (with_reducible apply Moved.ite)
    | split
    | dsimp only)

theorem doneLogRead_moved (a0 : _) (s : State) :
    Moved [.hub, .diag, .ledger, .fabric] s (doneLogRead a0 s) := by
  unfold doneLogRead
  try dsimp only
  repeat' (first
    | (with_reducible apply Moved.refl)
    | (with_reducible assumption)
    | (with_reducible apply Moved.fold)
    | (with_reducible apply Moved.fold_fst)
    | ((with_reducible apply Moved.via); (case k => with_reducible apply answer_moved); (case sub => decide))
    | (intro _ _)
    | (with_reducible apply Moved.ite)
    | split
    | dsimp only)

theorem doneOffRequest_moved (a0 : _) (s : State) :
    Moved [.hub, .diag, .ledger, .fabric, .safety] s (doneOffRequest a0 s) := by
  unfold doneOffRequest
  try dsimp only
  repeat' (first
    | (with_reducible apply Moved.refl)
    | (with_reducible assumption)
    | (with_reducible apply Moved.fold)
    | (with_reducible apply Moved.fold_fst)
    | ((with_reducible apply Moved.via); (case k => (with_reducible apply modSafety_moved (qs := [.safety])); intro m p hp; cases p <;> first | exact absurd hp (by decide) | exact trivial | rfl | (split <;> rfl) | (unfold ModeState.supLost; split <;> rfl)); (case sub => decide))
    | ((with_reducible apply Moved.via); (case k => with_reducible apply answer_moved); (case sub => decide))
    | (intro _ _)
    | (with_reducible apply Moved.ite)
    | split
    | dsimp only)

end Sys2Proof.Machine
end

