-- ==== Sys2Proof/Laws/MovedExecSection.lean ====
section
/-! SUPPORT. What each operation of Machine/ExecSection.lean may change: nothing but the parts named. -/

namespace Sys2Proof.Machine

set_option maxRecDepth 4000

theorem doneImplementSet_moved (a0 : _) (s : State) :
    Moved [.hub, .diag, .ledger, .fabric, .sections] s (doneImplementSet a0 s) := by
  unfold doneImplementSet
  try dsimp only
  repeat' (first
    | (with_reducible apply Moved.refl)
    | (with_reducible assumption)
    | (with_reducible apply Moved.fold)
    | (with_reducible apply Moved.fold_fst)
    | ((with_reducible apply Moved.via); (case k => with_reducible apply answer_moved); (case sub => decide))
    | ((with_reducible apply Moved.via); (case k => with_reducible apply State.modSections_moved); (case sub => decide))
    | (intro _ _)
    | (with_reducible apply Moved.ite)
    | split
    | dsimp only)

theorem doneSectionsSet_moved (a0 : _) (s : State) :
    Moved [.hub, .diag, .ledger, .fabric, .sections] s (doneSectionsSet a0 s) := by
  unfold doneSectionsSet
  try dsimp only
  repeat' (first
    | (with_reducible apply Moved.refl)
    | (with_reducible assumption)
    | (with_reducible apply Moved.fold)
    | (with_reducible apply Moved.fold_fst)
    | ((with_reducible apply Moved.via); (case k => with_reducible apply answer_moved); (case sub => decide))
    | ((with_reducible apply Moved.via); (case k => with_reducible apply State.modSections_moved); (case sub => decide))
    | (intro _ _)
    | (with_reducible apply Moved.ite)
    | split
    | dsimp only)

theorem doneSectionEngine_moved (a0 : _) (s : State) :
    Moved [.hub, .diag, .ledger, .fabric, .sections] s (doneSectionEngine a0 s) := by
  unfold doneSectionEngine
  try dsimp only
  repeat' (first
    | (with_reducible apply Moved.refl)
    | (with_reducible assumption)
    | (with_reducible apply Moved.fold)
    | (with_reducible apply Moved.fold_fst)
    | ((with_reducible apply Moved.via); (case k => with_reducible apply answer_moved); (case sub => decide))
    | ((with_reducible apply Moved.via); (case k => with_reducible apply State.stopEngine_moved); (case sub => decide))
    | ((with_reducible apply Moved.via); (case k => with_reducible apply State.setEngine_moved); (case sub => decide))
    | ((with_reducible apply Moved.via); (case k => with_reducible apply State.modSections_moved); (case sub => decide))
    | (intro _ _)
    | (with_reducible apply Moved.ite)
    | split
    | dsimp only)

theorem doneSectionOverride_moved (a0 : _) (s : State) :
    Moved [.hub, .diag, .ledger, .fabric, .sections] s (doneSectionOverride a0 s) := by
  unfold doneSectionOverride
  try dsimp only
  repeat' (first
    | (with_reducible apply Moved.refl)
    | (with_reducible assumption)
    | (with_reducible apply Moved.fold)
    | (with_reducible apply Moved.fold_fst)
    | ((with_reducible apply Moved.via); (case k => with_reducible apply answer_moved); (case sub => decide))
    | ((with_reducible apply Moved.via); (case k => with_reducible apply State.modSections_moved); (case sub => decide))
    | (intro _ _)
    | (with_reducible apply Moved.ite)
    | split
    | dsimp only)

theorem doneSectionSchedule_moved (a0 : _) (s : State) :
    Moved [.hub, .diag, .ledger, .fabric, .sections] s (doneSectionSchedule a0 s) := by
  unfold doneSectionSchedule
  try dsimp only
  repeat' (first
    | (with_reducible apply Moved.refl)
    | (with_reducible assumption)
    | (with_reducible apply Moved.fold)
    | (with_reducible apply Moved.fold_fst)
    | ((with_reducible apply Moved.via); (case k => with_reducible apply State.accepted_moved); (case sub => decide))
    | ((with_reducible apply Moved.via); (case k => with_reducible apply State.queueEdge_moved); (case sub => decide))
    | ((with_reducible apply Moved.via); (case k => with_reducible apply State.modSections_moved); (case sub => decide))
    | (intro _ _)
    | (with_reducible apply Moved.ite)
    | split
    | dsimp only)

theorem doneEdgeCancel_moved (a0 : _) (s : State) :
    Moved [.hub, .diag, .ledger, .fabric, .sections] s (doneEdgeCancel a0 s) := by
  unfold doneEdgeCancel
  try dsimp only
  repeat' (first
    | (with_reducible apply Moved.refl)
    | (with_reducible assumption)
    | (with_reducible apply Moved.fold)
    | (with_reducible apply Moved.fold_fst)
    | ((with_reducible apply Moved.via); (case k => with_reducible apply answer_moved); (case sub => decide))
    | ((with_reducible apply Moved.via); (case k => with_reducible apply State.removeEdges_moved); (case sub => decide))
    | (intro _ _)
    | (with_reducible apply Moved.ite)
    | split
    | dsimp only)

theorem doneSectionStatus_moved (a0 : _) (s : State) :
    Moved [.hub, .diag, .ledger, .fabric] s (doneSectionStatus a0 s) := by
  unfold doneSectionStatus
  try dsimp only
  repeat' (first
    | (with_reducible apply Moved.refl)
    | (with_reducible assumption)
    | (with_reducible apply Moved.fold)
    | (with_reducible apply Moved.fold_fst)
    | ((with_reducible apply Moved.via); (case k => with_reducible apply answer_moved); (case sub => decide))
    | (intro _ _)
    | (with_reducible apply Moved.ite)
    | split
    | dsimp only)

theorem doneEdgeExecute_moved (a0 : _) (a1 : _) (s : State) :
    Moved [.hub, .power, .diag, .ledger, .stage, .sections] s (doneEdgeExecute a0 a1 s) := by
  unfold doneEdgeExecute
  try dsimp only
  repeat' (first
    | (with_reducible apply Moved.refl)
    | (with_reducible assumption)
    | (with_reducible apply Moved.fold)
    | (with_reducible apply Moved.fold_fst)
    | ((with_reducible apply Moved.via); (case k => with_reducible apply State.runEdge_moved); (case sub => decide))
    | (intro _ _)
    | (with_reducible apply Moved.ite)
    | split
    | dsimp only)

theorem doneNodeCommandSend_moved (a0 : _) (a1 : _) (s : State) :
    Moved [.diag, .ledger, .buses, .eth, .sections] s (doneNodeCommandSend a0 a1 s) := by
  unfold doneNodeCommandSend
  try dsimp only
  repeat' (first
    | (with_reducible apply Moved.refl)
    | (with_reducible assumption)
    | (with_reducible apply Moved.fold)
    | (with_reducible apply Moved.fold_fst)
    | ((with_reducible apply Moved.via); (case k => with_reducible apply State.commandNode_moved); (case sub => decide))
    | (intro _ _)
    | (with_reducible apply Moved.ite)
    | split
    | dsimp only)

theorem doneNodeAckRx_moved (a0 : _) (a1 : _) (a2 : _) (a3 : _) (s : State) :
    Moved [.hub, .diag, .ledger, .eth, .sections] s (doneNodeAckRx a0 a1 a2 a3 s) := by
  unfold doneNodeAckRx
  try dsimp only
  repeat' (first
    | (with_reducible apply Moved.refl)
    | (with_reducible assumption)
    | (with_reducible apply Moved.fold)
    | (with_reducible apply Moved.fold_fst)
    | ((with_reducible apply Moved.via); (case k => with_reducible apply State.sectionEdge_moved); (case sub => decide))
    | ((with_reducible apply Moved.via); (case k => with_reducible apply State.refuseDatagram_moved); (case sub => decide))
    | ((with_reducible apply Moved.via); (case k => with_reducible apply State.endEdge_moved); (case sub => decide))
    | (intro _ _)
    | (with_reducible apply Moved.ite)
    | split
    | dsimp only)

theorem doneNodeAckTimeout_moved (a0 : _) (a1 : _) (s : State) :
    Moved [.hub, .diag, .ledger, .buses, .eth, .sections] s (doneNodeAckTimeout a0 a1 s) := by
  unfold doneNodeAckTimeout
  try dsimp only
  repeat' (first
    | (with_reducible apply Moved.refl)
    | (with_reducible assumption)
    | (with_reducible apply Moved.fold)
    | (with_reducible apply Moved.fold_fst)
    | ((with_reducible apply Moved.via); (case k => with_reducible apply State.sendEdge_moved); (case sub => decide))
    | ((with_reducible apply Moved.via); (case k => with_reducible apply State.sectionEdge_moved); (case sub => decide))
    | ((with_reducible apply Moved.via); (case k => with_reducible apply State.endEdge_moved); (case sub => decide))
    | ((with_reducible apply Moved.via); (case k => with_reducible apply State.modEdge_moved); (case sub => decide))
    | ((with_reducible apply Moved.via); (case k => with_reducible apply State.count_moved); (case sub => decide))
    | (intro _ _)
    | (with_reducible apply Moved.ite)
    | split
    | dsimp only)

theorem doneNodeSyncSend_moved (a0 : _) (a1 : _) (s : State) :
    Moved [.diag, .buses, .sections] s (doneNodeSyncSend a0 a1 s) := by
  unfold doneNodeSyncSend
  try dsimp only
  repeat' (first
    | (with_reducible apply Moved.refl)
    | (with_reducible assumption)
    | (with_reducible apply Moved.fold)
    | (with_reducible apply Moved.fold_fst)
    | ((with_reducible apply Moved.via); (case k => with_reducible apply State.modSections_moved); (case sub => decide))
    | ((with_reducible apply Moved.via); (case k => with_reducible apply State.busSendId_moved); (case sub => decide))
    | ((with_reducible apply Moved.via); (case k => with_reducible apply State.count_moved); (case sub => decide))
    | (intro _ _)
    | (with_reducible apply Moved.ite)
    | split
    | dsimp only)

theorem doneEngineSolution_moved (a0 : _) (s : State) :
    Moved [.hub, .diag, .ledger, .place, .fleet, .sections] s (doneEngineSolution a0 s) := by
  unfold doneEngineSolution
  try dsimp only
  repeat' (first
    | (with_reducible apply Moved.refl)
    | (with_reducible assumption)
    | (with_reducible apply Moved.fold)
    | (with_reducible apply Moved.fold_fst)
    | ((with_reducible apply Moved.via); (case k => with_reducible apply State.takeSolution_moved); (case sub => decide))
    | (intro _ _)
    | (with_reducible apply Moved.ite)
    | split
    | dsimp only)

theorem doneNavStaleHold_moved (a0 : _) (s : State) :
    Moved [.hub, .diag, .sections] s (doneNavStaleHold a0 s) := by
  unfold doneNavStaleHold
  try dsimp only
  repeat' (first
    | (with_reducible apply Moved.refl)
    | (with_reducible assumption)
    | (with_reducible apply Moved.fold)
    | (with_reducible apply Moved.fold_fst)
    | ((with_reducible apply Moved.via); (case k => with_reducible apply State.setEngine_moved); (case sub => decide))
    | ((with_reducible apply Moved.via); (case k => with_reducible apply State.modSections_moved); (case sub => decide))
    | (intro _ _)
    | (with_reducible apply Moved.ite)
    | split
    | dsimp only)

theorem doneNavHoldExpiry_moved (a0 : _) (s : State) :
    Moved [.hub, .diag, .ledger, .sections] s (doneNavHoldExpiry a0 s) := by
  unfold doneNavHoldExpiry
  try dsimp only
  repeat' (first
    | (with_reducible apply Moved.refl)
    | (with_reducible assumption)
    | (with_reducible apply Moved.fold)
    | (with_reducible apply Moved.fold_fst)
    | ((with_reducible apply Moved.via); (case k => with_reducible apply State.gateOff_moved); (case sub => decide))
    | ((with_reducible apply Moved.via); (case k => with_reducible apply State.setEngine_moved); (case sub => decide))
    | (intro _ _)
    | (with_reducible apply Moved.ite)
    | split
    | dsimp only)

theorem doneNavReturn_moved (a0 : _) (s : State) :
    Moved [.hub, .diag, .sections] s (doneNavReturn a0 s) := by
  unfold doneNavReturn
  try dsimp only
  repeat' (first
    | (with_reducible apply Moved.refl)
    | (with_reducible assumption)
    | (with_reducible apply Moved.fold)
    | (with_reducible apply Moved.fold_fst)
    | ((with_reducible apply Moved.via); (case k => with_reducible apply State.setEngine_moved); (case sub => decide))
    | (intro _ _)
    | (with_reducible apply Moved.ite)
    | split
    | dsimp only)

end Sys2Proof.Machine
end

