-- ==== Sys2Proof/Laws/State.lean ====
section
/-! SUPPORT. What each named update of the state does to each field: one lemma per field, true by unfolding. -/

namespace Sys2Proof.Machine

variable (s : State)

/-! ### atTime -/

@[simp] theorem State.atTime_time (t : Nat) : (s.atTime t).time = t % 2 ^ 64 := rfl
@[simp] theorem State.atTime_tick (t : Nat) : (s.atTime t).tick = s.tick := rfl
@[simp] theorem State.atTime_copies (t : Nat) : (s.atTime t).copies = s.copies := rfl
@[simp] theorem State.atTime_hub (t : Nat) : (s.atTime t).hub = s.hub := rfl
@[simp] theorem State.atTime_power (t : Nat) : (s.atTime t).power = s.power := rfl
@[simp] theorem State.atTime_mode (t : Nat) : (s.atTime t).mode = s.mode := rfl
@[simp] theorem State.atTime_ledger (t : Nat) : (s.atTime t).ledger = s.ledger := rfl
@[simp] theorem State.atTime_control (t : Nat) : (s.atTime t).control = s.control := rfl
@[simp] theorem State.atTime_stage (t : Nat) : (s.atTime t).stage = s.stage := rfl
@[simp] theorem State.atTime_functions (t : Nat) : (s.atTime t).functions = s.functions := rfl
@[simp] theorem State.atTime_fieldIo (t : Nat) : (s.atTime t).fieldIo = s.fieldIo := rfl
@[simp] theorem State.atTime_place (t : Nat) : (s.atTime t).place = s.place := rfl
@[simp] theorem State.atTime_fabric (t : Nat) : (s.atTime t).fabric = s.fabric := rfl
@[simp] theorem State.atTime_nav (t : Nat) : (s.atTime t).nav = s.nav := rfl
@[simp] theorem State.atTime_vision (t : Nat) : (s.atTime t).vision = s.vision := rfl
@[simp] theorem State.atTime_infer (t : Nat) : (s.atTime t).infer = s.infer := rfl
@[simp] theorem State.atTime_buses (t : Nat) : (s.atTime t).buses = s.buses := rfl
@[simp] theorem State.atTime_eth (t : Nat) : (s.atTime t).eth = s.eth := rfl
@[simp] theorem State.atTime_fleet (t : Nat) : (s.atTime t).fleet = s.fleet := rfl
@[simp] theorem State.atTime_display (t : Nat) : (s.atTime t).display = s.display := rfl
@[simp] theorem State.atTime_safety (t : Nat) : (s.atTime t).safety = s.safety := rfl
@[simp] theorem State.atTime_update (t : Nat) : (s.atTime t).update = s.update := rfl
@[simp] theorem State.atTime_sections (t : Nat) : (s.atTime t).sections = s.sections := rfl
@[simp] theorem State.atTime_freeCount (t : Nat) : (s.atTime t).freeCount = s.freeCount := rfl
@[simp] theorem State.atTime_deferred (t : Nat) : (s.atTime t).deferred = s.deferred := rfl
@[simp] theorem State.atTime_pending (t : Nat) : (s.atTime t).pending = s.pending := rfl

/-! ### atTick -/

@[simp] theorem State.atTick_time (t : Nat) : (s.atTick t).time = s.time := rfl
@[simp] theorem State.atTick_tick (t : Nat) : (s.atTick t).tick = t := rfl
@[simp] theorem State.atTick_copies (t : Nat) : (s.atTick t).copies = s.copies := rfl
@[simp] theorem State.atTick_hub (t : Nat) : (s.atTick t).hub = s.hub := rfl
@[simp] theorem State.atTick_power (t : Nat) : (s.atTick t).power = s.power := rfl
@[simp] theorem State.atTick_mode (t : Nat) : (s.atTick t).mode = s.mode := rfl
@[simp] theorem State.atTick_ledger (t : Nat) : (s.atTick t).ledger = s.ledger := rfl
@[simp] theorem State.atTick_control (t : Nat) : (s.atTick t).control = s.control := rfl
@[simp] theorem State.atTick_stage (t : Nat) : (s.atTick t).stage = s.stage := rfl
@[simp] theorem State.atTick_functions (t : Nat) : (s.atTick t).functions = s.functions := rfl
@[simp] theorem State.atTick_fieldIo (t : Nat) : (s.atTick t).fieldIo = s.fieldIo := rfl
@[simp] theorem State.atTick_place (t : Nat) : (s.atTick t).place = s.place := rfl
@[simp] theorem State.atTick_fabric (t : Nat) : (s.atTick t).fabric = s.fabric := rfl
@[simp] theorem State.atTick_nav (t : Nat) : (s.atTick t).nav = s.nav := rfl
@[simp] theorem State.atTick_vision (t : Nat) : (s.atTick t).vision = s.vision := rfl
@[simp] theorem State.atTick_infer (t : Nat) : (s.atTick t).infer = s.infer := rfl
@[simp] theorem State.atTick_buses (t : Nat) : (s.atTick t).buses = s.buses := rfl
@[simp] theorem State.atTick_eth (t : Nat) : (s.atTick t).eth = s.eth := rfl
@[simp] theorem State.atTick_fleet (t : Nat) : (s.atTick t).fleet = s.fleet := rfl
@[simp] theorem State.atTick_display (t : Nat) : (s.atTick t).display = s.display := rfl
@[simp] theorem State.atTick_safety (t : Nat) : (s.atTick t).safety = s.safety := rfl
@[simp] theorem State.atTick_update (t : Nat) : (s.atTick t).update = s.update := rfl
@[simp] theorem State.atTick_sections (t : Nat) : (s.atTick t).sections = s.sections := rfl
@[simp] theorem State.atTick_freeCount (t : Nat) : (s.atTick t).freeCount = s.freeCount := rfl
@[simp] theorem State.atTick_deferred (t : Nat) : (s.atTick t).deferred = s.deferred := rfl
@[simp] theorem State.atTick_pending (t : Nat) : (s.atTick t).pending = s.pending := rfl

/-! ### spend -/

@[simp] theorem State.spend_time (n : Nat) : (s.spend n).time = s.time := rfl
@[simp] theorem State.spend_tick (n : Nat) : (s.spend n).tick = s.tick := rfl
@[simp] theorem State.spend_copies (n : Nat) : (s.spend n).copies = s.copies := rfl
@[simp] theorem State.spend_hub (n : Nat) : (s.spend n).hub = s.hub := rfl
@[simp] theorem State.spend_power (n : Nat) : (s.spend n).power = s.power := rfl
@[simp] theorem State.spend_mode (n : Nat) : (s.spend n).mode = s.mode := rfl
@[simp] theorem State.spend_ledger (n : Nat) : (s.spend n).ledger = s.ledger := rfl
@[simp] theorem State.spend_control (n : Nat) : (s.spend n).control = s.control := rfl
@[simp] theorem State.spend_stage (n : Nat) : (s.spend n).stage = s.stage := rfl
@[simp] theorem State.spend_functions (n : Nat) : (s.spend n).functions = s.functions := rfl
@[simp] theorem State.spend_fieldIo (n : Nat) : (s.spend n).fieldIo = s.fieldIo := rfl
@[simp] theorem State.spend_place (n : Nat) : (s.spend n).place = s.place := rfl
@[simp] theorem State.spend_fabric (n : Nat) : (s.spend n).fabric = s.fabric := rfl
@[simp] theorem State.spend_nav (n : Nat) : (s.spend n).nav = s.nav := rfl
@[simp] theorem State.spend_vision (n : Nat) : (s.spend n).vision = s.vision := rfl
@[simp] theorem State.spend_infer (n : Nat) : (s.spend n).infer = s.infer := rfl
@[simp] theorem State.spend_buses (n : Nat) : (s.spend n).buses = s.buses := rfl
@[simp] theorem State.spend_eth (n : Nat) : (s.spend n).eth = s.eth := rfl
@[simp] theorem State.spend_fleet (n : Nat) : (s.spend n).fleet = s.fleet := rfl
@[simp] theorem State.spend_display (n : Nat) : (s.spend n).display = s.display := rfl
@[simp] theorem State.spend_safety (n : Nat) : (s.spend n).safety = s.safety := rfl
@[simp] theorem State.spend_update (n : Nat) : (s.spend n).update = s.update := rfl
@[simp] theorem State.spend_sections (n : Nat) : (s.spend n).sections = s.sections := rfl
@[simp] theorem State.spend_freeCount (n : Nat) : (s.spend n).freeCount = s.freeCount + n := rfl
@[simp] theorem State.spend_deferred (n : Nat) : (s.spend n).deferred = s.deferred := rfl
@[simp] theorem State.spend_pending (n : Nat) : (s.spend n).pending = s.pending := rfl

/-! ### modHub -/

@[simp] theorem State.modHub_time (f : Hub → Hub) : (s.modHub f).time = s.time := rfl
@[simp] theorem State.modHub_tick (f : Hub → Hub) : (s.modHub f).tick = s.tick := rfl
@[simp] theorem State.modHub_copies (f : Hub → Hub) : (s.modHub f).copies = s.copies := rfl
@[simp] theorem State.modHub_hub (f : Hub → Hub) : (s.modHub f).hub = f s.hub := rfl
@[simp] theorem State.modHub_power (f : Hub → Hub) : (s.modHub f).power = s.power := rfl
@[simp] theorem State.modHub_mode (f : Hub → Hub) : (s.modHub f).mode = s.mode := rfl
@[simp] theorem State.modHub_ledger (f : Hub → Hub) : (s.modHub f).ledger = s.ledger := rfl
@[simp] theorem State.modHub_control (f : Hub → Hub) : (s.modHub f).control = s.control := rfl
@[simp] theorem State.modHub_stage (f : Hub → Hub) : (s.modHub f).stage = s.stage := rfl
@[simp] theorem State.modHub_functions (f : Hub → Hub) : (s.modHub f).functions = s.functions := rfl
@[simp] theorem State.modHub_fieldIo (f : Hub → Hub) : (s.modHub f).fieldIo = s.fieldIo := rfl
@[simp] theorem State.modHub_place (f : Hub → Hub) : (s.modHub f).place = s.place := rfl
@[simp] theorem State.modHub_fabric (f : Hub → Hub) : (s.modHub f).fabric = s.fabric := rfl
@[simp] theorem State.modHub_nav (f : Hub → Hub) : (s.modHub f).nav = s.nav := rfl
@[simp] theorem State.modHub_vision (f : Hub → Hub) : (s.modHub f).vision = s.vision := rfl
@[simp] theorem State.modHub_infer (f : Hub → Hub) : (s.modHub f).infer = s.infer := rfl
@[simp] theorem State.modHub_buses (f : Hub → Hub) : (s.modHub f).buses = s.buses := rfl
@[simp] theorem State.modHub_eth (f : Hub → Hub) : (s.modHub f).eth = s.eth := rfl
@[simp] theorem State.modHub_fleet (f : Hub → Hub) : (s.modHub f).fleet = s.fleet := rfl
@[simp] theorem State.modHub_display (f : Hub → Hub) : (s.modHub f).display = s.display := rfl
@[simp] theorem State.modHub_safety (f : Hub → Hub) : (s.modHub f).safety = s.safety := rfl
@[simp] theorem State.modHub_update (f : Hub → Hub) : (s.modHub f).update = s.update := rfl
@[simp] theorem State.modHub_sections (f : Hub → Hub) : (s.modHub f).sections = s.sections := rfl
@[simp] theorem State.modHub_freeCount (f : Hub → Hub) : (s.modHub f).freeCount = s.freeCount := rfl
@[simp] theorem State.modHub_deferred (f : Hub → Hub) : (s.modHub f).deferred = s.deferred := rfl
@[simp] theorem State.modHub_pending (f : Hub → Hub) : (s.modHub f).pending = s.pending := rfl

/-! ### modPower -/

@[simp] theorem State.modPower_time (f : Power → Power) : (s.modPower f).time = s.time := rfl
@[simp] theorem State.modPower_tick (f : Power → Power) : (s.modPower f).tick = s.tick := rfl
@[simp] theorem State.modPower_copies (f : Power → Power) : (s.modPower f).copies = s.copies := rfl
@[simp] theorem State.modPower_hub (f : Power → Power) : (s.modPower f).hub = s.hub := rfl
@[simp] theorem State.modPower_power (f : Power → Power) : (s.modPower f).power = f s.power := rfl
@[simp] theorem State.modPower_mode (f : Power → Power) : (s.modPower f).mode = s.mode := rfl
@[simp] theorem State.modPower_ledger (f : Power → Power) : (s.modPower f).ledger = s.ledger := rfl
@[simp] theorem State.modPower_control (f : Power → Power) : (s.modPower f).control = s.control := rfl
@[simp] theorem State.modPower_stage (f : Power → Power) : (s.modPower f).stage = s.stage := rfl
@[simp] theorem State.modPower_functions (f : Power → Power) : (s.modPower f).functions = s.functions := rfl
@[simp] theorem State.modPower_fieldIo (f : Power → Power) : (s.modPower f).fieldIo = s.fieldIo := rfl
@[simp] theorem State.modPower_place (f : Power → Power) : (s.modPower f).place = s.place := rfl
@[simp] theorem State.modPower_fabric (f : Power → Power) : (s.modPower f).fabric = s.fabric := rfl
@[simp] theorem State.modPower_nav (f : Power → Power) : (s.modPower f).nav = s.nav := rfl
@[simp] theorem State.modPower_vision (f : Power → Power) : (s.modPower f).vision = s.vision := rfl
@[simp] theorem State.modPower_infer (f : Power → Power) : (s.modPower f).infer = s.infer := rfl
@[simp] theorem State.modPower_buses (f : Power → Power) : (s.modPower f).buses = s.buses := rfl
@[simp] theorem State.modPower_eth (f : Power → Power) : (s.modPower f).eth = s.eth := rfl
@[simp] theorem State.modPower_fleet (f : Power → Power) : (s.modPower f).fleet = s.fleet := rfl
@[simp] theorem State.modPower_display (f : Power → Power) : (s.modPower f).display = s.display := rfl
@[simp] theorem State.modPower_safety (f : Power → Power) : (s.modPower f).safety = s.safety := rfl
@[simp] theorem State.modPower_update (f : Power → Power) : (s.modPower f).update = s.update := rfl
@[simp] theorem State.modPower_sections (f : Power → Power) : (s.modPower f).sections = s.sections := rfl
@[simp] theorem State.modPower_freeCount (f : Power → Power) : (s.modPower f).freeCount = s.freeCount := rfl
@[simp] theorem State.modPower_deferred (f : Power → Power) : (s.modPower f).deferred = s.deferred := rfl
@[simp] theorem State.modPower_pending (f : Power → Power) : (s.modPower f).pending = s.pending := rfl

/-! ### modMode -/

@[simp] theorem State.modMode_time (f : ModeState → ModeState) : (s.modMode f).time = s.time := rfl
@[simp] theorem State.modMode_tick (f : ModeState → ModeState) : (s.modMode f).tick = s.tick := rfl
@[simp] theorem State.modMode_copies (f : ModeState → ModeState) : (s.modMode f).copies = s.copies := rfl
@[simp] theorem State.modMode_hub (f : ModeState → ModeState) : (s.modMode f).hub = s.hub := rfl
@[simp] theorem State.modMode_power (f : ModeState → ModeState) : (s.modMode f).power = s.power := rfl
@[simp] theorem State.modMode_mode (f : ModeState → ModeState) : (s.modMode f).mode = f s.mode := rfl
@[simp] theorem State.modMode_ledger (f : ModeState → ModeState) : (s.modMode f).ledger = s.ledger := rfl
@[simp] theorem State.modMode_control (f : ModeState → ModeState) : (s.modMode f).control = s.control := rfl
@[simp] theorem State.modMode_stage (f : ModeState → ModeState) : (s.modMode f).stage = s.stage := rfl
@[simp] theorem State.modMode_functions (f : ModeState → ModeState) : (s.modMode f).functions = s.functions := rfl
@[simp] theorem State.modMode_fieldIo (f : ModeState → ModeState) : (s.modMode f).fieldIo = s.fieldIo := rfl
@[simp] theorem State.modMode_place (f : ModeState → ModeState) : (s.modMode f).place = s.place := rfl
@[simp] theorem State.modMode_fabric (f : ModeState → ModeState) : (s.modMode f).fabric = s.fabric := rfl
@[simp] theorem State.modMode_nav (f : ModeState → ModeState) : (s.modMode f).nav = s.nav := rfl
@[simp] theorem State.modMode_vision (f : ModeState → ModeState) : (s.modMode f).vision = s.vision := rfl
@[simp] theorem State.modMode_infer (f : ModeState → ModeState) : (s.modMode f).infer = s.infer := rfl
@[simp] theorem State.modMode_buses (f : ModeState → ModeState) : (s.modMode f).buses = s.buses := rfl
@[simp] theorem State.modMode_eth (f : ModeState → ModeState) : (s.modMode f).eth = s.eth := rfl
@[simp] theorem State.modMode_fleet (f : ModeState → ModeState) : (s.modMode f).fleet = s.fleet := rfl
@[simp] theorem State.modMode_display (f : ModeState → ModeState) : (s.modMode f).display = s.display := rfl
@[simp] theorem State.modMode_safety (f : ModeState → ModeState) : (s.modMode f).safety = s.safety := rfl
@[simp] theorem State.modMode_update (f : ModeState → ModeState) : (s.modMode f).update = s.update := rfl
@[simp] theorem State.modMode_sections (f : ModeState → ModeState) : (s.modMode f).sections = s.sections := rfl
@[simp] theorem State.modMode_freeCount (f : ModeState → ModeState) : (s.modMode f).freeCount = s.freeCount := rfl
@[simp] theorem State.modMode_deferred (f : ModeState → ModeState) : (s.modMode f).deferred = s.deferred := rfl
@[simp] theorem State.modMode_pending (f : ModeState → ModeState) : (s.modMode f).pending = s.pending := rfl

/-! ### modLedger -/

@[simp] theorem State.modLedger_time (f : Ledger → Ledger) : (s.modLedger f).time = s.time := rfl
@[simp] theorem State.modLedger_tick (f : Ledger → Ledger) : (s.modLedger f).tick = s.tick := rfl
@[simp] theorem State.modLedger_copies (f : Ledger → Ledger) : (s.modLedger f).copies = s.copies := rfl
@[simp] theorem State.modLedger_hub (f : Ledger → Ledger) : (s.modLedger f).hub = s.hub := rfl
@[simp] theorem State.modLedger_power (f : Ledger → Ledger) : (s.modLedger f).power = s.power := rfl
@[simp] theorem State.modLedger_mode (f : Ledger → Ledger) : (s.modLedger f).mode = s.mode := rfl
@[simp] theorem State.modLedger_ledger (f : Ledger → Ledger) : (s.modLedger f).ledger = f s.ledger := rfl
@[simp] theorem State.modLedger_control (f : Ledger → Ledger) : (s.modLedger f).control = s.control := rfl
@[simp] theorem State.modLedger_stage (f : Ledger → Ledger) : (s.modLedger f).stage = s.stage := rfl
@[simp] theorem State.modLedger_functions (f : Ledger → Ledger) : (s.modLedger f).functions = s.functions := rfl
@[simp] theorem State.modLedger_fieldIo (f : Ledger → Ledger) : (s.modLedger f).fieldIo = s.fieldIo := rfl
@[simp] theorem State.modLedger_place (f : Ledger → Ledger) : (s.modLedger f).place = s.place := rfl
@[simp] theorem State.modLedger_fabric (f : Ledger → Ledger) : (s.modLedger f).fabric = s.fabric := rfl
@[simp] theorem State.modLedger_nav (f : Ledger → Ledger) : (s.modLedger f).nav = s.nav := rfl
@[simp] theorem State.modLedger_vision (f : Ledger → Ledger) : (s.modLedger f).vision = s.vision := rfl
@[simp] theorem State.modLedger_infer (f : Ledger → Ledger) : (s.modLedger f).infer = s.infer := rfl
@[simp] theorem State.modLedger_buses (f : Ledger → Ledger) : (s.modLedger f).buses = s.buses := rfl
@[simp] theorem State.modLedger_eth (f : Ledger → Ledger) : (s.modLedger f).eth = s.eth := rfl
@[simp] theorem State.modLedger_fleet (f : Ledger → Ledger) : (s.modLedger f).fleet = s.fleet := rfl
@[simp] theorem State.modLedger_display (f : Ledger → Ledger) : (s.modLedger f).display = s.display := rfl
@[simp] theorem State.modLedger_safety (f : Ledger → Ledger) : (s.modLedger f).safety = s.safety := rfl
@[simp] theorem State.modLedger_update (f : Ledger → Ledger) : (s.modLedger f).update = s.update := rfl
@[simp] theorem State.modLedger_sections (f : Ledger → Ledger) : (s.modLedger f).sections = s.sections := rfl
@[simp] theorem State.modLedger_freeCount (f : Ledger → Ledger) : (s.modLedger f).freeCount = s.freeCount := rfl
@[simp] theorem State.modLedger_deferred (f : Ledger → Ledger) : (s.modLedger f).deferred = s.deferred := rfl
@[simp] theorem State.modLedger_pending (f : Ledger → Ledger) : (s.modLedger f).pending = s.pending := rfl

/-! ### modControl -/

@[simp] theorem State.modControl_time (f : Control → Control) : (s.modControl f).time = s.time := rfl
@[simp] theorem State.modControl_tick (f : Control → Control) : (s.modControl f).tick = s.tick := rfl
@[simp] theorem State.modControl_copies (f : Control → Control) : (s.modControl f).copies = s.copies := rfl
@[simp] theorem State.modControl_hub (f : Control → Control) : (s.modControl f).hub = s.hub := rfl
@[simp] theorem State.modControl_power (f : Control → Control) : (s.modControl f).power = s.power := rfl
@[simp] theorem State.modControl_mode (f : Control → Control) : (s.modControl f).mode = s.mode := rfl
@[simp] theorem State.modControl_ledger (f : Control → Control) : (s.modControl f).ledger = s.ledger := rfl
@[simp] theorem State.modControl_control (f : Control → Control) : (s.modControl f).control = f s.control := rfl
@[simp] theorem State.modControl_stage (f : Control → Control) : (s.modControl f).stage = s.stage := rfl
@[simp] theorem State.modControl_functions (f : Control → Control) : (s.modControl f).functions = s.functions := rfl
@[simp] theorem State.modControl_fieldIo (f : Control → Control) : (s.modControl f).fieldIo = s.fieldIo := rfl
@[simp] theorem State.modControl_place (f : Control → Control) : (s.modControl f).place = s.place := rfl
@[simp] theorem State.modControl_fabric (f : Control → Control) : (s.modControl f).fabric = s.fabric := rfl
@[simp] theorem State.modControl_nav (f : Control → Control) : (s.modControl f).nav = s.nav := rfl
@[simp] theorem State.modControl_vision (f : Control → Control) : (s.modControl f).vision = s.vision := rfl
@[simp] theorem State.modControl_infer (f : Control → Control) : (s.modControl f).infer = s.infer := rfl
@[simp] theorem State.modControl_buses (f : Control → Control) : (s.modControl f).buses = s.buses := rfl
@[simp] theorem State.modControl_eth (f : Control → Control) : (s.modControl f).eth = s.eth := rfl
@[simp] theorem State.modControl_fleet (f : Control → Control) : (s.modControl f).fleet = s.fleet := rfl
@[simp] theorem State.modControl_display (f : Control → Control) : (s.modControl f).display = s.display := rfl
@[simp] theorem State.modControl_safety (f : Control → Control) : (s.modControl f).safety = s.safety := rfl
@[simp] theorem State.modControl_update (f : Control → Control) : (s.modControl f).update = s.update := rfl
@[simp] theorem State.modControl_sections (f : Control → Control) : (s.modControl f).sections = s.sections := rfl
@[simp] theorem State.modControl_freeCount (f : Control → Control) : (s.modControl f).freeCount = s.freeCount := rfl
@[simp] theorem State.modControl_deferred (f : Control → Control) : (s.modControl f).deferred = s.deferred := rfl
@[simp] theorem State.modControl_pending (f : Control → Control) : (s.modControl f).pending = s.pending := rfl

/-! ### modStage -/

@[simp] theorem State.modStage_time (f : PowerStage → PowerStage) : (s.modStage f).time = s.time := rfl
@[simp] theorem State.modStage_tick (f : PowerStage → PowerStage) : (s.modStage f).tick = s.tick := rfl
@[simp] theorem State.modStage_copies (f : PowerStage → PowerStage) : (s.modStage f).copies = s.copies := rfl
@[simp] theorem State.modStage_hub (f : PowerStage → PowerStage) : (s.modStage f).hub = s.hub := rfl
@[simp] theorem State.modStage_power (f : PowerStage → PowerStage) : (s.modStage f).power = s.power := rfl
@[simp] theorem State.modStage_mode (f : PowerStage → PowerStage) : (s.modStage f).mode = s.mode := rfl
@[simp] theorem State.modStage_ledger (f : PowerStage → PowerStage) : (s.modStage f).ledger = s.ledger := rfl
@[simp] theorem State.modStage_control (f : PowerStage → PowerStage) : (s.modStage f).control = s.control := rfl
@[simp] theorem State.modStage_stage (f : PowerStage → PowerStage) : (s.modStage f).stage = f s.stage := rfl
@[simp] theorem State.modStage_functions (f : PowerStage → PowerStage) : (s.modStage f).functions = s.functions := rfl
@[simp] theorem State.modStage_fieldIo (f : PowerStage → PowerStage) : (s.modStage f).fieldIo = s.fieldIo := rfl
@[simp] theorem State.modStage_place (f : PowerStage → PowerStage) : (s.modStage f).place = s.place := rfl
@[simp] theorem State.modStage_fabric (f : PowerStage → PowerStage) : (s.modStage f).fabric = s.fabric := rfl
@[simp] theorem State.modStage_nav (f : PowerStage → PowerStage) : (s.modStage f).nav = s.nav := rfl
@[simp] theorem State.modStage_vision (f : PowerStage → PowerStage) : (s.modStage f).vision = s.vision := rfl
@[simp] theorem State.modStage_infer (f : PowerStage → PowerStage) : (s.modStage f).infer = s.infer := rfl
@[simp] theorem State.modStage_buses (f : PowerStage → PowerStage) : (s.modStage f).buses = s.buses := rfl
@[simp] theorem State.modStage_eth (f : PowerStage → PowerStage) : (s.modStage f).eth = s.eth := rfl
@[simp] theorem State.modStage_fleet (f : PowerStage → PowerStage) : (s.modStage f).fleet = s.fleet := rfl
@[simp] theorem State.modStage_display (f : PowerStage → PowerStage) : (s.modStage f).display = s.display := rfl
@[simp] theorem State.modStage_safety (f : PowerStage → PowerStage) : (s.modStage f).safety = s.safety := rfl
@[simp] theorem State.modStage_update (f : PowerStage → PowerStage) : (s.modStage f).update = s.update := rfl
@[simp] theorem State.modStage_sections (f : PowerStage → PowerStage) : (s.modStage f).sections = s.sections := rfl
@[simp] theorem State.modStage_freeCount (f : PowerStage → PowerStage) : (s.modStage f).freeCount = s.freeCount := rfl
@[simp] theorem State.modStage_deferred (f : PowerStage → PowerStage) : (s.modStage f).deferred = s.deferred := rfl
@[simp] theorem State.modStage_pending (f : PowerStage → PowerStage) : (s.modStage f).pending = s.pending := rfl

/-! ### modFunctions -/

@[simp] theorem State.modFunctions_time (f : Functions → Functions) : (s.modFunctions f).time = s.time := rfl
@[simp] theorem State.modFunctions_tick (f : Functions → Functions) : (s.modFunctions f).tick = s.tick := rfl
@[simp] theorem State.modFunctions_copies (f : Functions → Functions) : (s.modFunctions f).copies = s.copies := rfl
@[simp] theorem State.modFunctions_hub (f : Functions → Functions) : (s.modFunctions f).hub = s.hub := rfl
@[simp] theorem State.modFunctions_power (f : Functions → Functions) : (s.modFunctions f).power = s.power := rfl
@[simp] theorem State.modFunctions_mode (f : Functions → Functions) : (s.modFunctions f).mode = s.mode := rfl
@[simp] theorem State.modFunctions_ledger (f : Functions → Functions) : (s.modFunctions f).ledger = s.ledger := rfl
@[simp] theorem State.modFunctions_control (f : Functions → Functions) : (s.modFunctions f).control = s.control := rfl
@[simp] theorem State.modFunctions_stage (f : Functions → Functions) : (s.modFunctions f).stage = s.stage := rfl
@[simp] theorem State.modFunctions_functions (f : Functions → Functions) : (s.modFunctions f).functions = f s.functions := rfl
@[simp] theorem State.modFunctions_fieldIo (f : Functions → Functions) : (s.modFunctions f).fieldIo = s.fieldIo := rfl
@[simp] theorem State.modFunctions_place (f : Functions → Functions) : (s.modFunctions f).place = s.place := rfl
@[simp] theorem State.modFunctions_fabric (f : Functions → Functions) : (s.modFunctions f).fabric = s.fabric := rfl
@[simp] theorem State.modFunctions_nav (f : Functions → Functions) : (s.modFunctions f).nav = s.nav := rfl
@[simp] theorem State.modFunctions_vision (f : Functions → Functions) : (s.modFunctions f).vision = s.vision := rfl
@[simp] theorem State.modFunctions_infer (f : Functions → Functions) : (s.modFunctions f).infer = s.infer := rfl
@[simp] theorem State.modFunctions_buses (f : Functions → Functions) : (s.modFunctions f).buses = s.buses := rfl
@[simp] theorem State.modFunctions_eth (f : Functions → Functions) : (s.modFunctions f).eth = s.eth := rfl
@[simp] theorem State.modFunctions_fleet (f : Functions → Functions) : (s.modFunctions f).fleet = s.fleet := rfl
@[simp] theorem State.modFunctions_display (f : Functions → Functions) : (s.modFunctions f).display = s.display := rfl
@[simp] theorem State.modFunctions_safety (f : Functions → Functions) : (s.modFunctions f).safety = s.safety := rfl
@[simp] theorem State.modFunctions_update (f : Functions → Functions) : (s.modFunctions f).update = s.update := rfl
@[simp] theorem State.modFunctions_sections (f : Functions → Functions) : (s.modFunctions f).sections = s.sections := rfl
@[simp] theorem State.modFunctions_freeCount (f : Functions → Functions) : (s.modFunctions f).freeCount = s.freeCount := rfl
@[simp] theorem State.modFunctions_deferred (f : Functions → Functions) : (s.modFunctions f).deferred = s.deferred := rfl
@[simp] theorem State.modFunctions_pending (f : Functions → Functions) : (s.modFunctions f).pending = s.pending := rfl

/-! ### modField -/

@[simp] theorem State.modField_time (f : FieldIo → FieldIo) : (s.modField f).time = s.time := rfl
@[simp] theorem State.modField_tick (f : FieldIo → FieldIo) : (s.modField f).tick = s.tick := rfl
@[simp] theorem State.modField_copies (f : FieldIo → FieldIo) : (s.modField f).copies = s.copies := rfl
@[simp] theorem State.modField_hub (f : FieldIo → FieldIo) : (s.modField f).hub = s.hub := rfl
@[simp] theorem State.modField_power (f : FieldIo → FieldIo) : (s.modField f).power = s.power := rfl
@[simp] theorem State.modField_mode (f : FieldIo → FieldIo) : (s.modField f).mode = s.mode := rfl
@[simp] theorem State.modField_ledger (f : FieldIo → FieldIo) : (s.modField f).ledger = s.ledger := rfl
@[simp] theorem State.modField_control (f : FieldIo → FieldIo) : (s.modField f).control = s.control := rfl
@[simp] theorem State.modField_stage (f : FieldIo → FieldIo) : (s.modField f).stage = s.stage := rfl
@[simp] theorem State.modField_functions (f : FieldIo → FieldIo) : (s.modField f).functions = s.functions := rfl
@[simp] theorem State.modField_fieldIo (f : FieldIo → FieldIo) : (s.modField f).fieldIo = f s.fieldIo := rfl
@[simp] theorem State.modField_place (f : FieldIo → FieldIo) : (s.modField f).place = s.place := rfl
@[simp] theorem State.modField_fabric (f : FieldIo → FieldIo) : (s.modField f).fabric = s.fabric := rfl
@[simp] theorem State.modField_nav (f : FieldIo → FieldIo) : (s.modField f).nav = s.nav := rfl
@[simp] theorem State.modField_vision (f : FieldIo → FieldIo) : (s.modField f).vision = s.vision := rfl
@[simp] theorem State.modField_infer (f : FieldIo → FieldIo) : (s.modField f).infer = s.infer := rfl
@[simp] theorem State.modField_buses (f : FieldIo → FieldIo) : (s.modField f).buses = s.buses := rfl
@[simp] theorem State.modField_eth (f : FieldIo → FieldIo) : (s.modField f).eth = s.eth := rfl
@[simp] theorem State.modField_fleet (f : FieldIo → FieldIo) : (s.modField f).fleet = s.fleet := rfl
@[simp] theorem State.modField_display (f : FieldIo → FieldIo) : (s.modField f).display = s.display := rfl
@[simp] theorem State.modField_safety (f : FieldIo → FieldIo) : (s.modField f).safety = s.safety := rfl
@[simp] theorem State.modField_update (f : FieldIo → FieldIo) : (s.modField f).update = s.update := rfl
@[simp] theorem State.modField_sections (f : FieldIo → FieldIo) : (s.modField f).sections = s.sections := rfl
@[simp] theorem State.modField_freeCount (f : FieldIo → FieldIo) : (s.modField f).freeCount = s.freeCount := rfl
@[simp] theorem State.modField_deferred (f : FieldIo → FieldIo) : (s.modField f).deferred = s.deferred := rfl
@[simp] theorem State.modField_pending (f : FieldIo → FieldIo) : (s.modField f).pending = s.pending := rfl

/-! ### modPlace -/

@[simp] theorem State.modPlace_time (f : Puppeteer → Puppeteer) : (s.modPlace f).time = s.time := rfl
@[simp] theorem State.modPlace_tick (f : Puppeteer → Puppeteer) : (s.modPlace f).tick = s.tick := rfl
@[simp] theorem State.modPlace_copies (f : Puppeteer → Puppeteer) : (s.modPlace f).copies = s.copies := rfl
@[simp] theorem State.modPlace_hub (f : Puppeteer → Puppeteer) : (s.modPlace f).hub = s.hub := rfl
@[simp] theorem State.modPlace_power (f : Puppeteer → Puppeteer) : (s.modPlace f).power = s.power := rfl
@[simp] theorem State.modPlace_mode (f : Puppeteer → Puppeteer) : (s.modPlace f).mode = s.mode := rfl
@[simp] theorem State.modPlace_ledger (f : Puppeteer → Puppeteer) : (s.modPlace f).ledger = s.ledger := rfl
@[simp] theorem State.modPlace_control (f : Puppeteer → Puppeteer) : (s.modPlace f).control = s.control := rfl
@[simp] theorem State.modPlace_stage (f : Puppeteer → Puppeteer) : (s.modPlace f).stage = s.stage := rfl
@[simp] theorem State.modPlace_functions (f : Puppeteer → Puppeteer) : (s.modPlace f).functions = s.functions := rfl
@[simp] theorem State.modPlace_fieldIo (f : Puppeteer → Puppeteer) : (s.modPlace f).fieldIo = s.fieldIo := rfl
@[simp] theorem State.modPlace_place (f : Puppeteer → Puppeteer) : (s.modPlace f).place = f s.place := rfl
@[simp] theorem State.modPlace_fabric (f : Puppeteer → Puppeteer) : (s.modPlace f).fabric = s.fabric := rfl
@[simp] theorem State.modPlace_nav (f : Puppeteer → Puppeteer) : (s.modPlace f).nav = s.nav := rfl
@[simp] theorem State.modPlace_vision (f : Puppeteer → Puppeteer) : (s.modPlace f).vision = s.vision := rfl
@[simp] theorem State.modPlace_infer (f : Puppeteer → Puppeteer) : (s.modPlace f).infer = s.infer := rfl
@[simp] theorem State.modPlace_buses (f : Puppeteer → Puppeteer) : (s.modPlace f).buses = s.buses := rfl
@[simp] theorem State.modPlace_eth (f : Puppeteer → Puppeteer) : (s.modPlace f).eth = s.eth := rfl
@[simp] theorem State.modPlace_fleet (f : Puppeteer → Puppeteer) : (s.modPlace f).fleet = s.fleet := rfl
@[simp] theorem State.modPlace_display (f : Puppeteer → Puppeteer) : (s.modPlace f).display = s.display := rfl
@[simp] theorem State.modPlace_safety (f : Puppeteer → Puppeteer) : (s.modPlace f).safety = s.safety := rfl
@[simp] theorem State.modPlace_update (f : Puppeteer → Puppeteer) : (s.modPlace f).update = s.update := rfl
@[simp] theorem State.modPlace_sections (f : Puppeteer → Puppeteer) : (s.modPlace f).sections = s.sections := rfl
@[simp] theorem State.modPlace_freeCount (f : Puppeteer → Puppeteer) : (s.modPlace f).freeCount = s.freeCount := rfl
@[simp] theorem State.modPlace_deferred (f : Puppeteer → Puppeteer) : (s.modPlace f).deferred = s.deferred := rfl
@[simp] theorem State.modPlace_pending (f : Puppeteer → Puppeteer) : (s.modPlace f).pending = s.pending := rfl

/-! ### modFabric -/

@[simp] theorem State.modFabric_time (f : Fabric → Fabric) : (s.modFabric f).time = s.time := rfl
@[simp] theorem State.modFabric_tick (f : Fabric → Fabric) : (s.modFabric f).tick = s.tick := rfl
@[simp] theorem State.modFabric_copies (f : Fabric → Fabric) : (s.modFabric f).copies = s.copies := rfl
@[simp] theorem State.modFabric_hub (f : Fabric → Fabric) : (s.modFabric f).hub = s.hub := rfl
@[simp] theorem State.modFabric_power (f : Fabric → Fabric) : (s.modFabric f).power = s.power := rfl
@[simp] theorem State.modFabric_mode (f : Fabric → Fabric) : (s.modFabric f).mode = s.mode := rfl
@[simp] theorem State.modFabric_ledger (f : Fabric → Fabric) : (s.modFabric f).ledger = s.ledger := rfl
@[simp] theorem State.modFabric_control (f : Fabric → Fabric) : (s.modFabric f).control = s.control := rfl
@[simp] theorem State.modFabric_stage (f : Fabric → Fabric) : (s.modFabric f).stage = s.stage := rfl
@[simp] theorem State.modFabric_functions (f : Fabric → Fabric) : (s.modFabric f).functions = s.functions := rfl
@[simp] theorem State.modFabric_fieldIo (f : Fabric → Fabric) : (s.modFabric f).fieldIo = s.fieldIo := rfl
@[simp] theorem State.modFabric_place (f : Fabric → Fabric) : (s.modFabric f).place = s.place := rfl
@[simp] theorem State.modFabric_fabric (f : Fabric → Fabric) : (s.modFabric f).fabric = f s.fabric := rfl
@[simp] theorem State.modFabric_nav (f : Fabric → Fabric) : (s.modFabric f).nav = s.nav := rfl
@[simp] theorem State.modFabric_vision (f : Fabric → Fabric) : (s.modFabric f).vision = s.vision := rfl
@[simp] theorem State.modFabric_infer (f : Fabric → Fabric) : (s.modFabric f).infer = s.infer := rfl
@[simp] theorem State.modFabric_buses (f : Fabric → Fabric) : (s.modFabric f).buses = s.buses := rfl
@[simp] theorem State.modFabric_eth (f : Fabric → Fabric) : (s.modFabric f).eth = s.eth := rfl
@[simp] theorem State.modFabric_fleet (f : Fabric → Fabric) : (s.modFabric f).fleet = s.fleet := rfl
@[simp] theorem State.modFabric_display (f : Fabric → Fabric) : (s.modFabric f).display = s.display := rfl
@[simp] theorem State.modFabric_safety (f : Fabric → Fabric) : (s.modFabric f).safety = s.safety := rfl
@[simp] theorem State.modFabric_update (f : Fabric → Fabric) : (s.modFabric f).update = s.update := rfl
@[simp] theorem State.modFabric_sections (f : Fabric → Fabric) : (s.modFabric f).sections = s.sections := rfl
@[simp] theorem State.modFabric_freeCount (f : Fabric → Fabric) : (s.modFabric f).freeCount = s.freeCount := rfl
@[simp] theorem State.modFabric_deferred (f : Fabric → Fabric) : (s.modFabric f).deferred = s.deferred := rfl
@[simp] theorem State.modFabric_pending (f : Fabric → Fabric) : (s.modFabric f).pending = s.pending := rfl

/-! ### modVision -/

@[simp] theorem State.modVision_time (f : Vision → Vision) : (s.modVision f).time = s.time := rfl
@[simp] theorem State.modVision_tick (f : Vision → Vision) : (s.modVision f).tick = s.tick := rfl
@[simp] theorem State.modVision_copies (f : Vision → Vision) : (s.modVision f).copies = s.copies := rfl
@[simp] theorem State.modVision_hub (f : Vision → Vision) : (s.modVision f).hub = s.hub := rfl
@[simp] theorem State.modVision_power (f : Vision → Vision) : (s.modVision f).power = s.power := rfl
@[simp] theorem State.modVision_mode (f : Vision → Vision) : (s.modVision f).mode = s.mode := rfl
@[simp] theorem State.modVision_ledger (f : Vision → Vision) : (s.modVision f).ledger = s.ledger := rfl
@[simp] theorem State.modVision_control (f : Vision → Vision) : (s.modVision f).control = s.control := rfl
@[simp] theorem State.modVision_stage (f : Vision → Vision) : (s.modVision f).stage = s.stage := rfl
@[simp] theorem State.modVision_functions (f : Vision → Vision) : (s.modVision f).functions = s.functions := rfl
@[simp] theorem State.modVision_fieldIo (f : Vision → Vision) : (s.modVision f).fieldIo = s.fieldIo := rfl
@[simp] theorem State.modVision_place (f : Vision → Vision) : (s.modVision f).place = s.place := rfl
@[simp] theorem State.modVision_fabric (f : Vision → Vision) : (s.modVision f).fabric = s.fabric := rfl
@[simp] theorem State.modVision_nav (f : Vision → Vision) : (s.modVision f).nav = s.nav := rfl
@[simp] theorem State.modVision_vision (f : Vision → Vision) : (s.modVision f).vision = f s.vision := rfl
@[simp] theorem State.modVision_infer (f : Vision → Vision) : (s.modVision f).infer = s.infer := rfl
@[simp] theorem State.modVision_buses (f : Vision → Vision) : (s.modVision f).buses = s.buses := rfl
@[simp] theorem State.modVision_eth (f : Vision → Vision) : (s.modVision f).eth = s.eth := rfl
@[simp] theorem State.modVision_fleet (f : Vision → Vision) : (s.modVision f).fleet = s.fleet := rfl
@[simp] theorem State.modVision_display (f : Vision → Vision) : (s.modVision f).display = s.display := rfl
@[simp] theorem State.modVision_safety (f : Vision → Vision) : (s.modVision f).safety = s.safety := rfl
@[simp] theorem State.modVision_update (f : Vision → Vision) : (s.modVision f).update = s.update := rfl
@[simp] theorem State.modVision_sections (f : Vision → Vision) : (s.modVision f).sections = s.sections := rfl
@[simp] theorem State.modVision_freeCount (f : Vision → Vision) : (s.modVision f).freeCount = s.freeCount := rfl
@[simp] theorem State.modVision_deferred (f : Vision → Vision) : (s.modVision f).deferred = s.deferred := rfl
@[simp] theorem State.modVision_pending (f : Vision → Vision) : (s.modVision f).pending = s.pending := rfl

/-! ### modInfer -/

@[simp] theorem State.modInfer_time (f : Inference → Inference) : (s.modInfer f).time = s.time := rfl
@[simp] theorem State.modInfer_tick (f : Inference → Inference) : (s.modInfer f).tick = s.tick := rfl
@[simp] theorem State.modInfer_copies (f : Inference → Inference) : (s.modInfer f).copies = s.copies := rfl
@[simp] theorem State.modInfer_hub (f : Inference → Inference) : (s.modInfer f).hub = s.hub := rfl
@[simp] theorem State.modInfer_power (f : Inference → Inference) : (s.modInfer f).power = s.power := rfl
@[simp] theorem State.modInfer_mode (f : Inference → Inference) : (s.modInfer f).mode = s.mode := rfl
@[simp] theorem State.modInfer_ledger (f : Inference → Inference) : (s.modInfer f).ledger = s.ledger := rfl
@[simp] theorem State.modInfer_control (f : Inference → Inference) : (s.modInfer f).control = s.control := rfl
@[simp] theorem State.modInfer_stage (f : Inference → Inference) : (s.modInfer f).stage = s.stage := rfl
@[simp] theorem State.modInfer_functions (f : Inference → Inference) : (s.modInfer f).functions = s.functions := rfl
@[simp] theorem State.modInfer_fieldIo (f : Inference → Inference) : (s.modInfer f).fieldIo = s.fieldIo := rfl
@[simp] theorem State.modInfer_place (f : Inference → Inference) : (s.modInfer f).place = s.place := rfl
@[simp] theorem State.modInfer_fabric (f : Inference → Inference) : (s.modInfer f).fabric = s.fabric := rfl
@[simp] theorem State.modInfer_nav (f : Inference → Inference) : (s.modInfer f).nav = s.nav := rfl
@[simp] theorem State.modInfer_vision (f : Inference → Inference) : (s.modInfer f).vision = s.vision := rfl
@[simp] theorem State.modInfer_infer (f : Inference → Inference) : (s.modInfer f).infer = f s.infer := rfl
@[simp] theorem State.modInfer_buses (f : Inference → Inference) : (s.modInfer f).buses = s.buses := rfl
@[simp] theorem State.modInfer_eth (f : Inference → Inference) : (s.modInfer f).eth = s.eth := rfl
@[simp] theorem State.modInfer_fleet (f : Inference → Inference) : (s.modInfer f).fleet = s.fleet := rfl
@[simp] theorem State.modInfer_display (f : Inference → Inference) : (s.modInfer f).display = s.display := rfl
@[simp] theorem State.modInfer_safety (f : Inference → Inference) : (s.modInfer f).safety = s.safety := rfl
@[simp] theorem State.modInfer_update (f : Inference → Inference) : (s.modInfer f).update = s.update := rfl
@[simp] theorem State.modInfer_sections (f : Inference → Inference) : (s.modInfer f).sections = s.sections := rfl
@[simp] theorem State.modInfer_freeCount (f : Inference → Inference) : (s.modInfer f).freeCount = s.freeCount := rfl
@[simp] theorem State.modInfer_deferred (f : Inference → Inference) : (s.modInfer f).deferred = s.deferred := rfl
@[simp] theorem State.modInfer_pending (f : Inference → Inference) : (s.modInfer f).pending = s.pending := rfl

/-! ### modEth -/

@[simp] theorem State.modEth_time (f : EthSwitch → EthSwitch) : (s.modEth f).time = s.time := rfl
@[simp] theorem State.modEth_tick (f : EthSwitch → EthSwitch) : (s.modEth f).tick = s.tick := rfl
@[simp] theorem State.modEth_copies (f : EthSwitch → EthSwitch) : (s.modEth f).copies = s.copies := rfl
@[simp] theorem State.modEth_hub (f : EthSwitch → EthSwitch) : (s.modEth f).hub = s.hub := rfl
@[simp] theorem State.modEth_power (f : EthSwitch → EthSwitch) : (s.modEth f).power = s.power := rfl
@[simp] theorem State.modEth_mode (f : EthSwitch → EthSwitch) : (s.modEth f).mode = s.mode := rfl
@[simp] theorem State.modEth_ledger (f : EthSwitch → EthSwitch) : (s.modEth f).ledger = s.ledger := rfl
@[simp] theorem State.modEth_control (f : EthSwitch → EthSwitch) : (s.modEth f).control = s.control := rfl
@[simp] theorem State.modEth_stage (f : EthSwitch → EthSwitch) : (s.modEth f).stage = s.stage := rfl
@[simp] theorem State.modEth_functions (f : EthSwitch → EthSwitch) : (s.modEth f).functions = s.functions := rfl
@[simp] theorem State.modEth_fieldIo (f : EthSwitch → EthSwitch) : (s.modEth f).fieldIo = s.fieldIo := rfl
@[simp] theorem State.modEth_place (f : EthSwitch → EthSwitch) : (s.modEth f).place = s.place := rfl
@[simp] theorem State.modEth_fabric (f : EthSwitch → EthSwitch) : (s.modEth f).fabric = s.fabric := rfl
@[simp] theorem State.modEth_nav (f : EthSwitch → EthSwitch) : (s.modEth f).nav = s.nav := rfl
@[simp] theorem State.modEth_vision (f : EthSwitch → EthSwitch) : (s.modEth f).vision = s.vision := rfl
@[simp] theorem State.modEth_infer (f : EthSwitch → EthSwitch) : (s.modEth f).infer = s.infer := rfl
@[simp] theorem State.modEth_buses (f : EthSwitch → EthSwitch) : (s.modEth f).buses = s.buses := rfl
@[simp] theorem State.modEth_eth (f : EthSwitch → EthSwitch) : (s.modEth f).eth = f s.eth := rfl
@[simp] theorem State.modEth_fleet (f : EthSwitch → EthSwitch) : (s.modEth f).fleet = s.fleet := rfl
@[simp] theorem State.modEth_display (f : EthSwitch → EthSwitch) : (s.modEth f).display = s.display := rfl
@[simp] theorem State.modEth_safety (f : EthSwitch → EthSwitch) : (s.modEth f).safety = s.safety := rfl
@[simp] theorem State.modEth_update (f : EthSwitch → EthSwitch) : (s.modEth f).update = s.update := rfl
@[simp] theorem State.modEth_sections (f : EthSwitch → EthSwitch) : (s.modEth f).sections = s.sections := rfl
@[simp] theorem State.modEth_freeCount (f : EthSwitch → EthSwitch) : (s.modEth f).freeCount = s.freeCount := rfl
@[simp] theorem State.modEth_deferred (f : EthSwitch → EthSwitch) : (s.modEth f).deferred = s.deferred := rfl
@[simp] theorem State.modEth_pending (f : EthSwitch → EthSwitch) : (s.modEth f).pending = s.pending := rfl

/-! ### modFleet -/

@[simp] theorem State.modFleet_time (f : Fleet → Fleet) : (s.modFleet f).time = s.time := rfl
@[simp] theorem State.modFleet_tick (f : Fleet → Fleet) : (s.modFleet f).tick = s.tick := rfl
@[simp] theorem State.modFleet_copies (f : Fleet → Fleet) : (s.modFleet f).copies = s.copies := rfl
@[simp] theorem State.modFleet_hub (f : Fleet → Fleet) : (s.modFleet f).hub = s.hub := rfl
@[simp] theorem State.modFleet_power (f : Fleet → Fleet) : (s.modFleet f).power = s.power := rfl
@[simp] theorem State.modFleet_mode (f : Fleet → Fleet) : (s.modFleet f).mode = s.mode := rfl
@[simp] theorem State.modFleet_ledger (f : Fleet → Fleet) : (s.modFleet f).ledger = s.ledger := rfl
@[simp] theorem State.modFleet_control (f : Fleet → Fleet) : (s.modFleet f).control = s.control := rfl
@[simp] theorem State.modFleet_stage (f : Fleet → Fleet) : (s.modFleet f).stage = s.stage := rfl
@[simp] theorem State.modFleet_functions (f : Fleet → Fleet) : (s.modFleet f).functions = s.functions := rfl
@[simp] theorem State.modFleet_fieldIo (f : Fleet → Fleet) : (s.modFleet f).fieldIo = s.fieldIo := rfl
@[simp] theorem State.modFleet_place (f : Fleet → Fleet) : (s.modFleet f).place = s.place := rfl
@[simp] theorem State.modFleet_fabric (f : Fleet → Fleet) : (s.modFleet f).fabric = s.fabric := rfl
@[simp] theorem State.modFleet_nav (f : Fleet → Fleet) : (s.modFleet f).nav = s.nav := rfl
@[simp] theorem State.modFleet_vision (f : Fleet → Fleet) : (s.modFleet f).vision = s.vision := rfl
@[simp] theorem State.modFleet_infer (f : Fleet → Fleet) : (s.modFleet f).infer = s.infer := rfl
@[simp] theorem State.modFleet_buses (f : Fleet → Fleet) : (s.modFleet f).buses = s.buses := rfl
@[simp] theorem State.modFleet_eth (f : Fleet → Fleet) : (s.modFleet f).eth = s.eth := rfl
@[simp] theorem State.modFleet_fleet (f : Fleet → Fleet) : (s.modFleet f).fleet = f s.fleet := rfl
@[simp] theorem State.modFleet_display (f : Fleet → Fleet) : (s.modFleet f).display = s.display := rfl
@[simp] theorem State.modFleet_safety (f : Fleet → Fleet) : (s.modFleet f).safety = s.safety := rfl
@[simp] theorem State.modFleet_update (f : Fleet → Fleet) : (s.modFleet f).update = s.update := rfl
@[simp] theorem State.modFleet_sections (f : Fleet → Fleet) : (s.modFleet f).sections = s.sections := rfl
@[simp] theorem State.modFleet_freeCount (f : Fleet → Fleet) : (s.modFleet f).freeCount = s.freeCount := rfl
@[simp] theorem State.modFleet_deferred (f : Fleet → Fleet) : (s.modFleet f).deferred = s.deferred := rfl
@[simp] theorem State.modFleet_pending (f : Fleet → Fleet) : (s.modFleet f).pending = s.pending := rfl

/-! ### modDisplay -/

@[simp] theorem State.modDisplay_time (f : Display → Display) : (s.modDisplay f).time = s.time := rfl
@[simp] theorem State.modDisplay_tick (f : Display → Display) : (s.modDisplay f).tick = s.tick := rfl
@[simp] theorem State.modDisplay_copies (f : Display → Display) : (s.modDisplay f).copies = s.copies := rfl
@[simp] theorem State.modDisplay_hub (f : Display → Display) : (s.modDisplay f).hub = s.hub := rfl
@[simp] theorem State.modDisplay_power (f : Display → Display) : (s.modDisplay f).power = s.power := rfl
@[simp] theorem State.modDisplay_mode (f : Display → Display) : (s.modDisplay f).mode = s.mode := rfl
@[simp] theorem State.modDisplay_ledger (f : Display → Display) : (s.modDisplay f).ledger = s.ledger := rfl
@[simp] theorem State.modDisplay_control (f : Display → Display) : (s.modDisplay f).control = s.control := rfl
@[simp] theorem State.modDisplay_stage (f : Display → Display) : (s.modDisplay f).stage = s.stage := rfl
@[simp] theorem State.modDisplay_functions (f : Display → Display) : (s.modDisplay f).functions = s.functions := rfl
@[simp] theorem State.modDisplay_fieldIo (f : Display → Display) : (s.modDisplay f).fieldIo = s.fieldIo := rfl
@[simp] theorem State.modDisplay_place (f : Display → Display) : (s.modDisplay f).place = s.place := rfl
@[simp] theorem State.modDisplay_fabric (f : Display → Display) : (s.modDisplay f).fabric = s.fabric := rfl
@[simp] theorem State.modDisplay_nav (f : Display → Display) : (s.modDisplay f).nav = s.nav := rfl
@[simp] theorem State.modDisplay_vision (f : Display → Display) : (s.modDisplay f).vision = s.vision := rfl
@[simp] theorem State.modDisplay_infer (f : Display → Display) : (s.modDisplay f).infer = s.infer := rfl
@[simp] theorem State.modDisplay_buses (f : Display → Display) : (s.modDisplay f).buses = s.buses := rfl
@[simp] theorem State.modDisplay_eth (f : Display → Display) : (s.modDisplay f).eth = s.eth := rfl
@[simp] theorem State.modDisplay_fleet (f : Display → Display) : (s.modDisplay f).fleet = s.fleet := rfl
@[simp] theorem State.modDisplay_display (f : Display → Display) : (s.modDisplay f).display = f s.display := rfl
@[simp] theorem State.modDisplay_safety (f : Display → Display) : (s.modDisplay f).safety = s.safety := rfl
@[simp] theorem State.modDisplay_update (f : Display → Display) : (s.modDisplay f).update = s.update := rfl
@[simp] theorem State.modDisplay_sections (f : Display → Display) : (s.modDisplay f).sections = s.sections := rfl
@[simp] theorem State.modDisplay_freeCount (f : Display → Display) : (s.modDisplay f).freeCount = s.freeCount := rfl
@[simp] theorem State.modDisplay_deferred (f : Display → Display) : (s.modDisplay f).deferred = s.deferred := rfl
@[simp] theorem State.modDisplay_pending (f : Display → Display) : (s.modDisplay f).pending = s.pending := rfl

/-! ### modSafety -/

@[simp] theorem State.modSafety_time (f : Safety → Safety) : (s.modSafety f).time = s.time := rfl
@[simp] theorem State.modSafety_tick (f : Safety → Safety) : (s.modSafety f).tick = s.tick := rfl
@[simp] theorem State.modSafety_copies (f : Safety → Safety) : (s.modSafety f).copies = s.copies := rfl
@[simp] theorem State.modSafety_hub (f : Safety → Safety) : (s.modSafety f).hub = s.hub := rfl
@[simp] theorem State.modSafety_power (f : Safety → Safety) : (s.modSafety f).power = s.power := rfl
@[simp] theorem State.modSafety_mode (f : Safety → Safety) : (s.modSafety f).mode = s.mode := rfl
@[simp] theorem State.modSafety_ledger (f : Safety → Safety) : (s.modSafety f).ledger = s.ledger := rfl
@[simp] theorem State.modSafety_control (f : Safety → Safety) : (s.modSafety f).control = s.control := rfl
@[simp] theorem State.modSafety_stage (f : Safety → Safety) : (s.modSafety f).stage = s.stage := rfl
@[simp] theorem State.modSafety_functions (f : Safety → Safety) : (s.modSafety f).functions = s.functions := rfl
@[simp] theorem State.modSafety_fieldIo (f : Safety → Safety) : (s.modSafety f).fieldIo = s.fieldIo := rfl
@[simp] theorem State.modSafety_place (f : Safety → Safety) : (s.modSafety f).place = s.place := rfl
@[simp] theorem State.modSafety_fabric (f : Safety → Safety) : (s.modSafety f).fabric = s.fabric := rfl
@[simp] theorem State.modSafety_nav (f : Safety → Safety) : (s.modSafety f).nav = s.nav := rfl
@[simp] theorem State.modSafety_vision (f : Safety → Safety) : (s.modSafety f).vision = s.vision := rfl
@[simp] theorem State.modSafety_infer (f : Safety → Safety) : (s.modSafety f).infer = s.infer := rfl
@[simp] theorem State.modSafety_buses (f : Safety → Safety) : (s.modSafety f).buses = s.buses := rfl
@[simp] theorem State.modSafety_eth (f : Safety → Safety) : (s.modSafety f).eth = s.eth := rfl
@[simp] theorem State.modSafety_fleet (f : Safety → Safety) : (s.modSafety f).fleet = s.fleet := rfl
@[simp] theorem State.modSafety_display (f : Safety → Safety) : (s.modSafety f).display = s.display := rfl
@[simp] theorem State.modSafety_safety (f : Safety → Safety) : (s.modSafety f).safety = f s.safety := rfl
@[simp] theorem State.modSafety_update (f : Safety → Safety) : (s.modSafety f).update = s.update := rfl
@[simp] theorem State.modSafety_sections (f : Safety → Safety) : (s.modSafety f).sections = s.sections := rfl
@[simp] theorem State.modSafety_freeCount (f : Safety → Safety) : (s.modSafety f).freeCount = s.freeCount := rfl
@[simp] theorem State.modSafety_deferred (f : Safety → Safety) : (s.modSafety f).deferred = s.deferred := rfl
@[simp] theorem State.modSafety_pending (f : Safety → Safety) : (s.modSafety f).pending = s.pending := rfl

/-! ### modUpdate -/

@[simp] theorem State.modUpdate_time (f : Update → Update) : (s.modUpdate f).time = s.time := rfl
@[simp] theorem State.modUpdate_tick (f : Update → Update) : (s.modUpdate f).tick = s.tick := rfl
@[simp] theorem State.modUpdate_copies (f : Update → Update) : (s.modUpdate f).copies = s.copies := rfl
@[simp] theorem State.modUpdate_hub (f : Update → Update) : (s.modUpdate f).hub = s.hub := rfl
@[simp] theorem State.modUpdate_power (f : Update → Update) : (s.modUpdate f).power = s.power := rfl
@[simp] theorem State.modUpdate_mode (f : Update → Update) : (s.modUpdate f).mode = s.mode := rfl
@[simp] theorem State.modUpdate_ledger (f : Update → Update) : (s.modUpdate f).ledger = s.ledger := rfl
@[simp] theorem State.modUpdate_control (f : Update → Update) : (s.modUpdate f).control = s.control := rfl
@[simp] theorem State.modUpdate_stage (f : Update → Update) : (s.modUpdate f).stage = s.stage := rfl
@[simp] theorem State.modUpdate_functions (f : Update → Update) : (s.modUpdate f).functions = s.functions := rfl
@[simp] theorem State.modUpdate_fieldIo (f : Update → Update) : (s.modUpdate f).fieldIo = s.fieldIo := rfl
@[simp] theorem State.modUpdate_place (f : Update → Update) : (s.modUpdate f).place = s.place := rfl
@[simp] theorem State.modUpdate_fabric (f : Update → Update) : (s.modUpdate f).fabric = s.fabric := rfl
@[simp] theorem State.modUpdate_nav (f : Update → Update) : (s.modUpdate f).nav = s.nav := rfl
@[simp] theorem State.modUpdate_vision (f : Update → Update) : (s.modUpdate f).vision = s.vision := rfl
@[simp] theorem State.modUpdate_infer (f : Update → Update) : (s.modUpdate f).infer = s.infer := rfl
@[simp] theorem State.modUpdate_buses (f : Update → Update) : (s.modUpdate f).buses = s.buses := rfl
@[simp] theorem State.modUpdate_eth (f : Update → Update) : (s.modUpdate f).eth = s.eth := rfl
@[simp] theorem State.modUpdate_fleet (f : Update → Update) : (s.modUpdate f).fleet = s.fleet := rfl
@[simp] theorem State.modUpdate_display (f : Update → Update) : (s.modUpdate f).display = s.display := rfl
@[simp] theorem State.modUpdate_safety (f : Update → Update) : (s.modUpdate f).safety = s.safety := rfl
@[simp] theorem State.modUpdate_update (f : Update → Update) : (s.modUpdate f).update = f s.update := rfl
@[simp] theorem State.modUpdate_sections (f : Update → Update) : (s.modUpdate f).sections = s.sections := rfl
@[simp] theorem State.modUpdate_freeCount (f : Update → Update) : (s.modUpdate f).freeCount = s.freeCount := rfl
@[simp] theorem State.modUpdate_deferred (f : Update → Update) : (s.modUpdate f).deferred = s.deferred := rfl
@[simp] theorem State.modUpdate_pending (f : Update → Update) : (s.modUpdate f).pending = s.pending := rfl

/-! ### modSections -/

@[simp] theorem State.modSections_time (f : Sections → Sections) : (s.modSections f).time = s.time := rfl
@[simp] theorem State.modSections_tick (f : Sections → Sections) : (s.modSections f).tick = s.tick := rfl
@[simp] theorem State.modSections_copies (f : Sections → Sections) : (s.modSections f).copies = s.copies := rfl
@[simp] theorem State.modSections_hub (f : Sections → Sections) : (s.modSections f).hub = s.hub := rfl
@[simp] theorem State.modSections_power (f : Sections → Sections) : (s.modSections f).power = s.power := rfl
@[simp] theorem State.modSections_mode (f : Sections → Sections) : (s.modSections f).mode = s.mode := rfl
@[simp] theorem State.modSections_ledger (f : Sections → Sections) : (s.modSections f).ledger = s.ledger := rfl
@[simp] theorem State.modSections_control (f : Sections → Sections) : (s.modSections f).control = s.control := rfl
@[simp] theorem State.modSections_stage (f : Sections → Sections) : (s.modSections f).stage = s.stage := rfl
@[simp] theorem State.modSections_functions (f : Sections → Sections) : (s.modSections f).functions = s.functions := rfl
@[simp] theorem State.modSections_fieldIo (f : Sections → Sections) : (s.modSections f).fieldIo = s.fieldIo := rfl
@[simp] theorem State.modSections_place (f : Sections → Sections) : (s.modSections f).place = s.place := rfl
@[simp] theorem State.modSections_fabric (f : Sections → Sections) : (s.modSections f).fabric = s.fabric := rfl
@[simp] theorem State.modSections_nav (f : Sections → Sections) : (s.modSections f).nav = s.nav := rfl
@[simp] theorem State.modSections_vision (f : Sections → Sections) : (s.modSections f).vision = s.vision := rfl
@[simp] theorem State.modSections_infer (f : Sections → Sections) : (s.modSections f).infer = s.infer := rfl
@[simp] theorem State.modSections_buses (f : Sections → Sections) : (s.modSections f).buses = s.buses := rfl
@[simp] theorem State.modSections_eth (f : Sections → Sections) : (s.modSections f).eth = s.eth := rfl
@[simp] theorem State.modSections_fleet (f : Sections → Sections) : (s.modSections f).fleet = s.fleet := rfl
@[simp] theorem State.modSections_display (f : Sections → Sections) : (s.modSections f).display = s.display := rfl
@[simp] theorem State.modSections_safety (f : Sections → Sections) : (s.modSections f).safety = s.safety := rfl
@[simp] theorem State.modSections_update (f : Sections → Sections) : (s.modSections f).update = s.update := rfl
@[simp] theorem State.modSections_sections (f : Sections → Sections) : (s.modSections f).sections = f s.sections := rfl
@[simp] theorem State.modSections_freeCount (f : Sections → Sections) : (s.modSections f).freeCount = s.freeCount := rfl
@[simp] theorem State.modSections_deferred (f : Sections → Sections) : (s.modSections f).deferred = s.deferred := rfl
@[simp] theorem State.modSections_pending (f : Sections → Sections) : (s.modSections f).pending = s.pending := rfl

/-! ### modBus -/

@[simp] theorem State.modBus_time (n : Nat) (f : BusController → BusController) : (s.modBus n f).time = s.time := rfl
@[simp] theorem State.modBus_tick (n : Nat) (f : BusController → BusController) : (s.modBus n f).tick = s.tick := rfl
@[simp] theorem State.modBus_copies (n : Nat) (f : BusController → BusController) : (s.modBus n f).copies = s.copies := rfl
@[simp] theorem State.modBus_hub (n : Nat) (f : BusController → BusController) : (s.modBus n f).hub = s.hub := rfl
@[simp] theorem State.modBus_power (n : Nat) (f : BusController → BusController) : (s.modBus n f).power = s.power := rfl
@[simp] theorem State.modBus_mode (n : Nat) (f : BusController → BusController) : (s.modBus n f).mode = s.mode := rfl
@[simp] theorem State.modBus_ledger (n : Nat) (f : BusController → BusController) : (s.modBus n f).ledger = s.ledger := rfl
@[simp] theorem State.modBus_control (n : Nat) (f : BusController → BusController) : (s.modBus n f).control = s.control := rfl
@[simp] theorem State.modBus_stage (n : Nat) (f : BusController → BusController) : (s.modBus n f).stage = s.stage := rfl
@[simp] theorem State.modBus_functions (n : Nat) (f : BusController → BusController) : (s.modBus n f).functions = s.functions := rfl
@[simp] theorem State.modBus_fieldIo (n : Nat) (f : BusController → BusController) : (s.modBus n f).fieldIo = s.fieldIo := rfl
@[simp] theorem State.modBus_place (n : Nat) (f : BusController → BusController) : (s.modBus n f).place = s.place := rfl
@[simp] theorem State.modBus_fabric (n : Nat) (f : BusController → BusController) : (s.modBus n f).fabric = s.fabric := rfl
@[simp] theorem State.modBus_nav (n : Nat) (f : BusController → BusController) : (s.modBus n f).nav = s.nav := rfl
@[simp] theorem State.modBus_vision (n : Nat) (f : BusController → BusController) : (s.modBus n f).vision = s.vision := rfl
@[simp] theorem State.modBus_infer (n : Nat) (f : BusController → BusController) : (s.modBus n f).infer = s.infer := rfl
@[simp] theorem State.modBus_buses (n : Nat) (f : BusController → BusController) : (s.modBus n f).buses = s.buses.upd n BusController.reset f := rfl
@[simp] theorem State.modBus_eth (n : Nat) (f : BusController → BusController) : (s.modBus n f).eth = s.eth := rfl
@[simp] theorem State.modBus_fleet (n : Nat) (f : BusController → BusController) : (s.modBus n f).fleet = s.fleet := rfl
@[simp] theorem State.modBus_display (n : Nat) (f : BusController → BusController) : (s.modBus n f).display = s.display := rfl
@[simp] theorem State.modBus_safety (n : Nat) (f : BusController → BusController) : (s.modBus n f).safety = s.safety := rfl
@[simp] theorem State.modBus_update (n : Nat) (f : BusController → BusController) : (s.modBus n f).update = s.update := rfl
@[simp] theorem State.modBus_sections (n : Nat) (f : BusController → BusController) : (s.modBus n f).sections = s.sections := rfl
@[simp] theorem State.modBus_freeCount (n : Nat) (f : BusController → BusController) : (s.modBus n f).freeCount = s.freeCount := rfl
@[simp] theorem State.modBus_deferred (n : Nat) (f : BusController → BusController) : (s.modBus n f).deferred = s.deferred := rfl
@[simp] theorem State.modBus_pending (n : Nat) (f : BusController → BusController) : (s.modBus n f).pending = s.pending := rfl

/-! ### modBase -/

@[simp] theorem State.modBase_time (f : Baseband → Baseband) : (s.modBase f).time = s.time := rfl
@[simp] theorem State.modBase_tick (f : Baseband → Baseband) : (s.modBase f).tick = s.tick := rfl
@[simp] theorem State.modBase_copies (f : Baseband → Baseband) : (s.modBase f).copies = s.copies := rfl
@[simp] theorem State.modBase_hub (f : Baseband → Baseband) : (s.modBase f).hub = s.hub := rfl
@[simp] theorem State.modBase_power (f : Baseband → Baseband) : (s.modBase f).power = s.power := rfl
@[simp] theorem State.modBase_mode (f : Baseband → Baseband) : (s.modBase f).mode = s.mode := rfl
@[simp] theorem State.modBase_ledger (f : Baseband → Baseband) : (s.modBase f).ledger = s.ledger := rfl
@[simp] theorem State.modBase_control (f : Baseband → Baseband) : (s.modBase f).control = s.control := rfl
@[simp] theorem State.modBase_stage (f : Baseband → Baseband) : (s.modBase f).stage = s.stage := rfl
@[simp] theorem State.modBase_functions (f : Baseband → Baseband) : (s.modBase f).functions = s.functions := rfl
@[simp] theorem State.modBase_fieldIo (f : Baseband → Baseband) : (s.modBase f).fieldIo = s.fieldIo := rfl
@[simp] theorem State.modBase_place (f : Baseband → Baseband) : (s.modBase f).place = s.place := rfl
@[simp] theorem State.modBase_fabric (f : Baseband → Baseband) : (s.modBase f).fabric = s.fabric := rfl
@[simp] theorem State.modBase_nav (f : Baseband → Baseband) : (s.modBase f).nav = { s.nav with base := f s.nav.base } := rfl
@[simp] theorem State.modBase_vision (f : Baseband → Baseband) : (s.modBase f).vision = s.vision := rfl
@[simp] theorem State.modBase_infer (f : Baseband → Baseband) : (s.modBase f).infer = s.infer := rfl
@[simp] theorem State.modBase_buses (f : Baseband → Baseband) : (s.modBase f).buses = s.buses := rfl
@[simp] theorem State.modBase_eth (f : Baseband → Baseband) : (s.modBase f).eth = s.eth := rfl
@[simp] theorem State.modBase_fleet (f : Baseband → Baseband) : (s.modBase f).fleet = s.fleet := rfl
@[simp] theorem State.modBase_display (f : Baseband → Baseband) : (s.modBase f).display = s.display := rfl
@[simp] theorem State.modBase_safety (f : Baseband → Baseband) : (s.modBase f).safety = s.safety := rfl
@[simp] theorem State.modBase_update (f : Baseband → Baseband) : (s.modBase f).update = s.update := rfl
@[simp] theorem State.modBase_sections (f : Baseband → Baseband) : (s.modBase f).sections = s.sections := rfl
@[simp] theorem State.modBase_freeCount (f : Baseband → Baseband) : (s.modBase f).freeCount = s.freeCount := rfl
@[simp] theorem State.modBase_deferred (f : Baseband → Baseband) : (s.modBase f).deferred = s.deferred := rfl
@[simp] theorem State.modBase_pending (f : Baseband → Baseband) : (s.modBase f).pending = s.pending := rfl

/-! ### modRtk -/

@[simp] theorem State.modRtk_time (f : Rtk → Rtk) : (s.modRtk f).time = s.time := rfl
@[simp] theorem State.modRtk_tick (f : Rtk → Rtk) : (s.modRtk f).tick = s.tick := rfl
@[simp] theorem State.modRtk_copies (f : Rtk → Rtk) : (s.modRtk f).copies = s.copies := rfl
@[simp] theorem State.modRtk_hub (f : Rtk → Rtk) : (s.modRtk f).hub = s.hub := rfl
@[simp] theorem State.modRtk_power (f : Rtk → Rtk) : (s.modRtk f).power = s.power := rfl
@[simp] theorem State.modRtk_mode (f : Rtk → Rtk) : (s.modRtk f).mode = s.mode := rfl
@[simp] theorem State.modRtk_ledger (f : Rtk → Rtk) : (s.modRtk f).ledger = s.ledger := rfl
@[simp] theorem State.modRtk_control (f : Rtk → Rtk) : (s.modRtk f).control = s.control := rfl
@[simp] theorem State.modRtk_stage (f : Rtk → Rtk) : (s.modRtk f).stage = s.stage := rfl
@[simp] theorem State.modRtk_functions (f : Rtk → Rtk) : (s.modRtk f).functions = s.functions := rfl
@[simp] theorem State.modRtk_fieldIo (f : Rtk → Rtk) : (s.modRtk f).fieldIo = s.fieldIo := rfl
@[simp] theorem State.modRtk_place (f : Rtk → Rtk) : (s.modRtk f).place = s.place := rfl
@[simp] theorem State.modRtk_fabric (f : Rtk → Rtk) : (s.modRtk f).fabric = s.fabric := rfl
@[simp] theorem State.modRtk_nav (f : Rtk → Rtk) : (s.modRtk f).nav = { s.nav with rtk := f s.nav.rtk } := rfl
@[simp] theorem State.modRtk_vision (f : Rtk → Rtk) : (s.modRtk f).vision = s.vision := rfl
@[simp] theorem State.modRtk_infer (f : Rtk → Rtk) : (s.modRtk f).infer = s.infer := rfl
@[simp] theorem State.modRtk_buses (f : Rtk → Rtk) : (s.modRtk f).buses = s.buses := rfl
@[simp] theorem State.modRtk_eth (f : Rtk → Rtk) : (s.modRtk f).eth = s.eth := rfl
@[simp] theorem State.modRtk_fleet (f : Rtk → Rtk) : (s.modRtk f).fleet = s.fleet := rfl
@[simp] theorem State.modRtk_display (f : Rtk → Rtk) : (s.modRtk f).display = s.display := rfl
@[simp] theorem State.modRtk_safety (f : Rtk → Rtk) : (s.modRtk f).safety = s.safety := rfl
@[simp] theorem State.modRtk_update (f : Rtk → Rtk) : (s.modRtk f).update = s.update := rfl
@[simp] theorem State.modRtk_sections (f : Rtk → Rtk) : (s.modRtk f).sections = s.sections := rfl
@[simp] theorem State.modRtk_freeCount (f : Rtk → Rtk) : (s.modRtk f).freeCount = s.freeCount := rfl
@[simp] theorem State.modRtk_deferred (f : Rtk → Rtk) : (s.modRtk f).deferred = s.deferred := rfl
@[simp] theorem State.modRtk_pending (f : Rtk → Rtk) : (s.modRtk f).pending = s.pending := rfl

/-! ### modFusion -/

@[simp] theorem State.modFusion_time (f : Fusion → Fusion) : (s.modFusion f).time = s.time := rfl
@[simp] theorem State.modFusion_tick (f : Fusion → Fusion) : (s.modFusion f).tick = s.tick := rfl
@[simp] theorem State.modFusion_copies (f : Fusion → Fusion) : (s.modFusion f).copies = s.copies := rfl
@[simp] theorem State.modFusion_hub (f : Fusion → Fusion) : (s.modFusion f).hub = s.hub := rfl
@[simp] theorem State.modFusion_power (f : Fusion → Fusion) : (s.modFusion f).power = s.power := rfl
@[simp] theorem State.modFusion_mode (f : Fusion → Fusion) : (s.modFusion f).mode = s.mode := rfl
@[simp] theorem State.modFusion_ledger (f : Fusion → Fusion) : (s.modFusion f).ledger = s.ledger := rfl
@[simp] theorem State.modFusion_control (f : Fusion → Fusion) : (s.modFusion f).control = s.control := rfl
@[simp] theorem State.modFusion_stage (f : Fusion → Fusion) : (s.modFusion f).stage = s.stage := rfl
@[simp] theorem State.modFusion_functions (f : Fusion → Fusion) : (s.modFusion f).functions = s.functions := rfl
@[simp] theorem State.modFusion_fieldIo (f : Fusion → Fusion) : (s.modFusion f).fieldIo = s.fieldIo := rfl
@[simp] theorem State.modFusion_place (f : Fusion → Fusion) : (s.modFusion f).place = s.place := rfl
@[simp] theorem State.modFusion_fabric (f : Fusion → Fusion) : (s.modFusion f).fabric = s.fabric := rfl
@[simp] theorem State.modFusion_nav (f : Fusion → Fusion) : (s.modFusion f).nav = { s.nav with fusion := f s.nav.fusion } := rfl
@[simp] theorem State.modFusion_vision (f : Fusion → Fusion) : (s.modFusion f).vision = s.vision := rfl
@[simp] theorem State.modFusion_infer (f : Fusion → Fusion) : (s.modFusion f).infer = s.infer := rfl
@[simp] theorem State.modFusion_buses (f : Fusion → Fusion) : (s.modFusion f).buses = s.buses := rfl
@[simp] theorem State.modFusion_eth (f : Fusion → Fusion) : (s.modFusion f).eth = s.eth := rfl
@[simp] theorem State.modFusion_fleet (f : Fusion → Fusion) : (s.modFusion f).fleet = s.fleet := rfl
@[simp] theorem State.modFusion_display (f : Fusion → Fusion) : (s.modFusion f).display = s.display := rfl
@[simp] theorem State.modFusion_safety (f : Fusion → Fusion) : (s.modFusion f).safety = s.safety := rfl
@[simp] theorem State.modFusion_update (f : Fusion → Fusion) : (s.modFusion f).update = s.update := rfl
@[simp] theorem State.modFusion_sections (f : Fusion → Fusion) : (s.modFusion f).sections = s.sections := rfl
@[simp] theorem State.modFusion_freeCount (f : Fusion → Fusion) : (s.modFusion f).freeCount = s.freeCount := rfl
@[simp] theorem State.modFusion_deferred (f : Fusion → Fusion) : (s.modFusion f).deferred = s.deferred := rfl
@[simp] theorem State.modFusion_pending (f : Fusion → Fusion) : (s.modFusion f).pending = s.pending := rfl

/-! ### modTimekeeper -/

@[simp] theorem State.modTimekeeper_time (f : Timekeeper → Timekeeper) : (s.modTimekeeper f).time = s.time := rfl
@[simp] theorem State.modTimekeeper_tick (f : Timekeeper → Timekeeper) : (s.modTimekeeper f).tick = s.tick := rfl
@[simp] theorem State.modTimekeeper_copies (f : Timekeeper → Timekeeper) : (s.modTimekeeper f).copies = s.copies := rfl
@[simp] theorem State.modTimekeeper_hub (f : Timekeeper → Timekeeper) : (s.modTimekeeper f).hub = s.hub := rfl
@[simp] theorem State.modTimekeeper_power (f : Timekeeper → Timekeeper) : (s.modTimekeeper f).power = s.power := rfl
@[simp] theorem State.modTimekeeper_mode (f : Timekeeper → Timekeeper) : (s.modTimekeeper f).mode = s.mode := rfl
@[simp] theorem State.modTimekeeper_ledger (f : Timekeeper → Timekeeper) : (s.modTimekeeper f).ledger = s.ledger := rfl
@[simp] theorem State.modTimekeeper_control (f : Timekeeper → Timekeeper) : (s.modTimekeeper f).control = s.control := rfl
@[simp] theorem State.modTimekeeper_stage (f : Timekeeper → Timekeeper) : (s.modTimekeeper f).stage = s.stage := rfl
@[simp] theorem State.modTimekeeper_functions (f : Timekeeper → Timekeeper) : (s.modTimekeeper f).functions = s.functions := rfl
@[simp] theorem State.modTimekeeper_fieldIo (f : Timekeeper → Timekeeper) : (s.modTimekeeper f).fieldIo = s.fieldIo := rfl
@[simp] theorem State.modTimekeeper_place (f : Timekeeper → Timekeeper) : (s.modTimekeeper f).place = s.place := rfl
@[simp] theorem State.modTimekeeper_fabric (f : Timekeeper → Timekeeper) : (s.modTimekeeper f).fabric = s.fabric := rfl
@[simp] theorem State.modTimekeeper_nav (f : Timekeeper → Timekeeper) : (s.modTimekeeper f).nav = { s.nav with time := f s.nav.time } := rfl
@[simp] theorem State.modTimekeeper_vision (f : Timekeeper → Timekeeper) : (s.modTimekeeper f).vision = s.vision := rfl
@[simp] theorem State.modTimekeeper_infer (f : Timekeeper → Timekeeper) : (s.modTimekeeper f).infer = s.infer := rfl
@[simp] theorem State.modTimekeeper_buses (f : Timekeeper → Timekeeper) : (s.modTimekeeper f).buses = s.buses := rfl
@[simp] theorem State.modTimekeeper_eth (f : Timekeeper → Timekeeper) : (s.modTimekeeper f).eth = s.eth := rfl
@[simp] theorem State.modTimekeeper_fleet (f : Timekeeper → Timekeeper) : (s.modTimekeeper f).fleet = s.fleet := rfl
@[simp] theorem State.modTimekeeper_display (f : Timekeeper → Timekeeper) : (s.modTimekeeper f).display = s.display := rfl
@[simp] theorem State.modTimekeeper_safety (f : Timekeeper → Timekeeper) : (s.modTimekeeper f).safety = s.safety := rfl
@[simp] theorem State.modTimekeeper_update (f : Timekeeper → Timekeeper) : (s.modTimekeeper f).update = s.update := rfl
@[simp] theorem State.modTimekeeper_sections (f : Timekeeper → Timekeeper) : (s.modTimekeeper f).sections = s.sections := rfl
@[simp] theorem State.modTimekeeper_freeCount (f : Timekeeper → Timekeeper) : (s.modTimekeeper f).freeCount = s.freeCount := rfl
@[simp] theorem State.modTimekeeper_deferred (f : Timekeeper → Timekeeper) : (s.modTimekeeper f).deferred = s.deferred := rfl
@[simp] theorem State.modTimekeeper_pending (f : Timekeeper → Timekeeper) : (s.modTimekeeper f).pending = s.pending := rfl

end Sys2Proof.Machine
end

