-- ==== Sys2Proof/Laws/Step.lean ====
section
/-! SUPPORT. What the shared shapes of a command answer: the effect where a request is taken, a refusal where it is not, and the
effect of an event whose condition holds. -/

namespace Sys2Proof

open Machine

/-- A request that is taken has its effect. -/
theorem serve_taken {o : OpSpec} {unit : Nat} {r : Request} {s : State} {checks : State → List (Bool × Status)}
    {effect : State → State} (h : Taken o unit r s checks) :
    serve o unit r s checks effect = .next (effect (s.atTime r.time)) := by
  obtain ⟨hc, hg, hr⟩ := h
  simp [serve, valid, hc, hg, hr, firstSome]

/-- A request that the gate refuses is refused with the gate's status. -/
theorem serve_gated {o : OpSpec} {unit : Nat} {r : Request} {s : State} {checks : State → List (Bool × Status)}
    {effect : State → State} {st : Status} (hc : r.ch < 64) (hg : gate o unit r (s.atTime r.time) = some st) :
    serve o unit r s checks effect = .next (refuse o unit r st (s.atTime r.time)) := by
  simp [serve, valid, hc, hg, firstSome]

/-- A request that passes the gate is refused with the status of the OP's own check. -/
theorem serve_refused {o : OpSpec} {unit : Nat} {r : Request} {s : State} {checks : State → List (Bool × Status)}
    {effect : State → State} {st : Status} (hc : r.ch < 64) (hg : gate o unit r (s.atTime r.time) = none)
    (hr : refusal (checks (s.atTime r.time)) = some st) :
    serve o unit r s checks effect = .next (refuse o unit r st (s.atTime r.time)) := by
  simp [serve, valid, hc, hg, hr, firstSome]

/-- A request of entries that is taken has its effect. -/
theorem serveEntries_taken {o : OpSpec} {unit : Nat} {r : Request} {s : State} {named : Bool}
    {checks : State → List (Bool × Status)} {entries : State → List (List (Bool × Status))} {effect : State → State}
    (h : Taken o unit r s checks) (he : entryRefusal (entries (s.atTime r.time)) = none) :
    serveEntries o unit r s named checks entries effect = .next (effect (s.atTime r.time)) := by
  obtain ⟨hc, hg, hr⟩ := h
  simp [serveEntries, valid, hc, hg, hr, he, firstSome]

/-- A request of entries that the gate refuses names entry 0. -/
theorem serveEntries_gated {o : OpSpec} {unit : Nat} {r : Request} {s : State} {named : Bool}
    {checks : State → List (Bool × Status)} {entries : State → List (List (Bool × Status))} {effect : State → State}
    {st : Status} (hc : r.ch < 64) (hg : gate o unit r (s.atTime r.time) = some st) :
    serveEntries o unit r s named checks entries effect =
      .next (refuseWith o unit r st (if named && st != .badLength then le 1 0 ++ le 3 0 else []) (s.atTime r.time)) := by
  simp [serveEntries, valid, hc, hg, firstSome]

/-- An event whose condition holds has its effect. -/
theorem event_holds {t : Nat} {s : State} {cond : State → Bool} {effect : State → State} (h : cond (s.atTime t) = true) :
    event t s cond effect = .next (effect (s.atTime t)) := by
  simp [event, h]

/-- An event whose condition does not hold only takes its time. -/
theorem event_idle {t : Nat} {s : State} {cond : State → Bool} {effect : State → State} (h : cond (s.atTime t) = false) :
    event t s cond effect = .next (s.atTime t) := by
  simp [event, h]

/-- A command that names only objects of the module runs as its effect says. -/
theorem valid_holds {b : Bool} {o : Out} (h : b = true) : valid b o = o := by simp [valid, h]

/-- The next state of a command that runs to its effect at a module time, where the effect changes only the parts named. -/
theorem Runs.of {ps qs : List Part} {i : Instr} {s t : State} {m : Nat} (he : exec i s = .next t)
    (ho : Moved qs (s.atTime m) t) (sub : qs.all ps.contains = true) (ht : ps.contains .time = true) : Runs ps i s t :=
  ⟨he, (Moved.via ho (Moved.via (State.atTime_moved s m) (Moved.refl ps s) (by rw [List.all_cons, ht]; rfl)) sub).only⟩

/-- The state in which a command that may end a mode change leaves the parts it does not name. -/
theorem RunsSettled.of {ps qs : List Part} {i : Instr} {s t : State} {m : Nat} (he : exec i s = .next t.settleDeferred)
    (ho : Moved qs (s.atTime m) t) (sub : qs.all ps.contains = true) (ht : ps.contains .time = true) : RunsSettled ps i s t :=
  ⟨he, (Moved.via ho (Moved.via (State.atTime_moved s m) (Moved.refl ps s) (by rw [List.all_cons, ht]; rfl)) sub).only⟩

/-- With nothing deferred, the end of a change lets nothing go on. -/
theorem Machine.State.settleDeferred_none {s : State} (h : s.deferred = []) : s.settleDeferred = s := by
  unfold State.settleDeferred
  split
  · rw [h]; cases s; cases h; rfl
  · rfl

/-- A POOL_DONE that is taken names an item that is still waited for. -/
theorem poolLate_taken {u : Nat} {r : Request} {s : State} (h : Taken opPoolDone u r s (checksPoolDone r)) :
    s.poolLate r = false := by
  have e : ((s.job (r.u 0 1)).poolItem (r.u 4 4)).isNone = false := by
    rw [← Bool.not_eq_true]
    intro e
    have h := h.2.2
    have e' : (((s.atTime r.time).job (r.u 0 1)).poolItem (r.u 4 4)).isNone = true := e
    unfold checksPoolDone at h
    simp [refusal, e', Status.cls, Status.code, firstOf] at h
  unfold State.poolLate
  simp [e]

/-- A POOL_DONE that is taken has its effect. -/
theorem poolDone_taken {r : Request} {s : State} (h : Taken opPoolDone (homeCluster (min 63 (r.u 0 1))) r s (checksPoolDone r)) :
    execPoolDone r s = .next (donePoolDone r (s.atTime r.time)) := by
  unfold execPoolDone
  rw [poolLate_taken h]
  exact serve_taken h

/-- A DISPLAY UPDATE that is taken has its effect. -/
theorem displayUpdate_taken {r : Request} {s : State} (h : Taken opDisplayUpdate uDisplay r s (checksDisplayUpdate r)) :
    execDisplayUpdate r s = .next (doneDisplayUpdate r (s.atTime r.time)) := by
  have e : s.updateOutOfBand r = false := by unfold State.updateOutOfBand; rw [h.2.2]; simp
  unfold execDisplayUpdate
  rw [e]
  exact serve_taken h

end Sys2Proof
end

