-- ==== Sys2Proof/Tests/Slice0.lean ====
section
/-! SUPPORT. The tests of the model: ill-formed commands, expectations of the spec, and for each statement with hypotheses a state
and operands that meet them. -/

namespace Sys2Proof.Tests

set_option maxRecDepth 8000
set_option Elab.async false

open Machine

/-- A payload of `n` bytes, zeros but for the fields named by offset. -/
def pay (n : Nat) (l : List (Nat × List Byte)) : List Byte := l.foldl (fun p x => patch p x.1 x.2) (List.replicate n 0)

/-- A request with a payload, without JOURNAL. -/
def rq (ch : Nat) (p : List Byte) : Request :=
  { time := 1000, ch := ch, tag := 7, wanted := true, journal := false, urgent := false, payload := p }

/-- A module that has started and committed a mode in epoch 1, with every island released and the hub serving. -/
def up (m : Mode) : State :=
  (State.reset.modMode fun x => { x with
    mode := m, booted := true, epoch := 1,
    islands := ⟨(List.range 12).map fun i => (i, { Island.reset with released := true })⟩ }).modHub fun h =>
      { h with serving := true }

/-- Channel `n` on a path. -/
def onPath (n : Nat) (p : Path) (s : State) : State := s.modChan n fun c => { c with path := p, enable := true, families := 2 ^ 256 - 1 }

/-- A placement `h` of channel 0. -/
def held (h cls dur size : Nat) (units : List Nat) (s : State) : State :=
  s.modPlace fun q => { q with places := q.places.put h (newPlacement cls dur 0 0 size 1 0 units 3 0), nextHandle := h + 1 }

/-- Bytes in a placement. -/
def filled (h off : Nat) (b : List Byte) (s : State) : State := s.modPlacement h fun p => { p with mem := p.mem.writes off b }

/-- A loop descriptor with no sources and no destination. -/
def loopDesc : List Byte :=
  pay 256 [(1, [0]), (2, le 2 10), (4, [0xFF, 0xFF]), (84, leInt 4 (-1000)), (88, leInt 4 1000), (96, leInt 4 (-1000)), (100, leInt 4 1000),
    (104, leInt 4 (-1000)), (108, leInt 4 1000), (116, leInt 4 (-1000)), (120, leInt 4 1000), (124, leInt 4 1)]

/-- Loop 1 defined, in a state. -/
def looped (st : LoopState) (s : State) : State := s.modLoop 1 fun l => { l with desc := loopDesc, state := st }

/-- Instance 2 of a template, in a state. -/
def instanced (tpl : Nat) (st : InstState) (s : State) : State := s.modInst 2 fun x => { x with template := tpl, state := st, params := List.replicate 64 0 }

/-- A panel of 800 by 600. -/
def panel : Panel :=
  { lid := false, id := 1, width := 800, height := 600, vcomOffset := 0, flMax := 1000, hasSensor := true, hasLight := true }

/-- A waveform file for every band. -/
def waveFile : List Byte :=
  let band := fun (b : Nat) => [(64 + 24 * b, [85]), (68 + 24 * b, [1, 1, 0, 0]), (72 + 24 * b, le 4 352 ++ le 4 352 ++ le 4 0 ++ le 4 0)]
  let w := pay 416 ([(0, [0x4B, 0x57, 0x41, 0x56]), (4, le 2 1), (6, [3]), (16, le 4 416)] ++ (List.range 12).flatMap band)
  patch w 20 (le 4 (crc32c (w.take 20 ++ le 4 0 ++ w.drop 24)).toNat)

/-- A display with its panel, its store in placement 7 and its waveform file in placement 8. -/
def displayed (s : State) : State :=
  filled 8 0 waveFile <| held 8 2 2 4096 [uDisplay] <| held 7 2 2 1000000 [uDisplay] <|
    s.modDisplay fun d => { d with panel := some panel, store := 7, waveform := 8, lastWave := waveFile, temp := 250 }

/-- Model 5, its input 6 and its buffer 7. -/
def modelled (s : State) : State :=
  let m : Model :=
    { kind := 1, ops := 1, clusters := 1, flags := 0, inFormat := 5, inW := 16, inH := 16, rateGops := 1, actBytes := 1000,
      weightBytes := 1000, outBytes := 1000, appBytes := 0 }
  let s := held 7 4 0 1000000 [uCluster 0, 0xFFFE] <| held 6 1 0 1000000 [uCluster 0, 0xFFFE] <| held 5 5 0 1000000 [uCluster 0] s
  s.modInfer fun i => { i with models := i.models.put 5 m }

/-- The descriptor of job 3. -/
def jobDesc : List Byte := pay 64 [(0, [3, 0, 1, 0]), (4, le 4 1000), (8, le 8 5), (16, le 8 6), (24, le 8 7)]

/-- Job 3 defined. -/
def jobbed (s : State) : State := (modelled s).modJob 3 fun x => { x with desc := jobDesc }

/-- An endpoint at a unit's port. -/
def portOf (u p : Nat) : Endpoint := { ring := false, peer := false, unit := u, port := p, place := 0 }

/-- Stream 4 with handle 9, from the baseband to two lanes. -/
def streamed (s : State) : State :=
  let x : Stream :=
    { handle := 9, ch := 0, policy := 1, backed := false, credits := 64, maxMsg := 64, rate := 0, slots := 0, backing := 0,
      producer := portOf uBaseband 1, absent := none, pRing := RingState.none,
      consumers := (Bank.empty.put 0 (newConsumer (portOf (uLane 0) 1) RingState.none 64)).put 1
        (newConsumer (portOf (uLane 1) 1) RingState.none 64),
      nextSeq := 0, droppedAll := 0, out := [], held := [], dropsAt := none, linkNo := none, draining := none }
  s.modFabric fun f => { f with streams := f.streams.put 4 x }

/-- The fleet's coverage placement 12, and 13 beside it. -/
def covered (s : State) : State :=
  held 13 clsCoverage 0 2000000 [uFleet, uSection, uLane 0] <| held 12 clsCoverage 0 2000000 [uFleet, uSection, uLane 0] s

/-- Slot 1 of image class 6 in a state. -/
def slotted (st : SlotState) (s : State) : State :=
  let y := { ImageSlot.empty with state := st }
  s.modUpdate fun u => { u with classes := u.classes.put 6 { ImageClass.reset with slotB := y } }

/-- A requester. -/
def someone : Requester := { ch := 0, tag := 7, wanted := true, record := 0, path := .app, serial := 1 }

/-- An installation of class 6 in progress. -/
def installing (s : State) : State :=
  let x : Installation :=
    { cls := 6, source := 1, length := 4096, ref := 5, offset := 0, slot := 1, req := someone, since := 0, reset := false }
  (slotted .installing s).modUpdate fun u => { u with install := some x }

/-- A module that runs, in a mode. -/
def go (m : Mode) : State := (up m).modPower fun p => 
    { p with life := .started, strapsFixed := true, vA := 12000, vB := 12000, lostA := false, lostB := false, holdupWait := false }

/-- A CAN frame. -/
def canFrame : CanFrame :=
  { sof := 0, id := 0x100, format := 0, flags := 0, dlc := 0, sdt := 0, vcid := 0, af := 0, data := [] }

/-- Bus controller 0 changed. -/
def bus0 (f : BusController → BusController) : State := (go .service).modBus 0 f

/-- A transmission of the bus. -/
def txContent : TxContent := { tag := 1, notify := false, retries := none, notBefore := 0, frame := canFrame, attempts := 0, lastSof := 0 }

/-- A transport session that sends. -/
def txSession (p : Transport) : TxSession :=
  { session := 1, cf := 0, prio := 6, dest := 0xFF, pgn := 0xEF00, proto := p, data := List.replicate 20 0, req := someone,
    sent := 0, acked := 0, last := 0 }

/-- A frame of a camera, ended and with all its lines taken. -/
def camFrame : CamFrame :=
  { no := 1, fsTime := 0, feTime := none, lines := 0, stored := [], taken := [], marks := 0, crcLines := 0, embLines := 0, emb := [],
    drop := none, recorded := false, presented := false, latched := none, lastLine := 0 }

/-- Camera port 1 changed. -/
def cam1 (f : Camera → Camera) : State := (go .service).modCam 1 f

/-- A tuning test. -/
def tune (p : TunePhase) : Tune :=
  { req := someone, rule := 1, discard := 1, cycles := 2, setpoint := 0, bias := 0, amplitude := 1, hyst := 0, measMin := 0, measMax := 0,
    settleMs := 100, maxHalfMs := 10, maxTimeS := 1, phase := p, started := 0, high := false, lastSwitch := 0, cycleStart := none,
    done := 0, low := none, high? := none, noise := 0, periods := [], peaks := [] }

/-- A display that shows, with an update waiting. -/
def shown (f : Display → Display) : State := (displayed (go .service)).modDisplay fun d => f { d with state := .ready }

/-- A whole-panel update that waits. -/
def waiting : PanelUpdate :=
  { id := 1, mode := 1, x := 0, y := 0, w := 800, h := 600, ch := 0, tag := 0, req := none, source := 7, offset := 64, stride := 800,
    record := 0, band := 0, frame := 0, frames := 0, start := 0, restore := none }

/-- A message without a body. -/
def msg : Msg := { time := 0, marks := 0, body := [] }

/-- A request slot. -/
def slot : Slot := { len := 0, family := 1, op := 3, flags := 1, status := 0, tag := 7, check := 0, payload := [] }

/-- Job 3 running, with one input in a phase. -/
def jobRuns (p : InputPhase) : State :=
  (jobbed (go .service)).modJob 3 fun x =>
    { x with running := true, inputs := [{ slot := 0, seq := 1, msg := msg, deadline := 0, phase := p, late := false }] }

/-- A ledger record. -/
def rec5 (k : RecKind) (st : RecState) : Record :=
  { id := 5, kind := k, state := st, dispatched := true, replayed := false, delivered := false, replied := false, uncertain := false, ch := 0,
    path := .app, unit := uPlacement, opened := 0, deadline := some 10, changed := 0, epoch := 1, cause := 0, body := List.replicate 40 0 }

/-- A mode change towards PARKED. -/
def change : Change :=
  { requested := .parked, target := .parked, cause := 0, req := none, forced := false, prepare := 0, ready := [], allReady := none,
    absent := [], record := 0, units := [] }

/-- A change in progress. -/
def changing (f : Change → Change) : State := (go .service).modMode fun m => { m with change := some (f change) }

/-- A unit behind a fence. -/
def fencing (u : Nat) (c : Option Nat) : State :=
  (go .service).modMode fun m => { m with fences := [{ unit := u, cause := 0, since := 0, commit := c, long := false, late := false }] }

/-- Receiver channel 2 in a state. -/
def tracking (x : TrackState) : State := (go .service).modNavChan 2 fun c => { c with state := x }

/-- An edge of channel HC0. -/
def edge7 (k : Nat) : Edge :=
  { id := 7, target := { kind := k, index := 0, node := 0 }, action := 1, section_ := none, time := 0, value := 0, entry := (0, 0), ch := 0,
    tag := 1, seq := 0, sent := none, resent := false, lateUs := 0, begun := false, error := 0, deferred := false }

/-- The section engine with an edge. -/
def edging (k : Nat) (f : Edge → Edge) : State := (go .working).modSections fun x => { x with edges := [f (edge7 k)] }

/-- The external link in a phase. -/
def linked (p : LinkPhase) (f : Link → Link) : State := (go .service).modLink fun l => f { l with phase := p, present := true }

/-- A ring endpoint's stream. -/
def ringed : State :=
  (held 20 4 0 8192 [0xFFFE] (streamed (go .service))).modStream 4 fun x =>
    { x with producer := { ring := true, peer := false, unit := 0xFFFE, port := 0, place := 20 }, pRing := { RingState.none with posted := 1 } }

/-- The safety island running, with output 1 on. -/
def safe (f : SafeOut → SafeOut) : State :=
  ((go .working).modSafety fun x => { x with state := .run, active := patch x.active 0 [1, 0, 10, 0] }).modSafeOut 1 fun o => f { o with on := true }

/-- Switch 1 in a phase. -/
def switched (f : Switch → Switch) : State := (go .working).modSw 1 f

/-- Channel 0 enabled on APP. -/
def app0 : State := onPath 0 .app (go .service)


/-- What a command answers, read by `f`; `d` where it answers no next state. -/
def after {α : Type} (o : Out) (d : α) (f : State → α) : α :=
  match o with
  | .next s => f s
  | _ => d

/-! ### Ill-formed commands: one for each check of WellFormed -/

theorem test_wf_channel : (Instr.doorbell 0 .app 64 0).wf = false ∧ (Instr.identify (rq 64 [])).wf = false := by decide
theorem test_wf_offset : (Instr.registerWrite 0 .app 6 0).wf = false ∧ (Instr.w1cClear 0 .app 0x10000 0 0).wf = false ∧
    (Instr.registerWrite 0 .app 0x10000 0).wf = false ∧ (Instr.registerWrite 0 .pcie 0x11000 0).wf = false := by decide
theorem test_wf_tunnel : (Instr.tunnelConnect 0 8 0 true).wf = false ∧ (Instr.tunnelConnect 0 7 7 true).wf = false ∧
    (Instr.tunnelClose 0 8).wf = false := by decide
theorem test_wf_unit : (Instr.unitRejoin 0 0x0CFF).wf = false ∧ (Instr.islandRefusal 0 uSafety 4).wf = false ∧
    (Instr.modeCommit 0 [0x0CFF]).wf = false := by decide
theorem test_wf_island : (Instr.islandReady 0 12).wf = false := by decide
theorem test_wf_straps : (Instr.strapSamplingDone 0 17 0).wf = false ∧ (Instr.autoDescentExpiry 0 3).wf = false := by decide
theorem test_wf_bus : (Instr.recoveryComplete 0 12).wf = false ∧ (Instr.txNotBefore 0 0 64).wf = false ∧
    (Instr.queueBatchTimeout 0 0 4).wf = false ∧ (Instr.addressClaimTimer 0 0 4).wf = false := by decide
theorem test_wf_selective : (Instr.canSelectiveWake 0 0 0 0 (List.replicate 9 0)).wf = false := by decide
theorem test_wf_port : (Instr.tc10Wake 0 5).wf = false ∧ (Instr.cameraLinkLock 0 12).wf = false ∧
    (Instr.fsyncPulse 0 16).wf = false ∧ (Instr.pipelineLine 0 2).wf = false := by decide
theorem test_wf_auth : (Instr.challengeExpiry 0 3).wf = false ∧ (Instr.selftestEnd 0 uSafety 2 0).wf = false := by decide
theorem test_wf_switch : (Instr.junctionOvertemp 0 48).wf = false ∧ (Instr.holdMsExpiry 0 48).wf = false ∧
    (Instr.pathLostHold 0 .unbound).wf = false := by decide
theorem test_wf_control : (Instr.tuneSettleEnd 0 256).wf = false ∧ (Instr.signalMessage 0 4 0 []).wf = false ∧
    (Instr.onDelayExpiry 0 64).wf = false ∧ (Instr.runEnd 0 64 []).wf = false := by decide
theorem test_wf_nav : (Instr.trackLoss 0 320).wf = false ∧ (Instr.biasRetry 0 2 0).wf = false := by decide
theorem test_wf_field : (Instr.fiLevelAccept 0 32 true 0).wf = false ∧ (Instr.foShort 0 16 0).wf = false ∧
    (Instr.shuntReenable 0 16).wf = false ∧ (Instr.sup5Fault 0 4 0).wf = false := by decide
theorem test_wf_safety : (Instr.safeInAccept 0 8).wf = false ∧ (Instr.safeTestPulse 0 4).wf = false ∧
    (Instr.stopDelayExpiry 0 8).wf = false ∧ (Instr.safSelftest 0 9).wf = false := by decide
theorem test_wf_class : (Instr.confirmTimeout 0 0).wf = false := by decide

/-- A command for an object that the module does not have is refused by name. -/
theorem test_no_such_object : exec (.junctionOvertemp 0 48) State.reset = .refused .noSuchObject := rfl

/-! ### Expectations of the spec -/

/-- The CRC of the nine ASCII bytes 123456789 (R173). -/
theorem test_crc : crc32c [0x31, 0x32, 0x33, 0x34, 0x35, 0x36, 0x37, 0x38, 0x39] = 0xE3069283 := by decide +kernel

/-- A set in the cycle of the clear: the flag stays 1 and CNT_0 goes from 40 to 41 (worked example of 05). -/
theorem test_reply_lands_on_the_clear :
    after (exec (.w1cClear 1000 .app 4 1 1) (app0.modChan 0 fun c => { c with status := 1, cnt := [40, 0, 0, 0, 0, 0, 0] }))
      (0, []) (fun s => ((s.chan 0).status, (s.chan 0).cnt)) = (1, [41, 0, 0, 0, 0, 0, 0]) := by decide +kernel

/-- A ring of 16 slots takes 16 requests and no more: RING_ERROR is bit 4 (R161, R165). -/
theorem test_doorbell :
    after (exec (.doorbell 1000 .app 0 16) app0) (0, 0) (fun s => ((s.chan 0).reqTail, (s.chan 0).status)) = (16, 0) ∧
    after (exec (.doorbell 1000 .app 0 17) app0) (0, 0) (fun s => ((s.chan 0).reqTail, (s.chan 0).status)) = (0, 16) := by
  decide +kernel

/-- A stale epoch is answered 0x0202, and the current one 0x0000, with the request's TAG (R137, R176; 26). -/
theorem test_epoch :
    after (exec (.loopClear (rq 0 (pay 8 [(0, [2]), (4, [1])]))) (looped .open app0)) []
      (fun s => (s.chan 0).ring.map fun m => (m.status, m.tag)) = [(0x0202, 7)] ∧
    after (exec (.loopClear (rq 0 (pay 8 [(0, [1]), (4, [1])]))) (looped .open app0)) []
      (fun s => (s.chan 0).ring.map fun m => (m.status, m.tag)) = [(0x0000, 7)] := by decide +kernel

/-- CHANNEL_BIND on channel 1 is answered WRONG_MODE, 0x0201 (R155; 26). -/
theorem test_bind_on_channel_1 :
    after (exec (.channelBind (rq 1 (pay 4 []))) (onPath 1 .app app0)) []
      (fun s => (s.chan 1).ring.map fun m => (m.status, m.family, m.op)) = [(0x0201, 1, 4)] := by decide +kernel

/-- A commit takes the mode it was prepared for and raises the epoch from 1 to 2 (R136). -/
theorem test_commit :
    after (exec (.modeCommit 1000000 []) (changing fun c => { c with allReady := some 0 })) (.none, 0)
      (fun s => (s.mode.mode, s.mode.epoch)) = (.parked, 2) := by decide +kernel

/-- SHORT without a retry left is latched as fault 1 and the channel is off (R425, R439). -/
theorem test_short :
    after (exec (.hardCurrentLimit 1000 1 1000000000) (switched fun x => { x with phase := .on, retriesLeft := some 0 })) (.on, 0)
      (fun s => ((s.sw 1).phase, (s.sw 1).fault)) = (.off, 1) := by decide +kernel

/-- A confirmed image of SVN 3 raises a counter of 2 to 3 and leaves one of 5 (R782). -/
theorem test_counter :
    let f := fun (n : Nat) => (up .service).modUpdate fun u =>
      { u with classes := u.classes.put 6 { ImageClass.reset with
        counter := n, slotB := { ImageSlot.empty with state := .trial, svn := 3 }, active := some 1 } }
    after (exec (.imageConfirm (rq 0 (pay 4 [(0, [6])]))) (f 2)) 0 (fun s => (s.cls 6).counter) = 3 ∧
    after (exec (.imageConfirm (rq 0 (pay 4 [(0, [6])]))) (f 5)) 0 (fun s => (s.cls 6).counter) = 5 := by decide +kernel

/-- A factor of 1.0 with 1,000 kg weighed against 500 kg measured becomes 2.0, 131,072 (R398). -/
theorem test_calibrate :
    after (exec (.calibrate (rq 0 (pay 16 [(0, [1]), (4, [2, 2]), (8, le 8 1000000)])))
      ((instanced 0x12 .active (up .working)).modInst 2 fun x =>
        { x with calSum := some 500000000, params := patch x.params 12 (le 4 65536) })) 0
      (fun s => field (s.inst 2).params 12 4) = 131072 := by decide +kernel

/-- An unsent queue idles, and a step runs the command in front and keeps the rest. -/
theorem test_step :
    after (step { up .service with pending := [.timeRead (rq 0 []), .identify (rq 0 [])] }) [] State.pending =
      [.identify (rq 0 [])] ∧ after (step State.reset) none (fun s => some s.pending) = some [] := by decide +kernel

/-- A TUNE held during a mode change finds its epoch stale once the change has committed: 0x0202 (R143; 26). -/
theorem test_deferred_is_stale :
    after (exec (.modeCommit 1000000 []) { onPath 0 .app (changing fun c => { c with allReady := some 0 }) with
        deferred := [(.tune, rq 0 (pay 44 [(0, [1]), (4, [1])]))] }) ([], [])
      (fun s => (s.deferred, (s.chan 0).ring.map fun m => m.status)) = ([], [0x0202]) := by decide +kernel

/-- Bit 2 of the command register in PCIe configuration space enables the bus master (R187). -/
theorem test_bus_master :
    after (exec (.registerWrite 1000 .pcie 0x10004 6) ((go .service).modHub fun h => { h with endpoint := true })) false
      (fun s => s.hub.busMaster) = true ∧
    after (exec (.registerWrite 1000 .pcie 0x10004 2) ((go .service).modHub fun h => { h with endpoint := true })) true
      (fun s => s.hub.busMaster) = false := by decide +kernel

/-- The loops of a channel as shipped (R487, R504): in PULL_IN an FLL of 10 Hz assists the PLL of 15 Hz and integration lasts 1 ms;
in TRACK with bit synchronisation it lasts INT_MS, 5 ms. -/
theorem test_tracking_loops :
    (({ NavChannel.reset with state := .pullIn }).loops NavConfig.shipped).map
        (fun (l : TrackLoops) => (l.pllBw, l.fllBw, l.dataMs)) = some (15, some 10, 1) ∧
    (({ NavChannel.reset with state := .track, locks := 8 }).loops NavConfig.shipped).map
        (fun (l : TrackLoops) => (l.pllBw, l.fllBw, l.dataMs)) = some (15, none, 5) := by decide +kernel

/-! ### Witnesses of the families -/

theorem witness_HubCommandsRun :
    (∃ (t : Nat) (src : Path) (ch : Nat) (w : U32) (s : State), (ch < 64) ∧ whenDoorbell t src ch w (s.atTime t) = true) ∧
    (∃ (t : Nat) (src : Path) (ch : Nat) (w : U32) (s : State), (ch < 64) ∧ whenResetCh t src ch w (s.atTime t) = true) ∧
    (∃ (t : Nat) (src : Path) (ch : Nat) (w : U32) (s : State), (ch < 64) ∧ whenChEnable t src ch w (s.atTime t) = true) ∧
    (∃ (t : Nat) (src : Path) (off : Nat) (w : U32) (set : U32) (s : State), (off % 4 = 0 && off < 0x10000) = true) ∧
    (∃ (t : Nat) (src : Path) (ch : Nat) (w : U32) (s : State), (ch < 64) ∧ whenRplHeadWrite t src ch w (s.atTime t) = true) ∧
    (∃ (t : Nat) (src : Path) (s : State), whenTimeLoRead t src (s.atTime t) = true) ∧
    (∃ (t : Nat) (src : Path) (off : Nat) (w : U32) (s : State),
      (off % 4 = 0 && (off < 0x10000 || (src == .pcie && off < 0x11000))) = true ∧
      whenRegisterWrite t src off w (s.atTime t) = true) ∧
    (∃ (t : Nat) (src : Path) (w : U32) (s : State), whenC24Go t src w (s.atTime t) = true) ∧
    (∃ (t : Nat) (ch : Nat) (m : Slot) (s : State), (ch < 64) ∧ whenRequestFetch t ch m (s.atTime t) = true) ∧
    (∃ (t : Nat) (ch : Nat) (s : State), (ch < 64) ∧ whenCoalTimeout t ch (s.atTime t) = true) ∧
    (∃ (t : Nat) (s : State), whenHubRestart t (s.atTime t) = true) ∧
    (∃ (t : Nat) (ch : Nat) (s : State), (ch < 64) ∧ whenHeldItemDiscard t ch (s.atTime t) = true) ∧
    (∃ (t : Nat) (perst : Bool) (s : State), whenPcieFunctionReset t perst (s.atTime t) = true) ∧
    (∃ (t : Nat) (ch : Nat) (s : State), (ch < 64) ∧ whenRingDmaFail t ch (s.atTime t) = true) ∧
    (∃ (t : Nat) (session : Nat) (port : Nat) (authenticated : Bool) (s : State), (session < 8 && port < 7) = true ∧
      whenTunnelConnect t session port authenticated (s.atTime t) = true) ∧
    (∃ (t : Nat) (session : Nat) (ch : U16) (reserved : U16) (s : State), (session < 8) ∧
      whenTunnelOpenRecord t session ch reserved (s.atTime t) = true) ∧
    (∃ (t : Nat) (session : Nat) (m : Slot) (s : State), (session < 8) ∧ whenTunnelMessage t session m (s.atTime t) = true) ∧
    (∃ (t : Nat) (session : Nat) (s : State), (session < 8) ∧ whenTunnelClose t session (s.atTime t) = true) ∧
    (∃ (t : Nat) (session : Nat) (s : State), (session < 8) ∧ whenTunnelIdleTimeout t session (s.atTime t) = true) ∧
    (∃ (t : Nat) (ch : Nat) (m : Slot) (s : State), (ch < 64) ∧ whenCascadeMessage t ch m (s.atTime t) = true) ∧
    (∃ (t : Nat) (s : State), whenPerstNRelease t (s.atTime t) = true) :=
  ⟨⟨1000, .app, 0, 1,
    (go .service).modChan 0 fun c => { c with path := .app, enable := true, families := allFamilies, reqBase := 4096, rplBase := 8192 },
    by decide +kernel⟩,
   ⟨1000, .app, 0, 1,
     (go .service).modChan 0 fun c => { c with path := .app, enable := true, families := allFamilies, reqBase := 4096, rplBase := 8192 },
     by decide +kernel⟩,
   ⟨1000, .app, 0, 1,
     (go .service).modChan 0 fun c => { c with path := .app, enable := true, families := allFamilies, reqBase := 4096, rplBase := 8192 },
     by decide +kernel⟩,
   ⟨1000, .app, 0, 0, 0,
     (go .service).modChan 0 fun c => { c with path := .app, enable := true, families := allFamilies, reqBase := 4096, rplBase := 8192 },
     by decide +kernel⟩,
   ⟨1000, .app, 0, 0,
     (go .service).modChan 0 fun c => { c with path := .app, enable := true, families := allFamilies, reqBase := 4096, rplBase := 8192 },
     by decide +kernel⟩,
   ⟨1000, .app,
     (go .service).modChan 0 fun c => { c with path := .app, enable := true, families := allFamilies, reqBase := 4096, rplBase := 8192 },
     by decide +kernel⟩,
   ⟨1000, .app, 4096, 0,
     (go .service).modChan 0 fun c => { c with path := .app, enable := true, families := allFamilies, reqBase := 4096, rplBase := 8192 },
     by decide +kernel⟩,
   ⟨1000, .app, 1,
     (go .service).modChan 0 fun c => { c with path := .app, enable := true, families := allFamilies, reqBase := 4096, rplBase := 8192 },
     by decide +kernel⟩,
   ⟨1000, 0, slot,
     ((go .service).modChan 0 fun c => { c with path := .app, enable := true, families := allFamilies, reqBase := 4096, rplBase := 8192 }).modChan 0 fun c => { c with reqTail := 1 },
     by decide +kernel⟩,
   ⟨1000, 0,
     ((go .service).modChan 0 fun c => { c with path := .app, enable := true, families := allFamilies, reqBase := 4096, rplBase := 8192 }).modChan 0 fun c => { c with coalDue := some 0 },
     by decide +kernel⟩,
   ⟨1000, (go .service).modHub fun h => { h with absent := true }, by decide +kernel⟩,
   ⟨1000, 0,
     (go .service).modChan 0 fun c => { c with path := .app, enable := true, families := allFamilies, reqBase := 4096, rplBase := 8192 },
     by decide +kernel⟩,
   ⟨1000, false, (go .service).modHub fun h => { h with endpoint := true }, by decide +kernel⟩,
   ⟨1000, 2, (go .service).modChan 2 fun c => { c with path := .pcie, enable := true }, by decide +kernel⟩,
   ⟨1000, 0, 1, true, (go .service).modEthPort 1 fun p => { p with cfg := pay 16 [(0, [1, 1])], link := 2 }, by decide +kernel⟩,
   ⟨1000, 1, 5, 0,
     (go .service).modHub fun h => { h with sessions := h.sessions.put 1 { ch := none, lastMessage := 0, answer := [] } },
     by decide +kernel⟩,
   ⟨1000, 1, slot, go .service, by decide +kernel⟩,
   ⟨1000, 1, go .service, by decide +kernel⟩,
   ⟨30000000000, 1,
     (go .service).modHub fun h => { h with sessions := h.sessions.put 1 { ch := none, lastMessage := 0, answer := [] } },
     by decide +kernel⟩,
   ⟨1000, 6, slot, (linked .up id).modChan 6 fun c => { c with path := .cascade }, by decide +kernel⟩,
   ⟨1000, (go .service).modHub fun h => { h with perst := true }, by decide +kernel⟩⟩

theorem witness_SystemCommandsRun :
    (∃ (r : Request) (s : State), Taken opIdentify uMaluf r s (fun _ => [])) ∧
    (∃ (r : Request) (s : State), Taken opInventory uMaluf r s (fun _ => [])) ∧
    (∃ (r : Request) (s : State), Taken opTimeRead uMaluf r s (fun _ => [])) ∧
    (∃ (r : Request) (s : State), Taken opChannelBind uMaluf r s (checksChannelBind r)) ∧
    (∃ (r : Request) (s : State), Taken opSubscribe uMaluf r s (checksSubscribe r)) ∧
    (∃ (r : Request) (s : State), Taken opCompatView uMaluf r s (checksCompatView r)) ∧
    (∃ (r : Request) (s : State), Taken opWatchdogSet uMaluf r s (checksWatchdogSet r)) ∧
    (∃ (r : Request) (s : State), Taken opHostWatch uMaluf r s (checksHostWatch r)) ∧
    (∃ (r : Request) (s : State), Taken opHostBeat uMaluf r s (fun _ => [])) ∧
    (∃ (t : Nat) (ch : Nat) (s : State), (ch < 64) ∧ whenHostWatchExpiry t ch (s.atTime t) = true) ∧
    (∃ (t : Nat) (s : State), whenModuleSupervisorBeat t (s.atTime t) = true) ∧
    (∃ (t : Nat) (s : State), whenJackInTheBoxExpiry t (s.atTime t) = true) ∧
    (∃ (t : Nat) (unit : Nat) (s : State), (isUnit unit) ∧ whenUnitRejoin t unit (s.atTime t) = true) ∧
    (∃ (t : Nat) (unit : Nat) (s : State), (isUnit unit) ∧ whenFencedUnitTimeout t unit (s.atTime t) = true) :=
  ⟨⟨rq 0 (pay 0 []), up .service, by decide +kernel⟩,
   ⟨rq 0 (pay 0 []), up .service, by decide +kernel⟩,
   ⟨rq 0 (pay 0 []), up .service, by decide +kernel⟩,
   ⟨rq 0 (pay 4 []), up .service, by decide +kernel⟩,
   ⟨rq 0 (pay 36 []), up .service, by decide +kernel⟩,
   ⟨rq 0 (pay 4 []), up .service, by decide +kernel⟩,
   ⟨rq 0 (pay 8 [(0, le 4 1), (4, le 2 100)]), up .service, by decide +kernel⟩,
   ⟨rq 0 (pay 8 []), up .service, by decide +kernel⟩,
   ⟨rq 0 (pay 0 []), up .service, by decide +kernel⟩,
   ⟨1000, 0, (go .service).modChan 0 fun c => { c with watch := { c.watch with deadline := some 0 } }, by decide +kernel⟩,
   ⟨1000, go .service, by decide +kernel⟩,
   ⟨1000000000, (go .service).modMode fun m => { m with lastBeat := some 0 }, by decide +kernel⟩,
   ⟨1000, (uLane 0), fencing (uLane 0) none, by decide +kernel⟩,
   ⟨20000000000, (uLane 0), fencing (uLane 0) none, by decide +kernel⟩⟩

theorem witness_PowerCommandsRun :
    (∃ (t : Nat) (vA : Int) (vB : Int) (s : State), whenPowerOnStart t vA vB (s.atTime t) = true) ∧
    (∃ (t : Nat) (widthNs : Nat) (s : State), whenResetNAssert t widthNs (s.atTime t) = true) ∧
    (∃ (t : Nat) (s : State), whenResetNRelease t (s.atTime t) = true) ∧
    (∃ (t : Nat) (recovLow : Nat) (pcieLow : Nat) (s : State), (recovLow ≤ 16 && pcieLow ≤ 16) = true ∧
      whenStrapSamplingDone t recovLow pcieLow (s.atTime t) = true) ∧
    (∃ (t : Nat) (energyMj : Nat) (s : State), whenHoldupWaitEnd t energyMj (s.atTime t) = true) ∧
    (∃ (t : Nat) (s : State), whenBootCommit t (s.atTime t) = true) ∧
    (∃ (t : Nat) (vA : Int) (vB : Int) (s : State), whenCrankHoldEntry t vA vB (s.atTime t) = true) ∧
    (∃ (t : Nat) (vA : Int) (vB : Int) (vMin : Int) (lowNs : Nat) (s : State),
      whenCrankHoldExit t vA vB vMin lowNs (s.atTime t) = true) ∧
    (∃ (t : Nat) (vA : Int) (vB : Int) (vMin : Int) (s : State), whenCrankLowTimeout t vA vB vMin (s.atTime t) = true) ∧
    (∃ (t : Nat) (vA : Int) (vB : Int) (s : State), whenSupplyBelow3v t vA vB (s.atTime t) = true) ∧
    (∃ (t : Nat) (g : Grp) (v : Int) (s : State), whenOvervoltageCut t g v (s.atTime t) = true) ∧
    (∃ (t : Nat) (g : Grp) (v : Int) (s : State), whenOvervoltageRestore t g v (s.atTime t) = true) ∧
    (∃ (t : Nat) (g : Grp) (v : Int) (s : State), whenStudLost t g v (s.atTime t) = true) ∧
    (∃ (t : Nat) (g : Grp) (v : Int) (s : State), whenStudReturned t g v (s.atTime t) = true) ∧
    (∃ (t : Nat) (vA : Int) (vB : Int) (s : State), whenReverseBattery t vA vB (s.atTime t) = true) ∧
    (∃ (t : Nat) (energyMj : Nat) (s : State), whenHoldupTest t energyMj (s.atTime t) = true) ∧
    (∃ (t : Nat) (plate : Int) (s : State), whenThermalDerateCheck t plate (s.atTime t) = true) ∧
    (∃ (t : Nat) (milliwatts : Nat) (s : State), whenPowerBudgetExceeded t milliwatts (s.atTime t) = true) ∧
    (∃ (r : Request) (s : State), Taken opRungRequest uPower r s (checksRungRequest r) ∧ (s.atTime r.time).mode.change = none) ∧
    (∃ (r : Request) (s : State), Taken opKeepAwake uPower r s (checksKeepAwake r)) ∧
    (∃ (t : Nat) (ch : Nat) (s : State), (ch < 64) ∧ whenKeepAwakeExpiry t ch (s.atTime t) = true) ∧
    (∃ (r : Request) (s : State), Taken opWakeConfig uPower r s (checksWakeConfig r)) ∧
    (∃ (r : Request) (s : State), Taken opCanWakeFilter uPower r s (checksCanWakeFilter r)) ∧
    (∃ (r : Request) (s : State), Taken opDescentSet uPower r s (checksDescentSet r)) ∧
    (∃ (r : Request) (s : State), Taken opPowerStatus uPower r s (fun _ => [])) ∧
    (∃ (t : Nat) (s : State), whenRungConditionCheck t (s.atTime t) = true) ∧
    (∃ (t : Nat) (s : State), whenRungWaitTimeout t (s.atTime t) = true) ∧
    (∃ (t : Nat) (target : Nat) (s : State), (inRange target 4 6) ∧ whenAutoDescentExpiry t target (s.atTime t) = true) ∧
    (∃ (t : Nat) (s : State), whenIgnRise t (s.atTime t) = true) ∧
    (∃ (t : Nat) (s : State), whenIgnFall t (s.atTime t) = true) ∧
    (∃ (t : Nat) (level : Bool) (s : State), whenWakeInEdge t level (s.atTime t) = true) ∧
    (∃ (t : Nat) (mb : Nat) (s : State), (mb < 12) ∧ whenCanWakePattern t mb (s.atTime t) = true) ∧
    (∃ (t : Nat) (mb : Nat) (format : Nat) (id : U32) (data : List Byte) (s : State), (mb < 12 && data.length ≤ 8) = true ∧
      whenCanSelectiveWake t mb format id data (s.atTime t) = true) ∧
    (∃ (t : Nat) (port : Nat) (s : State), (port < 5) ∧ whenTc10Wake t port (s.atTime t) = true) ∧
    (∃ (t : Nat) (s : State), whenRtcAlarm t (s.atTime t) = true) ∧
    (∃ (t : Nat) (s : State), whenUsbVbusRise t (s.atTime t) = true) ∧
    (∃ (t : Nat) (s : State), whenAonBackupTimeout t (s.atTime t) = true) ∧
    (∃ (t : Nat) (s : State), whenCrankLowTimerReset t (s.atTime t) = true) ∧
    (∃ (t : Nat) (s : State), whenFarTrained t (s.atTime t) = true) ∧
    (∃ (t : Nat) (s : State), whenUsbVbusFall t (s.atTime t) = true) :=
  ⟨⟨1000, 12000, 0, State.reset, by decide +kernel⟩,
   ⟨1000, 10000, go .service, by decide +kernel⟩,
   ⟨1000, (go .service).modPower fun p => { p with resetN := true }, by decide +kernel⟩,
   ⟨1000, 0, 0, (go .service).modPower fun p => { p with strapsFixed := false }, by decide +kernel⟩,
   ⟨1000, 6000, (go .service).modPower fun p => { p with holdupWait := true }, by decide +kernel⟩,
   ⟨1000,
     (((go .service).modMode fun m => { m with booted := false }).modHub fun h => { h with phase := .starting }).modSafety fun x => { x with state := .run },
     by decide +kernel⟩,
   ⟨1000, 5000, 5000, go .service, by decide +kernel⟩,
   ⟨1000, 7000, 7000, 4000, 0,
     (go .service).modPower fun p => { p with crank := some { vEntry := 5000, vMin := 5000, lowTime := 0, deferred := 0 } },
     by decide +kernel⟩,
   ⟨60000000, 4000, 4000, 4000,
     (go .service).modPower fun p => { p with crank := some { vEntry := 5000, vMin := 5000, lowTime := 0, deferred := 0 }, lowSince := some 0 },
     by decide +kernel⟩,
   ⟨1000, 2000, 2000, go .service, by decide +kernel⟩,
   ⟨1000, .a, 38000, go .service, by decide +kernel⟩,
   ⟨1000, .a, 14000, (go .service).modPower fun p => { p with cutA := true }, by decide +kernel⟩,
   ⟨1000, .a, 1000, go .service, by decide +kernel⟩,
   ⟨1000, .a, 12000, (go .service).modPower fun p => { p with lostA := true }, by decide +kernel⟩,
   ⟨1000, (-12000), (-12000), go .service, by decide +kernel⟩,
   ⟨1000, 6000, go .service, by decide +kernel⟩,
   ⟨1000, 850, go .service, by decide +kernel⟩,
   ⟨1000, 50000, go .service, by decide +kernel⟩,
   ⟨rq 0 (pay 8 [(0, le 1 1)]), up .service, by decide +kernel⟩,
   ⟨rq 0 (pay 4 []), up .service, by decide +kernel⟩,
   ⟨1000, 0, (go .service).modChan 0 fun c => { c with keepAwake := some 0 }, by decide +kernel⟩,
   ⟨rq 0 (pay 20 []), up .service, by decide +kernel⟩,
   ⟨rq 0 (pay 28 []), up .service, by decide +kernel⟩,
   ⟨rq 0 (pay 12 []), up .service, by decide +kernel⟩,
   ⟨rq 0 (pay 0 []), up .service, by decide +kernel⟩,
   ⟨1000,
     (go .service).modPower fun p => { p with wait := some { target := 1, retain := 0, shelfConfirm := false, until? := none, req := none } },
     by decide +kernel⟩,
   ⟨1000,
     (go .working).modPower fun p => { p with wait := some { target := 4, retain := 0, shelfConfirm := false, until? := some 0, req := none } },
     by decide +kernel⟩,
   ⟨20000000000, 4, (go .parked).modPower fun p => { p with ign := false, dormantS := 10, descentFrom := some 0 },
     by decide +kernel⟩,
   ⟨1000, (go .service).modPower fun p => { p with ign := false }, by decide +kernel⟩,
   ⟨1000, (go .service).modPower fun p => { p with ign := true }, by decide +kernel⟩,
   ⟨1000, true, (go .service).modPower fun p => { p with wakeIn := false }, by decide +kernel⟩,
   ⟨1000, 0, (go .service).modPower fun p => { p with wake := { p.wake with canPattern := 1 } }, by decide +kernel⟩,
   ⟨1000, 0, 0, 0, [],
     (go .service).modPower fun p => { p with wake := { p.wake with canSelective := 1 }, filters := p.filters.put 0 { format := 0, dlc := 0, id := 0, mask := 0, data := [], dataMask := [] } },
     by decide +kernel⟩,
   ⟨1000, 0, (go .service).modPower fun p => { p with wake := { p.wake with tc10 := 1 } }, by decide +kernel⟩,
   ⟨1000, (go .service).modPower fun p => { p with wake := { p.wake with alarm := 500 } }, by decide +kernel⟩,
   ⟨1000, (go .service).modPower fun p => { p with usb := false }, by decide +kernel⟩,
   ⟨60000000000, (go .service).modPower fun p => { p with backupSince := some 0 }, by decide +kernel⟩,
   ⟨1000,
     (go .service).modPower fun p => { p with crank := some { vEntry := 5000, vMin := 5000, lowTime := 0, deferred := 0 }, lowSince := some 0 },
     by decide +kernel⟩,
   ⟨1000,
     ((go .service).modPower fun p => { p with strapsFixed := true }).modHub fun h => { h with phase := .starting, serving := false },
     by decide +kernel⟩,
   ⟨1000, (go .service).modPower fun p => { p with usb := true }, by decide +kernel⟩⟩

theorem witness_ModeCommandsRun :
    (∃ (t : Nat) (s : State), whenAutoLimpEntry t (s.atTime t) = true) ∧
    (∃ (t : Nat) (unit : Nat) (s : State), (isUnit unit) ∧ whenConvergenceDeadline t unit (s.atTime t) = true) ∧
    (∃ (r : Request) (s : State), Taken opModeQuery moduleSupervisor r s (fun _ => [])) ∧
    (∃ (r : Request) (s : State), Taken opAuthChallenge moduleSupervisor r s (checksAuthChallenge r)) ∧
    (∃ (t : Nat) (kind : Nat) (s : State), (inRange kind 1 2) ∧ whenChallengeExpiry t kind (s.atTime t) = true) ∧
    (∃ (t : Nat) (kind : Nat) (s : State), (inRange kind 1 2) ∧ whenAuthLockoutEnd t kind (s.atTime t) = true) ∧
    (∃ (r : Request) (s : State), Taken opSelftest (if isUnit (r.u 4 2) then (r.u 4 2) else uMaluf) r s (checksSelftest r) ∧
      (s.atTime r.time).answeredReady (islandOf (r.u 4 2)) = false) ∧
    (∃ (t : Nat) (unit : Nat) (result : Nat) (failCode : U32) (s : State),
      (isUnit unit && (result == 0 || result == 1 || result == 3)) = true ∧
      whenSelftestEnd t unit result failCode (s.atTime t) = true) ∧
    (∃ (r : Request) (s : State), Taken opCounterRead (counterUnit (r.u 0 2)) r s (checksCounterRead r)) ∧
    (∃ (r : Request) (s : State), Taken opCounterClear (counterUnit (r.u 0 2)) r s (checksCounterClear r)) ∧
    (∃ (r : Request) (s : State), Taken opThermalRead moduleSupervisor r s (fun _ => [])) ∧
    (∃ (t : Nat) (s : State), whenSupWatchdogExpiry t (s.atTime t) = true) ∧
    (∃ (t : Nat) (unit : Nat) (s : State), (isUnit unit) ∧ whenUnitHeartbeatLoss t unit (s.atTime t) = true) ∧
    (∃ (t : Nat) (island : Nat) (s : State), (island < 12) ∧ whenIslandReportTimeout t island (s.atTime t) = true) ∧
    (∃ (t : Nat) (island : Nat) (s : State), (island < 12) ∧ whenIslandReset t island (s.atTime t) = true) ∧
    (∃ (t : Nat) (island : Nat) (s : State), (island < 12) ∧ whenIslandReady t island (s.atTime t) = true) ∧
    (∃ (t : Nat) (unit : Nat) (reason : Nat) (s : State), (isUnit unit && inRange reason 1 3) = true ∧
      whenIslandRefusal t unit reason (s.atTime t) = true) ∧
    (∃ (t : Nat) (s : State), whenPrepareTimeout t (s.atTime t) = true) ∧
    (∃ (t : Nat) (missed : List Nat) (s : State), (missed.all isUnit) ∧ whenModeCommit t missed (s.atTime t) = true) ∧
    (∃ (t : Nat) (missed : List Nat) (s : State), (missed.all isUnit) ∧ whenForcedSafeHold t missed (s.atTime t) = true) ∧
    (∃ (t : Nat) (s : State), whenAutoSafeHold t (s.atTime t) = true) ∧
    (∃ (t : Nat) (s : State), whenFldConverterFail t (s.atTime t) = true) ∧
    (∃ (r : Request) (s : State), Taken opImageActivate uSecurity r s (checksImageActivate r)) ∧
    (∃ (r : Request) (s : State), Taken opImageRevert uSecurity r s (checksImageRevert r) ∧
      (s.atTime r.time).answeredReady (classIsland (r.u 4 1)) = false) ∧
    (∃ (t : Nat) (cls : Nat) (s : State), (isClass cls) ∧ whenTrialRejoinTimeout t cls (s.atTime t) = true) ∧
    (∃ (t : Nat) (cls : Nat) (s : State), (isClass cls) ∧ whenConfirmTimeout t cls (s.atTime t) = true) :=
  ⟨⟨1000, go .working, by decide +kernel⟩,
   ⟨200000000, (uLane 0), fencing (uLane 0) (some 0), by decide +kernel⟩,
   ⟨rq 0 (pay 0 []), up .service, by decide +kernel⟩,
   ⟨rq 0 (pay 4 [(0, le 1 1)]), up .service, by decide +kernel⟩,
   ⟨1000, 1, (go .service).modMode fun m => { m with challengePw := some { nonce := [], expires := 0 } }, by decide +kernel⟩,
   ⟨1000, 1, (go .service).modMode fun m => { m with lockPw := some 0 }, by decide +kernel⟩,
   ⟨rq 0 (pay 8 [(0, le 4 1), (4, le 2 2048)]), up .service, by decide +kernel⟩,
   ⟨1000, (uLane 0), 0, 0,
     (go .service).modMode fun m => { m with selfTests := [{ unit := uLane 0, depth := 0, req := someone, started := 0 }] },
     by decide +kernel⟩,
   ⟨rq 0 (pay 8 [(0, le 2 2048), (4, le 2 1)]), up .service, by decide +kernel⟩,
   ⟨rq 0 (pay 8 [(0, le 2 2048), (4, le 2 1)]), up .service, by decide +kernel⟩,
   ⟨rq 0 (pay 0 []), up .service, by decide +kernel⟩,
   ⟨1000, go .service, by decide +kernel⟩,
   ⟨1000, (uLane 0), go .service, by decide +kernel⟩,
   ⟨1000, islNav, go .service, by decide +kernel⟩,
   ⟨1000, islNav, go .service, by decide +kernel⟩,
   ⟨1000, islCtl, changing id, by decide +kernel⟩,
   ⟨1000, (uLane 0), 1, changing id, by decide +kernel⟩,
   ⟨50000000, changing id, by decide +kernel⟩,
   ⟨1000000, [], changing fun c => { c with allReady := some 0 }, by decide +kernel⟩,
   ⟨1000000, [], changing fun c => { c with forced := true }, by decide +kernel⟩,
   ⟨1000, go .working, by decide +kernel⟩,
   ⟨1000, go .service, by decide +kernel⟩,
   ⟨rq 0 (pay 8 [(0, le 4 1), (4, le 1 6)]), slotted .installed (up .service), by decide +kernel⟩,
   ⟨rq 0 (pay 8 [(0, le 4 1), (4, le 1 6)]), slotted .installed (up .service), by decide +kernel⟩,
   ⟨1000, 6,
     (slotted .trial (go .service)).modCls 6 fun x => { x with rejoinDue := some 0, act := some { req := none, slot := 1, back := false, cause := 0 } },
     by decide +kernel⟩,
   ⟨900000000000, 6, slotted .trial (go .service), by decide +kernel⟩⟩

theorem witness_PlacementCommandsRun :
    (∃ (r : Request) (s : State), Taken opPlace uPlacement r s (checksPlace r) ∧
      ((placeReq r).home (s.atTime r.time)).isSome = true) ∧
    (∃ (r : Request) (s : State), Taken opRelease uPlacement r s (checksPlacementRelease r)) ∧
    (∃ (r : Request) (s : State), Taken opPin uPlacement r s (checksPlacementPin r)) ∧
    (∃ (r : Request) (s : State), Taken opMap uPlacement r s (checksPlacementMap r)) ∧
    (∃ (r : Request) (s : State), Taken opUnmap uPlacement r s (checksPlacementUnmap r)) ∧
    (∃ (r : Request) (s : State), Taken opSync uPlacement r s (checksPlacementSync r)) ∧
    (∃ (r : Request) (s : State), Taken opPlacementQuery uPlacement r s (checksPlacementQuery r)) ∧
    (∃ (r : Request) (s : State), Taken opCapacity uPlacement r s (fun _ => [])) ∧
    (∃ (r : Request) (s : State), Taken opList uPlacement r s (fun _ => [])) ∧
    (∃ (r : Request) (s : State), Taken opQuotaSet uPlacement r s (checksQuotaSet r)) ∧
    (∃ (r : Request) (s : State), Taken opJobPool uPlacement r s (checksJobPool r)) ∧
    (∃ (r : Request) (s : State), Taken opBootViewSet uPlacement r s (checksBootViewSet r)) ∧
    (∃ (t : Nat) (handle : Nat) (chunk : Nat) (s : State), whenMigrationDone t handle chunk (s.atTime t) = true) ∧
    (∃ (t : Nat) (handle : Nat) (offset : Nat) (length : Nat) (s : State),
      whenWriteBackStart t handle offset length (s.atTime t) = true) ∧
    (∃ (t : Nat) (handle : Nat) (record : Nat) (s : State), whenWriteBackDone t handle record (s.atTime t) = true) ∧
    (∃ (t : Nat) (handle : Nat) (chunk : Nat) (s : State), whenShadowWrite t handle chunk (s.atTime t) = true) ∧
    (∃ (t : Nat) (tier : Nat) (degraded : Bool) (rate : Nat) (s : State),
      whenTierDegraded t tier degraded rate (s.atTime t) = true) ∧
    (∃ (t : Nat) (handle : Nat) (chunk : Nat) (s : State), whenRestoreChunkDone t handle chunk (s.atTime t) = true) :=
  ⟨⟨rq 0 (pay 34 [(0, le 1 4), (4, le 8 1000), (24, le 1 1), (32, le 2 65534)]), up .service, by decide +kernel⟩,
   ⟨rq 0 (pay 8 [(0, le 8 5)]), held 5 2 2 8388608 [0xFFFE] (up .service), by decide +kernel⟩,
   ⟨rq 0 (pay 12 [(0, le 8 5), (8, le 1 0)]), held 5 2 2 8388608 [0xFFFE] (up .service), by decide +kernel⟩,
   ⟨rq 0 (pay 24 [(0, le 8 5), (16, le 8 4194304)]), held 5 2 2 8388608 [0xFFFE] (up .service), by decide +kernel⟩,
   ⟨rq 0 (pay 16 [(0, le 8 5), (8, le 8 4096)]),
     (held 5 2 2 8388608 [0xFFFE] (up .service)).modPlacement 5 fun p => { p with views := [{ address := 4096, offset := 0, length := 4194304, req := none }] },
     by decide +kernel⟩,
   ⟨rq 0 (pay 24 [(0, le 8 5)]), held 5 2 2 8388608 [0xFFFE] (up .service), by decide +kernel⟩,
   ⟨rq 0 (pay 8 [(0, le 8 5)]), held 5 2 2 8388608 [0xFFFE] (up .service), by decide +kernel⟩,
   ⟨rq 0 (pay 0 []), up .service, by decide +kernel⟩,
   ⟨rq 0 (pay 8 []), up .service, by decide +kernel⟩,
   ⟨rq 0 (pay 40 [(0, le 1 1)]), up .service, by decide +kernel⟩,
   ⟨rq 0 (pay 16 []), up .service, by decide +kernel⟩,
   ⟨rq 0 (pay 4 [(0, le 1 4)]), up .service, by decide +kernel⟩,
   ⟨1000, 5, 0,
     (held 5 2 2 8388608 [0xFFFE] (go .service)).modPlace fun q => { q with moving := [{ handle := 5, chunk := 0, to_ := 2 }] },
     by decide +kernel⟩,
   ⟨1000, 5, 0, 4096, (held 5 2 2 8388608 [0xFFFE] (go .service)).modPlacement 5 fun p => { p with dirty := p.dirty.put 0 0 },
     by decide +kernel⟩,
   ⟨1000, 5, 9,
     (held 5 2 2 8388608 [0xFFFE] (go .service)).modPlacement 5 fun p => { p with writing := [{ record := 9, offset := 0, length := 4096, blocks := Bank.empty }] },
     by decide +kernel⟩,
   ⟨1000, 5, 0, (held 5 2 1 8388608 [0xFFFE] (go .service)).modPlacement 5 fun p => { p with home := 2 }, by decide +kernel⟩,
   ⟨1000, 3, true, 0, held 5 2 2 8388608 [0xFFFE] (go .service), by decide +kernel⟩,
   ⟨1000, 5, 0,
     (held 5 2 2 8388608 [0xFFFE] (go .service)).modPlacement 5 fun p => { p with unrestored := p.unrestored.put 0 0 },
     by decide +kernel⟩⟩

theorem witness_StreamCommandsRun :
    (∃ (r : Request) (s : State), Taken opStreamCreate uFabric r s (checksStreamCreate r) ∧
      (s.atTime r.time).creditLimit (r.u 2 2) (r.u 8 4) (some (endpointAt r.payload 24)) (createConsumers r) (crosses (endpointAt r.payload 24) (createConsumers r)) = none) ∧
    (∃ (r : Request) (s : State), Taken opStreamAttach uFabric r s (checksStreamAttach r) ∧
      (((s.atTime r.time).namedStream (r.u 0 8) r.ch).all fun x => ((s.atTime r.time).creditLimit x.2.credits x.2.rate none [endpointAt r.payload 8] ((endpointAt r.payload 8).peer && !crosses x.2.producer (x.2.consumers.entries.map fun c => c.2.ep))).isNone) = true) ∧
    (∃ (r : Request) (s : State), Taken opStreamDetach uFabric r s (checksStreamDetach r)) ∧
    (∃ (r : Request) (s : State), Taken opStreamDestroy uFabric r s (checksStreamDestroy r)) ∧
    (∃ (r : Request) (s : State), Taken opStreamQuery uFabric r s (checksStreamQuery r)) ∧
    (∃ (r : Request) (s : State), Taken opLinkConfig uLink r s (checksLinkConfig r)) ∧
    (∃ (r : Request) (s : State), Taken opLinkStatus uLink r s (fun _ => [])) ∧
    (∃ (r : Request) (s : State), Taken opLinkRetrain uLink r s (checksLinkRetrain r)) ∧
    (∃ (t : Nat) (unit : Nat) (port : Nat) (m : Msg) (s : State), whenMessagePresent t unit port m (s.atTime t) = true) ∧
    (∃ (t : Nat) (no : Nat) (idx : Nat) (s : State), whenFlitDeliver t no idx (s.atTime t) = true) ∧
    (∃ (t : Nat) (no : Nat) (idx : Nat) (s : State), whenCreditReturn t no idx (s.atTime t) = true) ∧
    (∃ (t : Nat) (no : Nat) (ep : Nat) (posted : U32) (descs : List (List Byte)) (s : State),
      whenRingPosted t no ep posted descs (s.atTime t) = true) ∧
    (∃ (t : Nat) (no : Nat) (ep : Nat) (s : State), whenDescriptorComplete t no ep (s.atTime t) = true) ∧
    (∃ (t : Nat) (no : Nat) (s : State), whenStreamDrainTimeout t no (s.atTime t) = true) ∧
    (∃ (t : Nat) (low : Bool) (s : State), whenLinkPresence t low (s.atTime t) = true) ∧
    (∃ (t : Nat) (width : Nat) (peerId : U64) (peerRole : Nat) (streams : Nat) (buffers : Nat) (s : State),
      whenLinkUp t width peerId peerRole streams buffers (s.atTime t) = true) ∧
    (∃ (t : Nat) (s : State), whenLinkTrainingTimeout t (s.atTime t) = true) ∧
    (∃ (t : Nat) (s : State), whenLinkRetryTimer t (s.atTime t) = true) ∧
    (∃ (t : Nat) (cause : Nat) (lane : Option Nat) (s : State), whenLinkErrorRetrain t cause lane (s.atTime t) = true) ∧
    (∃ (t : Nat) (f : LinkFlit) (s : State), whenLinkFlitRx t f (s.atTime t) = true) ∧
    (∃ (t : Nat) (s : State), whenLinkAckTimer t (s.atTime t) = true) ∧
    (∃ (t : Nat) (seq : Nat) (s : State), whenLinkNakRx t seq (s.atTime t) = true) :=
  ⟨⟨rq 0 (pay 56 [(0, le 1 1), (2, le 2 64), (4, le 4 64), (14, le 1 1), (24, le 1 1), (26, le 2 1792), (28, le 1 1), (40,
    le 1 1), (42, le 2 2048), (44, le 1 1)]), up .service, by decide +kernel⟩,
   ⟨rq 0 (pay 24 [(0, le 8 9), (8, le 1 1), (10, le 2 2050), (12, le 1 1)]), streamed (up .service), by decide +kernel⟩,
   ⟨rq 0 (pay 16 [(0, le 8 9)]), streamed (up .service), by decide +kernel⟩,
   ⟨rq 0 (pay 12 [(0, le 8 9)]), streamed (up .service), by decide +kernel⟩,
   ⟨rq 0 (pay 8 [(0, le 8 9)]), streamed (up .service), by decide +kernel⟩,
   ⟨rq 0 (pay 4 [(1, le 1 4)]), up .service, by decide +kernel⟩,
   ⟨rq 0 (pay 0 []), up .service, by decide +kernel⟩,
   ⟨rq 0 (pay 4 []), up .service, by decide +kernel⟩,
   ⟨1000, uBaseband, 1, msg, go .service, by decide +kernel⟩,
   ⟨1000, 4, 0,
     (streamed (go .service)).modStream 4 fun x => { x with consumers := x.consumers.mapAll fun _ c => { c with queue := [{ seq := 0, msg := msg, paid := 1, sent := 1, arrived := 0 }] } },
     by decide +kernel⟩,
   ⟨1000, 4, 0,
     (streamed (go .service)).modStream 4 fun x => { x with consumers := x.consumers.mapAll fun _ c => { c with freed := 1 } },
     by decide +kernel⟩,
   ⟨1000, 4, 255, 1, [], ringed, by decide +kernel⟩,
   ⟨1000, 4, 255, ringed, by decide +kernel⟩,
   ⟨1000, 4, (streamed (go .service)).modStream 4 fun x => { x with draining := some (someone, 0) }, by decide +kernel⟩,
   ⟨1000, false, linked .absent id, by decide +kernel⟩,
   ⟨1000, 4, 1, 0, 0, 0, linked .training fun l => { l with maxWidth := 4 }, by decide +kernel⟩,
   ⟨100000000, linked .training fun l => { l with trainingSince := some 0 }, by decide +kernel⟩,
   ⟨1000, linked .down id, by decide +kernel⟩,
   ⟨1000, 2, none, linked .up id, by decide +kernel⟩,
   ⟨1000, { stream := 0, kind := 0, valid := 0, flags := 0, msgSeq := 0, idx := 0, linkSeq := 0, check := 0, payload := [] },
     linked .up id, by decide +kernel⟩,
   ⟨1000, linked .up fun l => { l with unacked := 1 }, by decide +kernel⟩,
   ⟨1000, 0, linked .up id, by decide +kernel⟩⟩

theorem witness_LedgerCommandsRun :
    (∃ (t : Nat) (s : State), whenEventDelivery t (s.atTime t) = true) ∧
    (∃ (t : Nat) (s : State), whenLedgerReplay t (s.atTime t) = true) ∧
    (∃ (r : Request) (s : State), Taken opLedgerStatus uLedger r s (fun _ => [])) ∧
    (∃ (r : Request) (s : State), Taken opLedgerRead uLedger r s (checksLedgerRead r)) ∧
    (∃ (r : Request) (s : State), Taken opJournalConfig uLedger r s (checksJournalConfig r)) ∧
    (∃ (r : Request) (s : State), Taken opReplayControl uLedger r s (checksReplayControl r)) ∧
    (∃ (r : Request) (s : State), Taken opOutputs uLedger r s (fun _ => [])) ∧
    (∃ (t : Nat) (id : Nat) (s : State), whenUnitExecutionReport t id (s.atTime t) = true) ∧
    (∃ (t : Nat) (s : State), whenSnapshotTimer t (s.atTime t) = true) ∧
    (∃ (t : Nat) (id : Nat) (s : State), whenHeldRecordDeadline t id (s.atTime t) = true) ∧
    (∃ (t : Nat) (ch : Nat) (s : State), (ch < 64) ∧ whenOutcomeDiscard t ch (s.atTime t) = true) ∧
    (∃ (t : Nat) (s : State), whenThermalMemoryCopy t (s.atTime t) = true) ∧
    (∃ (t : Nat) (path : Path) (s : State), (path != .unbound) ∧ whenPathLostHold t path (s.atTime t) = true) :=
  ⟨⟨1000, go .service, by decide +kernel⟩,
   ⟨1000, (go .service).modLedger fun l => { l with replaying := true }, by decide +kernel⟩,
   ⟨rq 0 (pay 0 []), up .service, by decide +kernel⟩,
   ⟨rq 0 (pay 12 []), up .service, by decide +kernel⟩,
   ⟨rq 0 (pay 8 []), up .service, by decide +kernel⟩,
   ⟨rq 0 (pay 4 [(0, le 1 1)]), up .service, by decide +kernel⟩,
   ⟨rq 0 (pay 0 []), up .service, by decide +kernel⟩,
   ⟨1000, 5,
     (go .service).modLedger fun l => { l with records := [rec5 .command .open], windows := l.windows.put uPlacement [(5, 0)] },
     by decide +kernel⟩,
   ⟨1000, go .service, by decide +kernel⟩,
   ⟨1000, 5, (go .service).modLedger fun l => { l with records := [rec5 .command .open], waiting := [5] }, by decide +kernel⟩,
   ⟨600000000001, 0, (go .service).modLedger fun l => { l with replayTime := 1 }, by decide +kernel⟩,
   ⟨1000, go .service, by decide +kernel⟩,
   ⟨1000, Path.tunnel, (go .service).modStage fun p => { p with pathLost := [(Path.tunnel, some 0)] }, by decide +kernel⟩⟩

theorem witness_ControlCommandsRun :
    (∃ (t : Nat) (s : State), whenLoopTick t (s.atTime t) = true) ∧
    (∃ (r : Request) (s : State),
      Taken opLoopDefine (uLane (if (field (r.bytes 8 256) 1 1) ≤ 3 then (field (r.bytes 8 256) 1 1) else 0)) r s (checksLoopDefine r) ∧
      (((s.atTime r.time).dropClosing (field (r.bytes 8 256) 0 1) 0).placeOn (field (r.bytes 8 256) 0 1) (field (r.bytes 8 256) 1 1) (field (r.bytes 8 256) 2 2) (field (r.bytes 8 256) 4 2)).isSome = true) ∧
    (∃ (r : Request) (s : State), Taken opLoopClear ((s.loop (r.u 4 1)).unit) r s (checksLoopClear r)) ∧
    (∃ (r : Request) (s : State), Taken opCoeff ((s.loop (r.u 4 1)).unit) r s (checksLoopCoeff r)) ∧
    (∃ (r : Request) (s : State), Taken opLimits ((s.loop (r.u 4 1)).unit) r s (checksLoopLimits r)) ∧
    (∃ (r : Request) (s : State), Taken opClose ((s.loop (r.u 4 1)).unit) r s (checksLoopClose r)) ∧
    (∃ (r : Request) (s : State), Taken opOpen ((s.loop (r.u 0 1)).unit) r s (checksLoopOpen r)) ∧
    (∃ (r : Request) (s : State), Taken opValueWrite (uLane 0) r s (checksValueWrite r)) ∧
    (∃ (r : Request) (s : State), Taken opLoopStatus (s.loop (r.u 0 1)).unit r s (checksLoopStatus r)) ∧
    (∃ (r : Request) (s : State), Taken opLoopRead (s.loop (r.u 0 1)).unit r s (checksLoopRead r)) ∧
    (∃ (r : Request) (s : State), Taken opLanes (supervisorOf islCtl) r s (fun _ => [])) ∧
    (∃ (r : Request) (s : State), Taken opTrace (uLane (if (r.u 0 1) ≤ 3 then (r.u 0 1) else 0)) r s (checksLoopTrace r)) ∧
    (∃ (r : Request) (s : State), Taken opTune ((s.loop (r.u 4 1)).unit) r s (checksLoopTune r) ∧
      (s.atTime r.time).answeredReady islCtl = false) ∧
    (∃ (r : Request) (s : State), Taken opTuneAbort ((s.loop (r.u 0 1)).unit) r s (checksTuneAbort r)) ∧
    (∃ (r : Request) (s : State), Taken opTuneCommit ((s.loop (r.u 4 1)).unit) r s (checksTuneCommit r)) ∧
    (∃ (t : Nat) (loop : Nat) (s : State), (loop < 256) ∧ whenTuneSettleEnd t loop (s.atTime t) = true) ∧
    (∃ (t : Nat) (loop : Nat) (s : State), (loop < 256) ∧ whenTuneHalfCycleTimeout t loop (s.atTime t) = true) ∧
    (∃ (t : Nat) (loop : Nat) (s : State), (loop < 256) ∧ whenTuneTimeLimit t loop (s.atTime t) = true) ∧
    (∃ (t : Nat) (lane : Nat) (stamp : Nat) (body : List Byte) (s : State), (lane < 4) ∧
      whenSignalMessage t lane stamp body (s.atTime t) = true) :=
  ⟨⟨1000000, go .service, by decide +kernel⟩,
   ⟨rq 0 (pay 264 [(0, le 4 1), (8, loopDesc)]), up .service, by decide +kernel⟩,
   ⟨rq 0 (pay 8 [(0, le 4 1), (4, le 1 1)]), looped .open (up .service), by decide +kernel⟩,
   ⟨rq 0 (pay 36 [(0, le 4 1), (4, le 1 1)]), looped .open (up .service), by decide +kernel⟩,
   ⟨rq 0 (pay 52 [(0, le 4 1), (4, [1]), (8, (loopDesc.drop 84).take 44)]), looped .open (up .service), by decide +kernel⟩,
   ⟨rq 0 (pay 8 [(0, le 4 1), (4, le 1 1)]), looped .open (up .service), by decide +kernel⟩,
   ⟨rq 0 (pay 4 [(0, le 1 1)]), looped .open (up .service), by decide +kernel⟩,
   ⟨rq 0 (pay 16 [(0, le 4 1), (4, le 1 1)]), up .service, by decide +kernel⟩,
   ⟨rq 0 (pay 4 [(0, le 1 1)]), looped .open (up .service), by decide +kernel⟩,
   ⟨rq 0 (pay 4 [(0, le 1 1)]), looped .open (up .service), by decide +kernel⟩,
   ⟨rq 0 (pay 0 []), up .service, by decide +kernel⟩,
   ⟨rq 0 (pay 36 []), up .service, by decide +kernel⟩,
   ⟨rq 0 (pay 44 [(0, le 4 1), (4, le 1 1), (5, le 1 1), (6, le 1 1), (7, le 1 2), (16, le 4 1), (32, le 4 100), (36, le 4 10),
     (40, le 2 1)]), looped .open (up .commission), by decide +kernel⟩,
   ⟨rq 0 (pay 4 [(0, le 1 1)]), looped .open (up .service), by decide +kernel⟩,
   ⟨rq 0 (pay 8 [(0, le 4 1), (4, le 1 1)]),
     (looped .open (up .commission)).modLoop 1 fun l => { l with proposal := some { rule := 1, ku := 1, tu := 1 } },
     by decide +kernel⟩,
   ⟨100000000, 1, (looped .tuning (go .commission)).modLoop 1 fun l => { l with tune := some (tune .settle) },
     by decide +kernel⟩,
   ⟨100000000, 1, (looped .tuning (go .commission)).modLoop 1 fun l => { l with tune := some (tune .relay) },
     by decide +kernel⟩,
   ⟨2000000000, 1, (looped .tuning (go .commission)).modLoop 1 fun l => { l with tune := some (tune .relay) },
     by decide +kernel⟩,
   ⟨1000, 0, 0, [], go .service, by decide +kernel⟩⟩

theorem witness_FunctionCommandsRun :
    (∃ (t : Nat) (s : State), whenInstanceTick t (s.atTime t) = true) ∧
    (∃ (r : Request) (s : State),
      Taken opFunctionDefine (uLane (s.pickLane (r.u 4 1) (r.u 7 1))) r s (checksFunctionDefine r)) ∧
    (∃ (r : Request) (s : State), Taken opFunctionClear ((s.inst (r.u 4 1)).unit) r s (checksFunctionClear r)) ∧
    (∃ (r : Request) (s : State), Taken opFunctionStart ((s.inst (r.u 4 1)).unit) r s (checksFunctionStart r) ∧
      ((s.atTime r.time).inst (r.u 4 1)).running = true ∨ (s.atTime r.time).startDeferred (r.u 4 1) = false) ∧
    (∃ (r : Request) (s : State), Taken opFunctionStop ((s.inst (r.u 0 1)).unit) r s (checksFunctionStop r)) ∧
    (∃ (r : Request) (s : State), Taken opFunctionParams ((s.inst (r.u 4 1)).unit) r s (checksFunctionParams r)) ∧
    (∃ (r : Request) (s : State), Taken opFunctionStatus (s.inst (r.u 0 1)).unit r s (checksFunctionStatus r)) ∧
    (∃ (r : Request) (s : State), Taken opCalibrate ((s.inst (r.u 4 1)).unit) r s (checksCalibrate r) ∧ (r.u 5 1 = 2 →
      (newCal ((s.atTime r.time).inst (r.u 4 1)) (r.u 8 8)).isSome = true)) ∧
    (∃ (r : Request) (s : State), Taken opTotals (s.inst (r.u 0 1)).unit r s (checksYieldTotals r)) ∧
    (∃ (t : Nat) (inst : Nat) (s : State), (inst < 64) ∧ whenOnDelayExpiry t inst (s.atTime t) = true) ∧
    (∃ (t : Nat) (inst : Nat) (s : State), (inst < 64) ∧ whenGovernorPeriod t inst (s.atTime t) = true) ∧
    (∃ (t : Nat) (inst : Nat) (s : State), (inst < 64) ∧ whenYieldStep t inst (s.atTime t) = true) ∧
    (∃ (t : Nat) (s : State), whenTotalsSave t (s.atTime t) = true) :=
  ⟨⟨1000000, go .service, by decide +kernel⟩,
   ⟨rq 0 (pay 104 [(0, le 4 1), (4, [2, 0x06, 0, 0, 2]), (80, [5, 2, 0, 0]), (84, le 8 3), (92, [5, 2, 0, 0]), (96, le 8 4)]),
     up .service, by decide +kernel⟩,
   ⟨rq 0 (pay 8 [(0, le 4 1)]), up .service, by decide +kernel⟩,
   ⟨rq 0 (pay 8 [(0, le 4 1), (4, le 1 2)]), instanced 0x10 .stopped (up .service), by decide +kernel⟩,
   ⟨rq 0 (pay 4 [(0, le 1 2)]), instanced 0x06 .active (up .service), by decide +kernel⟩,
   ⟨rq 0 (pay 72 [(0, le 4 1), (4, le 1 2)]), instanced 0x06 .stopped (up .service), by decide +kernel⟩,
   ⟨rq 0 (pay 4 []), up .service, by decide +kernel⟩,
   ⟨rq 0 (pay 16 [(0, le 4 1), (4, le 1 2), (5, le 1 1)]), instanced 0x12 .active (up .working), by decide +kernel⟩,
   ⟨rq 0 (pay 4 [(0, le 1 2)]), instanced 0x15 .active (up .service), by decide +kernel⟩,
   ⟨1000, 2,
     (instanced 0x06 .idle (go .service)).modInst 2 fun x => { x with starting := some { req := none, old := .stopped, cause := 0, chans := [3], next := 0, deferred := false, asked := [] } },
     by decide +kernel⟩,
   ⟨1000000, 2, instanced 0x11 .idle (go .working), by decide +kernel⟩,
   ⟨100000000, 2, instanced 0x15 .active (go .working), by decide +kernel⟩,
   ⟨1000, go .service, by decide +kernel⟩⟩

theorem witness_SwitchCommandsRun :
    (∃ (t : Nat) (sw : Nat) (s : State), (sw < 48) ∧ whenHoldMsExpiry t sw (s.atTime t) = true) ∧
    (∃ (r : Request) (s : State), Taken opSwitchConfig (swUnitOf (r.u 4 1)) r s (checksSwitchConfig r) ∧
      entryRefusal (entriesSwitchConfig r (s.atTime r.time)) = none) ∧
    (∃ (r : Request) (s : State), Taken opSet (swUnitOf (r.u 8 1)) r s (checksSwitchSet r) ∧
      entryRefusal (entriesSwitchSet r (s.atTime r.time)) = none) ∧
    (∃ (r : Request) (s : State), Taken opClearFault (swUnitOf (r.u 4 1)) r s (checksClearFault r) ∧
      (((s.atTime r.time).sw (r.u 4 1)).fault = 0 ∨ (¬(((s.atTime r.time).sw (r.u 4 1)).fault = 4 ∧
      ((s.atTime r.time).sw (r.u 4 1)).cool = false) ∧ ((s.atTime r.time).sw (r.u 4 1)).theta ≤ 700000000000000))) ∧
    (∃ (r : Request) (s : State), Taken opServiceDrive (swUnitOf (r.u 4 1)) r s (checksServiceDrive r) ∧
      entryRefusal (entriesServiceDrive r (s.atTime r.time)) = none) ∧
    (∃ (r : Request) (s : State), Taken opSwitchStatus (swUnitOf (r.u 0 1)) r s (checksSwitchStatus r)) ∧
    (∃ (r : Request) (s : State), Taken opReadConfig (swUnitOf (r.u 0 1)) r s (checksReadConfig r)) ∧
    (∃ (r : Request) (s : State), Taken opGroupStatus (uGroup 0) r s (fun _ => [])) ∧
    (∃ (t : Nat) (currents : List SwSample) (a : GroupSample) (b : GroupSample) (s : State),
      whenChannelTick t currents a b (s.atTime t) = true) ∧
    (∃ (t : Nat) (g : Grp) (s : State), whenShedStepTimer t g (s.atTime t) = true) ∧
    (∃ (t : Nat) (ch : Nat) (outputMv : Nat) (currentUa : Nat) (s : State), (ch < 48) ∧
      whenInrushTimerExpiry t ch outputMv currentUa (s.atTime t) = true) ∧
    (∃ (t : Nat) (ch : Nat) (peakUa : Nat) (s : State), (ch < 48) ∧ whenHardCurrentLimit t ch peakUa (s.atTime t) = true) ∧
    (∃ (t : Nat) (ch : Nat) (s : State), (ch < 48) ∧ whenRetryWaitExpiry t ch (s.atTime t) = true) ∧
    (∃ (t : Nat) (ch : Nat) (s : State), (ch < 48) ∧ whenRetryRestore t ch (s.atTime t) = true) ∧
    (∃ (t : Nat) (g : Grp) (mean : Nat) (v : Nat) (s : State), whenDisturbanceRaise t g mean v (s.atTime t) = true) ∧
    (∃ (t : Nat) (g : Grp) (v : Nat) (vMin : Nat) (s : State), whenDisturbanceClear t g v vMin (s.atTime t) = true) ∧
    (∃ (t : Nat) (loads : List Nat) (s : State), whenLampCompensation t loads (s.atTime t) = true) ∧
    (∃ (t : Nat) (ch : Nat) (error : Bool) (s : State), (ch < 48) ∧ whenRegErrorTimer t ch error (s.atTime t) = true) ∧
    (∃ (t : Nat) (ch : Nat) (below : Bool) (s : State), (ch < 48) ∧ whenOpenLoadTimer t ch below (s.atTime t) = true) ∧
    (∃ (t : Nat) (ch : Nat) (outputMv : Nat) (drivenMv : Nat) (s : State), (ch < 48) ∧
      whenOffDiagCheck t ch outputMv drivenMv (s.atTime t) = true) ∧
    (∃ (t : Nat) (ch : Nat) (s : State), (ch < 48) ∧ whenOfftestPulse t ch (s.atTime t) = true) ∧
    (∃ (t : Nat) (ch : Nat) (outputMv : Nat) (s : State), (ch < 48) ∧ whenOfftestPulseEnd t ch outputMv (s.atTime t) = true) ∧
    (∃ (t : Nat) (ch : Nat) (s : State), (ch < 48) ∧ whenJunctionOvertemp t ch (s.atTime t) = true) ∧
    (∃ (t : Nat) (g : Grp) (s : State), whenGsnsOpenDetect t g (s.atTime t) = true) ∧
    (∃ (t : Nat) (s : State), whenServiceDriveTimeout t (s.atTime t) = true) ∧
    (∃ (t : Nat) (air : Int) (s : State), whenAmbientUpdate t air (s.atTime t) = true) ∧
    (∃ (t : Nat) (g : Grp) (s : State), whenGsnsRestored t g (s.atTime t) = true) :=
  ⟨⟨1000, 1, switched fun x => { x with held := .holdFor 0 }, by decide +kernel⟩,
   ⟨rq 0 (pay 40 [(0, le 4 1), (4, le 1 3), (5, le 1 0), (7, le 1 2), (8, le 2 250), (11, le 1 255), (12, le 2 10), (14,
     le 1 1), (16, le 1 255), (22, le 2 1000), (24, le 2 3200), (36, le 2 100)]), up .service, by decide +kernel⟩,
   ⟨rq 0 (pay 16 [(0, le 4 1), (4, le 1 1), (8, le 1 3), (9, le 1 1), (12, le 4 4294967295)]), up .working, by decide +kernel⟩,
   ⟨rq 0 (pay 8 [(0, le 4 1)]), up .service, by decide +kernel⟩,
   ⟨rq 0 (pay 16 [(0, le 4 1), (4, le 1 3), (5, le 1 1), (8, le 4 4294967295), (12, le 4 100)]), up .commission,
     by decide +kernel⟩,
   ⟨rq 0 (pay 4 [(1, le 1 48)]), up .service, by decide +kernel⟩,
   ⟨rq 0 (pay 4 []), up .service, by decide +kernel⟩,
   ⟨rq 0 (pay 0 []), up .service, by decide +kernel⟩,
   ⟨1000, [], { vBus := 12000, vGsns := 12000, stud1 := 0, stud100 := 0, peak := 0 },
     { vBus := 12000, vGsns := 12000, stud1 := 0, stud100 := 0, peak := 0 }, go .service, by decide +kernel⟩,
   ⟨1000, .a, (go .service).modGroup .a fun g => { g with shedDue := some 0 }, by decide +kernel⟩,
   ⟨1000, 1, 12000, 1000, switched fun x => { x with phase := .turningOn 0 }, by decide +kernel⟩,
   ⟨1000, 1, 1000000000, switched fun x => { x with phase := .on }, by decide +kernel⟩,
   ⟨1000, 1, switched fun x => { x with phase := .retryWait 0 }, by decide +kernel⟩,
   ⟨10000000000, 1, switched fun x => { x with phase := .on, onSince := some 0 }, by decide +kernel⟩,
   ⟨1000, .a, 12000, 1000, go .service, by decide +kernel⟩,
   ⟨2000000, .a, 12000, 1000, (go .service).modGroup .a fun g => { g with disturbed := some (0, 12000, 12000) },
     by decide +kernel⟩,
   ⟨1000, [], go .service, by decide +kernel⟩,
   ⟨1000, 40, true, (go .working).modSw 40 fun x => { x with phase := .on }, by decide +kernel⟩,
   ⟨1000, 1, true, switched fun x => { x with phase := .on, cfg := pay 36 [(16, le 2 100)] }, by decide +kernel⟩,
   ⟨1000, 1, 0, 0, switched fun x => { x with cfg := pay 36 [(2, [1])] }, by decide +kernel⟩,
   ⟨2000000, 1, switched fun x => { x with phase := .on, duty := 10000, cfg := pay 36 [(2, [8])] }, by decide +kernel⟩,
   ⟨1000, 1, 1000, switched fun x => { x with pulse := some 0 }, by decide +kernel⟩,
   ⟨1000, 1, go .service, by decide +kernel⟩,
   ⟨1000, .a, go .service, by decide +kernel⟩,
   ⟨1000, (go .service).modStage fun p => { p with service := some (3, 0) }, by decide +kernel⟩,
   ⟨1000, 250, go .service, by decide +kernel⟩,
   ⟨1000, .a, (go .service).modGroup .a fun g => { g with fallback := true }, by decide +kernel⟩⟩

theorem witness_SectionCommandsRun :
    (∃ (r : Request) (s : State), Taken opImplementSet uSection r s (checksImplementSet r)) ∧
    (∃ (r : Request) (s : State), Taken opSectionsSet uSection r s (checksSectionsSet r)) ∧
    (∃ (r : Request) (s : State), Taken opEngine uSection r s (checksSectionEngine r)) ∧
    (∃ (r : Request) (s : State), Taken opOverride uSection r s (checksSectionOverride r)) ∧
    (∃ (r : Request) (s : State), Taken opSchedule uSection r s (checksSectionSchedule r) ∧
      entryRefusal (entriesSectionSchedule r (s.atTime r.time)) = none) ∧
    (∃ (r : Request) (s : State), Taken opEdgeCancel uSection r s (checksEdgeCancel r)) ∧
    (∃ (r : Request) (s : State), Taken opSectionStatus uSection r s (fun _ => [])) ∧
    (∃ (t : Nat) (id : Nat) (s : State), whenEdgeExecute t id (s.atTime t) = true) ∧
    (∃ (t : Nat) (id : Nat) (s : State), whenNodeCommandSend t id (s.atTime t) = true) ∧
    (∃ (t : Nat) (mb : Option Nat) (node : Nat) (rec : List Byte) (s : State), (mb.all fun n => n < 12) ∧
      whenNodeAckRx t mb node rec (s.atTime t) = true) ∧
    (∃ (t : Nat) (id : Nat) (s : State), whenNodeAckTimeout t id (s.atTime t) = true) ∧
    (∃ (t : Nat) (mb : Nat) (s : State), (mb < 12) ∧ whenNodeSyncSend t mb (s.atTime t) = true) ∧
    (∃ (t : Nat) (s : State), whenEngineSolution t (s.atTime t) = true) ∧
    (∃ (t : Nat) (s : State), whenNavStaleHold t (s.atTime t) = true) ∧
    (∃ (t : Nat) (s : State), whenNavHoldExpiry t (s.atTime t) = true) ∧
    (∃ (t : Nat) (s : State), whenNavReturn t (s.atTime t) = true) :=
  ⟨⟨rq 0 (pay 64 [(0, le 4 1), (4, le 1 1), (5, le 1 1), (24, le 1 1), (25, le 1 5), (26, le 2 50), (30, le 2 5)]), up .service,
    by decide +kernel⟩,
   ⟨rq 0 (pay 28 [(0, le 4 1), (4, le 1 1), (5, le 1 1), (8, le 1 1), (9, le 1 3), (20, le 2 500)]), up .service,
     by decide +kernel⟩,
   ⟨rq 0 (pay 8 [(0, le 4 1)]), up .service, by decide +kernel⟩,
   ⟨rq 0 (pay 68 [(0, le 4 1)]), up .fieldReady, by decide +kernel⟩,
   ⟨rq 0 (pay 32 [(0, le 4 1), (4, le 1 1), (8, le 1 1), (9, le 1 3), (20, le 8 1000000000)]), up .working, by decide +kernel⟩,
   ⟨rq 0 (pay 8 [(0, le 4 5)]),
     (up .service).modSections fun x => { x with schedules := [{ ch := 0, tag := 5, serial := 1, results := [], req := none }] },
     by decide +kernel⟩,
   ⟨rq 0 (pay 0 []), up .service, by decide +kernel⟩,
   ⟨1000, 7, edging 1 id, by decide +kernel⟩,
   ⟨1000, 7, edging 3 id, by decide +kernel⟩,
   ⟨1000, none, 1, (List.replicate 16 0), (go .service).modEthPort 5 fun p => { p with link := 2 }, by decide +kernel⟩,
   ⟨1000000000, 7, edging 3 fun e => { e with sent := some 0 }, by decide +kernel⟩,
   ⟨1000, 0, edging 2 id, by decide +kernel⟩,
   ⟨1000, ((go .working).modFusion fun f => { f with running := true }).modSections fun x => { x with state := .running },
     by decide +kernel⟩,
   ⟨1000000000, (go .working).modSections fun x => { x with state := .running }, by decide +kernel⟩,
   ⟨20000000000, (go .working).modSections fun x => { x with state := .holding, holdSince := some 0 }, by decide +kernel⟩,
   ⟨1000000000, (go .working).modSections fun x => { x with state := .holding, goodSince := some 0 }, by decide +kernel⟩⟩

theorem witness_NavCommandsRun :
    (∃ (r : Request) (s : State), Taken opNavConfig uBaseband r s (checksNavConfig r)) ∧
    (∃ (r : Request) (s : State), Taken opChannelSet uBaseband r s (checksChannelSet r)) ∧
    (∃ (r : Request) (s : State), Taken opChannelStatus uBaseband r s (checksChannelStatus r)) ∧
    (∃ (r : Request) (s : State), Taken opAcqAid uBaseband r s (checksAcqAid r)) ∧
    (∃ (r : Request) (s : State), Taken opNavRestart uBaseband r s (checksNavRestart r)) ∧
    (∃ (r : Request) (s : State), Taken opKeptStatus uBaseband r s (fun _ => [])) ∧
    (∃ (r : Request) (s : State), Taken opFrontendStatus uBaseband r s (fun _ => [])) ∧
    (∃ (t : Nat) (cause : Nat) (visible : List Nat) (s : State), whenNavStart t cause visible (s.atTime t) = true) ∧
    (∃ (t : Nat) (lat : Int) (lon : Int) (height : Int) (distanceM : Nat) (fix : Nat) (sats : Nat) (s : State),
      whenFirstFix t lat lon height distanceM fix sats (s.atTime t) = true) ∧
    (∃ (t : Nat) (sats : List SatView) (s : State), whenChannelReallocation t sats (s.atTime t) = true) ∧
    (∃ (t : Nat) (ch : Nat) (s : State), (ch < 320) ∧ whenTrackLoss t ch (s.atTime t) = true) ∧
    (∃ (t : Nat) (amps : List Correlators) (s : State), whenMpIndexUpdate t amps (s.atTime t) = true) ∧
    (∃ (t : Nat) (ch : Nat) (early : Bool) (s : State), (ch < 320) ∧ whenBocFalseLock t ch early (s.atTime t) = true) ∧
    (∃ (t : Nat) (ant : Nat) (band : Nat) (x : Spectrum) (s : State), (ant < 2 && band < 3) = true ∧
      whenSpectrumUpdate t ant band x (s.atTime t) = true) ∧
    (∃ (t : Nat) (ant : Nat) (milliamps : Nat) (s : State), (ant < 2) ∧
      whenAntennaBiasFault t ant milliamps (s.atTime t) = true) ∧
    (∃ (t : Nat) (ant : Nat) (milliamps : Nat) (s : State), (ant < 2) ∧ whenBiasRetry t ant milliamps (s.atTime t) = true) ∧
    (∃ (t : Nat) (ant : Nat) (band : Nat) (gainDb : Int) (s : State), (ant < 2 && band < 3) = true ∧
      whenGainCheck t ant band gainDb (s.atTime t) = true) ∧
    (∃ (t : Nat) (m : List Measure) (s : State), whenMeasurementEpoch t m (s.atTime t) = true) ∧
    (∃ (t : Nat) (ch : Nat) (s : State), (ch < 320) ∧ whenSignalAcquired t ch (s.atTime t) = true) ∧
    (∃ (t : Nat) (ch : Nat) (s : State), (ch < 320) ∧ whenPullInLock t ch (s.atTime t) = true) ∧
    (∃ (t : Nat) (d : NavData) (s : State), whenNavDataDecoded t d (s.atTime t) = true) :=
  ⟨⟨rq 0 (pay 24 [(0, le 4 1), (4, le 4 1), (9, le 1 20), (12, le 1 10), (14, le 1 4), (16, le 1 1), (17, le 1 3), (18, le 1 5),
    (19, le 1 1)]), up .service, by decide +kernel⟩,
   ⟨rq 0 (pay 16 [(0, le 4 1)]), up .commission, by decide +kernel⟩,
   ⟨rq 0 (pay 4 [(2, le 2 1)]), up .service, by decide +kernel⟩,
   ⟨rq 0 (pay 48 []), up .service, by decide +kernel⟩,
   ⟨rq 0 (pay 8 [(0, le 4 1), (4, le 1 1)]), up .parked, by decide +kernel⟩,
   ⟨rq 0 (pay 0 []), up .service, by decide +kernel⟩,
   ⟨rq 0 (pay 0 []), up .service, by decide +kernel⟩,
   ⟨1000, 1, [], go .service, by decide +kernel⟩,
   ⟨1000, 0, 0, 0, 0, 1, 4,
     (go .service).modBase fun b => { b with starting := some { cls := 1, cause := 1, since := 0, begun := 0, raised := false, discarded := false, req := none, kind := 1 } },
     by decide +kernel⟩,
   ⟨1000, [], go .service, by decide +kernel⟩,
   ⟨1000, 2, tracking .track, by decide +kernel⟩,
   ⟨1000, [], go .service, by decide +kernel⟩,
   ⟨1000, 2, true, (tracking .track).modNavChan 2 fun c => { c with signal := 0x11 }, by decide +kernel⟩,
   ⟨1000, 0, 0, { jn := 0, bins := [], blankPm := 0, runs := 0 }, go .service, by decide +kernel⟩,
   ⟨1000, 0, 200, (go .service).modAntenna 0 fun a => { a with bias := 1 }, by decide +kernel⟩,
   ⟨1000, 0, 10, (go .service).modAntenna 0 fun a => { a with bias := 3 }, by decide +kernel⟩,
   ⟨1000, 0, 0, 20, go .service, by decide +kernel⟩,
   ⟨1000000000, [], tracking .track, by decide +kernel⟩,
   ⟨1000, 2, tracking .acq, by decide +kernel⟩,
   ⟨1000, 2, tracking .pullIn, by decide +kernel⟩,
   ⟨1000, (.utc 18), go .service, by decide +kernel⟩⟩

theorem witness_PositionCommandsRun :
    (∃ (t : Nat) (bytes : List Byte) (s : State), whenRtcmBytes t bytes (s.atTime t) = true) ∧
    (∃ (t : Nat) (x : SolutionIn) (fixedSats : Nat) (distM : Nat) (s : State),
      whenGnssSolution t x fixedSats distM (s.atTime t) = true) ∧
    (∃ (t : Nat) (x : SolutionIn) (s : State), whenFusedSolution t x (s.atTime t) = true) ∧
    (∃ (t : Nat) (s : State), whenFixLowTimeout t (s.atTime t) = true) ∧
    (∃ (t : Nat) (s : State), whenIsoGuidanceCommand t (s.atTime t) = true) ∧
    (∃ (t : Nat) (s : State), whenDeadReckoningStart t (s.atTime t) = true) ∧
    (∃ (t : Nat) (s : State), whenDrLimitExpiry t (s.atTime t) = true) ∧
    (∃ (r : Request) (s : State), Taken opSolutionConfig uFusion r s (checksSolutionConfig r)) ∧
    (∃ (r : Request) (s : State), Taken opSolutionRead uFusion r s (fun _ => [])) ∧
    (∃ (r : Request) (s : State), Taken opGuideLine uFusion r s (checksGuideLine r)) ∧
    (∃ (r : Request) (s : State), Taken opSteer uFusion r s (checksSteer r)) ∧
    (∃ (r : Request) (s : State), Taken opRtkStatus uRtk r s (fun _ => [])) ∧
    (∃ (t : Nat) (peerTime : Nat) (s : State), whenLinkTimeFlit t peerTime (s.atTime t) = true) ∧
    (∃ (t : Nat) (temp : Int) (s : State), whenHoldoverStart t temp (s.atTime t) = true) ∧
    (∃ (t : Nat) (temp : Int) (s : State), whenHoldoverLimit t temp (s.atTime t) = true) ∧
    (∃ (t : Nat) (offset : Int) (s : State), whenGnssTimeReturn t offset (s.atTime t) = true) ∧
    (∃ (t : Nat) (qerr : Int) (temp : Int) (s : State), whenTimingMessage t qerr temp (s.atTime t) = true) ∧
    (∃ (r : Request) (s : State), Taken opTimeConfig uTime r s (checksTimeConfig r)) ∧
    (∃ (r : Request) (s : State), Taken opTimeStatus uTime r s (fun _ => [])) ∧
    (∃ (t : Nat) (s : State), whenModuleTimeTick t (s.atTime t) = true) ∧
    (∃ (t : Nat) (s : State), whenTimePulse t (s.atTime t) = true) :=
  ⟨⟨1000, [], go .service, by decide +kernel⟩,
   ⟨1000000000,
     { lat := 0, lon := 0, height := 0, velN := 0, velE := 0, velU := 0, speed := 0, heading := 0, course := 0, pitch := 0, roll := 0, yawRate := 0, hAcc := 0, vAcc := 0, hdgAcc := 0, baseline := 0, fix := 4, sats := 10 },
     0, 0, go .service, by decide +kernel⟩,
   ⟨1000,
     { lat := 0, lon := 0, height := 0, velN := 0, velE := 0, velU := 0, speed := 0, heading := 0, course := 0, pitch := 0, roll := 0, yawRate := 0, hAcc := 0, vAcc := 0, hdgAcc := 0, baseline := 0, fix := 4, sats := 10 },
     (go .service).modFusion fun f => { f with running := true }, by decide +kernel⟩,
   ⟨500000000, (go .working).modFusion fun f => { f with engaged := true, fixLow := some 0 }, by decide +kernel⟩,
   ⟨1000,
     (go .working).modFusion fun f => { f with steer := some { fixMin := 0, isoMb := some 0, xteSlot := 1, curvSlot := 2, stateSlot := 3 } },
     by decide +kernel⟩,
   ⟨200000000, (go .working).modFusion fun f => { f with running := true, gnssAt := some 0 }, by decide +kernel⟩,
   ⟨60000000000, (go .working).modFusion fun f => { f with running := true, deadSince := some 0 }, by decide +kernel⟩,
   ⟨rq 0 (pay 32 [(0, le 4 1), (4, le 1 10), (6, le 1 1), (8, le 2 500)]), up .service, by decide +kernel⟩,
   ⟨rq 0 (pay 0 []), up .service, by decide +kernel⟩,
   ⟨rq 0 (pay 64 []), up .service, by decide +kernel⟩,
   ⟨rq 0 (pay 16 [(0, le 4 1), (6, le 1 255), (8, le 2 1), (10, le 2 2), (12, le 2 3)]), up .service, by decide +kernel⟩,
   ⟨rq 0 (pay 0 []), up .service, by decide +kernel⟩,
   ⟨1000, 2000, linked .up fun l => { l with timeFromPeer := true }, by decide +kernel⟩,
   ⟨1000000000, 250, (go .service).modTimekeeper fun k => { k with source := .gnss }, by decide +kernel⟩,
   ⟨10000000000, 250,
     (go .service).modTimekeeper fun k => { k with source := .holdover, valid := true, holdoverS := 10, holdSince := some 0 },
     by decide +kernel⟩,
   ⟨1000, 5, go .service, by decide +kernel⟩,
   ⟨500000000, 0, 250, go .service, by decide +kernel⟩,
   ⟨rq 0 (pay 24 [(0, le 4 1), (14, le 2 1), (16, le 2 1)]), up .service, by decide +kernel⟩,
   ⟨rq 0 (pay 0 []), up .service, by decide +kernel⟩,
   ⟨1000000, go .service, by decide +kernel⟩,
   ⟨1000000000, go .service, by decide +kernel⟩⟩

theorem witness_CameraCommandsRun :
    (∃ (r : Request) (s : State), Taken opCameraPortConfig (camUnit r) r s (checksCameraPortConfig r)) ∧
    (∃ (r : Request) (s : State), Taken opCameraEnable (camUnit r) r s (checksCameraEnable r)) ∧
    (∃ (r : Request) (s : State), Taken opFsyncSet (camUnit r) r s (checksFsyncSet r)) ∧
    (∃ (r : Request) (s : State), Taken opCtrlXfer (camUnit r) r s (checksCtrlXfer r)) ∧
    (∃ (r : Request) (s : State), Taken opCameraPortStatus (camUnit r) r s (checksCameraPortStatus r)) ∧
    (∃ (t : Nat) (port : Nat) (s : State), (port < 12) ∧ whenCameraLinkLock t port (s.atTime t) = true) ∧
    (∃ (t : Nat) (port : Nat) (s : State), (port < 12) ∧ whenCameraLinkLoss t port (s.atTime t) = true) ∧
    (∃ (t : Nat) (port : Nat) (milliamps : Nat) (s : State), (port < 12) ∧
      whenPocOvercurrent t port milliamps (s.atTime t) = true) ∧
    (∃ (t : Nat) (s : State), whenBridgeSupplyFault t (s.atTime t) = true) ∧
    (∃ (t : Nat) (s : State), whenBridgeResetRelease t (s.atTime t) = true) ∧
    (∃ (t : Nat) (port : Nat) (s : State), (port < 16) ∧ whenFsyncPulse t port (s.atTime t) = true) ∧
    (∃ (t : Nat) (port : Nat) (p : CsiPacket) (s : State), (port < 16) ∧ whenCsiPacket t port p (s.atTime t) = true) ∧
    (∃ (t : Nat) (port : Nat) (s : State), (port < 16) ∧ whenFrameTimeout t port (s.atTime t) = true) ∧
    (∃ (t : Nat) (port : Nat) (s : State), (port < 16) ∧ whenNoFramesTimeout t port (s.atTime t) = true) ∧
    (∃ (t : Nat) (port : Nat) (s : State), (port < 16) ∧ whenFrameEnd t port (s.atTime t) = true) ∧
    (∃ (t : Nat) (pipe : Nat) (s : State), (pipe < 2) ∧ whenPipelineLine t pipe (s.atTime t) = true) ∧
    (∃ (t : Nat) (port : Nat) (s : State), (port < 16) ∧ whenPipelineFrameOutput t port (s.atTime t) = true) ∧
    (∃ (r : Request) (s : State), Taken opStageSet (s.pipeUnit r) r s (checksStageSet r)) ∧
    (∃ (r : Request) (s : State), Taken opOutputSet (s.pipeUnit r) r s (checksOutputSet r)) ∧
    (∃ (r : Request) (s : State), Taken opOutputStatus (s.pipeUnit r) r s (checksOutputStatus r)) ∧
    (∃ (r : Request) (s : State), Taken opPipeStatus (supervisorOf islVis) r s (checksPipeStatus r)) :=
  ⟨⟨rq 0 (pay 36 [(4, le 1 42), (6, le 1 1), (10, le 2 64), (12, le 2 16), (16, le 4 1000), (24, le 2 10), (26, le 2 100)]),
    up .service, by decide +kernel⟩,
   ⟨rq 0 (pay 4 []), up .service, by decide +kernel⟩,
   ⟨rq 0 (pay 16 [(4, le 4 1000), (12, le 2 1)]), up .service, by decide +kernel⟩,
   ⟨rq 0 (pay 8 [(1, le 1 16)]), (up .service).modCam 0 fun c => { c with state := .streaming, cfg := pay 36 [(6, [1])] },
     by decide +kernel⟩,
   ⟨rq 0 (pay 4 []), up .service, by decide +kernel⟩,
   ⟨1000, 1, cam1 fun c => { c with state := .powering }, by decide +kernel⟩,
   ⟨1000, 1, cam1 fun c => { c with state := .streaming }, by decide +kernel⟩,
   ⟨1000, 1, 700, cam1 fun c => { c with state := .linked, cfg := pay 36 [(15, [1])] }, by decide +kernel⟩,
   ⟨1000, (go .service).modVision fun v => { v with bridgeOn := some 0 }, by decide +kernel⟩,
   ⟨10000000, (go .service).modVision fun v => { v with bridgeOn := some 0 }, by decide +kernel⟩,
   ⟨1000, 1, cam1 fun c => { c with state := .linked }, by decide +kernel⟩,
   ⟨1000, 1, { vc := 0, dataType := 0, header := .good, sumOk := true, payload := [] },
     cam1 fun c => { c with state := .linked }, by decide +kernel⟩,
   ⟨1000, 1, cam1 fun c => { c with frames := [camFrame] }, by decide +kernel⟩,
   ⟨1000, 1, cam1 fun c => { c with state := .linked, enabling := [someone], lockedAt := some 0 }, by decide +kernel⟩,
   ⟨1000, 1, cam1 fun c => { c with frames := [{ camFrame with feTime := some 0 }] }, by decide +kernel⟩,
   ⟨1000, 0, cam1 fun c => { c with cfg := pay 36 [(0, [1])], frames := [{ camFrame with stored := [[0]] }] },
     by decide +kernel⟩,
   ⟨1000, 1, cam1 fun c => { c with frames := [{ camFrame with feTime := some 0 }] }, by decide +kernel⟩,
   ⟨rq 0 (pay 8 [(1, [3]), (4, le 2 1)]), up .service, by decide +kernel⟩,
   ⟨rq 0 (pay 24 []), up .service, by decide +kernel⟩,
   ⟨rq 0 (pay 4 []), up .service, by decide +kernel⟩,
   ⟨rq 0 (pay 4 []), up .service, by decide +kernel⟩⟩

theorem witness_InferenceCommandsRun :
    (∃ (r : Request) (s : State), Taken opModelLoad (uCluster 0) r s (checksModelLoad r)) ∧
    (∃ (r : Request) (s : State), Taken opModelUnload (uCluster 0) r s (checksModelUnload r)) ∧
    (∃ (r : Request) (s : State), Taken opJobDefine (homeCluster (min 63 (r.u 0 1))) r s (checksJobDefine r)) ∧
    (∃ (r : Request) (s : State), Taken opJobClear (homeCluster (min 63 (r.u 0 1))) r s (checksJobClear r)) ∧
    (∃ (r : Request) (s : State), Taken opJobStart (homeCluster (min 63 (r.u 0 1))) r s (checksJobStart r)) ∧
    (∃ (r : Request) (s : State), Taken opJobStop (homeCluster (min 63 (r.u 0 1))) r s (checksJobStop r)) ∧
    (∃ (r : Request) (s : State), Taken opPoolDone (homeCluster (min 63 (r.u 0 1))) r s (checksPoolDone r)) ∧
    (∃ (r : Request) (s : State), Taken opJobStatus (homeCluster (min 63 (r.u 0 1))) r s (checksJobStatus r)) ∧
    (∃ (t : Nat) (job : Nat) (seq : Nat) (m : Msg) (s : State), (job < 64) ∧
      whenInferenceInput t job seq m (s.atTime t) = true) ∧
    (∃ (t : Nat) (job : Nat) (s : State), (job < 64) ∧ whenInputPlacement t job (s.atTime t) = true) ∧
    (∃ (t : Nat) (s : State), whenRunStart t (s.atTime t) = true) ∧
    (∃ (t : Nat) (job : Nat) (s : State), (job < 64) ∧ whenLayerPreempt t job (s.atTime t) = true) ∧
    (∃ (t : Nat) (job : Nat) (body : List Byte) (s : State), (job < 64) ∧ whenRunEnd t job body (s.atTime t) = true) ∧
    (∃ (t : Nat) (job : Nat) (item : Nat) (s : State), (job < 64) ∧ whenPoolTimeout t job item (s.atTime t) = true) :=
  ⟨⟨rq 0 (pay 8 [(0, le 8 5)]), modelled (up .service), by decide +kernel⟩,
   ⟨rq 0 (pay 8 [(0, le 8 5)]), modelled (up .service), by decide +kernel⟩,
   ⟨rq 0 (jobDesc), modelled (up .service), by decide +kernel⟩,
   ⟨rq 0 (pay 4 []), up .service, by decide +kernel⟩,
   ⟨rq 0 (pay 4 [(0, le 1 3)]), jobbed (up .service), by decide +kernel⟩,
   ⟨rq 0 (pay 4 [(0, le 1 3)]), jobbed (up .service), by decide +kernel⟩,
   ⟨rq 0 (pay 16 [(0, le 1 3), (4, le 4 55)]),
     ((jobbed (up .service)).modInfer fun i => { i with poolCh := some 0 }).modJob 3 fun x => { x with inputs := [{ slot := 0, seq := 1, msg := { time := 0, marks := 0, body := [] }, deadline := 0, phase := .pool 55 0, late := false }] },
     by decide +kernel⟩,
   ⟨rq 0 (pay 4 []), up .service, by decide +kernel⟩,
   ⟨1000, 3, 2, msg, jobRuns .ready, by decide +kernel⟩,
   ⟨1000, 3, jobRuns .ready, by decide +kernel⟩,
   ⟨1000, jobRuns .placed, by decide +kernel⟩,
   ⟨1000, 3, ((jobRuns (.running [0, 1, 2,
     3] 0)).modJob 4 fun x => { x with running := true, desc := patch (patch jobDesc 0 [4, 7]) 0 [4, 7], inputs := [{ slot := 0, seq := 1, msg := msg, deadline := 0, phase := .placed, late := false }] }),
     by decide +kernel⟩,
   ⟨1000, 3, [], jobRuns (.running [0] 0), by decide +kernel⟩,
   ⟨1000000000, 3, 55, jobRuns (.pool 55 0), by decide +kernel⟩⟩

theorem witness_BusCommandsRun :
    (∃ (r : Request) (s : State), Taken opBusConfig (busUnit r) r s (checksBusConfig r)) ∧
    (∃ (r : Request) (s : State), Taken opBusControl (busUnit r) r s (checksBusControl r)) ∧
    (∃ (r : Request) (s : State), Taken opFilterSet (busUnit r) r s (checksFilterSet r)) ∧
    (∃ (r : Request) (s : State), Taken opCompatSet (busUnit r) r s (checksCompatSet r)) ∧
    (∃ (r : Request) (s : State), Taken opQueueConfig (busUnit r) r s (checksQueueConfig r)) ∧
    (∃ (r : Request) (s : State), Taken opRxRead (busUnit r) r s (checksRxRead r)) ∧
    (∃ (r : Request) (s : State), Taken opTxWrite (busUnit r) r s (checksTxWrite r)) ∧
    (∃ (r : Request) (s : State), Taken opTxAbort (busUnit r) r s (checksTxAbort r)) ∧
    (∃ (r : Request) (s : State), Taken opBusStatus (busUnit r) r s (checksBusStatus r)) ∧
    (∃ (r : Request) (s : State), Taken opCfClaim (busUnit r) r s (checksCfClaim r)) ∧
    (∃ (r : Request) (s : State), Taken opPgnSend (busUnit r) r s (checksPgnSend r)) ∧
    (∃ (t : Nat) (mb : Nat) (f : CanFrame) (s : State), (mb < 12) ∧ whenCanFrameRx t mb f (s.atTime t) = true) ∧
    (∃ (t : Nat) (mb : Nat) (obj : Nat) (s : State), (mb < 12 && obj < 64) = true ∧
      whenTxNotBefore t mb obj (s.atTime t) = true) ∧
    (∃ (t : Nat) (mb : Nat) (sof : Nat) (e : AttemptEnd) (s : State), (mb < 12) ∧
      whenTxAttemptEnd t mb sof e (s.atTime t) = true) ∧
    (∃ (t : Nat) (mb : Nat) (transmit : Bool) (lec : Nat) (inc : Nat) (s : State), (mb < 12) ∧
      whenBusError t mb transmit lec inc (s.atTime t) = true) ∧
    (∃ (t : Nat) (mb : Nat) (s : State), (mb < 12) ∧ whenBusOffDelayExpiry t mb (s.atTime t) = true) ∧
    (∃ (t : Nat) (mb : Nat) (s : State), (mb < 12) ∧ whenRecoveryComplete t mb (s.atTime t) = true) ∧
    (∃ (t : Nat) (mb : Nat) (queue : Nat) (s : State), (mb < 12 && queue < 4) = true ∧
      whenQueueBatchTimeout t mb queue (s.atTime t) = true) ∧
    (∃ (t : Nat) (mb : Nat) (cf : Nat) (s : State), (mb < 12 && cf < 4) = true ∧
      whenAddressClaimTimer t mb cf (s.atTime t) = true) ∧
    (∃ (t : Nat) (mb : Nat) (f : CanFrame) (s : State), (mb < 12) ∧ whenTransportPacketRx t mb f (s.atTime t) = true) ∧
    (∃ (t : Nat) (mb : Nat) (session : Nat) (s : State), (mb < 12) ∧ whenTransportTimeout t mb session (s.atTime t) = true) ∧
    (∃ (t : Nat) (mb : Nat) (session : Nat) (s : State), (mb < 12) ∧ whenBamPacketTimer t mb session (s.atTime t) = true) ∧
    (∃ (t : Nat) (mb : Nat) (s : State), (mb < 12) ∧ whenBusIntegrated t mb (s.atTime t) = true) :=
  ⟨⟨rq 0 (pay 28 [(4, le 2 1), (6, le 2 60), (8, le 1 20), (9, le 1 4)]), up .service, by decide +kernel⟩,
   ⟨rq 0 (pay 4 []), up .service, by decide +kernel⟩,
   ⟨rq 0 (pay 8 []), up .service, by decide +kernel⟩,
   ⟨rq 0 (pay 4 []), up .service, by decide +kernel⟩,
   ⟨rq 0 (pay 12 [(4, le 2 16), (10, le 1 1)]), up .service, by decide +kernel⟩,
   ⟨rq 0 (pay 4 [(2, le 2 1)]), up .service, by decide +kernel⟩,
   ⟨rq 0 (pay 32 []), (up .service).modBus 0 fun b => { b with state := .errorActive, cfg := List.replicate 28 0 },
     by decide +kernel⟩,
   ⟨rq 0 (pay 4 []), up .service, by decide +kernel⟩,
   ⟨rq 0 (pay 4 []), up .service, by decide +kernel⟩,
   ⟨rq 0 (pay 20 []), up .service, by decide +kernel⟩,
   ⟨rq 0 (pay 32 []), up .service, by decide +kernel⟩,
   ⟨1000, 0, canFrame, bus0 fun b => { b with state := .errorActive }, by decide +kernel⟩,
   ⟨1000, 0, 3,
     bus0 fun b => { b with state := .errorActive, objects := b.objects.put 3 { TxObject.reset with content := some txContent } },
     by decide +kernel⟩,
   ⟨1000, 0, 500, .success,
     bus0 fun b => { b with state := .errorActive, attempt := some 3, objects := b.objects.put 3 { TxObject.reset with content := some txContent, pending := true } },
     by decide +kernel⟩,
   ⟨1000, 0, false, 1, 1, bus0 fun b => { b with state := .errorActive }, by decide +kernel⟩,
   ⟨1000, 0, bus0 fun b => { b with state := .busOff, cfg := patch (List.replicate 28 0) 2 [8], busOffAt := [0] },
     by decide +kernel⟩,
   ⟨1000, 0, bus0 fun b => { b with state := .recovering }, by decide +kernel⟩,
   ⟨1000, 0, 0,
     (streamed (bus0 fun b => { b with queues := b.queues.put 0 { RxQueue.reset with stream := true, firstAt := some 0 } })).modStream 4 fun x => { x with producer := portOf (uMb 0) 1 },
     by decide +kernel⟩,
   ⟨1000, 0, 1, bus0 fun b => { b with cfs := b.cfs.put 1 { ControlFunction.reset with state := .claiming, due := some 0 } },
     by decide +kernel⟩,
   ⟨1000, 0, canFrame, bus0 fun b => { b with state := .errorActive }, by decide +kernel⟩,
   ⟨2000000000, 0, 1, bus0 fun b => { b with outgoing := [txSession .rtsCts] }, by decide +kernel⟩,
   ⟨50000000, 0, 1, bus0 fun b => { b with outgoing := [txSession .bam] }, by decide +kernel⟩,
   ⟨1000, 0, bus0 fun b => { b with state := .integrating }, by decide +kernel⟩⟩

theorem witness_NetCommandsRun :
    (∃ (r : Request) (s : State), Taken opEthPortConfig uSwitch r s (checksEthPortConfig r)) ∧
    (∃ (r : Request) (s : State), Taken opEthPortStatus uSwitch r s (checksEthPortStatus r)) ∧
    (∃ (r : Request) (s : State), Taken opGateSet uSwitch r s (checksGateSet r)) ∧
    (∃ (r : Request) (s : State), Taken opSyncConfig uSwitch r s (checksSyncConfig r)) ∧
    (∃ (r : Request) (s : State), Taken opIpConfig uSwitch r s (checksIpConfig r)) ∧
    (∃ (r : Request) (s : State), Taken opNodeSet uSwitch r s (checksNodeSet r)) ∧
    (∃ (t : Nat) (port : Nat) (f : EthFrame) (s : State), (port < 8) ∧ whenEthFrameRx t port f (s.atTime t) = true) ∧
    (∃ (t : Nat) (port : Nat) (up : Bool) (speed : Nat) (sqi : Nat) (s : State), (port < 7) ∧
      whenEthLinkChange t port up speed sqi (s.atTime t) = true) ∧
    (∃ (t : Nat) (s : State), whenGptpSyncTx t (s.atTime t) = true) ∧
    (∃ (t : Nat) (s : State), whenGptpAnnounceTx t (s.atTime t) = true) ∧
    (∃ (t : Nat) (s : State), whenPdelayTx t (s.atTime t) = true) ∧
    (∃ (t : Nat) (port : Nat) (s : State), (port < 5) ∧ whenGateEntryStart t port (s.atTime t) = true) ∧
    (∃ (t : Nat) (port : Nat) (s : State), (port < 5) ∧ whenGateListAdopt t port (s.atTime t) = true) ∧
    (∃ (r : Request) (s : State), Taken opFleetConfig uFleet r s (checksFleetConfig r)) ∧
    (∃ (r : Request) (s : State), Taken opFleetStatus uFleet r s (fun _ => [])) ∧
    (∃ (r : Request) (s : State), Taken opMapMerge uFleet r s (checksMapMerge r)) ∧
    (∃ (t : Nat) (s : State), whenMergeJobEnd t (s.atTime t) = true) ∧
    (∃ (t : Nat) (s : State), whenFleetExchange t (s.atTime t) = true) ∧
    (∃ (t : Nat) (port : Nat) (bytes : List Byte) (s : State), (port < 8) ∧
      whenFleetDatagramRx t port bytes (s.atTime t) = true) ∧
    (∃ (t : Nat) (beacon : Bool) (s : State), whenPlcaFallback t beacon (s.atTime t) = true) :=
  ⟨⟨rq 0 (pay 16 [(2, le 2 1)]), up .service, by decide +kernel⟩,
   ⟨rq 0 (pay 4 []), up .service, by decide +kernel⟩,
   ⟨rq 0 (pay 12 []), up .service, by decide +kernel⟩,
   ⟨rq 0 (pay 8 []), up .service, by decide +kernel⟩,
   ⟨rq 0 (pay 16 [(4, le 1 24)]), up .service, by decide +kernel⟩,
   ⟨rq 0 (pay 8 [(0, le 2 1), (2, le 1 1)]), up .service, by decide +kernel⟩,
   ⟨1000, 1, { dst := 1, src := 2, tag := none, etherType := 0x88B5, payload := [], length := 64, fcsOk := true },
     (go .service).modEthPort 1 fun p => { p with link := 2 }, by decide +kernel⟩,
   ⟨1000, 1, true, 1000, 7, (go .service).modEthPort 1 fun p => { p with cfg := pay 16 [(0, [1, 1])], link := 1 },
     by decide +kernel⟩,
   ⟨1000, go .service, by decide +kernel⟩,
   ⟨1000, go .service, by decide +kernel⟩,
   ⟨1000, go .service, by decide +kernel⟩,
   ⟨1000, 1, (go .service).modEthPort 1 fun p => { p with gates := some { base := 0, entries := [(255, 1000)] } },
     by decide +kernel⟩,
   ⟨1000, 1,
     (go .service).modEthPort 1 fun p => { p with pending := some { req := someone, list := none, ready := 0, adopt := 0 } },
     by decide +kernel⟩,
   ⟨rq 0 (pay 40 [(4, le 4 1), (10, le 2 5000), (16, le 2 5000), (18, le 2 100), (20, le 8 12)]), covered (up .service),
     by decide +kernel⟩,
   ⟨rq 0 (pay 0 []), up .service, by decide +kernel⟩,
   ⟨rq 0 (pay 24 [(0, le 8 12), (8, le 8 13), (16, le 4 1000)]), covered (up .service), by decide +kernel⟩,
   ⟨1000,
     (covered (go .service)).modFleet fun f => { f with merges := [{ req := someone, source := 12, target := 13, markFleet := false, late := false, pool := false, ops := 1, accNs := 0, start := 0, deadline := 1000 }] },
     by decide +kernel⟩,
   ⟨1000, (go .service).modFleet fun f => { f with cfg := patch f.cfg 0 [1] }, by decide +kernel⟩,
   ⟨1000, 1, [], ((go .service).modEthPort 1 fun p => { p with link := 2 }).modEthPort 8 fun p => { p with link := 2 },
     by decide +kernel⟩,
   ⟨1000, true, (go .service).modEthPort 5 fun p => { p with cfg := pay 16 [(0, [5, 0x41]), (6, [1])] }, by decide +kernel⟩⟩

theorem witness_FieldCommandsRun :
    (∃ (t : Nat) (mv : Nat) (s : State), whenFsupLow t mv (s.atTime t) = true) ∧
    (∃ (t : Nat) (mv : Nat) (s : State), whenFsupLost t mv (s.atTime t) = true) ∧
    (∃ (t : Nat) (mv : Nat) (s : State), whenFsupRestored t mv (s.atTime t) = true) ∧
    (∃ (t : Nat) (fi : Nat) (level : Bool) (stamp : Nat) (s : State), (fi < 32) ∧
      whenFiLevelAccept t fi level stamp (s.atTime t) = true) ∧
    (∃ (t : Nat) (s : State), whenFiChangeMessage t (s.atTime t) = true) ∧
    (∃ (t : Nat) (fi : Nat) (currentUa : Nat) (s : State), (fi < 32) ∧ whenWireBreakDetect t fi currentUa (s.atTime t) = true) ∧
    (∃ (t : Nat) (fi : Nat) (currentUa : Nat) (s : State), (fi < 32) ∧ whenWireBreakClear t fi currentUa (s.atTime t) = true) ∧
    (∃ (t : Nat) (fo : Nat) (currentMa : Nat) (s : State), (fo < 16) ∧ whenFoShort t fo currentMa (s.atTime t) = true) ∧
    (∃ (t : Nat) (fo : Nat) (junction : Int) (currentMa : Nat) (s : State), (fo < 16) ∧
      whenFoOvertemp t fo junction currentMa (s.atTime t) = true) ∧
    (∃ (t : Nat) (fo : Nat) (currentMa : Nat) (s : State), (fo < 16) ∧ whenFoOpenLoad t fo currentMa (s.atTime t) = true) ∧
    (∃ (t : Nat) (si : Nat) (raw : Int) (supplyMv : Nat) (s : State), (si < 16) ∧
      whenSiConversion t si raw supplyMv (s.atTime t) = true) ∧
    (∃ (t : Nat) (si : Nat) (s : State), (si < 16) ∧ whenShuntReenable t si (s.atTime t) = true) ∧
    (∃ (t : Nat) (si : Nat) (s : State), (si < 16) ∧ whenAcousticHit t si (s.atTime t) = true) ∧
    (∃ (t : Nat) (sup : Nat) (milliamps : Nat) (s : State), (sup < 4) ∧ whenSup5Fault t sup milliamps (s.atTime t) = true) ∧
    (∃ (t : Nat) (sup : Nat) (mv : Nat) (milliamps : Nat) (s : State), (sup < 4) ∧
      whenSup5Retry t sup mv milliamps (s.atTime t) = true) ∧
    (∃ (r : Request) (s : State), Taken opFiConfig uFi r s (checksFiConfig r)) ∧
    (∃ (r : Request) (s : State), Taken opFoConfig uFo r s (checksFoConfig r)) ∧
    (∃ (r : Request) (s : State), Taken opSiConfig uSensor r s (checksSiConfig r)) ∧
    (∃ (r : Request) (s : State), Taken opFoSet uFo r s (checksFoSet r) ∧
      entryRefusal (entriesFoSet r (s.atTime r.time)) = none) ∧
    (∃ (r : Request) (s : State), Taken opFoClear uFo r s (checksFoClear r)) ∧
    (∃ (r : Request) (s : State), Taken opFieldStatus (supervisorOf islFld) r s (fun _ => [])) ∧
    (∃ (r : Request) (s : State), Taken opSiStatus uSensor r s (fun _ => [])) :=
  ⟨⟨1000, 19000, go .service, by decide +kernel⟩,
   ⟨1000, 14000, go .service, by decide +kernel⟩,
   ⟨1000, 24000, (go .service).modField fun f => { f with low := true }, by decide +kernel⟩,
   ⟨10000000, 3, true, 900, go .service, by decide +kernel⟩,
   ⟨1000000, (go .service).modField fun f => { f with changes := [[]] }, by decide +kernel⟩,
   ⟨1000, 3, 100, (go .service).modFi 3 fun x => { x with breakOn := true }, by decide +kernel⟩,
   ⟨1000, 3, 400, (go .service).modFi 3 fun x => { x with broken := true }, by decide +kernel⟩,
   ⟨1000, 3, 1300, (go .service).modFo 3 fun x => { x with on := true }, by decide +kernel⟩,
   ⟨1000, 3, 1600, 100, go .service, by decide +kernel⟩,
   ⟨1000, 3, 1, (go .service).modFo 3 fun x => { x with on := true, openDiag := true }, by decide +kernel⟩,
   ⟨1000, 3, 100, 5000, (go .service).modSi 3 fun x => { x with mode := 1 }, by decide +kernel⟩,
   ⟨1000000000, 3, (go .service).modSi 3 fun x => { x with shuntOut := some 0 }, by decide +kernel⟩,
   ⟨1000, 3, (go .service).modSi 3 fun x => { x with mode := 5 }, by decide +kernel⟩,
   ⟨1000, 1, 200, go .service, by decide +kernel⟩,
   ⟨1000000000, 1, 5000, 10, (go .service).modSup5 1 fun x => { x with fault := some 0 }, by decide +kernel⟩,
   ⟨rq 0 (pay 8 [(1, le 1 1), (4, le 2 50)]), up .service, by decide +kernel⟩,
   ⟨rq 0 (pay 4 []), up .service, by decide +kernel⟩,
   ⟨rq 0 (pay 16 [(1, le 1 0), (3, le 1 255), (5, le 1 1), (6, le 2 500), (8, le 2 5), (10, le 2 50)]), up .service,
     by decide +kernel⟩,
   ⟨rq 0 (pay 12 [(0, le 4 1), (4, le 1 1), (8, le 1 2), (9, le 1 1)]), up .service, by decide +kernel⟩,
   ⟨rq 0 (pay 4 []), up .service, by decide +kernel⟩,
   ⟨rq 0 (pay 0 []), up .service, by decide +kernel⟩,
   ⟨rq 0 (pay 0 []), up .service, by decide +kernel⟩⟩

theorem witness_DisplayCommandsRun :
    (∃ (r : Request) (s : State), Taken opDisplayConfig uDisplay r s (checksDisplayConfig r)) ∧
    (∃ (r : Request) (s : State), Taken opWaveformLoad uDisplay r s (checksWaveformLoad r)) ∧
    (∃ (r : Request) (s : State), Taken opDisplayUpdate uDisplay r s (checksDisplayUpdate r)) ∧
    (∃ (r : Request) (s : State), Taken opFrontLight uDisplayPower r s (checksFrontLight r)) ∧
    (∃ (r : Request) (s : State), Taken opDisplayStatus uDisplay r s (fun _ => [])) ∧
    (∃ (t : Nat) (fitted : Bool) (lidSel : Bool) (identity : List Byte) (s : State),
      whenPanelDetectChange t fitted lidSel identity (s.atTime t) = true) ∧
    (∃ (t : Nat) (s : State), whenRailPowerUp t (s.atTime t) = true) ∧
    (∃ (t : Nat) (rail : Nat) (s : State), whenRailFault t rail (s.atTime t) = true) ∧
    (∃ (t : Nat) (s : State), whenRailRetry t (s.atTime t) = true) ∧
    (∃ (t : Nat) (s : State), whenDischargeSequence t (s.atTime t) = true) ∧
    (∃ (t : Nat) (s : State), whenDisplayIdleTimeout t (s.atTime t) = true) ∧
    (∃ (t : Nat) (s : State), whenPanelTempTimeout t (s.atTime t) = true) ∧
    (∃ (t : Nat) (temp : Int) (s : State), whenUpdateStart t temp (s.atTime t) = true) ∧
    (∃ (t : Nat) (s : State), whenDisplayFrameEnd t (s.atTime t) = true) ∧
    (∃ (t : Nat) (temp : Int) (s : State), whenRestoration t temp (s.atTime t) = true) ∧
    (∃ (t : Nat) (s : State), whenFrontLightFault t (s.atTime t) = true) :=
  ⟨⟨rq 0 (pay 24 [(12, le 8 7)]), displayed (up .service), by decide +kernel⟩,
   ⟨rq 0 (pay 8 [(0, le 8 8)]), displayed (up .service), by decide +kernel⟩,
   ⟨rq 0 (pay 40 [(0, le 1 1), (8, le 2 8), (10, le 2 1), (16, le 8 7), (32, le 4 8)]), displayed (up .service),
     by decide +kernel⟩,
   ⟨rq 0 (pay 4 [(0, le 2 100)]), displayed (up .service), by decide +kernel⟩,
   ⟨rq 0 (pay 0 []), up .service, by decide +kernel⟩,
   ⟨1000, true, false, [], go .service, by decide +kernel⟩,
   ⟨1000, (displayed (go .service)).modDisplay fun d => { d with queued := [waiting] }, by decide +kernel⟩,
   ⟨1000, 1, (displayed (go .service)).modDisplay fun d => { d with state := .powering, rails := 2 }, by decide +kernel⟩,
   ⟨1000000000, (displayed (go .service)).modDisplay fun d => { d with queued := [waiting], railFault := some 0 },
     by decide +kernel⟩,
   ⟨1000, (displayed (go .service)).modDisplay fun d => { d with state := .discharging }, by decide +kernel⟩,
   ⟨1000000, shown fun d => { d with lastFrame := some 0, idleMs := 1 }, by decide +kernel⟩,
   ⟨1000, shown id, by decide +kernel⟩,
   ⟨1000, 250, shown fun d => { d with queued := [waiting] }, by decide +kernel⟩,
   ⟨1000000000, shown fun d => { d with active := [waiting] }, by decide +kernel⟩,
   ⟨1000, 250, (shown id).modLedger fun l => { l with records := [rec5 .display .open] }, by decide +kernel⟩,
   ⟨1000, shown fun d => { d with flOn := true }, by decide +kernel⟩⟩

theorem witness_SafetyCommandsRun :
    (∃ (t : Nat) (c : SafCycle) (s : State), whenSafetyLogicCycle t c (s.atTime t) = true) ∧
    (∃ (t : Nat) (x : SafSample) (s : State), whenSafeInSample t x (s.atTime t) = true) ∧
    (∃ (t : Nat) (input : Nat) (s : State), (input < 8) ∧ whenSafeInAccept t input (s.atTime t) = true) ∧
    (∃ (t : Nat) (mismatch : Option Nat) (s : State), whenInputPathTest t mismatch (s.atTime t) = true) ∧
    (∃ (t : Nat) (highNs : Nat) (s : State), whenSafeRstEdge t highNs (s.atTime t) = true) ∧
    (∃ (t : Nat) (s : State), whenSafeRstStuck t (s.atTime t) = true) ∧
    (∃ (t : Nat) (out : Nat) (s : State), (out < 4) ∧ whenSafeTestPulse t out (s.atTime t) = true) ∧
    (∃ (t : Nat) (out : Nat) (readbackMv : Nat) (s : State), (out < 4) ∧
      whenSafeTestPulseEnd t out readbackMv (s.atTime t) = true) ∧
    (∃ (t : Nat) (out : Nat) (s : State), (out < 4) ∧ whenSafeOutOvercurrent t out (s.atTime t) = true) ∧
    (∃ (t : Nat) (out : Nat) (below : Bool) (s : State), (out < 4) ∧ whenSafeOpenLoad t out below (s.atTime t) = true) ∧
    (∃ (t : Nat) (fn : Nat) (s : State), (fn < 8) ∧ whenStopDelayExpiry t fn (s.atTime t) = true) ∧
    (∃ (t : Nat) (pass : Bool) (s : State), whenSafeTest pass (s.atTime t) = true) ∧
    (∃ (t : Nat) (pass : Bool) (s : State), whenSafeTest pass (s.atTime t) = true) ∧
    (∃ (t : Nat) (pass : Bool) (s : State), whenSafeTest pass (s.atTime t) = true) ∧
    (∃ (t : Nat) (fault : Nat) (s : State), (fault ≤ 8) ∧ whenSafSelftest t fault (s.atTime t) = true) ∧
    (∃ (r : Request) (s : State), Taken opSafetyStatus uSafety r s (fun _ => [])) ∧
    (∃ (r : Request) (s : State), Taken opConfigRead uSafety r s (checksConfigRead r)) ∧
    (∃ (r : Request) (s : State), Taken opConfigStage uSafety r s (checksConfigStage r)) ∧
    (∃ (r : Request) (s : State), Taken opLogRead uSafety r s (checksLogRead r)) ∧
    (∃ (r : Request) (s : State), Taken opOffRequest uSafety r s (checksOffRequest r)) ∧
    (∃ (t : Nat) (s : State), whenRstStuckClear t (s.atTime t) = true) :=
  ⟨⟨1000, { readback := [], supplyMv := 12000, lockstep := true, flow := true }, safe id, by decide +kernel⟩,
   ⟨1000, { a := [], b := [], supplyMv := 12000, gndMv := 0, railsOk := true }, safe id, by decide +kernel⟩,
   ⟨1000000000, 0, safe id, by decide +kernel⟩,
   ⟨1000, none, safe id, by decide +kernel⟩,
   ⟨1000, 100, safe id, by decide +kernel⟩,
   ⟨1000, safe id, by decide +kernel⟩,
   ⟨2000000, 1, safe fun o => { o with pulseDue := some 0 }, by decide +kernel⟩,
   ⟨1000, 1, 100, safe fun o => { o with pulse := some 0 }, by decide +kernel⟩,
   ⟨1000, 1, safe id, by decide +kernel⟩,
   ⟨1000, 1, true, (safe id).modSafety fun x => { x with active := patch x.active 36 [3] }, by decide +kernel⟩,
   ⟨1000, 2,
     (safe id).modSafety fun x => { x with fns := x.fns.put 2 { SafeFn.reset with state := .stopping, stopDue := some 0 } },
     by decide +kernel⟩,
   ⟨1000, false, safe id, by decide +kernel⟩,
   ⟨1000, false, safe id, by decide +kernel⟩,
   ⟨1000, false, safe id, by decide +kernel⟩,
   ⟨1000, 0, (go .service).modSafety fun x => { x with state := .selftest }, by decide +kernel⟩,
   ⟨rq 0 (pay 0 []), up .service, by decide +kernel⟩,
   ⟨rq 0 (pay 4 []), up .service, by decide +kernel⟩,
   ⟨rq 0 (pay 264 [(0, le 4 1)]), (up .commission).modMode fun m => { m with session := some 0 }, by decide +kernel⟩,
   ⟨rq 0 (pay 8 [(4, le 2 1)]),
     (up .service).modSafety fun x => { x with log := [{ seq := 0, kind := 1, time := 0, epoch := 0, subject := [], operator_ := [], hash := [] }] },
     by decide +kernel⟩,
   ⟨rq 0 (pay 4 []), up .service, by decide +kernel⟩,
   ⟨1000000000, (safe id).modSafety fun x => { x with rstStuck := true, rstLow := some 0 }, by decide +kernel⟩⟩

theorem witness_UpdateCommandsRun :
    (∃ (r : Request) (s : State), Taken opImageInstall uSecurity r s (checksImageInstall r) ∧
      (s.atTime r.time).answeredReady islSup = false) ∧
    (∃ (t : Nat) (container : List Byte) (s : State), whenInstallDataComplete t container (s.atTime t) = true) ∧
    (∃ (t : Nat) (s : State), whenInstallTimeout t (s.atTime t) = true) ∧
    (∃ (r : Request) (s : State), Taken opImageConfirm uSecurity r s (checksImageConfirm r)) ∧
    (∃ (r : Request) (s : State), Taken opImageStatus uSecurity r s (checksImageStatus r)) ∧
    (∃ (r : Request) (s : State), Taken opPolicySet uSecurity r s (checksPolicySet r)) ∧
    (∃ (r : Request) (s : State), Taken opRecoveryEnter uSecurity r s (checksRecoveryEnter r) ∧
      (s.atTime r.time).answeredReady islSup = false) ∧
    (∃ (r : Request) (s : State), Taken opRecoveryLoad uSecurity r s (checksRecoveryLoad r)) ∧
    (∃ (t : Nat) (port : RomPort) (s : State), whenRecoverySession t port (s.atTime t) = true) ∧
    (∃ (r : Request) (s : State), Taken opInstallAbort uSecurity r s (checksInstallAbort r)) ∧
    (∃ (t : Nat) (cls : Nat) (s : State), (isClass cls) ∧ whenLoaderCopyDone t cls (s.atTime t) = true) ∧
    (∃ (r : Request) (s : State), Taken opIdentitySet uSecurity r s (checksIdentitySet r)) ∧
    (∃ (r : Request) (s : State), Taken opKeyPublic uSecurity r s (checksKeyPublic r)) ∧
    (∃ (r : Request) (s : State), Taken opKeyClear uSecurity r s (checksKeyClear r)) ∧
    (∃ (r : Request) (s : State), Taken opKeyStatus uSecurity r s (fun _ => [])) ∧
    (∃ (t : Nat) (s : State), whenRecoverySessionClose t (s.atTime t) = true) :=
  ⟨⟨rq 0 (pay 24 [(0, le 1 6), (1, le 1 1), (4, le 4 4096), (8, le 8 5)]), held 5 2 2 8388608 [uSecurity] (up .service),
    by decide +kernel⟩,
   ⟨1000, [], installing (go .service), by decide +kernel⟩,
   ⟨60000000000, installing (go .service), by decide +kernel⟩,
   ⟨rq 0 (pay 4 [(0, le 1 6)]), slotted .trial (up .service), by decide +kernel⟩,
   ⟨rq 0 (pay 4 [(0, le 1 6)]), up .service, by decide +kernel⟩,
   ⟨rq 0 (pay 8 [(0, le 1 6), (1, le 1 1), (4, le 4 60)]), up .provision, by decide +kernel⟩,
   ⟨rq 0 (pay 4 []), up .service, by decide +kernel⟩,
   ⟨rq 63 (pay 24 [(0, le 1 1), (1, le 1 1)]), up .recovery, by decide +kernel⟩,
   ⟨1000, .usb, (go .recovery).modPower fun p => { p with usb := true }, by decide +kernel⟩,
   ⟨rq 0 (pay 0 []), installing (up .service), by decide +kernel⟩,
   ⟨1000, 6, (slotted .installed (go .service)).modCls 6 fun x => { x with copying := true }, by decide +kernel⟩,
   ⟨rq 0 (pay 8 []), up .provision, by decide +kernel⟩,
   ⟨rq 0 (pay 0 []), (up .service).modUpdate fun u => { u with pub := List.replicate 97 0 }, by decide +kernel⟩,
   ⟨rq 0 (pay 4 [(0, le 1 4)]), up .service, by decide +kernel⟩,
   ⟨rq 0 (pay 0 []), up .service, by decide +kernel⟩,
   ⟨1000, (go .recovery).modUpdate fun u => { u with romPort := some .usb }, by decide +kernel⟩⟩

/-- A commissioning session of channel 0, with a staged configuration. -/
def staging : State :=
  ((up .commission).modMode fun m => { m with session := some 0 }).modSafety fun x => { x with staged := some (List.replicate 2048 0) }

/-- Only the checks that a request can meet by its own bytes are left open: the configuration hash it confirms is the one staged. -/
theorem witness_configCommit : ∃ (r : Request) (s : State), Taken opConfigCommit uSafety r s (checksConfigCommit r) := by
  refine ⟨rq 0 (le 4 1 ++ le 4 0 ++ Config.sha256 (List.replicate 2048 0)), staging, by decide, by decide +kernel, ?_⟩
  have h : ∀ b c d : Bool, b = false → c = false → d = true → refusal [(b, .authFailed), (c || !d, .badParam)] = none := by decide
  refine h _ _ _ (by decide +kernel) (by decide +kernel) ?_
  exact beq_self_eq_true (Config.sha256 (List.replicate 2048 0))

/-- The hash that VALIDATE confirms is that of the active configuration. -/
theorem witness_safetyValidate : ∃ (r : Request) (s : State), Taken opValidate uSafety r s (checksSafetyValidate r) := by
  refine ⟨rq 0 (le 4 1 ++ le 4 0 ++ Config.sha256 staging.safety.active ++ List.replicate 16 0x41), staging, by decide,
    by decide +kernel, ?_⟩
  have h : ∀ b c d e : Bool, b = false → c = false → d = false → e = false →
    refusal [(b, .authFailed), (c || d || e, .badParam)] = none := by decide
  refine h _ _ _ _ (by decide +kernel) (by decide +kernel) ?_ (by decide +kernel)
  exact bne_self_eq_false (Config.sha256 staging.safety.active)

/-- The proof that PASSWORD_SET carries is made with the new key. -/
theorem witness_passwordSet : ∃ (r : Request) (s : State), Taken opPasswordSet uSafety r s (checksPasswordSet r) := by
  let key := xorBytes (List.replicate 32 0) (Config.hmac staging.safetyKey ([0x4B, 0x50, 0x57, 0x44] ++ le 4 0))
  let proof := Config.hmac key ([0x4B, 0x43, 0x4F, 0x4E, 0x46] ++ le 4 0)
  refine ⟨rq 0 (le 4 1 ++ le 4 0 ++ List.replicate 32 0 ++ proof), staging, by decide, by decide +kernel, ?_⟩
  have h : ∀ b c d : Bool, b = false → c = false → d = false → refusal [(b || c, .authFailed), (d, .badParam)] = none := by decide
  refine h _ _ _ (by decide +kernel) ?_ (by decide +kernel)
  exact bne_self_eq_false proof

/-- Whether a key is a point of the curve is open in the model (assumption 4): where any key is, KEY_SET takes it. -/
theorem witness_keySet (k : List Byte) (hl : k.length = 97) (hk : Config.pointOk k = true) :
    ∃ (r : Request) (s : State), Taken opKeySet uSecurity r s (checksKeySet r) := by
  have hb : (le 4 0x00610003 ++ k).length = 101 := by rw [List.length_append, hl]; rfl
  refine ⟨rq 0 (le 4 0x00610003 ++ k), up .provision, (show 0 < 64 by decide), ?_, ?_⟩
  · have h : opKeySet.lenOk (rq 0 (le 4 0x00610003 ++ k)).len = true := by
      show opKeySet.lenOk (le 4 0x00610003 ++ k).length = true
      rw [hb]; decide
    rw [gate, h]; rfl
  · have h : ∀ a b c d : Bool, a = false → b = false → c = false → d = false →
      refusal [(a, .wrongMode), (b, .busyId), (c, .badLength), (d, .badParam)] = none := by decide
    refine h _ _ _ _ rfl rfl ?_ ?_
    · show ((le 4 0x00610003 ++ k).length != 4 + 97) = false
      rw [hb]; rfl
    · have e : (up .provision).keyOk 3 k = true := by
        show (k.length == 97 && Config.pointOk k) = true
        rw [hl, hk]; rfl
      show (false || !(up .provision).keyOk 3 k) = false
      rw [e]; rfl

/-- Any reference time is late enough for an ephemeris given 1 µs after the start. -/
theorem witness_orbitAid : ∃ (r : Request) (s : State), Taken opOrbitAid uBaseband r s (checksOrbitAid r) := by
  refine ⟨rq 0 (List.replicate 4 0 ++ [0xd3, 0x0, 0x2, 0x3f, 0xb0, 0xd7, 0x1d, 0x73]),
    (up .service).modTimekeeper fun k => { k with valid := true }, by decide, by decide +kernel, ?_⟩
  have h : ∀ b c : Bool, b = false → c = true → refusal [(b || !c, .badParam)] = none := by decide
  refine h _ _ (by decide +kernel) ?_
  have u : ∀ key e, usableEph 1000 key e = true := by
    intro key e; unfold usableEph; rw [decide_eq_true_eq]
    split <;> simp only [sec] <;> omega
  exact u _ _

/-- SAFE_HOLD from SERVICE needs no proof. -/
theorem witness_modeRequest : ∃ (r : Request) (s : State) (b : Mode), ModeTaken r s b :=
  ⟨rq 0 (le 4 1 ++ [0x0C, 0, 0, 0]), go .service, .safeHold, by constructor <;> decide +kernel⟩

/-! ### Witnesses of the rules -/

theorem witness_CommandsComplete : ((Instr.timeRead (rq 0 [])).wf = true ∧ (Instr.timeRead (rq 64 [])).wf = false) ∧
    ((Instr.junctionOvertemp 0 47).wf = true ∧ (Instr.junctionOvertemp 0 48).wf = false) := by decide

theorem witness_GateRefusalHasNoEffect :
    ∃ (i : Instr) (s : State) (o : OpSpec) (u : Nat) (r : Request) (st : Status), i.asked s = some (o, u, r) ∧ r.ch < 64 ∧
      gate o u r (s.atTime r.time) = some st :=
  ⟨.timeRead (rq 63 [0]), up .service, opTimeRead, uMaluf, rq 63 [0], .badLength, rfl, by decide, by decide +kernel⟩

/-- An epoch of 0, one that is not current, and a module that has not committed a mode. -/
theorem witness_StaleEpochRefused :
    let f := fun (p : List Byte) (s : State) => ∃ (i : Instr) (o : OpSpec) (u : Nat) (r : Request),
      i.asked s = some (o, u, r) ∧ r.payload = p ∧ r.ch < 64 ∧ o.lenOk r.len = true ∧ o.epoch = true
    (f (pay 8 []) (up .service) ∧ field (pay 8 []) 0 4 = 0) ∧
    (f (pay 8 [(0, [2])]) (up .service) ∧ field (pay 8 [(0, [2])]) 0 4 ≠ (up .service).mode.epoch.toNat) ∧
    (f (pay 8 [(0, [1])]) State.reset ∧ State.reset.mode.booted = false) :=
  ⟨⟨⟨.loopClear (rq 0 (pay 8 [])), opLoopClear, _, rq 0 (pay 8 []), rfl, rfl, by decide +kernel⟩, by decide +kernel⟩,
   ⟨⟨.loopClear (rq 0 (pay 8 [(0, [2])])), opLoopClear, _, rq 0 (pay 8 [(0, [2])]), rfl, rfl, by decide +kernel⟩,
     by decide +kernel⟩,
   ⟨⟨.loopClear (rq 0 (pay 8 [(0, [1])])), opLoopClear, _, rq 0 (pay 8 [(0, [1])]), rfl, rfl, by decide +kernel⟩,
     by decide +kernel⟩⟩

/-- With an OP that carries no epoch, and with one that carries the current epoch. -/
theorem witness_FencedUnitRefuses :
    (∃ (i : Instr) (s : State) (o : OpSpec) (u : Nat) (r : Request), i.asked s = some (o, u, r) ∧ r.ch < 64 ∧
      o.lenOk r.len = true ∧ o.epoch = false ∧ s.fenced u = true) ∧
    ∃ (i : Instr) (s : State) (o : OpSpec) (u : Nat) (r : Request), i.asked s = some (o, u, r) ∧ r.ch < 64 ∧
      o.lenOk r.len = true ∧ (r.u 0 4 ≠ 0 ∧ r.u 0 4 = s.mode.epoch.toNat ∧ s.mode.booted = true) ∧ s.fenced u = true :=
  ⟨⟨.linkStatus (rq 0 []), fencing uLink none, opLinkStatus, uLink, rq 0 [], rfl, by decide +kernel⟩,
   ⟨.loopClear (rq 0 (pay 8 [(0, [1])])), fencing (uLane 0) none, opLoopClear, uLane 0, rq 0 (pay 8 [(0, [1])]),
     rfl, by decide +kernel⟩⟩

theorem witness_ChannelZeroRequests : ∃ r : Request, (r.ch < 64 ∧ r.ch ≠ 0) ∧ opChannelBind.lenOk r.len = true ∧
    opCompatView.lenOk r.len = true ∧ ∃ q : Request, (q.ch < 64 ∧ q.ch ≠ 0) ∧ opSubscribe.lenOk q.len = true :=
  ⟨rq 1 (pay 4 []), by decide, by decide +kernel, by decide +kernel, rq 63 (pay 36 []), by decide, by decide +kernel⟩

theorem witness_ReplyWritten : (app0.chan 0).enable = true ∧ (app0.chan 0).path ≠ .compat ∧
    (app0.chan 0).isOrphan opTimeRead 7 = false ∧ (app0.chan 0).ringed = true ∧
    ((onPath 0 .tunnel app0).chan 0).enable = true ∧ ((onPath 0 .tunnel app0).chan 0).ringed = false := by decide +kernel

theorem witness_SetWinsOverClear : 0 < 64 ∧ app0.ownPath .app 0 = true ∧ app0.power.rung = 0 ∧ app0.power.entering = none := by
  decide +kernel

/-- The ring of 16 slots takes a tail of 16 and not one of 17; a disabled channel takes none. -/
theorem witness_DoorbellAccepted : app0.ownPath .app 0 = true ∧ app0.power.rung = 0 ∧ app0.power.entering = none ∧
    (app0.chan 0).path ≠ .pcie ∧ (app0.chan 0).enable = true ∧ (16 - (app0.chan 0).reqHead).toNat = 2 ^ (app0.chan 0).reqLog2 ∧
    2 ^ (app0.chan 0).reqLog2 < (17 - (app0.chan 0).reqHead).toNat ∧
    (app0.modChan 0 fun c => { c with enable := false }).ownPath .app 0 = true ∧ (0 : U16) = (app0.chan 0).reqTail := by
  decide +kernel

theorem witness_ResetChannelEmpties : 0 < 64 ∧ app0.ownPath .app 0 = true ∧ app0.power.rung = 0 ∧ app0.power.entering = none ∧
    (2 : U32).getLsbD 1 = true := by decide +kernel

/-- One request for each clause: five controllers, edge 0, a controller without a filter, an alarm 1 ns too early, and the filter of
a controller in use. -/
theorem witness_WakeConfigRefused :
    let ok := fun (r : Request) => gate opWakeConfig uPower r ((up .service).atTime r.time) = none
    (∃ r : Request, r.ch < 64 ∧ ok r ∧ 4 < bitCount 12 (r.u 6 2)) ∧
    (∃ r : Request, r.ch < 64 ∧ ok r ∧ r.u 2 1 = 0 ∧ bit (r.u 0 2) 1 = true) ∧
    (∃ r : Request, r.ch < 64 ∧ ok r ∧ ∃ m < 12, bit (r.u 6 2) m = true ∧ (up .service).power.filters.find m = none) ∧
    (∃ r : Request, r.ch < 64 ∧ ok r ∧ r.u 8 8 ≠ 0 ∧ r.u 8 8 + 1 = ((up .service).atTime r.time).time + 2000000000) ∧
    ∃ (r : Request) (s : State), r.ch < 64 ∧ gate opCanWakeFilter uPower r (s.atTime r.time) = none ∧ r.u 1 1 = 0xFF ∧
      bit s.power.wake.canSelective (r.u 0 1) = true :=
  ⟨⟨rq 0 (pay 20 [(6, [31])]), by decide +kernel⟩, ⟨rq 0 (pay 20 [(0, [2])]), by decide +kernel⟩,
   ⟨rq 0 (pay 20 [(6, [0, 8])]), by decide, by decide +kernel, 11, by decide +kernel⟩,
   ⟨rq 0 (pay 20 [(8, le 8 2000000999)]), by decide +kernel⟩,
   ⟨rq 0 (pay 28 [(0, [11, 0xFF])]), (up .service).modPower fun p => { p with wake := { p.wake with canSelective := 2048 } },
     by decide +kernel⟩⟩

theorem witness_CommitsTakeTheMode :
    (∃ (t : Nat) (s : State) (c : Change), s.mode.change = some c ∧ whenModeCommit t [0x0700] (s.atTime t) = true ∧
      [0x0700].all isUnit = true) ∧
    (∃ (t : Nat) (s : State) (c : Change), s.mode.change = some c ∧ whenForcedSafeHold t [] (s.atTime t) = true) ∧
    ∃ (t : Nat) (s : State), whenBootCommit t (s.atTime t) = true :=
  ⟨⟨1000000, changing fun c => { c with allReady := some 0 }, { change with allReady := some 0 }, rfl, by decide +kernel⟩,
   ⟨1000000, changing fun c => { c with forced := true }, { change with forced := true }, rfl, by decide +kernel⟩,
   ⟨1000, (((go .service).modMode fun m => { m with booted := false }).modHub fun h => { h with phase := .starting }).modSafety
      fun x => { x with state := .run }, by decide +kernel⟩⟩

/-- One request for each clause, under a change into PARKED or into ROAD for which the island of its unit has answered ready. -/
theorem witness_DeferredRequestsWait :
    let s := fun (i : Nat) => changing fun c => { c with target := .road, ready := [i] }
    (∃ r : Request, Taken opRungRequest uPower r (s 0) (checksRungRequest r) ∧ (s 0).mode.change.isSome = true) ∧
    (∃ r : Request, r.ch < 64 ∧ opModeRequest.lenOk r.len = true ∧ (s 0).mode.booted = true ∧
      (s 0).mode.change.any (fun c => !c.forced) = true ∧ r.u 4 1 ≠ Mode.safeHold.code) ∧
    (∃ (r : Request) (v : State), Taken opTune ((v.loop (r.u 4 1)).unit) r v (checksLoopTune r) ∧ v.answeredReady islCtl = true) ∧
    (∃ r : Request, Taken opSelftest (if isUnit (r.u 4 2) = true then r.u 4 2 else uMaluf) r (s islCtl) (checksSelftest r) ∧
      (s islCtl).answeredReady (islandOf (r.u 4 2)) = true) ∧
    (∃ (r : Request) (v : State), Taken opImageInstall uSecurity r v (checksImageInstall r) ∧ v.answeredReady islSup = true) ∧
    (∃ (r : Request) (v : State), Taken opImageRevert uSecurity r v (checksImageRevert r) ∧
      v.answeredReady (classIsland (r.u 4 1)) = true) ∧
    (∃ r : Request, Taken opRecoveryEnter uSecurity r (s islSup) (checksRecoveryEnter r) ∧ (s islSup).answeredReady islSup = true) ∧
    ∃ (r : Request) (v : State), Taken opFunctionStart ((v.inst (r.u 4 1)).unit) r v (checksFunctionStart r) ∧
      (v.inst (r.u 4 1)).running = false ∧ v.startDeferred (r.u 4 1) = true := by
  exact ⟨⟨rq 0 (pay 8 [(0, [1])]), by decide +kernel⟩,
    ⟨rq 0 (pay 8 [(0, [1]), (4, [5])]), by decide +kernel⟩,
    ⟨rq 0 (pay 44 [(0, [1]), (4, [1, 1, 1, 2]), (16, [1]), (32, [100]), (36, [10]), (40, [1])]),
      (looped .open (go .commission)).modMode fun m => { m with change := some { change with ready := [islCtl] } }, by decide +kernel⟩,
    ⟨rq 0 (pay 8 [(0, [1]), (4, [0, 8])]), by decide +kernel⟩,
    ⟨rq 0 (pay 24 [(0, [6, 1]), (4, le 4 4096), (8, [5])]),
      held 5 2 2 8388608 [uSecurity] (changing fun c => { c with ready := [islSup] }), by decide +kernel⟩,
    ⟨rq 0 (pay 8 [(0, [1]), (4, [6])]),
      slotted .installed (changing fun c => { c with ready := [classIsland 6] }), by decide +kernel⟩,
    ⟨rq 0 (pay 4 []), by decide +kernel⟩,
    ⟨rq 0 (pay 8 [(0, [1]), (4, [2])]),
      (instanced 0x01 .stopped (changing fun c => { c with target := .road, ready := [islCtl] })).modMode fun m =>
        { m with mode := .fieldReady }, by decide +kernel⟩⟩

theorem witness_EpochRisesOnlyAtCommits : ∃ (i : Instr) (s t : State), exec i s = .next t :=
  ⟨.timeRead (rq 0 []), up .service, _, rfl⟩

theorem witness_SafetyLeftAlone :
    (∃ (i : Instr) (s t : State), (i.asked s).isSome = true ∧ exec i s = .next t ∧
      ∀ r, i ≠ .configCommit r ∧ i ≠ .selftest r ∧ i ≠ .imageActivate r ∧ i ≠ .imageRevert r ∧ i ≠ .recoveryEnter r ∧
        i ≠ .offRequest r) ∧
    ∃ (i : Instr) (s t : State), s.deferred = [] ∧ (∃ r, i = .modeRequest r) ∧ exec i s = .next t :=
  ⟨⟨.configStage (rq 0 []), up .commission, _, rfl, rfl, fun r => by simp⟩, ⟨.modeRequest (rq 0 []), up .service, _, rfl, ⟨_, rfl⟩, rfl⟩⟩

theorem witness_PlacementGranted :
    (∃ (r : Request) (s : State) (t : Nat), Taken opPlace uPlacement r s (checksPlace r) ∧
      (placeReq r).home (s.atTime r.time) = some t) ∧
    ∃ (r : Request) (s : State), r.ch < 64 ∧ gate opPlace uPlacement r (s.atTime r.time) = none ∧ r.u 4 8 = 0 :=
  ⟨⟨rq 0 (pay 34 [(0, [4]), (4, le 4 1000), (24, [1]), (32, [0xFE, 0xFF])]), up .service,
     ((placeReq (rq 0 (pay 34 [(0, [4]), (4, le 4 1000), (24, [1]), (32, [0xFE, 0xFF])]))).home (up .service)).getD 0,
     by decide +kernel⟩,
   ⟨rq 0 (pay 34 []), up .service, by decide +kernel⟩⟩

/-- A store that ends at the placement's last byte, and an access that stores nothing at its first. -/
theorem witness_AccessStoresItsBytes :
    (∃ (a : Access) (p : Placement) (s : State), PlacesSound s.place ∧ s.placement a.handle = some p ∧
      a.offset + max 1 a.data.length = p.size ∧ a.data ≠ []) ∧
    ∃ (a : Access) (p : Placement) (s : State), PlacesSound s.place ∧ s.placement a.handle = some p ∧
      a.offset + max 1 a.data.length ≤ p.size ∧ a.data = [] := by
  have h : PlacesSound (held 5 4 0 8192 [] (up .service)).place := by
    intro e he
    have : e = (5, newPlacement 4 0 0 0 8192 1 0 [] 3 0) := List.mem_singleton.mp he
    rw [this]; decide
  exact ⟨⟨{ handle := 5, offset := 8190, data := [1, 2] }, _, _, h, rfl, by decide, by decide⟩,
    ⟨{ handle := 5, offset := 0, data := [] }, _, _, h, rfl, by decide, by decide⟩⟩

theorem witness_CreditsClamped : ∃ (no idx : Nat) (x : Stream) (c : Consumer) (s : State), s.stream no = some x ∧
    x.consumers.find idx = some c ∧ c.freed ≠ 0 ∧ c.absent = none :=
  ⟨4, 0, _, _, (streamed (go .service)).modStream 4 fun x => { x with consumers := x.consumers.mapAll fun _ c => { c with freed := 1 } },
    rfl, rfl, by decide, rfl⟩

/-- Instance 2 measuring, with a mass at the limit. -/
def weighing (sum : Nat) : State :=
  (instanced 0x12 .active (up .working)).modInst 2 fun x =>
    { x with calSum := some sum, params := patch x.params 12 (le 4 65536) }

theorem witness_CalibrationRuns :
    let f := fun (action mass sum : Nat) (g : Nat → Nat → Prop) =>
      ∃ (r : Request) (s : State), Taken opCalibrate ((s.inst (r.u 4 1)).unit) r s (checksCalibrate r) ∧ r.u 5 1 = action ∧
        r.u 8 8 = mass ∧ (s.inst (r.u 4 1)).calSum = some sum ∧
        g (sum / 1000) (divNear ((s.inst (r.u 4 1)).pu 12 4 * mass) (sum / 1000))
    f 1 0 0 (fun _ _ => True) ∧ f 3 0 0 (fun _ _ => True) ∧
    f 2 1000000 500000000 (fun g n => 500000 = g ∧ 32768 ≤ n ∧ n = 131072) ∧ f 2 500000 499999000 (fun g _ => g + 1 = 500000) ∧
    f 2 1000010 500000000 (fun g n => 500000 ≤ g ∧ 131072 < n) ∧ f 2 0 500000000 (fun _ n => n < 32768) :=
  ⟨⟨rq 0 (pay 16 [(0, [1]), (4, [2, 1])]), weighing 0, by decide +kernel, by decide +kernel, by decide +kernel, by decide +kernel,
     trivial⟩,
   ⟨rq 0 (pay 16 [(0, [1]), (4, [2, 3])]), weighing 0, by decide +kernel, by decide +kernel, by decide +kernel, by decide +kernel,
     trivial⟩,
   ⟨rq 0 (pay 16 [(0, [1]), (4, [2, 2]), (8, le 8 1000000)]), weighing 500000000, by decide +kernel, by decide +kernel,
     by decide +kernel, by decide +kernel, by decide +kernel⟩,
   ⟨rq 0 (pay 16 [(0, [1]), (4, [2, 2]), (8, le 8 500000)]), weighing 499999000, by decide +kernel, by decide +kernel,
     by decide +kernel, by decide +kernel, by decide +kernel⟩,
   ⟨rq 0 (pay 16 [(0, [1]), (4, [2, 2]), (8, le 8 1000010)]), weighing 500000000, by decide +kernel, by decide +kernel,
     by decide +kernel, by decide +kernel, by decide +kernel⟩,
   ⟨rq 0 (pay 16 [(0, [1]), (4, [2, 2]), (8, le 8 0)]), weighing 500000000, by decide +kernel, by decide +kernel,
     by decide +kernel, by decide +kernel, by decide +kernel⟩⟩

theorem witness_LoopsCleared : ∃ (r : Request) (s : State),
    Taken opLoopClear ((s.loop (r.u 4 1)).unit) r s (checksLoopClear r) :=
  ⟨rq 0 (pay 8 [(0, [1]), (4, [1])]), looped .open (up .service), by decide +kernel⟩

theorem witness_OvertempLatches :
    (∃ (ch : Nat) (s : State), ch < 48 ∧ s.ctlRuns = true ∧ (s.sw ch).fault = 0) ∧
    ∃ (r : Request) (s : State), Taken opClearFault (swUnitOf (r.u 4 1)) r s (checksClearFault r) ∧
      (s.sw (r.u 4 1)).fault = 4 ∧ (s.sw (r.u 4 1)).cool = false :=
  ⟨⟨47, go .service, by decide +kernel⟩,
   ⟨rq 0 (pay 8 [(0, [1]), (4, [1])]), switched fun x => { x with fault := 4, cool := false }, by decide +kernel⟩⟩

/-- At the limit exactly, with no retry left and with one. -/
theorem witness_HardLimitSwitchesOff :
    let f := fun (n : Nat) => ∃ (ch peak : Nat) (s : State), ch < 48 ∧ (s.sw ch).phase.conducting = true ∧ hardLimit ch = peak ∧
      s.swLeft ch = n
    f 0 ∧ f 1 :=
  ⟨⟨1, hardLimit 1, switched fun x => { x with phase := .on, retriesLeft := some 0 }, by decide +kernel⟩,
   ⟨1, hardLimit 1, switched fun x => { x with phase := .on, retriesLeft := some 1 }, by decide +kernel⟩⟩

/-- A section defined, one removed, and the engine that runs. -/
theorem witness_SectionsSetByEntry :
    (∃ (r : Request) (s : State), Taken opSectionsSet uSection r s (checksSectionsSet r) ∧ 0 < r.u 5 1 ∧ r.u 20 2 ≠ 0) ∧
    (∃ (r : Request) (s : State), Taken opSectionsSet uSection r s (checksSectionsSet r) ∧ 0 < r.u 5 1 ∧ r.u 20 2 = 0) ∧
    ∃ (r : Request) (s : State), r.ch < 64 ∧ gate opSectionsSet uSection r (s.atTime r.time) = none ∧
      s.sections.state ≠ .stopped ∧ ((checksSectionsSet r (s.atTime r.time)).drop 1).all (fun c => !c.1) = true :=
  ⟨⟨rq 0 (pay 28 [(0, [1]), (4, [1, 1]), (8, [1, 3]), (20, le 2 500)]), up .service, by decide +kernel⟩,
   ⟨rq 0 (pay 28 [(0, [1]), (4, [1, 1])]), up .service, by decide +kernel⟩,
   ⟨rq 0 (pay 28 [(0, [1]), (4, [1, 1]), (8, [1, 3]), (20, le 2 500)]),
     (up .service).modSections fun x => { x with state := .running }, by decide +kernel⟩⟩

theorem witness_TrackLossSearchesAgain :
    (∃ (ch : Nat) (s : State), ch < 320 ∧ s.unitUp uBaseband = true ∧ (s.navChan ch).state = .track) ∧
    (∃ (ch : Nat) (s : State), ch < 320 ∧ s.unitUp uBaseband = false) ∧
    ∃ (ch : Nat) (s : State), ch < 320 ∧ (s.navChan ch).state ≠ .track :=
  ⟨⟨2, tracking .track, by decide +kernel⟩, ⟨0, fencing uBaseband none, by decide +kernel⟩, ⟨319, up .service, by decide +kernel⟩⟩

/-- Exactly 1 s after the last time, 1 ns before, and with no source. -/
theorem witness_HoldoverStarts :
    let f := fun (s : State) => s.unitUp uTime = true ∧ (s.nav.time.source = .gnss ∨ s.nav.time.source = .peer)
    let g := fun (s : State) (t : Nat) => ∀ l, s.nav.time.lastTime = some l → l + 1000000000 ≤ t
    (∃ (t : Nat) (s : State), f s ∧ g s t ∧ s.nav.time.lastTime = some 5) ∧
    (∃ (t : Nat) (s : State), f s ∧ ¬g s t) ∧ ∃ s : State, ¬f s := by
  refine ⟨⟨1000000005, (go .service).modTimekeeper fun k => { k with source := .gnss, lastTime := some 5 }, ⟨by decide +kernel, .inl rfl⟩, ?_, rfl⟩,
    ⟨1000000004, (go .service).modTimekeeper fun k => { k with source := .peer, lastTime := some 5 }, ⟨by decide +kernel, .inr rfl⟩, ?_⟩,
    ⟨State.reset, by decide +kernel⟩⟩
  · intro l h; cases h; decide
  · intro h; exact absurd (h 5 rfl) (by decide)

theorem witness_StageSetCounts : ∃ (r : Request) (s : State), Taken opStageSet (s.pipeUnit r) r s (checksStageSet r) :=
  ⟨rq 0 (pay 8 [(1, [3]), (4, le 2 1)]), up .service, by decide +kernel⟩

theorem witness_PortConfigBusy : ∃ (r : Request) (s : State), r.ch < 64 ∧
    gate opCameraPortConfig (camUnit r) r (s.atTime r.time) = none ∧ camConfigBad r = false ∧
    (s.cam (r.u 0 1)).hasOutput = true :=
  ⟨rq 0 (pay 36 [(4, [0x2A]), (6, [1]), (10, le 2 64), (12, le 2 16), (16, le 4 1000), (24, le 2 10), (26, le 2 100)]),
    (up .service).modCam 0 fun c => { c with outputs := c.outputs.put 0 { CamOutput.reset with cfg := [1] } }, by decide +kernel⟩

theorem witness_JobsCleared :
    (∃ (r : Request) (s : State), Taken opJobClear (homeCluster (min 63 (r.u 0 1))) r s (checksJobClear r)) ∧
    ∃ (r : Request) (s : State), r.ch < 64 ∧ gate opJobClear (homeCluster (min 63 (r.u 0 1))) r (s.atTime r.time) = none ∧
      jobChecks r false (s.atTime r.time) = false ∧ r.u 0 1 ≤ 63 ∧ (s.job (r.u 0 1)).running = true :=
  ⟨⟨rq 0 (pay 4 [(0, [3])]), jobbed (up .service), by decide +kernel⟩,
   ⟨rq 0 (pay 4 [(0, [3])]), (jobbed (up .service)).modJob 3 fun x => { x with running := true }, by decide +kernel⟩⟩

/-- One element and DEFAULT written; and no element, with DEFAULT left. -/
theorem witness_FilterGenerationsRise :
    (∃ (r : Request) (s : State), Taken opFilterSet (busUnit r) r s (checksFilterSet r) ∧ r.u 4 2 = 1 ∧ r.u 1 1 ≠ 0xFF) ∧
    ∃ (r : Request) (s : State), Taken opFilterSet (busUnit r) r s (checksFilterSet r) ∧ r.u 4 2 = 0 ∧ r.u 1 1 = 0xFF :=
  ⟨⟨rq 0 (pay 24 [(4, [1]), (6, [1])]), up .service, by decide +kernel⟩,
   ⟨rq 0 (pay 8 [(1, [0xFF]), (6, [0xFF, 0xFF])]), up .service, by decide +kernel⟩⟩

theorem witness_RecoveryRestores :
    (∃ (mb : Nat) (s : State), mb < 12 ∧ (s.bus mb).state = .recovering) ∧
    ∃ (mb : Nat) (s : State), mb < 12 ∧ (s.bus mb).state ≠ .recovering :=
  ⟨⟨0, bus0 fun b => { b with state := .recovering }, by decide +kernel⟩, ⟨11, go .service, by decide +kernel⟩⟩

theorem witness_FieldFaultsClear :
    (∃ (r : Request) (s : State), Taken opFoClear uFo r s (checksFoClear r) ∧ (s.fo (r.u 0 1)).fault = 1) ∧
    (∃ (r : Request) (s : State), Taken opFoClear uFo r s (checksFoClear r) ∧ (s.fo (r.u 0 1)).fault = 0) ∧
    ∃ (r : Request) (s : State), r.ch < 64 ∧ gate opFoClear uFo r (s.atTime r.time) = none ∧ r.u 0 1 ≤ 15 ∧
      r.zero 1 3 = true ∧ (s.fo (r.u 0 1)).hot = true :=
  ⟨⟨rq 0 (pay 4 [(0, [15])]), (up .service).modFo 15 fun x => { x with fault := 1 }, by decide +kernel⟩,
   ⟨rq 0 (pay 4 []), up .service, by decide +kernel⟩,
   ⟨rq 0 (pay 4 [(0, [15])]), (up .service).modFo 15 fun x => { x with fault := 2, hot := true }, by decide +kernel⟩⟩

theorem witness_FrontLightLevel :
    (∃ (r : Request) (s : State), Taken opFrontLight uDisplayPower r s (checksFrontLight r) ∧ s.display.known = true) ∧
    (∃ (r : Request) (s : State), Taken opFrontLight uDisplayPower r s (checksFrontLight r) ∧ s.display.known = false) ∧
    ∃ (r : Request) (s : State), r.ch < 64 ∧ gate opFrontLight uDisplayPower r (s.atTime r.time) = none ∧ r.u 0 2 ≤ 1000 ∧
      r.zero 2 2 = true ∧ ∀ p, s.display.panel = some p → p.hasLight = false :=
  ⟨⟨rq 0 (pay 4 [(0, le 2 1000)]), (displayed (up .service)).modDisplay fun d => { d with known := true }, by decide +kernel⟩,
   ⟨rq 0 (pay 4 [(0, le 2 100)]), displayed (up .service), by decide +kernel⟩,
   ⟨rq 0 (pay 4 [(0, le 2 1000)]), up .service, by decide, by decide +kernel, by decide, by decide, fun _ h => by cases h⟩⟩

theorem witness_FailedMarchIsSafeFault : ((safe id).atTime 1000).safRuns = true ∧ (State.reset.atTime 1000).safRuns = false := by
  decide +kernel

theorem witness_ConfirmRaisesCounter : ∃ (r : Request) (s : State), Taken opImageConfirm uSecurity r s (checksImageConfirm r) :=
  ⟨rq 0 (pay 4 [(0, [6])]), slotted .trial (up .service), by decide +kernel⟩

theorem witness_SoundKept : ∃ s t : State, Sound s ∧ step s = .next t :=
  ⟨{ State.reset with pending := [] }, _, ⟨⟨by decide, by simp [State.reset, Ledger.reset], by decide⟩,
    by simp [PlacesSound, State.reset, Puppeteer.reset, Bank.empty]⟩, rfl⟩

theorem witness_StepMovesForward : ∃ s t : State, s.pending ≠ [] ∧ step s = .next t :=
  ⟨{ up .service with pending := [.timeRead (rq 0 [])] }, _, by decide, rfl⟩

end Sys2Proof.Tests
end

/-! SUPPORT. The wake rules of WAKE_CONFIG and CAN_WAKE_FILTER (R113, R216, R218), as refusals of a request that passes its
gate. -/

namespace Sys2Proof

open Machine

/-- An OP whose only check gives BAD_PARAM is refused with it where the check holds: no other class comes before (R817). -/
theorem refusal_badParam {b : Bool} (h : b = true) : refusal [(b, .badParam)] = some .badParam := by
  rw [h]
  rfl

/-- R113 and R216: five or more controllers, a WAKE_IN source without an edge, a controller without a filter, or an alarm less
than 2 s ahead. -/
theorem checksWakeConfig_badParam {r : Request} {s : State}
    (h : 4 < bitCount 12 (r.u 6 2) ∨ (r.u 2 1 = 0 ∧ bit (r.u 0 2) 1 = true) ∨
      (∃ m < 12, bit (r.u 6 2) m = true ∧ s.power.filters.find m = none) ∨ (r.u 8 8 ≠ 0 ∧ r.u 8 8 < s.time + 2 * sec)) :
    refusal (checksWakeConfig r s) = some .badParam := by
  refine refusal_badParam ?_
  rcases h with tooMany | ⟨noEdge, wakeIn⟩ | ⟨m, hm, named, noFilter⟩ | ⟨armed, soon⟩
  · simp [tooMany]
  · simp [noEdge, wakeIn]
  · have unfiltered : (List.range 12).any (fun m => bit (r.u 6 2) m && (s.power.filters.find m).isNone) = true :=
      List.any_eq_true.mpr ⟨m, List.mem_range.mpr hm, by simp [named, noFilter]⟩
    simp only [unfiltered, Bool.or_true, Bool.true_or]
  · simp [armed, soon]

/-- R218: the filter of a controller in CAN_SELECTIVE may not be disabled. -/
theorem checksCanWakeFilter_badParam {r : Request} {s : State} (disable : r.u 1 1 = 0xFF)
    (named : bit s.power.wake.canSelective (r.u 0 1) = true) : refusal (checksCanWakeFilter r s) = some .badParam :=
  refusal_badParam (by simp [disable, named])

/-- Settles O32: each wake rule is one disjunct of the OP's only check, which a request past its gate meets first. -/
theorem wakeConfigRefused : Obligations.WakeConfigRefused := by
  unfold Obligations.WakeConfigRefused
  intro r s hch
  exact ⟨fun hgate hrule => serve_refused hch hgate (checksWakeConfig_badParam hrule),
    fun hgate disable named => serve_refused hch hgate (checksCanWakeFilter_badParam disable named)⟩

end Sys2Proof

/-! SUPPORT. The requests that are accepted on channel 0 alone (R155), and the DOORBELL register (R165): what the write does to
the channels, and that in Run the wake it may ask for (R185) leaves them as they are. -/

namespace Sys2Proof

open Machine

/-! ### Requests bound to channel 0 (R155) -/

/-- R155: whether the mode lies in the OP's set or not, the gate gives WRONG_MODE. -/
theorem gate_offChannelZero {o : OpSpec} {unit : Nat} {r : Request} {s : State} (rule : o.chan = .ch0) (off : r.ch ≠ 0)
    (noEpoch : o.epoch = false) (hlen : o.lenOk r.len = true) : gate o unit r s = some .wrongMode := by
  unfold gate
  cases o.modes.has s.mode.mode
  case false => simp [firstOf, hlen, noEpoch]
  case true => simp [firstOf, hlen, noEpoch, rule, off]

/-- Settles O27: each of the three OPs is bound to channel 0 and carries no epoch. -/
theorem channelZeroRequests : Obligations.ChannelZeroRequests := by
  unfold Obligations.ChannelZeroRequests
  intro r s hch off
  exact ⟨fun hlen => serve_gated hch (gate_offChannelZero rfl off rfl hlen),
    fun hlen => serve_gated hch (gate_offChannelZero rfl off rfl hlen),
    fun hlen => serve_gated hch (gate_offChannelZero rfl off rfl hlen)⟩

/-! ### Reading a channel -/

@[simp] theorem Machine.State.atTime_chan (s : State) (t k : Nat) : (s.atTime t).chan k = s.chan k := rfl

@[simp] theorem Machine.State.setChan_chan (s : State) (ch : Nat) (c : Channel) : (s.setChan ch c).chan ch = c :=
  Bank.rd_put ..

theorem Machine.State.setChan_chan_other (s : State) {ch k : Nat} (other : k ≠ ch) (c : Channel) :
    (s.setChan ch c).chan k = s.chan k :=
  Bank.rd_put_other _ other ..

@[simp] theorem Machine.State.modChan_chan (s : State) (ch : Nat) (f : Channel → Channel) :
    (s.modChan ch f).chan ch = f (s.chan ch) :=
  s.setChan_chan ..

/-! ### A flag set by hardware (R181) -/

/-- The interrupt's three fields are all that follows a change of the flags (R184). -/
theorem Machine.Channel.refreshIrq_eq (old new : Channel) : ∃ irq pending count,
    Channel.refreshIrq old new = { new with irq := irq, msiPending := pending, irqCount := count } := by
  unfold Channel.refreshIrq Channel.sendIrq Channel.levelIrq
  split
  · split <;> exact ⟨_, _, _, rfl⟩
  · exact ⟨_, _, _, rfl⟩

/-- R181: the flag is set and its counter grows by 1; beside them only the interrupt may move. -/
theorem Machine.Channel.setFlag_eq (c : Channel) (n : Nat) : ∃ irq pending count,
    c.setFlag n = { c with status := c.status ||| BitVec.ofNat 7 (2 ^ n), cnt := c.cnt.modify n (· + 1),
                           irq := irq, msiPending := pending, irqCount := count } :=
  Channel.refreshIrq_eq ..

/-! ### Wakes in Run (R112, R185) -/

/-- The module is in Run and enters no lower rung. -/
def Machine.State.InRun (s : State) : Prop := s.power.rung = 0 ∧ s.power.entering = none

/-- R112: a wake source serves the lower rungs only. -/
theorem Machine.State.wakes_inRun {s : State} (run : s.InRun) (src : Nat) : s.wakes src = false := by
  obtain ⟨rung, entering⟩ := run
  simp [State.wakes, rung, entering, inRange]

/-- R114: in Run a wake can only join the exit just made, and the event it joins is not a channel's. -/
theorem Machine.State.rungWake_chan {s : State} (run : s.InRun) (src tc10 can k : Nat) :
    (s.rungWake src tc10 can).chan k = s.chan k := by
  unfold State.rungWake
  rw [if_neg (by simp [State.wakes_inRun run])]
  split <;> rfl

theorem Machine.State.flagWake_inRun {s : State} (run : s.InRun) (old : State) : s.flagWake old = s := by
  obtain ⟨rung, entering⟩ := run
  simp [State.flagWake, rung, entering]

/-! ### DOORBELL (R165) -/

/-- R165: the tail is taken on an enabled channel where the requests fit the ring, and RING_ERROR is set otherwise; on PCIe
this asks for bus mastering as well (R187). -/
theorem Machine.State.doorbellWrite_eq {s : State} {ch : Nat} (w : U32)
    (master : (s.chan ch).path = .pcie → s.hub.busMaster = true) :
    s.doorbellWrite ch w.toNat =
      if (s.chan ch).enable = true ∧ (w.setWidth 16 - (s.chan ch).reqHead).toNat ≤ 2 ^ (s.chan ch).reqLog2 then
        s.setChan ch { s.chan ch with reqTail := w.setWidth 16 }
      else s.modChan ch (·.setFlag stRingError) := by
  have mastered : ((s.chan ch).path == .pcie && !s.hub.busMaster) = false := by simpa using master
  simp only [State.doorbellWrite, mastered, Bool.or_false, BitVec.ofNat_toNat]
  split
  case isTrue ignored => rw [if_neg (by simpa [Channel.reqSize, or_iff_not_imp_left] using ignored)]
  case isFalse taken => rw [if_pos (by simpa [Channel.reqSize] using taken)]

/-- Whatever the tail, the register write changes its own channel alone. -/
theorem Machine.State.doorbellWrite_setChan (s : State) (ch w : Nat) : ∃ c, s.doorbellWrite ch w = s.setChan ch c := by
  simp only [State.doorbellWrite]
  split <;> exact ⟨_, rfl⟩

/-- In Run the command leaves every channel as the register write does. -/
theorem doneDoorbell_chan {s : State} (run : s.InRun) (t : Nat) (src : Path) (ch : Nat) (w : U32) :
    (doneDoorbell t src ch w s).chan = (s.doorbellWrite ch w.toNat).chan := by
  have run' : (s.doorbellWrite ch w.toNat).InRun := by
    obtain ⟨c, written⟩ := s.doorbellWrite_setChan ch w.toNat
    rw [written]
    exact run
  simp only [doneDoorbell, State.flagWake_inRun run']
  split
  · exact funext fun k => State.rungWake_chan run' ..
  · rfl

/-- A write by the channel's own path has its effect. -/
theorem exec_doorbell {t : Nat} {src : Path} {ch : Nat} {w : U32} {s : State} (hch : ch < 64) (own : s.ownPath src ch = true) :
    exec (.doorbell t src ch w) s = .next (doneDoorbell t src ch w (s.atTime t)) :=
  (valid_holds (decide_eq_true hch)).trans (event_holds own)

/-- Settles O30: in Run the command is the register write, which takes the tail, or sets RING_ERROR alone. -/
theorem doorbellAccepted : Obligations.DoorbellAccepted := by
  unfold Obligations.DoorbellAccepted
  intro t src ch w s hch own rung entering master
  have written := doneDoorbell_chan (s := s.atTime t) ⟨rung, entering⟩ t src ch w
  refine ⟨_, exec_doorbell hch own, ?_⟩
  rw [written]
  refine ⟨fun k other => ?_, ?_, fun enabled repeated fits => ?_⟩
  · obtain ⟨c, one⟩ := (s.atTime t).doorbellWrite_setChan ch w.toNat
    rw [one]
    exact State.setChan_chan_other _ other _
  · rw [State.doorbellWrite_eq (s := s.atTime t) w master, State.atTime_chan]
    split
    case isTrue => exact State.setChan_chan ..
    case isFalse =>
      rw [State.modChan_chan]
      obtain ⟨irq, pending, count, flagged⟩ := (s.chan ch).setFlag_eq stRingError
      rw [State.atTime_chan, flagged]
      exact ⟨rfl, rfl, rfl, rfl, rfl, rfl, rfl⟩
  · rw [State.doorbellWrite_eq (s := s.atTime t) w master, State.atTime_chan, if_pos ⟨enabled, fits⟩, State.setChan_chan, repeated]

end Sys2Proof

/-! SUPPORT. PLACE (R240): the operations it runs reclaim space and report pressure, and neither uses up a handle, so the
placement it lodges stands under the handle that was next. -/

namespace Sys2Proof

open Machine

/-! ### What leaves the placement engine alone -/

/-- An operation that does not name the placement engine among its parts leaves it as it was. -/
theorem Moved.place_eq {ps : List Part} {s t : State} (moved : Moved ps s t) (apart : ps.contains .place = false) :
    t.place = s.place :=
  moved.only.same .place apart

/-- A fold keeps what each of its steps keeps. -/
theorem foldl_keeps {α β σ : Type} (view : σ → β) {f : σ → α → σ} (keeps : ∀ s a, view (f s a) = view s) (l : List α) (s : σ) :
    view (l.foldl f s) = view s :=
  (List.foldl_hom view fun s a => (keeps s a).symm).symm.trans (List.foldl_fixed ..)

@[simp] theorem Machine.State.raise_place (s : State) (unit code : Nat) (fields : List Byte) :
    (s.raise unit code fields).place = s.place :=
  (State.raise_moved ..).place_eq rfl

@[simp] theorem Machine.State.setRecord_place (s : State) (id : Nat) (st : RecState) (cause : Nat) :
    (s.setRecord id st cause).place = s.place :=
  (State.setRecord_moved ..).place_eq rfl

@[simp] theorem Machine.answer_place (o : OpSpec) (unit : Nat) (r : Request) (payload : List Byte) (s : State) :
    (answer o unit r payload s).place = s.place :=
  (answer_moved ..).place_eq rfl

/-! ### No handle is used up by reclaim (R246, R251) -/

@[simp] theorem Machine.State.modPlacement_nextHandle (s : State) (h : Nat) (f : Placement → Placement) :
    (s.modPlacement h f).place.nextHandle = s.place.nextHandle := by
  unfold State.modPlacement
  split <;> rfl

@[simp] theorem Machine.State.finishSyncs_nextHandle (s : State) (h : Nat) :
    (s.finishSyncs h).place.nextHandle = s.place.nextHandle := by
  unfold State.finishSyncs
  split
  case h_1 =>
    refine (foldl_keeps (fun t : State => t.place.nextHandle) (fun t y => ?_) _ _).trans (s.modPlacement_nextHandle ..)
    rw [(State.complete_moved t ..).place_eq rfl]
  case h_2 => rfl

@[simp] theorem Machine.State.startUnit_nextHandle (s : State) (h off n : Nat) :
    (s.startUnit h off n).place.nextHandle = s.place.nextHandle := by
  unfold State.startUnit
  rw [State.modPlacement_nextHandle, (State.newRecord_moved s ..).place_eq rfl]

@[simp] theorem Machine.State.wroteBack_nextHandle (s : State) (h : Nat) (w : WriteBack) :
    (s.wroteBack h w).place.nextHandle = s.place.nextHandle := by
  simp [State.wroteBack]

@[simp] theorem Machine.State.finishUnits_nextHandle (s : State) (h : Nat) :
    (s.finishUnits h).place.nextHandle = s.place.nextHandle := by
  unfold State.finishUnits
  split
  case h_1 => exact foldl_keeps (fun t : State => t.place.nextHandle) (fun t w => t.wroteBack_nextHandle h w) _ s
  case h_2 => rfl

@[simp] theorem Machine.State.cleanChunk_nextHandle (s : State) (h c : Nat) :
    (s.cleanChunk h c).place.nextHandle = s.place.nextHandle := by
  unfold State.cleanChunk
  split
  case isTrue => simp
  case isFalse => rfl

@[simp] theorem Machine.State.dropCopy_nextHandle (s : State) (h c : Nat) :
    (s.dropCopy h c).place.nextHandle = s.place.nextHandle := by
  simp [State.dropCopy]

@[simp] theorem Machine.State.reclaimCopies_nextHandle (fuel t need : Nat) (s : State) :
    (s.reclaimCopies fuel t need).place.nextHandle = s.place.nextHandle := by
  induction fuel generalizing s with
  | zero => rfl
  | succ fuel ih =>
    unfold State.reclaimCopies
    split
    case isTrue => rfl
    case isFalse =>
      split
      case h_1 => rw [ih, State.dropCopy_nextHandle]
      case h_2 => rfl

@[simp] theorem Machine.State.admitRoom_nextHandle (s : State) (t need : Nat) :
    (s.admitRoom t need).place.nextHandle = s.place.nextHandle := by
  unfold State.admitRoom
  split
  case isTrue => rfl
  case isFalse => simp [State.makeRoom]

/-! ### A placement lodged (R240, R251) -/

/-- R251: the placement receives the handle that was next, which is used up. -/
theorem Machine.State.lodge_place (s : State) (p : Placement) :
    (s.lodge p).2.placement s.place.nextHandle = some p ∧ (s.lodge p).2.place.nextHandle = s.place.nextHandle + 1 := by
  simp [State.lodge, State.placement]

/-- R276: a report of pressure changes the engine's note of the tiers under pressure alone. -/
theorem Machine.State.tierPressure_place (s : State) (t : Nat) :
    ∃ noted, (s.tierPressure t).place = { s.place with pressed := noted } := by
  simp only [State.tierPressure]
  split
  case isTrue => exact ⟨_, State.raise_place ..⟩
  case isFalse =>
    split
    case isTrue => exact ⟨_, State.raise_place ..⟩
    case isFalse => exact ⟨_, rfl⟩

theorem Machine.State.pressures_place (s : State) : ∃ noted, s.pressures.place = { s.place with pressed := noted } := by
  refine List.foldlRecOn (motive := fun u : State => ∃ noted, u.place = { s.place with pressed := noted }) _ _ ⟨_, rfl⟩
    fun u before t _ => ?_
  obtain ⟨_, before⟩ := before
  obtain ⟨noted, after⟩ := u.tierPressure_place t
  exact ⟨noted, by rw [after, before]⟩

/-- R240: no byte of an empty content has been written. -/
theorem Machine.Memory.empty_reads (off n : Nat) : Memory.empty.reads off n = List.replicate n 0 := by
  simp [Memory.reads, Memory.read, Memory.empty, readCells]

/-! ### PLACE (R240, R266) -/

/-- The placement a PLACE is granted in a home tier: its size rounded up to the tier's granule, and nothing written (R240). -/
def grantedPlacement (r : Request) (t : Nat) : Placement :=
  newPlacement (r.u 0 1) (r.u 1 1) (r.u 2 1) (r.u 3 1) (roundTier t (r.u 4 8)) (r.u 12 4) (r.u 20 4) (placeUnits r) t r.ch

/-- Where a home tier is found, the granted placement stands under the handle that was next, which is used up. -/
theorem donePlace_granted {r : Request} {s : State} {t : Nat} (home : (placeReq r).home s = some t) :
    (donePlace r s).placement s.place.nextHandle = some (grantedPlacement r t) ∧
      (donePlace r s).place.nextHandle = s.place.nextHandle + 1 := by
  obtain ⟨stands, next⟩ := s.lodge_place (grantedPlacement r t)
  obtain ⟨_, reported⟩ := (s.lodge (grantedPlacement r t)).2.pressures_place
  have engine : (donePlace r s).place = (s.lodge (grantedPlacement r t)).2.pressures.place := by
    simp only [donePlace, home, answer_place]
    rfl
  rw [State.placement, engine, reported]
  exact ⟨stands, next⟩

/-- R240: a SIZE of 0 lies outside what PLACE accepts, and R249 compares no quota for such a request. -/
theorem checksPlace_sizeZero {r : Request} {s : State} (zero : r.u 4 8 = 0) :
    refusal (checksPlace r s) = some .badParam := by
  have bad : placeBad r = true := by simp [placeBad, placeReq, zero]
  simp only [checksPlace, bad, Bool.not_true, Bool.false_and]
  rfl

/-- Settles O37: a PLACE with a home tier lodges the granted placement under the next handle; SIZE 0 fails its first check. -/
theorem placementGranted : Obligations.PlacementGranted := by
  unfold Obligations.PlacementGranted
  intro r s
  refine ⟨fun taken t home => ?_, fun hch hgate zero => serve_refused hch hgate (checksPlace_sizeZero zero)⟩
  obtain ⟨stands, next⟩ := donePlace_granted home
  refine ⟨_, grantedPlacement r t, serve_taken taken, stands, next, rfl, rfl, rfl, fun off n => ?_⟩
  rw [State.readPlace, ← State.atTime_place s r.time, stands]
  exact Memory.empty_reads off n

end Sys2Proof

/-! SUPPORT. PORT_CONFIG of a camera with an enabled output (R586): where its layout has no fault, the camera is busy, and
the refusal changes no camera (R818). -/

namespace Sys2Proof

open Machine

/-- R562: a PORT_CONFIG with no fault in its layout names a port. -/
theorem Machine.portOk_of_camConfig {r : Request} (sound : camConfigBad r = false) : portOk r = true := by
  cases port : portOk r
  case true => rfl
  case false => simp only [camConfigBad, port, Bool.not_false, Bool.true_or, Bool.true_eq_false] at sound

/-- R586: an enabled output makes the camera busy, whether its port is on or off. -/
theorem checksCameraPortConfig_busy {r : Request} {s : State} (sound : camConfigBad r = false)
    (output : (s.cam (r.u 0 1)).hasOutput = true) : refusal (checksCameraPortConfig r s) = some .busyId := by
  simp only [checksCameraPortConfig, sound, portOk_of_camConfig sound, output, Bool.or_true, Bool.true_and]
  rfl

/-- R818: a refusal leaves every camera and pipeline as it was. -/
@[simp] theorem Machine.refuse_vision (o : OpSpec) (unit : Nat) (r : Request) (st : Status) (s : State) :
    (refuse o unit r st s).vision = s.vision :=
  (refuse_moved ..).only.same .vision rfl

/-- Settles O48: a sound layout leaves only the busy check, and the refusal it gives leaves the vision units alone. -/
theorem portConfigBusy : Obligations.PortConfigBusy := by
  unfold Obligations.PortConfigBusy
  intro r s hch hgate sound output
  have busy : refusal (checksCameraPortConfig r (s.atTime r.time)) = some .busyId := checksCameraPortConfig_busy sound output
  exact ⟨_, serve_refused hch hgate busy, rfl, by rw [refuse_vision, State.atTime_vision]⟩

end Sys2Proof

/-! SUPPORT. The families of commands (O1 to O21): an event whose condition holds and a request that is taken answer their
effect, and the lemma on that effect in Laws/ bounds what has changed. -/

namespace Sys2Proof

open Machine

set_option Elab.async false

/-! ### The shapes of a command that runs -/

/-- An event of the module that can always be given. -/
theorem Runs.event {ps qs : List Part} {i : Instr} {s : State} {t : Nat} {cond : State → Bool} {effect : State → State}
    (holds : cond (s.atTime t) = true) (keeps : Moved qs (s.atTime t) (effect (s.atTime t)))
    (run : exec i s = Machine.event t s cond effect := by rfl) (sub : qs.all ps.contains = true := by rfl)
    (timed : ps.contains .time = true := by rfl) : Runs ps i s (effect (s.atTime t)) :=
  .of (run.trans (event_holds holds)) keeps sub timed

/-- An event of an object that the module has. -/
theorem Runs.eventOf {ps qs : List Part} {i : Instr} {s : State} {t : Nat} {ok : Bool} {cond : State → Bool}
    {effect : State → State} (given : ok = true) (holds : cond (s.atTime t) = true)
    (keeps : Moved qs (s.atTime t) (effect (s.atTime t)))
    (run : exec i s = valid ok (Machine.event t s cond effect) := by rfl) (sub : qs.all ps.contains = true := by rfl)
    (timed : ps.contains .time = true := by rfl) : Runs ps i s (effect (s.atTime t)) :=
  .event holds keeps (run.trans (valid_holds given)) sub timed

/-- A request. -/
theorem Runs.request {ps qs : List Part} {i : Instr} {s : State} {o : OpSpec} {u : Nat} {r : Request}
    {checks : State → List (Bool × Status)} {effect : State → State} (taken : Taken o u r s checks)
    (keeps : Moved qs (s.atTime r.time) (effect (s.atTime r.time)))
    (run : exec i s = serve o u r s checks effect := by rfl) (sub : qs.all ps.contains = true := by rfl)
    (timed : ps.contains .time = true := by rfl) : Runs ps i s (effect (s.atTime r.time)) :=
  .of (run.trans (serve_taken taken)) keeps sub timed

/-- A request of entries. -/
theorem Runs.entries {ps qs : List Part} {i : Instr} {s : State} {o : OpSpec} {u : Nat} {r : Request} {named : Bool}
    {checks : State → List (Bool × Status)} {entries : State → List (List (Bool × Status))} {effect : State → State}
    (taken : Taken o u r s checks) (sound : entryRefusal (entries (s.atTime r.time)) = none)
    (keeps : Moved qs (s.atTime r.time) (effect (s.atTime r.time)))
    (run : exec i s = serveEntries o u r s named checks entries effect := by rfl)
    (sub : qs.all ps.contains = true := by rfl) (timed : ps.contains .time = true := by rfl) :
    Runs ps i s (effect (s.atTime r.time)) :=
  .of (run.trans (serveEntries_taken taken sound)) keeps sub timed

/-- An event that may end a mode change. -/
theorem RunsSettled.event {ps qs : List Part} {i : Instr} {s : State} {t : Nat} {cond : State → Bool} {effect : State → State}
    (holds : cond (s.atTime t) = true) (keeps : Moved qs (s.atTime t) (effect (s.atTime t)))
    (run : exec i s = Machine.event t s cond (settling effect) := by rfl) (sub : qs.all ps.contains = true := by rfl)
    (timed : ps.contains .time = true := by rfl) : RunsSettled ps i s (effect (s.atTime t)) :=
  .of (run.trans (event_holds holds)) keeps sub timed

/-- An event of an object that the module has, which may end a mode change. -/
theorem RunsSettled.eventOf {ps qs : List Part} {i : Instr} {s : State} {t : Nat} {ok : Bool} {cond : State → Bool}
    {effect : State → State} (given : ok = true) (holds : cond (s.atTime t) = true)
    (keeps : Moved qs (s.atTime t) (effect (s.atTime t)))
    (run : exec i s = valid ok (Machine.event t s cond (settling effect)) := by rfl)
    (sub : qs.all ps.contains = true := by rfl) (timed : ps.contains .time = true := by rfl) :
    RunsSettled ps i s (effect (s.atTime t)) :=
  .event holds keeps (run.trans (valid_holds given)) sub timed

/-- A request that may end a mode change. -/
theorem RunsSettled.request {ps qs : List Part} {i : Instr} {s : State} {o : OpSpec} {u : Nat} {r : Request}
    {checks : State → List (Bool × Status)} {effect : State → State} (taken : Taken o u r s checks)
    (keeps : Moved qs (s.atTime r.time) (effect (s.atTime r.time)))
    (run : exec i s = serve o u r s checks (settling effect) := by rfl) (sub : qs.all ps.contains = true := by rfl)
    (timed : ps.contains .time = true := by rfl) : RunsSettled ps i s (effect (s.atTime r.time)) :=
  .of (run.trans (serve_taken taken)) keeps sub timed

/-! ### MODE_REQUEST (R223) -/

/-- R130: a code names the mode whose code it is. -/
theorem Machine.Mode.code_of_ofCode {n : Nat} {b : Mode} (named : Mode.ofCode n = some b) : n = b.code := by
  unfold Mode.ofCode at named
  split at named <;> cases named <;> rfl

/-- Where each of its own checks passes, the mode is granted. -/
theorem doneModeRequest_granted {r : Request} {s : State} {b : Mode} (granted : ModeTaken r s b) :
    doneModeRequest r (s.atTime r.time) =
      ((s.atTime r.time).authorize b (r.u 5 1) (r.bytes 8 16) (r.bytes 24 32)).2.grantMode r b := by
  obtain ⟨-, len, booted, named, idle, current, layout, may, proved, further⟩ := granted
  have code : (r.u 4 1 == Mode.safeHold.code) = (b == .safeHold) := by
    rw [Mode.code_of_ofCode named]
    cases b <;> rfl
  have pass : (s.atTime r.time).tryMode r b =
      ((s.atTime r.time).authorize b (r.u 5 1) (r.bytes 8 16) (r.bytes 24 32)).2.grantMode r b := by
    simp [State.tryMode, proved, further]
  have waits : (s.mode.change.isSome && !(b == .safeHold)) = false := by
    rcases idle with idle | hold <;> simp_all
  have stale : (!(b == .safeHold) && (r.u 0 4 == 0 || r.u 0 4 != s.mode.epoch.toNat)) = false := by
    rcases current with hold | ⟨nonzero, same⟩ <;> simp_all
  have banned : (b != s.mode.mode && !hostTransition s.mode.mode b) = false := by
    rcases may with same | may <;> simp_all
  simp [doneModeRequest, len, booted, named, code, waits, stale, layout, banned, pass]

theorem modeRequest_settled {r : Request} {s : State} {b : Mode} (granted : ModeTaken r s b) :
    RunsSettled [.time, .hub, .change, .fences, .auth, .diag, .ledger, .fabric, .vision, .buses, .eth, .fleet, .display,
        .safetyRecord, .deferred] (.modeRequest r) s
      (((s.atTime r.time).authorize b (r.u 5 1) (r.bytes 8 16) (r.bytes 24 32)).2.grantMode r b) := by
  have run : exec (.modeRequest r) s =
      .next (((s.atTime r.time).authorize b (r.u 5 1) (r.bytes 8 16) (r.bytes 24 32)).2.grantMode r b).settleDeferred := by
    rw [← doneModeRequest_granted granted]
    exact valid_holds (decide_eq_true granted.channel)
  have authorized : Moved [.hub, .change, .fences, .auth, .diag, .ledger, .fabric, .vision, .buses, .eth, .fleet, .display,
      .safetyRecord] (s.atTime r.time) ((s.atTime r.time).authorize b (r.u 5 1) (r.bytes 8 16) (r.bytes 24 32)).2 :=
    .via (State.authorize_moved ..) (.refl ..) rfl
  exact .of run (.via (State.grantMode_moved ..) authorized rfl) rfl rfl

/-- Settles O1: 21 events, each with the bound of its effect. -/
theorem hubCommandsRun : Obligations.HubCommandsRun := by
  unfold Obligations.HubCommandsRun
  exact ⟨fun _ _ _ _ _ ok holds => .eventOf (decide_eq_true ok) holds (doneDoorbell_moved ..),
    fun _ _ _ _ _ ok holds => .eventOf (decide_eq_true ok) holds (doneResetCh_moved ..),
    fun _ _ _ _ _ ok holds => .eventOf (decide_eq_true ok) holds (doneChEnable_moved ..),
    fun _ _ _ _ _ _ ok => .eventOf ok rfl (doneW1cClear_moved ..),
    fun _ _ _ _ _ ok holds => .eventOf (decide_eq_true ok) holds (doneRplHeadWrite_moved ..),
    fun _ _ _ holds => .event holds (doneTimeLoRead_moved ..),
    fun _ _ _ _ _ ok holds => .eventOf ok holds (doneRegisterWrite_moved ..),
    fun _ _ _ _ holds => .event holds (doneC24Go_moved ..),
    fun _ _ _ _ ok holds => .eventOf (decide_eq_true ok) holds (doneRequestFetch_moved ..),
    fun _ _ _ ok holds => .eventOf (decide_eq_true ok) holds (doneCoalTimeout_moved ..),
    fun _ _ holds => .event holds (doneHubRestart_moved ..),
    fun _ _ _ ok holds => .eventOf (decide_eq_true ok) holds (doneHeldItemDiscard_moved ..),
    fun _ _ _ holds => .event holds (donePcieFunctionReset_moved ..),
    fun _ _ _ ok holds => .eventOf (decide_eq_true ok) holds (doneRingDmaFail_moved ..),
    fun _ _ _ _ _ ok holds => .eventOf ok holds (doneTunnelConnect_moved ..),
    fun _ _ _ _ _ ok holds => .eventOf (decide_eq_true ok) holds (doneTunnelOpenRecord_moved ..),
    fun _ _ _ _ ok holds => .eventOf (decide_eq_true ok) holds (doneTunnelMessage_moved ..),
    fun _ _ _ ok holds => .eventOf (decide_eq_true ok) holds (doneTunnelClose_moved ..),
    fun _ _ _ ok holds => .eventOf (decide_eq_true ok) holds (doneTunnelIdleTimeout_moved ..),
    fun _ _ _ _ ok holds => .eventOf (decide_eq_true ok) holds (doneCascadeMessage_moved ..),
    fun _ _ holds => .event holds (donePerstNRelease_moved ..)⟩

/-- Settles O2: 9 requests and 5 events, each with the bound of its effect. -/
theorem systemCommandsRun : Obligations.SystemCommandsRun := by
  unfold Obligations.SystemCommandsRun
  exact ⟨fun _ _ taken => .request taken (doneIdentify_moved ..),
    fun _ _ taken => .request taken (doneInventory_moved ..),
    fun _ _ taken => .request taken (doneTimeRead_moved ..),
    fun _ _ taken => .request taken (doneChannelBind_moved ..),
    fun _ _ taken => .request taken (doneSubscribe_moved ..),
    fun _ _ taken => .request taken (doneCompatView_moved ..),
    fun _ _ taken => .request taken (doneWatchdogSet_moved ..),
    fun _ _ taken => .request taken (doneHostWatch_moved ..),
    fun _ _ taken => .request taken (doneHostBeat_moved ..),
    fun _ _ _ ok holds => .eventOf (decide_eq_true ok) holds (doneHostWatchExpiry_moved ..),
    fun _ _ holds => .event holds (doneModuleSupervisorBeat_moved ..),
    fun _ _ holds => .event holds (doneJackInTheBoxExpiry_moved ..),
    fun _ _ _ ok holds => .eventOf ok holds (doneUnitRejoin_moved ..),
    fun _ _ _ ok holds => .eventOf ok holds (doneFencedUnitTimeout_moved ..)⟩

/-- Settles O3: 6 requests and 34 events, each with the bound of its effect. -/
theorem powerCommandsRun : Obligations.PowerCommandsRun := by
  unfold Obligations.PowerCommandsRun
  exact ⟨fun _ _ _ _ holds => .event holds (donePowerOnStart_moved ..),
    fun _ _ _ holds => .event holds (doneResetNAssert_moved ..),
    fun _ _ holds => .event holds (doneResetNRelease_moved ..),
    fun _ _ _ _ ok holds => .eventOf ok holds (doneStrapSamplingDone_moved ..),
    fun _ _ _ holds => .event holds (doneHoldupWaitEnd_moved ..),
    fun _ _ holds => .event holds (doneBootCommit_moved ..),
    fun _ _ _ _ holds => .event holds (doneCrankHoldEntry_moved ..),
    fun _ _ _ _ _ _ holds => .event holds (doneCrankHoldExit_moved ..),
    fun _ _ _ _ _ holds => .event holds (doneCrankLowTimeout_moved ..),
    fun _ _ _ _ holds => .event holds (doneSupplyBelow3v_moved ..),
    fun _ _ _ _ holds => .event holds (doneOvervoltageCut_moved ..),
    fun _ _ _ _ holds => .event holds (doneOvervoltageRestore_moved ..),
    fun _ _ _ _ holds => .event holds (doneStudLost_moved ..),
    fun _ _ _ _ holds => .event holds (doneStudReturned_moved ..),
    fun _ _ _ _ holds => .event holds (doneReverseBattery_moved ..),
    fun _ _ _ holds => .event holds (doneHoldupTest_moved ..),
    fun _ _ _ holds => .event holds (doneThermalDerateCheck_moved ..),
    fun _ _ _ holds => .event holds (donePowerBudgetExceeded_moved ..),
    fun _ _ taken _ => .request taken (doneRungRequest_moved ..),
    fun _ _ taken => .request taken (doneKeepAwake_moved ..),
    fun _ _ _ ok holds => .eventOf (decide_eq_true ok) holds (doneKeepAwakeExpiry_moved ..),
    fun _ _ taken => .request taken (doneWakeConfig_moved ..),
    fun _ _ taken => .request taken (doneCanWakeFilter_moved ..),
    fun _ _ taken => .request taken (doneDescentSet_moved ..),
    fun _ _ taken => .request taken (donePowerStatus_moved ..),
    fun _ _ holds => .event holds (doneRungConditionCheck_moved ..),
    fun _ _ holds => .event holds (doneRungWaitTimeout_moved ..),
    fun _ _ _ ok holds => .eventOf ok holds (doneAutoDescentExpiry_moved ..),
    fun _ _ holds => .event holds (doneIgnRise_moved ..),
    fun _ _ holds => .event holds (doneIgnFall_moved ..),
    fun _ _ _ holds => .event holds (doneWakeInEdge_moved ..),
    fun _ _ _ ok holds => .eventOf (decide_eq_true ok) holds (doneCanWakePattern_moved ..),
    fun _ _ _ _ _ _ ok holds => .eventOf ok holds (doneCanSelectiveWake_moved ..),
    fun _ _ _ ok holds => .eventOf (decide_eq_true ok) holds (doneTc10Wake_moved ..),
    fun _ _ holds => .event holds (doneRtcAlarm_moved ..),
    fun _ _ holds => .event holds (doneUsbVbusRise_moved ..),
    fun _ _ holds => .event holds (doneAonBackupTimeout_moved ..),
    fun _ _ holds => .event holds (doneCrankLowTimerReset_moved ..),
    fun _ _ holds => .event holds (doneFarTrained_moved ..),
    fun _ _ holds => .event holds (doneUsbVbusFall_moved ..)⟩

/-- Settles O4: MODE_REQUEST by its own order of checks (R223), 8 requests and 18 events, each with the bound of its effect. -/
theorem modeCommandsRun : Obligations.ModeCommandsRun := by
  unfold Obligations.ModeCommandsRun
  exact ⟨fun _ _ _ => modeRequest_settled,
    fun _ _ holds => .event holds (doneAutoLimpEntry_moved ..),
    fun _ _ _ ok holds => .eventOf ok holds (doneConvergenceDeadline_moved ..),
    fun _ _ taken => .request taken (doneModeQuery_moved ..),
    fun _ _ taken => .request taken (doneAuthChallenge_moved ..),
    fun _ _ _ ok holds => .eventOf ok holds (doneChallengeExpiry_moved ..),
    fun _ _ _ ok holds => .eventOf ok holds (doneAuthLockoutEnd_moved ..),
    fun _ _ taken _ => .request taken (doneSelftest_moved ..),
    fun _ _ _ _ _ ok holds => .eventOf ok holds (doneSelftestEnd_moved ..),
    fun _ _ taken => .request taken (doneCounterRead_moved ..),
    fun _ _ taken => .request taken (doneCounterClear_moved ..),
    fun _ _ taken => .request taken (doneThermalRead_moved ..),
    fun _ _ holds => .event holds (doneSupWatchdogExpiry_moved ..),
    fun _ _ _ ok holds => .eventOf ok holds (doneUnitHeartbeatLoss_moved ..),
    fun _ _ _ ok holds => .eventOf (decide_eq_true ok) holds (doneIslandReportTimeout_moved ..),
    fun _ _ _ ok holds => .eventOf (decide_eq_true ok) holds (doneIslandReset_moved ..),
    fun _ _ _ ok holds => .eventOf (decide_eq_true ok) holds (doneIslandReady_moved ..),
    fun _ _ _ _ ok holds => .eventOf ok holds (doneIslandRefusal_moved ..),
    fun _ _ holds => .event holds (donePrepareTimeout_moved ..),
    fun _ _ _ ok holds => .eventOf ok holds (doneModeCommit_moved ..),
    fun _ _ _ ok holds => .eventOf ok holds (doneForcedSafeHold_moved ..),
    fun _ _ holds => .event holds (doneAutoSafeHold_moved ..),
    fun _ _ holds => .event holds (doneFldConverterFail_moved ..),
    fun _ _ taken => .request taken (doneImageActivate_moved ..),
    fun _ _ taken _ => .request taken (doneImageRevert_moved ..),
    fun _ _ _ ok holds => .eventOf ok holds (doneTrialRejoinTimeout_moved ..),
    fun _ _ _ ok holds => .eventOf ok holds (doneConfirmTimeout_moved ..)⟩

/-- Settles O5: 12 requests and 7 events, each with the bound of its effect. -/
theorem placementCommandsRun : Obligations.PlacementCommandsRun := by
  unfold Obligations.PlacementCommandsRun
  exact ⟨fun _ _ taken _ => .request taken (donePlace_moved ..),
    fun _ _ taken => .request taken (donePlacementRelease_moved ..),
    fun _ _ taken => .request taken (donePlacementPin_moved ..),
    fun _ _ taken => .request taken (donePlacementMap_moved ..),
    fun _ _ taken => .request taken (donePlacementUnmap_moved ..),
    fun _ _ taken => .request taken (donePlacementSync_moved ..),
    fun _ _ taken => .request taken (donePlacementQuery_moved ..),
    fun _ _ taken => .request taken (donePlacementCapacity_moved ..),
    fun _ _ taken => .request taken (donePlacementList_moved ..),
    fun _ _ taken => .request taken (doneQuotaSet_moved ..),
    fun _ _ taken => .request taken (doneJobPool_moved ..),
    fun _ _ taken => .request taken (doneBootViewSet_moved ..),
    fun _ _ _ => .event (cond := fun _ => true) rfl (donePromotionWindow_moved ..),
    fun _ _ _ _ holds => .event holds (doneMigrationDone_moved ..),
    fun _ _ _ _ _ holds => .event holds (doneWriteBackStart_moved ..),
    fun _ _ _ _ holds => .event holds (doneWriteBackDone_moved ..),
    fun _ _ _ _ holds => .event holds (doneShadowWrite_moved ..),
    fun _ _ _ _ _ holds => .event holds (doneTierDegraded_moved ..),
    fun _ _ _ _ holds => .event holds (doneRestoreChunkDone_moved ..)⟩

/-- Settles O6: 8 requests and 14 events, each with the bound of its effect. -/
theorem streamCommandsRun : Obligations.StreamCommandsRun := by
  unfold Obligations.StreamCommandsRun
  exact ⟨fun _ _ taken _ => .request taken (doneStreamCreate_moved ..),
    fun _ _ taken _ => .request taken (doneStreamAttach_moved ..),
    fun _ _ taken => .request taken (doneStreamDetach_moved ..),
    fun _ _ taken => .request taken (doneStreamDestroy_moved ..),
    fun _ _ taken => .request taken (doneStreamQuery_moved ..),
    fun _ _ taken => .request taken (doneLinkConfig_moved ..),
    fun _ _ taken => .request taken (doneLinkStatus_moved ..),
    fun _ _ taken => .request taken (doneLinkRetrain_moved ..),
    fun _ _ _ _ _ holds => .event holds (doneMessagePresent_moved ..),
    fun _ _ _ _ holds => .event holds (doneFlitDeliver_moved ..),
    fun _ _ _ _ holds => .event holds (doneCreditReturn_moved ..),
    fun _ _ _ _ _ _ holds => .event holds (doneRingPosted_moved ..),
    fun _ _ _ _ holds => .event holds (doneDescriptorComplete_moved ..),
    fun _ _ _ holds => .event holds (doneStreamDrainTimeout_moved ..),
    fun _ _ _ holds => .event holds (doneLinkPresence_moved ..),
    fun _ _ _ _ _ _ _ holds => .event holds (doneLinkUp_moved ..),
    fun _ _ holds => .event holds (doneLinkTrainingTimeout_moved ..),
    fun _ _ holds => .event holds (doneLinkRetryTimer_moved ..),
    fun _ _ _ _ holds => .event holds (doneLinkErrorRetrain_moved ..),
    fun _ _ _ holds => .event holds (doneLinkFlitRx_moved ..),
    fun _ _ holds => .event holds (doneLinkAckTimer_moved ..),
    fun _ _ _ holds => .event holds (doneLinkNakRx_moved ..)⟩

/-- Settles O7: 5 requests and 8 events, each with the bound of its effect. -/
theorem ledgerCommandsRun : Obligations.LedgerCommandsRun := by
  unfold Obligations.LedgerCommandsRun
  exact ⟨fun _ _ holds => .event holds (doneEventDelivery_moved ..),
    fun _ _ holds => .event holds (doneLedgerReplay_moved ..),
    fun _ _ taken => .request taken (doneLedgerStatus_moved ..),
    fun _ _ taken => .request taken (doneLedgerRead_moved ..),
    fun _ _ taken => .request taken (doneJournalConfig_moved ..),
    fun _ _ taken => .request taken (doneReplayControl_moved ..),
    fun _ _ taken => .request taken (doneLedgerOutputs_moved ..),
    fun _ _ _ holds => .event holds (doneUnitExecutionReport_moved ..),
    fun _ _ holds => .event holds (doneSnapshotTimer_moved ..),
    fun _ _ _ holds => .event holds (doneHeldRecordDeadline_moved ..),
    fun _ _ _ ok holds => .eventOf (decide_eq_true ok) holds (doneOutcomeDiscard_moved ..),
    fun _ _ holds => .event holds (doneThermalMemoryCopy_moved ..),
    fun _ _ _ ok holds => .eventOf ok holds (donePathLostHold_moved ..)⟩

/-- Settles O8: 14 requests and 5 events, each with the bound of its effect. -/
theorem controlCommandsRun : Obligations.ControlCommandsRun := by
  unfold Obligations.ControlCommandsRun
  exact ⟨fun _ _ holds => .event holds (doneLoopTick_moved ..),
    fun _ _ taken _ => .request taken (doneLoopDefine_moved ..),
    fun _ _ taken => .request taken (doneLoopClear_moved ..),
    fun _ _ taken => .request taken (doneLoopCoeff_moved ..),
    fun _ _ taken => .request taken (doneLoopLimits_moved ..),
    fun _ _ taken => .request taken (doneLoopClose_moved ..),
    fun _ _ taken => .request taken (doneLoopOpen_moved ..),
    fun _ _ taken => .request taken (doneValueWrite_moved ..),
    fun _ _ taken => .request taken (doneLoopStatus_moved ..),
    fun _ _ taken => .request taken (doneLoopRead_moved ..),
    fun _ _ taken => .request taken (doneLoopLanes_moved ..),
    fun _ _ taken => .request taken (doneLoopTrace_moved ..),
    fun _ _ taken _ => .request taken (doneLoopTune_moved ..),
    fun _ _ taken => .request taken (doneTuneAbort_moved ..),
    fun _ _ taken => .request taken (doneTuneCommit_moved ..),
    fun _ _ _ ok holds => .eventOf (decide_eq_true ok) holds (doneTuneSettleEnd_moved ..),
    fun _ _ _ ok holds => .eventOf (decide_eq_true ok) holds (doneTuneHalfCycleTimeout_moved ..),
    fun _ _ _ ok holds => .eventOf (decide_eq_true ok) holds (doneTuneTimeLimit_moved ..),
    fun _ _ _ _ _ ok holds => .eventOf (decide_eq_true ok) holds (doneSignalMessage_moved ..)⟩

/-- Settles O9: 8 requests and 5 events, each with the bound of its effect. -/
theorem functionCommandsRun : Obligations.FunctionCommandsRun := by
  unfold Obligations.FunctionCommandsRun
  exact ⟨fun _ _ holds => .event holds (doneInstanceTick_moved ..),
    fun _ _ taken => .request taken (doneFunctionDefine_moved ..),
    fun _ _ taken => .request taken (doneFunctionClear_moved ..),
    fun _ _ taken _ => .request taken (doneFunctionStart_moved ..),
    fun _ _ taken => .request taken (doneFunctionStop_moved ..),
    fun _ _ taken => .request taken (doneFunctionParams_moved ..),
    fun _ _ taken => .request taken (doneFunctionStatus_moved ..),
    fun _ _ taken _ => .request taken (doneCalibrate_moved ..),
    fun _ _ taken => .request taken (doneYieldTotals_moved ..),
    fun _ _ _ ok holds => .eventOf (decide_eq_true ok) holds (doneOnDelayExpiry_moved ..),
    fun _ _ _ ok holds => .eventOf (decide_eq_true ok) holds (doneGovernorPeriod_moved ..),
    fun _ _ _ ok holds => .eventOf (decide_eq_true ok) holds (doneYieldStep_moved ..),
    fun _ _ holds => .event holds (doneTotalsSave_moved ..)⟩

/-- Settles O10: 7 requests and 20 events, each with the bound of its effect. -/
theorem switchCommandsRun : Obligations.SwitchCommandsRun := by
  unfold Obligations.SwitchCommandsRun
  exact ⟨fun _ _ _ ok holds => .eventOf (decide_eq_true ok) holds (doneHoldMsExpiry_moved ..),
    fun _ _ taken sound => .entries taken sound (doneSwitchConfig_moved ..),
    fun _ _ taken sound => .entries taken sound (doneSwitchSet_moved ..),
    fun _ _ taken _ => .request taken (doneClearFault_moved ..),
    fun _ _ taken sound => .entries taken sound (doneServiceDrive_moved ..),
    fun _ _ taken => .request taken (doneSwitchStatus_moved ..),
    fun _ _ taken => .request taken (doneReadConfig_moved ..),
    fun _ _ taken => .request taken (doneGroupStatus_moved ..),
    fun _ _ _ _ _ holds => .event holds (doneChannelTick_moved ..),
    fun _ _ _ holds => .event holds (doneShedStepTimer_moved ..),
    fun _ _ _ _ _ ok holds => .eventOf (decide_eq_true ok) holds (doneInrushTimerExpiry_moved ..),
    fun _ _ _ _ ok holds => .eventOf (decide_eq_true ok) holds (doneHardCurrentLimit_moved ..),
    fun _ _ _ ok holds => .eventOf (decide_eq_true ok) holds (doneRetryWaitExpiry_moved ..),
    fun _ _ _ ok holds => .eventOf (decide_eq_true ok) holds (doneRetryRestore_moved ..),
    fun _ _ _ _ _ holds => .event holds (doneDisturbanceRaise_moved ..),
    fun _ _ _ _ _ holds => .event holds (doneDisturbanceClear_moved ..),
    fun _ _ _ holds => .event holds (doneLampCompensation_moved ..),
    fun _ _ _ _ ok holds => .eventOf (decide_eq_true ok) holds (doneRegErrorTimer_moved ..),
    fun _ _ _ _ ok holds => .eventOf (decide_eq_true ok) holds (doneOpenLoadTimer_moved ..),
    fun _ _ _ _ _ ok holds => .eventOf (decide_eq_true ok) holds (doneOffDiagCheck_moved ..),
    fun _ _ _ ok holds => .eventOf (decide_eq_true ok) holds (doneOfftestPulse_moved ..),
    fun _ _ _ _ ok holds => .eventOf (decide_eq_true ok) holds (doneOfftestPulseEnd_moved ..),
    fun _ _ _ ok holds => .eventOf (decide_eq_true ok) holds (doneJunctionOvertemp_moved ..),
    fun _ _ _ holds => .event holds (doneGsnsOpenDetect_moved ..),
    fun _ _ holds => .event holds (doneServiceDriveTimeout_moved ..),
    fun _ _ _ holds => .event holds (doneAmbientUpdate_moved ..),
    fun _ _ _ holds => .event holds (doneGsnsRestored_moved ..)⟩

/-- Settles O11: 7 requests and 9 events, each with the bound of its effect. -/
theorem sectionCommandsRun : Obligations.SectionCommandsRun := by
  unfold Obligations.SectionCommandsRun
  exact ⟨fun _ _ taken => .request taken (doneImplementSet_moved ..),
    fun _ _ taken => .request taken (doneSectionsSet_moved ..),
    fun _ _ taken => .request taken (doneSectionEngine_moved ..),
    fun _ _ taken => .request taken (doneSectionOverride_moved ..),
    fun _ _ taken sound => .entries taken sound (doneSectionSchedule_moved ..),
    fun _ _ taken => .request taken (doneEdgeCancel_moved ..),
    fun _ _ taken => .request taken (doneSectionStatus_moved ..),
    fun _ _ _ holds => .event holds (doneEdgeExecute_moved ..),
    fun _ _ _ holds => .event holds (doneNodeCommandSend_moved ..),
    fun _ _ _ _ _ ok holds => .eventOf ok holds (doneNodeAckRx_moved ..),
    fun _ _ _ holds => .event holds (doneNodeAckTimeout_moved ..),
    fun _ _ _ ok holds => .eventOf (decide_eq_true ok) holds (doneNodeSyncSend_moved ..),
    fun _ _ holds => .event holds (doneEngineSolution_moved ..),
    fun _ _ holds => .event holds (doneNavStaleHold_moved ..),
    fun _ _ holds => .event holds (doneNavHoldExpiry_moved ..),
    fun _ _ holds => .event holds (doneNavReturn_moved ..)⟩

/-- Settles O12: 8 requests and 14 events, each with the bound of its effect. -/
theorem navCommandsRun : Obligations.NavCommandsRun := by
  unfold Obligations.NavCommandsRun
  exact ⟨fun _ _ taken => .request taken (doneNavConfig_moved ..),
    fun _ _ taken => .request taken (doneChannelSet_moved ..),
    fun _ _ taken => .request taken (doneChannelStatus_moved ..),
    fun _ _ taken => .request taken (doneAcqAid_moved ..),
    fun _ _ taken => .request taken (doneOrbitAid_moved ..),
    fun _ _ taken => .request taken (doneNavRestart_moved ..),
    fun _ _ taken => .request taken (doneKeptStatus_moved ..),
    fun _ _ taken => .request taken (doneFrontendStatus_moved ..),
    fun _ _ _ _ holds => .event holds (doneNavStart_moved ..),
    fun _ _ _ _ _ _ _ _ holds => .event holds (doneFirstFix_moved ..),
    fun _ _ _ holds => .event holds (doneChannelReallocation_moved ..),
    fun _ _ _ ok holds => .eventOf (decide_eq_true ok) holds (doneTrackLoss_moved ..),
    fun _ _ _ holds => .event holds (doneMpIndexUpdate_moved ..),
    fun _ _ _ _ ok holds => .eventOf (decide_eq_true ok) holds (doneBocFalseLock_moved ..),
    fun _ _ _ _ _ ok holds => .eventOf ok holds (doneSpectrumUpdate_moved ..),
    fun _ _ _ _ ok holds => .eventOf (decide_eq_true ok) holds (doneAntennaBiasFault_moved ..),
    fun _ _ _ _ ok holds => .eventOf (decide_eq_true ok) holds (doneBiasRetry_moved ..),
    fun _ _ _ _ _ ok holds => .eventOf ok holds (doneGainCheck_moved ..),
    fun _ _ _ holds => .event holds (doneMeasurementEpoch_moved ..),
    fun _ _ _ ok holds => .eventOf (decide_eq_true ok) holds (doneSignalAcquired_moved ..),
    fun _ _ _ ok holds => .eventOf (decide_eq_true ok) holds (donePullInLock_moved ..),
    fun _ _ _ holds => .event holds (doneNavDataDecoded_moved ..)⟩

/-- Settles O13: 7 requests and 14 events, each with the bound of its effect. -/
theorem positionCommandsRun : Obligations.PositionCommandsRun := by
  unfold Obligations.PositionCommandsRun
  exact ⟨fun _ _ _ holds => .event holds (doneRtcmBytes_moved ..),
    fun _ _ _ _ _ holds => .event holds (doneGnssSolution_moved ..),
    fun _ _ _ holds => .event holds (doneFusedSolution_moved ..),
    fun _ _ holds => .event holds (doneFixLowTimeout_moved ..),
    fun _ _ holds => .event holds (doneIsoGuidanceCommand_moved ..),
    fun _ _ holds => .event holds (doneDeadReckoningStart_moved ..),
    fun _ _ holds => .event holds (doneDrLimitExpiry_moved ..),
    fun _ _ taken => .request taken (doneSolutionConfig_moved ..),
    fun _ _ taken => .request taken (doneSolutionRead_moved ..),
    fun _ _ taken => .request taken (doneGuideLine_moved ..),
    fun _ _ taken => .request taken (doneSteer_moved ..),
    fun _ _ taken => .request taken (doneRtkStatus_moved ..),
    fun _ _ _ holds => .event holds (doneLinkTimeFlit_moved ..),
    fun _ _ _ holds => .event holds (doneHoldoverStart_moved ..),
    fun _ _ _ holds => .event holds (doneHoldoverLimit_moved ..),
    fun _ _ _ holds => .event holds (doneGnssTimeReturn_moved ..),
    fun _ _ _ _ holds => .event holds (doneTimingMessage_moved ..),
    fun _ _ taken => .request taken (doneTimeConfig_moved ..),
    fun _ _ taken => .request taken (doneTimeStatus_moved ..),
    fun _ _ holds => .event holds (doneModuleTimeTick_moved ..),
    fun _ _ holds => .event holds (doneTimePulse_moved ..)⟩

/-- Settles O14: 9 requests and 13 events, each with the bound of its effect. -/
theorem cameraCommandsRun : Obligations.CameraCommandsRun := by
  unfold Obligations.CameraCommandsRun
  exact ⟨fun _ _ taken => .request taken (doneCameraPortConfig_moved ..),
    fun _ _ taken => .request taken (doneCameraEnable_moved ..),
    fun _ _ taken => .request taken (doneFsyncSet_moved ..),
    fun _ _ taken => .request taken (doneCtrlXfer_moved ..),
    fun _ _ taken => .request taken (doneCameraPortStatus_moved ..),
    fun _ _ _ ok holds => .eventOf (decide_eq_true ok) holds (doneCameraLinkLock_moved ..),
    fun _ _ _ ok holds => .eventOf (decide_eq_true ok) holds (doneCameraLinkLoss_moved ..),
    fun _ _ _ _ ok holds => .eventOf (decide_eq_true ok) holds (donePocOvercurrent_moved ..),
    fun _ _ _ => .event (cond := fun _ => true) rfl (donePocTotalLimit_moved ..),
    fun _ _ holds => .event holds (doneBridgeSupplyFault_moved ..),
    fun _ _ holds => .event holds (doneBridgeResetRelease_moved ..),
    fun _ _ _ ok holds => .eventOf (decide_eq_true ok) holds (doneFsyncPulse_moved ..),
    fun _ _ _ _ ok holds => .eventOf (decide_eq_true ok) holds (doneCsiPacket_moved ..),
    fun _ _ _ ok holds => .eventOf (decide_eq_true ok) holds (doneFrameTimeout_moved ..),
    fun _ _ _ ok holds => .eventOf (decide_eq_true ok) holds (doneNoFramesTimeout_moved ..),
    fun _ _ _ ok holds => .eventOf (decide_eq_true ok) holds (doneFrameEnd_moved ..),
    fun _ _ _ ok holds => .eventOf (decide_eq_true ok) holds (donePipelineLine_moved ..),
    fun _ _ _ ok holds => .eventOf (decide_eq_true ok) holds (donePipelineFrameOutput_moved ..),
    fun _ _ taken => .request taken (doneStageSet_moved ..),
    fun _ _ taken => .request taken (doneOutputSet_moved ..),
    fun _ _ taken => .request taken (doneOutputStatus_moved ..),
    fun _ _ taken => .request taken (donePipeStatus_moved ..)⟩

/-- Settles O15: 8 requests and 6 events, each with the bound of its effect. -/
theorem inferenceCommandsRun : Obligations.InferenceCommandsRun := by
  unfold Obligations.InferenceCommandsRun
  exact ⟨fun _ _ taken => .request taken (doneModelLoad_moved ..),
    fun _ _ taken => .request taken (doneModelUnload_moved ..),
    fun _ _ taken => .request taken (doneJobDefine_moved ..),
    fun _ _ taken => .request taken (doneJobClear_moved ..),
    fun _ _ taken => .request taken (doneJobStart_moved ..),
    fun _ _ taken => .request taken (doneJobStop_moved ..),
    fun _ _ taken => .of (poolDone_taken taken) (donePoolDone_moved ..) rfl rfl,
    fun _ _ taken => .request taken (doneJobStatus_moved ..),
    fun _ _ _ _ _ ok holds => .eventOf (decide_eq_true ok) holds (doneInferenceInput_moved ..),
    fun _ _ _ ok holds => .eventOf (decide_eq_true ok) holds (doneInputPlacement_moved ..),
    fun _ _ holds => .event holds (doneRunStart_moved ..),
    fun _ _ _ ok holds => .eventOf (decide_eq_true ok) holds (doneLayerPreempt_moved ..),
    fun _ _ _ _ ok holds => .eventOf (decide_eq_true ok) holds (doneRunEnd_moved ..),
    fun _ _ _ _ ok holds => .eventOf (decide_eq_true ok) holds (donePoolTimeout_moved ..)⟩

/-- Settles O16: 11 requests and 12 events, each with the bound of its effect. -/
theorem busCommandsRun : Obligations.BusCommandsRun := by
  unfold Obligations.BusCommandsRun
  exact ⟨fun _ _ taken => .request taken (doneBusConfig_moved ..),
    fun _ _ taken => .request taken (doneBusControl_moved ..),
    fun _ _ taken => .request taken (doneFilterSet_moved ..),
    fun _ _ taken => .request taken (doneCompatSet_moved ..),
    fun _ _ taken => .request taken (doneQueueConfig_moved ..),
    fun _ _ taken => .request taken (doneRxRead_moved ..),
    fun _ _ taken => .request taken (doneTxWrite_moved ..),
    fun _ _ taken => .request taken (doneTxAbort_moved ..),
    fun _ _ taken => .request taken (doneBusStatus_moved ..),
    fun _ _ taken => .request taken (doneCfClaim_moved ..),
    fun _ _ taken => .request taken (donePgnSend_moved ..),
    fun _ _ _ _ ok holds => .eventOf (decide_eq_true ok) holds (doneCanFrameRx_moved ..),
    fun _ _ _ _ ok holds => .eventOf ok holds (doneTxNotBefore_moved ..),
    fun _ _ _ _ _ ok holds => .eventOf (decide_eq_true ok) holds (doneTxAttemptEnd_moved ..),
    fun _ _ _ _ _ _ ok holds => .eventOf (decide_eq_true ok) holds (doneBusError_moved ..),
    fun _ _ _ ok holds => .eventOf (decide_eq_true ok) holds (doneBusOffDelayExpiry_moved ..),
    fun _ _ _ ok holds => .eventOf (decide_eq_true ok) holds (doneRecoveryComplete_moved ..),
    fun _ _ _ _ ok holds => .eventOf ok holds (doneQueueBatchTimeout_moved ..),
    fun _ _ _ _ ok holds => .eventOf ok holds (doneAddressClaimTimer_moved ..),
    fun _ _ _ _ ok holds => .eventOf (decide_eq_true ok) holds (doneTransportPacketRx_moved ..),
    fun _ _ _ _ ok holds => .eventOf (decide_eq_true ok) holds (doneTransportTimeout_moved ..),
    fun _ _ _ _ ok holds => .eventOf (decide_eq_true ok) holds (doneBamPacketTimer_moved ..),
    fun _ _ _ ok holds => .eventOf (decide_eq_true ok) holds (doneBusIntegrated_moved ..)⟩

/-- Settles O17: 9 requests and 12 events, each with the bound of its effect. -/
theorem netCommandsRun : Obligations.NetCommandsRun := by
  unfold Obligations.NetCommandsRun
  exact ⟨fun _ _ taken => .request taken (doneEthPortConfig_moved ..),
    fun _ _ taken => .request taken (doneEthPortStatus_moved ..),
    fun _ _ taken => .request taken (doneGateSet_moved ..),
    fun _ _ taken => .request taken (doneSyncConfig_moved ..),
    fun _ _ taken => .request taken (doneIpConfig_moved ..),
    fun _ _ taken => .request taken (doneNodeSet_moved ..),
    fun _ _ _ _ ok holds => .eventOf (decide_eq_true ok) holds (doneEthFrameRx_moved ..),
    fun _ _ _ => .event (cond := fun _ => true) rfl (doneAddressAgeing_moved ..),
    fun _ _ _ _ _ _ ok holds => .eventOf (decide_eq_true ok) holds (doneEthLinkChange_moved ..),
    fun _ _ holds => .event holds (doneGptpSyncTx_moved ..),
    fun _ _ holds => .event holds (doneGptpAnnounceTx_moved ..),
    fun _ _ holds => .event holds (donePdelayTx_moved ..),
    fun _ _ _ ok holds => .eventOf (decide_eq_true ok) holds (doneGateEntryStart_moved ..),
    fun _ _ _ ok holds => .eventOf (decide_eq_true ok) holds (doneGateListAdopt_moved ..),
    fun _ _ taken => .request taken (doneFleetConfig_moved ..),
    fun _ _ taken => .request taken (doneFleetStatus_moved ..),
    fun _ _ taken => .request taken (doneMapMerge_moved ..),
    fun _ _ holds => .event holds (doneMergeJobEnd_moved ..),
    fun _ _ holds => .event holds (doneFleetExchange_moved ..),
    fun _ _ _ _ ok holds => .eventOf (decide_eq_true ok) holds (doneFleetDatagramRx_moved ..),
    fun _ _ _ holds => .event holds (donePlcaFallback_moved ..)⟩

/-- Settles O18: 7 requests and 15 events, each with the bound of its effect. -/
theorem fieldCommandsRun : Obligations.FieldCommandsRun := by
  unfold Obligations.FieldCommandsRun
  exact ⟨fun _ _ _ holds => .event holds (doneFsupLow_moved ..),
    fun _ _ _ holds => .event holds (doneFsupLost_moved ..),
    fun _ _ _ holds => .event holds (doneFsupRestored_moved ..),
    fun _ _ _ _ _ ok holds => .eventOf (decide_eq_true ok) holds (doneFiLevelAccept_moved ..),
    fun _ _ holds => .event holds (doneFiChangeMessage_moved ..),
    fun _ _ _ _ ok holds => .eventOf (decide_eq_true ok) holds (doneWireBreakDetect_moved ..),
    fun _ _ _ _ ok holds => .eventOf (decide_eq_true ok) holds (doneWireBreakClear_moved ..),
    fun _ _ _ _ ok holds => .eventOf (decide_eq_true ok) holds (doneFoShort_moved ..),
    fun _ _ _ _ _ ok holds => .eventOf (decide_eq_true ok) holds (doneFoOvertemp_moved ..),
    fun _ _ _ _ ok holds => .eventOf (decide_eq_true ok) holds (doneFoOpenLoad_moved ..),
    fun _ _ _ _ _ ok holds => .eventOf (decide_eq_true ok) holds (doneSiConversion_moved ..),
    fun _ _ _ ok holds => .eventOf (decide_eq_true ok) holds (doneShuntReenable_moved ..),
    fun _ _ _ ok holds => .eventOf (decide_eq_true ok) holds (doneAcousticHit_moved ..),
    fun _ _ _ _ ok holds => .eventOf (decide_eq_true ok) holds (doneSup5Fault_moved ..),
    fun _ _ _ _ _ ok holds => .eventOf (decide_eq_true ok) holds (doneSup5Retry_moved ..),
    fun _ _ taken => .request taken (doneFiConfig_moved ..),
    fun _ _ taken => .request taken (doneFoConfig_moved ..),
    fun _ _ taken => .request taken (doneSiConfig_moved ..),
    fun _ _ taken sound => .entries taken sound (doneFoSet_moved ..),
    fun _ _ taken => .request taken (doneFoClear_moved ..),
    fun _ _ taken => .request taken (doneFieldStatus_moved ..),
    fun _ _ taken => .request taken (doneSiStatus_moved ..)⟩

/-- Settles O19: 5 requests and 11 events, each with the bound of its effect. -/
theorem displayCommandsRun : Obligations.DisplayCommandsRun := by
  unfold Obligations.DisplayCommandsRun
  exact ⟨fun _ _ taken => .request taken (doneDisplayConfig_moved ..),
    fun _ _ taken => .request taken (doneWaveformLoad_moved ..),
    fun _ _ taken => .of (displayUpdate_taken taken) (doneDisplayUpdate_moved ..) rfl rfl,
    fun _ _ taken => .request taken (doneFrontLight_moved ..),
    fun _ _ taken => .request taken (doneDisplayStatus_moved ..),
    fun _ _ _ _ _ holds => .event holds (donePanelDetectChange_moved ..),
    fun _ _ holds => .event holds (doneRailPowerUp_moved ..),
    fun _ _ _ holds => .event holds (doneRailFault_moved ..),
    fun _ _ holds => .event holds (doneRailRetry_moved ..),
    fun _ _ holds => .event holds (doneDischargeSequence_moved ..),
    fun _ _ holds => .event holds (doneDisplayIdleTimeout_moved ..),
    fun _ _ holds => .event holds (donePanelTempTimeout_moved ..),
    fun _ _ _ holds => .event holds (doneUpdateStart_moved ..),
    fun _ _ holds => .event holds (doneDisplayFrameEnd_moved ..),
    fun _ _ _ holds => .event holds (doneRestoration_moved ..),
    fun _ _ holds => .event holds (doneFrontLightFault_moved ..)⟩

/-- Settles O20: 8 requests and 16 events, each with the bound of its effect. -/
theorem safetyCommandsRun : Obligations.SafetyCommandsRun := by
  unfold Obligations.SafetyCommandsRun
  exact ⟨fun _ _ _ holds => .event holds (doneSafetyLogicCycle_moved ..),
    fun _ _ _ holds => .event holds (doneSafeInSample_moved ..),
    fun _ _ _ ok holds => .eventOf (decide_eq_true ok) holds (doneSafeInAccept_moved ..),
    fun _ _ _ holds => .event holds (doneInputPathTest_moved ..),
    fun _ _ _ holds => .event holds (doneSafeRstEdge_moved ..),
    fun _ _ holds => .event holds (doneSafeRstStuck_moved ..),
    fun _ _ _ ok holds => .eventOf (decide_eq_true ok) holds (doneSafeTestPulse_moved ..),
    fun _ _ _ _ ok holds => .eventOf (decide_eq_true ok) holds (doneSafeTestPulseEnd_moved ..),
    fun _ _ _ ok holds => .eventOf (decide_eq_true ok) holds (doneSafeOutOvercurrent_moved ..),
    fun _ _ _ _ ok holds => .eventOf (decide_eq_true ok) holds (doneSafeOpenLoad_moved ..),
    fun _ _ _ ok holds => .eventOf (decide_eq_true ok) holds (doneStopDelayExpiry_moved ..),
    fun _ _ _ holds => .event holds (doneRamMarch_moved ..),
    fun _ _ _ holds => .event holds (doneCodeCrcCheck_moved ..),
    fun _ _ _ holds => .event holds (doneClockCompare_moved ..),
    fun _ _ _ ok holds => .eventOf (decide_eq_true ok) holds (doneSafSelftest_moved ..),
    fun _ _ taken => .request taken (doneSafetyStatus_moved ..),
    fun _ _ taken => .request taken (doneConfigRead_moved ..),
    fun _ _ taken => .request taken (doneConfigStage_moved ..),
    fun _ _ taken => .request taken (doneConfigCommit_moved ..),
    fun _ _ taken => .request taken (doneSafetyValidate_moved ..),
    fun _ _ taken => .request taken (donePasswordSet_moved ..),
    fun _ _ taken => .request taken (doneLogRead_moved ..),
    fun _ _ taken => .request taken (doneOffRequest_moved ..),
    fun _ _ holds => .event holds (doneRstStuckClear_moved ..)⟩

/-- Settles O21: 12 requests and 5 events, each with the bound of its effect. -/
theorem updateCommandsRun : Obligations.UpdateCommandsRun := by
  unfold Obligations.UpdateCommandsRun
  exact ⟨fun _ _ taken _ => .request taken (doneImageInstall_moved ..),
    fun _ _ _ holds => .event holds (doneInstallDataComplete_moved ..),
    fun _ _ holds => .event holds (doneInstallTimeout_moved ..),
    fun _ _ taken => .request taken (doneImageConfirm_moved ..),
    fun _ _ taken => .request taken (doneImageStatus_moved ..),
    fun _ _ taken => .request taken (donePolicySet_moved ..),
    fun _ _ taken _ => .request taken (doneRecoveryEnter_moved ..),
    fun _ _ taken => .request taken (doneRecoveryLoad_moved ..),
    fun _ _ _ holds => .event holds (doneRecoverySession_moved ..),
    fun _ _ taken => .request taken (doneInstallAbort_moved ..),
    fun _ _ _ ok holds => .eventOf ok holds (doneLoaderCopyDone_moved ..),
    fun _ _ taken => .request taken (doneIdentitySet_moved ..),
    fun _ _ taken => .request taken (doneKeyPublic_moved ..),
    fun _ _ taken => .request taken (doneKeySet_moved ..),
    fun _ _ taken => .request taken (doneKeyClear_moved ..),
    fun _ _ taken => .request taken (doneKeyStatus_moved ..),
    fun _ _ holds => .event holds (doneRecoverySessionClose_moved ..)⟩

end Sys2Proof

/-! SUPPORT. The one thing every command is: an event of the module, a request served past its gate, or MODE_REQUEST with its own
order of checks. What every step keeps follows from the shape. -/

namespace Sys2Proof

open Machine

set_option Elab.async false

/-! ### What a command may reach -/

/-- The commands that raise the epoch (R136). -/
def Instr.commits : Instr → Bool
  | .bootCommit _ | .modeCommit _ _ | .forcedSafeHold _ _ => true
  | _ => false

/-- The requests that may change what the safety island does (R737). -/
def Instr.reachesSafety : Instr → Bool
  | .configCommit _ | .selftest _ | .imageActivate _ | .imageRevert _ | .recoveryEnter _ | .offRequest _ => true
  | _ => false

/-- The parts that the requests deferred until the end of a mode change may reach (R121, R138, R143). -/
def settledParts : List Part :=
  [.time, .hub, .power, .rung, .mode, .change, .fences, .islands, .auth, .diag, .jack, .ledger, .control, .stage, .functions,
    .fieldIo, .place, .fabric, .nav, .vision, .infer, .buses, .eth, .fleet, .display, .safety, .safetyRecord, .update, .sections,
    .freeCount, .deferred]

theorem Moved.widen {ps qs : List Part} {s t : State} (h : Moved qs s t) (sub : qs.all ps.contains = true) : Moved ps s t :=
  .via h (.refl ..) sub

theorem all_contains_append_left (ps qs : List Part) : ps.all (ps ++ qs).contains = true :=
  List.all_eq_true.mpr fun _ h => by simp [h]

theorem all_contains_append_right (ps qs : List Part) : qs.all (ps ++ qs).contains = true :=
  List.all_eq_true.mpr fun _ h => by simp [h]

/-- One change after another touches what either touches. -/
theorem Moved.append {ps qs : List Part} {s t u : State} (h : Moved ps s t) (k : Moved qs t u) : Moved (ps ++ qs) s u :=
  .via k (h.widen (all_contains_append_left ..)) (all_contains_append_right ..)

theorem settling_moved {qs : List Part} {effect : State → State} (h : ∀ v, Moved qs v (effect v)) (v : State) :
    Moved (qs ++ settledParts) v (settling effect v) :=
  (h v).append (State.settleDeferred_moved _)

/-! ### The shape of a command -/

/-- Every command is an event, a request, a request of entries, or MODE_REQUEST; its effect leaves the queue alone, raises the
epoch only where it commits, and as a request leaves what the safety island does, but for those that reach it. A request may be
counted before it is served (R613, R724). -/
inductive Shape (i : Instr) (s : State) : Prop
  | event {t : Nat} {cond : State → Bool} {effect : State → State} {qs : List Part} (keeps : ∀ v, Moved qs v (effect v))
      (run : exec i s = valid i.wf (Machine.event t s cond effect) := by rfl) (asked : i.asked s = none := by rfl)
      (queue : qs.contains .pending = false := by rfl) (epoch : (i.commits || !qs.contains .epoch) = true := by rfl)
  | counted {o : OpSpec} {u : Nat} {r : Request} {v : State} {checks : State → List (Bool × Status)} {effect : State → State}
      {qs : List Part} (keeps : ∀ v, Moved qs v (effect v)) (before : Moved [.diag] s v)
      (run : exec i s = serve o u r v checks effect) (asked : i.asked s = some (o, u, r))
      (exists_ : i.wf = decide (r.ch < 64)) (queue : qs.contains .pending = false) (epoch : qs.contains .epoch = false)
      (safety : (i.reachesSafety || !qs.contains .safety) = true)
  | entries {o : OpSpec} {u : Nat} {r : Request} {named : Bool} {checks : State → List (Bool × Status)}
      {entries : State → List (List (Bool × Status))} {effect : State → State}
      {qs : List Part} (keeps : ∀ v, Moved qs v (effect v))
      (run : exec i s = serveEntries o u r s named checks entries effect := by rfl)
      (asked : i.asked s = some (o, u, r) := by rfl) (exists_ : i.wf = decide (r.ch < 64) := by rfl)
      (queue : qs.contains .pending = false := by rfl) (epoch : qs.contains .epoch = false := by rfl)
      (safety : qs.contains .safety = false := by rfl)
  | modeRequest (r : Request) (is : i = .modeRequest r)

theorem Shape.request {i : Instr} {s : State} {o : OpSpec} {u : Nat} {r : Request} {checks : State → List (Bool × Status)}
    {effect : State → State} {qs : List Part} (keeps : ∀ v, Moved qs v (effect v))
    (run : exec i s = serve o u r s checks effect := by rfl) (asked : i.asked s = some (o, u, r) := by rfl)
    (exists_ : i.wf = decide (r.ch < 64) := by rfl) (queue : qs.contains .pending = false := by rfl)
    (epoch : qs.contains .epoch = false := by rfl)
    (safety : (i.reachesSafety || !qs.contains .safety) = true := by rfl) : Shape i s :=
  .counted keeps (.refl ..) run asked exists_ queue epoch safety

/-- A request is counted where a condition holds, and served either way. -/
theorem counted_before (s : State) (b : Bool) (unit n : Nat) : Moved [.diag] s (if b then s.count unit n else s) :=
  .ite (State.count_moved ..) (.refl ..)

set_option maxRecDepth 4000 in
/-- The shape of each command, with the bound of its effect. -/
theorem exec_shape (i : Instr) (s : State) : Shape i s := by
  cases i with
  | doorbell => exact .event (fun _ => doneDoorbell_moved ..)
  | resetCh => exact .event (fun _ => doneResetCh_moved ..)
  | chEnable => exact .event (fun _ => doneChEnable_moved ..)
  | w1cClear => exact .event (fun _ => doneW1cClear_moved ..)
  | rplHeadWrite => exact .event (fun _ => doneRplHeadWrite_moved ..)
  | timeLoRead => exact .event (fun _ => doneTimeLoRead_moved ..)
  | registerWrite => exact .event (fun _ => doneRegisterWrite_moved ..)
  | c24Go => exact .event (fun _ => doneC24Go_moved ..)
  | requestFetch => exact .event (fun _ => doneRequestFetch_moved ..)
  | eventDelivery => exact .event (fun _ => doneEventDelivery_moved ..)
  | coalTimeout => exact .event (fun _ => doneCoalTimeout_moved ..)
  | hubRestart => exact .event (fun _ => doneHubRestart_moved ..)
  | heldItemDiscard => exact .event (fun _ => doneHeldItemDiscard_moved ..)
  | pcieFunctionReset => exact .event (fun _ => donePcieFunctionReset_moved ..)
  | ringDmaFail => exact .event (fun _ => doneRingDmaFail_moved ..)
  | tunnelConnect => exact .event (fun _ => doneTunnelConnect_moved ..)
  | tunnelOpenRecord => exact .event (fun _ => doneTunnelOpenRecord_moved ..)
  | tunnelMessage => exact .event (fun _ => doneTunnelMessage_moved ..)
  | tunnelClose => exact .event (fun _ => doneTunnelClose_moved ..)
  | tunnelIdleTimeout => exact .event (fun _ => doneTunnelIdleTimeout_moved ..)
  | cascadeMessage => exact .event (fun _ => doneCascadeMessage_moved ..)
  | identify r => exact .request (checks := fun _ => []) (doneIdentify_moved r)
  | inventory r => exact .request (checks := fun _ => []) (doneInventory_moved r)
  | timeRead r => exact .request (checks := fun _ => []) (doneTimeRead_moved r)
  | channelBind r => exact .request (doneChannelBind_moved r)
  | subscribe r => exact .request (doneSubscribe_moved r)
  | compatView r => exact .request (doneCompatView_moved r)
  | watchdogSet r => exact .request (doneWatchdogSet_moved r)
  | hostWatch r => exact .request (doneHostWatch_moved r)
  | hostBeat r => exact .request (checks := fun _ => []) (doneHostBeat_moved r)
  | hostWatchExpiry => exact .event (fun _ => doneHostWatchExpiry_moved ..)
  | moduleSupervisorBeat => exact .event (fun _ => doneModuleSupervisorBeat_moved ..)
  | jackInTheBoxExpiry => exact .event (fun _ => doneJackInTheBoxExpiry_moved ..)
  | supWatchdogExpiry => exact .event (settling_moved fun _ => doneSupWatchdogExpiry_moved ..)
  | unitHeartbeatLoss => exact .event (settling_moved fun _ => doneUnitHeartbeatLoss_moved ..)
  | islandReportTimeout => exact .event (settling_moved fun _ => doneIslandReportTimeout_moved ..)
  | islandReset => exact .event (settling_moved fun _ => doneIslandReset_moved ..)
  | unitRejoin => exact .event (fun _ => doneUnitRejoin_moved ..)
  | fencedUnitTimeout => exact .event (fun _ => doneFencedUnitTimeout_moved ..)
  | powerOnStart => exact .event (fun _ => donePowerOnStart_moved ..)
  | resetNAssert => exact .event (fun _ => doneResetNAssert_moved ..)
  | resetNRelease => exact .event (fun _ => doneResetNRelease_moved ..)
  | strapSamplingDone => exact .event (fun _ => doneStrapSamplingDone_moved ..)
  | holdupWaitEnd => exact .event (fun _ => doneHoldupWaitEnd_moved ..)
  | bootCommit => exact .event (fun _ => doneBootCommit_moved ..)
  | ledgerReplay => exact .event (fun _ => doneLedgerReplay_moved ..)
  | crankHoldEntry => exact .event (fun _ => doneCrankHoldEntry_moved ..)
  | crankHoldExit => exact .event (fun _ => doneCrankHoldExit_moved ..)
  | crankLowTimeout => exact .event (fun _ => doneCrankLowTimeout_moved ..)
  | supplyBelow3v => exact .event (fun _ => doneSupplyBelow3v_moved ..)
  | overvoltageCut => exact .event (fun _ => doneOvervoltageCut_moved ..)
  | overvoltageRestore => exact .event (fun _ => doneOvervoltageRestore_moved ..)
  | studLost => exact .event (fun _ => doneStudLost_moved ..)
  | studReturned => exact .event (fun _ => doneStudReturned_moved ..)
  | reverseBattery => exact .event (fun _ => doneReverseBattery_moved ..)
  | holdupTest => exact .event (fun _ => doneHoldupTest_moved ..)
  | thermalDerateCheck => exact .event (fun _ => doneThermalDerateCheck_moved ..)
  | powerBudgetExceeded => exact .event (fun _ => donePowerBudgetExceeded_moved ..)
  | rungRequest r => exact .request (doneRungRequest_moved r)
  | keepAwake r => exact .request (doneKeepAwake_moved r)
  | keepAwakeExpiry => exact .event (fun _ => doneKeepAwakeExpiry_moved ..)
  | wakeConfig r => exact .request (doneWakeConfig_moved r)
  | canWakeFilter r => exact .request (doneCanWakeFilter_moved r)
  | descentSet r => exact .request (doneDescentSet_moved r)
  | powerStatus r => exact .request (checks := fun _ => []) (donePowerStatus_moved r)
  | rungConditionCheck => exact .event (fun _ => doneRungConditionCheck_moved ..)
  | rungWaitTimeout => exact .event (fun _ => doneRungWaitTimeout_moved ..)
  | autoDescentExpiry => exact .event (fun _ => doneAutoDescentExpiry_moved ..)
  | ignRise => exact .event (fun _ => doneIgnRise_moved ..)
  | ignFall => exact .event (fun _ => doneIgnFall_moved ..)
  | wakeInEdge => exact .event (fun _ => doneWakeInEdge_moved ..)
  | canWakePattern => exact .event (fun _ => doneCanWakePattern_moved ..)
  | canSelectiveWake => exact .event (fun _ => doneCanSelectiveWake_moved ..)
  | tc10Wake => exact .event (fun _ => doneTc10Wake_moved ..)
  | rtcAlarm => exact .event (fun _ => doneRtcAlarm_moved ..)
  | usbVbusRise => exact .event (fun _ => doneUsbVbusRise_moved ..)
  | aonBackupTimeout => exact .event (fun _ => doneAonBackupTimeout_moved ..)
  | modeRequest r => exact .modeRequest r rfl
  | islandReady => exact .event (settling_moved fun _ => doneIslandReady_moved ..)
  | islandRefusal => exact .event (settling_moved fun _ => doneIslandRefusal_moved ..)
  | prepareTimeout => exact .event (settling_moved fun _ => donePrepareTimeout_moved ..)
  | modeCommit => exact .event (settling_moved fun _ => doneModeCommit_moved ..)
  | forcedSafeHold => exact .event (settling_moved fun _ => doneForcedSafeHold_moved ..)
  | autoLimpEntry => exact .event (fun _ => doneAutoLimpEntry_moved ..)
  | autoSafeHold => exact .event (settling_moved fun _ => doneAutoSafeHold_moved ..)
  | convergenceDeadline => exact .event (fun _ => doneConvergenceDeadline_moved ..)
  | modeQuery r => exact .request (checks := fun _ => []) (doneModeQuery_moved r)
  | authChallenge r => exact .request (doneAuthChallenge_moved r)
  | challengeExpiry => exact .event (fun _ => doneChallengeExpiry_moved ..)
  | authLockoutEnd => exact .event (fun _ => doneAuthLockoutEnd_moved ..)
  | selftest r => exact .request (doneSelftest_moved r)
  | selftestEnd => exact .event (fun _ => doneSelftestEnd_moved ..)
  | counterRead r => exact .request (doneCounterRead_moved r)
  | counterClear r => exact .request (doneCounterClear_moved r)
  | thermalRead r => exact .request (checks := fun _ => []) (doneThermalRead_moved r)
  | moduleTimeTick => exact .event (fun _ => doneModuleTimeTick_moved ..)
  | place r => exact .request (donePlace_moved r)
  | placementRelease r => exact .request (donePlacementRelease_moved r)
  | placementPin r => exact .request (donePlacementPin_moved r)
  | placementMap r => exact .request (donePlacementMap_moved r)
  | placementUnmap r => exact .request (donePlacementUnmap_moved r)
  | placementSync r => exact .request (donePlacementSync_moved r)
  | placementQuery r => exact .request (donePlacementQuery_moved r)
  | placementCapacity r => exact .request (checks := fun _ => []) (donePlacementCapacity_moved r)
  | placementList r => exact .request (checks := fun _ => []) (donePlacementList_moved r)
  | quotaSet r => exact .request (doneQuotaSet_moved r)
  | jobPool r => exact .request (doneJobPool_moved r)
  | bootViewSet r => exact .request (doneBootViewSet_moved r)
  | promotionWindow => exact .event (fun _ => donePromotionWindow_moved ..)
  | migrationDone => exact .event (fun _ => doneMigrationDone_moved ..)
  | writeBackStart => exact .event (fun _ => doneWriteBackStart_moved ..)
  | writeBackDone => exact .event (fun _ => doneWriteBackDone_moved ..)
  | shadowWrite => exact .event (fun _ => doneShadowWrite_moved ..)
  | tierDegraded => exact .event (fun _ => doneTierDegraded_moved ..)
  | restoreChunkDone => exact .event (fun _ => doneRestoreChunkDone_moved ..)
  | streamCreate r => exact .request (doneStreamCreate_moved r)
  | streamAttach r => exact .request (doneStreamAttach_moved r)
  | streamDetach r => exact .request (doneStreamDetach_moved r)
  | streamDestroy r => exact .request (doneStreamDestroy_moved r)
  | streamQuery r => exact .request (doneStreamQuery_moved r)
  | linkConfig r => exact .request (doneLinkConfig_moved r)
  | linkStatus r => exact .request (checks := fun _ => []) (doneLinkStatus_moved r)
  | linkRetrain r => exact .request (doneLinkRetrain_moved r)
  | messagePresent => exact .event (fun _ => doneMessagePresent_moved ..)
  | flitDeliver => exact .event (fun _ => doneFlitDeliver_moved ..)
  | creditReturn => exact .event (fun _ => doneCreditReturn_moved ..)
  | ringPosted => exact .event (fun _ => doneRingPosted_moved ..)
  | descriptorComplete => exact .event (fun _ => doneDescriptorComplete_moved ..)
  | streamDrainTimeout => exact .event (fun _ => doneStreamDrainTimeout_moved ..)
  | linkPresence => exact .event (fun _ => doneLinkPresence_moved ..)
  | linkUp => exact .event (fun _ => doneLinkUp_moved ..)
  | linkTrainingTimeout => exact .event (fun _ => doneLinkTrainingTimeout_moved ..)
  | linkRetryTimer => exact .event (fun _ => doneLinkRetryTimer_moved ..)
  | linkErrorRetrain => exact .event (fun _ => doneLinkErrorRetrain_moved ..)
  | linkFlitRx => exact .event (fun _ => doneLinkFlitRx_moved ..)
  | linkAckTimer => exact .event (fun _ => doneLinkAckTimer_moved ..)
  | linkNakRx => exact .event (fun _ => doneLinkNakRx_moved ..)
  | linkTimeFlit => exact .event (fun _ => doneLinkTimeFlit_moved ..)
  | ledgerStatus r => exact .request (checks := fun _ => []) (doneLedgerStatus_moved r)
  | ledgerRead r => exact .request (doneLedgerRead_moved r)
  | journalConfig r => exact .request (doneJournalConfig_moved r)
  | replayControl r => exact .request (doneReplayControl_moved r)
  | ledgerOutputs r => exact .request (checks := fun _ => []) (doneLedgerOutputs_moved r)
  | unitExecutionReport => exact .event (fun _ => doneUnitExecutionReport_moved ..)
  | snapshotTimer => exact .event (fun _ => doneSnapshotTimer_moved ..)
  | heldRecordDeadline => exact .event (fun _ => doneHeldRecordDeadline_moved ..)
  | outcomeDiscard => exact .event (fun _ => doneOutcomeDiscard_moved ..)
  | thermalMemoryCopy => exact .event (fun _ => doneThermalMemoryCopy_moved ..)
  | pathLostHold => exact .event (fun _ => donePathLostHold_moved ..)
  | holdMsExpiry => exact .event (fun _ => doneHoldMsExpiry_moved ..)
  | loopTick => exact .event (fun _ => doneLoopTick_moved ..)
  | loopDefine r => exact .request (doneLoopDefine_moved r)
  | loopClear r => exact .request (doneLoopClear_moved r)
  | loopCoeff r => exact .request (doneLoopCoeff_moved r)
  | loopLimits r => exact .request (doneLoopLimits_moved r)
  | loopClose r => exact .request (doneLoopClose_moved r)
  | loopOpen r => exact .request (doneLoopOpen_moved r)
  | valueWrite r => exact .request (doneValueWrite_moved r)
  | loopStatus r => exact .request (doneLoopStatus_moved r)
  | loopRead r => exact .request (doneLoopRead_moved r)
  | loopLanes r => exact .request (checks := fun _ => []) (doneLoopLanes_moved r)
  | loopTrace r => exact .request (doneLoopTrace_moved r)
  | loopTune r => exact .request (doneLoopTune_moved r)
  | tuneAbort r => exact .request (doneTuneAbort_moved r)
  | tuneCommit r => exact .request (doneTuneCommit_moved r)
  | tuneSettleEnd => exact .event (fun _ => doneTuneSettleEnd_moved ..)
  | tuneHalfCycleTimeout => exact .event (fun _ => doneTuneHalfCycleTimeout_moved ..)
  | tuneTimeLimit => exact .event (fun _ => doneTuneTimeLimit_moved ..)
  | signalMessage => exact .event (fun _ => doneSignalMessage_moved ..)
  | instanceTick => exact .event (fun _ => doneInstanceTick_moved ..)
  | functionDefine r => exact .request (doneFunctionDefine_moved r)
  | functionClear r => exact .request (doneFunctionClear_moved r)
  | functionStart r => exact .request (doneFunctionStart_moved r)
  | functionStop r => exact .request (doneFunctionStop_moved r)
  | functionParams r => exact .request (doneFunctionParams_moved r)
  | functionStatus r => exact .request (doneFunctionStatus_moved r)
  | calibrate r => exact .request (doneCalibrate_moved r)
  | yieldTotals r => exact .request (doneYieldTotals_moved r)
  | onDelayExpiry => exact .event (fun _ => doneOnDelayExpiry_moved ..)
  | governorPeriod => exact .event (fun _ => doneGovernorPeriod_moved ..)
  | yieldStep => exact .event (fun _ => doneYieldStep_moved ..)
  | totalsSave => exact .event (fun _ => doneTotalsSave_moved ..)
  | switchConfig r => exact .entries (doneSwitchConfig_moved r)
  | switchSet r => exact .entries (doneSwitchSet_moved r)
  | clearFault r => exact .request (doneClearFault_moved r)
  | serviceDrive r => exact .entries (doneServiceDrive_moved r)
  | switchStatus r => exact .request (doneSwitchStatus_moved r)
  | readConfig r => exact .request (doneReadConfig_moved r)
  | groupStatus r => exact .request (checks := fun _ => []) (doneGroupStatus_moved r)
  | channelTick => exact .event (fun _ => doneChannelTick_moved ..)
  | shedStepTimer => exact .event (fun _ => doneShedStepTimer_moved ..)
  | inrushTimerExpiry => exact .event (fun _ => doneInrushTimerExpiry_moved ..)
  | hardCurrentLimit => exact .event (fun _ => doneHardCurrentLimit_moved ..)
  | retryWaitExpiry => exact .event (fun _ => doneRetryWaitExpiry_moved ..)
  | retryRestore => exact .event (fun _ => doneRetryRestore_moved ..)
  | disturbanceRaise => exact .event (fun _ => doneDisturbanceRaise_moved ..)
  | disturbanceClear => exact .event (fun _ => doneDisturbanceClear_moved ..)
  | lampCompensation => exact .event (fun _ => doneLampCompensation_moved ..)
  | regErrorTimer => exact .event (fun _ => doneRegErrorTimer_moved ..)
  | openLoadTimer => exact .event (fun _ => doneOpenLoadTimer_moved ..)
  | offDiagCheck => exact .event (fun _ => doneOffDiagCheck_moved ..)
  | offtestPulse => exact .event (fun _ => doneOfftestPulse_moved ..)
  | offtestPulseEnd => exact .event (fun _ => doneOfftestPulseEnd_moved ..)
  | junctionOvertemp => exact .event (fun _ => doneJunctionOvertemp_moved ..)
  | gsnsOpenDetect => exact .event (fun _ => doneGsnsOpenDetect_moved ..)
  | serviceDriveTimeout => exact .event (fun _ => doneServiceDriveTimeout_moved ..)
  | ambientUpdate => exact .event (fun _ => doneAmbientUpdate_moved ..)
  | implementSet r => exact .request (doneImplementSet_moved r)
  | sectionsSet r => exact .request (doneSectionsSet_moved r)
  | sectionEngine r => exact .request (doneSectionEngine_moved r)
  | sectionOverride r => exact .request (doneSectionOverride_moved r)
  | sectionSchedule r => exact .entries (doneSectionSchedule_moved r)
  | edgeCancel r => exact .request (doneEdgeCancel_moved r)
  | sectionStatus r => exact .request (checks := fun _ => []) (doneSectionStatus_moved r)
  | edgeExecute => exact .event (fun _ => doneEdgeExecute_moved ..)
  | nodeCommandSend => exact .event (fun _ => doneNodeCommandSend_moved ..)
  | nodeAckRx => exact .event (fun _ => doneNodeAckRx_moved ..)
  | nodeAckTimeout => exact .event (fun _ => doneNodeAckTimeout_moved ..)
  | nodeSyncSend => exact .event (fun _ => doneNodeSyncSend_moved ..)
  | engineSolution => exact .event (fun _ => doneEngineSolution_moved ..)
  | navStaleHold => exact .event (fun _ => doneNavStaleHold_moved ..)
  | navHoldExpiry => exact .event (fun _ => doneNavHoldExpiry_moved ..)
  | navReturn => exact .event (fun _ => doneNavReturn_moved ..)
  | navConfig r => exact .request (doneNavConfig_moved r)
  | channelSet r => exact .request (doneChannelSet_moved r)
  | channelStatus r => exact .request (doneChannelStatus_moved r)
  | acqAid r => exact .request (doneAcqAid_moved r)
  | orbitAid r => exact .request (doneOrbitAid_moved r)
  | navRestart r => exact .request (doneNavRestart_moved r)
  | keptStatus r => exact .request (checks := fun _ => []) (doneKeptStatus_moved r)
  | frontendStatus r => exact .request (checks := fun _ => []) (doneFrontendStatus_moved r)
  | navStart => exact .event (fun _ => doneNavStart_moved ..)
  | firstFix => exact .event (fun _ => doneFirstFix_moved ..)
  | channelReallocation => exact .event (fun _ => doneChannelReallocation_moved ..)
  | trackLoss => exact .event (fun _ => doneTrackLoss_moved ..)
  | mpIndexUpdate => exact .event (fun _ => doneMpIndexUpdate_moved ..)
  | bocFalseLock => exact .event (fun _ => doneBocFalseLock_moved ..)
  | spectrumUpdate => exact .event (fun _ => doneSpectrumUpdate_moved ..)
  | antennaBiasFault => exact .event (fun _ => doneAntennaBiasFault_moved ..)
  | biasRetry => exact .event (fun _ => doneBiasRetry_moved ..)
  | gainCheck => exact .event (fun _ => doneGainCheck_moved ..)
  | measurementEpoch => exact .event (fun _ => doneMeasurementEpoch_moved ..)
  | rtcmBytes => exact .event (fun _ => doneRtcmBytes_moved ..)
  | gnssSolution => exact .event (fun _ => doneGnssSolution_moved ..)
  | fusedSolution => exact .event (fun _ => doneFusedSolution_moved ..)
  | fixLowTimeout => exact .event (fun _ => doneFixLowTimeout_moved ..)
  | isoGuidanceCommand => exact .event (fun _ => doneIsoGuidanceCommand_moved ..)
  | deadReckoningStart => exact .event (fun _ => doneDeadReckoningStart_moved ..)
  | drLimitExpiry => exact .event (fun _ => doneDrLimitExpiry_moved ..)
  | solutionConfig r => exact .request (doneSolutionConfig_moved r)
  | solutionRead r => exact .request (checks := fun _ => []) (doneSolutionRead_moved r)
  | guideLine r => exact .request (doneGuideLine_moved r)
  | steer r => exact .request (doneSteer_moved r)
  | rtkStatus r => exact .request (checks := fun _ => []) (doneRtkStatus_moved r)
  | holdoverStart => exact .event (fun _ => doneHoldoverStart_moved ..)
  | holdoverLimit => exact .event (fun _ => doneHoldoverLimit_moved ..)
  | gnssTimeReturn => exact .event (fun _ => doneGnssTimeReturn_moved ..)
  | timingMessage => exact .event (fun _ => doneTimingMessage_moved ..)
  | timePulse => exact .event (fun _ => doneTimePulse_moved ..)
  | timeConfig r => exact .request (doneTimeConfig_moved r)
  | timeStatus r => exact .request (checks := fun _ => []) (doneTimeStatus_moved r)
  | cameraPortConfig r => exact .request (doneCameraPortConfig_moved r)
  | cameraEnable r => exact .request (doneCameraEnable_moved r)
  | fsyncSet r => exact .request (doneFsyncSet_moved r)
  | ctrlXfer r => exact .request (doneCtrlXfer_moved r)
  | cameraPortStatus r => exact .request (doneCameraPortStatus_moved r)
  | cameraLinkLock => exact .event (fun _ => doneCameraLinkLock_moved ..)
  | cameraLinkLoss => exact .event (fun _ => doneCameraLinkLoss_moved ..)
  | pocOvercurrent => exact .event (fun _ => donePocOvercurrent_moved ..)
  | pocTotalLimit => exact .event (fun _ => donePocTotalLimit_moved ..)
  | bridgeSupplyFault => exact .event (fun _ => doneBridgeSupplyFault_moved ..)
  | bridgeResetRelease => exact .event (fun _ => doneBridgeResetRelease_moved ..)
  | fsyncPulse => exact .event (fun _ => doneFsyncPulse_moved ..)
  | csiPacket => exact .event (fun _ => doneCsiPacket_moved ..)
  | frameTimeout => exact .event (fun _ => doneFrameTimeout_moved ..)
  | noFramesTimeout => exact .event (fun _ => doneNoFramesTimeout_moved ..)
  | frameEnd => exact .event (fun _ => doneFrameEnd_moved ..)
  | pipelineLine => exact .event (fun _ => donePipelineLine_moved ..)
  | pipelineFrameOutput => exact .event (fun _ => donePipelineFrameOutput_moved ..)
  | stageSet r => exact .request (doneStageSet_moved r)
  | outputSet r => exact .request (doneOutputSet_moved r)
  | outputStatus r => exact .request (doneOutputStatus_moved r)
  | pipeStatus r => exact .request (donePipeStatus_moved r)
  | modelLoad r => exact .request (doneModelLoad_moved r)
  | modelUnload r => exact .request (doneModelUnload_moved r)
  | jobDefine r => exact .request (doneJobDefine_moved r)
  | jobClear r => exact .request (doneJobClear_moved r)
  | jobStart r => exact .request (doneJobStart_moved r)
  | jobStop r => exact .request (doneJobStop_moved r)
  | poolDone r => exact .counted (donePoolDone_moved r) (counted_before ..) rfl rfl rfl rfl rfl rfl
  | jobStatus r => exact .request (doneJobStatus_moved r)
  | inferenceInput => exact .event (fun _ => doneInferenceInput_moved ..)
  | inputPlacement => exact .event (fun _ => doneInputPlacement_moved ..)
  | runStart => exact .event (fun _ => doneRunStart_moved ..)
  | layerPreempt => exact .event (fun _ => doneLayerPreempt_moved ..)
  | runEnd => exact .event (fun _ => doneRunEnd_moved ..)
  | poolTimeout => exact .event (fun _ => donePoolTimeout_moved ..)
  | busConfig r => exact .request (doneBusConfig_moved r)
  | busControl r => exact .request (doneBusControl_moved r)
  | filterSet r => exact .request (doneFilterSet_moved r)
  | compatSet r => exact .request (doneCompatSet_moved r)
  | queueConfig r => exact .request (doneQueueConfig_moved r)
  | rxRead r => exact .request (doneRxRead_moved r)
  | txWrite r => exact .request (doneTxWrite_moved r)
  | txAbort r => exact .request (doneTxAbort_moved r)
  | busStatus r => exact .request (doneBusStatus_moved r)
  | cfClaim r => exact .request (doneCfClaim_moved r)
  | pgnSend r => exact .request (donePgnSend_moved r)
  | canFrameRx => exact .event (fun _ => doneCanFrameRx_moved ..)
  | txNotBefore => exact .event (fun _ => doneTxNotBefore_moved ..)
  | txAttemptEnd => exact .event (fun _ => doneTxAttemptEnd_moved ..)
  | busError => exact .event (fun _ => doneBusError_moved ..)
  | busOffDelayExpiry => exact .event (fun _ => doneBusOffDelayExpiry_moved ..)
  | recoveryComplete => exact .event (fun _ => doneRecoveryComplete_moved ..)
  | queueBatchTimeout => exact .event (fun _ => doneQueueBatchTimeout_moved ..)
  | addressClaimTimer => exact .event (fun _ => doneAddressClaimTimer_moved ..)
  | transportPacketRx => exact .event (fun _ => doneTransportPacketRx_moved ..)
  | transportTimeout => exact .event (fun _ => doneTransportTimeout_moved ..)
  | bamPacketTimer => exact .event (fun _ => doneBamPacketTimer_moved ..)
  | ethPortConfig r => exact .request (doneEthPortConfig_moved r)
  | ethPortStatus r => exact .request (doneEthPortStatus_moved r)
  | gateSet r => exact .request (doneGateSet_moved r)
  | syncConfig r => exact .request (doneSyncConfig_moved r)
  | ipConfig r => exact .request (doneIpConfig_moved r)
  | nodeSet r => exact .request (doneNodeSet_moved r)
  | ethFrameRx => exact .event (fun _ => doneEthFrameRx_moved ..)
  | addressAgeing => exact .event (fun _ => doneAddressAgeing_moved ..)
  | ethLinkChange => exact .event (fun _ => doneEthLinkChange_moved ..)
  | gptpSyncTx => exact .event (fun _ => doneGptpSyncTx_moved ..)
  | gptpAnnounceTx => exact .event (fun _ => doneGptpAnnounceTx_moved ..)
  | pdelayTx => exact .event (fun _ => donePdelayTx_moved ..)
  | gateEntryStart => exact .event (fun _ => doneGateEntryStart_moved ..)
  | gateListAdopt => exact .event (fun _ => doneGateListAdopt_moved ..)
  | fleetConfig r => exact .request (doneFleetConfig_moved r)
  | fleetStatus r => exact .request (checks := fun _ => []) (doneFleetStatus_moved r)
  | mapMerge r => exact .request (doneMapMerge_moved r)
  | mergeJobEnd => exact .event (fun _ => doneMergeJobEnd_moved ..)
  | fleetExchange => exact .event (fun _ => doneFleetExchange_moved ..)
  | fleetDatagramRx => exact .event (fun _ => doneFleetDatagramRx_moved ..)
  | fsupLow => exact .event (fun _ => doneFsupLow_moved ..)
  | fsupLost => exact .event (fun _ => doneFsupLost_moved ..)
  | fsupRestored => exact .event (fun _ => doneFsupRestored_moved ..)
  | fldConverterFail => exact .event (settling_moved fun _ => doneFldConverterFail_moved ..)
  | fiLevelAccept => exact .event (fun _ => doneFiLevelAccept_moved ..)
  | fiChangeMessage => exact .event (fun _ => doneFiChangeMessage_moved ..)
  | wireBreakDetect => exact .event (fun _ => doneWireBreakDetect_moved ..)
  | wireBreakClear => exact .event (fun _ => doneWireBreakClear_moved ..)
  | foShort => exact .event (fun _ => doneFoShort_moved ..)
  | foOvertemp => exact .event (fun _ => doneFoOvertemp_moved ..)
  | foOpenLoad => exact .event (fun _ => doneFoOpenLoad_moved ..)
  | siConversion => exact .event (fun _ => doneSiConversion_moved ..)
  | shuntReenable => exact .event (fun _ => doneShuntReenable_moved ..)
  | acousticHit => exact .event (fun _ => doneAcousticHit_moved ..)
  | sup5Fault => exact .event (fun _ => doneSup5Fault_moved ..)
  | sup5Retry => exact .event (fun _ => doneSup5Retry_moved ..)
  | fiConfig r => exact .request (doneFiConfig_moved r)
  | foConfig r => exact .request (doneFoConfig_moved r)
  | siConfig r => exact .request (doneSiConfig_moved r)
  | foSet r => exact .entries (doneFoSet_moved r)
  | foClear r => exact .request (doneFoClear_moved r)
  | fieldStatus r => exact .request (checks := fun _ => []) (doneFieldStatus_moved r)
  | siStatus r => exact .request (checks := fun _ => []) (doneSiStatus_moved r)
  | displayConfig r => exact .request (doneDisplayConfig_moved r)
  | waveformLoad r => exact .request (doneWaveformLoad_moved r)
  | displayUpdate r => exact .counted (doneDisplayUpdate_moved r) (counted_before ..) rfl rfl rfl rfl rfl rfl
  | frontLight r => exact .request (doneFrontLight_moved r)
  | displayStatus r => exact .request (checks := fun _ => []) (doneDisplayStatus_moved r)
  | panelDetectChange => exact .event (fun _ => donePanelDetectChange_moved ..)
  | railPowerUp => exact .event (fun _ => doneRailPowerUp_moved ..)
  | railFault => exact .event (fun _ => doneRailFault_moved ..)
  | railRetry => exact .event (fun _ => doneRailRetry_moved ..)
  | dischargeSequence => exact .event (fun _ => doneDischargeSequence_moved ..)
  | displayIdleTimeout => exact .event (fun _ => doneDisplayIdleTimeout_moved ..)
  | panelTempTimeout => exact .event (fun _ => donePanelTempTimeout_moved ..)
  | updateStart => exact .event (fun _ => doneUpdateStart_moved ..)
  | displayFrameEnd => exact .event (fun _ => doneDisplayFrameEnd_moved ..)
  | restoration => exact .event (fun _ => doneRestoration_moved ..)
  | frontLightFault => exact .event (fun _ => doneFrontLightFault_moved ..)
  | safetyLogicCycle => exact .event (fun _ => doneSafetyLogicCycle_moved ..)
  | safeInSample => exact .event (fun _ => doneSafeInSample_moved ..)
  | safeInAccept => exact .event (fun _ => doneSafeInAccept_moved ..)
  | inputPathTest => exact .event (fun _ => doneInputPathTest_moved ..)
  | safeRstEdge => exact .event (fun _ => doneSafeRstEdge_moved ..)
  | safeRstStuck => exact .event (fun _ => doneSafeRstStuck_moved ..)
  | safeTestPulse => exact .event (fun _ => doneSafeTestPulse_moved ..)
  | safeTestPulseEnd => exact .event (fun _ => doneSafeTestPulseEnd_moved ..)
  | safeOutOvercurrent => exact .event (fun _ => doneSafeOutOvercurrent_moved ..)
  | safeOpenLoad => exact .event (fun _ => doneSafeOpenLoad_moved ..)
  | stopDelayExpiry => exact .event (fun _ => doneStopDelayExpiry_moved ..)
  | ramMarch => exact .event (fun _ => doneRamMarch_moved ..)
  | codeCrcCheck => exact .event (fun _ => doneCodeCrcCheck_moved ..)
  | clockCompare => exact .event (fun _ => doneClockCompare_moved ..)
  | safSelftest => exact .event (fun _ => doneSafSelftest_moved ..)
  | safetyStatus r => exact .request (checks := fun _ => []) (doneSafetyStatus_moved r)
  | configRead r => exact .request (doneConfigRead_moved r)
  | configStage r => exact .request (doneConfigStage_moved r)
  | configCommit r => exact .request (doneConfigCommit_moved r)
  | safetyValidate r => exact .request (doneSafetyValidate_moved r)
  | passwordSet r => exact .request (donePasswordSet_moved r)
  | logRead r => exact .request (doneLogRead_moved r)
  | offRequest r => exact .request (doneOffRequest_moved r)
  | imageInstall r => exact .request (doneImageInstall_moved r)
  | installDataComplete => exact .event (fun _ => doneInstallDataComplete_moved ..)
  | installTimeout => exact .event (fun _ => doneInstallTimeout_moved ..)
  | imageActivate r => exact .request (settling_moved (doneImageActivate_moved r))
  | imageConfirm r => exact .request (doneImageConfirm_moved r)
  | imageRevert r => exact .request (settling_moved (doneImageRevert_moved r))
  | imageStatus r => exact .request (doneImageStatus_moved r)
  | policySet r => exact .request (donePolicySet_moved r)
  | recoveryEnter r => exact .request (doneRecoveryEnter_moved r)
  | recoveryLoad r => exact .request (doneRecoveryLoad_moved r)
  | recoverySession => exact .event (fun _ => doneRecoverySession_moved ..)
  | installAbort r => exact .request (doneInstallAbort_moved r)
  | loaderCopyDone => exact .event (fun _ => doneLoaderCopyDone_moved ..)
  | trialRejoinTimeout => exact .event (settling_moved fun _ => doneTrialRejoinTimeout_moved ..)
  | confirmTimeout => exact .event (settling_moved fun _ => doneConfirmTimeout_moved ..)
  | identitySet r => exact .request (doneIdentitySet_moved r)
  | keyPublic r => exact .request (doneKeyPublic_moved r)
  | keySet r => exact .request (doneKeySet_moved r)
  | keyClear r => exact .request (doneKeyClear_moved r)
  | keyStatus r => exact .request (checks := fun _ => []) (doneKeyStatus_moved r)
  | perstNRelease => exact .event (fun _ => donePerstNRelease_moved ..)
  | gsnsRestored => exact .event (fun _ => doneGsnsRestored_moved ..)
  | signalAcquired => exact .event (fun _ => doneSignalAcquired_moved ..)
  | pullInLock => exact .event (fun _ => donePullInLock_moved ..)
  | navDataDecoded => exact .event (fun _ => doneNavDataDecoded_moved ..)
  | busIntegrated => exact .event (fun _ => doneBusIntegrated_moved ..)
  | rstStuckClear => exact .event (fun _ => doneRstStuckClear_moved ..)
  | crankLowTimerReset => exact .event (fun _ => doneCrankLowTimerReset_moved ..)
  | plcaFallback => exact .event (fun _ => donePlcaFallback_moved ..)
  | farTrained => exact .event (fun _ => doneFarTrained_moved ..)
  | recoverySessionClose => exact .event (fun _ => doneRecoverySessionClose_moved ..)
  | usbVbusFall => exact .event (fun _ => doneUsbVbusFall_moved ..)

/-! ### What a served request answers -/

/-- A request on a channel that exists answers its effect or a refusal, at its module time. -/
theorem serve_next {o : OpSpec} {u : Nat} {r : Request} (s : State) (checks : State → List (Bool × Status))
    (effect : State → State) (hch : r.ch < 64) : ∃ t, serve o u r s checks effect = .next t ∧
      (t = effect (s.atTime r.time) ∨ ∃ st body, t = refuseWith o u r st body (s.atTime r.time)) := by
  simp only [serve, valid, hch, decide_true, if_true]
  split
  case h_1 => exact ⟨_, rfl, .inr ⟨_, _, rfl⟩⟩
  case h_2 => exact ⟨_, rfl, .inl rfl⟩

theorem serveEntries_next {o : OpSpec} {u : Nat} {r : Request} (s : State) (named : Bool)
    (checks : State → List (Bool × Status)) (entries : State → List (List (Bool × Status))) (effect : State → State)
    (hch : r.ch < 64) : ∃ t, serveEntries o u r s named checks entries effect = .next t ∧
      (t = effect (s.atTime r.time) ∨ ∃ st body, t = refuseWith o u r st body (s.atTime r.time)) := by
  simp only [serveEntries, valid, hch, decide_true, if_true]
  split
  case h_1 => exact ⟨_, rfl, .inr ⟨_, _, rfl⟩⟩
  case h_2 => exact ⟨_, rfl, .inl rfl⟩

/-! ### What every command keeps -/

/-- The state a command answers: only the parts named have changed, and forward; the queue is not one of them, the epoch is one
only for a commit, and what the safety island does is none for a request that leaves it alone. -/
structure Reached (ps : List Part) (i : Instr) (s t : State) : Prop where
  moved : Moved ps s t
  queue : ps.contains .pending = false
  epoch : i.commits = true ∨ ps.contains .epoch = false
  safety : (i.asked s).isSome = true → i.reachesSafety = true ∨ ps.contains .safety = false

/-- A request reaches its effect, or the parts of a refusal. -/
theorem Reached.served {i : Instr} {s v t : State} {o : OpSpec} {u : Nat} {r : Request} {effect : State → State}
    {qs : List Part} (keeps : ∀ v, Moved qs v (effect v)) (before : Moved [.diag] s v)
    (answered : t = effect (v.atTime r.time) ∨ ∃ st body, t = refuseWith o u r st body (v.atTime r.time))
    (queue : qs.contains .pending = false) (epoch : qs.contains .epoch = false)
    (safety : i.reachesSafety = true ∨ qs.contains .safety = false) : ∃ ps, Reached ps i s t := by
  have taken := before.append (State.atTime_moved v r.time)
  rcases answered with rfl | ⟨st, body, rfl⟩
  · refine ⟨[.diag] ++ [.time] ++ qs, taken.append (keeps _), ?_, .inr ?_, fun _ => safety.imp_right ?_⟩ <;> simp_all
  · exact ⟨_, taken.append (refuseWith_moved ..), rfl, .inr rfl, fun _ => .inr rfl⟩

/-- A command that names objects of the module answers a next state. -/
theorem exec_next {i : Instr} {s : State} (wf : i.wf = true) : ∃ t, exec i s = .next t ∧ ∃ ps, Reached ps i s t := by
  cases exec_shape i s with
  | @event t cond effect qs keeps run asked queue epoch =>
    have taken := State.atTime_moved s t
    rw [run, valid_holds wf]
    cases holds : cond (s.atTime t) with
    | true =>
      refine ⟨_, event_holds holds, [.time] ++ qs, taken.append (keeps _), ?_, ?_, ?_⟩ <;> simp_all
    | false => exact ⟨_, event_idle holds, _, taken, rfl, .inr rfl, fun _ => .inr rfl⟩
  | counted keeps before run asked exists_ queue epoch safety =>
    obtain ⟨t, next, answered⟩ := serve_next _ _ _ (of_decide_eq_true (exists_.symm.trans wf))
    exact ⟨t, run.trans next, Reached.served keeps before answered queue epoch (by simpa using safety)⟩
  | entries keeps run asked exists_ queue epoch safety =>
    obtain ⟨t, next, answered⟩ := serveEntries_next _ _ _ _ _ (of_decide_eq_true (exists_.symm.trans wf))
    exact ⟨t, run.trans next, Reached.served keeps (.refl ..) answered queue epoch (.inr safety)⟩
  | modeRequest r is =>
    subst is
    have taken := (State.atTime_moved s r.time).append (settling_moved (doneModeRequest_moved r) _)
    exact ⟨_, valid_holds wf, _, taken, rfl, .inr rfl, fun asked => nomatch asked⟩

/-- A command for an object that the module does not have is refused. -/
theorem exec_refused {i : Instr} {s : State} (wf : i.wf = false) : exec i s = .refused .noSuchObject := by
  cases exec_shape i s with
  | event keeps run => rw [run, wf]; rfl
  | counted keeps before run asked exists_ => rw [run, serve, ← exists_, wf]; rfl
  | entries keeps run asked exists_ => rw [run, serveEntries, ← exists_, wf]; rfl
  | modeRequest r is =>
    subst is
    have absent : valid (Instr.modeRequest r).wf (.next (settling (doneModeRequest r) (s.atTime r.time))) =
        .refused .noSuchObject := by rw [wf]; rfl
    exact absent

/-- What any next state has kept. -/
theorem exec_reached {i : Instr} {s t : State} (run : exec i s = .next t) : ∃ ps, Reached ps i s t := by
  cases wf : i.wf with
  | false => cases (exec_refused wf).symm.trans run
  | true =>
    obtain ⟨u, next, reached⟩ := exec_next (s := s) wf
    cases next.symm.trans run
    exact reached

/-- A step moves the ledger, the fuses and the placements forward. -/
theorem step_later {s t : State} (run : step s = .next t) : Later s t := by
  unfold step at run
  split at run
  case h_1 => cases run; exact .refl _
  case h_2 c rest _ =>
    obtain ⟨_, reached⟩ := exec_reached run
    exact (set_pending s rest).later.trans reached.moved.later

/-! ### The statements over every command -/

/-- Settles O22: by the definition of a step, on a queue with a front and on an empty one. -/
theorem stepRunsFront : Obligations.StepRunsFront := by
  unfold Obligations.StepRunsFront
  exact fun _ _ _ => ⟨rfl, rfl⟩

/-- Settles O23: the shape of the command says when it answers, and that its queue stays. -/
theorem commandsComplete : Obligations.CommandsComplete := by
  unfold Obligations.CommandsComplete
  refine fun i s => ⟨fun wf => ?_, exec_refused⟩
  obtain ⟨t, next, _, reached⟩ := exec_next (s := s) wf
  exact ⟨t, next, reached.moved.only.same .pending reached.queue⟩

/-- Settles O58: the reset state holds no record and no placement. -/
theorem soundAtReset : Obligations.SoundAtReset := by
  unfold Obligations.SoundAtReset
  exact ⟨⟨Nat.le_refl 1, fun _ h => absurd h List.not_mem_nil, .nil⟩, fun _ h => absurd h List.not_mem_nil⟩

/-- Settles O59: soundness is kept by every part of the state that a step moves forward. -/
theorem soundKept : Obligations.SoundKept := by
  unfold Obligations.SoundKept
  intro s t sound run
  obtain ⟨ledger, -, place⟩ := step_later run
  exact ⟨ledger.sound sound.1, place.sound sound.2⟩

/-- Settles O60: the ledger, the fuses and the placements move forward at every step. -/
theorem stepMovesForward : Obligations.StepMovesForward := by
  unfold Obligations.StepMovesForward
  intro s t run
  obtain ⟨ledger, fuses, place⟩ := step_later run
  exact ⟨ledger.moved, fuses, place.handles⟩

/-! ### Requests that the gate refuses (R137, R148, R195) -/

/-- The gate reads the channels, the epoch, the mode and the fences. -/
theorem gate_congr {ps : List Part} {s t : State} (h : Only ps s t) (o : OpSpec) (u : Nat) (r : Request)
    (hub : ps.contains .hub = false := by rfl) (epoch : ps.contains .epoch = false := by rfl)
    (mode : ps.contains .mode = false := by rfl) (fences : ps.contains .fences = false := by rfl) : gate o u r t = gate o u r s := by
  have sameHub : t.hub = s.hub := h.same .hub hub
  have sameEpoch : t.mode.epoch = s.mode.epoch := h.same .epoch epoch
  have sameMode := h.same .mode mode
  have sameFences := h.same .fences fences
  simp only [Part.same, Part.sameMode, Prod.mk.injEq] at sameMode sameFences
  obtain ⟨mode, booted, -⟩ := sameMode
  obtain ⟨fences, -⟩ := sameFences
  simp only [gate, sameEpoch, mode, booted, State.chan, sameHub, State.fenced, fences]

/-- A request that its gate refuses is answered so, and has changed only the time and the counters before. -/
theorem asked_gated {i : Instr} {s : State} {o : OpSpec} {u : Nat} {r : Request} {st : Status}
    (asked : i.asked s = some (o, u, r)) (hch : r.ch < 64) (refused : gate o u r (s.atTime r.time) = some st) :
    ∃ body v, Only [.time, .diag] s v ∧ exec i s = .next (refuseWith o u r st body v) ∧
      Only [.time, .hub, .diag, .ledger, .fabric] s (refuseWith o u r st body v) := by
  suffices h : ∃ body v, Moved [.time, .diag] s v ∧ exec i s = .next (refuseWith o u r st body v) by
    obtain ⟨body, v, before, run⟩ := h
    exact ⟨body, v, before.only, run, (Moved.via (refuseWith_moved ..) (before.widen rfl) rfl).only⟩
  cases exec_shape i s with
  | event keeps run none => cases none.symm.trans asked
  | @counted _ _ _ v _ _ _ keeps before run same =>
    cases same.symm.trans asked
    have counted : Moved [.time, .diag] s (v.atTime r.time) := .via (State.atTime_moved ..) (before.widen rfl) rfl
    refine ⟨[], _, counted, run.trans (serve_gated hch ?_)⟩
    rw [gate_congr counted.only, ← gate_congr (State.atTime_moved s r.time).only, refused]
  | entries keeps run same =>
    cases same.symm.trans asked
    exact ⟨_, _, (State.atTime_moved ..).widen rfl, run.trans (serveEntries_gated hch refused)⟩
  | modeRequest r is => subst is; cases asked

/-- Settles O24. -/
theorem gateRefusalHasNoEffect : Obligations.GateRefusalHasNoEffect := by
  unfold Obligations.GateRefusalHasNoEffect
  exact fun _ _ _ _ _ _ => asked_gated

/-- R137, R127: the unit's comparison of the epoch comes right after the length. -/
theorem gate_staleEpoch {o : OpSpec} {u : Nat} {r : Request} {s : State} (hlen : o.lenOk r.len = true)
    (sensitive : o.epoch = true) (stale : r.u 0 4 = 0 ∨ r.u 0 4 ≠ s.mode.epoch.toNat ∨ s.mode.booted = false) :
    gate o u r s = some .staleEpoch := by
  have compared : (r.u 0 4 == 0 || r.u 0 4 != s.mode.epoch.toNat || !s.mode.booted) = true := by
    simpa [or_assoc] using stale
  simp [gate, firstOf, hlen, sensitive, compared]

/-- R148: past length and epoch every refusal of the gate is WRONG_MODE, and the fence is one. -/
theorem gate_fenced {o : OpSpec} {u : Nat} {r : Request} {s : State} (hlen : o.lenOk r.len = true)
    (current : o.epoch = false ∨ (r.u 0 4 ≠ 0 ∧ r.u 0 4 = s.mode.epoch.toNat ∧ s.mode.booted = true))
    (fenced : s.fenced u = true) : gate o u r s = some .wrongMode := by
  have compared : (o.epoch && (r.u 0 4 == 0 || r.u 0 4 != s.mode.epoch.toNat || !s.mode.booted)) = false := by
    rcases current with insensitive | ⟨nonzero, same, booted⟩
    · simp [insensitive]
    · simp [nonzero, ← same, booted]
  simp only [gate, firstOf, hlen, compared, fenced, Bool.not_true, Bool.false_eq_true, if_false, if_true, ite_self]

/-- Settles O25. -/
theorem staleEpochRefused : Obligations.StaleEpochRefused := by
  unfold Obligations.StaleEpochRefused
  exact fun _ _ _ _ _ asked hch hlen sensitive stale => asked_gated asked hch (gate_staleEpoch hlen sensitive stale)

/-- Settles O26. -/
theorem fencedUnitRefuses : Obligations.FencedUnitRefuses := by
  unfold Obligations.FencedUnitRefuses
  exact fun _ _ _ _ _ asked hch hlen current fenced => asked_gated asked hch (gate_fenced hlen current fenced)

end Sys2Proof

/-! SUPPORT. The commits (R136, R141, R145): what each operation leaves of the mode in force, and what a commit makes of it. -/

namespace Sys2Proof

open Machine

set_option Elab.async false

/-! ### The mode in force -/

/-- The mode in force, its epoch and commit, and the change in progress, at the module time. -/
structure ModeInForce where
  time : Nat
  mode : Mode
  epoch : U32
  commitTick : Nat
  booted : Bool
  change : Option Change

def Machine.State.inForce (s : State) : ModeInForce :=
  ⟨s.time, s.mode.mode, s.mode.epoch, s.mode.commitTick, s.mode.booted, s.mode.change⟩

/-- R136: the mode is entered at the present time, with the next epoch. -/
def ModeInForce.enter (x : ModeInForce) (m : Mode) : ModeInForce :=
  { x with mode := m, epoch := x.epoch + 1, commitTick := x.time }

/-- An operation that names neither the time nor the mode, epoch and change leaves them. -/
theorem Moved.inForce_eq {ps : List Part} {s t : State} (h : Moved ps s t) (time : ps.contains .time = false := by rfl)
    (mode : ps.contains .mode = false := by rfl) (epoch : ps.contains .epoch = false := by rfl)
    (change : ps.contains .change = false := by rfl) : t.inForce = s.inForce := by
  have sameTime : t.time = s.time := h.only.same .time time
  have sameEpoch : t.mode.epoch = s.mode.epoch := h.only.same .epoch epoch
  have sameMode := h.only.same .mode mode
  have sameChange := h.only.same .change change
  simp only [Part.same, Part.sameMode, Prod.mk.injEq] at sameMode sameChange
  obtain ⟨mode, booted, -, -, -, tick⟩ := sameMode
  obtain ⟨change, -⟩ := sameChange
  simp only [State.inForce, sameTime, sameEpoch, mode, booted, tick, change]

theorem Machine.State.modPlace_inForce (s : State) (f : Puppeteer → Puppeteer) : (s.modPlace f).inForce = s.inForce := rfl

theorem ite_inForce {b : Prop} [Decidable b] {s t : State} (h : t.inForce = s.inForce) :
    (if b then t else s).inForce = s.inForce := by
  split
  case isTrue => exact h
  case isFalse => rfl

@[simp] theorem Machine.State.settle_inForce (s : State) (unit code : Nat) (fields : List Byte) (q : Option Requester)
    (wanted fail : Bool) : (s.settle unit code fields q wanted fail).inForce = s.inForce :=
  (State.settle_moved ..).inForce_eq

@[simp] theorem Machine.State.eraseIdentity_inForce (s : State) : s.eraseIdentity.inForce = s.inForce :=
  (State.eraseIdentity_moved ..).inForce_eq

@[simp] theorem Machine.State.setRecord_inForce (s : State) (id : Nat) (st : RecState) (cause : Nat) :
    (s.setRecord id st cause).inForce = s.inForce :=
  (State.setRecord_moved ..).inForce_eq

@[simp] theorem Machine.State.fenceAll_inForce (s : State) (units : List Nat) (cause : Nat) (commit : Option Nat) (tell : Bool) :
    (s.fenceAll units cause commit tell).inForce = s.inForce :=
  (State.fenceAll_moved ..).inForce_eq

/-- R141: what every unit does as it takes the mode leaves the mode itself as entered. -/
@[simp] theorem Machine.State.enterMode_inForce (s : State) (m : Mode) : (s.enterMode m).inForce = s.inForce.enter m := by
  simp only [State.enterMode, (State.drawStrip_moved _).inForce_eq, (State.releaseAssigned_moved ..).inForce_eq,
    (State.applyMode_moved ..).inForce_eq]
  split
  case isTrue => rfl
  case isFalse => split <;> rfl

/-! ### The commit of a change (R141, R145) -/

/-- R141: the change that commits is no longer in progress, and its target is entered. -/
theorem Machine.State.commitChange_inForce {s : State} {c : Change} (h : s.mode.change = some c) (missed : List Nat) :
    (s.commitChange missed).inForce = ({ s.inForce with change := none } : ModeInForce).enter c.target := by
  have marked : ∀ (x : State) (units : List Nat) (tick : Nat),
      (x.modMode fun m => m.markFenced units tick).inForce = x.inForce := fun _ _ _ => rfl
  simp only [State.commitChange, h]
  rw [State.settle_inForce, ite_inForce, ite_inForce (State.eraseIdentity_inForce _), ite_inForce, State.enterMode_inForce,
    State.setRecord_inForce, marked, State.fenceAll_inForce]
  all_goals rfl

/-! ### The boot commit (R126, R128) -/

/-- R128: the boot mode is entered, and a mode has been committed since the start. -/
theorem Machine.State.commitBoot_inForce (s : State) :
    s.commitBoot.inForce = ({ s.inForce with booted := true } : ModeInForce).enter s.bootMode.1 := by
  have raised : ∀ (l : List (Nat × List Byte)) (t : State),
      (l.foldl (fun t e => t.raise uPlacement e.1 e.2) t).inForce = t.inForce := fun l t =>
    foldl_keeps State.inForce (fun _ _ => (State.raise_moved ..).inForce_eq) l t
  have booted : ∀ x : State, (x.modMode fun m => { m with booted := true, bootHold := none }).inForce =
      { x.inForce with booted := true } := fun _ => rfl
  simp only [State.commitBoot, (State.finishAct_moved ..).inForce_eq, (State.startReplay_moved ..).inForce_eq,
    (State.restartHeld_moved _).inForce_eq, (State.tellStartOutputs_moved _).inForce_eq,
    (State.tellPowerFails_moved _).inForce_eq, raised, State.modPlace_inForce]
  rw [ite_inForce, State.enterMode_inForce, (State.modHub_moved ..).inForce_eq, (State.modHub_moved ..).inForce_eq, booted,
    (State.newRecord_moved ..).inForce_eq]
  rfl

/-! ### The commands that commit -/

/-- A commit at a module time, of a change that is in progress. -/
theorem commitChange_takes {s : State} {c : Change} (h : s.mode.change = some c) (t : Nat) (missed : List Nat) :
    let u := (s.atTime t).commitChange missed
    u.deferred = s.deferred ∧ u.mode.change = none ∧ u.mode.mode = c.target ∧ u.mode.epoch = s.mode.epoch + 1 ∧
      u.mode.commitTick = (s.atTime t).time := by
  have taken := State.commitChange_inForce (s := s.atTime t) h missed
  simp only [State.inForce, ModeInForce.enter, ModeInForce.mk.injEq] at taken
  obtain ⟨-, mode, epoch, tick, -, change⟩ := taken
  exact ⟨(State.commitChange_moved ..).only.same .deferred rfl, change, mode, epoch, tick⟩

/-- The boot commit at a module time. -/
theorem doneBootCommit_takes (s : State) (t : Nat) : let u := doneBootCommit t (s.atTime t)
    u.mode.mode = (s.atTime t).bootMode.1 ∧ u.mode.booted = true ∧ u.mode.epoch = s.mode.epoch + 1 := by
  have taken := (s.atTime t).commitBoot_inForce
  simp only [State.inForce, ModeInForce.enter, ModeInForce.mk.injEq] at taken
  obtain ⟨-, mode, epoch, -, booted, -⟩ := taken
  simp only [doneBootCommit]
  exact ⟨mode, booted, epoch⟩

/-- Settles O33: the mode is in force as the commit enters it. -/
theorem commitsTakeTheMode : Obligations.CommitsTakeTheMode := by
  unfold Obligations.CommitsTakeTheMode
  intro t missed s units
  refine ⟨fun c change holds => ?_, fun c change holds => ?_, fun holds => ?_⟩
  · exact ⟨(s.atTime t).commitChange missed, (valid_holds units).trans (event_holds holds), commitChange_takes change t missed⟩
  · exact ⟨(s.atTime t).commitChange missed, (valid_holds units).trans (event_holds holds), commitChange_takes change t missed⟩
  · exact ⟨_, event_holds holds, doneBootCommit_takes s t⟩

/-- What was deferred until the end of a change does not raise the epoch. -/
theorem Machine.State.settleDeferred_epoch (s : State) : s.settleDeferred.mode.epoch = s.mode.epoch :=
  (State.settleDeferred_moved s).only.same .epoch rfl

/-- An event of the module is either taken or only takes its time. -/
theorem event_cases {t : Nat} {s u : State} {ok : Bool} {cond : State → Bool} {effect : State → State}
    (run : valid ok (event t s cond effect) = .next u) :
    (cond (s.atTime t) = true ∧ u = effect (s.atTime t)) ∨ u = s.atTime t := by
  cases ok with
  | false => cases run
  | true =>
    rw [valid_holds rfl, event] at run
    split at run
    case isTrue holds => cases run; exact .inl ⟨holds, rfl⟩
    case isFalse => cases run; exact .inr rfl

/-- The commit of a change, with what was deferred until then, raises the epoch by 1, or the event only takes its time. -/
theorem commit_epoch {t : Nat} {s u : State} {ok : Bool} {cond : State → Bool} {missed : List Nat}
    (changing : cond (s.atTime t) = true → ∃ c, s.mode.change = some c)
    (run : valid ok (event t s cond (settling fun v => v.commitChange missed)) = .next u) :
    u.mode.epoch = s.mode.epoch ∨ u.mode.epoch = s.mode.epoch + 1 := by
  rcases event_cases run with ⟨holds, rfl⟩ | rfl
  · obtain ⟨c, change⟩ := changing holds
    obtain ⟨-, -, -, epoch, -⟩ := commitChange_takes change t missed
    exact .inr ((State.settleDeferred_epoch _).trans epoch)
  · exact .inl rfl

/-- Settles O35: only the three commits reach the epoch, and each enters a mode with the next one. -/
theorem epochRisesOnlyAtCommits : Obligations.EpochRisesOnlyAtCommits := by
  unfold Obligations.EpochRisesOnlyAtCommits
  intro i s t run
  obtain ⟨ps, reached⟩ := exec_reached run
  rcases reached.epoch with commits | untouched
  case inr => exact .inl (reached.moved.only.same .epoch untouched)
  have changing : ∀ p : Change → Bool, s.mode.change.any p = true → ∃ c, s.mode.change = some c := fun p holds =>
    (Option.any_eq_true ..).mp holds |>.imp fun _ => And.left
  unfold Instr.commits at commits
  split at commits
  case h_1 k =>
    obtain ⟨-, -, epoch⟩ := doneBootCommit_takes s k
    rcases event_cases (ok := true) run with ⟨-, rfl⟩ | rfl
    · exact .inr ⟨epoch, .inl ⟨k, rfl⟩⟩
    · exact .inl rfl
  case h_2 k missed =>
    exact (commit_epoch (cond := whenModeCommit k missed) (changing _) run).imp_right fun epoch =>
      ⟨epoch, .inr (.inl ⟨k, missed, rfl⟩)⟩
  case h_3 k missed =>
    exact (commit_epoch (cond := whenForcedSafeHold k missed) (changing _) run).imp_right fun epoch =>
      ⟨epoch, .inr (.inr ⟨k, missed, rfl⟩)⟩
  case h_4 => cases commits

end Sys2Proof

/-! SUPPORT. The requests that wait for the end of a mode change (R121, R138, R143), and what the safety island keeps (R737). -/

namespace Sys2Proof

open Machine

set_option Elab.async false

/-! ### Requests held until the end of a change -/

/-- While a change that is not forced is in progress, nothing that was deferred goes on. -/
theorem Machine.State.settleDeferred_unforced {s : State} (h : s.mode.change.any (fun c => !c.forced) = true) :
    s.settleDeferred = s := by
  obtain ⟨c, change, unforced⟩ := (Option.any_eq_true ..).mp h
  have waits : ¬ s.mode.change.all (·.forced) = true := by simpa [change] using unforced
  exact if_neg waits

/-- R143: an island can answer ready only to a change that is not forced. -/
theorem Machine.State.unforced_of_answeredReady {s : State} {i : Nat} (h : s.answeredReady i = true) :
    s.mode.change.any (fun c => !c.forced) = true := by
  obtain ⟨c, change, ready⟩ := (Option.any_eq_true ..).mp h
  exact (Option.any_eq_true ..).mpr ⟨c, change, (Bool.and_eq_true_iff.mp ready).1⟩

/-- R138: a MODE_REQUEST waits for the end of a change, but for one with TARGET SAFE_HOLD. -/
theorem doneModeRequest_deferred {r : Request} {s : State} (hlen : opModeRequest.lenOk r.len = true)
    (booted : s.mode.booted = true) (changing : s.mode.change.isSome = true) (other : r.u 4 1 ≠ Mode.safeHold.code) :
    doneModeRequest r s = s.defer .modeRequest r := by
  simp [doneModeRequest, hlen, booted, changing, other]

/-- Settles O34: the effect of each is to be deferred, and of the two that may end a change nothing goes on. -/
theorem deferredRequestsWait : Obligations.DeferredRequestsWait := by
  unfold Obligations.DeferredRequestsWait
  intro r s v held
  refine ⟨fun taken changing => ?_, fun hch hlen booted unforced other => ?_, fun taken ready => ?_, fun taken ready => ?_,
    fun taken ready => ?_, fun taken ready => ?_, fun taken ready => ?_, fun taken stopped waits => ?_⟩
  · exact (serve_taken taken).trans (congrArg _ (if_pos changing))
  · have changing : s.mode.change.isSome = true := Option.isSome_of_any unforced
    have waits : settling (doneModeRequest r) v = held .modeRequest := by
      rw [settling, doneModeRequest_deferred (s := v) hlen booted changing other]
      exact State.settleDeferred_unforced unforced
    exact (valid_holds (decide_eq_true hch)).trans (congrArg _ waits)
  · exact (serve_taken taken).trans (congrArg _ (if_pos ready))
  · exact (serve_taken taken).trans (congrArg _ (if_pos ready))
  · exact (serve_taken taken).trans (congrArg _ (if_pos ready))
  · have waits : settling (doneImageRevert r) v = held .imageRevert := by
      rw [settling, show doneImageRevert r v = held .imageRevert from if_pos ready]
      exact State.settleDeferred_unforced (State.unforced_of_answeredReady ready)
    exact (serve_taken taken).trans (congrArg _ waits)
  · exact (serve_taken taken).trans (congrArg _ (if_pos ready))
  · have waits : doneFunctionStart r v = held .functionStart := by
      have stopped : (v.inst (r.u 4 1)).running = false := stopped
      have waits : v.startDeferred (r.u 4 1) = true := waits
      simp only [doneFunctionStart, stopped, waits]
      rfl
    exact (serve_taken taken).trans (congrArg _ waits)

/-! ### The safety island (R737) -/

/-- A MODE_REQUEST is deferred alone, if at all. -/
theorem doneModeRequest_defers (r : Request) (s : State) :
    (doneModeRequest r s).deferred = s.deferred ∨ (doneModeRequest r s).deferred = s.deferred ++ [(.modeRequest, r)] := by
  have refused : ∀ st, (refuse opModeRequest moduleSupervisor r st s).deferred = s.deferred := fun _ =>
    (refuse_moved ..).only.same .deferred rfl
  simp only [doneModeRequest]
  split
  · exact .inl (refused _)
  split
  · exact .inl (refused _)
  split
  · exact .inr rfl
  split
  · exact .inl (refused _)
  split
  · exact .inl (refused _)
  split
  · exact .inl (refused _)
  · exact .inl ((State.tryMode_moved ..).only.same .deferred rfl)

/-- Where only MODE_REQUESTs wait, what goes on at the end of a change leaves the safety island alone. -/
theorem Machine.State.settleDeferred_modeRequests {s : State} (h : ∀ x ∈ s.deferred, x.1 = .modeRequest) :
    Moved [.hub, .change, .fences, .auth, .diag, .ledger, .fabric, .vision, .buses, .eth, .fleet, .display, .safetyRecord,
      .deferred] s s.settleDeferred := by
  unfold State.settleDeferred
  dsimp only
  refine .ite ?_ (.refl ..)
  refine List.foldlRecOn (motive := fun t : State => Moved _ s t) _ _ ((set_deferred ..).widen rfl) fun t before x member => ?_
  rw [State.redo, h x member]
  exact .via (doneModeRequest_moved ..) before rfl

theorem reachesSafety_eq_false {i : Instr} (other : ∀ r, i ≠ .configCommit r ∧ i ≠ .selftest r ∧ i ≠ .imageActivate r ∧
    i ≠ .imageRevert r ∧ i ≠ .recoveryEnter r ∧ i ≠ .offRequest r) : i.reachesSafety = false := by
  unfold Instr.reachesSafety
  split
  case h_7 => rfl
  all_goals simp at other

/-- With nothing deferred before, MODE_REQUEST leaves what the safety island does, and so does what goes on after it. -/
theorem modeRequest_safety {r : Request} {s t : State} (idle : s.deferred = []) (run : exec (.modeRequest r) s = .next t) :
    Part.same s t .safety := by
  have run : valid (decide (r.ch < 64)) (.next (doneModeRequest r (s.atTime r.time)).settleDeferred) = .next t := run
  unfold valid at run
  split at run
  case isFalse => cases run
  case isTrue =>
    cases run
    have only : ∀ x ∈ (doneModeRequest r (s.atTime r.time)).deferred, x.1 = .modeRequest := by
      rcases doneModeRequest_defers r (s.atTime r.time) with same | held
      · simp [same, idle]
      · simp [held, idle]
    have granted := (State.atTime_moved s r.time).append (doneModeRequest_moved r _)
    exact (granted.append (State.settleDeferred_modeRequests only)).only.same .safety rfl

/-- Settles O36: of the requests only those excluded reach the safety island, and MODE_REQUEST is deferred alone. -/
theorem safetyLeftAlone : Obligations.SafetyLeftAlone := by
  unfold Obligations.SafetyLeftAlone
  intro i s t asked run other
  rcases asked with asked | ⟨idle, r, rfl⟩
  · obtain ⟨ps, reached⟩ := exec_reached run
    rcases reached.safety asked with reaches | untouched
    · exact absurd reaches (Bool.eq_false_iff.mp (reachesSafety_eq_false other))
    · exact reached.moved.only.same .safety untouched
  · exact modeRequest_safety idle run

end Sys2Proof

/-! SUPPORT. The channels of the hub: what a reply writes (R176), what a write of CH_STATUS leaves of the flags (R181, R182), what
RESET_CH may do to another channel (R323, R820), and the reset values (R156, R157). -/

namespace Sys2Proof

open Machine

set_option Elab.async false

/-! ### Reply rings (R162, R168, R176) -/

/-- R162: notification and coalescing leave the reply ring and the connection. -/
theorem Machine.Channel.coalesce_ring (c : Channel) (t : Nat) (urgent : Bool) :
    (c.coalesce t urgent).ring = c.ring ∧ (c.coalesce t urgent).sent = c.sent := by
  obtain ⟨_, _, _, flagged⟩ := c.setFlag_eq stReply
  unfold Channel.coalesce Channel.notifyReply
  rw [flagged]
  split
  · exact ⟨rfl, rfl⟩
  · split <;> exact ⟨rfl, rfl⟩

theorem Machine.Channel.write_ring (c : Channel) (m : Message) :
    (c.write m).ring = (if c.ringed then c.ring ++ [m] else c.ring) ∧
      (c.write m).sent = (if c.ringed then c.sent else c.sent ++ [m]) := by
  unfold Channel.write
  split <;> simp [*]

@[simp] theorem Machine.State.markWake_chan (s : State) (old new : Channel) (k : Nat) :
    (s.markWake old new).chan k = s.chan k := by
  unfold State.markWake
  split <;> rfl

@[simp] theorem Machine.State.noteSent_chan (s old : State) (k : Nat) : (s.noteSent old).chan k = s.chan k := rfl

/-- The channel as a reply with this status finds it: the request is no longer outstanding, and a malformed one sets BAD_MESSAGE
(R175). -/
def answering (o : OpSpec) (r : Request) (st : Status) (c : Channel) : Channel :=
  let c := { c with outstanding := dropOutstanding o r.tag c.outstanding }
  if inRange st.code 0x0101 0x0105 then c.setFlag stBad else c

theorem answering_eq (o : OpSpec) (r : Request) (st : Status) (c : Channel) :
    (answering o r st c).ring = c.ring ∧ (answering o r st c).sent = c.sent ∧ (answering o r st c).path = c.path := by
  obtain ⟨_, _, _, flagged⟩ := Channel.setFlag_eq { c with outstanding := dropOutstanding o r.tag c.outstanding } stBad
  unfold answering
  dsimp only
  split
  · rw [flagged]; exact ⟨rfl, rfl, rfl⟩
  · exact ⟨rfl, rfl, rfl⟩

/-- The reply of a request (R176). -/
def replyMessage (o : OpSpec) (r : Request) (st : Status) (payload : List Byte) : Message :=
  { family := o.family, op := o.op, flags := flag r.wanted + 4 * flag r.urgent, status := st.code, tag := r.tag,
    payload := payload }

/-- The channel once the reply is in its ring or on its connection, coalesced (R162). -/
def replied (o : OpSpec) (r : Request) (st : Status) (payload : List Byte) (t : Nat) (c : Channel) : Channel :=
  ((answering o r st c).write (replyMessage o r st payload)).coalesce t r.urgent

/-- A reply to a request that was not fetched before a RESET_CH. -/
theorem Machine.State.writeReply_eq {o : OpSpec} {r : Request} {s : State} (st : Status) (payload : List Byte)
    (mine : (s.chan r.ch).isOrphan o r.tag = false) : s.writeReply o r st payload =
      let c := s.chan r.ch
      let s' := s.setChan r.ch (answering o r st c)
      if (answering o r st c).path == .compat then
        s'.modCompat fun v => v.copy st.code (st == .ok || st == .accepted) payload
      else if (c.enable || c.awaits o r.tag) && (r.wanted || !(st == .ok || st == .accepted)) then
        ((s'.setChan r.ch (replied o r st payload s.time c)).noteSent s').markWake c (replied o r st payload s.time c)
      else s'.markWake c (answering o r st c) :=
  if_neg (by simp [mine])

/-- R176: on an enabled channel with rings or a connection, a wanted reply is written, and any other leaves nothing there. -/
theorem Machine.State.writeReply_chan {o : OpSpec} {r : Request} {s : State} (st : Status) (payload : List Byte)
    (enabled : (s.chan r.ch).enable = true) (path : (s.chan r.ch).path ≠ .compat)
    (mine : (s.chan r.ch).isOrphan o r.tag = false) :
    (s.writeReply o r st payload).chan r.ch =
      if r.wanted = true ∨ (st ≠ .ok ∧ st ≠ .accepted) then replied o r st payload s.time (s.chan r.ch)
      else answering o r st (s.chan r.ch) := by
  obtain ⟨-, -, samePath⟩ := answering_eq o r st (s.chan r.ch)
  have apart : ((answering o r st (s.chan r.ch)).path == .compat) = false := by simpa [samePath] using path
  have wanted : (r.wanted || !(st == .ok || st == .accepted)) =
      decide (r.wanted = true ∨ (st ≠ .ok ∧ st ≠ .accepted)) := by
    cases st <;> cases r.wanted <;> rfl
  simp only [State.writeReply_eq st payload mine, apart, enabled, wanted, Bool.true_or, Bool.true_and, Bool.false_eq_true,
    if_false, decide_eq_true_eq]
  split <;> simp

/-- Settles O28. -/
theorem replyWritten : Obligations.ReplyWritten := by
  unfold Obligations.ReplyWritten
  intro o r st payload s enabled path mine c d m
  obtain ⟨ring, sent, samePath⟩ := answering_eq o r st c
  have ringed : (answering o r st c).ringed = c.ringed := by rw [Channel.ringed, samePath]; rfl
  have written : d = _ := State.writeReply_chan st payload enabled path mine
  split
  case isTrue wants =>
    obtain ⟨newRing, newSent⟩ := Channel.coalesce_ring ((answering o r st c).write m) s.time r.urgent
    obtain ⟨wroteRing, wroteSent⟩ := (answering o r st c).write_ring m
    rw [ringed, ring] at wroteRing
    rw [ringed, sent] at wroteSent
    rw [written, if_pos wants]
    exact ⟨newRing.trans wroteRing, newSent.trans wroteSent⟩
  case isFalse wants =>
    rw [written, if_neg wants]
    exact ⟨ring, sent⟩

/-! ### CH_STATUS (R181, R182) -/

/-- A hardware set of one flag, without its interrupt (R181). -/
def setBit (bits : Nat) (c : Channel) (n : Nat) : Channel :=
  if bit bits n then { c with status := c.status ||| BitVec.ofNat 7 (2 ^ n), cnt := c.cnt.modify n (· + 1) } else c

theorem setBit_flag (bits n b : Nat) (c : Channel) (hb : b < 7) :
    (setBit bits c n).status.getLsbD b = (c.status.getLsbD b || (decide (n = b) && bit bits n)) ∧
      (setBit bits c n).cnt[b]? = c.cnt[b]?.map fun x => x + if n = b ∧ bit bits n = true then 1 else 0 := by
  unfold setBit
  split
  case isTrue set =>
    refine ⟨by simp only [BitVec.getLsbD_or, BitVec.getLsbD_ofNat, Nat.testBit_two_pow, hb, set, decide_true, Bool.true_and,
      Bool.and_true], ?_⟩
    simp only [List.getElem?_modify, set, and_true, Option.map_eq_map]
    congr 1
    funext x
    split <;> simp
  case isFalse clear => simp [clear]

/-- R181: the first `n` flags are set where hardware sets them, and the counter of each grows by 1 with it. -/
theorem setBits_flag (bits n b : Nat) (c : Channel) (hb : b < 7) :
    ((List.range n).foldl (setBit bits) c).status.getLsbD b = (c.status.getLsbD b || (decide (b < n) && bit bits b)) ∧
      ((List.range n).foldl (setBit bits) c).cnt[b]? =
        c.cnt[b]?.map fun x => x + if b < n ∧ bit bits b = true then 1 else 0 := by
  induction n with
  | zero => simp
  | succ n ih =>
    obtain ⟨status, cnt⟩ := ih
    obtain ⟨flag, count⟩ := setBit_flag bits n b ((List.range n).foldl (setBit bits) c) hb
    rw [List.range_succ, List.foldl_append, List.foldl_cons, List.foldl_nil, flag, count, status, cnt, Option.map_map]
    rcases Nat.lt_trichotomy b n with below | rfl | above
    · simp [Function.comp_def, below, Nat.lt_succ_of_lt below, Nat.ne_of_gt below]
    · simp [Function.comp_def]
    · simp [Function.comp_def, Nat.not_lt_of_lt above, Nat.ne_of_lt above, Nat.not_lt.mpr above]

/-- R182, R184: the flags after a write of CH_STATUS; beside them only the interrupt may move. -/
theorem Machine.Channel.writeStatus_eq (c : Channel) (w set : Nat) : ∃ irq pending count, c.writeStatus w set =
    { Channel.setBits { c with status := c.status &&& ~~~(BitVec.ofNat 7 w) } set with
      irq := irq, msiPending := pending, irqCount := count } := by
  unfold Channel.writeStatus Channel.sendIrq Channel.levelIrq
  dsimp only
  split
  · split
    · split <;> exact ⟨_, _, _, rfl⟩
    · exact ⟨_, _, _, rfl⟩
  · exact Channel.refreshIrq_eq ..

/-- R182: a flag reads 1 where hardware sets it, or where it was 1 and the write does not clear it. -/
theorem Machine.Channel.writeStatus_flag (c : Channel) (w set : U32) {b : Nat} (hb : b < 7) :
    (c.writeStatus w.toNat set.toNat).status.getLsbD b = (set.getLsbD b || (c.status.getLsbD b && !w.getLsbD b)) ∧
      (c.writeStatus w.toNat set.toNat).cnt[b]? = c.cnt[b]?.map fun n => n + if set.getLsbD b then 1 else 0 := by
  obtain ⟨_, _, _, written⟩ := c.writeStatus_eq w.toNat set.toNat
  obtain ⟨status, cnt⟩ := setBits_flag set.toNat 7 b { c with status := c.status &&& ~~~(BitVec.ofNat 7 w.toNat) } hb
  rw [written]
  refine ⟨status.trans ?_, cnt.trans ?_⟩
  · simp only [BitVec.getLsbD_and, BitVec.getLsbD_not, BitVec.getLsbD_ofNat, bit, BitVec.testBit_toNat, hb, decide_true,
      Bool.true_and, Bool.or_comm]
  · simp only [bit, BitVec.testBit_toNat, hb, true_and]

/-- Settles O29: in Run no wake follows (R185), so that the flags are as the write leaves them. -/
theorem setWinsOverClear : Obligations.SetWinsOverClear := by
  unfold Obligations.SetWinsOverClear
  intro t src ch w set s hch own rung entering
  have given : ((256 * ch + 4) % 4 = 0 && 256 * ch + 4 < 0x10000) = true := by simp; omega
  have block : 256 * ch + 4 < 0x4000 ∧ (256 * ch + 4) % 256 = 4 := by omega
  have index : (256 * ch + 4) / 256 = ch := by omega
  have own : (s.atTime t).ownPath src ch = true := own
  have written : (s.atTime t).w1cWrite src (256 * ch + 4) w.toNat set.toNat =
      (s.atTime t).modChan ch (·.writeStatus w.toNat set.toNat) := by
    simp [State.w1cWrite, block, index, own]
  have run : exec (.w1cClear t src (256 * ch + 4) w set) s =
      .next ((s.atTime t).modChan ch (·.writeStatus w.toNat set.toNat)) := by
    have inRun : ((s.atTime t).modChan ch (·.writeStatus w.toNat set.toNat)).InRun := ⟨rung, entering⟩
    refine (valid_holds given).trans ((event_holds rfl).trans (congrArg _ ?_))
    rw [doneW1cClear, written, State.flagWake_inRun inRun]
  refine ⟨_, run, fun b hb => ?_⟩
  rw [State.modChan_chan]
  exact Channel.writeStatus_flag _ w set hb

/-! ### RESET_CH (R170, R323, R820) -/

/-- An event of the ledger that waits for MODE_ENTERED. -/
def waitingEvent : RaisedEvent :=
  { time := 0, unit := uLedger, code := 0x0605, fields := [], req := none, toSubs := true, fail := false, hold := [] }

/-- A write by the channel's own path has its effect. -/
theorem exec_resetCh {t : Nat} {src : Path} {ch : Nat} {w : U32} {s : State} (hch : ch < 64) (own : s.ownPath src ch = true) :
    exec (.resetCh t src ch w) s = .next (doneResetCh t src ch w (s.atTime t)) :=
  (valid_holds (decide_eq_true hch)).trans (event_holds own)

/-- A started module before its boot commit: channel 1 is bound to the application cores, channel 0 is subscribed to every family,
512 events wait for MODE_ENTERED (R820), and the command share of the ledger, now free, is under pressure (R323). -/
def crowdedHub : State :=
  { State.reset with
    power := { Power.reset with life := .started }
    ledger := { Ledger.reset with pressureCmd := true }
    hub := { Hub.reset with chans := Hub.reset.chans.put 1 { Channel.reset with path := .app },
                            raised := List.replicate 512 waitingEvent } }

/-- R332, R323, R820: RESET_CH of channel 1 retires its outcomes and so ends the pressure; the event that tells so is one too
many, and channel 0 is owed LOST_BEFORE for the oldest. -/
theorem crowdedHub_reset : ((doneResetCh 1 .app 1 2 (crowdedHub.atTime 1)).chan 0).lostBefore = true := by
  decide +kernel

/-- Refutes O31: the LEDGER_PRESSURE event that RESET_CH may raise before the boot commit can push out the oldest of 512 events,
and so changes LOST_BEFORE of another channel. -/
theorem not_resetChannelEmpties : ¬ Obligations.ResetChannelEmpties := by
  unfold Obligations.ResetChannelEmpties
  intro h
  obtain ⟨u, run, others, -⟩ := h 1 .app 1 2 crowdedHub (by decide) (by decide) rfl rfl (by decide)
  cases (exec_resetCh (by decide) (by decide)).symm.trans run
  have kept : ((doneResetCh 1 .app 1 2 (crowdedHub.atTime 1)).chan 0).lostBefore = (crowdedHub.chan 0).lostBefore :=
    congrArg Channel.lostBefore (others 0 (by decide))
  rw [crowdedHub_reset] at kept
  cases kept

/-! ### The reset values (R156, R157) -/

/-- At reset a channel other than 0 holds the reset record, and channel 0 that record with its path and subscription. -/
theorem reset_chan (ch : Nat) :
    ∃ path families, State.reset.chan ch = { Channel.reset with path := path, families := families } := by
  by_cases first : ch = 0
  · subst first
    exact ⟨.app, allFamilies, rfl⟩
  · exact ⟨_, _, Bank.rd_put_other Bank.empty first ..⟩

/-- Settles O57: every field but PATH and the subscription is that of the reset record. -/
theorem resetRegisters : Obligations.ResetRegisters := by
  unfold Obligations.ResetRegisters
  refine ⟨fun ch _ => ?_, rfl, rfl, rfl⟩
  obtain ⟨path, families, chan⟩ := reset_chan ch
  rw [chan]
  exact ⟨rfl, rfl, rfl, rfl, rfl, rfl, rfl, rfl, rfl, rfl, rfl, rfl, rfl, rfl, rfl⟩

end Sys2Proof

/-! SUPPORT. The load switches (R425, R426, R438): what a latched fault and a trip leave of a channel. -/

namespace Sys2Proof

open Machine

set_option Elab.async false

/-! ### One channel -/

@[simp] theorem Machine.State.modSw_sw (s : State) (c : Nat) (f : Switch → Switch) : (s.modSw c f).sw c = f (s.sw c) :=
  Bank.rd_upd ..

/-- The channels of the power stage are those of the bank. -/
theorem Machine.State.sw_congr {s t : State} (h : t.stage.chans = s.stage.chans) (c : Nat) : t.sw c = s.sw c := by
  rw [State.sw, h, State.sw]

/-- A channel's settings and retries are read from its own record. -/
theorem Machine.State.swCfg_congr {s t : State} {c : Nat} (cfg : (t.sw c).cfg = (s.sw c).cfg) (off size : Nat) :
    t.swCfg c off size = s.swCfg c off size := by
  simp only [State.swCfg, State.swConfig, cfg]

theorem Machine.State.swLeft_congr {s t : State} {c : Nat} (cfg : (t.sw c).cfg = (s.sw c).cfg)
    (left : (t.sw c).retriesLeft = (s.sw c).retriesLeft) : t.swLeft c = s.swLeft c := by
  simp only [State.swLeft, State.swRetries, left, State.swCfg_congr cfg]

/-! ### Switching off (R424) -/

/-- The channel is off; beside its timers only DIAG bit 4 may move. -/
theorem Machine.State.turnOff_sw (s : State) (c : Nat) : ∃ d, (s.turnOff c).sw c =
    { s.sw c with phase := .off, pulse := none, duty := 0, onSince := none, diag := d } := by
  unfold State.turnOff State.setDiag
  dsimp only
  split
  case isTrue => exact ⟨_, State.modSw_sw ..⟩
  case isFalse =>
    rw [if_neg (by decide), State.modSw_sw, State.modSw_sw]
    exact ⟨_, rfl⟩

/-- What becomes of the requests and edges that wait for a channel leaves every channel. -/
@[simp] theorem Machine.State.endWaiting_chans (s : State) (c result : Nat) :
    (s.endWaiting c result).stage.chans = s.stage.chans := by
  rw [State.endWaiting, show ((s.endEntries c result).endBegun c result).stage = (s.endEntries c result).stage from
    (State.endBegun_moved ..).only.same .stage rfl]
  rfl

@[simp] theorem Machine.State.tellChannel_stage (s : State) (c kind fault current : Nat) :
    (s.tellChannel c kind fault current).stage = s.stage :=
  (State.tellChannel_moved ..).only.same .stage rfl

@[simp] theorem Machine.State.finishRequests_chans (s : State) : s.finishRequests.stage.chans = s.stage.chans := by
  unfold State.finishRequests
  refine (foldl_keeps (fun t : State => t.stage.chans) (fun t q => ?_) _ _).trans rfl
  split
  case h_1 => rw [show (State.complete t ..).stage = t.stage from (State.complete_moved ..).only.same .stage rfl]
  case h_2 => rfl

/-- R439: a latched fault switches the channel off. -/
theorem Machine.State.latchFault_sw (s : State) (c fault current : Nat) : ∃ d, (s.latchFault c fault current).sw c =
    { s.sw c with fault := fault, cmdOn := false, phase := .off, pulse := none, duty := 0, onSince := none, diag := d } := by
  obtain ⟨d, off⟩ := (s.modSw c fun x => { x with fault := fault, cmdOn := false }).turnOff_sw c
  refine ⟨d, ?_⟩
  rw [State.modSw_sw] at off
  rw [← off]
  exact State.sw_congr (by simp [State.latchFault]) c

/-! ### OVERTEMP (R438) -/

/-- Settles O42. -/
theorem overtempLatches : Obligations.OvertempLatches := by
  unfold Obligations.OvertempLatches
  refine ⟨fun t ch s hch runs sound => ?_, fun r s taken fault hot => ?_⟩
  · have holds : whenJunctionOvertemp t ch (s.atTime t) = true := by
      simp only [whenJunctionOvertemp, Bool.and_eq_true, beq_iff_eq]
      exact ⟨runs, sound⟩
    refine ⟨_, (valid_holds (decide_eq_true hch)).trans (event_holds holds), ?_⟩
    obtain ⟨d, latched⟩ := ((s.atTime t).modSw ch fun x => { x with cool := false }).latchFault_sw ch 4
      ((s.atTime t).sw ch).current
    have off : (doneJunctionOvertemp t ch (s.atTime t)).sw ch = _ :=
      (State.sw_congr (State.finishRequests_chans _) ch).trans latched
    rw [off]
    exact ⟨rfl, rfl, rfl⟩
  · have fault : ((s.atTime r.time).sw (r.u 4 1)).fault = 4 := fault
    have hot : ((s.atTime r.time).sw (r.u 4 1)).cool = false := hot
    have refused : doneClearFault r (s.atTime r.time) = refuseWith opClearFault (swUnitOf (r.u 4 1)) r .hwFault
        (le 4 ((s.atTime r.time).free 32).1.toNat) ((s.atTime r.time).free 32).2 := by
      simp [doneClearFault, fault, hot]
    refine ⟨_, _, (serve_taken taken).trans (congrArg _ refused), ?_⟩
    exact (refuseWith_moved ..).only.same .stage rfl

/-! ### The hard limit (R425, R426) -/

@[simp] theorem Machine.State.modSw_time (s : State) (c : Nat) (f : Switch → Switch) : (s.modSw c f).time = s.time := rfl

/-- A trip with no retry left latches its fault. -/
theorem Machine.State.trip_latches (s : State) (c fault current : Nat) (left : s.swLeft c = 0) :
    ((s.trip c fault current).sw c).phase = .off ∧ ((s.trip c fault current).sw c).fault = fault := by
  obtain ⟨d, latched⟩ := s.latchFault_sw c fault current
  rw [State.trip, if_pos left, latched]
  exact ⟨rfl, rfl⟩

/-- A trip with a retry left uses it up and waits RETRY_MS. -/
theorem Machine.State.trip_waits (s : State) (c fault current : Nat) (left : s.swLeft c ≠ 0) :
    ((s.trip c fault current).sw c).phase = .retryWait (s.time + s.swCfg c 12 2 * ms) ∧
      ((s.trip c fault current).sw c).retriesLeft = some (s.swLeft c - 1) := by
  obtain ⟨d, off⟩ := s.turnOff_sw c
  have time : (s.turnOff c).time = s.time := (State.turnOff_moved ..).only.same .time rfl
  have cfg : (s.turnOff c).swCfg c 12 2 = s.swCfg c 12 2 := State.swCfg_congr (by rw [off]) 12 2
  rw [State.trip, if_neg left, State.modSw_sw, time, cfg]
  exact ⟨rfl, rfl⟩

/-- Settles O43: the trip latches SHORT, or uses up a retry. -/
theorem hardLimitSwitchesOff : Obligations.HardLimitSwitchesOff := by
  unfold Obligations.HardLimitSwitchesOff
  intro t ch peak s hch conducts reached
  have holds : whenHardCurrentLimit t ch peak (s.atTime t) = true := by
    simp only [whenHardCurrentLimit, Bool.and_eq_true, decide_eq_true_eq]
    exact ⟨conducts, reached⟩
  refine ⟨_, (valid_holds (decide_eq_true hch)).trans (event_holds holds), ?_⟩
  let limited := (((s.atTime t).modSw ch fun x => { x with limited := true }).count (swUnit ch) 17)
  have own : limited.sw ch = { s.sw ch with limited := true } := State.modSw_sw ..
  have after : (doneHardCurrentLimit t ch peak (s.atTime t)).sw ch = (limited.trip ch 1 peak).sw ch :=
    State.sw_congr (State.finishRequests_chans _) ch
  have left : limited.swLeft ch = s.swLeft ch := State.swLeft_congr (by rw [own]) (by rw [own])
  have wait : limited.swCfg ch 12 2 = s.swCfg ch 12 2 := State.swCfg_congr (by rw [own]) 12 2
  rw [after, ← left, ← wait]
  rcases Decidable.em (limited.swLeft ch = 0) with none | some
  · have latches := limited.trip_latches ch 1 peak none
    exact ⟨by rw [latches.1]; rfl, fun _ => latches, fun retry => absurd none retry⟩
  · have waits := limited.trip_waits ch 1 peak some
    exact ⟨by rw [waits.1]; rfl, fun spent => absurd spent some, fun _ => waits⟩

end Sys2Proof

/-! SUPPORT. One object of a bank at a time: calibration runs (R398), loops cleared, and sections set by their entries. -/

namespace Sys2Proof

open Machine

set_option Elab.async false

/-! ### Taking an index out of a bank -/

theorem Bank.findIn_filter {α : Type} (j k : Nat) (l : List (Nat × α)) :
    Bank.findIn j (l.filter fun e => e.1 ≠ k) = if j = k then none else Bank.findIn j l := by
  induction l with
  | nil => simp [Bank.findIn]
  | cons e l ih =>
    simp only [List.filter_cons, decide_eq_true_eq]
    by_cases out : e.1 = k
    · rw [if_neg (by simpa using out), ih]
      by_cases same : j = k
      · simp [same]
      · simp [same, Bank.findIn, show e.1 ≠ j by omega]
    · rw [if_pos out, Bank.findIn, Bank.findIn, ih]
      by_cases here : e.1 = j
      · simp [here, show j ≠ k by omega]
      · simp [here]

@[simp] theorem Bank.find_erase {α : Type} (b : Bank α) (k : Nat) : (b.erase k).find k = none :=
  (Bank.findIn_filter k k b.entries).trans (if_pos rfl)

theorem Bank.find_erase_other {α : Type} (b : Bank α) {j k : Nat} (other : j ≠ k) : (b.erase k).find j = b.find j :=
  (Bank.findIn_filter j k b.entries).trans (if_neg other)

theorem Bank.find_upd_other {α : Type} (b : Bank α) {j k : Nat} (other : j ≠ k) (d : α) (f : α → α) :
    (b.upd k d f).find j = b.find j :=
  Bank.find_put_other b other _

/-! ### Calibration runs (R398) -/

@[simp] theorem Machine.State.modInst_inst (s : State) (n : Nat) (f : Instance → Instance) :
    (s.modInst n f).inst n = f (s.inst n) :=
  Bank.rd_upd ..

theorem Machine.State.modInst_inst_other (s : State) {k n : Nat} (other : k ≠ n) (f : Instance → Instance) :
    (s.modInst n f).inst k = s.inst k :=
  Bank.rd_upd_other _ other ..

@[simp] theorem Machine.answer_inst (o : OpSpec) (unit : Nat) (r : Request) (payload : List Byte) (s : State) (k : Nat) :
    (answer o unit r payload s).inst k = s.inst k := by
  rw [State.inst, show (answer o unit r payload s).functions = s.functions from
    (answer_moved ..).only.same .functions rfl, State.inst]

@[simp] theorem Machine.refuse_inst (o : OpSpec) (unit : Nat) (r : Request) (st : Status) (s : State) (k : Nat) :
    (refuse o unit r st s).inst k = s.inst k := by
  rw [State.inst, show (refuse o unit r st s).functions = s.functions from
    (refuse_moved ..).only.same .functions rfl, State.inst]

/-- R398: the factor of a run's end, of at least 500,000 g and in its range. -/
theorem newCal_eq (x : Instance) (weighed : Nat) : newCal x weighed =
    let g := x.calSum.getD 0 / 1000
    let new := divNear (x.pu 12 4 * weighed) g
    if 500000 ≤ g ∧ 32768 ≤ new ∧ new ≤ 131072 then some new else none := by
  refine (if_congr ?_ rfl rfl).trans (ite_not ..)
  simp only [inRange, Bool.or_eq_true, decide_eq_true_eq, Bool.not_eq_true', Bool.and_eq_false_iff, decide_eq_false_iff_not]
  omega

/-- Settles O40, action by action. -/
theorem calibrationRuns : Obligations.CalibrationRuns := by
  unfold Obligations.CalibrationRuns
  intro r s taken n x g new
  refine ⟨_, serve_taken taken, ?_⟩
  have own : (s.atTime r.time).inst n = x := rfl
  have cal := newCal_eq x (r.u 8 8)
  unfold doneCalibrate
  dsimp only at cal ⊢
  split
  case h_1 begins =>
    refine ⟨fun k other => ?_, fun _ => ?_, by omega, by omega, by omega⟩
    · rw [answer_inst, State.modInst_inst_other _ other]; rfl
    · rw [answer_inst, State.modInst_inst, own]
  case h_2 ends =>
    rw [own, cal]
    split
    case h_1 refused =>
      have unfit := (ite_eq_right_iff.mp refused).mt (by simp)
      refine ⟨fun k other => ?_, by omega, by omega, fun _ _ _ _ => absurd ⟨‹_›, ‹_›, ‹_›⟩ unfit,
        fun _ _ => ⟨rfl, ?_⟩⟩
      · rw [refuse_inst, State.modInst_inst_other _ other]; rfl
      · rw [refuse_inst, State.modInst_inst, own]
    case h_2 c found =>
      obtain ⟨⟨enough, low, high⟩, same⟩ := Option.ite_none_right_eq_some.mp found
      cases same
      refine ⟨fun k other => ?_, by omega, by omega, fun _ _ _ _ => ?_,
        fun _ unfit => (unfit.elim (Nat.not_lt.mpr enough) (·.elim (Nat.not_lt.mpr low) (Nat.not_lt.mpr high))).elim⟩
      · rw [answer_inst, State.modInst_inst_other _ other]; rfl
      · rw [answer_inst, State.modInst_inst, own]; exact ⟨rfl, rfl⟩
  case h_3 notBegin notEnd =>
    refine ⟨fun k other => ?_, fun begins => absurd begins notBegin, fun _ => ?_, fun ends => absurd ends notEnd,
      fun ends => absurd ends notEnd⟩
    · rw [answer_inst, State.modInst_inst_other _ other]; rfl
    · rw [answer_inst, State.modInst_inst, own]

/-! ### Loops cleared -/

theorem Machine.State.dropClosing_find (s : State) {k n : Nat} (other : k ≠ n) (cause : Nat) :
    (s.dropClosing n cause).control.loops.find k = s.control.loops.find k := by
  unfold State.dropClosing
  split
  case h_1 =>
    dsimp only
    split
    · exact Bank.find_upd_other _ other ..
    · rw [show (State.tellLoop _ _ _ _ _ _ _ _ _).control = _ from (State.tellLoop_moved ..).only.same .control rfl]
      exact Bank.find_upd_other _ other ..
  case h_2 => rfl

/-- Settles O41. -/
theorem loopsCleared : Obligations.LoopsCleared := by
  unfold Obligations.LoopsCleared
  intro r s taken
  refine ⟨_, serve_taken taken, ?_⟩
  have loops : (doneLoopClear r (s.atTime r.time)).control.loops =
      ((s.atTime r.time).dropClosing (r.u 4 1) 0).control.loops.erase (r.u 4 1) := by
    rw [doneLoopClear, show (answer opLoopClear _ r _ _).control = _ from (answer_moved ..).only.same .control rfl]
    exact foldl_keeps (fun t : State => t.control.loops) (fun t j => (rfl : (t.modLane j _).control.loops = _)) _ _
  rw [loops]
  exact ⟨Bank.find_erase .., fun k other => (Bank.find_erase_other _ other).trans (State.dropClosing_find _ other _)⟩

/-! ### Sections by their entries -/

/-- What an entry makes of the table: a section of width 0 is removed. -/
def setSection (r : Request) (first : Nat) (b : Bank Section) (i : Nat) : Bank Section :=
  if (sectionEntry r i).width = 0 then b.erase (first + i) else b.put (first + i) (sectionEntry r i)

theorem setSection_find (r : Request) (first : Nat) (b : Bank Section) (i : Nat) : (setSection r first b i).find (first + i) =
    if (sectionEntry r i).width = 0 then none else some (sectionEntry r i) := by
  unfold setSection
  split
  · exact Bank.find_erase ..
  · exact Bank.find_put ..

theorem setSection_find_other (r : Request) {first k i : Nat} (b : Bank Section) (other : k ≠ first + i) :
    (setSection r first b i).find k = b.find k := by
  unfold setSection
  split
  · exact Bank.find_erase_other _ other
  · exact Bank.find_put_other _ other _

/-- The entries of a range set their own sections and leave every other. -/
theorem setSections_find (r : Request) (first n : Nat) (b : Bank Section) (k : Nat) :
    ((List.range n).foldl (setSection r first) b).find k =
      if first ≤ k ∧ k < first + n then
        (if (sectionEntry r (k - first)).width = 0 then none else some (sectionEntry r (k - first)))
      else b.find k := by
  induction n with
  | zero => rw [if_neg (by omega)]; rfl
  | succ n ih =>
    rw [List.range_succ, List.foldl_append]
    show (setSection r first _ n).find k = _
    by_cases last : k = first + n
    · subst last
      rw [setSection_find, Nat.add_sub_cancel_left]
      exact (if_pos (by omega)).symm
    · rw [setSection_find_other r _ last, ih]
      exact if_congr (by omega) rfl rfl

/-- The width of an entry is its own field. -/
theorem sectionEntry_width (r : Request) (i : Nat) : (sectionEntry r i).width = r.u (20 + 20 * i) 2 :=
  congrArg (r.u · 2) (by omega)

/-- A request with no fault but that its object is in use is refused with BUSY_ID. -/
theorem refusal_busyId {busy bad : Bool} (running : busy = true) (sound : [(bad, Status.badParam)].all (fun c => !c.1) = true) :
    refusal [(busy, .busyId), (bad, .badParam)] = some .busyId := by
  rw [running, show bad = false by simpa using sound]
  rfl

/-- Settles O44. -/
theorem sectionsSetByEntry : Obligations.SectionsSetByEntry := by
  unfold Obligations.SectionsSetByEntry
  refine ⟨fun r s taken => ?_, fun r s hch passed running sound => ?_⟩
  · refine ⟨_, serve_taken taken, ?_⟩
    have secs : (doneSectionsSet r (s.atTime r.time)).sections.secs =
        (List.range (r.u 5 1)).foldl (setSection r (r.u 4 1)) s.sections.secs := by
      rw [doneSectionsSet, show (answer opSectionsSet _ r _ _).sections = _ from (answer_moved ..).only.same .sections rfl]
      exact List.foldl_map
    rw [secs]
    refine ⟨fun k outside => ?_, fun i inside => ?_⟩
    · rw [setSections_find, if_neg (by omega)]
    · rw [setSections_find, if_pos (by omega), Nat.add_sub_cancel_left, sectionEntry_width]
  · exact serve_refused hch passed (refusal_busyId (bne_iff_ne.mpr running) sound)

end Sys2Proof

/-! SUPPORT. What a loss of track, a lost time source, STAGE_SET and JOB_CLEAR leave of the receiver, the clock, the cameras and
the jobs (R485, R529, R571). -/

namespace Sys2Proof

open Machine

set_option Elab.async false

/-! ### Tracking channels (R485) -/

@[simp] theorem Machine.State.modNavChan_navChan (s : State) (n : Nat) (f : NavChannel → NavChannel) :
    (s.modNavChan n f).navChan n = f (s.navChan n) :=
  Bank.rd_upd ..

theorem Machine.State.modNavChan_navChan_other (s : State) {k n : Nat} (other : k ≠ n) (f : NavChannel → NavChannel) :
    (s.modNavChan n f).navChan k = s.navChan k :=
  Bank.rd_upd_other _ other ..

@[simp] theorem Machine.State.countN_navChan (s : State) (unit i n k : Nat) : (s.countN unit i n).navChan k = s.navChan k := by
  unfold State.countN
  split <;> rfl

/-- A channel that searches is in ACQ and otherwise as before; no other channel changes. -/
theorem Machine.State.startAcq_navChan (s : State) (n : Nat) :
    (∃ w, (s.startAcq n).navChan n = { s.navChan n with state := .acq, search := some w }) ∧
      ∀ k, k ≠ n → (s.startAcq n).navChan k = s.navChan k :=
  ⟨⟨_, Bank.rd_put ..⟩, fun _ other => Bank.rd_put_other _ other ..⟩

/-- Settles O45. -/
theorem trackLossSearchesAgain : Obligations.TrackLossSearchesAgain := by
  unfold Obligations.TrackLossSearchesAgain
  intro t ch s hch
  refine ⟨fun up track => ?_, fun idle => ?_⟩
  · have holds : whenTrackLoss t ch (s.atTime t) = true := Bool.and_eq_true_iff.mpr ⟨up, beq_iff_eq.mpr track⟩
    have run := (valid_holds (decide_eq_true hch)).trans (event_holds (effect := doneTrackLoss t ch) holds)
    obtain ⟨⟨w, own⟩, others⟩ := (((s.atTime t).modNavChan ch fun c =>
      { c with locks := 0, lockMs := 0, mpSince := none, lowSince := none }).countN uBaseband 18
      (flag !((s.atTime t).navChan ch).faded (s.atTime t).time)).startAcq_navChan ch
    refine ⟨_, w, run, own.trans ?_, fun k other => (others k other).trans ?_⟩
    · rw [State.countN_navChan, State.modNavChan_navChan]; rfl
    · rw [State.countN_navChan, State.modNavChan_navChan_other _ other]; rfl
  · refine (valid_holds (decide_eq_true hch)).trans (event_idle (Bool.and_eq_false_iff.mpr (idle.imp id fun untracked => ?_)))
    exact beq_eq_false_iff_ne.mpr untracked

/-! ### Holdover (R529) -/

theorem Machine.State.setTime_time (s : State) (f : Timekeeper → Timekeeper) : (s.setTime f).nav.time = f s.nav.time := by
  unfold State.setTime
  dsimp only
  split
  · rw [show (State.raise _ _ _ _).nav = _ from (State.raise_moved ..).only.same .nav rfl]; rfl
  · rfl

/-- When HOLDOVER_START has its effect. -/
theorem whenHoldoverStart_iff (t : Nat) (temp : Int) (s : State) : whenHoldoverStart t temp s = true ↔
    (s.unitUp uTime = true ∧ (s.nav.time.source = .gnss ∨ s.nav.time.source = .peer)) ∧
      ∀ l, s.nav.time.lastTime = some l → l + 1000000000 ≤ t := by
  simp only [whenHoldoverStart, Bool.and_eq_true, Bool.or_eq_true, beq_iff_eq, Option.all_eq_true, decide_eq_true_eq]
  rfl

/-- Settles O46. -/
theorem holdoverStarts : Obligations.HoldoverStarts := by
  unfold Obligations.HoldoverStarts
  intro t temp s live old
  have cond : whenHoldoverStart t temp (s.atTime t) = true ↔ live ∧ old := whenHoldoverStart_iff ..
  refine ⟨fun isLive isOld => ?_, fun idle => event_idle (Bool.eq_false_iff.mpr (cond.not.mpr idle))⟩
  refine ⟨_, event_holds (cond.mpr ⟨isLive, isOld⟩), ?_⟩
  have time : (doneHoldoverStart t temp (s.atTime t)).nav.time = _ := State.setTime_time ..
  rw [time]
  exact ⟨rfl, rfl, rfl⟩

/-! ### Stages (R571) -/

@[simp] theorem Machine.State.modCam_cam (s : State) (n : Nat) (f : Camera → Camera) : (s.modCam n f).cam n = f (s.cam n) :=
  Bank.rd_upd ..

theorem Machine.State.modCam_cam_other (s : State) {k n : Nat} (other : k ≠ n) (f : Camera → Camera) :
    (s.modCam n f).cam k = s.cam k :=
  Bank.rd_upd_other _ other ..

@[simp] theorem Machine.answer_cam (o : OpSpec) (unit : Nat) (r : Request) (payload : List Byte) (s : State) (k : Nat) :
    (answer o unit r payload s).cam k = s.cam k := by
  rw [State.cam, show (answer o unit r payload s).vision = s.vision from (answer_moved ..).only.same .vision rfl, State.cam]

/-- Settles O47. -/
theorem stageSetCounts : Obligations.StageSetCounts := by
  unfold Obligations.StageSetCounts
  intro r s taken n
  refine ⟨_, serve_taken taken, ?_⟩
  have own : (doneStageSet r (s.atTime r.time)).cam n = { s.cam n with
      stages := (s.cam n).stages.put (r.u 1 1) { bypass := bit (r.u 2 1) 0, block := r.payload.drop 4 },
      paramSeq := (s.cam n).paramSeq + 1 } :=
    (answer_cam ..).trans (State.modCam_cam ..)
  rw [own]
  refine ⟨rfl, Bank.find_put .., fun k other => Bank.find_put_other _ other _, rfl, fun k other => ?_⟩
  exact (answer_cam ..).trans (State.modCam_cam_other _ other _)

/-! ### Jobs cleared -/

/-- Settles O49. -/
theorem jobsCleared : Obligations.JobsCleared := by
  unfold Obligations.JobsCleared
  refine ⟨fun r s taken => ?_, fun r s hch passed sound number running => ?_⟩
  · refine ⟨_, serve_taken taken, ?_⟩
    have jobs : (doneJobClear r (s.atTime r.time)).infer.jobs = s.infer.jobs.erase (r.u 0 1) := by
      rw [doneJobClear, show (answer opJobClear _ r _ _).infer = _ from (answer_moved ..).only.same .infer rfl]
      rfl
    rw [jobs]
    exact ⟨Bank.find_erase .., fun k other => Bank.find_erase_other _ other⟩
  · refine serve_refused hch passed ?_
    have busy : (decide (r.u 0 1 ≤ 63) && ((s.atTime r.time).job (r.u 0 1)).running) = true :=
      Bool.and_eq_true_iff.mpr ⟨decide_eq_true number, running⟩
    rw [checksJobClear, sound, busy]
    rfl

end Sys2Proof

/-! SUPPORT. What FILTER_SET, the end of a bus-off recovery and ADDRESS_AGEING leave of the CAN controllers and the switch
(R625). -/

namespace Sys2Proof

open Machine

set_option Elab.async false

/-! ### Filters (R625) -/

@[simp] theorem Machine.State.modBus_bus (s : State) (n : Nat) (f : BusController → BusController) :
    (s.modBus n f).bus n = f (s.bus n) :=
  Bank.rd_upd ..

theorem Machine.State.modBus_bus_other (s : State) {k n : Nat} (other : k ≠ n) (f : BusController → BusController) :
    (s.modBus n f).bus k = s.bus k :=
  Bank.rd_upd_other _ other ..

@[simp] theorem Machine.answer_bus (o : OpSpec) (unit : Nat) (r : Request) (payload : List Byte) (s : State) (k : Nat) :
    (answer o unit r payload s).bus k = s.bus k := by
  rw [State.bus, show (answer o unit r payload s).buses = s.buses from (answer_moved ..).only.same .buses rfl, State.bus]

/-- Element `first + i` as FILTER_SET writes it. -/
def writeFilter (r : Request) (first : Nat) (b : Bank FilterElement) (i : Nat) : Bank FilterElement :=
  b.upd (first + i) FilterElement.reset fun e => { bytes := filterAt r i, gen := (e.gen + 1) % 256 }

/-- The elements outside the range written are as before. -/
theorem writeFilters_find_other (r : Request) {first n k : Nat} (b : Bank FilterElement)
    (outside : k < first ∨ first + n ≤ k) :
    ((List.range n).foldl (writeFilter r first) b).find k = b.find k := by
  induction n with
  | zero => rfl
  | succ n ih =>
    rw [List.range_succ, List.foldl_append]
    have apart : k ≠ first + n := by omega
    show (writeFilter r first _ n).find k = _
    rw [writeFilter, Bank.find_upd_other _ apart, ih (by omega)]

/-- Each element written has its generation raised once. -/
theorem writeFilters_gen (r : Request) {first n i : Nat} (b : Bank FilterElement) (inside : i < n) :
    (((List.range n).foldl (writeFilter r first) b).rd (first + i) FilterElement.reset).gen =
      ((b.rd (first + i) FilterElement.reset).gen + 1) % 256 := by
  induction n with
  | zero => omega
  | succ n ih =>
    rw [List.range_succ, List.foldl_append]
    show ((writeFilter r first _ n).rd _ _).gen = _
    by_cases last : i = n
    · subst last
      rw [writeFilter, Bank.rd_upd, Bank.rd, writeFilters_find_other r b (.inr (Nat.le_refl _)), ← Bank.rd]
    · have apart : first + i ≠ first + n := by omega
      rw [writeFilter, Bank.rd_upd_other _ apart, ih (by omega)]

/-- Settles O50. -/
theorem filterGenerationsRise : Obligations.FilterGenerationsRise := by
  unfold Obligations.FilterGenerationsRise
  intro r s taken n gen
  refine ⟨_, serve_taken taken, ?_⟩
  have own : (doneFilterSet r (s.atTime r.time)).bus n = { s.bus n with
      filters := (List.range (r.u 4 2)).foldl (writeFilter r (r.u 2 2)) (s.bus n).filters,
      count := if r.u 6 2 = 0xFFFF then (s.bus n).count else r.u 6 2,
      dflt := if r.u 1 1 = 0xFF then (s.bus n).dflt else r.u 1 1,
      dfltGen := if r.u 1 1 = 0xFF then (s.bus n).dfltGen else ((s.bus n).dfltGen + 1) % 256 } :=
    (answer_bus ..).trans (State.modBus_bus ..)
  dsimp only [gen]
  rw [own]
  refine ⟨fun i inside => writeFilters_gen r _ inside, fun k outside => writeFilters_find_other r _ outside, rfl,
    fun k other => ?_⟩
  exact (answer_bus ..).trans (State.modBus_bus_other _ other _)

/-! ### Bus-off recovery -/

/-- What a frame written for the module's own services leaves of a controller: its state and error counters. -/
def Machine.BusController.counters (b : BusController) : BusState × Nat × Nat := (b.state, b.tec, b.rec_)

theorem Machine.State.modBus_counters (s : State) (n k : Nat) {f : BusController → BusController}
    (keeps : ∀ b, (f b).counters = b.counters) : ((s.modBus n f).bus k).counters = (s.bus k).counters := by
  by_cases same : k = n
  · rw [same, State.modBus_bus, keeps]
  · rw [State.modBus_bus_other _ same]

theorem Machine.State.fillService_counters (s : State) (n k : Nat) :
    ((s.fillService n).bus k).counters = (s.bus k).counters := by
  refine foldl_keeps (fun t : State => (t.bus k).counters) (fun t i => ?_) _ _
  split
  case h_1 =>
    split
    · rw [State.setObject, State.modBus_counters, State.modBus_counters] <;> exact fun _ => rfl
    · rfl
  case h_2 => rfl

theorem Machine.State.contend_counters (s : State) (n k : Nat) : ((s.contend n).bus k).counters = (s.bus k).counters := by
  unfold State.contend
  dsimp only
  split
  · rw [State.modBus_counters, State.fillService_counters]
    exact fun _ => rfl
  · exact State.fillService_counters ..

theorem Machine.State.busTo_bus (s : State) (n cause : Nat) (f : BusController → BusController) :
    (s.busTo n cause f).bus n = f (s.bus n) := by
  unfold State.busTo
  dsimp only
  split
  · rw [State.bus, State.busEvent, show (State.raise _ _ _ _).buses = _ from (State.raise_moved ..).only.same .buses rfl]
    exact State.modBus_bus ..
  · exact State.modBus_bus ..

/-- Settles O51. -/
theorem recoveryRestores : Obligations.RecoveryRestores := by
  unfold Obligations.RecoveryRestores
  intro t mb s hmb
  refine ⟨fun recovering => ?_, fun steady => ?_⟩
  · refine ⟨_, (valid_holds (decide_eq_true hmb)).trans (event_holds (beq_iff_eq.mpr recovering)), ?_⟩
    have counters : ((doneRecoveryComplete t mb (s.atTime t)).bus mb).counters = (.errorActive, 0, 0) := by
      rw [doneRecoveryComplete, State.contend_counters, State.busTo_bus]
      rfl
    rw [BusController.counters, Prod.mk.injEq, Prod.mk.injEq] at counters
    exact counters
  · exact (valid_holds (decide_eq_true hmb)).trans (event_idle (beq_eq_false_iff_ne.mpr steady))

/-! ### Learned addresses -/

/-- Settles O52. -/
theorem addressesAge : Obligations.AddressesAge := by
  unfold Obligations.AddressesAge
  intro t mac s
  have runs : Runs [.time, .eth] (.addressAgeing t mac) s (doneAddressAgeing t mac (s.atTime t)) :=
    Runs.event (cond := fun _ => true) rfl (doneAddressAgeing_moved ..)
  obtain ⟨run, only⟩ := runs
  refine ⟨_, run, only, rfl, fun x => ?_⟩
  show x ∈ s.eth.learned.filter _ ↔ _
  rw [List.mem_filter, Bool.or_eq_true, bne_iff_ne, List.contains_iff_mem, EthSwitch.fresh, List.mem_filter, decide_eq_true_eq]
  exact and_congr_right fun known => or_congr_right (and_iff_right known)

end Sys2Proof

/-! SUPPORT. What FO_CLEAR, FRONT_LIGHT, a failed RAM test and IMAGE_CONFIRM leave of the field outputs, the display, the safety
island and the image classes (R728, R732, R782, R785). -/

namespace Sys2Proof

open Machine

set_option Elab.async false

/-! ### Field outputs -/

@[simp] theorem Machine.State.modFo_fo (s : State) (n : Nat) (f : FieldOut → FieldOut) : (s.modFo n f).fo n = f (s.fo n) :=
  Bank.rd_upd ..

theorem Machine.State.modFo_fo_other (s : State) {k n : Nat} (other : k ≠ n) (f : FieldOut → FieldOut) :
    (s.modFo n f).fo k = s.fo k :=
  Bank.rd_upd_other _ other ..

theorem Machine.State.fo_congr {s t : State} (same : t.fieldIo = s.fieldIo) (k : Nat) : t.fo k = s.fo k := by
  rw [State.fo, same, State.fo]

/-- An output with no latched fault has nothing to clear. -/
theorem FieldOut.cleared_eq {x : FieldOut} (sound : x.fault = 0) : { x with fault := 0 } = x := by
  rw [← sound]

/-- Settles O53. -/
theorem fieldFaultsClear : Obligations.FieldFaultsClear := by
  unfold Obligations.FieldFaultsClear
  refine ⟨fun r s taken => ?_, fun r s hch passed number reserved hot => ?_⟩
  · refine ⟨_, serve_taken taken, ?_⟩
    have clears : ∀ k, (doneFoClear r (s.atTime r.time)).fo k =
        if (s.fo (r.u 0 1)).fault = 0 then s.fo k
        else ((s.atTime r.time).modFo (r.u 0 1) fun x => { x with fault := 0 }).fo k := by
      intro k
      rw [doneFoClear, State.fo_congr ((answer_moved ..).only.same .fieldIo rfl), apply_ite (State.fo · k),
        State.fo_congr ((State.tellFo_moved ..).only.same .fieldIo rfl)]
      rfl
    refine ⟨?_, fun k other => ?_⟩
    · rw [clears, State.modFo_fo]
      split
      case isTrue sound => exact (FieldOut.cleared_eq sound).symm
      case isFalse => rfl
    · rw [clears, State.modFo_fo_other _ other]
      exact ite_self _
  · have isHot : (decide (r.u 0 1 ≤ 15) && ((s.atTime r.time).fo (r.u 0 1)).hot) = true :=
      Bool.and_eq_true_iff.mpr ⟨decide_eq_true number, hot⟩
    have sound : (decide (r.u 0 1 > 15) || !r.zero 1 3) = false := by
      rw [reserved, decide_eq_false (Nat.not_lt.mpr number)]; rfl
    refine ⟨_, serve_refused hch passed ?_, rfl, (refuse_moved ..).only.same .fieldIo rfl⟩
    rw [checksFoClear, isHot, sound]
    rfl

/-! ### The front light (R728, R732) -/

/-- Settles O54. -/
theorem frontLightLevel : Obligations.FrontLightLevel := by
  unfold Obligations.FrontLightLevel
  refine ⟨fun r s taken => ?_, fun r s hch passed level reserved dark => ?_⟩
  · refine ⟨_, serve_taken taken, ?_⟩
    have lit : (doneFrontLight r (s.atTime r.time)).display =
        if s.display.known then s.display.light (r.u 0 2) else { s.display with flHeld := some (r.u 0 2) } :=
      (answer_moved ..).only.same .display rfl
    rw [lit]
    exact ⟨fun known => if_pos known, fun unknown => if_neg (Bool.eq_false_iff.mp unknown)⟩
  · have noLight : s.display.panel.any (·.hasLight) = false := by
      cases fitted : s.display.panel with
      | none => rfl
      | some p => exact dark p fitted
    have inRange : (decide (r.u 0 2 > 1000) || !r.zero 2 2) = false := by
      rw [reserved, decide_eq_false (Nat.not_lt.mpr level)]; rfl
    refine serve_refused hch passed ?_
    rw [checksFrontLight, inRange, show (s.atTime r.time).display = s.display from rfl, noLight]
    rfl

/-! ### SAFE_FAULT (R755) -/

@[simp] theorem Machine.Safety.out_upd (x : Safety) (n : Nat) (f : SafeOut → SafeOut) :
    Safety.out { x with outs := x.outs.upd n SafeOut.reset f } n = f (x.out n) :=
  Bank.rd_upd ..

theorem Machine.Safety.out_upd_other (x : Safety) {k n : Nat} (other : k ≠ n) (f : SafeOut → SafeOut) :
    Safety.out { x with outs := x.outs.upd n SafeOut.reset f } k = x.out k :=
  Bank.rd_upd_other _ other ..

/-- An output switched off is off, any other stays as it is, and nothing else of the island changes but the outputs. -/
theorem Machine.State.safeOff_safety (s : State) (n : Nat) :
    ((s.safeOff n).safety.out n).on = false ∧ (∀ k, k ≠ n → (s.safeOff n).safety.out k = s.safety.out k) ∧
      (s.safeOff n).safety = { s.safety with outs := (s.safeOff n).safety.outs } := by
  unfold State.safeOff
  dsimp only
  split
  case isTrue off => exact ⟨by simpa using off, fun _ _ => rfl, rfl⟩
  case isFalse =>
    split
    all_goals exact ⟨congrArg SafeOut.on (Safety.out_upd ..), fun k other => Safety.out_upd_other _ other _, rfl⟩

/-- The first outputs are off once each of them has been switched off. -/
theorem Machine.State.safeOffs_safety (s : State) (n : Nat) :
    (∀ k < n, (((List.range n).foldl State.safeOff s).safety.out k).on = false) ∧
      ((List.range n).foldl State.safeOff s).safety =
        { s.safety with outs := ((List.range n).foldl State.safeOff s).safety.outs } := by
  induction n with
  | zero => exact ⟨fun _ none => absurd none (Nat.not_lt_zero _), rfl⟩
  | succ n ih =>
    rw [List.range_succ, List.foldl_append, List.foldl_cons, List.foldl_nil]
    obtain ⟨off, rest⟩ := ih
    obtain ⟨own, others, kept⟩ := ((List.range n).foldl State.safeOff s).safeOff_safety n
    refine ⟨fun k inside => ?_, by rw [kept, rest]⟩
    by_cases last : k = n
    · rw [last, own]
    · rw [others k last, off k (by omega)]

/-- The island's record and all the rest of it together are the whole island. -/
theorem Moved.safety_eq {ps : List Part} {s t : State} (moved : Moved ps s t) (apart : ps.contains .safety = false)
    (recordApart : ps.contains .safetyRecord = false) : t.safety = s.safety := by
  have rest : Part.sameSafety s.safety t.safety .safety := moved.only.same .safety apart
  have record : Part.sameSafety s.safety t.safety .safetyRecord := moved.only.same .safetyRecord recordApart
  simp only [Part.sameSafety, Prod.mk.injEq] at record
  obtain ⟨active, staged, validated, key, log, baseHash, head⟩ := record
  rw [Part.sameSafety, ← active, ← staged, ← validated, ← key, ← log, ← baseHash, ← head] at rest
  exact rest

/-- R755: the island is in SAFE_FAULT with its cut-off open and every output off. -/
theorem Machine.State.safeFault_safety (s : State) (code index cause : Nat) :
    (s.safeFault code index cause).safety.state = .safeFault ∧ (s.safeFault code index cause).safety.fault = code ∧
      (s.safeFault code index cause).safety.cutOpen = true ∧
      ∀ n < 4, ((s.safeFault code index cause).safety.out n).on = false := by
  have opened : (s.safeFault code index cause).safety =
      ((s.modSafety fun x => { x with state := .safeFault, fault := code }).openCut).safety :=
    ((State.askHold_moved ..).safety_eq rfl rfl).trans ((State.tellSafeFault_moved ..).safety_eq rfl rfl)
  rw [opened]
  unfold State.openCut
  split
  case isTrue wasOpen =>
    obtain ⟨off, kept⟩ := State.safeOffs_safety (s.modSafety fun x => { x with state := .safeFault, fault := code }) 4
    exact ⟨congrArg Safety.state kept, congrArg Safety.fault kept, (congrArg Safety.cutOpen kept).trans wasOpen, off⟩
  case isFalse =>
    obtain ⟨off, kept⟩ := State.safeOffs_safety (((s.modSafety fun x => { x with state := .safeFault, fault := code
      }).modSafety fun x => { x with cutOpen := true }).count uSafeOut 19) 4
    exact ⟨congrArg Safety.state kept, congrArg Safety.fault kept, congrArg Safety.cutOpen kept, off⟩

/-- Settles O55. -/
theorem failedMarchIsSafeFault : Obligations.FailedMarchIsSafeFault := by
  unfold Obligations.FailedMarchIsSafeFault
  intro t s
  refine ⟨fun runs => ?_, fun stopped => ?_, ?_⟩
  · exact ⟨_, event_holds (Bool.and_eq_true_iff.mpr ⟨runs, rfl⟩), State.safeFault_safety ..⟩
  · exact event_idle (Bool.and_eq_false_iff.mpr (.inl stopped))
  · exact event_idle (Bool.and_eq_false_iff.mpr (.inr rfl))

/-! ### Image classes (R782, R785) -/

@[simp] theorem Machine.State.modCls_cls (s : State) (c : Nat) (f : ImageClass → ImageClass) :
    (s.modCls c f).cls c = f (s.cls c) :=
  Bank.rd_upd ..

theorem Machine.State.modCls_cls_other (s : State) {k c : Nat} (other : k ≠ c) (f : ImageClass → ImageClass) :
    (s.modCls c f).cls k = s.cls k :=
  Bank.rd_upd_other _ other ..

/-- The slot of a class given a new state has it; its other slot and its counter stay. -/
theorem Machine.ImageClass.setState_slot (x : ImageClass) (i : Nat) (st : SlotState) :
    ((x.setState i st).slot i).state = st ∧ (x.setState i st).slot (1 - i) = x.slot (1 - i) ∧
      (x.setState i st).counter = x.counter := by
  unfold ImageClass.setState ImageClass.modSlot ImageClass.slot
  by_cases first : i = 0
  · subst first
    exact ⟨rfl, rfl, rfl⟩
  · rw [if_neg first, if_neg first, if_pos (by omega), if_pos (by omega)]
    exact ⟨rfl, rfl, rfl⟩

/-- Settles O56. -/
theorem confirmRaisesCounter : Obligations.ConfirmRaisesCounter := by
  unfold Obligations.ConfirmRaisesCounter
  intro r s taken c x y
  refine ⟨_, serve_taken taken, ?_⟩
  let active := (s.atTime r.time).modCls c fun x => { x.setState x.current .active with trialStart := 0 }
  have update : (doneImageConfirm r (s.atTime r.time)).update = (active.fuse c y).update :=
    (answer_moved ..).only.same .update rfl
  have classes : ∀ k, (doneImageConfirm r (s.atTime r.time)).cls k = (active.modCls c fun z =>
      { z with counter := max z.counter y.svn }).cls k := fun k => congrArg (·.classes.rd k ImageClass.reset) update
  obtain ⟨state, other, counter⟩ := x.setState_slot x.current .active
  rw [classes, State.modCls_cls, State.modCls_cls]
  refine ⟨state, other, congrArg (max · y.svn) counter, congrArg Update.revoked update, fun k other => ?_⟩
  rw [classes, State.modCls_cls_other _ other, State.modCls_cls_other _ other]
  rfl

end Sys2Proof

/-! SUPPORT. The content of placements (R252): a promotion window's reclaim, moves and reports leave every byte, and an access
changes only the bytes it stores. -/

namespace Sys2Proof

open Machine

set_option Elab.async false

/-! ### Content by handle -/

/-- What a placement holds, as its readers see it. -/
def Machine.State.content (s : State) (h : Nat) : Option Memory := (s.placement h).map (·.mem)

theorem Machine.State.readPlace_content (s : State) (h off n : Nat) :
    s.readPlace h off n = ((s.content h).getD Memory.empty).reads off n := by
  unfold State.readPlace State.content
  cases s.placement h with
  | none => exact (Memory.empty_reads off n).symm
  | some p => rfl

theorem Machine.State.content_congr {s t : State} (same : t.place = s.place) : t.content = s.content := by
  funext k
  rw [State.content, State.placement, same, State.content, State.placement]

/-- A change of a placement other than of its content leaves the content of every placement. -/
theorem Machine.State.modPlacement_content (s : State) (h : Nat) {f : Placement → Placement}
    (keeps : ∀ p, (f p).mem = p.mem) :
    (s.modPlacement h f).content = s.content := by
  funext k
  unfold State.modPlacement State.content
  split
  case h_2 => rfl
  case h_1 p found =>
    by_cases same : k = h
    · rw [same, found]
      exact (congrArg _ (Bank.find_put ..)).trans (congrArg some (keeps p))
    · exact congrArg _ (Bank.find_put_other _ same _)

/-- The placement of a handle, once changed. -/
theorem Machine.State.modPlacement_placement (s : State) {h : Nat} {p : Placement} (found : s.placement h = some p)
    (f : Placement → Placement) : (s.modPlacement h f).placement h = some (f p) := by
  rw [State.modPlacement, found]
  exact Bank.find_put ..

theorem Machine.State.modPlacement_content_other (s : State) {h k : Nat} (other : k ≠ h) (f : Placement → Placement) :
    (s.modPlacement h f).content k = s.content k := by
  unfold State.modPlacement State.content
  split
  · exact congrArg _ (Bank.find_put_other _ other _)
  · rfl

/-! ### Reclaim, moves and reports leave the content (R244, R246, R258) -/

@[simp] theorem Machine.State.finishSyncs_content (s : State) (h : Nat) : (s.finishSyncs h).content = s.content := by
  unfold State.finishSyncs
  split
  case h_1 =>
    refine (foldl_keeps State.content (fun t y => ?_) _ _).trans (s.modPlacement_content h fun _ => rfl)
    exact State.content_congr ((State.complete_moved t ..).place_eq rfl)
  case h_2 => rfl

@[simp] theorem Machine.State.startUnit_content (s : State) (h off n : Nat) : (s.startUnit h off n).content = s.content := by
  rw [State.startUnit, State.modPlacement_content]
  · exact State.content_congr ((State.newRecord_moved s ..).place_eq rfl)
  · exact fun _ => rfl

@[simp] theorem Machine.State.wroteBack_content (s : State) (h : Nat) (w : WriteBack) :
    (s.wroteBack h w).content = s.content := by
  rw [State.wroteBack, State.finishSyncs_content, State.content_congr (State.setRecord_place ..), State.modPlacement_content]
  exact fun _ => rfl

@[simp] theorem Machine.State.finishUnits_content (s : State) (h : Nat) : (s.finishUnits h).content = s.content := by
  unfold State.finishUnits
  split
  case h_1 => exact foldl_keeps State.content (fun t w => t.wroteBack_content h w) _ s
  case h_2 => rfl

@[simp] theorem Machine.State.cleanChunk_content (s : State) (h c : Nat) : (s.cleanChunk h c).content = s.content := by
  unfold State.cleanChunk
  split
  case isTrue => simp
  case isFalse => rfl

@[simp] theorem Machine.State.dropCopy_content (s : State) (h c : Nat) : (s.dropCopy h c).content = s.content := by
  rw [State.dropCopy, State.modPlacement_content, State.cleanChunk_content]
  exact fun _ => rfl

theorem Machine.State.dropCopies_content {α : Type} (s : State) (h : Nat) (l : List (Nat × α)) :
    (l.foldl (fun (t : State) e => t.dropCopy h e.1) s).content = s.content := by
  induction l generalizing s with
  | nil => rfl
  | cons e l ih => rw [List.foldl_cons, ih, State.dropCopy_content]

@[simp] theorem Machine.State.startMoves_content (s : State) (h t : Nat) (cs : List Nat) :
    (s.startMoves h t cs).content = s.content :=
  rfl

@[simp] theorem Machine.State.completePins_content (s : State) (h : Nat) : (s.completePins h).content = s.content := by
  unfold State.completePins
  split
  case h_1 =>
    refine (foldl_keeps State.content (fun t y => ?_) _ _).trans (s.modPlacement_content h fun _ => rfl)
    exact State.content_congr ((State.complete_moved t ..).place_eq rfl)
  case h_2 => rfl

@[simp] theorem Machine.State.settlePin_content (s : State) (h : Nat) : (s.settlePin h).content = s.content := by
  unfold State.settlePin
  split
  case h_2 => rfl
  case h_1 p found =>
    dsimp only
    rw [apply_ite State.content, State.completePins_content, ite_self, apply_ite State.content, apply_ite State.content,
      State.dropCopies_content, State.startMoves_content, ite_self, ite_self]

@[simp] theorem Machine.State.trimShadows_content (fuel : Nat) (s : State) :
    (State.trimShadows fuel s).content = s.content := by
  induction fuel generalizing s with
  | zero => rfl
  | succ fuel ih =>
    unfold State.trimShadows
    split
    case isTrue => rfl
    case isFalse =>
      split
      case h_1 => rw [ih, State.shadowed, State.modPlacement_content]; exact fun _ => rfl
      case h_2 => rfl

@[simp] theorem Machine.State.promote_content (s : State) (h : Nat) : (s.promote h).content = s.content := by
  unfold State.promote
  split
  case h_2 => rfl
  case h_1 p found =>
    split
    case isTrue => rfl
    case isFalse =>
      refine (foldl_keeps State.content (fun t e => ?_) _ _).trans (s.dropCopies_content h _)
      split
      · exact State.startMoves_content ..
      · rfl

@[simp] theorem Machine.State.pressures_content (s : State) : s.pressures.content = s.content := by
  obtain ⟨_, place⟩ := s.pressures_place
  funext k
  rw [State.content, State.placement, place, State.content, State.placement]

/-- The histories of the chunks are no content. -/
theorem Machine.State.window_content (s : State) (t : Nat) :
    (s.modPlace fun q => { q with places := q.places.mapAll fun _ p => p.window t }).content = s.content := by
  funext k
  show ((s.place.places.mapAll _).find k).map _ = (s.place.places.find k).map _
  rw [Bank.find_mapAll, Option.map_map]
  rfl

/-- A promotion window leaves the content that its accesses leave. -/
theorem donePromotionWindow_content (t : Nat) (accesses : List Access) (s : State) :
    (donePromotionWindow t accesses s).content = (accesses.foldl State.access s).content := by
  rw [donePromotionWindow]
  split
  · exact State.window_content ..
  · rw [State.pressures_content, foldl_keeps State.content fun t h => t.promote_content h]
    exact State.window_content ..

/-! ### An access (R252, R259) -/

/-- A write to a placement changes its content alone. -/
theorem Machine.State.writePlace_content (s : State) {h off : Nat} {p : Placement} (bytes : List Byte)
    (found : s.placement h = some p) : (s.writePlace h off bytes).content h = some (p.mem.writes off bytes) ∧
      ∀ k, k ≠ h → (s.writePlace h off bytes).content k = s.content k := by
  have noted : (s.noteCells h off bytes).place = s.place := by
    unfold State.noteCells
    dsimp only
    split <;> rfl
  have stands : (s.noteCells h off bytes).placement h = some p := by rw [State.placement, noted]; exact found
  rw [State.writePlace, State.trimShadows_content]
  refine ⟨?_, fun k other => ?_⟩
  · rw [State.content, State.modPlacement_placement _ stands, Option.map_some, Placement.fetched, Placement.soil]
    split <;> rfl
  · rw [State.modPlacement_content_other _ other, State.content_congr noted]

/-- An access within its placement leaves the content that its write leaves. -/
theorem Machine.State.access_content {s : State} {a : Access} {p : Placement} (found : s.placement a.handle = some p)
    (within : a.offset + max 1 a.data.length ≤ p.size) :
    (s.access a).content = (if a.data = [] then s else s.writePlace a.handle a.offset a.data).content := by
  unfold State.access
  rw [found]
  dsimp only
  rw [if_pos within, State.modPlacement_content, State.settlePin_content, State.modPlacement_content]
  all_goals exact fun _ => rfl

/-- After an access its placement holds the bytes stored, and every other placement what it held. -/
theorem Machine.State.access_writes {s : State} {a : Access} {p : Placement} (found : s.placement a.handle = some p)
    (within : a.offset + max 1 a.data.length ≤ p.size) :
    (s.access a).content a.handle = some (p.mem.writes a.offset a.data) ∧
      ∀ k, k ≠ a.handle → (s.access a).content k = s.content k := by
  rw [State.access_content found within]
  split
  case isTrue empty =>
    rw [empty, State.content, found]
    exact ⟨rfl, fun _ _ => rfl⟩
  case isFalse => exact s.writePlace_content a.data found

/-- Settles O38. -/
theorem accessStoresItsBytes : Obligations.AccessStoresItsBytes := by
  unfold Obligations.AccessStoresItsBytes
  intro t a p s sound found within
  refine ⟨_, event_holds (cond := fun _ => true) rfl, ?_⟩
  obtain ⟨own, others⟩ := State.access_writes (s := s.atTime t) found within
  have content : (donePromotionWindow t [a] (s.atTime t)).content = ((s.atTime t).access a).content :=
    donePromotionWindow_content ..
  have before : s.content a.handle = some p.mem := by rw [State.content, found]; rfl
  obtain ⟨e, listed, rfl⟩ := Bank.mem_of_find found
  refine ⟨?_, fun h off apart => ?_⟩
  · rw [State.readPlace_content, content, own]
    exact Memory.reads_writes (sound e listed).1 ..
  · rw [State.readPlace_content, content, State.readPlace_content]
    by_cases same : h = a.handle
    · rw [same, own, before]
      have outside : off < a.offset ∨ a.offset + a.data.length ≤ off := apart.resolve_left (not_not_intro same)
      exact congrArg (fun b => [b]) (Memory.read_writes_other e.2.mem a.data outside)
    · rw [others h same]
      rfl

end Sys2Proof

/-! SUPPORT. Credits returned by a consumer of the module (R283, R285). -/

namespace Sys2Proof

open Machine

set_option Elab.async false

@[simp] theorem Machine.State.setStream_stream (s : State) (no : Nat) (x : Stream) : (s.setStream no x).stream no = some x :=
  Bank.find_put ..

/-- A flit sent or queued raises no count of credit overflows. -/
@[simp] theorem Machine.Link.send_creditOvf (l : Link) (f : LinkFlit) : (l.send f).creditOvf = l.creditOvf := by
  unfold Link.send
  split
  case isTrue => split <;> rfl
  case isFalse => rfl

/-- Credits sent to a producer on the other module leave the streams and the count of overflows. -/
theorem Machine.State.sendCredits_fabric (s : State) (no idx n : Nat) :
    (s.sendCredits no idx n).fabric.streams = s.fabric.streams ∧
      (s.sendCredits no idx n).fabric.link.creditOvf = s.fabric.link.creditOvf := by
  unfold State.sendCredits
  split
  case h_1 =>
    split
    · exact ⟨rfl, Link.send_creditOvf ..⟩
    · exact ⟨rfl, rfl⟩
  case h_2 => exact ⟨rfl, rfl⟩

/-- A consumer whose producer port holds at most so many credits for it (R285). -/
def Machine.Consumer.clamped (c : Consumer) (credits : Nat) : Consumer := { c with credits := min credits c.credits }

/-- R285: a change of a consumer leaves it at most CREDITS and every other consumer as it was; what lies beyond counts once. -/
theorem Machine.State.modConsumer_clamps {s : State} {no idx : Nat} {x : Stream} {c : Consumer} (stands : s.stream no = some x)
    (listed : x.consumers.find idx = some c) (f : Nat → Consumer → Consumer) :
    (s.modConsumer no idx f).stream no = some { x with
        consumers := x.consumers.put idx ((f x.credits c).clamped x.credits) } ∧
      (s.modConsumer no idx f).fabric.link.creditOvf =
        s.fabric.link.creditOvf + (if x.credits < (f x.credits c).credits then 1 else 0) := by
  have both : ((s.stream no).bind fun x => (x.consumers.find idx).map fun c => (x, c)) = some (x, c) := by
    rw [stands, Option.bind_some, listed, Option.map_some]
  unfold State.modConsumer
  rw [both]
  dsimp only
  obtain ⟨streams, overflows⟩ := State.sendCredits_fabric _ no idx _
  rw [State.stream, streams, overflows]
  refine ⟨State.setStream_stream .., ?_⟩
  split
  · rfl
  · exact (BitVec.add_zero _).symm

/-- Settles O39. -/
theorem creditsClamped : Obligations.CreditsClamped := by
  unfold Obligations.CreditsClamped
  intro t no idx x c s stands listed freed present
  have holds : whenCreditReturn t no idx (s.atTime t) = true := by
    have here : (s.atTime t).stream no = some x := stands
    simp only [whenCreditReturn, here, Option.bind_some, listed, Option.any_some, present, Option.isNone_none, Bool.and_true]
    exact bne_iff_ne.mpr freed
  obtain ⟨clamped, overflows⟩ := State.modConsumer_clamps (s := s.atTime t) stands listed fun _ c => c.giveBack
  refine ⟨_, _, event_holds holds, clamped, Bank.find_put .., fun k other => Bank.find_put_other _ other _, overflows⟩

end Sys2Proof
